-- ==== Sys2Proof/Word.lean ====
section
/-! DEFINITION. The word types of the part, and the plainest arithmetic over bit fields. -/

namespace Sys2Proof

/-- One byte of memory. -/
abbrev Byte := BitVec 8

/-- One register word: every register of the part is 64 bits (R13). -/
abbrev W64 := BitVec 64

/-- The data of one grain: 256 bytes, byte i at bits 8i+7..8i (R18, R127). -/
abbrev Grain := BitVec 2048

/-- A context record: 512 bytes, byte i at bits 8i+7..8i (R240). -/
abbrev CtxRec := BitVec 4096

/-- The field of n from bit lo, wid bits wide. -/
def bitsOf (n lo wid : Nat) : Nat := (n >>> lo) % 2 ^ wid

/-- One bit of n. -/
def bitOf (n i : Nat) : Bool := n.testBit i

/-- 1 for true, 0 for false. -/
def b2n (b : Bool) : Nat := if b then 1 else 0

/-- n with the field from bit lo, wid bits wide, replaced by x (x taken modulo the field). -/
def setBitsOf (n lo wid x : Nat) : Nat :=
  n - bitsOf n lo wid * 2 ^ lo + (x % 2 ^ wid) * 2 ^ lo

/-- Two's complement reading of the low wid bits of n. -/
def signedOf (n wid : Nat) : Int :=
  let x := n % 2 ^ wid
  if 2 * x < 2 ^ wid then (x : Int) else (x : Int) - (2 ^ wid : Nat)

/-- The low wid bits of an integer in two's complement. -/
def unsignedOf (z : Int) (wid : Nat) : Nat := (z % ((2 ^ wid : Nat) : Int)).toNat

/-- The sum of two counts, held at the top of a field wid bits wide (saturating). -/
def satAdd (wid a b : Nat) : Nat := min (a + b) (2 ^ wid - 1)

/-- A string of bytes as plain data: its length, and its bytes as a little-endian number
(byte i is val / 256^i mod 256). -/
structure Blob where
  len : Nat
  val : Nat
  deriving DecidableEq, Repr

/-- The empty string of bytes. -/
def Blob.empty : Blob := ⟨0, 0⟩

/-- Byte i of a string of bytes. -/
def Blob.byte (b : Blob) (i : Nat) : Nat := bitsOf b.val (8 * i) 8

/-- A little-endian field of wid bytes at byte i. -/
def Blob.le (b : Blob) (i wid : Nat) : Nat := bitsOf b.val (8 * i) (8 * wid)

/-- n bytes of b from byte i, as a string of bytes of their own. -/
def Blob.slice (b : Blob) (i n : Nat) : Blob := ⟨n, bitsOf b.val (8 * i) (8 * n)⟩

/-- b followed by c. -/
def Blob.append (b c : Blob) : Blob :=
  ⟨b.len + c.len, b.val % 2 ^ (8 * b.len) + (c.val % 2 ^ (8 * c.len)) * 2 ^ (8 * b.len)⟩

/-- The bytes of b from byte i on, n of them, as a list of numbers. -/
def Blob.bytesFrom (b : Blob) (i : Nat) : Nat → List Nat
  | 0 => []
  | n + 1 => b.byte i :: b.bytesFrom (i + 1) n

/-- All bytes of b. -/
def Blob.bytes (b : Blob) : List Nat := b.bytesFrom 0 b.len

/-- A list of bytes as a string of bytes. -/
def Blob.ofBytes : List Nat → Blob
  | [] => Blob.empty
  | x :: xs => let r := Blob.ofBytes xs; ⟨r.len + 1, x % 256 + 256 * r.val⟩

end Sys2Proof
end

