-- ==== Sys2Proof/Syntax.lean ====
section
/-! DEFINITION. The commands of the part: one constructor for each row of the opcode table, in the table's order,
with the operands the row needs. A command is an event at a pin, a port or a die, a write or read of a register, or
an operation that firmware, the host or the fabric performs. -/

namespace Sys2Proof

/-- A die, indexed as in R53. -/
abbrev Die := Fin 100
/-- The thermal sensors of a die (R53). -/
def sensorsOf (d : Nat) : Nat := if d < 32 then 9 else if d < 56 then 6 else if d < 72 then 4 else 2

/-- A port die (R21). -/
abbrev PDie := Fin 32
/-- A lathe die (R21). -/
abbrev LDie := Fin 24
/-- A bench die (R21). -/
abbrev BDie := Fin 16
/-- A physical lane of a port die: 0 to 31 in service, 32 and 33 spares A and B (R25). -/
abbrev Lane := Fin 34
/-- A port, numbered by its first lane: 32 d + l (R23). -/
abbrev Port := Fin 1024
/-- A physical lathe: 5 d + p for lathe p of lathe die d (R3, R21). -/
abbrev Lathe := Fin 120
/-- A switched domain (R46). -/
abbrev Dom := Fin 536
/-- A traffic class, TC0 to TC7. -/
abbrev Tc := Fin 8
/-- A context. -/
abbrev Ctx := Fin 16384
/-- A supervisor, and the PCIe function it carries: 0 West, 1 East. -/
abbrev Sv := Fin 2
/-- A job identifier. -/
abbrev Job := Fin 65536
/-- A partition. -/
abbrev Part := Fin 16
/-- A requester identifier of a pool manager (R144). -/
abbrev Req := Fin 2048

/-- Who writes a register: firmware of supervisor sv with the term it carries (or none), or the host through
function fn (R364, R338). -/
inductive Writer where
  | fw (sv : Sv) (term : Option Nat)
  | host (fn : Sv)
  deriving DecidableEq, Repr

/-- How a PERST-class reset arrives (R352). -/
inductive PerstKind where
  | pin | hotReset
  deriving DecidableEq, Repr

/-- Why an engine reset of a lathe or quad starts (R379, R387): the part itself, or firmware. -/
inductive ResetCause where
  | part
  | fw (w : Writer)
  deriving DecidableEq, Repr

/-- Why a lane fails (R112). -/
inductive LaneFailCause where
  | lossOfSignal | codewords | frames | synth | fault
  deriving DecidableEq, Repr

/-- A capability word as its fields (R103), each lane by the sender's numbering; reversed: the sender's lanes face the receiver's in reverse
order. -/
structure CapWord where
  version : Nat
  width : Nat
  rate100 : Bool
  fecBypass : Bool
  lanes : Nat
  window : Nat
  credits : List Nat
  identity : Nat
  spareA : Option Nat
  spareB : Option Nat
  reversed : Bool
  deriving DecidableEq, Repr

/-- A capability word as it arrives (R99, R103): the word, and what the negotiation measured with it: the delay of the channel in
picoseconds, and of each lane the bit errors and the bits. -/
structure CapHeard where
  word : CapWord
  delayPs : Nat
  bitErrors : List (Nat × Nat)
  deriving DecidableEq, Repr

/-- The lanes of a port that have lost their signal, and those that have lost their lock, as masks of port lanes (R108). -/
structure LaneLoss where
  port : Port
  signal : Fin 256
  lock : Fin 256
  deriving DecidableEq, Repr

/-- The rate that a peer asks for, and whether it asks for FEC (R115). -/
structure LinkMode where
  rate100 : Bool
  fec : Bool
  deriving DecidableEq, Repr

/-- What a link frame's checks find (R105): nothing; an uncorrectable codeword on a port lane; or a bad CRC of the frame. -/
inductive FrameErr where
  | none
  | codeword (lane : Fin 8)
  | crc
  deriving DecidableEq, Repr

/-- The checks of a link frame (R105, R120): what they find, and how many codewords FEC corrected on which port lanes. -/
structure FrameCheck where
  err : FrameErr
  corrected : List (Fin 8 × Nat)
  deriving DecidableEq, Repr

/-- What a spindle transfer asks of the die it reaches (R331). -/
inductive XferOp where
  | read (tier : Nat) (addr : Nat) (len : Nat)
  | write (tier : Nat) (addr : Nat) (data : Blob)
  | ctxWrite (ctx : Nat) (off : Nat) (data : Blob)
  | upgroup (group : Nat) (ports : List Nat)
  | neighbour (port : Nat) (index : Nat) (entry : Nat)
  | mac (port : Nat) (address : Nat)
  | pin (job : Nat) (rank : Nat)
  | other
  deriving DecidableEq, Repr

/-- A bridge that a transfer crosses: the ticks that it waits there, and how often it is retried after a detected error (R178). -/
structure Hop where
  bridge : Nat
  wait : Nat
  retries : Nat
  deriving DecidableEq, Repr

/-- A transfer on the spindle, as it reaches a die (R30, R331, R94): with its class (0 for lathe and bench transfers), the input of the
issuing die that asks for it, the circuit whose grain it is, and the bridges that it crosses (R174). -/
structure Xfer where
  part : Nat
  sys : Bool
  src : Nat
  kind : Nat
  unit : Nat
  carried : Nat
  op : XferOp
  tc : Nat
  input : Nat
  circuit : Option Nat
  hops : List Hop
  deriving DecidableEq, Repr

/-- A packet as the link frame carries it: a data header, or a control header and its 48 payload bytes, each as one
big-endian number (R121 to R123). -/
inductive RawPacket where
  | data (hdr : BitVec 256)
  | ctl (hdr : BitVec 128) (payload : BitVec 384)
  deriving DecidableEq, Repr

/-- A PTP message as it stands at a port (R88): the payload of a TC7 control packet, the grain of a one-grain TC6 data packet with its grain
tag, an 802.3 frame; or a message that firmware sends. The command carries the packet's header beside it (of a control packet its low 128
bits), and whether the frame's check holds. -/
inductive PtpForm where
  | ctl (payload : BitVec 384)
  | data (tag : BitVec 128) (grain : Grain)
  | ether (frame : Blob)
  | sent (message : Blob)
  deriving DecidableEq, Repr

/-- A residue mismatch within an execution (R319): none; one that recomputation clears, in the lane arithmetic or in an
accumulator or converter; one that persists or stands in a stored residue. -/
inductive Residue where
  | none | lane | acc | burred
  deriving DecidableEq, Repr

/-- A grain or repeat that a lathe has completed, and what the checkers found in it (R207, R319). -/
structure GrainDone where
  lathe : Lathe
  residue : Residue
  deriving DecidableEq, Repr

/-- What a scrub of a stored word finds (R375, R384): nothing; a correctable error; an uncorrectable one in data of a tier, a grain
or a window page; or one in control state: a packet descriptor, grain metadata, the state of a queue, a context record or
directory entry, a job record. -/
inductive ScrubHit where
  | clean
  | corrected (syndrome : Nat)
  | data (syndrome : Nat)
  | window (ctx win off syndrome : Nat)
  | area (ctx reg syndrome : Nat)
  | descriptor (uid syndrome : Nat)
  | grainMeta (ptr syndrome : Nat)
  | queueState (queue syndrome : Nat)
  | context (ctx : Nat) (readable : Bool) (syndrome : Nat)
  | jobRecord (job syndrome : Nat)
  deriving DecidableEq, Repr

/-- What the spill engine works on (R157, R158): an egress queue, or the contributions that wait for a context. -/
inductive SpillOf where
  | queue (q : Fin 8192)
  | ctx (c : Ctx)
  deriving DecidableEq, Repr

/-- Why a DMA read fails (R343). -/
inductive DmaFail where
  | timeout | ur | ca | poison
  deriving DecidableEq, Repr

/-- The console line in the stop bit (R354): high at ticks 7 to 9; high at 7 and 8 and low at 9; high at 7 and low at 8 and 9; low with
no high; low for a whole frame time and more. -/
inductive StopLine where
  | high | edgeAt9 | edgeAt8 | low | breakLow
  deriving DecidableEq, Repr

/-- The commands of the part: the rows of the opcode table. A write of the Command register of a function is bmeClear with the bits
it writes; a change of the link's state is pcieLinkDown, with the speed and width at which it has trained, if it has. A loss of signal names the port lanes that lost their signal and those that lost lock, as masks; a capability word
comes with the measured one-way delay and, for each port lane, the bit errors and bits of the last 10 ms; a link frame with the codewords
that the FEC corrected on each port lane; a spindle transfer with those that wait for the same die. EXTEST names what the driven lands program into boot-flash copy A or B, if anything. -/
inductive Instr where
  | coldRstNRelease
  | coldRstNAssert (widthNs : Nat)
  | perstAssert (fn : Sv) (kind : PerstKind) (widthNs : Nat)
  | functionLevelReset (fn : Sv)
  | vinPkgLow (mv : Nat)
  | vinPkgRecover (mv : Nat)
  | vinPkgDip (mv : Nat) (ns : Nat)
  | vinPkgHigh (mv : Nat) (ns : Nat)
  | powerFault (mv : Nat) (ns : Nat)
  | vaux1v8Drop (mv : Nat) (ns : Nat) (removed : Bool)
  | referenceLost
  | referenceRecovered
  | timebaseSourceFail
  | thermalSample (readings : List (Die × List (Option Int)))
  | limitVoltageStep (die : Die)
  | dutyStep (die : LDie)
  | thermalTrip (die : Die)
  | tripHoldEnd
  | turnBoundary
  | internalAlignmentDone
  | skewMeasure (offsets : List (Die × Int))
  | heartbeatMiss (die : Die) (missed : Nat)
  | dieFailed (die : Die)
  | tbFreqWrite (w : Writer) (value : W64)
  | tbStepWrite (w : Writer) (value : W64)
  | tbPtpCtlWrite (w : Writer) (value : W64)
  | ptpMessage (port : Port) (form : PtpForm) (hdr : BitVec 256) (fcsOk : Bool)
  | imageDmaLoad (imageLen : Nat) (data : Blob)
  | check (w : Writer)
  | checkComplete
  | arm (w : Writer) (target : Nat)
  | cancel (w : Writer)
  | discard (w : Writer)
  | stagingReady (die : Die)
  | commit (sv : Sv) (term : Nat)
  | retireReport (die : Die)
  | retireTimeout
  | pdWrite (w : Writer) (n : Dom) (value : W64)
  | wakeGroupStart
  | domainWakeReady (n : Dom) (selfTest : Bool)
  | wakeTimeout (n : Dom)
  | domainDrainComplete (n : Dom)
  | lossOfSignal (loss : LaneLoss)
  | signalDetect (port : Port)
  | trainingComplete (port : Port) (rate100 : Bool)
  | warmTrainingTimeout (port : Port)
  | trainingBackoffExpiry (port : Port)
  | capabilityWord (port : Port) (heard : CapHeard)
  | capabilityResendTimeout (port : Port)
  | linkFrameReceive (port : Port) (number : Nat) (check : FrameCheck)
  | ackReceive (port : Port) (number : Nat)
  | nakReceive (port : Port) (lastGood : Nat)
  | creditReturn (port : Port) (tc : Tc) (grains : Nat)
  | retrainLimitExpiry (port : Port)
  | pcsAlignmentLoss (port : Port) (ns : Nat)
  | holddownExpiry (port : Port)
  | faultRetryExpiry (port : Port)
  | laneFail (die : PDie) (lane : Lane) (cause : LaneFailCause)
  | peerChangeRequest (port : Port) (width : Nat) (mode : LinkMode) (lanes : Nat)
  | spareTrainingDone (die : PDie) (spareB : Bool) (ok : Bool)
  | synthLock (die : PDie) (lane : Lane)
  | synthLockTimeout (die : PDie) (lane : Lane)
  | txEnable (w : Writer) (die : PDie) (lane : Lane)
  | txIdle (w : Writer) (die : PDie) (lane : Lane)
  | prbs31 (w : Writer) (die : PDie) (lane : Lane)
  | relock (w : Writer) (die : PDie) (lane : Lane)
  | retrain (w : Writer) (port : Port)
  | uprate (w : Writer) (port : Port)
  | restoreWidth (w : Writer) (port : Port)
  | portRestart (w : Writer) (port : Port)
  | adminDownWrite (w : Writer) (port : Port) (down : Bool)
  | take (w : Writer) (die : PDie) (lane : Fin 32) (spareB : Bool)
  | spareRelease (w : Writer) (die : PDie) (spareB : Bool)
  | packetIngress (port : Port) (frameTc : Tc) (frameGrains : Fin 64) (raw : RawPacket)
  | rankLookupReturn (port : Port) (tc : Tc) (burred : Bool)
  | grainIngress (port : Port) (tc : Tc) (tag : BitVec 128) (data : Grain) (last : Bool)
  | ethernetFrameIngress (port : Port) (etherType : Nat) (fcsOk : Bool) (frame : Blob)
  | egressSchedule (port : Port)
  | tc7Insertion (port : Port)
  | gateEntryAdvance (port : Port)
  | reorderArrival (port : Port) (tc : Fin 5)
  | reorderTimeout (port : Port) (slot : Nat)
  | reorderSlotFree (port : Port) (slot : Nat)
  | spindleTransferReceive (die : Die) (waiting : List Xfer)
  | grainAlloc (die : BDie) (req : Req) (epoch : Nat) (count : Nat)
  | allocWaitGranted (lathe : Lathe)
  | grainReturn (die : BDie) (req : Req) (epoch : Nat) (pointer : Nat)
  | poolLevelSum
  | reclaim (w : Writer) (die : BDie) (req : Req)
  | reclaimComplete (die : BDie) (req : Req)
  | retrainAgeScan (port : Port)
  | spillWrite (what : SpillOf)
  | spillReadback (what : SpillOf)
  | archiveSegmentCopy (die : BDie)
  | policerProfileWrite (w : Writer) (die : PDie) (k : Fin 64) (isB : Bool) (value : W64)
  | policerBindWrite (w : Writer) (die : PDie) (entry : Fin 2048) (value : W64)
  | bundleExecute (lathe : Lathe) (residue : Residue)
  | grainBoundary (done : GrainDone)
  | arrivalNotice (ctx : Ctx)
  | windowOperandArrive (ctx : Ctx)
  | watchdogBite (lathe : Lathe)
  | pipelineDrainTimeout (lathe : Lathe)
  | pacedReleaseTick (ctx : Ctx)
  | ltSlotWrite (w : Writer) (lathe : Lathe) (slot : Fin 16) (value : W64)
  | evict (w : Writer) (lathe : Lathe) (ctx : Ctx)
  | reside (w : Writer) (lathe : Lathe) (ctx : Ctx) (slot : Fin 16)
  | migrate (w : Writer) (lathe : Lathe) (ctx : Ctx) (slot : Fin 16) (target : Fin 256)
  | contextSaveComplete (ctx : Ctx)
  | contextRestoreComplete (ctx : Ctx)
  | engineReset (cause : ResetCause) (lathe : Lathe)
  | engineResetBoundaryTimeout (lathe : Lathe)
  | selfTestComplete (lathe : Lathe) (ok : Bool)
  | quadEngineReset (cause : ResetCause) (die : PDie) (quad : Fin 8)
  | takeover (w : Writer) (lathe : Lathe)
  | create (w : Writer) (die : LDie) (ctx : Ctx)
  | start (w : Writer) (die : LDie) (ctx : Ctx) (slot : Fin 32) (phys : Fin 8)
  | programLoadComplete (ctx : Ctx)
  | stop (w : Writer) (die : LDie) (ctx : Ctx)
  | resume (w : Writer) (die : LDie) (ctx : Ctx)
  | replay (w : Writer) (die : LDie) (ctx : Ctx)
  | release (w : Writer) (die : LDie) (ctx : Ctx)
  | collectiveArrival (ctx : Ctx)
  | query (ctx : Ctx) (rank : Nat) (call : Nat)
  | arrive (ctx : Ctx) (rank : Nat) (call : Nat)
  | vote (ctx : Ctx) (rank : Nat) (call : Nat) (digest : BitVec 256)
  | parentCompleteNotice (ctx : Ctx) (call : Nat) (status : Nat) (nflags : Nat) (resultK : Nat) (nextK : Nat)
  | narrowNotice (ctx : Ctx) (down : Bool) (call : Nat) (format : Nat)
  | partialArrival (ctx : Ctx) (from_ : Ctx)
  | callTimeout (ctx : Ctx)
  | admitJob (w : Writer) (job : Job)
  | modify (w : Writer) (job : Job)
  | remove (w : Writer) (job : Job)
  | jobCancel (w : Writer) (job : Job)
  | jobChecksComplete
  | svJobBaseWrite (w : Writer) (value : W64)
  | jobDrainEnd (job : Job)
  | registerWrite (w : Writer) (off : Nat) (size : Nat) (value : W64)
  | bar0BadRead (fn : Sv) (off : Nat) (size : Nat) (silent : Bool)
  | rcRead (fn : Sv) (off : Nat)
  | bar2Read (fn : Sv) (off : Nat) (len : Nat)
  | bar2Write (fn : Sv) (off : Nat) (data : Blob)
  | dmaCompletion (ch : Fin 2) (data : Blob)
  | dmaReadTimeout (ch : Fin 2) (cause : DmaFail)
  | bmeClear (fn : Sv) (bme mse : Bool)
  | dmaChannelDone (ch : Fin 2)
  | hcfDataWrite (fn : Sv) (word : W64) (parityOk : Bool)
  | hcfDataEndWrite (fn : Sv) (word : W64) (parityOk : Bool)
  | flush (fn : Sv)
  | hcfTake (fn : Sv)
  | imageLoad (fn : Sv)
  | imageCheck (fn : Sv)
  | imageArm (fn : Sv)
  | imageCancel (fn : Sv)
  | imageDiscard (fn : Sv)
  | window (fn : Sv)
  | dumpFetch (fn : Sv)
  | override (fn : Sv)
  | flashWrite (fn : Sv)
  | eventRead (fn : Sv)
  | mbxH2fWrite (fn : Sv) (box : Fin 32) (value : W64)
  | mbxAck (fn : Sv) (box : Fin 32) (code : Nat)
  | mbxF2hWrite (fn : Sv) (box : Fin 32) (value : W64)
  | mbxFullRelease (fn : Sv) (value : W64)
  | uartFrameReceive (sv : Sv) (t7 t8 t9 : BitVec 8) (parityBit : Bool) (stop : StopLine)
  | conTxdWrite (fn : Sv) (sv : Sv) (value : W64)
  | conCapRead (fn : Sv) (sv : Sv)
  | i3cPrivateWrite (data : List (BitVec 8))
  | i3cPrivateRead (count : Nat)
  | enec (ibi : Bool)
  | disec (ibi : Bool)
  | rstdaa
  | entdaa (address : BitVec 7)
  | setdasa (static : BitVec 7) (address : BitVec 7)
  | setnewda (address : BitVec 7)
  | getpid
  | getbcr
  | getdcr
  | getstatus
  | getmwl
  | setmwl (value : BitVec 16)
  | getmrl
  | setmrl (value : BitVec 16)
  | rstact (action : BitVec 8)
  | tapReset
  | idcode
  | samplePreload (preload : Nat)
  | extest (flash : Option (Bool × Nat × Blob))
  | clamp
  | highz
  | ijtag (data : Nat)
  | bypass (code : Nat)
  | campaign (sv : Sv) (term : Nat)
  | renew (sv : Sv) (term : Nat)
  | resign (sv : Sv) (term : Nat)
  | handover (w : Writer) (sv : Nat) (turn : Nat)
  | cancelHandover (w : Writer)
  | svRestart (w : Writer) (sv : Nat) (copyB : Bool)
  | supervisorReady (sv : Sv) (ok : Bool)
  | termNotice (die : Die) (voter : Fin 3)
  | leaseExpiry
  | campaignBackoffExpiry (sv : Sv)
  | seamCut (lost : List (Fin 12 × Nat))
  | seamHeal
  | errqPop (w : Writer) (die : Die)
  | scrub (die : Die) (addr : Nat) (hit : ScrubHit)
  | hangDetect (die : Die) (unit : Nat)
  | noLeaderTimeout
  | partReset (w : Writer) (part : Part)
  | warmRestart (w : Writer)
  | powerCycle (w : Writer)
  | healthUpdate
  | bootConfirm (w : Writer)
  | bootConfirmTimeout
  | nearTierTrained (ok : BitVec 8)
  | farTierTrained (ok : BitVec 12)
  | mainFirmwareLoaded
  | pcieLinkDown (fn : Sv) (trained : Option (Fin 6 × Fin 9))
  | d3hotEntry (fn : Sv) (d3 : Bool)
  | childAbortNotice (ctx : Ctx) (call : Nat) (status : Nat)
  | resizePauseEnd (port : Port)
  | coldTrainingTimeout (port : Port)
  | vaux1v8Recover (mv : Nat)
  | bootStageLoaded
  | windowWriteAccepted (ctx : Ctx)
  | dumpWritten
  deriving DecidableEq, Repr

end Sys2Proof
end

