-- ==== Sys2Proof/Config.lean ====
section
/-! DEFINITION. What the spec leaves to an implementation or leaves open: constants without a body, so that no proof
can see their values (free values). -/

namespace Sys2Proof

/-- A fresh open value: applied to the counter freeCtr of the state, which every use advances (log entry 3). -/
opaque Config.freeWord : Nat → BitVec 64

/-- A lane of a bitwise reduction whose output format is of another width than its elements: a function of the operator, the
two formats and the running value alone, so the same on every part (R6, R240; DESIGN CHOICE, log 3). -/
opaque Config.bitCarry : Nat → Nat → Nat → Nat → Nat

/-- The bytes that a context's register area, of a number of bytes, leaves at SAVE_BASE, as one little-endian number (R219; DESIGN CHOICE,
log 53). -/
opaque Config.areaImage : Nat → Nat → Nat

/-- Whether the syndrome of a corrected far-tier error says that a whole device of the DIMM failed (R377, R397): the spec lays no syndrome
out (log entry 3). -/
opaque Config.wholeDevice : Nat → Bool

/-- The SHA-256 digest of a stock program, by Staja major version and program code (R266): the library's bytes are not
in the spec (log entry 6). -/
opaque Config.stockDigest : Nat → Nat → BitVec 256

/-- Where firmware keeps the far-tier archive of a half's shavings ring (R160): no register of the spec holds it (log entry
17). -/
opaque Config.archiveBase : Nat → Nat

end Sys2Proof
end

