-- ==== Sys2Proof/Machine/Table.lean ====
section
/-! DEFINITION. Sparse tables: the one form in which the model keeps registers, memory and every
numbered population of units. A table lists only the entries that differ from what an unlisted key
reads as, at strictly rising keys, so that equal tables are equal data. -/

namespace Sys2Proof

/-- A sparse table: (key, entry) pairs. -/
abbrev Tbl (α : Type) := List (Nat × α)

/-- The entry at key k; an unlisted key k reads as dflt k. -/
def Tbl.get {α : Type} (dflt : Nat → α) : Tbl α → Nat → α
  | [], k => dflt k
  | (j, v) :: t, k => if k = j then v else Tbl.get dflt t k

/-- t without its entry at key k. -/
def Tbl.del {α : Type} : Tbl α → Nat → Tbl α
  | [], _ => []
  | (j, v) :: t, k => if k = j then Tbl.del t k else (j, v) :: Tbl.del t k

/-- t with the entry v put at key k, in order. -/
def Tbl.put {α : Type} : Tbl α → Nat → α → Tbl α
  | [], k, v => [(k, v)]
  | (j, w) :: t, k, v =>
    if k = j then (k, v) :: t else if k < j then (k, v) :: (j, w) :: t else (j, w) :: Tbl.put t k v

/-- Write v at key k: an entry equal to what an unlisted key reads as is not listed. -/
def Tbl.set {α : Type} [DecidableEq α] (dflt : Nat → α) (t : Tbl α) (k : Nat) (v : α) : Tbl α :=
  if v = dflt k then t.del k else t.put k v

/-- The entry at key k changed by f. -/
def Tbl.modify {α : Type} [DecidableEq α] (dflt : Nat → α) (t : Tbl α) (k : Nat) (f : α → α) : Tbl α :=
  t.set dflt k (f (t.get dflt k))

/-- Every key of t lies above k, and the keys rise strictly. -/
def Tbl.risesFrom {α : Type} : Nat → Tbl α → Bool
  | _, [] => true
  | k, (j, _) :: t => decide (k < j) && Tbl.risesFrom j t

/-- The keys of t rise strictly. -/
def Tbl.rises {α : Type} : Tbl α → Bool
  | [] => true
  | (j, _) :: t => Tbl.risesFrom j t

/-- The canonical form: keys strictly rising, no entry equal to what an unlisted key reads as. -/
def Tbl.wf {α : Type} [DecidableEq α] (dflt : Nat → α) (t : Tbl α) : Bool :=
  t.rises && t.all (fun e => decide (e.2 ≠ dflt e.1))

/-- The keys listed in t whose entries satisfy p, in order. -/
def Tbl.keysWhere {α : Type} (p : α → Bool) : Tbl α → List Nat
  | [] => []
  | (j, v) :: t => if p v then j :: Tbl.keysWhere p t else Tbl.keysWhere p t

/-- The least natural number below fuel + n, from n on, that satisfies p. -/
def firstFrom (p : Nat → Bool) (n : Nat) : Nat → Option Nat
  | 0 => none
  | fuel + 1 => if p n then some n else firstFrom p (n + 1) fuel

end Sys2Proof
end

