-- ==== Sys2Proof/Machine/Flags.lean ====
section
/-! DEFINITION. The arithmetic of a lathe: formats, exact values, rounding, the flags of NFLAGS, lane arithmetic, the
conversions of the number unit and the long accumulator (R179 to R196). -/

namespace Sys2Proof.Machine

/-! ## Flags (R196) -/

/-- The bits of NFLAGS. -/
def nfInvalid : Nat := 0x1
/-- OVERFLOW. -/
def nfOverflow : Nat := 0x4
/-- UNDERFLOW. -/
def nfUnderflow : Nat := 0x8
/-- INEXACT. -/
def nfInexact : Nat := 0x10
/-- LFLUSH. -/
def nfLflush : Nat := 0x40
/-- FLUSH_SEEN. -/
def nfFlushSeen : Nat := 0x80
/-- SAT. -/
def nfSat : Nat := 0x100
/-- NAN_IN. -/
def nfNanIn : Nat := 0x200
/-- ACC_OVF. -/
def nfAccOvf : Nat := 0x400
/-- SCALE_BAD. -/
def nfScaleBad : Nat := 0x800
/-- UNDEF_SEEN. -/
def nfUndefSeen : Nat := 0x8000

/-- The rounding modes RNE, RTZ, RUP, RDN, STOCH (R184). -/
def rndRNE : Nat := 0
/-- RTZ. -/
def rndRTZ : Nat := 1
/-- RUP. -/
def rndRUP : Nat := 2
/-- RDN. -/
def rndRDN : Nat := 3
/-- STOCH. -/
def rndSTOCH : Nat := 4

/-- STOCH acts as RNE wherever no draw is defined (R185, R190, R233). -/
def rndNoStoch (r : Nat) : Nat := if r = rndSTOCH then rndRNE else r

/-! ## Formats (R179) -/

/-- A floating-point format: exponent and fraction bits, bias, the code of the largest finite value, of infinity where
there is one, and of the canonical NaN. -/
structure FpFmt where
  eb : Nat
  mb : Nat
  bias : Nat
  maxCode : Nat
  infCode : Option Nat
  nan : Nat
  deriving DecidableEq, Repr

/-- FP32. -/
def fp32 : FpFmt := ⟨8, 23, 127, 0x7F7FFFFF, some 0x7F800000, 0x7FC00000⟩

/-- The floating-point format of a FMT code: 0 FP32, 1 BF16, 2 FP16, 3 E4M3, 4 E5M2 (R228). -/
def fpFmt : Nat → Option FpFmt
  | 0 => some fp32
  | 1 => some ⟨8, 7, 127, 0x7F7F, some 0x7F80, 0x7FC0⟩
  | 2 => some ⟨5, 10, 15, 0x7BFF, some 0x7C00, 0x7E00⟩
  | 3 => some ⟨4, 3, 7, 0x7E, none, 0x7F⟩
  | 4 => some ⟨5, 2, 15, 0x7B, some 0x7C, 0x7E⟩
  | _ => none

/-- The element width in bytes of a FMT code (R181, R228). -/
def fmtWidth : Nat → Nat
  | 0 => 4
  | 1 => 2
  | 2 => 2
  | 3 => 1
  | 4 => 1
  | 5 => 1
  | 6 => 4
  | 7 => 4
  | _ => 8

/-- The elements of a grain in a format (R181). -/
def fmtElems (f : Nat) : Nat := 256 / fmtWidth f

/-- Sign bit position of a format. -/
def FpFmt.signPos (f : FpFmt) : Nat := f.eb + f.mb

/-- An exact value: NaN, an infinity, or (-1)^neg * num * 2^exp. -/
inductive Val where
  | nan
  | inf (neg : Bool)
  | fin (neg : Bool) (num : Nat) (exp : Int)
  deriving DecidableEq, Repr

/-- The value of an encoding of a floating-point format (R179). -/
def FpFmt.decode (f : FpFmt) (x : Nat) : Val :=
  let neg := bitOf x f.signPos
  let mag := x % 2 ^ f.signPos
  let frac := x % 2 ^ f.mb
  let ex := bitsOf x f.mb f.eb
  if f.infCode = some mag then .inf neg
  else if f.maxCode < mag then .nan
  else if ex = 0 then .fin neg frac (1 - (f.bias : Int) - f.mb)
  else .fin neg (2 ^ f.mb + frac) ((ex : Int) - f.bias - f.mb)

/-- Whether an encoding is subnormal in its own format (R182). -/
def FpFmt.isSub (f : FpFmt) (x : Nat) : Bool := decide (bitsOf x f.mb f.eb = 0) && decide (x % 2 ^ f.mb ≠ 0)

/-- The exact value of an integer. -/
def valOfInt (z : Int) : Val := .fin (decide (z < 0)) z.natAbs 0

/-- The exact value of an element of a FMT code 0 to 6 (R179). -/
def decodeElem (fmt x : Nat) : Val :=
  match fpFmt fmt with
  | some f => f.decode x
  | none => valOfInt (signedOf x (8 * fmtWidth fmt))

/-! ## Rounding (R184 to R188) -/

/-- 2^k for a natural part of an integer exponent. -/
def pow2 (z : Int) : Nat := 2 ^ z.toNat

/-- The exponent E with 2^E ≤ num/den * 2^exp < 2^(E+1), for num and den not 0. -/
def floorLog2 (num den : Nat) (exp : Int) : Int :=
  let k : Int := (Nat.log2 num : Int) - Nat.log2 den
  let ge : Bool := decide (den * pow2 k ≤ num * pow2 (-k))
  (if ge then k else k - 1) + exp

/-- The 24-bit draw of stochastic rounding (R186). -/
def stochDraw (seed ctx idx : Nat) : Nat :=
  let m := 2 ^ 64
  let z := (seed ^^^ (ctx <<< 40) ^^^ (idx % 2 ^ 40)) % m
  let z := (z + 0x9E3779B97F4A7C15) % m
  let z := ((z ^^^ (z >>> 30)) * 0xBF58476D1CE4E5B9) % m
  let z := ((z ^^^ (z >>> 27)) * 0x94D049BB133111EB) % m
  let z := z ^^^ (z >>> 31)
  bitsOf z 40 24

/-- Round n/d to an integer, for d not 0: the magnitude's rounding under a mode, the sign and the draw (R184, R186). -/
def roundMag (rnd draw : Nat) (neg : Bool) (n d : Nat) : Nat × Bool :=
  let q := n / d
  let r := n % d
  if r = 0 then (q, false)
  else
    let up : Bool :=
      if rnd = rndRNE then decide (d < 2 * r) || (decide (2 * r = d) && decide (q % 2 = 1))
      else if rnd = rndRUP then !neg
      else if rnd = rndRDN then neg
      else if rnd = rndSTOCH then decide (2 ^ 24 ≤ r * 2 ^ 24 / d + draw)
      else false
    (if up then q + 1 else q, true)

/-- What a rounding needs beside the value: the mode, the draw of R186, the flag to set when a tiny result is flushed
(none: subnormal results are kept), and NANOVF. -/
structure RndCtl where
  rnd : Nat
  draw : Nat
  flush : Option Nat
  nanovf : Bool
  deriving DecidableEq, Repr

/-- The result of an overflow (R187). -/
def FpFmt.overflow (f : FpFmt) (c : RndCtl) (neg : Bool) : Nat × Nat :=
  let sgn := b2n neg * 2 ^ f.signPos
  let fl := nfOverflow ||| nfInexact
  match f.infCode with
  | none => if c.nanovf then (f.nan, fl) else (sgn + f.maxCode, fl ||| nfSat)
  | some i =>
    let toInf : Bool := decide (c.rnd = rndRNE) || decide (c.rnd = rndSTOCH) || (decide (c.rnd = rndRUP) && !neg)
      || (decide (c.rnd = rndRDN) && neg)
    (sgn + (if toInf then i else f.maxCode), fl)

/-- Round the finite value (-1)^neg * num/den * 2^exp to a format: the encoding and the flags (R183, R184, R187). -/
def FpFmt.roundFin (f : FpFmt) (c : RndCtl) (neg : Bool) (num den : Nat) (exp : Int) : Nat × Nat :=
  let sgn := b2n neg * 2 ^ f.signPos
  if num = 0 then (sgn, 0)
  else
    let emin : Int := 1 - (f.bias : Int)
    let e := floorLog2 num den exp
    let tiny : Bool := decide (e < emin)
    match (if tiny then c.flush else none) with
    | some fl => (sgn, fl ||| nfUnderflow ||| nfInexact)
    | none =>
      let qmin := emin - f.mb
      let u : Int := max e emin - f.mb
      let sh := exp - u
      let (q, inex) := roundMag c.rnd c.draw neg (num * pow2 sh) (den * pow2 (-sh))
      let code := (u - qmin).toNat * 2 ^ f.mb + q
      if f.maxCode < code then f.overflow c neg
      else (sgn + code, if inex then (if tiny then nfInexact ||| nfUnderflow else nfInexact) else 0)

/-- Round an exact value to a floating-point format. A NaN gives the canonical NaN (R180); flags of the NaN operand
itself are its reader's. -/
def FpFmt.round (f : FpFmt) (c : RndCtl) : Val → Nat × Nat
  | .nan => (f.nan, 0)
  | .inf neg => match f.infCode with
    | some i => (b2n neg * 2 ^ f.signPos + i, 0)
    | none => if c.nanovf then (f.nan, 0) else (b2n neg * 2 ^ f.signPos + f.maxCode, nfSat)
  | .fin neg n e => f.roundFin c neg n 1 e

/-- Round an exact value to an integer of wid bits (R188). -/
def roundInt (wid : Nat) (c : RndCtl) (v : Val) (den : Nat) : Nat × Nat :=
  match v with
  | .nan => (0, nfNanIn ||| nfInvalid)
  | .inf neg => (if neg then 2 ^ (wid - 1) else 2 ^ (wid - 1) - 1, nfSat)
  | .fin neg n e =>
    let (q, inex) := roundMag c.rnd c.draw neg (n * pow2 e) (den * pow2 (-e))
    let fl := if inex then nfInexact else 0
    if neg && decide (2 ^ (wid - 1) < q) then (2 ^ (wid - 1), fl ||| nfSat)
    else if !neg && decide (2 ^ (wid - 1) ≤ q) then (2 ^ (wid - 1) - 1, fl ||| nfSat)
    else (if neg then (2 ^ wid - q) % 2 ^ wid else q, fl)

/-- Round an exact value, divided by den, to a FMT code 0 to 6. -/
def roundElem (fmt : Nat) (c : RndCtl) (v : Val) (den : Nat) : Nat × Nat :=
  match fpFmt fmt with
  | some f => match v with
    | .fin neg n e => f.roundFin c neg n den e
    | v => f.round c v
  | none => roundInt (8 * fmtWidth fmt) c v den

/-! ## Operations on exact values -/

/-- A value times 2^k. -/
def Val.scale (v : Val) (k : Int) : Val :=
  match v with
  | .fin s n e => .fin s n (e + k)
  | v => v

/-- The value with its sign turned. -/
def Val.neg : Val → Val
  | .nan => .nan
  | .inf s => .inf (!s)
  | .fin s n e => .fin (!s) n e

/-- Whether a value is NaN. -/
def Val.isNan : Val → Bool
  | .nan => true
  | _ => false

/-- A finite value as an integer multiple of 2^k, for k at most its exponent. -/
def signedAt (neg : Bool) (n : Nat) (e k : Int) : Int :=
  let m : Int := ((n * pow2 (e - k) : Nat) : Int)
  if neg then -m else m

/-- The exact sum, with the sign of an exact zero by the mode, and INVALID for infinities of opposite sign (R188). -/
def Val.add (rnd : Nat) (a b : Val) : Val × Nat :=
  match a, b with
  | .nan, _ => (.nan, 0)
  | _, .nan => (.nan, 0)
  | .inf s, .inf t => if s = t then (.inf s, 0) else (.nan, nfInvalid)
  | .inf s, _ => (.inf s, 0)
  | _, .inf t => (.inf t, 0)
  | .fin s n e, .fin t m f =>
    let k := min e f
    let z := signedAt s n e k + signedAt t m f k
    if z = 0 then
      (.fin (if n = 0 && m = 0 && s = t then s else decide (rnd = rndRDN)) 0 0, 0)
    else (.fin (decide (z < 0)) z.natAbs k, 0)

/-- The exact product, with INVALID for 0 times infinity (R188). -/
def Val.mul (a b : Val) : Val × Nat :=
  match a, b with
  | .nan, _ => (.nan, 0)
  | _, .nan => (.nan, 0)
  | .inf s, .inf t => (.inf (s != t), 0)
  | .inf s, .fin t m _ => if m = 0 then (.nan, nfInvalid) else (.inf (s != t), 0)
  | .fin s n _, .inf t => if n = 0 then (.nan, nfInvalid) else (.inf (s != t), 0)
  | .fin s n e, .fin t m f => (.fin (s != t) (n * m) (e + f), 0)

/-- The key of an FP32 encoding, whose unsigned order is the value order (R189). -/
def fpKey (x : Nat) : Nat := if bitOf x 31 then 2 ^ 32 - 1 - x % 2 ^ 32 else x % 2 ^ 32 + 2 ^ 31

/-! ## Lane arithmetic (R182, R185, R188) -/

/-- A lane operand: a subnormal is flushed to zero of its sign with LFLUSH; a NaN sets NAN_IN. -/
def laneIn (x : Nat) : Val × Nat :=
  if fp32.isSub x then (.fin (bitOf x 31) 0 0, nfLflush)
  else let v := fp32.decode x; (v, if v.isNan then nfNanIn else 0)

/-- The encoding of a lane operand after its flush. -/
def laneBits (x : Nat) : Nat := if fp32.isSub x then b2n (bitOf x 31) * 2 ^ 31 else x % 2 ^ 32

/-- The control of a lane rounding: STOCH acts as RNE, tiny results are flushed with LFLUSH. -/
def laneCtl (rnd : Nat) : RndCtl := ⟨rndNoStoch rnd, 0, some nfLflush, false⟩

/-- FADD and FSUB. -/
def laneAdd (rnd : Nat) (sub : Bool) (a b : Nat) : Nat × Nat :=
  let (x, f1) := laneIn a
  let (y, f2) := laneIn b
  let (z, f3) := x.add (rndNoStoch rnd) (if sub then y.neg else y)
  let (r, f4) := fp32.round (laneCtl rnd) z
  (r, f1 ||| f2 ||| f3 ||| f4)

/-- FMUL. -/
def laneMul (rnd a b : Nat) : Nat × Nat :=
  let (x, f1) := laneIn a
  let (y, f2) := laneIn b
  let (z, f3) := x.mul y
  let (r, f4) := fp32.round (laneCtl rnd) z
  (r, f1 ||| f2 ||| f3 ||| f4)

/-- FFMA, rounded once. -/
def laneFma (rnd a b c : Nat) : Nat × Nat :=
  let (x, f1) := laneIn a
  let (y, f2) := laneIn b
  let (w, f3) := laneIn c
  let (p, f4) := x.mul y
  let (z, f5) := p.add (rndNoStoch rnd) w
  let (r, f6) := fp32.round (laneCtl rnd) z
  (r, f1 ||| f2 ||| f3 ||| f4 ||| f5 ||| f6)

/-- FP32 division by a positive integer, for MEAN in FREE mode (R301). -/
def laneDivNat (rnd a n : Nat) : Nat × Nat :=
  let (x, f1) := laneIn a
  match x with
  | .fin s m e => let (r, f2) := fp32.roundFin (laneCtl rnd) s m (max n 1) e; (r, f1 ||| f2)
  | v => let (r, f2) := fp32.round (laneCtl rnd) v; (r, f1 ||| f2)

/-- FMIN and FMAX: -0 orders below +0; a NaN operand gives the canonical NaN. -/
def laneMinMax (mx : Bool) (a b : Nat) : Nat × Nat :=
  let (x, f1) := laneIn a
  let (y, f2) := laneIn b
  if x.isNan || y.isNan then (fp32.nan, f1 ||| f2)
  else
    let p := laneBits a
    let q := laneBits b
    (if (decide (fpKey p ≤ fpKey q)) == mx then q else p, f1 ||| f2)

/-- A condition code on ordered keys: EQ, NE, LT, LE, GT, GE (R232). -/
def condHolds (cond : Nat) (a b : Int) : Bool :=
  match cond with
  | 0 => decide (a = b)
  | 1 => decide (a ≠ b)
  | 2 => decide (a < b)
  | 3 => decide (a ≤ b)
  | 4 => decide (b < a)
  | 5 => decide (b ≤ a)
  | _ => false

/-- FCMP: against a NaN only NE is true. -/
def laneCmp (cond a b : Nat) : Bool × Nat :=
  let (x, f1) := laneIn a
  let (y, f2) := laneIn b
  if x.isNan || y.isNan then (decide (cond = 1), f1 ||| f2)
  else (condHolds cond (fpKey (laneBits a)) (fpKey (laneBits b)), f1 ||| f2)

/-! ## The number unit: scales, inputs, amax (R182, R190, R191) -/

/-- NCTL.RND. -/
def nctlRnd (nctl : Nat) : Nat := nctl % 8
/-- NCTL.SUBN. -/
def nctlSubn (nctl : Nat) : Bool := bitOf nctl 4
/-- NCTL.NANOVF. -/
def nctlNanovf (nctl : Nat) : Bool := bitOf nctl 5
/-- Whether a NCTL value is free of reserved bits and modes (R195). -/
def nctlOk (nctl : Nat) : Bool := decide (nctl < 64) && !bitOf nctl 3 && decide (nctl % 8 ≤ 4)

/-- The control of a number-unit rounding under NCTL with a rounding mode and a draw. -/
def nuCtl (nctl rnd draw : Nat) : RndCtl :=
  ⟨rnd, draw, if nctlSubn nctl then none else some nfFlushSeen, nctlNanovf nctl⟩

/-- The exponent of a scale, and SCALE_BAD where its encoding is not a power of two in range (R190). -/
def scaleExp (x : Nat) : Int × Nat :=
  if x < 2 ^ 31 && x % 2 ^ 23 = 0 && 1 ≤ x / 2 ^ 23 && x / 2 ^ 23 ≤ 254 then ((x / 2 ^ 23 : Nat) - 127, 0)
  else (0, nfScaleBad)

/-- An input element of the number unit: flushed under SUBN, widened exactly, multiplied by the scale where one is
named; a NaN sets NAN_IN (R182, R188, R190). -/
def nuIn (nctl fmt x : Nat) (scale : Option Nat) : Val × Nat :=
  let (v, f1) :=
    match fpFmt fmt with
    | some f =>
      if f.isSub x && !nctlSubn nctl then (.fin (bitOf x f.signPos) 0 0, nfFlushSeen)
      else let v := f.decode x; (v, if v.isNan then nfNanIn else 0)
    | none => (decodeElem fmt x, 0)
  match scale with
  | none => (v, f1)
  | some sc => let (k, f2) := scaleExp sc; (v.scale k, f1 ||| f2)

/-- Divide by a named scale (R190). -/
def nuUnscale (v : Val) (scale : Option Nat) : Val × Nat :=
  match scale with
  | none => (v, 0)
  | some sc => let (k, f) := scaleExp sc; (v.scale (-k), f)

/-- The magnitude of a value as FP32 bits, rounded up (R191). -/
def amaxMag : Val → Option Nat
  | .nan => none
  | .inf _ => some 0x7F800000
  | .fin _ n e => some (fp32.roundFin ⟨rndRUP, 0, none, false⟩ false n 1 e).1

/-- Gather a value into an amax register (R191). -/
def amaxGather (old : Nat) (v : Val) : Nat × Nat :=
  match amaxMag v with
  | none => (old, nfNanIn)
  | some m => (if 0x7F800000 < old then m else max old m, 0)

/-- The scale that the stock programs choose from an amax toward a format (R191), as its exponent. -/
def chooseScaleK (amax fmt : Nat) : Int :=
  let (mNum, f) : Nat × Int := if fmt = 3 then (7 * 2 ^ 21, 8) else if fmt = 4 then (7 * 2 ^ 21, 15) else (127 * 2 ^ 17, 6)
  if amax = 0 || 0x7F800000 < amax then 0
  else
    let (m, e) : Nat × Int :=
      if amax = 0x7F800000 then (2 ^ 23, 128)
      else if amax < 2 ^ 23 then
        let l := Nat.log2 amax
        (amax * 2 ^ (23 - l), (l : Int) - 149)
      else (2 ^ 23 + amax % 2 ^ 23, ((amax / 2 ^ 23 : Nat) : Int) - 127)
    let k := if m ≤ mNum then e - f else e - f + 1
    max (-126) (min 127 k)

/-! ## The long accumulator (R192 to R194) -/

/-- A lane of a long accumulator: CLASS 0 finite, 1 infinite, 2 NaN; SIGN; magnitude M with bit i of weight
2^(i-149). -/
structure LAcc where
  cls : Nat
  sign : Bool
  m : Nat
  deriving DecidableEq, Repr

/-- A cleared lane: -0. -/
def LAcc.cleared : LAcc := ⟨0, true, 0⟩
/-- The lane that a reserved syllable leaves: +0 (R257). -/
def LAcc.plusZero : LAcc := ⟨0, false, 0⟩

/-- The value a lane holds. -/
def LAcc.value (a : LAcc) : Val :=
  if a.cls = 0 then .fin a.sign a.m (-149) else if a.cls = 1 then .inf a.sign else .nan

/-- A finite addend aligned to the 2^-149 grid: its signed multiple, and the flags of the alignment (R190). -/
def alignAddend (rnd : Nat) (neg : Bool) (n : Nat) (e : Int) : Nat × Nat :=
  if -149 ≤ e then (n * pow2 (e + 149), 0)
  else
    let (q, inex) := roundMag (rndNoStoch rnd) 0 neg n (pow2 (-149 - e))
    (q, if inex then (if floorLog2 n 1 e < -126 then nfInexact ||| nfUnderflow else nfInexact) else 0)

/-- Add one widened addend to a lane (R193); a finite one is aligned first, whatever the lane holds (R190). -/
def LAcc.add (rnd : Nat) (a : LAcc) (x : Val) : LAcc × Nat :=
  if a.cls = 2 then (a, match x with
    | .nan => nfNanIn
    | .inf _ => 0
    | .fin s n e => (alignAddend rnd s n e).2)
  else match x with
    | .nan => ({ a with cls := 2 }, nfNanIn)
    | .inf s =>
      if a.cls = 1 then (if a.sign = s then (a, 0) else ({ a with cls := 2 }, nfInvalid))
      else ({ a with cls := 1, sign := s }, 0)
    | .fin s n e =>
      let (q, fl) := alignAddend rnd s n e
      if a.cls = 1 then (a, fl)
      else
        let v : Int := (if a.sign then -(a.m : Int) else a.m) + (if s then -(q : Int) else q)
        if 2 ^ 320 - 1 < v.natAbs then ({ a with cls := 1, sign := decide (v < 0) }, fl ||| nfAccOvf)
        else if v = 0 then ({ a with m := 0, sign := a.sign && s }, fl)
        else ({ a with m := v.natAbs, sign := decide (v < 0) }, fl)

/-- Round a lane to a format, divided by the scale and by den: the rounding point (R193, R194). A zero that is not
-0 reads -0 in RDN. A NaN lane is a NaN operand of the conversion (R188). -/
def LAcc.round (fmt : Nat) (c : RndCtl) (a : LAcc) (scale : Option Nat) (den : Nat) : Nat × Nat :=
  let v := match a.value with
    | .fin s n e => Val.fin (if n = 0 then s || decide (c.rnd = rndRDN) else s) n e
    | v => v
  let (w, f1) := nuUnscale v scale
  let (r, f2) := roundElem fmt c w den
  (r, f1 ||| f2 ||| (if a.cls < 2 then 0 else nfNanIn))

/-- Word j of a lane; word 10 is the tag (R192, R233). -/
def LAcc.word (a : LAcc) (j : Nat) : Nat :=
  if j < 10 then bitsOf a.m (32 * j) 32 else b2n a.sign + 2 * a.cls

/-- A lane with word j written; a CLASS of 3 is stored as 2 with NAN_IN (R233). -/
def LAcc.putWord (a : LAcc) (j x : Nat) : LAcc × Nat :=
  if j < 10 then ({ a with m := setBitsOf a.m (32 * j) 32 x }, 0)
  else
    let c := bitsOf x 1 2
    ({ a with sign := bitOf x 0, cls := if c = 3 then 2 else c }, if c = 3 then nfNanIn else 0)

/-! ## The order-free reductions (R182, R188, R212) -/

/-- The key of an exact value that FP32 holds exactly, or of an integer: the order in which -0 lies below +0. -/
def valLe (a b : Val) : Bool :=
  match a, b with
  | .inf s, .inf t => s || !t
  | .inf s, _ => s
  | _, .inf t => !t
  | .fin s n e, .fin t m f =>
    let k := min e f
    let x := signedAt s n e k
    let y := signedAt t m f k
    if x = y then (if x = 0 then s || !t else true) else decide (x < y)
  | _, _ => true

/-- The magnitude of a value. -/
def Val.abs : Val → Val
  | .fin _ n e => .fin false n e
  | .inf _ => .inf false
  | v => v

/-- Combine a widened value into the running value of MAX (1), MIN (2) or AMAX (3). -/
def reduceVal (op : Nat) (run : Option Val) (x : Val) : Val :=
  let x := if op = 3 then x.abs else x
  match run with
  | none => x
  | some .nan => .nan
  | some r => match x with
    | .nan => .nan
    | x => if op = 2 then (if valLe r x then r else x) else (if valLe r x then x else r)

/-! ## Conversions as CVTU, CVTP and LRND make them (R233) -/

/-- CVTU of one element: the lane, the flags and the widened value that amax gathers. -/
def cvtuElem (nctl fmt x : Nat) (scale : Option Nat) : Nat × Nat × Val :=
  let (v, f1) := nuIn nctl fmt x scale
  if (fpFmt fmt).isNone && scale.isNone then (unsignedOf (signedOf x (8 * fmtWidth fmt)) 32, f1, v)
  else
    let (r, f2) := fp32.round (nuCtl nctl (rndNoStoch (nctlRnd nctl)) 0) v
    (r, f1 ||| f2, v)

/-- CVTP of one lane: the element, the flags and the value before the scale. -/
def cvtpElem (nctl rnd draw fmt : Nat) (srci : Bool) (lane : Nat) (scale : Option Nat) : Nat × Nat × Val :=
  let (v, f1) := if srci then (valOfInt (signedOf lane 32), 0) else nuIn nctl 0 lane none
  let (w, f2) := nuUnscale v scale
  let (r, f3) := roundElem fmt (nuCtl nctl rnd draw) w 1
  (r, f1 ||| f2 ||| f3, v)

/-- An element of a format as a lane: FP32 bits for floating formats, INT32 for integers (R233, LRND). -/
def elemToLane (fmt x : Nat) : Nat :=
  match fpFmt fmt with
  | some f => (fp32.round ⟨0, 0, none, false⟩ (f.decode x)).1
  | none => unsignedOf (signedOf x (8 * fmtWidth fmt)) 32

/-! ## Sort keys (R189, R295) -/

/-- A floating element widened exactly to FP32 bits, the sign of a NaN kept. -/
def widenBits (f : FpFmt) (x : Nat) : Nat :=
  match f.decode x with
  | .nan => b2n (bitOf x f.signPos) * 2 ^ 31 + 0x7FC00000
  | v => (fp32.round ⟨0, 0, none, false⟩ v).1

/-- The order key of an element (R295): floating formats through the key transform, INT8 and INT32 signed, UINT32 and
UINT64 unsigned. -/
def orderKey (fmt x : Nat) : Int :=
  match fmt with
  | 0 => (fpKey x : Int)
  | 5 => signedOf x 8
  | 6 => signedOf x 32
  | 7 => ((x % 2 ^ 32 : Nat) : Int)
  | 8 => ((x % 2 ^ 64 : Nat) : Int)
  | _ => match fpFmt fmt with
    | some f => (fpKey (widenBits f x) : Int)
    | none => (x : Int)

end Sys2Proof.Machine
end

