-- ==== Sys2Proof/Machine/RegMap.lean ====
section
/-! DEFINITION. The register map: every register of BAR0 with its address, its fields, their access types and
their reset values (R13 to R17 and the register tables of the chapters; the rule of each stands beside it). -/

namespace Sys2Proof.Machine

/-- The access types of R17. -/
inductive Acc where
  | ro | rw | wo | rc | w1c | w1s
  deriving DecidableEq, Repr

/-- A field of a register: its bits, its access type and its reset value (0 where the reset value is fused,
comes with an image or is kept: those are set elsewhere). -/
structure Fld where
  hi : Nat
  lo : Nat
  acc : Acc
  rst : Nat
  deriving DecidableEq, Repr

/-- The width of a field. -/
def Fld.wid (f : Fld) : Nat := f.hi + 1 - f.lo

/-- Read a field of a register word. -/
def Fld.get (f : Fld) (v : W64) : Nat := bitsOf v.toNat f.lo f.wid

/-- The bits of a field, as a mask over the register word. -/
def Fld.mask (f : Fld) : W64 := BitVec.ofNat 64 (2 ^ f.wid - 1) <<< f.lo

/-- Replace a field of a register word (the value taken modulo the field). -/
def Fld.put (f : Fld) (v : W64) (x : Nat) : W64 :=
  (v &&& ~~~ f.mask) ||| ((BitVec.ofNat 64 x <<< f.lo) &&& f.mask)

/-- The blocks of the register map (R15, R16, R336). -/
inductive Block where
  | glb | sv | tb | ptd | bch | nt | ft | ltd | lt | brg | hif | mbx | hcf | con | err
  deriving DecidableEq, Repr

/-- An index of a register array: the distance between neighbours and how many there are. -/
structure Dim where
  stride : Nat
  count : Nat
  deriving DecidableEq, Repr

/-- A register or register array: its name in the spec, block, first offset, indexes and fields. -/
structure RegDesc where
  name : String
  block : Block
  base : Nat
  dims : List Dim
  flds : List Fld
  deriving DecidableEq, Repr

/-! ## Addresses: the BAR0 offset of each register, by its indexes -/

/-- GLB_IDENT (R7). -/
def R.glbIdent : Nat := 0x00000000
/-- GLB_UNITSUM (R24). -/
def R.glbUnitsum : Nat := 0x00000008
/-- GLB_UNITMAP_PTD[n] (R25). -/
def R.glbUnitmapPtd (n : Nat) : Nat := 0x00001000 + 0x8 * n
/-- GLB_UNITMAP_LTD[n] (R26). -/
def R.glbUnitmapLtd (n : Nat) : Nat := 0x00001100 + 0x8 * n
/-- GLB_UNITMAP_BCH[n] (R27). -/
def R.glbUnitmapBch (n : Nat) : Nat := 0x00001200 + 0x8 * n
/-- GLB_PD[n] (R48). -/
def R.glbPd (n : Nat) : Nat := 0x00004000 + 0x8 * n
/-- GLB_THERM[n] (R53). -/
def R.glbTherm (n : Nat) : Nat := 0x00006000 + 0x8 * n
/-- GLB_IMGKEYST (R67). -/
def R.glbImgkeyst : Nat := 0x00000010
/-- SV_IMG_CTL (R72). -/
def R.svImgCtl : Nat := 0x00401000
/-- SV_IMG_STAT (R73). -/
def R.svImgStat : Nat := 0x00401008
/-- SV_IMG_ACT (R74). -/
def R.svImgAct : Nat := 0x00401010
/-- SV_IMG_DGST[i] (R75). -/
def R.svImgDgst (i : Nat) : Nat := 0x00401040 + 0x8 * i
/-- TB_TICK (R90). -/
def R.tbTick : Nat := 0x00100000
/-- TB_TURN (R90). -/
def R.tbTurn : Nat := 0x00100008
/-- TB_ORIGIN (R90). -/
def R.tbOrigin : Nat := 0x00100010
/-- TB_TURN_LEN (R90). -/
def R.tbTurnLen : Nat := 0x00100018
/-- TB_STAT (R90). -/
def R.tbStat : Nat := 0x00100020
/-- TB_PTP_CTL (R90). -/
def R.tbPtpCtl : Nat := 0x00100028
/-- TB_FREQ (R90). -/
def R.tbFreq : Nat := 0x00100030
/-- TB_STEP (R90). -/
def R.tbStep : Nat := 0x00100038
/-- PTD_LANE_CTL[n] (R120). -/
def R.ptdLaneCtl (d : Nat) (n : Nat) : Nat := 0x01000000 + 0x10000 * d + 0x8 * n
/-- PTD_LANE_STAT[n] (R120). -/
def R.ptdLaneStat (d : Nat) (n : Nat) : Nat := 0x01000200 + 0x10000 * d + 0x8 * n
/-- PTD_PORT_CTL[l] (R120). -/
def R.ptdPortCtl (d : Nat) (l : Nat) : Nat := 0x01000400 + 0x10000 * d + 0x8 * l
/-- PTD_PORT_STAT[l] (R120). -/
def R.ptdPortStat (d : Nat) (l : Nat) : Nat := 0x01000500 + 0x10000 * d + 0x8 * l
/-- PTD_SPARE (R120). -/
def R.ptdSpare (d : Nat) : Nat := 0x01000800 + 0x10000 * d
/-- PTD_PKT_LAST (R140). -/
def R.ptdPktLast (d : Nat) : Nat := 0x01000900 + 0x10000 * d
/-- PTD_REORD_CTL (R140). -/
def R.ptdReordCtl (d : Nat) : Nat := 0x01000908 + 0x10000 * d
/-- PTD_RTC_STAT (R140). -/
def R.ptdRtcStat (d : Nat) : Nat := 0x01000910 + 0x10000 * d
/-- BCH_POOL_STAT[p] (R161). -/
def R.bchPoolStat (d : Nat) (p : Nat) : Nat := 0x01800100 + 0x10000 * d + 0x8 * p
/-- BCH_PM_CHK (R161). -/
def R.bchPmChk (d : Nat) : Nat := 0x01800200 + 0x10000 * d
/-- BCH_PM_LAST (R161). -/
def R.bchPmLast (d : Nat) : Nat := 0x01800208 + 0x10000 * d
/-- BCH_RECLAIM (R161). -/
def R.bchReclaim (d : Nat) : Nat := 0x01800210 + 0x10000 * d
/-- BCH_SHAV_CTL (R161). -/
def R.bchShavCtl (d : Nat) : Nat := 0x01800300 + 0x10000 * d
/-- BCH_SHAV_STAT (R161). -/
def R.bchShavStat (d : Nat) : Nat := 0x01800308 + 0x10000 * d
/-- BCH_QDROP[q] (R161). -/
def R.bchQdrop (d : Nat) (q : Nat) : Nat := 0x01808000 + 0x10000 * d + 0x8 * q
/-- BCH_QDEPTH[q] (R161). -/
def R.bchQdepth (d : Nat) (q : Nat) : Nat := 0x01809000 + 0x10000 * d + 0x8 * q
/-- PTD_SCHED[l] (R177). -/
def R.ptdSched (d : Nat) (l : Nat) : Nat := 0x01002000 + 0x10000 * d + 0x8 * l
/-- PTD_GATE_STAT[l] (R177). -/
def R.ptdGateStat (d : Nat) (l : Nat) : Nat := 0x01002100 + 0x10000 * d + 0x8 * l
/-- PTD_POL_PROF_A[k] (R177). -/
def R.ptdPolProfA (d : Nat) (k : Nat) : Nat := 0x01002200 + 0x10000 * d + 0x10 * k
/-- PTD_POL_PROF_B[k] (R177). -/
def R.ptdPolProfB (d : Nat) (k : Nat) : Nat := 0x01002208 + 0x10000 * d + 0x10 * k
/-- PTD_POL_CFG[i] (R177). -/
def R.ptdPolCfg (d : Nat) (i : Nat) : Nat := 0x01004000 + 0x10000 * d + 0x10 * i
/-- PTD_POL_CNT[i] (R177). -/
def R.ptdPolCnt (d : Nat) (i : Nat) : Nat := 0x01004008 + 0x10000 * d + 0x10 * i
/-- BRG_ARB_STAT (R178). -/
def R.brgArbStat (b : Nat) : Nat := 0x01E00100 + 0x4000 * b
/-- LT_STAT (R220). -/
def R.ltStat (d : Nat) (p : Nat) : Nat := 0x01400000 + 0x20000 * d + 0x4000 * p
/-- LT_CTL (R220). -/
def R.ltCtl (d : Nat) (p : Nat) : Nat := 0x01400008 + 0x20000 * d + 0x4000 * p
/-- LT_SLOT[s] (R220). -/
def R.ltSlot (d : Nat) (p : Nat) (s : Nat) : Nat := 0x01400100 + 0x20000 * d + 0x4000 * p + 0x8 * s
/-- LT_WDOG_STAT (R220). -/
def R.ltWdogStat (d : Nat) (p : Nat) : Nat := 0x01400010 + 0x20000 * d + 0x4000 * p
/-- LT_PACE_STAT (R220). -/
def R.ltPaceStat (d : Nat) (p : Nat) : Nat := 0x01400018 + 0x20000 * d + 0x4000 * p
/-- LTD_CTX_CMD (R244). -/
def R.ltdCtxCmd (d : Nat) : Nat := 0x01414000 + 0x20000 * d
/-- LTD_CTX_STAT (R245). -/
def R.ltdCtxStat (d : Nat) : Nat := 0x01414008 + 0x20000 * d
/-- LT_FAULT_LAST (R263). -/
def R.ltFaultLast (d : Nat) (p : Nat) : Nat := 0x01400020 + 0x20000 * d + 0x4000 * p
/-- LT_FAULT_ADDR (R263). -/
def R.ltFaultAddr (d : Nat) (p : Nat) : Nat := 0x01400028 + 0x20000 * d + 0x4000 * p
/-- LT_FAULT_STAT (R263). -/
def R.ltFaultStat (d : Nat) (p : Nat) : Nat := 0x01400030 + 0x20000 * d + 0x4000 * p
/-- LTD_COLL_STAT (R287). -/
def R.ltdCollStat (d : Nat) : Nat := 0x01414010 + 0x20000 * d
/-- LT_SPARSE_STAT (R308). -/
def R.ltSparseStat (d : Nat) (p : Nat) : Nat := 0x01400038 + 0x20000 * d + 0x4000 * p
/-- LT_RESCHK (R321). -/
def R.ltReschk (d : Nat) (p : Nat) : Nat := 0x01400040 + 0x20000 * d + 0x4000 * p
/-- SV_JOB_BASE (R325). -/
def R.svJobBase : Nat := 0x00402000
/-- SV_JOB_CTL (R325). -/
def R.svJobCtl : Nat := 0x00402008
/-- SV_JOB_STAT (R325). -/
def R.svJobStat : Nat := 0x00402010
/-- SV_JOB_USE[j] (R325). -/
def R.svJobUse (j : Nat) : Nat := 0x00410000 + 0x10 * j
/-- SV_JOB_HIT[j] (R325). -/
def R.svJobHit (j : Nat) : Nat := 0x00410008 + 0x10 * j
/-- HIF_STAT (R339). -/
def R.hifStat : Nat := 0x00200000
/-- HIF_DROP (R339). -/
def R.hifDrop : Nat := 0x00200008
/-- HIF_OVR (R339). -/
def R.hifOvr : Nat := 0x00200010
/-- HIF_WIN (R341). -/
def R.hifWin : Nat := 0x00200018
/-- SV_DMA_STAT[c] (R344). -/
def R.svDmaStat (c : Nat) : Nat := 0x00403000 + 0x8 * c
/-- HCF_CTL (R347). -/
def R.hcfCtl : Nat := 0x00202010
/-- HCF_STAT (R347). -/
def R.hcfStat : Nat := 0x00202018
/-- HCF_PKTS (R347). -/
def R.hcfPkts : Nat := 0x00202020
/-- CON_CFG (R355). -/
def R.conCfg (s : Nat) : Nat := 0x00203000 + 0x100 * s
/-- CON_STAT (R355). -/
def R.conStat (s : Nat) : Nat := 0x00203008 + 0x100 * s
/-- SV_LEASE (R366). -/
def R.svLease : Nat := 0x00400000
/-- SV_LEASE_EXP (R366). -/
def R.svLeaseExp : Nat := 0x00400008
/-- SV_LEASE_CTL (R366). -/
def R.svLeaseCtl : Nat := 0x00400010
/-- SV_LEASE_LOG (R366). -/
def R.svLeaseLog : Nat := 0x00400018
/-- GLB_SV_CTL (R370). -/
def R.glbSvCtl : Nat := 0x00000100
/-- GLB_SV_STAT[s] (R370). -/
def R.glbSvStat (s : Nat) : Nat := 0x00000108 + 0x8 * s
/-- ERR_STAT (R381). -/
def R.errStat : Nat := 0x02000000
/-- ERR_ENTRY[i][k] (R381). -/
def R.errEntry (i : Nat) (k : Nat) : Nat := 0x02001000 + 0x20 * i + 0x8 * k
/-- GLB_ESC_CTL (R391). -/
def R.glbEscCtl : Nat := 0x00000200
/-- GLB_ESC_STAT (R391). -/
def R.glbEscStat : Nat := 0x00000208
/-- ERR_DUMP (R393). -/
def R.errDump : Nat := 0x02000008
/-- SV_EVT (R394). -/
def R.svEvt : Nat := 0x00404000
/-- SV_HEALTH (R397). -/
def R.svHealth : Nat := 0x00404008
/-- GLB_BOOT (R407). -/
def R.glbBoot : Nat := 0x00000300
/-- PTD_PKT_CNT0 (R140). -/
def R.ptdPktCnt0 (d : Nat) (l : Nat) : Nat := 0x01001000 + 0x10000 * d + 0x20 * l
/-- PTD_PKT_CNT1 (R140). -/
def R.ptdPktCnt1 (d : Nat) (l : Nat) : Nat := 0x01001008 + 0x10000 * d + 0x20 * l
/-- PTD_PKT_CNT2 (R140). -/
def R.ptdPktCnt2 (d : Nat) (l : Nat) : Nat := 0x01001010 + 0x10000 * d + 0x20 * l
/-- PTD_PKT_CNT3 (R140). -/
def R.ptdPktCnt3 (d : Nat) (l : Nat) : Nat := 0x01001018 + 0x10000 * d + 0x20 * l
/-- PTD_FENCE_STAT (R332). -/
def R.ptdFenceStat (d : Nat) : Nat := 0x0100FF00 + 0x10000 * d
/-- PTD_CFG_FENCE (R365). -/
def R.ptdCfgFence (d : Nat) : Nat := 0x0100FE00 + 0x10000 * d
/-- PTD_ERRQ_STAT (R378). -/
def R.ptdErrqStat (d : Nat) : Nat := 0x0100FD00 + 0x10000 * d
/-- PTD_ERRQ_HEAD (R378). -/
def R.ptdErrqHead (d : Nat) (k : Nat) : Nat := 0x0100FD08 + 0x10000 * d + 0x8 * k
/-- PTD_ERRQ_CTL (R378). -/
def R.ptdErrqCtl (d : Nat) : Nat := 0x0100FD28 + 0x10000 * d
/-- BCH_FENCE_STAT (R332). -/
def R.bchFenceStat (d : Nat) : Nat := 0x0180FF00 + 0x10000 * d
/-- BCH_CFG_FENCE (R365). -/
def R.bchCfgFence (d : Nat) : Nat := 0x0180FE00 + 0x10000 * d
/-- BCH_ERRQ_STAT (R378). -/
def R.bchErrqStat (d : Nat) : Nat := 0x0180FD00 + 0x10000 * d
/-- BCH_ERRQ_HEAD (R378). -/
def R.bchErrqHead (d : Nat) (k : Nat) : Nat := 0x0180FD08 + 0x10000 * d + 0x8 * k
/-- BCH_ERRQ_CTL (R378). -/
def R.bchErrqCtl (d : Nat) : Nat := 0x0180FD28 + 0x10000 * d
/-- NT_FENCE_STAT (R332). -/
def R.ntFenceStat (d : Nat) : Nat := 0x01A0FF00 + 0x10000 * d
/-- NT_CFG_FENCE (R365). -/
def R.ntCfgFence (d : Nat) : Nat := 0x01A0FE00 + 0x10000 * d
/-- NT_ERRQ_STAT (R378). -/
def R.ntErrqStat (d : Nat) : Nat := 0x01A0FD00 + 0x10000 * d
/-- NT_ERRQ_HEAD (R378). -/
def R.ntErrqHead (d : Nat) (k : Nat) : Nat := 0x01A0FD08 + 0x10000 * d + 0x8 * k
/-- NT_ERRQ_CTL (R378). -/
def R.ntErrqCtl (d : Nat) : Nat := 0x01A0FD28 + 0x10000 * d
/-- FT_FENCE_STAT (R332). -/
def R.ftFenceStat (d : Nat) : Nat := 0x01C0FF00 + 0x10000 * d
/-- FT_CFG_FENCE (R365). -/
def R.ftCfgFence (d : Nat) : Nat := 0x01C0FE00 + 0x10000 * d
/-- FT_ERRQ_STAT (R378). -/
def R.ftErrqStat (d : Nat) : Nat := 0x01C0FD00 + 0x10000 * d
/-- FT_ERRQ_HEAD (R378). -/
def R.ftErrqHead (d : Nat) (k : Nat) : Nat := 0x01C0FD08 + 0x10000 * d + 0x8 * k
/-- FT_ERRQ_CTL (R378). -/
def R.ftErrqCtl (d : Nat) : Nat := 0x01C0FD28 + 0x10000 * d
/-- LTD_FENCE_STAT (R332). -/
def R.ltdFenceStat (d : Nat) : Nat := 0x0141FF00 + 0x20000 * d
/-- LTD_CFG_FENCE (R365). -/
def R.ltdCfgFence (d : Nat) : Nat := 0x0141FE00 + 0x20000 * d
/-- LTD_ERRQ_STAT (R378). -/
def R.ltdErrqStat (d : Nat) : Nat := 0x0141FD00 + 0x20000 * d
/-- LTD_ERRQ_HEAD (R378). -/
def R.ltdErrqHead (d : Nat) (k : Nat) : Nat := 0x0141FD08 + 0x20000 * d + 0x8 * k
/-- LTD_ERRQ_CTL (R378). -/
def R.ltdErrqCtl (d : Nat) : Nat := 0x0141FD28 + 0x20000 * d
/-- BRG_CFG_FENCE (R365). -/
def R.brgCfgFence (b : Nat) : Nat := 0x01E03E00 + 0x4000 * b
/-- BRG_ERRQ_STAT (R378). -/
def R.brgErrqStat (b : Nat) : Nat := 0x01E03D00 + 0x4000 * b
/-- BRG_ERRQ_HEAD (R378). -/
def R.brgErrqHead (b : Nat) (k : Nat) : Nat := 0x01E03D08 + 0x4000 * b + 0x8 * k
/-- BRG_ERRQ_CTL (R378). -/
def R.brgErrqCtl (b : Nat) : Nat := 0x01E03D28 + 0x4000 * b
/-- GLB_CFG_FENCE (R365). -/
def R.glbCfgFence : Nat := 0x0000FE00
/-- GLB_ERRQ_STAT (R378). -/
def R.glbErrqStat (s : Nat) : Nat := 0x0000FD00 + 0x40 * s
/-- GLB_ERRQ_HEAD (R378). -/
def R.glbErrqHead (s : Nat) (k : Nat) : Nat := 0x0000FD08 + 0x40 * s + 0x8 * k
/-- GLB_ERRQ_CTL (R378). -/
def R.glbErrqCtl (s : Nat) : Nat := 0x0000FD28 + 0x40 * s
/-- SV_CFG_FENCE (R365). -/
def R.svCfgFence : Nat := 0x0040FE00
/-- SV_ERRQ_STAT (R378). -/
def R.svErrqStat (s : Nat) : Nat := 0x0040FD00 + 0x40 * s
/-- SV_ERRQ_HEAD (R378). -/
def R.svErrqHead (s : Nat) (k : Nat) : Nat := 0x0040FD08 + 0x40 * s + 0x8 * k
/-- SV_ERRQ_CTL (R378). -/
def R.svErrqCtl (s : Nat) : Nat := 0x0040FD28 + 0x40 * s
/-- CON_CAP (R355). -/
def R.conCap (s : Nat) : Nat := 0x00203010 + 0x100 * s
/-- CON_TXD (R355). -/
def R.conTxd (s : Nat) : Nat := 0x00203018 + 0x100 * s
/-- HCF_DATA (R347). -/
def R.hcfData : Nat := 0x00202000
/-- HCF_DATA_END (R347). -/
def R.hcfDataEnd : Nat := 0x00202008
/-- MBX_H2F (R349). -/
def R.mbxH2f (i : Nat) : Nat := 0x00201000 + 0x8 * i
/-- MBX_F2H (R349). -/
def R.mbxF2h (i : Nat) : Nat := 0x00201100 + 0x8 * i
/-- MBX_FULL (R349). -/
def R.mbxFull : Nat := 0x00201200
/-- MBX_ACK (R349). -/
def R.mbxAck (i : Nat) : Nat := 0x00201300 + 0x8 * i
/-- MBX_LOG (R349). -/
def R.mbxLog : Nat := 0x00201400

/-! ## Fields -/

/-- GLB_IDENT bits 63:48 (R7). -/
def F.GlbIdent.vendor : Fld := ⟨63, 48, .ro, 7996⟩
/-- GLB_IDENT bits 47:32 (R7). -/
def F.GlbIdent.device : Fld := ⟨47, 32, .ro, 2576⟩
/-- GLB_IDENT bits 23:20 (R7). -/
def F.GlbIdent.grade : Fld := ⟨23, 20, .ro, 0⟩
/-- GLB_IDENT bits 15:12 (R7). -/
def F.GlbIdent.stepLetter : Fld := ⟨15, 12, .ro, 0⟩
/-- GLB_IDENT bits 11:8 (R7). -/
def F.GlbIdent.stepDigit : Fld := ⟨11, 8, .ro, 0⟩
/-- GLB_UNITSUM bits 55:48 (R24). -/
def F.GlbUnitsum.lathesEnabled : Fld := ⟨55, 48, .ro, 0⟩
/-- GLB_UNITSUM bits 47:40 (R24). -/
def F.GlbUnitsum.lathesSpare : Fld := ⟨47, 40, .ro, 0⟩
/-- GLB_UNITSUM bits 39:32 (R24). -/
def F.GlbUnitsum.portDiesEnabled : Fld := ⟨39, 32, .ro, 0⟩
/-- GLB_UNITSUM bits 31:24 (R24). -/
def F.GlbUnitsum.ntPresent : Fld := ⟨31, 24, .ro, 0⟩
/-- GLB_UNITSUM bits 23:16 (R24). -/
def F.GlbUnitsum.spareLanesFree : Fld := ⟨23, 16, .ro, 0⟩
/-- GLB_UNITMAP_PTD[n] bits 63:63 (R25). -/
def F.GlbUnitmapPtd.dieOff : Fld := ⟨63, 63, .ro, 0⟩
/-- GLB_UNITMAP_PTD[n] bits 51:46 (R25). -/
def F.GlbUnitmapPtd.spareBFor : Fld := ⟨51, 46, .ro, 0⟩
/-- GLB_UNITMAP_PTD[n] bits 45:40 (R25). -/
def F.GlbUnitmapPtd.spareAFor : Fld := ⟨45, 40, .ro, 0⟩
/-- GLB_UNITMAP_PTD[n] bits 33:0 (R25). -/
def F.GlbUnitmapPtd.laneOff : Fld := ⟨33, 0, .ro, 0⟩
/-- GLB_UNITMAP_LTD[n] bits 9:0 (R26). -/
def F.GlbUnitmapLtd.role : Fld := ⟨9, 0, .ro, 0⟩
/-- GLB_UNITMAP_BCH[n] bits 28:24 (R27). -/
def F.GlbUnitmapBch.bg3Spare : Fld := ⟨28, 24, .ro, 0⟩
/-- GLB_UNITMAP_BCH[n] bits 20:16 (R27). -/
def F.GlbUnitmapBch.bg2Spare : Fld := ⟨20, 16, .ro, 0⟩
/-- GLB_UNITMAP_BCH[n] bits 12:8 (R27). -/
def F.GlbUnitmapBch.bg1Spare : Fld := ⟨12, 8, .ro, 0⟩
/-- GLB_UNITMAP_BCH[n] bits 4:0 (R27). -/
def F.GlbUnitmapBch.bg0Spare : Fld := ⟨4, 0, .ro, 0⟩
/-- GLB_PD[n] bits 47:40 (R48). -/
def F.GlbPd.vceil : Fld := ⟨47, 40, .ro, 0⟩
/-- GLB_PD[n] bits 39:32 (R48). -/
def F.GlbPd.vset : Fld := ⟨39, 32, .rw, 0⟩
/-- GLB_PD[n] bits 31:24 (R48). -/
def F.GlbPd.wakeUs : Fld := ⟨31, 24, .ro, 0⟩
/-- GLB_PD[n] bits 19:16 (R48). -/
def F.GlbPd.state : Fld := ⟨19, 16, .ro, 0⟩
/-- GLB_PD[n] bits 15:12 (R48). -/
def F.GlbPd.reason : Fld := ⟨15, 12, .ro, 0⟩
/-- GLB_PD[n] bits 5:5 (R48). -/
def F.GlbPd.lock : Fld := ⟨5, 5, .ro, 0⟩
/-- GLB_PD[n] bits 4:4 (R48). -/
def F.GlbPd.refused : Fld := ⟨4, 4, .w1c, 0⟩
/-- GLB_PD[n] bits 3:3 (R48). -/
def F.GlbPd.pending : Fld := ⟨3, 3, .ro, 0⟩
/-- GLB_PD[n] bits 1:0 (R48). -/
def F.GlbPd.req : Fld := ⟨1, 0, .rw, 0⟩
/-- GLB_THERM[n] bits 55:52 (R53). -/
def F.GlbTherm.trips : Fld := ⟨55, 52, .ro, 0⟩
/-- GLB_THERM[n] bits 47:32 (R53). -/
def F.GlbTherm.tmax : Fld := ⟨47, 32, .rc, 0⟩
/-- GLB_THERM[n] bits 31:16 (R53). -/
def F.GlbTherm.tnow : Fld := ⟨31, 16, .ro, 0⟩
/-- GLB_THERM[n] bits 11:8 (R53). -/
def F.GlbTherm.zone : Fld := ⟨11, 8, .ro, 0⟩
/-- GLB_THERM[n] bits 7:4 (R53). -/
def F.GlbTherm.duty : Fld := ⟨7, 4, .ro, 0⟩
/-- GLB_THERM[n] bits 3:0 (R53). -/
def F.GlbTherm.sensBad : Fld := ⟨3, 0, .ro, 0⟩
/-- GLB_IMGKEYST bits 55:48 (R67). -/
def F.GlbImgkeyst.minSec : Fld := ⟨55, 48, .ro, 0⟩
/-- GLB_IMGKEYST bits 7:4 (R67). -/
def F.GlbImgkeyst.revoked : Fld := ⟨7, 4, .ro, 0⟩
/-- GLB_IMGKEYST bits 3:0 (R67). -/
def F.GlbImgkeyst.programmed : Fld := ⟨3, 0, .ro, 0⟩
/-- SV_IMG_CTL bits 63:32 (R72). -/
def F.SvImgCtl.targetTurn : Fld := ⟨63, 32, .rw, 0⟩
/-- SV_IMG_CTL bits 3:0 (R72). -/
def F.SvImgCtl.cmd : Fld := ⟨3, 0, .wo, 0⟩
/-- SV_IMG_STAT bits 63:56 (R73). -/
def F.SvImgStat.fail : Fld := ⟨63, 56, .ro, 0⟩
/-- SV_IMG_STAT bits 47:32 (R73). -/
def F.SvImgStat.failSect : Fld := ⟨47, 32, .ro, 0⟩
/-- SV_IMG_STAT bits 31:16 (R73). -/
def F.SvImgStat.failEntry : Fld := ⟨31, 16, .ro, 0⟩
/-- SV_IMG_STAT bits 8:8 (R73). -/
def F.SvImgStat.cmdRefused : Fld := ⟨8, 8, .w1c, 0⟩
/-- SV_IMG_STAT bits 3:0 (R73). -/
def F.SvImgStat.state : Fld := ⟨3, 0, .ro, 0⟩
/-- SV_IMG_ACT bits 63:32 (R74). -/
def F.SvImgAct.actTurn : Fld := ⟨63, 32, .ro, 0⟩
/-- SV_IMG_ACT bits 31:16 (R74). -/
def F.SvImgAct.generation : Fld := ⟨31, 16, .ro, 0⟩
/-- SV_IMG_ACT bits 15:0 (R74). -/
def F.SvImgAct.actSec : Fld := ⟨15, 0, .ro, 0⟩
/-- SV_IMG_DGST[i] bits 63:0 (R75). -/
def F.SvImgDgst.digest : Fld := ⟨63, 0, .ro, 0⟩
/-- TB_TICK bits 63:0 (R90). -/
def F.TbTick.tick : Fld := ⟨63, 0, .ro, 0⟩
/-- TB_TURN bits 63:0 (R90). -/
def F.TbTurn.turn : Fld := ⟨63, 0, .ro, 0⟩
/-- TB_ORIGIN bits 63:0 (R90). -/
def F.TbOrigin.origin : Fld := ⟨63, 0, .ro, 0⟩
/-- TB_TURN_LEN bits 47:24 (R90). -/
def F.TbTurnLen.nextTicks : Fld := ⟨47, 24, .ro, 0⟩
/-- TB_TURN_LEN bits 23:0 (R90). -/
def F.TbTurnLen.ticks : Fld := ⟨23, 0, .ro, 100000⟩
/-- TB_STAT bits 47:40 (R90). -/
def F.TbStat.skewMax : Fld := ⟨47, 40, .rc, 0⟩
/-- TB_STAT bits 39:32 (R90). -/
def F.TbStat.skewDie : Fld := ⟨39, 32, .ro, 0⟩
/-- TB_STAT bits 15:14 (R90). -/
def F.TbStat.servo : Fld := ⟨15, 14, .rw, 0⟩
/-- TB_STAT bits 11:11 (R90). -/
def F.TbStat.adjRefused : Fld := ⟨11, 11, .w1c, 0⟩
/-- TB_STAT bits 10:10 (R90). -/
def F.TbStat.stepRefused : Fld := ⟨10, 10, .w1c, 0⟩
/-- TB_STAT bits 9:9 (R90). -/
def F.TbStat.skewErr : Fld := ⟨9, 9, .w1c, 0⟩
/-- TB_STAT bits 8:8 (R90). -/
def F.TbStat.refLost : Fld := ⟨8, 8, .w1c, 0⟩
/-- TB_STAT bits 7:7 (R90). -/
def F.TbStat.refOk : Fld := ⟨7, 7, .ro, 0⟩
/-- TB_STAT bits 4:4 (R90). -/
def F.TbStat.internalOsc : Fld := ⟨4, 4, .ro, 0⟩
/-- TB_STAT bits 3:3 (R90). -/
def F.TbStat.stepAllowed : Fld := ⟨3, 3, .ro, 1⟩
/-- TB_STAT bits 2:2 (R90). -/
def F.TbStat.stepPending : Fld := ⟨2, 2, .ro, 0⟩
/-- TB_STAT bits 1:1 (R90). -/
def F.TbStat.master : Fld := ⟨1, 1, .ro, 0⟩
/-- TB_STAT bits 0:0 (R90). -/
def F.TbStat.intAligned : Fld := ⟨0, 0, .ro, 0⟩
/-- TB_PTP_CTL bits 41:32 (R90). -/
def F.TbPtpCtl.port : Fld := ⟨41, 32, .rw, 0⟩
/-- TB_PTP_CTL bits 23:16 (R90). -/
def F.TbPtpCtl.domain : Fld := ⟨23, 16, .rw, 0⟩
/-- TB_PTP_CTL bits 0:0 (R90). -/
def F.TbPtpCtl.en : Fld := ⟨0, 0, .rw, 0⟩
/-- TB_FREQ bits 31:0 (R90). -/
def F.TbFreq.ppb : Fld := ⟨31, 0, .rw, 0⟩
/-- TB_STEP bits 63:0 (R90). -/
def F.TbStep.step : Fld := ⟨63, 0, .wo, 0⟩
/-- PTD_LANE_CTL[n] bits 3:0 (R120). -/
def F.PtdLaneCtl.cmd : Fld := ⟨3, 0, .wo, 0⟩
/-- PTD_LANE_STAT[n] bits 63:40 (R120). -/
def F.PtdLaneStat.cwCorr : Fld := ⟨63, 40, .rc, 0⟩
/-- PTD_LANE_STAT[n] bits 39:24 (R120). -/
def F.PtdLaneStat.cwUncorr : Fld := ⟨39, 24, .rc, 0⟩
/-- PTD_LANE_STAT[n] bits 23:20 (R120). -/
def F.PtdLaneStat.pendCmd : Fld := ⟨23, 20, .ro, 0⟩
/-- PTD_LANE_STAT[n] bits 19:19 (R120). -/
def F.PtdLaneStat.cmdSuperseded : Fld := ⟨19, 19, .w1c, 0⟩
/-- PTD_LANE_STAT[n] bits 18:18 (R120). -/
def F.PtdLaneStat.cmdRefused : Fld := ⟨18, 18, .w1c, 0⟩
/-- PTD_LANE_STAT[n] bits 17:17 (R120). -/
def F.PtdLaneStat.synthLock : Fld := ⟨17, 17, .ro, 0⟩
/-- PTD_LANE_STAT[n] bits 16:16 (R120). -/
def F.PtdLaneStat.sigDet : Fld := ⟨16, 16, .ro, 0⟩
/-- PTD_LANE_STAT[n] bits 11:8 (R120). -/
def F.PtdLaneStat.lstate : Fld := ⟨11, 8, .ro, 0⟩
/-- PTD_LANE_STAT[n] bits 5:0 (R120). -/
def F.PtdLaneStat.logical : Fld := ⟨5, 0, .ro, 0⟩
/-- PTD_PORT_CTL[l] bits 31:24 (R120). -/
def F.PtdPortCtl.holddownMs : Fld := ⟨31, 24, .rw, 10⟩
/-- PTD_PORT_CTL[l] bits 23:16 (R120). -/
def F.PtdPortCtl.retrainLimit : Fld := ⟨23, 16, .rw, 16⟩
/-- PTD_PORT_CTL[l] bits 9:8 (R120). -/
def F.PtdPortCtl.sparePath : Fld := ⟨9, 8, .rw, 0⟩
/-- PTD_PORT_CTL[l] bits 4:4 (R120). -/
def F.PtdPortCtl.adminDown : Fld := ⟨4, 4, .rw, 0⟩
/-- PTD_PORT_CTL[l] bits 3:0 (R120). -/
def F.PtdPortCtl.cmd : Fld := ⟨3, 0, .wo, 0⟩
/-- PTD_PORT_STAT[l] bits 63:56 (R120). -/
def F.PtdPortStat.flaps : Fld := ⟨63, 56, .rc, 0⟩
/-- PTD_PORT_STAT[l] bits 55:48 (R120). -/
def F.PtdPortStat.retrains : Fld := ⟨55, 48, .rc, 0⟩
/-- PTD_PORT_STAT[l] bits 47:40 (R120). -/
def F.PtdPortStat.collisions : Fld := ⟨47, 40, .rc, 0⟩
/-- PTD_PORT_STAT[l] bits 39:24 (R120). -/
def F.PtdPortStat.replays : Fld := ⟨39, 24, .rc, 0⟩
/-- PTD_PORT_STAT[l] bits 23:16 (R120). -/
def F.PtdPortStat.lanesActive : Fld := ⟨23, 16, .ro, 0⟩
/-- PTD_PORT_STAT[l] bits 15:15 (R120). -/
def F.PtdPortStat.peerSame : Fld := ⟨15, 15, .ro, 0⟩
/-- PTD_PORT_STAT[l] bits 14:14 (R120). -/
def F.PtdPortStat.cmdRefused : Fld := ⟨14, 14, .w1c, 0⟩
/-- PTD_PORT_STAT[l] bits 13:12 (R120). -/
def F.PtdPortStat.fec : Fld := ⟨13, 12, .ro, 0⟩
/-- PTD_PORT_STAT[l] bits 11:11 (R120). -/
def F.PtdPortStat.rateNow : Fld := ⟨11, 11, .ro, 0⟩
/-- PTD_PORT_STAT[l] bits 10:8 (R120). -/
def F.PtdPortStat.widthNow : Fld := ⟨10, 8, .ro, 0⟩
/-- PTD_PORT_STAT[l] bits 3:0 (R120). -/
def F.PtdPortStat.state : Fld := ⟨3, 0, .ro, 0⟩
/-- PTD_SPARE bits 39:38 (R120). -/
def F.PtdSpare.bState : Fld := ⟨39, 38, .ro, 0⟩
/-- PTD_SPARE bits 37:32 (R120). -/
def F.PtdSpare.bFor : Fld := ⟨37, 32, .ro, 0⟩
/-- PTD_SPARE bits 31:30 (R120). -/
def F.PtdSpare.aState : Fld := ⟨31, 30, .ro, 0⟩
/-- PTD_SPARE bits 29:24 (R120). -/
def F.PtdSpare.aFor : Fld := ⟨29, 24, .ro, 0⟩
/-- PTD_SPARE bits 15:15 (R120). -/
def F.PtdSpare.cmdRefused : Fld := ⟨15, 15, .w1c, 0⟩
/-- PTD_SPARE bits 12:12 (R120). -/
def F.PtdSpare.spare : Fld := ⟨12, 12, .wo, 0⟩
/-- PTD_SPARE bits 9:5 (R120). -/
def F.PtdSpare.lane : Fld := ⟨9, 5, .wo, 0⟩
/-- PTD_SPARE bits 3:0 (R120). -/
def F.PtdSpare.cmd : Fld := ⟨3, 0, .wo, 0⟩
/-- PTD_PKT_LAST bits 63:48 (R140). -/
def F.PtdPktLast.job : Fld := ⟨63, 48, .ro, 0⟩
/-- PTD_PKT_LAST bits 47:40 (R140). -/
def F.PtdPktLast.opcode : Fld := ⟨47, 40, .ro, 0⟩
/-- PTD_PKT_LAST bits 39:36 (R140). -/
def F.PtdPktLast.reason : Fld := ⟨39, 36, .ro, 0⟩
/-- PTD_PKT_LAST bits 28:24 (R140). -/
def F.PtdPktLast.portLane : Fld := ⟨28, 24, .ro, 0⟩
/-- PTD_PKT_LAST bits 23:0 (R140). -/
def F.PtdPktLast.stampLo : Fld := ⟨23, 0, .ro, 0⟩
/-- PTD_REORD_CTL bits 47:32 (R140). -/
def F.PtdReordCtl.heldMax : Fld := ⟨47, 32, .rc, 0⟩
/-- PTD_REORD_CTL bits 31:16 (R140). -/
def F.PtdReordCtl.held : Fld := ⟨31, 16, .ro, 0⟩
/-- PTD_REORD_CTL bits 15:0 (R140). -/
def F.PtdReordCtl.timeoutUs : Fld := ⟨15, 0, .rw, 20⟩
/-- PTD_RTC_STAT bits 63:32 (R140). -/
def F.PtdRtcStat.misses : Fld := ⟨63, 32, .rc, 0⟩
/-- PTD_RTC_STAT bits 31:16 (R140). -/
def F.PtdRtcStat.tc7Miss : Fld := ⟨31, 16, .rc, 0⟩
/-- PTD_RTC_STAT bits 12:0 (R140). -/
def F.PtdRtcStat.pinned : Fld := ⟨12, 0, .ro, 0⟩
/-- BCH_POOL_STAT[p] bits 55:34 (R161). -/
def F.BchPoolStat.occMax : Fld := ⟨55, 34, .rc, 0⟩
/-- BCH_POOL_STAT[p] bits 33:12 (R161). -/
def F.BchPoolStat.occ : Fld := ⟨33, 12, .ro, 0⟩
/-- BCH_POOL_STAT[p] bits 6:4 (R161). -/
def F.BchPoolStat.level : Fld := ⟨6, 4, .ro, 0⟩
/-- BCH_PM_CHK bits 59:48 (R161). -/
def F.BchPmChk.align : Fld := ⟨59, 48, .rc, 0⟩
/-- BCH_PM_CHK bits 47:36 (R161). -/
def F.BchPmChk.range : Fld := ⟨47, 36, .rc, 0⟩
/-- BCH_PM_CHK bits 35:24 (R161). -/
def F.BchPmChk.double : Fld := ⟨35, 24, .rc, 0⟩
/-- BCH_PM_CHK bits 23:12 (R161). -/
def F.BchPmChk.owner : Fld := ⟨23, 12, .rc, 0⟩
/-- BCH_PM_CHK bits 11:0 (R161). -/
def F.BchPmChk.stale : Fld := ⟨11, 0, .rc, 0⟩
/-- BCH_PM_LAST bits 63:53 (R161). -/
def F.BchPmLast.req : Fld := ⟨63, 53, .ro, 0⟩
/-- BCH_PM_LAST bits 52:50 (R161). -/
def F.BchPmLast.cause : Fld := ⟨52, 50, .ro, 0⟩
/-- BCH_PM_LAST bits 49:27 (R161). -/
def F.BchPmLast.pointer : Fld := ⟨49, 27, .ro, 0⟩
/-- BCH_PM_LAST bits 23:0 (R161). -/
def F.BchPmLast.stampLo : Fld := ⟨23, 0, .ro, 0⟩
/-- BCH_RECLAIM bits 63:48 (R161). -/
def F.BchReclaim.grains : Fld := ⟨63, 48, .ro, 0⟩
/-- BCH_RECLAIM bits 47:44 (R161). -/
def F.BchReclaim.epoch : Fld := ⟨47, 44, .ro, 0⟩
/-- BCH_RECLAIM bits 39:39 (R161). -/
def F.BchReclaim.busy : Fld := ⟨39, 39, .ro, 0⟩
/-- BCH_RECLAIM bits 38:38 (R161). -/
def F.BchReclaim.cmdRefused : Fld := ⟨38, 38, .w1c, 0⟩
/-- BCH_RECLAIM bits 37:27 (R161). -/
def F.BchReclaim.lastReq : Fld := ⟨37, 27, .ro, 0⟩
/-- BCH_RECLAIM bits 26:16 (R161). -/
def F.BchReclaim.req : Fld := ⟨26, 16, .wo, 0⟩
/-- BCH_RECLAIM bits 3:0 (R161). -/
def F.BchReclaim.cmd : Fld := ⟨3, 0, .wo, 0⟩
/-- BCH_SHAV_CTL bits 63:48 (R161). -/
def F.BchShavCtl.mirrorJob : Fld := ⟨63, 48, .rw, 0⟩
/-- BCH_SHAV_CTL bits 47:47 (R161). -/
def F.BchShavCtl.mirrorEn : Fld := ⟨47, 47, .rw, 0⟩
/-- BCH_SHAV_CTL bits 46:46 (R161). -/
def F.BchShavCtl.captureDrops : Fld := ⟨46, 46, .rw, 0⟩
/-- BCH_SHAV_CTL bits 39:32 (R161). -/
def F.BchShavCtl.archGib : Fld := ⟨39, 32, .rw, 0⟩
/-- BCH_SHAV_CTL bits 4:0 (R161). -/
def F.BchShavCtl.sampleLog2 : Fld := ⟨4, 0, .rw, 0⟩
/-- BCH_SHAV_STAT bits 63:32 (R161). -/
def F.BchShavStat.nextSeq : Fld := ⟨63, 32, .ro, 0⟩
/-- BCH_SHAV_STAT bits 31:16 (R161). -/
def F.BchShavStat.lost : Fld := ⟨31, 16, .rc, 0⟩
/-- BCH_SHAV_STAT bits 15:0 (R161). -/
def F.BchShavStat.missed : Fld := ⟨15, 0, .rc, 0⟩
/-- BCH_QDROP[q] bits 63:48 (R161). -/
def F.BchQdrop.pushed : Fld := ⟨63, 48, .rc, 0⟩
/-- BCH_QDROP[q] bits 47:32 (R161). -/
def F.BchQdrop.tail : Fld := ⟨47, 32, .rc, 0⟩
/-- BCH_QDROP[q] bits 31:16 (R161). -/
def F.BchQdrop.aged : Fld := ⟨31, 16, .rc, 0⟩
/-- BCH_QDROP[q] bits 15:0 (R161). -/
def F.BchQdrop.flush : Fld := ⟨15, 0, .rc, 0⟩
/-- BCH_QDEPTH[q] bits 63:32 (R161). -/
def F.BchQdepth.spilled : Fld := ⟨63, 32, .ro, 0⟩
/-- BCH_QDEPTH[q] bits 21:0 (R161). -/
def F.BchQdepth.depth : Fld := ⟨21, 0, .ro, 0⟩
/-- PTD_SCHED[l] bits 59:48 (R177). -/
def F.PtdSched.qTc4 : Fld := ⟨59, 48, .rw, 257⟩
/-- PTD_SCHED[l] bits 47:36 (R177). -/
def F.PtdSched.qTc3 : Fld := ⟨47, 36, .rw, 257⟩
/-- PTD_SCHED[l] bits 35:24 (R177). -/
def F.PtdSched.qTc2 : Fld := ⟨35, 24, .rw, 257⟩
/-- PTD_SCHED[l] bits 23:12 (R177). -/
def F.PtdSched.qTc1 : Fld := ⟨23, 12, .rw, 257⟩
/-- PTD_SCHED[l] bits 11:0 (R177). -/
def F.PtdSched.qTc0 : Fld := ⟨11, 0, .rw, 257⟩
/-- PTD_GATE_STAT[l] bits 63:48 (R177). -/
def F.PtdGateStat.gateNever : Fld := ⟨63, 48, .rc, 0⟩
/-- PTD_GATE_STAT[l] bits 47:32 (R177). -/
def F.PtdGateStat.gateOverrun : Fld := ⟨47, 32, .rc, 0⟩
/-- PTD_GATE_STAT[l] bits 15:8 (R177). -/
def F.PtdGateStat.entry : Fld := ⟨15, 8, .ro, 0⟩
/-- PTD_GATE_STAT[l] bits 5:0 (R177). -/
def F.PtdGateStat.openBits : Fld := ⟨5, 0, .ro, 63⟩
/-- PTD_POL_PROF_A[k] bits 48:40 (R177). -/
def F.PtdPolProfA.overhead : Fld := ⟨48, 40, .rw, 0⟩
/-- PTD_POL_PROF_A[k] bits 39:20 (R177). -/
def F.PtdPolProfA.pir : Fld := ⟨39, 20, .rw, 0⟩
/-- PTD_POL_PROF_A[k] bits 19:0 (R177). -/
def F.PtdPolProfA.cir : Fld := ⟨19, 0, .rw, 0⟩
/-- PTD_POL_PROF_B[k] bits 63:63 (R177). -/
def F.PtdPolProfB.clamped : Fld := ⟨63, 63, .w1c, 0⟩
/-- PTD_POL_PROF_B[k] bits 47:24 (R177). -/
def F.PtdPolProfB.pbs : Fld := ⟨47, 24, .rw, 0⟩
/-- PTD_POL_PROF_B[k] bits 23:0 (R177). -/
def F.PtdPolProfB.cbs : Fld := ⟨23, 0, .rw, 0⟩
/-- PTD_POL_CFG[i] bits 63:63 (R177). -/
def F.PtdPolCfg.en : Fld := ⟨63, 63, .rw, 0⟩
/-- PTD_POL_CFG[i] bits 62:62 (R177). -/
def F.PtdPolCfg.jobAny : Fld := ⟨62, 62, .rw, 0⟩
/-- PTD_POL_CFG[i] bits 61:61 (R177). -/
def F.PtdPolCfg.scale : Fld := ⟨61, 61, .rw, 0⟩
/-- PTD_POL_CFG[i] bits 60:55 (R177). -/
def F.PtdPolCfg.profile : Fld := ⟨60, 55, .rw, 0⟩
/-- PTD_POL_CFG[i] bits 54:50 (R177). -/
def F.PtdPolCfg.portLane : Fld := ⟨54, 50, .rw, 0⟩
/-- PTD_POL_CFG[i] bits 49:42 (R177). -/
def F.PtdPolCfg.classMask : Fld := ⟨49, 42, .rw, 0⟩
/-- PTD_POL_CFG[i] bits 41:26 (R177). -/
def F.PtdPolCfg.job : Fld := ⟨41, 26, .rw, 0⟩
/-- PTD_POL_CNT[i] bits 63:40 (R177). -/
def F.PtdPolCnt.green : Fld := ⟨63, 40, .rc, 0⟩
/-- PTD_POL_CNT[i] bits 39:20 (R177). -/
def F.PtdPolCnt.yellow : Fld := ⟨39, 20, .rc, 0⟩
/-- PTD_POL_CNT[i] bits 19:0 (R177). -/
def F.PtdPolCnt.red : Fld := ⟨19, 0, .rc, 0⟩
/-- BRG_ARB_STAT bits 63:48 (R178). -/
def F.BrgArbStat.tc7WaitMax : Fld := ⟨63, 48, .rc, 0⟩
/-- BRG_ARB_STAT bits 47:32 (R178). -/
def F.BrgArbStat.resvUnused : Fld := ⟨47, 32, .rc, 0⟩
/-- BRG_ARB_STAT bits 31:16 (R178). -/
def F.BrgArbStat.retries : Fld := ⟨31, 16, .rc, 0⟩
/-- LT_STAT bits 63:56 (R220). -/
def F.LtStat.logical : Fld := ⟨63, 56, .ro, 0⟩
/-- LT_STAT bits 55:52 (R220). -/
def F.LtStat.role : Fld := ⟨55, 52, .ro, 0⟩
/-- LT_STAT bits 51:47 (R220). -/
def F.LtStat.resident : Fld := ⟨51, 47, .ro, 0⟩
/-- LT_STAT bits 46:42 (R220). -/
def F.LtStat.holder : Fld := ⟨46, 42, .ro, 31⟩
/-- LT_STAT bits 34:34 (R220). -/
def F.LtStat.busy : Fld := ⟨34, 34, .ro, 0⟩
/-- LT_STAT bits 33:33 (R220). -/
def F.LtStat.cmdRefused : Fld := ⟨33, 33, .w1c, 0⟩
/-- LT_STAT bits 32:32 (R220). -/
def F.LtStat.dutyLimited : Fld := ⟨32, 32, .ro, 0⟩
/-- LT_STAT bits 31:16 (R220). -/
def F.LtStat.pending : Fld := ⟨31, 16, .ro, 0⟩
/-- LT_STAT bits 8:0 (R220). -/
def F.LtStat.freePages : Fld := ⟨8, 0, .ro, 400⟩
/-- LT_CTL bits 47:34 (R220). -/
def F.LtCtl.ctx : Fld := ⟨47, 34, .wo, 0⟩
/-- LT_CTL bits 33:30 (R220). -/
def F.LtCtl.slot : Fld := ⟨33, 30, .wo, 0⟩
/-- LT_CTL bits 29:22 (R220). -/
def F.LtCtl.target : Fld := ⟨29, 22, .wo, 0⟩
/-- LT_CTL bits 3:0 (R220). -/
def F.LtCtl.cmd : Fld := ⟨3, 0, .wo, 0⟩
/-- LT_SLOT[s] bits 63:63 (R220). -/
def F.LtSlot.validNow : Fld := ⟨63, 63, .ro, 0⟩
/-- LT_SLOT[s] bits 62:62 (R220). -/
def F.LtSlot.validNext : Fld := ⟨62, 62, .rw, 0⟩
/-- LT_SLOT[s] bits 61:48 (R220). -/
def F.LtSlot.ctxNow : Fld := ⟨61, 48, .ro, 0⟩
/-- LT_SLOT[s] bits 45:32 (R220). -/
def F.LtSlot.ctxNext : Fld := ⟨45, 32, .rw, 0⟩
/-- LT_SLOT[s] bits 31:0 (R220). -/
def F.LtSlot.grantTicks : Fld := ⟨31, 0, .rc, 0⟩
/-- LT_WDOG_STAT bits 63:48 (R220). -/
def F.LtWdogStat.bites : Fld := ⟨63, 48, .rc, 0⟩
/-- LT_WDOG_STAT bits 47:32 (R220). -/
def F.LtWdogStat.revokes : Fld := ⟨47, 32, .rc, 0⟩
/-- LT_WDOG_STAT bits 31:18 (R220). -/
def F.LtWdogStat.lastCtx : Fld := ⟨31, 18, .ro, 0⟩
/-- LT_WDOG_STAT bits 17:0 (R220). -/
def F.LtWdogStat.lastStamp : Fld := ⟨17, 0, .ro, 0⟩
/-- LT_PACE_STAT bits 63:32 (R220). -/
def F.LtPaceStat.slipTicks : Fld := ⟨63, 32, .rc, 0⟩
/-- LT_PACE_STAT bits 31:16 (R220). -/
def F.LtPaceStat.slips : Fld := ⟨31, 16, .rc, 0⟩
/-- LTD_CTX_CMD bits 47:34 (R244). -/
def F.LtdCtxCmd.ctx : Fld := ⟨47, 34, .wo, 0⟩
/-- LTD_CTX_CMD bits 33:29 (R244). -/
def F.LtdCtxCmd.slot : Fld := ⟨33, 29, .wo, 0⟩
/-- LTD_CTX_CMD bits 28:26 (R244). -/
def F.LtdCtxCmd.phys : Fld := ⟨28, 26, .wo, 0⟩
/-- LTD_CTX_CMD bits 3:0 (R244). -/
def F.LtdCtxCmd.cmd : Fld := ⟨3, 0, .wo, 0⟩
/-- LTD_CTX_STAT bits 63:50 (R245). -/
def F.LtdCtxStat.lastCtx : Fld := ⟨63, 50, .ro, 0⟩
/-- LTD_CTX_STAT bits 49:46 (R245). -/
def F.LtdCtxStat.lastCmd : Fld := ⟨49, 46, .ro, 0⟩
/-- LTD_CTX_STAT bits 45:42 (R245). -/
def F.LtdCtxStat.result : Fld := ⟨45, 42, .ro, 0⟩
/-- LTD_CTX_STAT bits 33:33 (R245). -/
def F.LtdCtxStat.busy : Fld := ⟨33, 33, .ro, 0⟩
/-- LTD_CTX_STAT bits 32:32 (R245). -/
def F.LtdCtxStat.cmdRefused : Fld := ⟨32, 32, .w1c, 0⟩
/-- LTD_CTX_STAT bits 31:16 (R245). -/
def F.LtdCtxStat.starts : Fld := ⟨31, 16, .rc, 0⟩
/-- LT_FAULT_LAST bits 63:50 (R263). -/
def F.LtFaultLast.ctx : Fld := ⟨63, 50, .ro, 0⟩
/-- LT_FAULT_LAST bits 49:42 (R263). -/
def F.LtFaultLast.fault : Fld := ⟨49, 42, .ro, 0⟩
/-- LT_FAULT_LAST bits 41:39 (R263). -/
def F.LtFaultLast.slotKind : Fld := ⟨41, 39, .ro, 7⟩
/-- LT_FAULT_LAST bits 38:22 (R263). -/
def F.LtFaultLast.pc : Fld := ⟨38, 22, .ro, 0⟩
/-- LT_FAULT_LAST bits 21:0 (R263). -/
def F.LtFaultLast.stampLo : Fld := ⟨21, 0, .ro, 0⟩
/-- LT_FAULT_ADDR bits 63:63 (R263). -/
def F.LtFaultAddr.valid : Fld := ⟨63, 63, .ro, 0⟩
/-- LT_FAULT_ADDR bits 62:62 (R263). -/
def F.LtFaultAddr.wr : Fld := ⟨62, 62, .ro, 0⟩
/-- LT_FAULT_ADDR bits 61:59 (R263). -/
def F.LtFaultAddr.win : Fld := ⟨61, 59, .ro, 0⟩
/-- LT_FAULT_ADDR bits 58:48 (R263). -/
def F.LtFaultAddr.size : Fld := ⟨58, 48, .ro, 0⟩
/-- LT_FAULT_ADDR bits 39:0 (R263). -/
def F.LtFaultAddr.offset : Fld := ⟨39, 0, .ro, 0⟩
/-- LT_FAULT_STAT bits 63:48 (R263). -/
def F.LtFaultStat.faults : Fld := ⟨63, 48, .rc, 0⟩
/-- LT_FAULT_STAT bits 47:32 (R263). -/
def F.LtFaultStat.undef : Fld := ⟨47, 32, .rc, 0⟩
/-- LT_FAULT_STAT bits 31:16 (R263). -/
def F.LtFaultStat.loads : Fld := ⟨31, 16, .rc, 0⟩
/-- LT_FAULT_STAT bits 15:0 (R263). -/
def F.LtFaultStat.loadFails : Fld := ⟨15, 0, .rc, 0⟩
/-- LTD_COLL_STAT bits 63:52 (R287). -/
def F.LtdCollStat.stale : Fld := ⟨63, 52, .rc, 0⟩
/-- LTD_COLL_STAT bits 51:40 (R287). -/
def F.LtdCollStat.dup : Fld := ⟨51, 40, .rc, 0⟩
/-- LTD_COLL_STAT bits 39:28 (R287). -/
def F.LtdCollStat.refused : Fld := ⟨39, 28, .rc, 0⟩
/-- LTD_COLL_STAT bits 27:16 (R287). -/
def F.LtdCollStat.dead : Fld := ⟨27, 16, .rc, 0⟩
/-- LTD_COLL_STAT bits 15:4 (R287). -/
def F.LtdCollStat.aborts : Fld := ⟨15, 4, .rc, 0⟩
/-- LT_SPARSE_STAT bits 63:52 (R308). -/
def F.LtSparseStat.pairMask : Fld := ⟨63, 52, .rc, 0⟩
/-- LT_SPARSE_STAT bits 51:40 (R308). -/
def F.LtSparseStat.overfill : Fld := ⟨51, 40, .rc, 0⟩
/-- LT_SPARSE_STAT bits 39:28 (R308). -/
def F.LtSparseStat.span : Fld := ⟨39, 28, .rc, 0⟩
/-- LT_SPARSE_STAT bits 27:16 (R308). -/
def F.LtSparseStat.wrap : Fld := ⟨27, 16, .rc, 0⟩
/-- LT_SPARSE_STAT bits 15:4 (R308). -/
def F.LtSparseStat.unsorted : Fld := ⟨15, 4, .rc, 0⟩
/-- LT_RESCHK bits 63:48 (R321). -/
def F.LtReschk.laneRetry : Fld := ⟨63, 48, .rc, 0⟩
/-- LT_RESCHK bits 47:32 (R321). -/
def F.LtReschk.accRetry : Fld := ⟨47, 32, .rc, 0⟩
/-- LT_RESCHK bits 31:16 (R321). -/
def F.LtReschk.burred : Fld := ⟨31, 16, .rc, 0⟩
/-- LT_RESCHK bits 0:0 (R321). -/
def F.LtReschk.en : Fld := ⟨0, 0, .rw, 1⟩
/-- SV_JOB_BASE bits 47:0 (R325). -/
def F.SvJobBase.base : Fld := ⟨47, 0, .rw, 0⟩
/-- SV_JOB_CTL bits 47:32 (R325). -/
def F.SvJobCtl.job : Fld := ⟨47, 32, .wo, 0⟩
/-- SV_JOB_CTL bits 3:0 (R325). -/
def F.SvJobCtl.cmd : Fld := ⟨3, 0, .wo, 0⟩
/-- SV_JOB_STAT bits 63:48 (R325). -/
def F.SvJobStat.lastJob : Fld := ⟨63, 48, .ro, 0⟩
/-- SV_JOB_STAT bits 47:44 (R325). -/
def F.SvJobStat.lastCmd : Fld := ⟨47, 44, .ro, 0⟩
/-- SV_JOB_STAT bits 43:40 (R325). -/
def F.SvJobStat.result : Fld := ⟨43, 40, .ro, 0⟩
/-- SV_JOB_STAT bits 28:16 (R325). -/
def F.SvJobStat.admitted : Fld := ⟨28, 16, .ro, 0⟩
/-- SV_JOB_STAT bits 1:1 (R325). -/
def F.SvJobStat.cmdRefused : Fld := ⟨1, 1, .w1c, 0⟩
/-- SV_JOB_STAT bits 0:0 (R325). -/
def F.SvJobStat.busy : Fld := ⟨0, 0, .ro, 0⟩
/-- SV_JOB_USE[j] bits 63:41 (R325). -/
def F.SvJobUse.grains : Fld := ⟨63, 41, .ro, 0⟩
/-- SV_JOB_USE[j] bits 40:26 (R325). -/
def F.SvJobUse.contexts : Fld := ⟨40, 26, .ro, 0⟩
/-- SV_JOB_USE[j] bits 23:20 (R325). -/
def F.SvJobUse.state : Fld := ⟨23, 20, .ro, 0⟩
/-- SV_JOB_USE[j] bits 19:0 (R325). -/
def F.SvJobUse.slotTurn : Fld := ⟨19, 0, .ro, 0⟩
/-- SV_JOB_HIT[j] bits 63:48 (R325). -/
def F.SvJobHit.grainHit : Fld := ⟨63, 48, .rc, 0⟩
/-- SV_JOB_HIT[j] bits 47:32 (R325). -/
def F.SvJobHit.slotHit : Fld := ⟨47, 32, .rc, 0⟩
/-- SV_JOB_HIT[j] bits 31:16 (R325). -/
def F.SvJobHit.polHit : Fld := ⟨31, 16, .rc, 0⟩
/-- SV_JOB_HIT[j] bits 15:0 (R325). -/
def F.SvJobHit.ctxHit : Fld := ⟨15, 0, .rc, 0⟩
/-- HIF_STAT bits 63:56 (R339). -/
def F.HifStat.flrs : Fld := ⟨63, 56, .rc, 0⟩
/-- HIF_STAT bits 55:48 (R339). -/
def F.HifStat.persts : Fld := ⟨55, 48, .rc, 0⟩
/-- HIF_STAT bits 39:36 (R339). -/
def F.HifStat.speed : Fld := ⟨39, 36, .ro, 0⟩
/-- HIF_STAT bits 35:32 (R339). -/
def F.HifStat.width : Fld := ⟨35, 32, .ro, 0⟩
/-- HIF_STAT bits 9:8 (R339). -/
def F.HifStat.dState : Fld := ⟨9, 8, .ro, 0⟩
/-- HIF_STAT bits 2:2 (R339). -/
def F.HifStat.bme : Fld := ⟨2, 2, .ro, 0⟩
/-- HIF_STAT bits 1:1 (R339). -/
def F.HifStat.mse : Fld := ⟨1, 1, .ro, 0⟩
/-- HIF_STAT bits 0:0 (R339). -/
def F.HifStat.standby : Fld := ⟨0, 0, .ro, 0⟩
/-- HIF_DROP bits 63:54 (R339). -/
def F.HifDrop.wrDeny : Fld := ⟨63, 54, .rc, 0⟩
/-- HIF_DROP bits 53:44 (R339). -/
def F.HifDrop.wrSize : Fld := ⟨53, 44, .rc, 0⟩
/-- HIF_DROP bits 43:34 (R339). -/
def F.HifDrop.rdBad : Fld := ⟨43, 34, .rc, 0⟩
/-- HIF_DROP bits 33:33 (R339). -/
def F.HifDrop.lastBar : Fld := ⟨33, 33, .ro, 0⟩
/-- HIF_DROP bits 32:30 (R339). -/
def F.HifDrop.lastKind : Fld := ⟨32, 30, .ro, 0⟩
/-- HIF_DROP bits 29:0 (R339). -/
def F.HifDrop.lastOff : Fld := ⟨29, 0, .ro, 0⟩
/-- HIF_OVR bits 63:32 (R339). -/
def F.HifOvr.term : Fld := ⟨63, 32, .ro, 0⟩
/-- HIF_OVR bits 0:0 (R339). -/
def F.HifOvr.grant : Fld := ⟨0, 0, .ro, 0⟩
/-- HIF_WIN bits 62:62 (R341). -/
def F.HifWin.wr : Fld := ⟨62, 62, .ro, 0⟩
/-- HIF_WIN bits 61:60 (R341). -/
def F.HifWin.tier : Fld := ⟨61, 60, .ro, 0⟩
/-- HIF_WIN bits 58:48 (R341). -/
def F.HifWin.lenMib : Fld := ⟨58, 48, .ro, 0⟩
/-- HIF_WIN bits 47:20 (R341). -/
def F.HifWin.base : Fld := ⟨47, 20, .ro, 0⟩
/-- SV_DMA_STAT[c] bits 63:60 (R344). -/
def F.SvDmaStat.state : Fld := ⟨63, 60, .ro, 0⟩
/-- SV_DMA_STAT[c] bits 59:56 (R344). -/
def F.SvDmaStat.err : Fld := ⟨59, 56, .ro, 0⟩
/-- SV_DMA_STAT[c] bits 55:48 (R344). -/
def F.SvDmaStat.outstanding : Fld := ⟨55, 48, .ro, 0⟩
/-- SV_DMA_STAT[c] bits 39:0 (R344). -/
def F.SvDmaStat.bytes : Fld := ⟨39, 0, .ro, 0⟩
/-- HCF_CTL bits 0:0 (R347). -/
def F.HcfCtl.flush : Fld := ⟨0, 0, .wo, 0⟩
/-- HCF_STAT bits 63:48 (R347). -/
def F.HcfStat.overruns : Fld := ⟨63, 48, .rc, 0⟩
/-- HCF_STAT bits 47:32 (R347). -/
def F.HcfStat.parity : Fld := ⟨47, 32, .rc, 0⟩
/-- HCF_STAT bits 21:12 (R347). -/
def F.HcfStat.level : Fld := ⟨21, 12, .ro, 0⟩
/-- HCF_STAT bits 2:2 (R347). -/
def F.HcfStat.openBits : Fld := ⟨2, 2, .ro, 0⟩
/-- HCF_STAT bits 1:1 (R347). -/
def F.HcfStat.overrun : Fld := ⟨1, 1, .w1c, 0⟩
/-- HCF_STAT bits 0:0 (R347). -/
def F.HcfStat.full : Fld := ⟨0, 0, .ro, 0⟩
/-- HCF_PKTS bits 9:0 (R347). -/
def F.HcfPkts.pkts : Fld := ⟨9, 0, .ro, 0⟩
/-- CON_CFG bits 31:16 (R355). -/
def F.ConCfg.div : Fld := ⟨31, 16, .rw, 104⟩
/-- CON_CFG bits 4:4 (R355). -/
def F.ConCfg.stop2 : Fld := ⟨4, 4, .rw, 0⟩
/-- CON_CFG bits 3:2 (R355). -/
def F.ConCfg.parity : Fld := ⟨3, 2, .rw, 0⟩
/-- CON_CFG bits 0:0 (R355). -/
def F.ConCfg.hostIn : Fld := ⟨0, 0, .rw, 0⟩
/-- CON_STAT bits 63:48 (R355). -/
def F.ConStat.fe : Fld := ⟨63, 48, .rc, 0⟩
/-- CON_STAT bits 47:32 (R355). -/
def F.ConStat.pe : Fld := ⟨47, 32, .rc, 0⟩
/-- CON_STAT bits 31:16 (R355). -/
def F.ConStat.ovr : Fld := ⟨31, 16, .rc, 0⟩
/-- CON_STAT bits 13:13 (R355). -/
def F.ConStat.break : Fld := ⟨13, 13, .w1c, 0⟩
/-- CON_STAT bits 12:0 (R355). -/
def F.ConStat.capLevel : Fld := ⟨12, 0, .ro, 0⟩
/-- SV_LEASE bits 63:32 (R366). -/
def F.SvLease.term : Fld := ⟨63, 32, .ro, 0⟩
/-- SV_LEASE bits 23:20 (R366). -/
def F.SvLease.holder : Fld := ⟨23, 20, .ro, 15⟩
/-- SV_LEASE bits 18:16 (R366). -/
def F.SvLease.votes : Fld := ⟨18, 16, .ro, 0⟩
/-- SV_LEASE bits 7:4 (R366). -/
def F.SvLease.seam : Fld := ⟨7, 4, .ro, 0⟩
/-- SV_LEASE bits 3:0 (R366). -/
def F.SvLease.vbridge : Fld := ⟨3, 0, .ro, 0⟩
/-- SV_LEASE_EXP bits 63:0 (R366). -/
def F.SvLeaseExp.expiry : Fld := ⟨63, 0, .ro, 0⟩
/-- SV_LEASE_CTL bits 63:32 (R366). -/
def F.SvLeaseCtl.term : Fld := ⟨63, 32, .wo, 0⟩
/-- SV_LEASE_CTL bits 3:0 (R366). -/
def F.SvLeaseCtl.cmd : Fld := ⟨3, 0, .wo, 0⟩
/-- SV_LEASE_LOG bits 63:48 (R366). -/
def F.SvLeaseLog.terms : Fld := ⟨63, 48, .rc, 0⟩
/-- SV_LEASE_LOG bits 47:32 (R366). -/
def F.SvLeaseLog.failovers : Fld := ⟨47, 32, .rc, 0⟩
/-- SV_LEASE_LOG bits 31:16 (R366). -/
def F.SvLeaseLog.handovers : Fld := ⟨31, 16, .rc, 0⟩
/-- SV_LEASE_LOG bits 15:1 (R366). -/
def F.SvLeaseLog.refused : Fld := ⟨15, 1, .rc, 0⟩
/-- SV_LEASE_LOG bits 0:0 (R366). -/
def F.SvLeaseLog.cmdRefused : Fld := ⟨0, 0, .w1c, 0⟩
/-- GLB_SV_CTL bits 63:32 (R370). -/
def F.GlbSvCtl.turn : Fld := ⟨63, 32, .wo, 0⟩
/-- GLB_SV_CTL bits 9:9 (R370). -/
def F.GlbSvCtl.cmdRefused : Fld := ⟨9, 9, .w1c, 0⟩
/-- GLB_SV_CTL bits 8:8 (R370). -/
def F.GlbSvCtl.copy : Fld := ⟨8, 8, .wo, 0⟩
/-- GLB_SV_CTL bits 7:4 (R370). -/
def F.GlbSvCtl.sv : Fld := ⟨7, 4, .wo, 0⟩
/-- GLB_SV_CTL bits 3:0 (R370). -/
def F.GlbSvCtl.cmd : Fld := ⟨3, 0, .wo, 0⟩
/-- GLB_SV_STAT[s] bits 63:56 (R370). -/
def F.GlbSvStat.major : Fld := ⟨63, 56, .ro, 0⟩
/-- GLB_SV_STAT[s] bits 55:48 (R370). -/
def F.GlbSvStat.minor : Fld := ⟨55, 48, .ro, 0⟩
/-- GLB_SV_STAT[s] bits 47:32 (R370). -/
def F.GlbSvStat.patch : Fld := ⟨47, 32, .ro, 0⟩
/-- GLB_SV_STAT[s] bits 31:28 (R370). -/
def F.GlbSvStat.state : Fld := ⟨31, 28, .ro, 0⟩
/-- GLB_SV_STAT[s] bits 27:27 (R370). -/
def F.GlbSvStat.copy : Fld := ⟨27, 27, .ro, 0⟩
/-- GLB_SV_STAT[s] bits 23:16 (R370). -/
def F.GlbSvStat.restarts : Fld := ⟨23, 16, .rc, 0⟩
/-- ERR_STAT bits 63:32 (R381). -/
def F.ErrStat.nextSeq : Fld := ⟨63, 32, .ro, 0⟩
/-- ERR_STAT bits 31:16 (R381). -/
def F.ErrStat.hostVis : Fld := ⟨31, 16, .rc, 0⟩
/-- ERR_ENTRY[i][k] bits 63:0 (R381). -/
def F.ErrEntry.word : Fld := ⟨63, 0, .ro, 0⟩
/-- GLB_ESC_CTL bits 35:32 (R391). -/
def F.GlbEscCtl.partition : Fld := ⟨35, 32, .wo, 0⟩
/-- GLB_ESC_CTL bits 3:0 (R391). -/
def F.GlbEscCtl.cmd : Fld := ⟨3, 0, .wo, 0⟩
/-- GLB_ESC_STAT bits 63:48 (R391). -/
def F.GlbEscStat.partBusy : Fld := ⟨63, 48, .ro, 0⟩
/-- GLB_ESC_STAT bits 47:32 (R391). -/
def F.GlbEscStat.partResets : Fld := ⟨47, 32, .rc, 0⟩
/-- GLB_ESC_STAT bits 31:24 (R391). -/
def F.GlbEscStat.warmRestarts : Fld := ⟨31, 24, .rc, 0⟩
/-- GLB_ESC_STAT bits 22:20 (R391). -/
def F.GlbEscStat.pendStep : Fld := ⟨22, 20, .ro, 0⟩
/-- GLB_ESC_STAT bits 19:16 (R391). -/
def F.GlbEscStat.pendPart : Fld := ⟨19, 16, .ro, 0⟩
/-- GLB_ESC_STAT bits 0:0 (R391). -/
def F.GlbEscStat.cmdRefused : Fld := ⟨0, 0, .w1c, 0⟩
/-- ERR_DUMP bits 63:56 (R393). -/
def F.ErrDump.next : Fld := ⟨63, 56, .ro, 0⟩
/-- ERR_DUMP bits 55:48 (R393). -/
def F.ErrDump.held : Fld := ⟨55, 48, .ro, 0⟩
/-- ERR_DUMP bits 47:40 (R393). -/
def F.ErrDump.partial : Fld := ⟨47, 40, .ro, 0⟩
/-- ERR_DUMP bits 31:16 (R393). -/
def F.ErrDump.dumps : Fld := ⟨31, 16, .rc, 0⟩
/-- ERR_DUMP bits 15:0 (R393). -/
def F.ErrDump.overwritten : Fld := ⟨15, 0, .rc, 0⟩
/-- SV_EVT bits 63:48 (R394). -/
def F.SvEvt.depth : Fld := ⟨63, 48, .ro, 0⟩
/-- SV_EVT bits 47:0 (R394). -/
def F.SvEvt.base : Fld := ⟨47, 0, .ro, 0⟩
/-- SV_HEALTH bits 63:48 (R397). -/
def F.SvHealth.count : Fld := ⟨63, 48, .ro, 0⟩
/-- SV_HEALTH bits 47:0 (R397). -/
def F.SvHealth.base : Fld := ⟨47, 0, .ro, 0⟩
/-- GLB_BOOT bits 63:56 (R407). -/
def F.GlbBoot.fail : Fld := ⟨63, 56, .ro, 0⟩
/-- GLB_BOOT bits 51:48 (R407). -/
def F.GlbBoot.stage : Fld := ⟨51, 48, .ro, 0⟩
/-- GLB_BOOT bits 47:44 (R407). -/
def F.GlbBoot.attemptsB : Fld := ⟨47, 44, .ro, 0⟩
/-- GLB_BOOT bits 43:40 (R407). -/
def F.GlbBoot.attemptsA : Fld := ⟨43, 40, .ro, 0⟩
/-- GLB_BOOT bits 31:16 (R407). -/
def F.GlbBoot.elapsedMs : Fld := ⟨31, 16, .ro, 0⟩
/-- GLB_BOOT bits 8:8 (R407). -/
def F.GlbBoot.confirmed : Fld := ⟨8, 8, .w1s, 0⟩
/-- GLB_BOOT bits 5:4 (R407). -/
def F.GlbBoot.imageSrc : Fld := ⟨5, 4, .ro, 0⟩
/-- GLB_BOOT bits 0:0 (R407). -/
def F.GlbBoot.copy : Fld := ⟨0, 0, .ro, 0⟩
/-- PTD_PKT_CNT0 bits 63:48 (R140). -/
def F.PtdPktCnt0.hcrc : Fld := ⟨63, 48, .rc, 0⟩
/-- PTD_PKT_CNT0 bits 47:32 (R140). -/
def F.PtdPktCnt0.format : Fld := ⟨47, 32, .rc, 0⟩
/-- PTD_PKT_CNT0 bits 31:16 (R140). -/
def F.PtdPktCnt0.job : Fld := ⟨31, 16, .rc, 0⟩
/-- PTD_PKT_CNT0 bits 15:0 (R140). -/
def F.PtdPktCnt0.opcode : Fld := ⟨15, 0, .rc, 0⟩
/-- PTD_PKT_CNT1 bits 63:48 (R140). -/
def F.PtdPktCnt1.rank : Fld := ⟨63, 48, .rc, 0⟩
/-- PTD_PKT_CNT1 bits 47:32 (R140). -/
def F.PtdPktCnt1.source : Fld := ⟨47, 32, .rc, 0⟩
/-- PTD_PKT_CNT1 bits 31:16 (R140). -/
def F.PtdPktCnt1.context : Fld := ⟨31, 16, .rc, 0⟩
/-- PTD_PKT_CNT1 bits 15:0 (R140). -/
def F.PtdPktCnt1.hops : Fld := ⟨15, 0, .rc, 0⟩
/-- PTD_PKT_CNT2 bits 63:48 (R140). -/
def F.PtdPktCnt2.circuit : Fld := ⟨63, 48, .rc, 0⟩
/-- PTD_PKT_CNT2 bits 47:32 (R140). -/
def F.PtdPktCnt2.credit : Fld := ⟨47, 32, .rc, 0⟩
/-- PTD_PKT_CNT2 bits 31:16 (R140). -/
def F.PtdPktCnt2.stale : Fld := ⟨31, 16, .rc, 0⟩
/-- PTD_PKT_CNT2 bits 15:0 (R140). -/
def F.PtdPktCnt2.ethOther : Fld := ⟨15, 0, .rc, 0⟩
/-- PTD_PKT_CNT3 bits 63:48 (R140). -/
def F.PtdPktCnt3.noRoute : Fld := ⟨63, 48, .rc, 0⟩
/-- PTD_PKT_CNT3 bits 47:32 (R140). -/
def F.PtdPktCnt3.reordTimeout : Fld := ⟨47, 32, .rc, 0⟩
/-- PTD_PKT_CNT3 bits 31:16 (R140). -/
def F.PtdPktCnt3.reordOverflow : Fld := ⟨31, 16, .rc, 0⟩
/-- PTD_PKT_CNT3 bits 15:0 (R140). -/
def F.PtdPktCnt3.reordNoslot : Fld := ⟨15, 0, .rc, 0⟩
/-- PTD_FENCE_STAT bits 63:48 (R332). -/
def F.PtdFenceStat.drops : Fld := ⟨63, 48, .rc, 0⟩
/-- PTD_FENCE_STAT bits 47:44 (R332). -/
def F.PtdFenceStat.lastPart : Fld := ⟨47, 44, .ro, 0⟩
/-- PTD_FENCE_STAT bits 43:37 (R332). -/
def F.PtdFenceStat.lastDie : Fld := ⟨43, 37, .ro, 0⟩
/-- PTD_FENCE_STAT bits 36:34 (R332). -/
def F.PtdFenceStat.lastKind : Fld := ⟨36, 34, .ro, 0⟩
/-- PTD_FENCE_STAT bits 31:0 (R332). -/
def F.PtdFenceStat.stampLo : Fld := ⟨31, 0, .ro, 0⟩
/-- PTD_CFG_FENCE bits 63:32 (R365). -/
def F.PtdCfgFence.term : Fld := ⟨63, 32, .ro, 0⟩
/-- PTD_CFG_FENCE bits 31:20 (R365). -/
def F.PtdCfgFence.old : Fld := ⟨31, 20, .rc, 0⟩
/-- PTD_CFG_FENCE bits 19:8 (R365). -/
def F.PtdCfgFence.ahead : Fld := ⟨19, 8, .rc, 0⟩
/-- PTD_CFG_FENCE bits 0:0 (R365). -/
def F.PtdCfgFence.live : Fld := ⟨0, 0, .ro, 0⟩
/-- PTD_ERRQ_STAT bits 63:48 (R378). -/
def F.PtdErrqStat.overflows : Fld := ⟨63, 48, .rc, 0⟩
/-- PTD_ERRQ_STAT bits 34:32 (R378). -/
def F.PtdErrqStat.pendStep : Fld := ⟨34, 32, .ro, 0⟩
/-- PTD_ERRQ_STAT bits 5:0 (R378). -/
def F.PtdErrqStat.level : Fld := ⟨5, 0, .ro, 0⟩
/-- PTD_ERRQ_HEAD bits 63:0 (R378). -/
def F.PtdErrqHead.word : Fld := ⟨63, 0, .ro, 0⟩
/-- PTD_ERRQ_CTL bits 0:0 (R378). -/
def F.PtdErrqCtl.pop : Fld := ⟨0, 0, .wo, 0⟩
/-- BCH_FENCE_STAT bits 63:48 (R332). -/
def F.BchFenceStat.drops : Fld := ⟨63, 48, .rc, 0⟩
/-- BCH_FENCE_STAT bits 47:44 (R332). -/
def F.BchFenceStat.lastPart : Fld := ⟨47, 44, .ro, 0⟩
/-- BCH_FENCE_STAT bits 43:37 (R332). -/
def F.BchFenceStat.lastDie : Fld := ⟨43, 37, .ro, 0⟩
/-- BCH_FENCE_STAT bits 36:34 (R332). -/
def F.BchFenceStat.lastKind : Fld := ⟨36, 34, .ro, 0⟩
/-- BCH_FENCE_STAT bits 31:0 (R332). -/
def F.BchFenceStat.stampLo : Fld := ⟨31, 0, .ro, 0⟩
/-- BCH_CFG_FENCE bits 63:32 (R365). -/
def F.BchCfgFence.term : Fld := ⟨63, 32, .ro, 0⟩
/-- BCH_CFG_FENCE bits 31:20 (R365). -/
def F.BchCfgFence.old : Fld := ⟨31, 20, .rc, 0⟩
/-- BCH_CFG_FENCE bits 19:8 (R365). -/
def F.BchCfgFence.ahead : Fld := ⟨19, 8, .rc, 0⟩
/-- BCH_CFG_FENCE bits 0:0 (R365). -/
def F.BchCfgFence.live : Fld := ⟨0, 0, .ro, 0⟩
/-- BCH_ERRQ_STAT bits 63:48 (R378). -/
def F.BchErrqStat.overflows : Fld := ⟨63, 48, .rc, 0⟩
/-- BCH_ERRQ_STAT bits 34:32 (R378). -/
def F.BchErrqStat.pendStep : Fld := ⟨34, 32, .ro, 0⟩
/-- BCH_ERRQ_STAT bits 5:0 (R378). -/
def F.BchErrqStat.level : Fld := ⟨5, 0, .ro, 0⟩
/-- BCH_ERRQ_HEAD bits 63:0 (R378). -/
def F.BchErrqHead.word : Fld := ⟨63, 0, .ro, 0⟩
/-- BCH_ERRQ_CTL bits 0:0 (R378). -/
def F.BchErrqCtl.pop : Fld := ⟨0, 0, .wo, 0⟩
/-- NT_FENCE_STAT bits 63:48 (R332). -/
def F.NtFenceStat.drops : Fld := ⟨63, 48, .rc, 0⟩
/-- NT_FENCE_STAT bits 47:44 (R332). -/
def F.NtFenceStat.lastPart : Fld := ⟨47, 44, .ro, 0⟩
/-- NT_FENCE_STAT bits 43:37 (R332). -/
def F.NtFenceStat.lastDie : Fld := ⟨43, 37, .ro, 0⟩
/-- NT_FENCE_STAT bits 36:34 (R332). -/
def F.NtFenceStat.lastKind : Fld := ⟨36, 34, .ro, 0⟩
/-- NT_FENCE_STAT bits 31:0 (R332). -/
def F.NtFenceStat.stampLo : Fld := ⟨31, 0, .ro, 0⟩
/-- NT_CFG_FENCE bits 63:32 (R365). -/
def F.NtCfgFence.term : Fld := ⟨63, 32, .ro, 0⟩
/-- NT_CFG_FENCE bits 31:20 (R365). -/
def F.NtCfgFence.old : Fld := ⟨31, 20, .rc, 0⟩
/-- NT_CFG_FENCE bits 19:8 (R365). -/
def F.NtCfgFence.ahead : Fld := ⟨19, 8, .rc, 0⟩
/-- NT_CFG_FENCE bits 0:0 (R365). -/
def F.NtCfgFence.live : Fld := ⟨0, 0, .ro, 0⟩
/-- NT_ERRQ_STAT bits 63:48 (R378). -/
def F.NtErrqStat.overflows : Fld := ⟨63, 48, .rc, 0⟩
/-- NT_ERRQ_STAT bits 34:32 (R378). -/
def F.NtErrqStat.pendStep : Fld := ⟨34, 32, .ro, 0⟩
/-- NT_ERRQ_STAT bits 5:0 (R378). -/
def F.NtErrqStat.level : Fld := ⟨5, 0, .ro, 0⟩
/-- NT_ERRQ_HEAD bits 63:0 (R378). -/
def F.NtErrqHead.word : Fld := ⟨63, 0, .ro, 0⟩
/-- NT_ERRQ_CTL bits 0:0 (R378). -/
def F.NtErrqCtl.pop : Fld := ⟨0, 0, .wo, 0⟩
/-- FT_FENCE_STAT bits 63:48 (R332). -/
def F.FtFenceStat.drops : Fld := ⟨63, 48, .rc, 0⟩
/-- FT_FENCE_STAT bits 47:44 (R332). -/
def F.FtFenceStat.lastPart : Fld := ⟨47, 44, .ro, 0⟩
/-- FT_FENCE_STAT bits 43:37 (R332). -/
def F.FtFenceStat.lastDie : Fld := ⟨43, 37, .ro, 0⟩
/-- FT_FENCE_STAT bits 36:34 (R332). -/
def F.FtFenceStat.lastKind : Fld := ⟨36, 34, .ro, 0⟩
/-- FT_FENCE_STAT bits 31:0 (R332). -/
def F.FtFenceStat.stampLo : Fld := ⟨31, 0, .ro, 0⟩
/-- FT_CFG_FENCE bits 63:32 (R365). -/
def F.FtCfgFence.term : Fld := ⟨63, 32, .ro, 0⟩
/-- FT_CFG_FENCE bits 31:20 (R365). -/
def F.FtCfgFence.old : Fld := ⟨31, 20, .rc, 0⟩
/-- FT_CFG_FENCE bits 19:8 (R365). -/
def F.FtCfgFence.ahead : Fld := ⟨19, 8, .rc, 0⟩
/-- FT_CFG_FENCE bits 0:0 (R365). -/
def F.FtCfgFence.live : Fld := ⟨0, 0, .ro, 0⟩
/-- FT_ERRQ_STAT bits 63:48 (R378). -/
def F.FtErrqStat.overflows : Fld := ⟨63, 48, .rc, 0⟩
/-- FT_ERRQ_STAT bits 34:32 (R378). -/
def F.FtErrqStat.pendStep : Fld := ⟨34, 32, .ro, 0⟩
/-- FT_ERRQ_STAT bits 5:0 (R378). -/
def F.FtErrqStat.level : Fld := ⟨5, 0, .ro, 0⟩
/-- FT_ERRQ_HEAD bits 63:0 (R378). -/
def F.FtErrqHead.word : Fld := ⟨63, 0, .ro, 0⟩
/-- FT_ERRQ_CTL bits 0:0 (R378). -/
def F.FtErrqCtl.pop : Fld := ⟨0, 0, .wo, 0⟩
/-- LTD_FENCE_STAT bits 63:48 (R332). -/
def F.LtdFenceStat.drops : Fld := ⟨63, 48, .rc, 0⟩
/-- LTD_FENCE_STAT bits 47:44 (R332). -/
def F.LtdFenceStat.lastPart : Fld := ⟨47, 44, .ro, 0⟩
/-- LTD_FENCE_STAT bits 43:37 (R332). -/
def F.LtdFenceStat.lastDie : Fld := ⟨43, 37, .ro, 0⟩
/-- LTD_FENCE_STAT bits 36:34 (R332). -/
def F.LtdFenceStat.lastKind : Fld := ⟨36, 34, .ro, 0⟩
/-- LTD_FENCE_STAT bits 31:0 (R332). -/
def F.LtdFenceStat.stampLo : Fld := ⟨31, 0, .ro, 0⟩
/-- LTD_CFG_FENCE bits 63:32 (R365). -/
def F.LtdCfgFence.term : Fld := ⟨63, 32, .ro, 0⟩
/-- LTD_CFG_FENCE bits 31:20 (R365). -/
def F.LtdCfgFence.old : Fld := ⟨31, 20, .rc, 0⟩
/-- LTD_CFG_FENCE bits 19:8 (R365). -/
def F.LtdCfgFence.ahead : Fld := ⟨19, 8, .rc, 0⟩
/-- LTD_CFG_FENCE bits 0:0 (R365). -/
def F.LtdCfgFence.live : Fld := ⟨0, 0, .ro, 0⟩
/-- LTD_ERRQ_STAT bits 63:48 (R378). -/
def F.LtdErrqStat.overflows : Fld := ⟨63, 48, .rc, 0⟩
/-- LTD_ERRQ_STAT bits 34:32 (R378). -/
def F.LtdErrqStat.pendStep : Fld := ⟨34, 32, .ro, 0⟩
/-- LTD_ERRQ_STAT bits 5:0 (R378). -/
def F.LtdErrqStat.level : Fld := ⟨5, 0, .ro, 0⟩
/-- LTD_ERRQ_HEAD bits 63:0 (R378). -/
def F.LtdErrqHead.word : Fld := ⟨63, 0, .ro, 0⟩
/-- LTD_ERRQ_CTL bits 0:0 (R378). -/
def F.LtdErrqCtl.pop : Fld := ⟨0, 0, .wo, 0⟩
/-- BRG_CFG_FENCE bits 63:32 (R365). -/
def F.BrgCfgFence.term : Fld := ⟨63, 32, .ro, 0⟩
/-- BRG_CFG_FENCE bits 31:20 (R365). -/
def F.BrgCfgFence.old : Fld := ⟨31, 20, .rc, 0⟩
/-- BRG_CFG_FENCE bits 19:8 (R365). -/
def F.BrgCfgFence.ahead : Fld := ⟨19, 8, .rc, 0⟩
/-- BRG_CFG_FENCE bits 0:0 (R365). -/
def F.BrgCfgFence.live : Fld := ⟨0, 0, .ro, 0⟩
/-- BRG_ERRQ_STAT bits 63:48 (R378). -/
def F.BrgErrqStat.overflows : Fld := ⟨63, 48, .rc, 0⟩
/-- BRG_ERRQ_STAT bits 34:32 (R378). -/
def F.BrgErrqStat.pendStep : Fld := ⟨34, 32, .ro, 0⟩
/-- BRG_ERRQ_STAT bits 5:0 (R378). -/
def F.BrgErrqStat.level : Fld := ⟨5, 0, .ro, 0⟩
/-- BRG_ERRQ_HEAD bits 63:0 (R378). -/
def F.BrgErrqHead.word : Fld := ⟨63, 0, .ro, 0⟩
/-- BRG_ERRQ_CTL bits 0:0 (R378). -/
def F.BrgErrqCtl.pop : Fld := ⟨0, 0, .wo, 0⟩
/-- GLB_CFG_FENCE bits 63:32 (R365). -/
def F.GlbCfgFence.term : Fld := ⟨63, 32, .ro, 0⟩
/-- GLB_CFG_FENCE bits 31:20 (R365). -/
def F.GlbCfgFence.old : Fld := ⟨31, 20, .rc, 0⟩
/-- GLB_CFG_FENCE bits 19:8 (R365). -/
def F.GlbCfgFence.ahead : Fld := ⟨19, 8, .rc, 0⟩
/-- GLB_CFG_FENCE bits 0:0 (R365). -/
def F.GlbCfgFence.live : Fld := ⟨0, 0, .ro, 0⟩
/-- GLB_ERRQ_STAT bits 63:48 (R378). -/
def F.GlbErrqStat.overflows : Fld := ⟨63, 48, .rc, 0⟩
/-- GLB_ERRQ_STAT bits 34:32 (R378). -/
def F.GlbErrqStat.pendStep : Fld := ⟨34, 32, .ro, 0⟩
/-- GLB_ERRQ_STAT bits 5:0 (R378). -/
def F.GlbErrqStat.level : Fld := ⟨5, 0, .ro, 0⟩
/-- GLB_ERRQ_HEAD bits 63:0 (R378). -/
def F.GlbErrqHead.word : Fld := ⟨63, 0, .ro, 0⟩
/-- GLB_ERRQ_CTL bits 0:0 (R378). -/
def F.GlbErrqCtl.pop : Fld := ⟨0, 0, .wo, 0⟩
/-- SV_CFG_FENCE bits 63:32 (R365). -/
def F.SvCfgFence.term : Fld := ⟨63, 32, .ro, 0⟩
/-- SV_CFG_FENCE bits 31:20 (R365). -/
def F.SvCfgFence.old : Fld := ⟨31, 20, .rc, 0⟩
/-- SV_CFG_FENCE bits 19:8 (R365). -/
def F.SvCfgFence.ahead : Fld := ⟨19, 8, .rc, 0⟩
/-- SV_CFG_FENCE bits 0:0 (R365). -/
def F.SvCfgFence.live : Fld := ⟨0, 0, .ro, 0⟩
/-- SV_ERRQ_STAT bits 63:48 (R378). -/
def F.SvErrqStat.overflows : Fld := ⟨63, 48, .rc, 0⟩
/-- SV_ERRQ_STAT bits 34:32 (R378). -/
def F.SvErrqStat.pendStep : Fld := ⟨34, 32, .ro, 0⟩
/-- SV_ERRQ_STAT bits 5:0 (R378). -/
def F.SvErrqStat.level : Fld := ⟨5, 0, .ro, 0⟩
/-- SV_ERRQ_HEAD bits 63:0 (R378). -/
def F.SvErrqHead.word : Fld := ⟨63, 0, .ro, 0⟩
/-- SV_ERRQ_CTL bits 0:0 (R378). -/
def F.SvErrqCtl.pop : Fld := ⟨0, 0, .wo, 0⟩
/-- CON_CAP bits 8:0 (R355). -/
def F.ConCap.cap : Fld := ⟨8, 0, .rc, 0⟩
/-- CON_TXD bits 7:0 (R355). -/
def F.ConTxd.data : Fld := ⟨7, 0, .wo, 0⟩
/-- HCF_DATA bits 63:0 (R347). -/
def F.HcfData.word : Fld := ⟨63, 0, .wo, 0⟩
/-- HCF_DATA_END bits 63:0 (R347). -/
def F.HcfDataEnd.word : Fld := ⟨63, 0, .wo, 0⟩
/-- MBX_H2F bits 63:0 (R349). -/
def F.MbxH2f.word : Fld := ⟨63, 0, .rw, 0⟩
/-- MBX_F2H bits 63:0 (R349). -/
def F.MbxF2h.word : Fld := ⟨63, 0, .ro, 0⟩
/-- MBX_FULL bits 63:32 (R349). -/
def F.MbxFull.f2hFull : Fld := ⟨63, 32, .w1c, 0⟩
/-- MBX_FULL bits 31:0 (R349). -/
def F.MbxFull.h2fFull : Fld := ⟨31, 0, .ro, 0⟩
/-- MBX_ACK bits 32:32 (R349). -/
def F.MbxAck.acked : Fld := ⟨32, 32, .ro, 0⟩
/-- MBX_ACK bits 15:0 (R349). -/
def F.MbxAck.code : Fld := ⟨15, 0, .ro, 0⟩
/-- MBX_LOG bits 63:48 (R349). -/
def F.MbxLog.discards : Fld := ⟨63, 48, .rc, 0⟩
/-- MBX_LOG bits 36:32 (R349). -/
def F.MbxLog.lastIdx : Fld := ⟨36, 32, .ro, 0⟩
/-- MBX_LOG bits 31:0 (R349). -/
def F.MbxLog.lastLo : Fld := ⟨31, 0, .ro, 0⟩

/-! ## The table of registers -/

/-- GLB_IDENT (R7). -/
def D.glbIdent : RegDesc := ⟨"GLB_IDENT", .glb, 0x00000000, [],
  [F.GlbIdent.vendor, F.GlbIdent.device, F.GlbIdent.grade, F.GlbIdent.stepLetter, F.GlbIdent.stepDigit]⟩
/-- GLB_UNITSUM (R24). -/
def D.glbUnitsum : RegDesc := ⟨"GLB_UNITSUM", .glb, 0x00000008, [],
  [F.GlbUnitsum.lathesEnabled, F.GlbUnitsum.lathesSpare, F.GlbUnitsum.portDiesEnabled, F.GlbUnitsum.ntPresent, F.GlbUnitsum.spareLanesFree]⟩
/-- GLB_UNITMAP_PTD[n] (R25). -/
def D.glbUnitmapPtd : RegDesc := ⟨"GLB_UNITMAP_PTD[n]", .glb, 0x00001000, [⟨0x8, 32⟩],
  [F.GlbUnitmapPtd.dieOff, F.GlbUnitmapPtd.spareBFor, F.GlbUnitmapPtd.spareAFor, F.GlbUnitmapPtd.laneOff]⟩
/-- GLB_UNITMAP_LTD[n] (R26). -/
def D.glbUnitmapLtd : RegDesc := ⟨"GLB_UNITMAP_LTD[n]", .glb, 0x00001100, [⟨0x8, 24⟩],
  [F.GlbUnitmapLtd.role]⟩
/-- GLB_UNITMAP_BCH[n] (R27). -/
def D.glbUnitmapBch : RegDesc := ⟨"GLB_UNITMAP_BCH[n]", .glb, 0x00001200, [⟨0x8, 16⟩],
  [F.GlbUnitmapBch.bg3Spare, F.GlbUnitmapBch.bg2Spare, F.GlbUnitmapBch.bg1Spare, F.GlbUnitmapBch.bg0Spare]⟩
/-- GLB_PD[n] (R48). -/
def D.glbPd : RegDesc := ⟨"GLB_PD[n]", .glb, 0x00004000, [⟨0x8, 536⟩],
  [F.GlbPd.vceil, F.GlbPd.vset, F.GlbPd.wakeUs, F.GlbPd.state, F.GlbPd.reason, F.GlbPd.lock, F.GlbPd.refused, F.GlbPd.pending, F.GlbPd.req]⟩
/-- GLB_THERM[n] (R53). -/
def D.glbTherm : RegDesc := ⟨"GLB_THERM[n]", .glb, 0x00006000, [⟨0x8, 100⟩],
  [F.GlbTherm.trips, F.GlbTherm.tmax, F.GlbTherm.tnow, F.GlbTherm.zone, F.GlbTherm.duty, F.GlbTherm.sensBad]⟩
/-- GLB_IMGKEYST (R67). -/
def D.glbImgkeyst : RegDesc := ⟨"GLB_IMGKEYST", .glb, 0x00000010, [],
  [F.GlbImgkeyst.minSec, F.GlbImgkeyst.revoked, F.GlbImgkeyst.programmed]⟩
/-- SV_IMG_CTL (R72). -/
def D.svImgCtl : RegDesc := ⟨"SV_IMG_CTL", .sv, 0x00401000, [],
  [F.SvImgCtl.targetTurn, F.SvImgCtl.cmd]⟩
/-- SV_IMG_STAT (R73). -/
def D.svImgStat : RegDesc := ⟨"SV_IMG_STAT", .sv, 0x00401008, [],
  [F.SvImgStat.fail, F.SvImgStat.failSect, F.SvImgStat.failEntry, F.SvImgStat.cmdRefused, F.SvImgStat.state]⟩
/-- SV_IMG_ACT (R74). -/
def D.svImgAct : RegDesc := ⟨"SV_IMG_ACT", .sv, 0x00401010, [],
  [F.SvImgAct.actTurn, F.SvImgAct.generation, F.SvImgAct.actSec]⟩
/-- SV_IMG_DGST[i] (R75). -/
def D.svImgDgst : RegDesc := ⟨"SV_IMG_DGST[i]", .sv, 0x00401040, [⟨0x8, 8⟩],
  [F.SvImgDgst.digest]⟩
/-- TB_TICK (R90). -/
def D.tbTick : RegDesc := ⟨"TB_TICK", .tb, 0x00100000, [],
  [F.TbTick.tick]⟩
/-- TB_TURN (R90). -/
def D.tbTurn : RegDesc := ⟨"TB_TURN", .tb, 0x00100008, [],
  [F.TbTurn.turn]⟩
/-- TB_ORIGIN (R90). -/
def D.tbOrigin : RegDesc := ⟨"TB_ORIGIN", .tb, 0x00100010, [],
  [F.TbOrigin.origin]⟩
/-- TB_TURN_LEN (R90). -/
def D.tbTurnLen : RegDesc := ⟨"TB_TURN_LEN", .tb, 0x00100018, [],
  [F.TbTurnLen.nextTicks, F.TbTurnLen.ticks]⟩
/-- TB_STAT (R90). -/
def D.tbStat : RegDesc := ⟨"TB_STAT", .tb, 0x00100020, [],
  [F.TbStat.skewMax, F.TbStat.skewDie, F.TbStat.servo, F.TbStat.adjRefused, F.TbStat.stepRefused, F.TbStat.skewErr, F.TbStat.refLost, F.TbStat.refOk, F.TbStat.internalOsc, F.TbStat.stepAllowed, F.TbStat.stepPending, F.TbStat.master, F.TbStat.intAligned]⟩
/-- TB_PTP_CTL (R90). -/
def D.tbPtpCtl : RegDesc := ⟨"TB_PTP_CTL", .tb, 0x00100028, [],
  [F.TbPtpCtl.port, F.TbPtpCtl.domain, F.TbPtpCtl.en]⟩
/-- TB_FREQ (R90). -/
def D.tbFreq : RegDesc := ⟨"TB_FREQ", .tb, 0x00100030, [],
  [F.TbFreq.ppb]⟩
/-- TB_STEP (R90). -/
def D.tbStep : RegDesc := ⟨"TB_STEP", .tb, 0x00100038, [],
  [F.TbStep.step]⟩
/-- PTD_LANE_CTL[n] (R120). -/
def D.ptdLaneCtl : RegDesc := ⟨"PTD_LANE_CTL[n]", .ptd, 0x01000000, [⟨0x10000, 32⟩, ⟨0x8, 34⟩],
  [F.PtdLaneCtl.cmd]⟩
/-- PTD_LANE_STAT[n] (R120). -/
def D.ptdLaneStat : RegDesc := ⟨"PTD_LANE_STAT[n]", .ptd, 0x01000200, [⟨0x10000, 32⟩, ⟨0x8, 34⟩],
  [F.PtdLaneStat.cwCorr, F.PtdLaneStat.cwUncorr, F.PtdLaneStat.pendCmd, F.PtdLaneStat.cmdSuperseded, F.PtdLaneStat.cmdRefused, F.PtdLaneStat.synthLock, F.PtdLaneStat.sigDet, F.PtdLaneStat.lstate, F.PtdLaneStat.logical]⟩
/-- PTD_PORT_CTL[l] (R120). -/
def D.ptdPortCtl : RegDesc := ⟨"PTD_PORT_CTL[l]", .ptd, 0x01000400, [⟨0x10000, 32⟩, ⟨0x8, 32⟩],
  [F.PtdPortCtl.holddownMs, F.PtdPortCtl.retrainLimit, F.PtdPortCtl.sparePath, F.PtdPortCtl.adminDown, F.PtdPortCtl.cmd]⟩
/-- PTD_PORT_STAT[l] (R120). -/
def D.ptdPortStat : RegDesc := ⟨"PTD_PORT_STAT[l]", .ptd, 0x01000500, [⟨0x10000, 32⟩, ⟨0x8, 32⟩],
  [F.PtdPortStat.flaps, F.PtdPortStat.retrains, F.PtdPortStat.collisions, F.PtdPortStat.replays, F.PtdPortStat.lanesActive, F.PtdPortStat.peerSame, F.PtdPortStat.cmdRefused, F.PtdPortStat.fec, F.PtdPortStat.rateNow, F.PtdPortStat.widthNow, F.PtdPortStat.state]⟩
/-- PTD_SPARE (R120). -/
def D.ptdSpare : RegDesc := ⟨"PTD_SPARE", .ptd, 0x01000800, [⟨0x10000, 32⟩],
  [F.PtdSpare.bState, F.PtdSpare.bFor, F.PtdSpare.aState, F.PtdSpare.aFor, F.PtdSpare.cmdRefused, F.PtdSpare.spare, F.PtdSpare.lane, F.PtdSpare.cmd]⟩
/-- PTD_PKT_LAST (R140). -/
def D.ptdPktLast : RegDesc := ⟨"PTD_PKT_LAST", .ptd, 0x01000900, [⟨0x10000, 32⟩],
  [F.PtdPktLast.job, F.PtdPktLast.opcode, F.PtdPktLast.reason, F.PtdPktLast.portLane, F.PtdPktLast.stampLo]⟩
/-- PTD_REORD_CTL (R140). -/
def D.ptdReordCtl : RegDesc := ⟨"PTD_REORD_CTL", .ptd, 0x01000908, [⟨0x10000, 32⟩],
  [F.PtdReordCtl.heldMax, F.PtdReordCtl.held, F.PtdReordCtl.timeoutUs]⟩
/-- PTD_RTC_STAT (R140). -/
def D.ptdRtcStat : RegDesc := ⟨"PTD_RTC_STAT", .ptd, 0x01000910, [⟨0x10000, 32⟩],
  [F.PtdRtcStat.misses, F.PtdRtcStat.tc7Miss, F.PtdRtcStat.pinned]⟩
/-- BCH_POOL_STAT[p] (R161). -/
def D.bchPoolStat : RegDesc := ⟨"BCH_POOL_STAT[p]", .bch, 0x01800100, [⟨0x10000, 16⟩, ⟨0x8, 32⟩],
  [F.BchPoolStat.occMax, F.BchPoolStat.occ, F.BchPoolStat.level]⟩
/-- BCH_PM_CHK (R161). -/
def D.bchPmChk : RegDesc := ⟨"BCH_PM_CHK", .bch, 0x01800200, [⟨0x10000, 16⟩],
  [F.BchPmChk.align, F.BchPmChk.range, F.BchPmChk.double, F.BchPmChk.owner, F.BchPmChk.stale]⟩
/-- BCH_PM_LAST (R161). -/
def D.bchPmLast : RegDesc := ⟨"BCH_PM_LAST", .bch, 0x01800208, [⟨0x10000, 16⟩],
  [F.BchPmLast.req, F.BchPmLast.cause, F.BchPmLast.pointer, F.BchPmLast.stampLo]⟩
/-- BCH_RECLAIM (R161). -/
def D.bchReclaim : RegDesc := ⟨"BCH_RECLAIM", .bch, 0x01800210, [⟨0x10000, 16⟩],
  [F.BchReclaim.grains, F.BchReclaim.epoch, F.BchReclaim.busy, F.BchReclaim.cmdRefused, F.BchReclaim.lastReq, F.BchReclaim.req, F.BchReclaim.cmd]⟩
/-- BCH_SHAV_CTL (R161). -/
def D.bchShavCtl : RegDesc := ⟨"BCH_SHAV_CTL", .bch, 0x01800300, [⟨0x10000, 16⟩],
  [F.BchShavCtl.mirrorJob, F.BchShavCtl.mirrorEn, F.BchShavCtl.captureDrops, F.BchShavCtl.archGib, F.BchShavCtl.sampleLog2]⟩
/-- BCH_SHAV_STAT (R161). -/
def D.bchShavStat : RegDesc := ⟨"BCH_SHAV_STAT", .bch, 0x01800308, [⟨0x10000, 16⟩],
  [F.BchShavStat.nextSeq, F.BchShavStat.lost, F.BchShavStat.missed]⟩
/-- BCH_QDROP[q] (R161). -/
def D.bchQdrop : RegDesc := ⟨"BCH_QDROP[q]", .bch, 0x01808000, [⟨0x10000, 16⟩, ⟨0x8, 512⟩],
  [F.BchQdrop.pushed, F.BchQdrop.tail, F.BchQdrop.aged, F.BchQdrop.flush]⟩
/-- BCH_QDEPTH[q] (R161). -/
def D.bchQdepth : RegDesc := ⟨"BCH_QDEPTH[q]", .bch, 0x01809000, [⟨0x10000, 16⟩, ⟨0x8, 512⟩],
  [F.BchQdepth.spilled, F.BchQdepth.depth]⟩
/-- PTD_SCHED[l] (R177). -/
def D.ptdSched : RegDesc := ⟨"PTD_SCHED[l]", .ptd, 0x01002000, [⟨0x10000, 32⟩, ⟨0x8, 32⟩],
  [F.PtdSched.qTc4, F.PtdSched.qTc3, F.PtdSched.qTc2, F.PtdSched.qTc1, F.PtdSched.qTc0]⟩
/-- PTD_GATE_STAT[l] (R177). -/
def D.ptdGateStat : RegDesc := ⟨"PTD_GATE_STAT[l]", .ptd, 0x01002100, [⟨0x10000, 32⟩, ⟨0x8, 32⟩],
  [F.PtdGateStat.gateNever, F.PtdGateStat.gateOverrun, F.PtdGateStat.entry, F.PtdGateStat.openBits]⟩
/-- PTD_POL_PROF_A[k] (R177). -/
def D.ptdPolProfA : RegDesc := ⟨"PTD_POL_PROF_A[k]", .ptd, 0x01002200, [⟨0x10000, 32⟩, ⟨0x10, 64⟩],
  [F.PtdPolProfA.overhead, F.PtdPolProfA.pir, F.PtdPolProfA.cir]⟩
/-- PTD_POL_PROF_B[k] (R177). -/
def D.ptdPolProfB : RegDesc := ⟨"PTD_POL_PROF_B[k]", .ptd, 0x01002208, [⟨0x10000, 32⟩, ⟨0x10, 64⟩],
  [F.PtdPolProfB.clamped, F.PtdPolProfB.pbs, F.PtdPolProfB.cbs]⟩
/-- PTD_POL_CFG[i] (R177). -/
def D.ptdPolCfg : RegDesc := ⟨"PTD_POL_CFG[i]", .ptd, 0x01004000, [⟨0x10000, 32⟩, ⟨0x10, 2048⟩],
  [F.PtdPolCfg.en, F.PtdPolCfg.jobAny, F.PtdPolCfg.scale, F.PtdPolCfg.profile, F.PtdPolCfg.portLane, F.PtdPolCfg.classMask, F.PtdPolCfg.job]⟩
/-- PTD_POL_CNT[i] (R177). -/
def D.ptdPolCnt : RegDesc := ⟨"PTD_POL_CNT[i]", .ptd, 0x01004008, [⟨0x10000, 32⟩, ⟨0x10, 2048⟩],
  [F.PtdPolCnt.green, F.PtdPolCnt.yellow, F.PtdPolCnt.red]⟩
/-- BRG_ARB_STAT (R178). -/
def D.brgArbStat : RegDesc := ⟨"BRG_ARB_STAT", .brg, 0x01E00100, [⟨0x4000, 12⟩],
  [F.BrgArbStat.tc7WaitMax, F.BrgArbStat.resvUnused, F.BrgArbStat.retries]⟩
/-- LT_STAT (R220). -/
def D.ltStat : RegDesc := ⟨"LT_STAT", .lt, 0x01400000, [⟨0x20000, 24⟩, ⟨0x4000, 5⟩],
  [F.LtStat.logical, F.LtStat.role, F.LtStat.resident, F.LtStat.holder, F.LtStat.busy, F.LtStat.cmdRefused, F.LtStat.dutyLimited, F.LtStat.pending, F.LtStat.freePages]⟩
/-- LT_CTL (R220). -/
def D.ltCtl : RegDesc := ⟨"LT_CTL", .lt, 0x01400008, [⟨0x20000, 24⟩, ⟨0x4000, 5⟩],
  [F.LtCtl.ctx, F.LtCtl.slot, F.LtCtl.target, F.LtCtl.cmd]⟩
/-- LT_SLOT[s] (R220). -/
def D.ltSlot : RegDesc := ⟨"LT_SLOT[s]", .lt, 0x01400100, [⟨0x20000, 24⟩, ⟨0x4000, 5⟩, ⟨0x8, 16⟩],
  [F.LtSlot.validNow, F.LtSlot.validNext, F.LtSlot.ctxNow, F.LtSlot.ctxNext, F.LtSlot.grantTicks]⟩
/-- LT_WDOG_STAT (R220). -/
def D.ltWdogStat : RegDesc := ⟨"LT_WDOG_STAT", .lt, 0x01400010, [⟨0x20000, 24⟩, ⟨0x4000, 5⟩],
  [F.LtWdogStat.bites, F.LtWdogStat.revokes, F.LtWdogStat.lastCtx, F.LtWdogStat.lastStamp]⟩
/-- LT_PACE_STAT (R220). -/
def D.ltPaceStat : RegDesc := ⟨"LT_PACE_STAT", .lt, 0x01400018, [⟨0x20000, 24⟩, ⟨0x4000, 5⟩],
  [F.LtPaceStat.slipTicks, F.LtPaceStat.slips]⟩
/-- LTD_CTX_CMD (R244). -/
def D.ltdCtxCmd : RegDesc := ⟨"LTD_CTX_CMD", .ltd, 0x01414000, [⟨0x20000, 24⟩],
  [F.LtdCtxCmd.ctx, F.LtdCtxCmd.slot, F.LtdCtxCmd.phys, F.LtdCtxCmd.cmd]⟩
/-- LTD_CTX_STAT (R245). -/
def D.ltdCtxStat : RegDesc := ⟨"LTD_CTX_STAT", .ltd, 0x01414008, [⟨0x20000, 24⟩],
  [F.LtdCtxStat.lastCtx, F.LtdCtxStat.lastCmd, F.LtdCtxStat.result, F.LtdCtxStat.busy, F.LtdCtxStat.cmdRefused, F.LtdCtxStat.starts]⟩
/-- LT_FAULT_LAST (R263). -/
def D.ltFaultLast : RegDesc := ⟨"LT_FAULT_LAST", .lt, 0x01400020, [⟨0x20000, 24⟩, ⟨0x4000, 5⟩],
  [F.LtFaultLast.ctx, F.LtFaultLast.fault, F.LtFaultLast.slotKind, F.LtFaultLast.pc, F.LtFaultLast.stampLo]⟩
/-- LT_FAULT_ADDR (R263). -/
def D.ltFaultAddr : RegDesc := ⟨"LT_FAULT_ADDR", .lt, 0x01400028, [⟨0x20000, 24⟩, ⟨0x4000, 5⟩],
  [F.LtFaultAddr.valid, F.LtFaultAddr.wr, F.LtFaultAddr.win, F.LtFaultAddr.size, F.LtFaultAddr.offset]⟩
/-- LT_FAULT_STAT (R263). -/
def D.ltFaultStat : RegDesc := ⟨"LT_FAULT_STAT", .lt, 0x01400030, [⟨0x20000, 24⟩, ⟨0x4000, 5⟩],
  [F.LtFaultStat.faults, F.LtFaultStat.undef, F.LtFaultStat.loads, F.LtFaultStat.loadFails]⟩
/-- LTD_COLL_STAT (R287). -/
def D.ltdCollStat : RegDesc := ⟨"LTD_COLL_STAT", .ltd, 0x01414010, [⟨0x20000, 24⟩],
  [F.LtdCollStat.stale, F.LtdCollStat.dup, F.LtdCollStat.refused, F.LtdCollStat.dead, F.LtdCollStat.aborts]⟩
/-- LT_SPARSE_STAT (R308). -/
def D.ltSparseStat : RegDesc := ⟨"LT_SPARSE_STAT", .lt, 0x01400038, [⟨0x20000, 24⟩, ⟨0x4000, 5⟩],
  [F.LtSparseStat.pairMask, F.LtSparseStat.overfill, F.LtSparseStat.span, F.LtSparseStat.wrap, F.LtSparseStat.unsorted]⟩
/-- LT_RESCHK (R321). -/
def D.ltReschk : RegDesc := ⟨"LT_RESCHK", .lt, 0x01400040, [⟨0x20000, 24⟩, ⟨0x4000, 5⟩],
  [F.LtReschk.laneRetry, F.LtReschk.accRetry, F.LtReschk.burred, F.LtReschk.en]⟩
/-- SV_JOB_BASE (R325). -/
def D.svJobBase : RegDesc := ⟨"SV_JOB_BASE", .sv, 0x00402000, [],
  [F.SvJobBase.base]⟩
/-- SV_JOB_CTL (R325). -/
def D.svJobCtl : RegDesc := ⟨"SV_JOB_CTL", .sv, 0x00402008, [],
  [F.SvJobCtl.job, F.SvJobCtl.cmd]⟩
/-- SV_JOB_STAT (R325). -/
def D.svJobStat : RegDesc := ⟨"SV_JOB_STAT", .sv, 0x00402010, [],
  [F.SvJobStat.lastJob, F.SvJobStat.lastCmd, F.SvJobStat.result, F.SvJobStat.admitted, F.SvJobStat.cmdRefused, F.SvJobStat.busy]⟩
/-- SV_JOB_USE[j] (R325). -/
def D.svJobUse : RegDesc := ⟨"SV_JOB_USE[j]", .sv, 0x00410000, [⟨0x10, 65536⟩],
  [F.SvJobUse.grains, F.SvJobUse.contexts, F.SvJobUse.state, F.SvJobUse.slotTurn]⟩
/-- SV_JOB_HIT[j] (R325). -/
def D.svJobHit : RegDesc := ⟨"SV_JOB_HIT[j]", .sv, 0x00410008, [⟨0x10, 65536⟩],
  [F.SvJobHit.grainHit, F.SvJobHit.slotHit, F.SvJobHit.polHit, F.SvJobHit.ctxHit]⟩
/-- HIF_STAT (R339). -/
def D.hifStat : RegDesc := ⟨"HIF_STAT", .hif, 0x00200000, [],
  [F.HifStat.flrs, F.HifStat.persts, F.HifStat.speed, F.HifStat.width, F.HifStat.dState, F.HifStat.bme, F.HifStat.mse, F.HifStat.standby]⟩
/-- HIF_DROP (R339). -/
def D.hifDrop : RegDesc := ⟨"HIF_DROP", .hif, 0x00200008, [],
  [F.HifDrop.wrDeny, F.HifDrop.wrSize, F.HifDrop.rdBad, F.HifDrop.lastBar, F.HifDrop.lastKind, F.HifDrop.lastOff]⟩
/-- HIF_OVR (R339). -/
def D.hifOvr : RegDesc := ⟨"HIF_OVR", .hif, 0x00200010, [],
  [F.HifOvr.term, F.HifOvr.grant]⟩
/-- HIF_WIN (R341). -/
def D.hifWin : RegDesc := ⟨"HIF_WIN", .hif, 0x00200018, [],
  [F.HifWin.wr, F.HifWin.tier, F.HifWin.lenMib, F.HifWin.base]⟩
/-- SV_DMA_STAT[c] (R344). -/
def D.svDmaStat : RegDesc := ⟨"SV_DMA_STAT[c]", .sv, 0x00403000, [⟨0x8, 2⟩],
  [F.SvDmaStat.state, F.SvDmaStat.err, F.SvDmaStat.outstanding, F.SvDmaStat.bytes]⟩
/-- HCF_CTL (R347). -/
def D.hcfCtl : RegDesc := ⟨"HCF_CTL", .hcf, 0x00202010, [],
  [F.HcfCtl.flush]⟩
/-- HCF_STAT (R347). -/
def D.hcfStat : RegDesc := ⟨"HCF_STAT", .hcf, 0x00202018, [],
  [F.HcfStat.overruns, F.HcfStat.parity, F.HcfStat.level, F.HcfStat.openBits, F.HcfStat.overrun, F.HcfStat.full]⟩
/-- HCF_PKTS (R347). -/
def D.hcfPkts : RegDesc := ⟨"HCF_PKTS", .hcf, 0x00202020, [],
  [F.HcfPkts.pkts]⟩
/-- CON_CFG (R355). -/
def D.conCfg : RegDesc := ⟨"CON_CFG", .con, 0x00203000, [⟨0x100, 2⟩],
  [F.ConCfg.div, F.ConCfg.stop2, F.ConCfg.parity, F.ConCfg.hostIn]⟩
/-- CON_STAT (R355). -/
def D.conStat : RegDesc := ⟨"CON_STAT", .con, 0x00203008, [⟨0x100, 2⟩],
  [F.ConStat.fe, F.ConStat.pe, F.ConStat.ovr, F.ConStat.break, F.ConStat.capLevel]⟩
/-- SV_LEASE (R366). -/
def D.svLease : RegDesc := ⟨"SV_LEASE", .sv, 0x00400000, [],
  [F.SvLease.term, F.SvLease.holder, F.SvLease.votes, F.SvLease.seam, F.SvLease.vbridge]⟩
/-- SV_LEASE_EXP (R366). -/
def D.svLeaseExp : RegDesc := ⟨"SV_LEASE_EXP", .sv, 0x00400008, [],
  [F.SvLeaseExp.expiry]⟩
/-- SV_LEASE_CTL (R366). -/
def D.svLeaseCtl : RegDesc := ⟨"SV_LEASE_CTL", .sv, 0x00400010, [],
  [F.SvLeaseCtl.term, F.SvLeaseCtl.cmd]⟩
/-- SV_LEASE_LOG (R366). -/
def D.svLeaseLog : RegDesc := ⟨"SV_LEASE_LOG", .sv, 0x00400018, [],
  [F.SvLeaseLog.terms, F.SvLeaseLog.failovers, F.SvLeaseLog.handovers, F.SvLeaseLog.refused, F.SvLeaseLog.cmdRefused]⟩
/-- GLB_SV_CTL (R370). -/
def D.glbSvCtl : RegDesc := ⟨"GLB_SV_CTL", .glb, 0x00000100, [],
  [F.GlbSvCtl.turn, F.GlbSvCtl.cmdRefused, F.GlbSvCtl.copy, F.GlbSvCtl.sv, F.GlbSvCtl.cmd]⟩
/-- GLB_SV_STAT[s] (R370). -/
def D.glbSvStat : RegDesc := ⟨"GLB_SV_STAT[s]", .glb, 0x00000108, [⟨0x8, 2⟩],
  [F.GlbSvStat.major, F.GlbSvStat.minor, F.GlbSvStat.patch, F.GlbSvStat.state, F.GlbSvStat.copy, F.GlbSvStat.restarts]⟩
/-- ERR_STAT (R381). -/
def D.errStat : RegDesc := ⟨"ERR_STAT", .err, 0x02000000, [],
  [F.ErrStat.nextSeq, F.ErrStat.hostVis]⟩
/-- ERR_ENTRY[i][k] (R381). -/
def D.errEntry : RegDesc := ⟨"ERR_ENTRY[i][k]", .err, 0x02001000, [⟨0x20, 1024⟩, ⟨0x8, 4⟩],
  [F.ErrEntry.word]⟩
/-- GLB_ESC_CTL (R391). -/
def D.glbEscCtl : RegDesc := ⟨"GLB_ESC_CTL", .glb, 0x00000200, [],
  [F.GlbEscCtl.partition, F.GlbEscCtl.cmd]⟩
/-- GLB_ESC_STAT (R391). -/
def D.glbEscStat : RegDesc := ⟨"GLB_ESC_STAT", .glb, 0x00000208, [],
  [F.GlbEscStat.partBusy, F.GlbEscStat.partResets, F.GlbEscStat.warmRestarts, F.GlbEscStat.pendStep, F.GlbEscStat.pendPart, F.GlbEscStat.cmdRefused]⟩
/-- ERR_DUMP (R393). -/
def D.errDump : RegDesc := ⟨"ERR_DUMP", .err, 0x02000008, [],
  [F.ErrDump.next, F.ErrDump.held, F.ErrDump.partial, F.ErrDump.dumps, F.ErrDump.overwritten]⟩
/-- SV_EVT (R394). -/
def D.svEvt : RegDesc := ⟨"SV_EVT", .sv, 0x00404000, [],
  [F.SvEvt.depth, F.SvEvt.base]⟩
/-- SV_HEALTH (R397). -/
def D.svHealth : RegDesc := ⟨"SV_HEALTH", .sv, 0x00404008, [],
  [F.SvHealth.count, F.SvHealth.base]⟩
/-- GLB_BOOT (R407). -/
def D.glbBoot : RegDesc := ⟨"GLB_BOOT", .glb, 0x00000300, [],
  [F.GlbBoot.fail, F.GlbBoot.stage, F.GlbBoot.attemptsB, F.GlbBoot.attemptsA, F.GlbBoot.elapsedMs, F.GlbBoot.confirmed, F.GlbBoot.imageSrc, F.GlbBoot.copy]⟩
/-- PTD_PKT_CNT0 (R140). -/
def D.ptdPktCnt0 : RegDesc := ⟨"PTD_PKT_CNT0", .ptd, 0x01001000, [⟨0x10000, 32⟩, ⟨0x20, 32⟩],
  [F.PtdPktCnt0.hcrc, F.PtdPktCnt0.format, F.PtdPktCnt0.job, F.PtdPktCnt0.opcode]⟩
/-- PTD_PKT_CNT1 (R140). -/
def D.ptdPktCnt1 : RegDesc := ⟨"PTD_PKT_CNT1", .ptd, 0x01001008, [⟨0x10000, 32⟩, ⟨0x20, 32⟩],
  [F.PtdPktCnt1.rank, F.PtdPktCnt1.source, F.PtdPktCnt1.context, F.PtdPktCnt1.hops]⟩
/-- PTD_PKT_CNT2 (R140). -/
def D.ptdPktCnt2 : RegDesc := ⟨"PTD_PKT_CNT2", .ptd, 0x01001010, [⟨0x10000, 32⟩, ⟨0x20, 32⟩],
  [F.PtdPktCnt2.circuit, F.PtdPktCnt2.credit, F.PtdPktCnt2.stale, F.PtdPktCnt2.ethOther]⟩
/-- PTD_PKT_CNT3 (R140). -/
def D.ptdPktCnt3 : RegDesc := ⟨"PTD_PKT_CNT3", .ptd, 0x01001018, [⟨0x10000, 32⟩, ⟨0x20, 32⟩],
  [F.PtdPktCnt3.noRoute, F.PtdPktCnt3.reordTimeout, F.PtdPktCnt3.reordOverflow, F.PtdPktCnt3.reordNoslot]⟩
/-- PTD_FENCE_STAT (R332). -/
def D.ptdFenceStat : RegDesc := ⟨"PTD_FENCE_STAT", .ptd, 0x0100FF00, [⟨0x10000, 32⟩],
  [F.PtdFenceStat.drops, F.PtdFenceStat.lastPart, F.PtdFenceStat.lastDie, F.PtdFenceStat.lastKind, F.PtdFenceStat.stampLo]⟩
/-- PTD_CFG_FENCE (R365). -/
def D.ptdCfgFence : RegDesc := ⟨"PTD_CFG_FENCE", .ptd, 0x0100FE00, [⟨0x10000, 32⟩],
  [F.PtdCfgFence.term, F.PtdCfgFence.old, F.PtdCfgFence.ahead, F.PtdCfgFence.live]⟩
/-- PTD_ERRQ_STAT (R378). -/
def D.ptdErrqStat : RegDesc := ⟨"PTD_ERRQ_STAT", .ptd, 0x0100FD00, [⟨0x10000, 32⟩],
  [F.PtdErrqStat.overflows, F.PtdErrqStat.pendStep, F.PtdErrqStat.level]⟩
/-- PTD_ERRQ_HEAD (R378). -/
def D.ptdErrqHead : RegDesc := ⟨"PTD_ERRQ_HEAD", .ptd, 0x0100FD08, [⟨0x10000, 32⟩, ⟨0x8, 4⟩],
  [F.PtdErrqHead.word]⟩
/-- PTD_ERRQ_CTL (R378). -/
def D.ptdErrqCtl : RegDesc := ⟨"PTD_ERRQ_CTL", .ptd, 0x0100FD28, [⟨0x10000, 32⟩],
  [F.PtdErrqCtl.pop]⟩
/-- BCH_FENCE_STAT (R332). -/
def D.bchFenceStat : RegDesc := ⟨"BCH_FENCE_STAT", .bch, 0x0180FF00, [⟨0x10000, 16⟩],
  [F.BchFenceStat.drops, F.BchFenceStat.lastPart, F.BchFenceStat.lastDie, F.BchFenceStat.lastKind, F.BchFenceStat.stampLo]⟩
/-- BCH_CFG_FENCE (R365). -/
def D.bchCfgFence : RegDesc := ⟨"BCH_CFG_FENCE", .bch, 0x0180FE00, [⟨0x10000, 16⟩],
  [F.BchCfgFence.term, F.BchCfgFence.old, F.BchCfgFence.ahead, F.BchCfgFence.live]⟩
/-- BCH_ERRQ_STAT (R378). -/
def D.bchErrqStat : RegDesc := ⟨"BCH_ERRQ_STAT", .bch, 0x0180FD00, [⟨0x10000, 16⟩],
  [F.BchErrqStat.overflows, F.BchErrqStat.pendStep, F.BchErrqStat.level]⟩
/-- BCH_ERRQ_HEAD (R378). -/
def D.bchErrqHead : RegDesc := ⟨"BCH_ERRQ_HEAD", .bch, 0x0180FD08, [⟨0x10000, 16⟩, ⟨0x8, 4⟩],
  [F.BchErrqHead.word]⟩
/-- BCH_ERRQ_CTL (R378). -/
def D.bchErrqCtl : RegDesc := ⟨"BCH_ERRQ_CTL", .bch, 0x0180FD28, [⟨0x10000, 16⟩],
  [F.BchErrqCtl.pop]⟩
/-- NT_FENCE_STAT (R332). -/
def D.ntFenceStat : RegDesc := ⟨"NT_FENCE_STAT", .nt, 0x01A0FF00, [⟨0x10000, 8⟩],
  [F.NtFenceStat.drops, F.NtFenceStat.lastPart, F.NtFenceStat.lastDie, F.NtFenceStat.lastKind, F.NtFenceStat.stampLo]⟩
/-- NT_CFG_FENCE (R365). -/
def D.ntCfgFence : RegDesc := ⟨"NT_CFG_FENCE", .nt, 0x01A0FE00, [⟨0x10000, 8⟩],
  [F.NtCfgFence.term, F.NtCfgFence.old, F.NtCfgFence.ahead, F.NtCfgFence.live]⟩
/-- NT_ERRQ_STAT (R378). -/
def D.ntErrqStat : RegDesc := ⟨"NT_ERRQ_STAT", .nt, 0x01A0FD00, [⟨0x10000, 8⟩],
  [F.NtErrqStat.overflows, F.NtErrqStat.pendStep, F.NtErrqStat.level]⟩
/-- NT_ERRQ_HEAD (R378). -/
def D.ntErrqHead : RegDesc := ⟨"NT_ERRQ_HEAD", .nt, 0x01A0FD08, [⟨0x10000, 8⟩, ⟨0x8, 4⟩],
  [F.NtErrqHead.word]⟩
/-- NT_ERRQ_CTL (R378). -/
def D.ntErrqCtl : RegDesc := ⟨"NT_ERRQ_CTL", .nt, 0x01A0FD28, [⟨0x10000, 8⟩],
  [F.NtErrqCtl.pop]⟩
/-- FT_FENCE_STAT (R332). -/
def D.ftFenceStat : RegDesc := ⟨"FT_FENCE_STAT", .ft, 0x01C0FF00, [⟨0x10000, 4⟩],
  [F.FtFenceStat.drops, F.FtFenceStat.lastPart, F.FtFenceStat.lastDie, F.FtFenceStat.lastKind, F.FtFenceStat.stampLo]⟩
/-- FT_CFG_FENCE (R365). -/
def D.ftCfgFence : RegDesc := ⟨"FT_CFG_FENCE", .ft, 0x01C0FE00, [⟨0x10000, 4⟩],
  [F.FtCfgFence.term, F.FtCfgFence.old, F.FtCfgFence.ahead, F.FtCfgFence.live]⟩
/-- FT_ERRQ_STAT (R378). -/
def D.ftErrqStat : RegDesc := ⟨"FT_ERRQ_STAT", .ft, 0x01C0FD00, [⟨0x10000, 4⟩],
  [F.FtErrqStat.overflows, F.FtErrqStat.pendStep, F.FtErrqStat.level]⟩
/-- FT_ERRQ_HEAD (R378). -/
def D.ftErrqHead : RegDesc := ⟨"FT_ERRQ_HEAD", .ft, 0x01C0FD08, [⟨0x10000, 4⟩, ⟨0x8, 4⟩],
  [F.FtErrqHead.word]⟩
/-- FT_ERRQ_CTL (R378). -/
def D.ftErrqCtl : RegDesc := ⟨"FT_ERRQ_CTL", .ft, 0x01C0FD28, [⟨0x10000, 4⟩],
  [F.FtErrqCtl.pop]⟩
/-- LTD_FENCE_STAT (R332). -/
def D.ltdFenceStat : RegDesc := ⟨"LTD_FENCE_STAT", .ltd, 0x0141FF00, [⟨0x20000, 24⟩],
  [F.LtdFenceStat.drops, F.LtdFenceStat.lastPart, F.LtdFenceStat.lastDie, F.LtdFenceStat.lastKind, F.LtdFenceStat.stampLo]⟩
/-- LTD_CFG_FENCE (R365). -/
def D.ltdCfgFence : RegDesc := ⟨"LTD_CFG_FENCE", .ltd, 0x0141FE00, [⟨0x20000, 24⟩],
  [F.LtdCfgFence.term, F.LtdCfgFence.old, F.LtdCfgFence.ahead, F.LtdCfgFence.live]⟩
/-- LTD_ERRQ_STAT (R378). -/
def D.ltdErrqStat : RegDesc := ⟨"LTD_ERRQ_STAT", .ltd, 0x0141FD00, [⟨0x20000, 24⟩],
  [F.LtdErrqStat.overflows, F.LtdErrqStat.pendStep, F.LtdErrqStat.level]⟩
/-- LTD_ERRQ_HEAD (R378). -/
def D.ltdErrqHead : RegDesc := ⟨"LTD_ERRQ_HEAD", .ltd, 0x0141FD08, [⟨0x20000, 24⟩, ⟨0x8, 4⟩],
  [F.LtdErrqHead.word]⟩
/-- LTD_ERRQ_CTL (R378). -/
def D.ltdErrqCtl : RegDesc := ⟨"LTD_ERRQ_CTL", .ltd, 0x0141FD28, [⟨0x20000, 24⟩],
  [F.LtdErrqCtl.pop]⟩
/-- BRG_CFG_FENCE (R365). -/
def D.brgCfgFence : RegDesc := ⟨"BRG_CFG_FENCE", .brg, 0x01E03E00, [⟨0x4000, 12⟩],
  [F.BrgCfgFence.term, F.BrgCfgFence.old, F.BrgCfgFence.ahead, F.BrgCfgFence.live]⟩
/-- BRG_ERRQ_STAT (R378). -/
def D.brgErrqStat : RegDesc := ⟨"BRG_ERRQ_STAT", .brg, 0x01E03D00, [⟨0x4000, 12⟩],
  [F.BrgErrqStat.overflows, F.BrgErrqStat.pendStep, F.BrgErrqStat.level]⟩
/-- BRG_ERRQ_HEAD (R378). -/
def D.brgErrqHead : RegDesc := ⟨"BRG_ERRQ_HEAD", .brg, 0x01E03D08, [⟨0x4000, 12⟩, ⟨0x8, 4⟩],
  [F.BrgErrqHead.word]⟩
/-- BRG_ERRQ_CTL (R378). -/
def D.brgErrqCtl : RegDesc := ⟨"BRG_ERRQ_CTL", .brg, 0x01E03D28, [⟨0x4000, 12⟩],
  [F.BrgErrqCtl.pop]⟩
/-- GLB_CFG_FENCE (R365). -/
def D.glbCfgFence : RegDesc := ⟨"GLB_CFG_FENCE", .glb, 0x0000FE00, [],
  [F.GlbCfgFence.term, F.GlbCfgFence.old, F.GlbCfgFence.ahead, F.GlbCfgFence.live]⟩
/-- GLB_ERRQ_STAT (R378). -/
def D.glbErrqStat : RegDesc := ⟨"GLB_ERRQ_STAT", .glb, 0x0000FD00, [⟨0x40, 2⟩],
  [F.GlbErrqStat.overflows, F.GlbErrqStat.pendStep, F.GlbErrqStat.level]⟩
/-- GLB_ERRQ_HEAD (R378). -/
def D.glbErrqHead : RegDesc := ⟨"GLB_ERRQ_HEAD", .glb, 0x0000FD08, [⟨0x40, 2⟩, ⟨0x8, 4⟩],
  [F.GlbErrqHead.word]⟩
/-- GLB_ERRQ_CTL (R378). -/
def D.glbErrqCtl : RegDesc := ⟨"GLB_ERRQ_CTL", .glb, 0x0000FD28, [⟨0x40, 2⟩],
  [F.GlbErrqCtl.pop]⟩
/-- SV_CFG_FENCE (R365). -/
def D.svCfgFence : RegDesc := ⟨"SV_CFG_FENCE", .sv, 0x0040FE00, [],
  [F.SvCfgFence.term, F.SvCfgFence.old, F.SvCfgFence.ahead, F.SvCfgFence.live]⟩
/-- SV_ERRQ_STAT (R378). -/
def D.svErrqStat : RegDesc := ⟨"SV_ERRQ_STAT", .sv, 0x0040FD00, [⟨0x40, 2⟩],
  [F.SvErrqStat.overflows, F.SvErrqStat.pendStep, F.SvErrqStat.level]⟩
/-- SV_ERRQ_HEAD (R378). -/
def D.svErrqHead : RegDesc := ⟨"SV_ERRQ_HEAD", .sv, 0x0040FD08, [⟨0x40, 2⟩, ⟨0x8, 4⟩],
  [F.SvErrqHead.word]⟩
/-- SV_ERRQ_CTL (R378). -/
def D.svErrqCtl : RegDesc := ⟨"SV_ERRQ_CTL", .sv, 0x0040FD28, [⟨0x40, 2⟩],
  [F.SvErrqCtl.pop]⟩
/-- CON_CAP (R355). -/
def D.conCap : RegDesc := ⟨"CON_CAP", .con, 0x00203010, [⟨0x100, 2⟩],
  [F.ConCap.cap]⟩
/-- CON_TXD (R355). -/
def D.conTxd : RegDesc := ⟨"CON_TXD", .con, 0x00203018, [⟨0x100, 2⟩],
  [F.ConTxd.data]⟩
/-- HCF_DATA (R347). -/
def D.hcfData : RegDesc := ⟨"HCF_DATA", .hcf, 0x00202000, [],
  [F.HcfData.word]⟩
/-- HCF_DATA_END (R347). -/
def D.hcfDataEnd : RegDesc := ⟨"HCF_DATA_END", .hcf, 0x00202008, [],
  [F.HcfDataEnd.word]⟩
/-- MBX_H2F (R349). -/
def D.mbxH2f : RegDesc := ⟨"MBX_H2F", .mbx, 0x00201000, [⟨0x8, 32⟩],
  [F.MbxH2f.word]⟩
/-- MBX_F2H (R349). -/
def D.mbxF2h : RegDesc := ⟨"MBX_F2H", .mbx, 0x00201100, [⟨0x8, 32⟩],
  [F.MbxF2h.word]⟩
/-- MBX_FULL (R349). -/
def D.mbxFull : RegDesc := ⟨"MBX_FULL", .mbx, 0x00201200, [],
  [F.MbxFull.f2hFull, F.MbxFull.h2fFull]⟩
/-- MBX_ACK (R349). -/
def D.mbxAck : RegDesc := ⟨"MBX_ACK", .mbx, 0x00201300, [⟨0x8, 32⟩],
  [F.MbxAck.acked, F.MbxAck.code]⟩
/-- MBX_LOG (R349). -/
def D.mbxLog : RegDesc := ⟨"MBX_LOG", .mbx, 0x00201400, [],
  [F.MbxLog.discards, F.MbxLog.lastIdx, F.MbxLog.lastLo]⟩
/-- Part 0 of the table. -/
def regTable0 : List RegDesc :=
  [D.glbIdent,
   D.glbUnitsum,
   D.glbUnitmapPtd,
   D.glbUnitmapLtd,
   D.glbUnitmapBch,
   D.glbPd,
   D.glbTherm,
   D.glbImgkeyst,
   D.svImgCtl,
   D.svImgStat,
   D.svImgAct,
   D.svImgDgst,
   D.tbTick,
   D.tbTurn,
   D.tbOrigin]
/-- Part 1 of the table. -/
def regTable1 : List RegDesc :=
  [D.tbTurnLen,
   D.tbStat,
   D.tbPtpCtl,
   D.tbFreq,
   D.tbStep,
   D.ptdLaneCtl,
   D.ptdLaneStat,
   D.ptdPortCtl,
   D.ptdPortStat,
   D.ptdSpare,
   D.ptdPktLast,
   D.ptdReordCtl,
   D.ptdRtcStat,
   D.bchPoolStat,
   D.bchPmChk]
/-- Part 2 of the table. -/
def regTable2 : List RegDesc :=
  [D.bchPmLast,
   D.bchReclaim,
   D.bchShavCtl,
   D.bchShavStat,
   D.bchQdrop,
   D.bchQdepth,
   D.ptdSched,
   D.ptdGateStat,
   D.ptdPolProfA,
   D.ptdPolProfB,
   D.ptdPolCfg,
   D.ptdPolCnt,
   D.brgArbStat,
   D.ltStat,
   D.ltCtl]
/-- Part 3 of the table. -/
def regTable3 : List RegDesc :=
  [D.ltSlot,
   D.ltWdogStat,
   D.ltPaceStat,
   D.ltdCtxCmd,
   D.ltdCtxStat,
   D.ltFaultLast,
   D.ltFaultAddr,
   D.ltFaultStat,
   D.ltdCollStat,
   D.ltSparseStat,
   D.ltReschk,
   D.svJobBase,
   D.svJobCtl,
   D.svJobStat,
   D.svJobUse]
/-- Part 4 of the table. -/
def regTable4 : List RegDesc :=
  [D.svJobHit,
   D.hifStat,
   D.hifDrop,
   D.hifOvr,
   D.hifWin,
   D.svDmaStat,
   D.hcfCtl,
   D.hcfStat,
   D.hcfPkts,
   D.conCfg,
   D.conStat,
   D.svLease,
   D.svLeaseExp,
   D.svLeaseCtl,
   D.svLeaseLog]
/-- Part 5 of the table. -/
def regTable5 : List RegDesc :=
  [D.glbSvCtl,
   D.glbSvStat,
   D.errStat,
   D.errEntry,
   D.glbEscCtl,
   D.glbEscStat,
   D.errDump,
   D.svEvt,
   D.svHealth,
   D.glbBoot,
   D.ptdPktCnt0,
   D.ptdPktCnt1,
   D.ptdPktCnt2,
   D.ptdPktCnt3,
   D.ptdFenceStat]
/-- Part 6 of the table. -/
def regTable6 : List RegDesc :=
  [D.ptdCfgFence,
   D.ptdErrqStat,
   D.ptdErrqHead,
   D.ptdErrqCtl,
   D.bchFenceStat,
   D.bchCfgFence,
   D.bchErrqStat,
   D.bchErrqHead,
   D.bchErrqCtl,
   D.ntFenceStat,
   D.ntCfgFence,
   D.ntErrqStat,
   D.ntErrqHead,
   D.ntErrqCtl,
   D.ftFenceStat]
/-- Part 7 of the table. -/
def regTable7 : List RegDesc :=
  [D.ftCfgFence,
   D.ftErrqStat,
   D.ftErrqHead,
   D.ftErrqCtl,
   D.ltdFenceStat,
   D.ltdCfgFence,
   D.ltdErrqStat,
   D.ltdErrqHead,
   D.ltdErrqCtl,
   D.brgCfgFence,
   D.brgErrqStat,
   D.brgErrqHead,
   D.brgErrqCtl,
   D.glbCfgFence,
   D.glbErrqStat]
/-- Part 8 of the table. -/
def regTable8 : List RegDesc :=
  [D.glbErrqHead,
   D.glbErrqCtl,
   D.svCfgFence,
   D.svErrqStat,
   D.svErrqHead,
   D.svErrqCtl,
   D.conCap,
   D.conTxd,
   D.hcfData,
   D.hcfDataEnd,
   D.mbxH2f,
   D.mbxF2h,
   D.mbxFull,
   D.mbxAck,
   D.mbxLog]
/-- Every register of BAR0. -/
def regTable : List RegDesc :=
  regTable0 ++ regTable1 ++ regTable2 ++ regTable3 ++ regTable4 ++ regTable5 ++ regTable6 ++ regTable7 ++ regTable8

/-- Whether the distance rel from a register's first offset is a multiple of its strides within its counts. -/
def Dim.fits : List Dim → Nat → Bool
  | [], rel => rel = 0
  | d :: ds, rel => rel / d.stride < d.count && Dim.fits ds (rel % d.stride)

/-- Whether the register (array) has an element at this offset. -/
def RegDesc.at? (r : RegDesc) (off : Nat) : Bool := r.base ≤ off && Dim.fits r.dims (off - r.base)

/-- The register at an offset, if there is one. -/
def regAt (off : Nat) : Option RegDesc := regTable.find? (fun r => r.at? off)

/-- A register word with every field at its reset value. -/
def resetWord : List Fld → W64
  | [] => 0
  | f :: fs => f.put (resetWord fs) f.rst

/-- The registers of the East function's own HIF, MBX and HCF blocks, and its supervisor's SV_CFG_FENCE, are kept this
far above the West ones (R334, R365: one block per function at the same BAR0 offsets). -/
def fnBank : Nat := 0x04000000

/-- What a register that nothing has written yet reads as: every field at the reset value of its table. Some take
their fused fields from the unit itself: PTD_LANE_STAT.LOGICAL is the lane's own number on a service lane and 0x3F on a
spare, PTD_SPARE says that both spares are free (R120), and LT_STAT starts with lathes 0 to 3 of every die ENABLED under the logical numbers of R216
and lathe 4 SPARE (R220; the fused map of a reset part is a DESIGN CHOICE, log entry 2). -/
def regReset (key : Nat) : W64 :=
  let off := key % fnBank
  match regAt off with
  | none => 0
  | some r =>
    let v := resetWord r.flds
    if r.base = 0x01000200 then
      let n := ((off - r.base) % 0x10000) / 8
      F.PtdLaneStat.logical.put v (if n < 32 then n else 0x3F)
    else if r.base = 0x01400000 then
      let d := (off - r.base) / 0x20000
      let p := ((off - r.base) % 0x20000) / 0x4000
      if p < 4 then F.LtStat.logical.put v (4 * d + p)
      else F.LtStat.logical.put (F.LtStat.role.put v 1) 0xFF
    else if r.base = 0x00200000 then F.HifStat.standby.put v (key / fnBank)
    else if r.base = 0x01000800 then F.PtdSpare.aFor.put (F.PtdSpare.bFor.put v 0x3F) 0x3F
    else v

/-- The fields of a given access type. -/
def RegDesc.fldsOf (r : RegDesc) (a : Acc) : List Fld := r.flds.filter (fun f => f.acc = a)

end Sys2Proof.Machine
end

