-- ==== Sys2Proof/Machine/State.lean ====
section
/-! DEFINITION. The state of the part as plain data: everything the spec gives it, and the queue of waiting
commands. -/

namespace Sys2Proof.Machine

/-- Why the part stops: closed list. -/
inductive Fault where
  /-- Raised by VAUX_1V8_RECOVER above 2.10 V: beyond the absolute maximum ratings of R409 the spec does not specify the behaviour, and no
  other rule gives it one. Safe: the model stops. -/
  | beyondRatings
  deriving DecidableEq, Repr

/-- Why a command has no meaning here: closed list. -/
inductive Refusal where
  /-- Raised only by an arm of exec whose command has no meaning yet. Safe: the model stops. -/
  | notModelled (mnemonic : String)
  deriving DecidableEq, Repr

/-- The keeper fuses (R3, R7, R25, R26, R27, R53, R67). serial: the PCIe Device Serial Number (R104, R334). -/
structure Fuses where
  grade : Nat
  stepLetter : Nat
  stepDigit : Nat
  ptd : Tbl W64
  ltd : Tbl Nat
  bch : Tbl W64
  programmed : Nat
  revoked : Nat
  minSec : Nat
  keyHash : Tbl Nat
  trips : Tbl Nat
  serial : Nat
  deriving DecidableEq, Repr

/-- Why the part is held stopped (R55, R58, R402, R420). -/
inductive Hold where
  /-- Not held. -/
  | none
  /-- A thermal trip: COLD_RST_N is ignored until every healthy sensor reads below 95 degrees (R55). -/
  | trip
  /-- VAUX_1V8 was lost: held until it has been in range for 1 ms (R420). -/
  | vaux
  /-- Waiting for COLD_RST_N to be asserted and released (R55, R58, R402). -/
  | await
  deriving DecidableEq, Repr

/-- The supplies, reset and alert pins, with true for asserted (R44, R54, R55, R58, R401). vinCap: the setpoint code to which a low
VIN_PKG caps; removed: VAUX_1V8 was removed. -/
structure Pins where
  vinMv : Nat
  vauxMv : Nat
  coldRst : Bool
  hold : Hold
  refPresent : Bool
  thermTrip : Bool
  thermAlert : Bool
  pwrFault : Bool
  tripped : Bool
  vinCap : Option Nat
  removed : Bool
  deriving DecidableEq, Repr

/-- The timebase (R84 to R91): keeper West's counter, the turn, where boundaries are counted from, the turn length
and its staged successor, and a pending step. -/
structure Timebase where
  tick : Nat
  turn : Nat
  origin : Nat
  ticks : Nat
  nextTicks : Nat
  stepPend : Option Nat
  planeEver : Bool
  deriving DecidableEq, Repr

/-- What one die carries beside its registers: failure, thermal cap code, consecutive samples at 115 degrees, the
offset in 1/16 ns that the last measurement found and did not yet trim, and since when it is beyond 2 ns, the times of its recent CTRL_UE
records, and its spindle arbiters (R174, R175): its weight; as a mask, the inputs that asked for a weighted transfer in this turn; the input
whose turn is next; for what reaches it, the die whose turn it is in the round and how many grains are left to it; on a bridge, the reserved
slot that was last used or released. -/
structure DieSt where
  failed : Bool
  capCode : Option Nat
  over115 : Nat
  skew : Int
  skewSince : Option Nat
  ctrlUe : List Nat
  spindleWeight : Nat
  inputs : Nat
  nextInput : Nat
  roundDie : Nat
  roundLeft : Nat
  lastSlot : Nat
  deriving DecidableEq, Repr

/-- A die as it is after reset. -/
def DieSt.fresh : DieSt := ⟨false, none, 0, 0, none, [], 1, 0, 0, 0, 0, 0⟩

/-- A GLB_PD write that awaits the boundary (R49). -/
structure PdPend where
  req : Option Nat
  vset : Option Nat
  deriving DecidableEq, Repr

/-- Where a domain's wake stands (R51). -/
inductive Wake where
  | none
  | queued
  | started (tick : Nat)
  | ready (us : Nat)
  deriving DecidableEq, Repr

/-- A section of a structure image (R62). -/
structure Section where
  typ : Nat
  inst : Nat
  body : Blob
  deriving DecidableEq, Repr

/-- A plane: its sections of TYPE 0x01 to 0x0C, ascending, with what its image's header says (R61, R69, R70). -/
structure Plane where
  secs : List Section
  secVersion : Nat
  stajaMin : Nat
  digest : Nat
  src : Nat
  deriving DecidableEq, Repr

/-- The retiring plane's obligations (R81): who has not reported, when the swap was, and the plane's MAX_RES_MS. -/
structure Retire where
  left : List Nat
  swapTick : Nat
  maxResMs : Nat
  deriving DecidableEq, Repr

/-- A plane that a die has kept where it did not swap with the others (R81, R83): since the tick of that swap, and until the die caught
up, if it has. -/
structure Kept where
  die : Nat
  since : Nat
  till : Option Nat
  plane : Plane
  deriving DecidableEq, Repr

/-- The structure-image engine (R71 to R83). commits: the dies that hold a COMMIT, each with its term and the stamp of its receipt (R81,
R94); behind: the dies that did not swap with the others, with the planes that they have kept (R81, R83); past: the earlier planes, each
with the tick of the swap that ended it, latest first, for packets with an older stamp (R81, R93); pools: the lathe pool to which firmware
has assigned each logical lathe, as 32 partition + pool (R426). -/
structure ImgSt where
  active : Option Plane
  actTick : Nat
  loadLen : Nat
  loaded : Blob
  loadSrc : Nat
  shadow : Option Plane
  armTerm : Nat
  armTick : Nat
  target : Nat
  ready : List Nat
  commits : List (Nat × Nat × Nat)
  retire : Option Retire
  behind : List Kept
  past : List (Nat × Plane)
  pools : Tbl (Option Nat)
  deriving DecidableEq, Repr

/-- A configuration fence (R364): its term, its expiry, and the term notices it holds. -/
structure Fence where
  term : Nat
  expiry : Nat
  notices : List (Nat × Nat × Nat × Nat)
  deriving DecidableEq, Repr

/-- A voter (R361). -/
structure Voter where
  promised : Nat
  holder : Nat
  expiry : Nat
  deriving DecidableEq, Repr

/-- A pending handover (R362, R370): the successor, its turn, the term it passes from, and the voters that take part. -/
structure Handover where
  sv : Nat
  turn : Nat
  term : Nat
  voters : List Nat
  deriving DecidableEq, Repr

/-- The state of the seam (R366, R368, R369). -/
inductive Seam where
  | joined | cut | healing
  deriving DecidableEq, Repr

/-- Leadership and supervision (R361 to R374). joinTick: from which stamp on packets cross the seam (R369); backoff: when a
supervisor's back-off ends (R363); adoptTurn: the boundary that the notices of a new term name (R364). -/
structure SupSt where
  voters : Tbl Voter
  fences : Tbl Fence
  vbridge : Nat
  handover : Option Handover
  seam : Seam
  joinTick : Nat
  healTurn : Option Nat
  healReady : List Nat
  backoff : Tbl (Option Nat)
  adoptTurn : Nat
  deriving DecidableEq, Repr

/-- An error record (R377). -/
structure ErrRec where
  source : Nat
  step : Nat
  sev : Nat
  die : Nat
  part : Nat
  job : Option Nat
  ctx : Option Nat
  stamp : Nat
  addr : Nat
  rep : Nat
  detail : Nat
  unit : Nat
  deriving DecidableEq, Repr

/-- The record of an entry that was never written. -/
def ErrRec.zero : ErrRec := ⟨0, 0, 0, 0, 0, none, none, 0, 0, 0, 0, 0⟩

/-- An escalation that waits to be taken (R379, R385): the step, and the unit it is for. -/
structure Escal where
  step : Nat
  die : Nat
  unit : Nat
  deriving DecidableEq, Repr

/-- An I3C event (R356, R357): code, die, low 48 bits of the stamp. -/
structure I3cEvent where
  code : Nat
  die : Nat
  stamp : Nat
  deriving DecidableEq, Repr

/-- The sideband: console, I3C target, JTAG and boot flash (R353 to R359, R403). -/
structure SideSt where
  i3cQueue : List I3cEvent
  i3cIbi : Bool
  i3cAddr : Option Nat
  i3cOffset : Nat
  i3cMwl : Nat
  i3cMrl : Nat
  jtagIr : Nat
  jtagBoundary : Nat
  jtagUnlocked : Bool
  jtagNet : Nat
  flashA : Tbl Byte
  flashB : Tbl Byte
  conCap : Tbl (List Nat)
  conIn : Tbl (List Nat)
  deriving DecidableEq, Repr

/-- The state of a start (R404, R405): the ticks that steps of the timebase have added, the copy being booted, the copies set
aside, whether the fallback of R404 is used up, what has finished, the stack that holds the main firmware, whether an image of
the flash has failed, and the boot stage as the supervisors' SRAM holds it. -/
structure BootSt where
  stepped : Nat
  copy : Nat
  tried : List Nat
  fallback : Bool
  nearDone : Bool
  farDone : Bool
  mainDone : Bool
  mainStack : Option Nat
  imgTried : Bool
  sram : Blob
  deriving DecidableEq, Repr

/-- A packet descriptor (R142): the header as a big-endian number (R122, R123), a control packet's 48 payload bytes,
the ingress stamp, where it came from and goes to, its grains in order, and its progress. burred: a grain of it is burred, which its header
says when it leaves (R127); limit: on a frame that waits for its acknowledgement, the tick by which its gate wants it ended (R169). -/
structure Pkt where
  uid : Nat
  data : Bool
  hdr : Nat
  payload : Nat
  stamp : Nat
  inPort : Nat
  outPort : Nat
  tc : Nat
  job : Nat
  grains : List Nat
  arrived : Nat
  epid : Option Nat
  unordered : Bool
  heldTick : Nat
  began : Bool
  linkTick : Nat
  spillAt : Option Nat
  fromPart : Bool
  ctx : Option Nat
  burred : Bool
  limit : Option Nat
  deriving DecidableEq, Repr

/-- The three states of a grain (R143). -/
inductive GrainState where
  | free | held | linked
  deriving DecidableEq, Repr

/-- A grain: its metadata, its grain word (R126), its bytes, and the layout by which they turn between bench order and
link order (R181): 0 opaque; else the element width, + 16 for records of PAIRS, + 32 for a trailer, + 64 for a scatter
grain, + 128 where FORMAT is not read (UINT32 and UINT64). -/
structure GrainSt where
  st : GrainState
  req : Nat
  refs : Nat
  pool : Nat
  job : Option Nat
  word : Nat
  len : Nat
  data : Grain
  lay : Nat
  deriving DecidableEq, Repr

/-- A grain on the free list. -/
def GrainSt.empty : GrainSt := ⟨.free, 0, 0, 0xFF, none, 0, 0, 0, 0⟩

/-- A packet whose grains are still arriving at a headstock, or that waits for its rank entries (R33, R132, R139). mode: 0
forwarded, 1 for a context, 2 for firmware. grains are allocated when it is admitted; next counts the grains that have
been passed on; owed counts the credits still to be returned for it; raw holds what has arrived and is not passed on yet:
tag and bytes (none where the frame ended without a grain), whether the link frame ended there. A dropped packet's grains are discarded.
resv: the reservations that stand for its grains until they are allocated (R147). -/
structure Arriving where
  pkt : Pkt
  mode : Nat
  grains : List Nat
  next : Nat
  owed : Nat
  dropped : Bool
  held : Bool
  ended : Bool
  raw : List (Option (Nat × Nat) × Bool)
  resv : Nat
  deriving DecidableEq, Repr

/-- An ALLOC that waits (R145, R148). -/
structure AllocWait where
  req : Nat
  epoch : Nat
  count : Nat
  ctx : Option Nat
  deriving DecidableEq, Repr

/-- The bench (R141 to R161). lost: the grains of a half that its pools have lost with retired banks and failed dies, from the last
turn boundary on (R384, R395); since: what each pool manager has handed out or promised of a pool since the last sum (key 64 die + pool;
R147); levels: the level of each pool by its thresholds (R147); taken: the captures of a half (R159); descWait: lathe results that wait for a
descriptor (R156). -/
structure BenchSt where
  grains : Tbl GrainSt
  queues : Tbl (List Pkt)
  released : Tbl (List Pkt)
  resv : Tbl Nat
  epochs : Tbl Nat
  waits : List AllocWait
  got : List (Nat × Nat)
  arriving : Tbl (List Arriving)
  stripe : Tbl Nat
  shav : Tbl (Option Blob)
  archived : Tbl Nat
  lastCapture : Tbl Nat
  sampleCtr : Tbl Nat
  nextUid : Nat
  lost : Tbl Nat
  since : Tbl Nat
  levels : Tbl Nat
  taken : Tbl Nat
  descWait : List Pkt
  deriving DecidableEq, Repr

/-- A reorder slot of a tailstock (R134). -/
structure ReorderSlot where
  job : Nat
  src : Nat
  flow : Nat
  expected : Nat
  held : List Pkt
  late : Nat
  lateBase : Nat
  lastJump : Option Nat
  lastRecv : Nat
  deriving DecidableEq, Repr

/-- The packet that a Druvo egress link is sending (R162, R163), which stands among the unacknowledged frames: its number, the
grains already sent, when it ends, and the tick by which its gate wants it ended. -/
structure InProgress where
  pkt : Pkt
  seq : Nat
  sent : Nat
  endTick : Nat
  limit : Option Nat
  deriving DecidableEq, Repr

/-- A port beside its registers: link layer, credits, scheduler and tailstock (R98 to R120, R134, R136, R162 to R172). waiting:
a back-off or hold-down runs; pendLanes, pend100 and pendFec: the lanes, rate and FEC that the port returns to UP with;
localReq: this end started the change that runs; since: when the hold-down, back-off, retrain or resize that runs began; laneRev: the
peer's lanes lie in reverse order; peerLanes and peerWidth: the port lanes that the peer offered at the last negotiation, and its width;
offer: the credits of this end's capability word; paused: until which tick each priority is paused; pfcOut: the priorities whose pause
this end has asked for (R101, R103, R136); under: the packet that an inserted TC7 packet in progress interrupts (R163). -/
structure PortSt where
  identity : Nat
  prevIdentity : Option Nat
  version : Nat
  window : Nat
  txSeq : Nat
  unacked : List (Nat × Pkt)
  rxSeq : Nat
  replayFails : Nat
  replayTicks : List Nat
  badTicks : List Nat
  noBypass : Bool
  credits : List Nat
  given : List Nat
  waitCredits : List Nat
  attempts : Nat
  backoffMs : Nat
  resends : Nat
  waiting : Bool
  warm : Bool
  next100 : Bool
  pendLanes : Nat
  pend100 : Bool
  pendFec : Bool
  rateChange : Bool
  localReq : Bool
  peerSpareA : Option Nat
  peerSpareB : Option Nat
  deficit : List Nat
  cls : Nat
  fresh : Bool
  inProg : Option InProgress
  under : Option InProgress
  slots : List ReorderSlot
  circuitTurn : Nat
  mac : Nat
  since : Nat
  laneRev : Bool
  peerLanes : Nat
  peerWidth : Nat
  offer : List Nat
  paused : List Nat
  pfcOut : Nat
  deriving DecidableEq, Repr

/-- A port as it is after reset. -/
def PortSt.fresh0 : PortSt :=
  ⟨0, none, 0, 0, 0, [], 0, 0, [], [], false, List.replicate 8 0, List.replicate 8 0, List.replicate 8 0, 0, 1, 0, false, false,
    false, 0, false, false, false, false, none, none, List.replicate 5 0, 0, true, none, none, [], 0, 0, 0, false, 0, 0,
    List.replicate 8 0, List.replicate 8 0, 0⟩

/-- A policer's buckets, in 1/1024 byte (R166); full until its first check. -/
structure PolSt where
  full : Bool
  tc : Nat
  tp : Nat
  last : Nat
  deriving DecidableEq, Repr

/-- A cached rank entry: job, base of its table, rank, entry (R132). -/
structure RankEntry where
  job : Nat
  base : Nat
  rank : Nat
  entry : Nat
  pinned : Bool
  deriving DecidableEq, Repr

/-- The header pipelines of the port dies: policers, rank caches, uplink groups (in force, staged for the boundary, and as
they were before the last one), neighbour tables (R130 to R137, R166). -/
structure HeadSt where
  pol : Tbl PolSt
  cache : Tbl (List RankEntry)
  upgrps : Tbl (List Nat)
  upgrpsNext : Tbl (List Nat)
  upgrpsOld : Tbl (List Nat)
  upgrpsTick : Nat
  rotation : Tbl Nat
  neigh : Tbl Nat
  deriving DecidableEq, Repr

/-- The states of a job (R326). -/
inductive JobState where
  | free | admitting | admitted | modifying | removing | draining
  deriving DecidableEq, Repr

/-- A job as every die holds it (R323, R327, R328): its state, the record in force, the record before the last change
and the tick of that change, the record that waits, and the ticks between which packets of the job pass. -/
structure JobSt where
  state : JobState
  rec_ : Blob
  oldRec : Blob
  changeTick : Nat
  nextRec : Blob
  admitTick : Nat
  endTick : Option Nat
  drainMs : Nat
  trees : Blob
  slotTicks : Nat
  slotOver : Bool
  deriving DecidableEq, Repr

/-- A job that is not admitted. -/
def JobSt.none_ : JobSt := ⟨.free, Blob.empty, Blob.empty, 0, Blob.empty, 0, none, 0, Blob.empty, 0, false⟩

/-- The job command that is being checked or waits for its boundary (R327). -/
structure JobCmd where
  job : Nat
  cmd : Nat
  prev : JobState
  turn : Nat
  deriving DecidableEq, Repr

/-- Jobs (R323 to R329). frozen: the half that the seam has cut off from the leader, with the jobs as they stood at the cut (R368,
R369). -/
structure JobsSt where
  jobs : Tbl JobSt
  checking : Option (Nat × Nat)
  waiting : List JobCmd
  frozen : Option (Nat × Tbl JobSt)
  deriving DecidableEq, Repr

/-! ## Contexts and lathes (chapters 10 to 15) -/

/-- An arrival at a context: a grain of a CONTRIB, CARRY, INDEX or TABLE_WRITE packet, or an ARRIVE or VOTE post, with
what the headstock and the collective layer know of it (R273, R314). kind is the opcode; a post has 0x42 and post 2 or
3. who is the contributor's number once tracked; spillAt: where its grain lies in the partition's spill region, if it is spilled (R158). -/
structure Notice where
  kind : Nat
  post : Nat
  src : Nat
  port : Option Nat
  tag : Nat
  index : Nat
  segment : Nat
  last : Bool
  ptr : Option Nat
  word : Nat
  len : Nat
  hash : Nat
  stamp : Nat
  digest : Nat
  who : Nat
  spillAt : Option Nat
  deriving DecidableEq, Repr

/-- The counted stream of one contributor (R297): the grain it gives next, the slots of the last data grain (held until
the next grain shows how many are valid), the elements that stand (key, value), the slots received in all, its trailer's
count once taken, and the key of the last record (R303). -/
structure Feed where
  who : Nat
  next : Nat
  held : List (Nat × Nat)
  elems : List (Nat × Nat)
  got : Nat
  trailer : Option Nat
  prev : Option Int
  deriving DecidableEq, Repr

/-- A stream instruction in progress (R236, R237): its opcode, its descriptor and NCTL as read at the start, the counts
and running values of its open elements, the latest stamp consumed for each position, and what the counted streams
keep (R262): their contributors, the elements waiting for an output grain, the key being combined, whether the sort is
done, and the elements emitted. -/
structure Stream where
  op : Nat
  sd : Nat
  ofmt : Nat
  ifmt : Nat
  grains : Nat
  lnum : Nat
  lfirst : Nat
  expect : Nat
  ocr : Nat
  oscale : Option Nat
  iscale : Option Nat
  rnd : Nat
  nctl : Nat
  rop : Nat
  arg16 : Nat
  arg32 : Nat
  odst : Bool
  win : Nat
  a0 : Nat
  seg : Nat
  elems : Nat
  cnt : Tbl Nat
  acc : Tbl LAcc
  run : Tbl (Option Val)
  stamps : Tbl Nat
  feeds : List Feed
  out : List (Nat × Nat)
  group : Option Nat
  sorted : Bool
  emitted : Nat
  deriving DecidableEq, Repr

/-- What a bundle does after its last execution (R225, R230): where it goes, whether a C syllable sent it there, whether
it waits as FENCE (1) or HALT (2) with a CODE. -/
structure After where
  npc : Int
  viaC : Bool
  kind : Nat
  code : Nat
  deriving DecidableEq, Repr

/-- Why a chuck thread does not issue (R199, R206 to R209, R230, R241). -/
inductive Wait where
  /-- Ready to issue. -/
  | ready
  /-- Its pipeline request is not granted. -/
  | grant
  /-- Its window operands have not arrived. -/
  | operand
  /-- Its ALLOC waits. -/
  | alloc
  /-- A stream is in progress, or GIN waits for an arrival. -/
  | stream
  /-- FENCE or HALT waits for earlier stores and outputs. -/
  | fence
  /-- A stock program whose work is done waits for its call to end. -/
  | call
  deriving DecidableEq, Repr

/-- The registers of a context and the point its thread has reached (R226, R262). rep counts the executions of a
repeated bundle that are done; after is what follows the bundle once its stream ends or its stores are accepted. -/
structure Regs where
  pc : Nat
  rep : Nat
  repN : Option Nat
  s : Tbl (BitVec 32)
  a : Tbl (BitVec 40)
  astr : Tbl (BitVec 32)
  v : Tbl (BitVec 8192)
  k : Tbl (BitVec 256)
  acc : Tbl LAcc
  nctl : Nat
  nctlNext : Option Nat
  nflags : Nat
  prog : Nat
  stream : Option Stream
  wait : Wait
  after : Option After
  code : Nat
  stores : Nat
  deriving DecidableEq, Repr

/-- A sample of a resident context of a lathe (R392): the lathe, its LT registers, the context's record, its registers,
and the first 4 KiB of its lathe-store and chuck-data windows, listed as CtxSt.mem lists them. -/
structure Sample where
  lathe : Nat
  lt : List W64
  ctx : Nat
  record : CtxRec
  regs : Regs
  windows : Tbl Byte
  deriving DecidableEq, Repr

/-- What the capture buffers hold (R393): the registers and the error-record queues of every die. -/
structure Capture where
  regs : Tbl W64
  queues : Tbl (List ErrRec)
  deriving DecidableEq, Repr

/-- A dump in a slot of the far-tier dump area (R393): captures, samples, the ERR log, every context record, the shavings
rings, the supervisors' SRAM; its bytes are laid out by firmware, in a layout that the spec does not give; len is their number. -/
structure Dump where
  number : Nat
  len : Nat
  sram : Blob
  captured : Option Capture
  samples : List Sample
  log : Tbl (Option ErrRec)
  records : Tbl CtxRec
  shav : Tbl (Option Blob)
  deriving DecidableEq, Repr

/-- Errors, dumps and management events (R375 to R398). escal: requests of steps 1 and 2; asked: requests of steps 3 to 5 with their
partition (R379, R391). -/
structure ErrSt where
  queues : Tbl (List ErrRec)
  log : Tbl (Option ErrRec)
  escal : List Escal
  asked : List (Nat × Nat)
  samples : List Sample
  captured : Option Capture
  dumpPartial : Bool
  dumps : Tbl (Option Dump)
  evtSeq : Nat
  evtRead : Nat
  health : Tbl (Nat × Nat)
  healthSeen : Tbl Nat
  retiredGrains : List Nat
  retiredCtxs : List Nat
  retiredBanks : List Nat
  deriving DecidableEq, Repr

/-- A result grain that waits for its release tick (R214), which holds a reference to it; from_ names the entry that a grain
passed on came from. -/
structure Formed where
  release : Nat
  seg : Nat
  index : Nat
  last : Bool
  ptr : Nat
  word : Nat
  len : Nat
  stamp : Nat
  from_ : Option Nat
  deriving DecidableEq, Repr

/-- A partner lathe's partial of one output position (R279): the partner, the position, and its lanes. -/
structure Partial where
  who : Nat
  seg : Nat
  pos : Nat
  lanes : List Val
  deriving DecidableEq, Repr

/-- The collective layer's state of a context (R267 to R287): the descriptor and its entries as checked at START, the
open call's tracking, votes, leaf sums, scales and outcome; where each contributor's stream ends (64 i + segment: one
past the grain with LAST), the grains that a copying program has taken, and the grains a BARRIER or a vote sent up. -/
structure Coll where
  desc : Blob
  pend : List Notice
  early : List Notice
  above : List Notice
  accepted : List Notice
  got : Tbl Nat
  used : Tbl Nat
  leaf : Tbl Nat
  firstAcc : Option Nat
  votes : Tbl (Option Nat)
  arrived : List Nat
  seg : Nat
  workDone : Bool
  parent : Option (Nat × Nat × Nat)
  forwarded : Tbl Nat
  seqs : Tbl Nat
  formed : List Formed
  released : Nat
  slip : Nat
  start : Nat
  duty : Bool
  carryFmt : Nat
  childFmt : Nat
  narrowUp : Option (Nat × Nat)
  narrowDown : Option (Nat × Nat)
  narrowed : Nat
  inK : Option Int
  outK : Option Int
  parentK : Option Int
  childAmax : Nat
  topAmax : Nat
  resultK : Option Int
  partials : List Partial
  resK : Tbl Nat
  lastAt : Tbl Nat
  copied : Tbl Nat
  upSent : Nat
  deriving DecidableEq, Repr

/-- No call open and nothing tracked. -/
def Coll.empty : Coll :=
  ⟨Blob.empty, [], [], [], [], [], [], [], none, [], [], 0, false, none, [], [], [], 0, 0, 0, false, 0xFF, 0xFF, none, none, 0,
    none, none, none, 0, 0, none, [], [], [], [], 0⟩

/-- What a context is being moved for (R219, R247): not at all; EVICT; RESIDE or MIGRATE onto a lathe and slot; a
START's load. -/
inductive Move where
  | none
  | evict
  | migrate (lathe slot : Nat)
  | restore (lathe slot : Nat)
  | placed (slot : Nat)
  | load (slot : Nat)
  deriving DecidableEq, Repr

/-- Whether a START's load is in progress. -/
def Move.loading : Move → Bool
  | .load _ => true
  | _ => false

/-- A context: its record in the bench (R203), the record as the part latched it at START or REPLAY (R227, R254), where
it is resident, what it is moved for and the STATE to which the move returns, its registers, its program, its lathe-store
and chuck-data windows (key: window * 2^40 + offset) with their burred words, a stop that waits for a grain boundary (1
STOP, 2 EVICT or MIGRATE, 3 an engine reset), its collective state, the supervisor's Staja major version at START, a PACED
start that waits for its boundary, its lathe die, the lathe whose BUSY a move holds, whether it is being made resident without a saved
area, and the registers of its register area that hold burred words: V n as n, L n as 32 + n, the page of the others as 36 (R382). -/
structure CtxSt where
  record : CtxRec
  live : CtxRec
  phys : Option Nat
  move : Move
  prev : Nat
  regs : Regs
  program : Blob
  mem : Tbl Byte
  burr : Tbl Bool
  stopping : Nat
  coll : Coll
  major : Nat
  startPend : Bool
  home : Nat
  moveTo : Option Nat
  unsaved : Bool
  areaBurr : List Nat
  deriving DecidableEq, Repr

/-- Registers as START leaves them before the program counter is set (R249). -/
def Regs.zero : Regs := ⟨0, 0, none, [], [], [], [], [], [], 0, none, 0, 0, none, .ready, none, 0, 0⟩

/-- A FREE context. -/
def CtxSt.free : CtxSt := ⟨0, 0, none, .none, 0, Regs.zero, Blob.empty, [], [], 0, Coll.empty, 0, false, 0, none, false, []⟩

/-- A lathe beside its registers: the context that holds the grant, the pending requests, when the watchdog's count
began and when the grant was last charged, the key of the last thread that issued, the tick of a bite whose pipeline has not drained,
an engine reset that waits for the holder's boundary and since when, a takeover that waits for its boundary, and the ROLE to which a
self-test that runs returns. -/
structure LatheSt where
  holder : Option Nat
  pending : List Nat
  since : Nat
  granted : Nat
  lastIssue : Nat
  bitten : Option Nat
  resetting : Bool
  resetAt : Nat
  takeover : Bool
  selfTest : Option Nat
  deriving DecidableEq, Repr

/-- A lathe as it is after reset. -/
def LatheSt.fresh : LatheSt := ⟨none, [], 0, 0, 0, none, false, 0, false, none⟩

/-- A word of a host command FIFO (R345): whether its parity will hold, whether it carries the end mark, and on an end mark whether a
word of its command was ignored (R348). -/
structure HcfWord where
  word : W64
  parityOk : Bool
  last : Bool
  broken : Bool
  deriving DecidableEq, Repr

/-- A command that firmware has taken (R346): its code and tag, the mailbox for its reply (none once the reply is abandoned, R352), and
its argument words. -/
structure HcfCmd where
  code : Nat
  tag : Nat
  reply : Option Nat
  args : List W64
  deriving DecidableEq, Repr

/-- One PCIe function beside its registers: its host command FIFO, whether a command is open and broken there, the command that firmware
has taken, the replies that wait for their mailboxes (R346), and in AER the address and word of the write last recorded as an
Unsupported Request, and a poisoned read (R340, R350). -/
structure FnSt where
  fifo : List HcfWord
  opened : Bool
  broken : Bool
  taken : Option HcfCmd
  owed : List (Nat × W64)
  unsupported : Option (Nat × W64)
  poisoned : Bool
  deriving DecidableEq, Repr

/-- A function after reset. -/
def FnSt.fresh : FnSt := ⟨[], false, false, none, [], none, false⟩

/-- What a DMA channel carries: an image, a boot-flash copy, or the dump of a number (R342). -/
inductive DmaUse where
  | image
  | flash (copy : Nat)
  | dump (number : Nat)
  deriving DecidableEq, Repr

/-- A DMA channel with a transfer (R342, R343): the function and command it serves; where its next list entry lies and how many it has
read; the length named and the bytes moved; the bytes it still waits for, of a list entry or of data, and those of the list entry that
have arrived; whether the entry in progress is the last; the data kept for the flash; whether it runs, has moved its last byte, and
hears completions. -/
structure DmaChan where
  use : DmaUse
  fn : Nat
  cmd : HcfCmd
  list : Nat
  entries : Nat
  total : Nat
  moved : Nat
  wait : Nat
  inList : Bool
  part : Blob
  last : Bool
  buf : Blob
  live : Bool
  done : Bool
  deaf : Bool
  deriving DecidableEq, Repr

/-- The host interface beside its registers (R334 to R351): the MSI-X tables and pending bits, the functions, the DMA channels. -/
structure HostSt where
  msixTable : Tbl Nat
  msixPend : Tbl Nat
  fns : Tbl FnSt
  chans : Tbl (Option DmaChan)
  deriving DecidableEq, Repr

/-- What leaves the part or is told to its peers, in order. -/
inductive Out where
  /-- MSI-X vector v of function fn (R334). -/
  | msix (fn : Nat) (v : Nat)
  /-- An IBI of the I3C target (R356). -/
  | ibi (e : I3cEvent)
  /-- A packet header sent on a port, with a control packet's payload, under a link number; whether it is inserted between two grains of
  another packet (R163). -/
  | header (port : Nat) (data : Bool) (hdr : Nat) (payload : Nat) (seq : Nat) (inserted : Bool)
  /-- A grain sent on a Druvo-native port: its tag, of grain word and grain CRC (R126), its bytes and how many are valid; whether its packet
  is inserted. -/
  | grain (port : Nat) (word : Nat) (data : Grain) (len : Nat) (crc : Nat) (inserted : Bool)
  /-- An Ethernet frame sent on a port (R137): destination and VLAN from the neighbour table, source, class as PCP, EtherType, and the Druvo
  packet: its header, a control packet's payload, and a data packet's grains without tags, each with its valid bytes. -/
  | frame (port : Nat) (neigh : Nat) (mac : Nat) (tc : Nat) (etherType : Nat) (data : Bool) (hdr : Nat) (payload : Nat)
    (grains : List (Grain × Nat))
  /-- An event record of the bench to firmware (R147, R156): the level of a pool changed (what 0, unit the pool, its level); no
  descriptor (1) or no grain (2) was free in a half; a job's checks failed when they were repeated at its boundary (3). -/
  | benchEvent (what : Nat) (unit : Nat) (level : Nat)
  /-- Credits returned to the peer of a port. -/
  | credit (port : Nat) (tc : Nat) (n : Nat)
  /-- A cumulative acknowledgement or a NAK with the last good number, to the peer of a port (R105). -/
  | ack (port : Nat) (seq : Nat)
  | nak (port : Nat) (seq : Nat)
  /-- A capability word or a change request sent to the peer of a port (R103, R115). -/
  | capability (port : Nat) (word : CapWord)
  | change (port : Nat) (lanes : Nat) (rate100 : Bool) (fec : Bool)
  /-- A priority-flow-control frame sent on an Ethernet port: the priorities named, and those of them paused; the others resume (R101). -/
  | pause (port : Nat) (named : Nat) (paused : Nat)
  /-- A frame or packet handed to firmware: port, EtherType or opcode, stamp, bytes (R88, R101). -/
  | toFirmware (port : Nat) (kind : Nat) (stamp : Nat) (b : Blob)
  /-- A PTP message of firmware sent on the named port, as a TC7 control packet's payload (48 bytes or less), in a one-grain TC6 data packet or
  in an 802.3 frame, and its egress stamp, which goes to firmware (R88). -/
  | ptpSent (port : Nat) (stamp : Nat) (message : Blob)
  /-- Bytes that a bus read returned. -/
  | readReply (b : Blob)
  /-- A bus transfer that was not acknowledged. -/
  | nack
  /-- A CTX_EVENT between two contexts of this part: to which context, from its parent or from a child, and its 48
  payload bytes as one big-endian number; it reaches the context as its own command (R283, R286). -/
  | localEvent (ctx : Nat) (fromParent : Bool) (payload : Nat)
  /-- An answer to a lease request: voter, request, granted (R362). -/
  | voteReply (voter : Nat) (sv : Nat) (term : Nat) (granted : Bool)
  /-- Read requests of a DMA channel: host address and bytes, in requests of at most 512 bytes (R334). -/
  | dmaRead (ch : Nat) (addr : Nat) (len : Nat)
  /-- Posted writes of a DMA channel: host address and bytes, from byte at_ of the dump of a number (R342, R393). -/
  | dmaWrite (ch : Nat) (addr : Nat) (len : Nat) (number : Nat) (at_ : Nat)
  /-- A read completed with the poisoned bit, and its data (R340). -/
  | poisonedReply (b : Blob)
  /-- An access completed as an Unsupported Request: function, BAR, offset (R350). -/
  | unsupported (fn : Nat) (bar : Nat) (off : Nat)
  /-- A bus error to firmware of a function's supervisor (R350). -/
  | fwBusError (fn : Nat) (off : Nat)
  /-- A byte on the console TX pin of a supervisor (R355). -/
  | conTx (sv : Nat) (b : Nat)
  /-- Bits that the TAP shifted out, the first at bit 0 (R358). -/
  | tdo (bits : Nat) (wid : Nat)
  deriving DecidableEq, Repr

/-- The whole state of the part. lanes: which attempt to lock a lane's synthesiser runs (key 34 d + n; 0 none, 1, 2; R119), and what the
last TX command set its transmitter to (key 1088 + 34 d + n; 0 idle, 1 data, 3 PRBS31; R119);
spares: what a spare trains for in the background (key 2 d + 1 for B; 0 nothing, 1 + l to take logical lane l, 65 + l to give
it back; R118). -/
structure State where
  fuses : Fuses
  pins : Pins
  tb : Timebase
  regs : Tbl W64
  dies : Tbl DieSt
  pdPend : Tbl PdPend
  wakes : Tbl Wake
  img : ImgSt
  sup : SupSt
  err : ErrSt
  side : SideSt
  boot : BootSt
  host : HostSt
  bench : BenchSt
  ports : Tbl PortSt
  lanes : Tbl Nat
  spares : Tbl Nat
  head : HeadSt
  jobs : JobsSt
  ctxs : Tbl CtxSt
  lathes : Tbl LatheSt
  near : Tbl Byte
  far : Tbl Byte
  nearBurr : Tbl Bool
  farBurr : Tbl Bool
  freeCtr : Nat
  outs : List Out
  pending : List Instr
  deriving DecidableEq, Repr

/-- The part right after reset: COLD_RST_N asserted with both supplies within their ranges, nothing forwarded, every register
at its reset value, every memory empty, no command waiting. The fuses are those of an IXS-1024-A, stepping B0, with lathe
4 of each die spare and key slot 0 programmed (DESIGN CHOICE, log 2). -/
def State.reset : State where
  fuses := ⟨1, 0xB, 0, [], [], [], 1, 0, 0, [], [], 0⟩
  pins := ⟨900, 1800, true, .none, true, false, false, false, false, none, false⟩
  tb := ⟨0, 0, 0, 100000, 0, none, false⟩
  regs := []
  dies := []
  pdPend := []
  wakes := []
  img := ⟨none, 0, 0, Blob.empty, 0, none, 0, 0, 0, [], [], none, [], [], []⟩
  sup := ⟨[], [], 5, none, .joined, 0, none, [], [], 0⟩
  err := ⟨[], [], [], [], [], none, false, [], 0, 0, [], [], [], [], []⟩
  side := ⟨[], true, none, 0, 8, 16, 1, 0, false, 0, [], [], [], []⟩
  boot := ⟨0, 0, [], false, false, false, false, none, false, Blob.empty⟩
  host := ⟨[], [], [], []⟩
  bench := ⟨[], [], [], [], [], [], [], [], [], [], [], [], [], 1, [], [], [], [], []⟩
  ports := []
  lanes := []
  spares := []
  head := ⟨[], [], [], [], [], 0, [], []⟩
  jobs := ⟨[], none, [], none⟩
  ctxs := []
  lathes := []
  near := []
  far := []
  nearBurr := []
  farBurr := []
  freeCtr := 0
  outs := []
  pending := []

end Sys2Proof.Machine
end

