-- ==== Sys2Proof/Machine/Ops.lean ====
section
/-! DEFINITION. The named operations that every family of commands shares: registers and their fields, tier memory,
stamps, configuration fences, error records, events to the host and the tray controller. -/

namespace Sys2Proof.Machine

/-! ## Registers and fields -/

/-- The word a register holds. -/
def State.rd (s : State) (off : Nat) : W64 := s.regs.get regReset off

/-- Put a word into a register. -/
def State.wr (s : State) (off : Nat) (v : W64) : State := { s with regs := s.regs.set regReset off v }

/-- A field of a register. -/
def State.fld (s : State) (off : Nat) (f : Fld) : Nat := f.get (s.rd off)

/-- Set a field of a register. -/
def State.setFld (s : State) (off : Nat) (f : Fld) (x : Nat) : State := s.wr off (f.put (s.rd off) x)

/-- Add n to a counter field, which holds at its top (saturates). -/
def State.countBy (s : State) (off : Nat) (f : Fld) (n : Nat) : State :=
  s.setFld off f (satAdd f.wid (s.fld off f) n)

/-- Add 1 to a counter field, which holds at its top. -/
def State.count (s : State) (off : Nat) (f : Fld) : State := s.countBy off f 1

/-- Raise a maximum field to x if x is larger, held at the top of the field. -/
def State.raiseMax (s : State) (off : Nat) (f : Fld) (x : Nat) : State :=
  s.setFld off f (max (s.fld off f) (min x (2 ^ f.wid - 1)))

/-- Add one thing to what has left the part. -/
def State.emit (s : State) (o : Out) : State := { s with outs := s.outs ++ [o] }

/-- Take a fresh open value (Config.freeWord), and the state that has used it up. -/
def State.free (s : State) : W64 × State :=
  (Config.freeWord s.freeCtr, { s with freeCtr := s.freeCtr + 1 })

/-! ## Dies -/

/-- What a die holds beside its registers. -/
def State.die (s : State) (d : Nat) : DieSt := s.dies.get (fun _ => DieSt.fresh) d

/-- Change what a die holds beside its registers. -/
def State.setDie (s : State) (d : Nat) (f : DieSt → DieSt) : State :=
  { s with dies := s.dies.modify (fun _ => DieSt.fresh) d f }

/-- The R53 index of port die d. -/
def dPort (d : Nat) : Nat := d
/-- The R53 index of lathe die d. -/
def dLathe (d : Nat) : Nat := 32 + d
/-- The R53 index of bench die d. -/
def dBench (d : Nat) : Nat := 56 + d
/-- The R53 index of near-tier stack n. -/
def dNear (n : Nat) : Nat := 72 + n
/-- The R53 index of far-tier die n. -/
def dFar (n : Nat) : Nat := 80 + n
/-- The R53 index of bridge b. -/
def dBridge (b : Nat) : Nat := 84 + b
/-- The R53 index of supervisor v. -/
def dSup (v : Nat) : Nat := 96 + v
/-- The R53 index of keeper k. -/
def dKeeper (k : Nat) : Nat := 98 + k

/-- The half of a die: 0 West, 1 East (R21). -/
def dieHalf (d : Nat) : Nat :=
  if d < 32 then d / 16
  else if d < 56 then (d - 32) / 12
  else if d < 72 then (d - 56) / 8
  else if d < 80 then (d - 72) / 4
  else if d < 84 then (d - 80) / 2
  else if d < 96 then (d - 84) / 6
  else if d < 98 then d - 96
  else d - 98

/-- An input of a die asks for a spindle transfer: one that is weighted (not TC6 or TC7) counts it as active in this turn (R174,
R175). -/
def State.useInput (s : State) (tc d i : Nat) : State :=
  if 6 ≤ tc then s else s.setDie d (fun x => { x with inputs := x.inputs ||| 2 ^ i })

/-- A die's own tick counter (R84, R85). The model counts time in keeper West's ticks, and every die's counter stands at the same count when
a command is taken: within the 2 ns that R86 allows (DESIGN CHOICE, log 47). -/
def State.dieNow (s : State) (_d : Nat) : Nat := s.tb.tick

/-- The stamp of an event that another die's message causes: later than its cause (R94). -/
def causedStamp (own carried : Nat) : Nat := max own (carried + 1)

/-- The first BAR0 offset of a die's register block (R336). -/
def dieBase (d : Nat) : Nat :=
  if d < 32 then 0x01000000 + 0x10000 * d
  else if d < 56 then 0x01400000 + 0x20000 * (d - 32)
  else if d < 72 then 0x01800000 + 0x10000 * (d - 56)
  else if d < 80 then 0x01A00000 + 0x10000 * (d - 72)
  else if d < 84 then 0x01C00000 + 0x10000 * (d - 80)
  else if d < 96 then 0x01E00000 + 0x4000 * (d - 84)
  else if d < 98 then 0x00400000
  else 0

/-- Where a die's configuration-fence register lies (R365). -/
def cfgFenceReg (d : Nat) : Nat :=
  if d < 32 then dieBase d + 0xFE00
  else if d < 56 then dieBase d + 0x1FE00
  else if d < 84 then dieBase d + 0xFE00
  else if d < 96 then dieBase d + 0x3E00
  else if d < 98 then 0x0040FE00 + fnBank * (d - 96)
  else 0xFE00

/-- Where a die's error-record queue registers lie (R378). -/
def errqReg (d : Nat) : Nat :=
  if d < 32 then dieBase d + 0xFD00
  else if d < 56 then dieBase d + 0x1FD00
  else if d < 84 then dieBase d + 0xFD00
  else if d < 96 then dieBase d + 0x3D00
  else if d < 98 then 0x0040FD00 + 0x40 * (d - 96)
  else 0xFD00 + 0x40 * (d - 98)

/-- The key of a host-interface register of function fn. -/
def fnReg (fn : Nat) (off : Nat) : Nat := off + fnBank * fn

/-- The grades' physical totals (R1, R3, R24). -/
def State.is768 (s : State) : Bool := s.fuses.grade = 3
/-- The enabled lathes of the code. A GRADE that is never fused (R8) leaves the resources open: the part has those of the IXS-1024-C, 80
lathes, 32 port dies and 8 near-tier stacks (DESIGN CHOICE, log 2). -/
def State.lathesEnabled (s : State) : Nat := if s.fuses.grade = 1 then 96 else 80
/-- The near-tier stacks present, as a mask. -/
def State.ntPresent (s : State) : Nat := if s.is768 then 0x77 else 0xFF
/-- The near-tier bytes of the code. -/
def State.nearBytes (s : State) : Nat := if s.is768 then 384 * 2 ^ 30 else 512 * 2 ^ 30
/-- The far-tier bytes. -/
def farBytes : Nat := 1536 * 2 ^ 30

/-- The fused record of port die d (R25). -/
def Fuses.ptdOf (f : Fuses) (d : Nat) : W64 := f.ptd.get (fun _ => 0x000FFF0000000000#64) d
/-- The fused record of lathe die d (R26). -/
def Fuses.ltdOf (f : Fuses) (d : Nat) : Nat := f.ltd.get (fun _ => 0x100) d
/-- The fused record of bench die d (R27). -/
def Fuses.bchOf (f : Fuses) (d : Nat) : W64 := f.bch.get (fun _ => 0x1F1F1F1F#64) d

/-- The fused role of lathe p of lathe die d: 0 enabled, 1 spare, 2 fused off, 3 never fused (R26). -/
def Fuses.latheRole (f : Fuses) (d p : Nat) : Nat := bitsOf (f.ltdOf d) (2 * p) 2

/-- A spare-use field that is never fused (R25). -/
def spareForBad (x : Nat) : Bool := 0x20 ≤ x ∧ x ≤ 0x3D

/-- A bank-spare field that is never fused (R27). -/
def bankSpareBad (x : Nat) : Bool := 0x14 ≤ x ∧ x ≤ 0x1D

/-- A port die whose fused record holds a never-fused value (R28). -/
def Fuses.ptdBad (f : Fuses) (d : Nat) : Bool :=
  spareForBad (F.GlbUnitmapPtd.spareAFor.get (f.ptdOf d)) || spareForBad (F.GlbUnitmapPtd.spareBFor.get (f.ptdOf d))
/-- A lathe die whose fused record holds a never-fused value (R28). -/
def Fuses.ltdBad (f : Fuses) (d : Nat) : Bool := (List.range 5).any (fun p => f.latheRole d p = 3)
/-- A bench die whose fused record holds a never-fused value (R28). -/
def Fuses.bchBad (f : Fuses) (d : Nat) : Bool :=
  bankSpareBad (F.GlbUnitmapBch.bg0Spare.get (f.bchOf d)) || bankSpareBad (F.GlbUnitmapBch.bg1Spare.get (f.bchOf d))
    || bankSpareBad (F.GlbUnitmapBch.bg2Spare.get (f.bchOf d)) || bankSpareBad (F.GlbUnitmapBch.bg3Spare.get (f.bchOf d))

/-- Port die d is fused off (R4, R23, R25). -/
def State.ptdFused (s : State) (d : Nat) : Bool :=
  F.GlbUnitmapPtd.dieOff.get (s.fuses.ptdOf d) = 1 || (s.is768 && [4, 5, 12, 13, 20, 21, 28, 29].contains d)
/-- Port die d is fused off, or treated as fused off (R28). -/
def State.ptdOff (s : State) (d : Nat) : Bool := s.ptdFused d || s.fuses.ptdBad d
/-- Lathe die d is treated as fused off (R28). -/
def State.ltdOff (s : State) (d : Nat) : Bool := s.fuses.ltdBad d
/-- Bench die d is treated as fused off (R28). -/
def State.bchOff (s : State) (d : Nat) : Bool := s.fuses.bchBad d

/-- Lathe k (5 d + p) is fused off, or its die is treated so (R26, R28). -/
def State.latheFused (s : State) (k : Nat) : Bool := s.fuses.latheRole (k / 5) (k % 5) = 2 || s.ltdOff (k / 5)

/-- A die that this part has enabled (R21, R24, R25, R28). -/
def State.dieEnabled (s : State) (d : Nat) : Bool :=
  if d < 32 then !s.ptdOff d
  else if d < 56 then !s.ltdOff (d - 32)
  else if d < 72 then !s.bchOff (d - 56)
  else if d < 80 then bitOf s.ntPresent (d - 72)
  else true

/-! ## Switched domains (R46 to R51) -/

/-- The domain of quad q of port die d. -/
def domQuad (d q : Nat) : Nat := 9 * d + q
/-- The domain of port die d's core. -/
def domPort (d : Nat) : Nat := 9 * d + 8
/-- The domain of lathe k (5 d + p). -/
def domLathe (k : Nat) : Nat := 288 + 6 * (k / 5) + k % 5
/-- The domain of lathe die d's ring and context directory cache. -/
def domRing (d : Nat) : Nat := 288 + 6 * d + 5
/-- The domain of bank group g of bench die d. -/
def domBank (d g : Nat) : Nat := 432 + 4 * d + g
/-- The domain of near-tier stack n. -/
def domNear (n : Nat) : Nat := 496 + n
/-- The domain of channel c of far-tier die d; c = 3 is the die's core. -/
def domFar (d c : Nat) : Nat := 504 + 4 * d + c
/-- The domain of bridge b. -/
def domBridge (b : Nat) : Nat := 520 + b
/-- The domain of supervisor v's cores and SRAM. -/
def domSup (v : Nat) : Nat := 532 + 2 * v
/-- STATE of a domain (R47). -/
def State.domState (s : State) (n : Nat) : Nat := s.fld (R.glbPd n) F.GlbPd.state
/-- Write STATE of a domain. -/
def State.setDom (s : State) (n st : Nat) : State := s.setFld (R.glbPd n) F.GlbPd.state st
/-- Where a domain's wake stands. -/
def State.wake (s : State) (n : Nat) : Wake := s.wakes.get (fun _ => .none) n
/-- Set where a domain's wake stands. -/
def State.setWake (s : State) (n : Nat) (w : Wake) : State := { s with wakes := s.wakes.set (fun _ => .none) n w }
/-- A bank group of a bench die is in service: its domain is ON (R47). -/
def State.bankOn (s : State) (d g : Nat) : Bool := s.domState (domBank d g) = 2
/-- A domain begins to wake: it waits for its start (R51). -/
def State.domWake (s : State) (n : Nat) : State := (s.setDom n 1).setWake n .queued
/-- A domain's wake starts now (R51). -/
def State.startWake (s : State) (n : Nat) : State := (s.setDom n 1).setWake n (.started s.tb.tick)

/-! ## Tier memory -/

/-- The canonical form of a tier: addresses strictly rising, and no byte listed that reads as an unlisted one (0). -/
def Memory.wf (m : Tbl Byte) : Bool := m.wf (fun _ => 0)

/-- n bytes of a tier from address a (a byte that nothing has written reads 0). -/
def memRead (t : Tbl Byte) (a : Nat) : Nat → Nat
  | 0 => 0
  | n + 1 => (t.get (fun _ => 0) a).toNat + 256 * memRead t (a + 1) n

/-- Write n bytes (a little-endian number) from address a. -/
def memWrite (t : Tbl Byte) (a : Nat) : Nat → Nat → Tbl Byte
  | 0, _ => t
  | n + 1, v => memWrite (t.set (fun _ => 0) a (BitVec.ofNat 8 v)) (a + 1) n (v / 256)

/-- Read a string of bytes of the near tier. -/
def State.nearRead (s : State) (a n : Nat) : Blob := ⟨n, memRead s.near a n⟩
/-- Read a string of bytes of the far tier. -/
def State.farRead (s : State) (a n : Nat) : Blob := ⟨n, memRead s.far a n⟩
/-- Clear the burr of every 32-byte sector that a write covers whole (R382). -/
def burrClear (b : Tbl Bool) (a n : Nat) : Tbl Bool :=
  let lo := (a + 31) / 32
  let hi := (a + n) / 32
  b.filter (fun e => !(decide (lo ≤ e.1) && decide (e.1 < hi)))
/-- Whether any sector of a range carries a burr (R382). -/
def burrHit (b : Tbl Bool) (a n : Nat) : Bool :=
  b.any (fun e => e.2 && decide (a / 32 ≤ e.1) && decide (32 * e.1 < a + n))
/-- Write a string of bytes to the near tier. -/
def State.nearWrite (s : State) (a : Nat) (b : Blob) : State :=
  { s with near := memWrite s.near a b.len b.val, nearBurr := burrClear s.nearBurr a b.len }
/-- Write a string of bytes to the far tier. -/
def State.farWrite (s : State) (a : Nat) (b : Blob) : State :=
  { s with far := memWrite s.far a b.len b.val, farBurr := burrClear s.farBurr a b.len }
/-- A tier by its number: 0 near, 1 far. -/
def State.tierRead (s : State) (tier a n : Nat) : Blob := if tier = 0 then s.nearRead a n else s.farRead a n
/-- Write to a tier by its number. -/
def State.tierWrite (s : State) (tier a : Nat) (b : Blob) : State := if tier = 0 then s.nearWrite a b else s.farWrite a b
/-- The near-tier stacks that are present, in order. -/
def State.stacks (s : State) : List Nat := (List.range 8).filter (fun n => bitOf s.ntPresent n)
/-- The die that holds an address of a tier: stacks of 64 GiB one after another, far-tier dies of three channels of 128 GiB
(PRESUMED, log 19). -/
def State.tierDie (s : State) (tier a : Nat) : Nat :=
  if tier = 0 then dNear (s.stacks.getD (a / 2 ^ 36) 7) else dFar (min (a / (3 * 2 ^ 37)) 3)
/-- Whether a range of a tier holds a burred sector, or lies on a die that has failed (R382, R395). -/
def State.tierBurred (s : State) (tier a n : Nat) : Bool :=
  (if tier = 0 then burrHit s.nearBurr a n else burrHit s.farBurr a n)
    || (s.die (s.tierDie tier a)).failed || (s.die (s.tierDie tier (a + n - 1))).failed
/-- Mark one sector of a tier burred. -/
def State.tierBurr (s : State) (tier a : Nat) : State :=
  if tier = 0 then { s with nearBurr := s.nearBurr.set (fun _ => false) (a / 32) true }
  else { s with farBurr := s.farBurr.set (fun _ => false) (a / 32) true }

/-! ## MSI-X (R334, R336) -/

/-- A double word of the MSI-X tables: the vector-control word of an entry starts masked. -/
def State.msixWord (s : State) (i : Nat) : Nat := s.host.msixTable.get (fun i => if i % 4 = 3 then 1 else 0) i

/-- Send MSI-X vector v of function fn: it leaves when Bus Master Enable is set and the entry is not masked; a masked
vector is left pending; with Bus Master Enable clear, or in D3hot, nothing is sent (R334, R343). -/
def State.msix (s : State) (fn v : Nat) : State :=
  if s.fld (fnReg fn R.hifStat) F.HifStat.bme = 0 || s.fld (fnReg fn R.hifStat) F.HifStat.dState ≠ 0 then s
  else if s.msixWord (12 * fn + 4 * v + 3) % 2 = 1 then
    { s with host := { s.host with msixPend := s.host.msixPend.modify (fun _ => 0) fn (fun p => p ||| (1 <<< v)) } }
  else s.emit (.msix fn v)

/-- Send a vector on every function: both serve the one ERR log. -/
def State.msixAll (s : State) (v : Nat) : State := (s.msix 0 v).msix 1 v

/-! ## I3C events (R356, R357) -/

/-- Put an event on the I3C queue, 64 deep. On overflow the oldest is lost and an event of code 0xFF marks it. -/
def i3cPush (q : List I3cEvent) (e : I3cEvent) : List I3cEvent :=
  if q.length < 64 then q ++ [e]
  else match q with
    | [] => [e]
    | x :: xs => ⟨0xFF, 0xFF, x.stamp⟩ :: (xs.drop 1 ++ [e])

/-- A keeper event to the tray controller: queued, and sent as an IBI while IBIs are enabled. -/
def State.i3cEvent (s : State) (code die : Nat) : State :=
  let e : I3cEvent := ⟨code, die, s.tb.tick % 2 ^ 48⟩
  let s := { s with side := { s.side with i3cQueue := i3cPush s.side.i3cQueue e } }
  if s.side.i3cIbi && s.side.i3cAddr.isSome then s.emit (.ibi e) else s

/-! ## Error records (R377 to R381) -/

/-- Word k of a record (R377). -/
def ErrRec.word (r : ErrRec) (k : Nat) : Nat :=
  match k with
  | 0 => (r.source % 256) * 2 ^ 56 + (r.step % 8) * 2 ^ 52 + (r.sev % 4) * 2 ^ 50 + (r.die % 256) * 2 ^ 40
      + (r.part % 32) * 2 ^ 35 + (r.job.getD 0 % 65536) * 2 ^ 19 + b2n r.job.isSome * 2 ^ 18
      + (r.ctx.getD 0 % 16384) * 2 ^ 4 + b2n r.ctx.isSome * 2 ^ 3
  | 1 => r.stamp % 2 ^ 64
  | 2 => r.addr % 2 ^ 64
  | _ => (r.rep % 65536) * 2 ^ 48 + (r.detail % 2 ^ 32) * 2 ^ 16 + r.unit % 256

/-- The error-record queue of a die, oldest first. -/
def State.errq (s : State) (d : Nat) : List ErrRec := s.err.queues.get (fun _ => []) d

/-- Replace a die's error-record queue. -/
def State.setErrq (s : State) (d : Nat) (q : List ErrRec) : State :=
  { s with err := { s.err with queues := s.err.queues.set (fun _ => []) d q } }

/-- The highest STEP among queued records (R378). -/
def pendStep (q : List ErrRec) : Nat := q.foldl (fun m r => max m r.step) 0

/-- Append a record to the ERR global log; a record of SEV 2 or more sends MSI-X vector 2 (R381). -/
def State.logAppend (s : State) (r : ErrRec) : State :=
  let seq := s.fld R.errStat F.ErrStat.nextSeq
  let s := { s with err := { s.err with log := s.err.log.set (fun _ => none) (seq % 1024) (some r) } }
  let s := s.setFld R.errStat F.ErrStat.nextSeq (seq + 1)
  if 2 ≤ r.sev then (s.count R.errStat F.ErrStat.hostVis).msixAll 2 else s

/-- Show the requests of steps 3 to 5 that wait in GLB_ESC_STAT: the highest step, and the partition of a step 3 (R391). -/
def State.showPend (s : State) : State :=
  let s := s.setFld R.glbEscStat F.GlbEscStat.pendStep (s.err.asked.foldl (fun m e => max m e.1) 0)
  s.setFld R.glbEscStat F.GlbEscStat.pendPart (((s.err.asked.find? (fun e => e.1 = 3)).map (fun e => e.2)).getD 0)

/-- Requests of a step, taken: they wait no longer (R391). -/
def State.taken (s : State) (step : Nat) (part : Option Nat) : State :=
  let keep (e : Nat × Nat) : Bool := decide (e.1 ≠ step) || part.any (fun p => decide (p ≠ e.2))
  State.showPend { s with err := { s.err with asked := s.err.asked.filter keep } }

/-- Whether a partition is resetting (R388, R391). -/
def State.partBusy (s : State) (p : Nat) : Bool := bitOf (s.fld R.glbEscStat F.GlbEscStat.partBusy) p

/-- A request for escalation: steps 1 and 2 wait for the part to take them, steps 3 to 5 for firmware (R379, R385, R391); one that
already waits is absorbed (R380). -/
def State.escalate (s : State) (step die unit part : Nat) : State :=
  if step = 0 then s
  else if step ≤ 2 then
    if s.err.escal.contains ⟨step, die, unit⟩ then s
    else { s with err := { s.err with escal := s.err.escal ++ [⟨step, die, unit⟩] } }
  else if s.err.asked.contains (step, part) then s
  else State.showPend { s with err := { s.err with asked := s.err.asked ++ [(step, part)] } }

/-- The step of the escalation that a lost record raises (R379). -/
def overflowStep (q : List ErrRec) (r : ErrRec) : Nat :=
  let e := min 5 (max (pendStep q) r.step + 1)
  let e := if e = 1 && r.ctx.isNone then 2 else e
  if e = 2 && 56 ≤ r.die then 4 else e

/-- Whether two records merge into one (R378). -/
def ErrRec.merges (a b : ErrRec) : Bool :=
  a.source = b.source && a.die = b.die && a.unit = b.unit && a.addr = b.addr

/-! ## Samples and captures (R392, R393) -/

/-- A context. -/
def State.ctx (s : State) (c : Nat) : CtxSt := s.ctxs.get (fun _ => CtxSt.free) c
/-- LT_STAT of lathe k. -/
def ltStat (k : Nat) : Nat := R.ltStat (k / 5) (k % 5)
/-- LT_SLOT of lathe k. -/
def ltSlot (k i : Nat) : Nat := R.ltSlot (k / 5) (k % 5) i
/-- The contexts resident on lathe k, ascending. -/
def State.residents (s : State) (k : Nat) : List Nat := s.ctxs.keysWhere (fun x => x.phys = some k)

/-- The first 4 KiB of each lathe-store and chuck-data window, of the bytes that differ from 0. -/
def CtxSt.sampleMem (x : CtxSt) : Tbl Byte := x.mem.filter (fun e => decide (e.1 % 2 ^ 40 < 4096))

/-- The LT registers of lathe k. -/
def State.ltRegs (s : State) (k : Nat) : List W64 :=
  (List.range 9).map (fun i => s.rd (ltStat k + 8 * i)) ++ (List.range 16).map (fun i => s.rd (ltSlot k i))

/-- Sample every resident context of lathe k (R392). -/
def State.sampleLathe (s : State) (k : Nat) : State :=
  let l := (s.residents k).map (fun c =>
    let x := s.ctx c
    (⟨k, s.ltRegs k, c, x.record, x.regs, x.sampleMem⟩ : Sample))
  { s with err := { s.err with samples := s.err.samples ++ l } }

/-- A fatal error (R393): every die copies its registers and its error-record queue to its capture buffer, unless the buffers still
hold the copies of an earlier one, and every lathe is sampled. -/
def State.capture (s : State) : State :=
  let s := match s.err.captured with
    | some _ => s
    | none => { s with err := { s.err with captured := some ⟨s.regs, s.err.queues⟩ } }
  (List.range 120).foldl (fun (s : State) k => s.sampleLathe k) s

/-! ## Raising a record (R378, R379) -/

/-- Raise an error record on its die: queued, merged as a repeat, or lost with an OVERFLOW escalation (R378, R379).
A record that asks for step 4 or 5 makes every die capture (R393). An uncorrected error while the captures wait for
their dump marks it partial (R380). -/
def State.raise (s : State) (r : ErrRec) : State :=
  let q := s.errq r.die
  let s : State := if s.err.captured.isSome && 2 ≤ r.sev then { s with err := { s.err with dumpPartial := true } } else s
  let s := if 4 ≤ r.step then s.capture else s
  match q.getLast? with
  | some n =>
    if r.merges n then
      s.setErrq r.die (q.dropLast ++ [{ n with rep := satAdd 16 n.rep 1 }])
    else if q.length < 32 then
      (s.setErrq r.die (q ++ [r])).escalate r.step r.die r.unit r.part
    else
      let e := overflowStep q r
      let s := s.count (errqReg r.die) F.PtdErrqStat.overflows
      let s := if 4 ≤ e then s.capture else s
      if n.source = 0x14 then
        (s.setErrq r.die (q.dropLast ++ [{ n with rep := satAdd 16 n.rep 1 }])).escalate e r.die r.unit r.part
      else
        let o : ErrRec := { ErrRec.zero with
          source := 0x14, step := e, sev := if 4 ≤ e then 3 else 2, die := r.die, part := r.part, job := r.job,
          ctx := r.ctx, stamp := s.dieNow r.die, rep := 2, unit := r.unit }
        (s.setErrq r.die (q.dropLast ++ [o])).escalate e r.die r.unit r.part
  | none => (s.setErrq r.die [r]).escalate r.step r.die r.unit r.part

/-- A record of a die with no job, context or partition. -/
def plainRec (source step sev die stamp : Nat) : ErrRec :=
  { ErrRec.zero with source := source, step := step, sev := sev, die := die, part := 0x1F, stamp := stamp }

/-- A keeper's own record, appended to the ERR global log directly (R376, R381). -/
def State.keeperRec (s : State) (sev die detail : Nat) : State :=
  s.logAppend { plainRec 0x13 0 sev die s.tb.tick with detail := detail }

/-! ## Leadership as the registers show it (R361, R366) -/

/-- A voter: 0 keeper West, 1 keeper East, 2 the voting bridge; before any vote PROMISED 0 and no holder (R405). -/
def State.voter (s : State) (v : Nat) : Voter := s.sup.voters.get (fun _ => ⟨0, 0xF, 0⟩) v

/-- A die's configuration fence; at reset it holds term 0 and has expired. -/
def State.fence (s : State) (d : Nat) : Fence := s.sup.fences.get (fun _ => ⟨0, 0, []⟩) d

/-- Change a die's configuration fence. -/
def State.setFence (s : State) (d : Nat) (f : Fence → Fence) : State :=
  { s with sup := { s.sup with fences := s.sup.fences.modify (fun _ => ⟨0, 0, []⟩) d f } }

/-- Whether two voters hold one term for one supervisor. -/
def Voter.agrees (a b : Voter) : Bool := a.promised = b.promised && a.holder = b.holder && a.holder ≠ 0xF && a.promised ≠ 0

/-- The voters that share a majority with voter v. -/
def State.backers (s : State) (v : Nat) : List Nat :=
  (List.range 3).filter (fun u => (s.voter u).agrees (s.voter v))

/-- The majority term, its holder and its expiry (the earlier of two votes), if two voters agree (R361, R366). -/
def State.majority (s : State) : Option (Nat × Nat × Nat) :=
  ((List.range 3).find? (fun v => 2 ≤ (s.backers v).length)).map (fun v =>
    let es := (s.backers v).map (fun u => (s.voter u).expiry)
    let e := match es with
      | [a, b] => min a b
      | [a, b, c] => max (min a b) (min (max a b) c)
      | _ => 0
    ((s.voter v).promised, (s.voter v).holder, e))

/-- The supervisor that leads now: a majority term that has not expired (R361). -/
def State.leader (s : State) : Option Nat :=
  match s.majority with
  | some (_, h, e) => if s.tb.tick ≤ e then some h else none
  | none => none

/-! ## The configuration fence (R364) -/

/-- What a fence does with a write. -/
inductive FenceVerdict where
  | applied | old | ahead | denied
  deriving DecidableEq, Repr

/-- The fence's judgement of a write that carries a term, or none. -/
def Fence.judge (f : Fence) (now : Nat) : Option Nat → FenceVerdict
  | none => .old
  | some t =>
    if f.term < t then .ahead
    else if t < f.term then .old
    else if now ≤ f.expiry then .applied
    else .old

/-- Accesses of the host reach function fn: not in D3hot (R334), and on A1 only West's is bonded out (R5). -/
def State.hostIn (s : State) (fn : Nat) : Bool :=
  s.fld (fnReg fn R.hifStat) F.HifStat.dState = 0 && (fn = 0 || s.fuses.stepLetter ≠ 0xA)

/-- The term a write carries at the fence of die d: firmware's own, or the grant's for a host write to GLB (R338). -/
def State.writerTerm (s : State) (w : Writer) (d : Nat) : Option (Option Nat) :=
  match w with
  | .fw _ t => some t
  | .host fn =>
    if s.hostIn fn.val && 98 ≤ d && s.fld (fnReg fn.val R.hifOvr) F.HifOvr.grant = 1 then
      some (some (s.fld (fnReg fn.val R.hifOvr) F.HifOvr.term))
    else none

/-- Judge a write at the fence of die d. -/
def State.judge (s : State) (w : Writer) (d : Nat) : FenceVerdict :=
  match s.writerTerm w d with
  | none => .denied
  | some t => (s.fence d).judge (s.dieNow d) t

/-- A host access that is dropped or answered with all ones or zeros, recorded in HIF_DROP (R337, R339). -/
def State.hostDrop (s : State) (fn kind bar off : Nat) (f : Fld) : State :=
  let r := fnReg fn R.hifDrop
  if !s.hostIn fn then s
  else (((s.count r f).setFld r F.HifDrop.lastKind kind).setFld r F.HifDrop.lastBar bar).setFld r F.HifDrop.lastOff off

/-- Record a write that the fence of die d did not apply. -/
def State.dropWrite (s : State) (w : Writer) (d off : Nat) (v : FenceVerdict) : State :=
  match v with
  | .applied => s
  | .old => s.count (cfgFenceReg d) F.PtdCfgFence.old
  | .ahead => s.count (cfgFenceReg d) F.PtdCfgFence.ahead
  | .denied => match w with
    | .host fn => s.hostDrop fn.val 1 0 off F.HifDrop.wrDeny
    | .fw _ _ => s

/-- A write to a register at BAR0 offset off, through the configuration fence of die d: applied, or dropped and
counted without an error response (R364). -/
def State.fenced (s : State) (w : Writer) (d off : Nat) (apply : State → State) : State :=
  match s.judge w d with
  | .applied => apply s
  | v => s.dropWrite w d off v

/-- The supervisor die whose SV fence judges a write. -/
def writerDie : Writer → Nat
  | .fw sv _ => dSup sv.val
  | .host fn => dSup fn.val

/-- The keepers' fence for GLB: keeper West's, or keeper East's when keeper West has failed (R364, R395). -/
def State.glbDie (s : State) : Nat := if (s.die (dKeeper 0)).failed then dKeeper 1 else dKeeper 0

/-! ## Management events (R394) -/

/-- A management event's fields. -/
structure MgmtEvent where
  kind : Nat
  step : Nat
  job : Nat
  part : Nat
  dump : Nat
  detail : Nat
  errSeq : Nat
  deriving DecidableEq, Repr

/-- The 32 bytes of an event in the near-tier ring, little-endian (R394). -/
def MgmtEvent.bytes (e : MgmtEvent) (stamp seq : Nat) : Blob :=
  ⟨32, e.kind % 256 + (e.step % 256) * 2 ^ 8 + (e.job % 65536) * 2 ^ 16 + (e.part % 256) * 2 ^ 32
    + (e.dump % 65536) * 2 ^ 48 + (stamp % 2 ^ 64) * 2 ^ 64 + (seq % 2 ^ 32) * 2 ^ 128
    + (e.detail % 2 ^ 32) * 2 ^ 160 + (e.errSeq % 2 ^ 32) * 2 ^ 192⟩

/-- Firmware writes F2H mailbox i of function fn, which becomes full (R349). -/
def State.f2hPut (s : State) (fn i : Nat) (v : W64) : State :=
  let full := fnReg fn R.mbxFull
  (s.wr (fnReg fn (R.mbxF2h i)) v).setFld full F.MbxFull.f2hFull (s.fld full F.MbxFull.f2hFull ||| (1 <<< i))

/-- The next free F2H mailbox among 0 to 15, if any. -/
def State.f2hFree (s : State) (fn : Nat) : Option Nat :=
  (List.range 16).find? (fun i => !bitOf (s.fld (fnReg fn R.mbxFull) F.MbxFull.f2hFull) i)

/-- The function through which firmware tells the host: the leader's, West's when none leads (R372). -/
def State.hostFn (s : State) : Nat := if s.fuses.stepLetter = 0xA then 0 else (s.leader).getD 0

/-- Post a management event: the near-tier ring, a summary word in the next free F2H mailbox, and for a dump the I3C
event 0x41 (R394). -/
def State.post (s : State) (e : MgmtEvent) : State :=
  let seq := s.err.evtSeq + 1
  let depth := s.fld R.svEvt F.SvEvt.depth
  let base := s.fld R.svEvt F.SvEvt.base
  let s := { s with err := { s.err with evtSeq := seq } }
  let s := if depth = 0 then s else s.nearWrite (base + 32 * ((seq - 1) % depth)) (e.bytes s.tb.tick seq)
  let s := match s.f2hFree s.hostFn with
    | some i => s.f2hPut s.hostFn i
        (BitVec.ofNat 64 ((e.kind % 256) * 2 ^ 56 + (seq % 2 ^ 24) * 2 ^ 32 + s.tb.tick % 2 ^ 32))
    | none => s
  if e.kind = 0x08 then s.i3cEvent 0x41 0xFF else s

/-- An event that names no job, partition or dump. -/
def plainEvent (kind step detail : Nat) : MgmtEvent := ⟨kind, step, 0xFFFF, 0xFF, 0xFFFF, detail, 0⟩

end Sys2Proof.Machine
end

