-- ==== Sys2Proof/Machine/Hash.lean ====
section
/-! DEFINITION. The hash functions and cyclic redundancy checks that the spec names: SHA-256 and SHA-384
(R64, R68, R69, R316, R403) and bit-serial CRCs. -/

namespace Sys2Proof

/-- Addition modulo 2 to the power w. -/
def addMod (w a b : Nat) : Nat := (a + b) % 2 ^ w

/-- Rotate a w-bit word right by n. -/
def rotR (w n x : Nat) : Nat := (x >>> n) ||| ((x <<< (w - n)) % 2 ^ w)

/-- The rotation and shift amounts that set the two SHA-2 word sizes apart. -/
structure ShaParams where
  wid : Nat
  s0 : Nat × Nat × Nat
  s1 : Nat × Nat × Nat
  e0 : Nat × Nat × Nat
  e1 : Nat × Nat × Nat
  k : List Nat

/-- The initial hash value of SHA-256. -/
def sha256Init : List Nat :=
  [0x6A09E667, 0xBB67AE85, 0x3C6EF372, 0xA54FF53A, 0x510E527F, 0x9B05688C, 0x1F83D9AB, 0x5BE0CD19]

/-- The round constants of SHA-256. -/
def sha256K : List Nat :=
  [0x428A2F98, 0x71374491, 0xB5C0FBCF, 0xE9B5DBA5, 0x3956C25B, 0x59F111F1, 0x923F82A4, 0xAB1C5ED5] ++
  [0xD807AA98, 0x12835B01, 0x243185BE, 0x550C7DC3, 0x72BE5D74, 0x80DEB1FE, 0x9BDC06A7, 0xC19BF174] ++
  [0xE49B69C1, 0xEFBE4786, 0x0FC19DC6, 0x240CA1CC, 0x2DE92C6F, 0x4A7484AA, 0x5CB0A9DC, 0x76F988DA] ++
  [0x983E5152, 0xA831C66D, 0xB00327C8, 0xBF597FC7, 0xC6E00BF3, 0xD5A79147, 0x06CA6351, 0x14292967] ++
  [0x27B70A85, 0x2E1B2138, 0x4D2C6DFC, 0x53380D13, 0x650A7354, 0x766A0ABB, 0x81C2C92E, 0x92722C85] ++
  [0xA2BFE8A1, 0xA81A664B, 0xC24B8B70, 0xC76C51A3, 0xD192E819, 0xD6990624, 0xF40E3585, 0x106AA070] ++
  [0x19A4C116, 0x1E376C08, 0x2748774C, 0x34B0BCB5, 0x391C0CB3, 0x4ED8AA4A, 0x5B9CCA4F, 0x682E6FF3] ++
  [0x748F82EE, 0x78A5636F, 0x84C87814, 0x8CC70208, 0x90BEFFFA, 0xA4506CEB, 0xBEF9A3F7, 0xC67178F2]

/-- The initial hash value of SHA-384. -/
def sha384Init : List Nat :=
  [0xCBBB9D5DC1059ED8, 0x629A292A367CD507, 0x9159015A3070DD17, 0x152FECD8F70E5939, 0x67332667FFC00B31, 0x8EB44A8768581511, 0xDB0C2E0D64F98FA7, 0x47B5481DBEFA4FA4]

/-- The round constants of SHA-384. -/
def sha512K : List Nat :=
  [0x428A2F98D728AE22, 0x7137449123EF65CD, 0xB5C0FBCFEC4D3B2F, 0xE9B5DBA58189DBBC, 0x3956C25BF348B538, 0x59F111F1B605D019, 0x923F82A4AF194F9B, 0xAB1C5ED5DA6D8118] ++
  [0xD807AA98A3030242, 0x12835B0145706FBE, 0x243185BE4EE4B28C, 0x550C7DC3D5FFB4E2, 0x72BE5D74F27B896F, 0x80DEB1FE3B1696B1, 0x9BDC06A725C71235, 0xC19BF174CF692694] ++
  [0xE49B69C19EF14AD2, 0xEFBE4786384F25E3, 0x0FC19DC68B8CD5B5, 0x240CA1CC77AC9C65, 0x2DE92C6F592B0275, 0x4A7484AA6EA6E483, 0x5CB0A9DCBD41FBD4, 0x76F988DA831153B5] ++
  [0x983E5152EE66DFAB, 0xA831C66D2DB43210, 0xB00327C898FB213F, 0xBF597FC7BEEF0EE4, 0xC6E00BF33DA88FC2, 0xD5A79147930AA725, 0x06CA6351E003826F, 0x142929670A0E6E70] ++
  [0x27B70A8546D22FFC, 0x2E1B21385C26C926, 0x4D2C6DFC5AC42AED, 0x53380D139D95B3DF, 0x650A73548BAF63DE, 0x766A0ABB3C77B2A8, 0x81C2C92E47EDAEE6, 0x92722C851482353B] ++
  [0xA2BFE8A14CF10364, 0xA81A664BBC423001, 0xC24B8B70D0F89791, 0xC76C51A30654BE30, 0xD192E819D6EF5218, 0xD69906245565A910, 0xF40E35855771202A, 0x106AA07032BBD1B8] ++
  [0x19A4C116B8D2D0C8, 0x1E376C085141AB53, 0x2748774CDF8EEB99, 0x34B0BCB5E19B48A8, 0x391C0CB3C5C95A63, 0x4ED8AA4AE3418ACB, 0x5B9CCA4F7763E373, 0x682E6FF3D6B2B8A3] ++
  [0x748F82EE5DEFB2FC, 0x78A5636F43172F60, 0x84C87814A1F0AB72, 0x8CC702081A6439EC, 0x90BEFFFA23631E28, 0xA4506CEBDE82BDE9, 0xBEF9A3F7B2C67915, 0xC67178F2E372532B] ++
  [0xCA273ECEEA26619C, 0xD186B8C721C0C207, 0xEADA7DD6CDE0EB1E, 0xF57D4F7FEE6ED178, 0x06F067AA72176FBA, 0x0A637DC5A2C898A6, 0x113F9804BEF90DAE, 0x1B710B35131C471B] ++
  [0x28DB77F523047D84, 0x32CAAB7B40C72493, 0x3C9EBE0A15C9BEBC, 0x431D67C49C100D4C, 0x4CC5D4BECB3E42B6, 0x597F299CFC657E2A, 0x5FCB6FAB3AD6FAEC, 0x6C44198C4A475817]

/-- SHA-256. -/
def sha256Params : ShaParams := ⟨32, (7, 18, 3), (17, 19, 10), (2, 13, 22), (6, 11, 25), sha256K⟩

/-- SHA-384. -/
def sha384Params : ShaParams := ⟨64, (1, 8, 7), (19, 61, 6), (28, 34, 39), (14, 18, 41), sha512K⟩

/-- Two rotations and a shift, combined. -/
def shaSmall (w : Nat) (r : Nat × Nat × Nat) (x : Nat) : Nat := rotR w r.1 x ^^^ rotR w r.2.1 x ^^^ (x >>> r.2.2)

/-- Three rotations, combined. -/
def shaBig (w : Nat) (r : Nat × Nat × Nat) (x : Nat) : Nat := rotR w r.1 x ^^^ rotR w r.2.1 x ^^^ rotR w r.2.2 x

/-- n big-endian words of wb bytes each from a list of bytes. -/
def beWords (wb : Nat) : Nat → List Nat → List Nat
  | 0, _ => []
  | n + 1, bs => (bs.take wb).foldl (fun a b => a * 256 + b) 0 :: beWords wb n (bs.drop wb)

/-- Extend a message schedule, kept newest first, by n words. -/
def shaExtend (p : ShaParams) : Nat → List Nat → List Nat
  | 0, ws => ws
  | n + 1, ws =>
    let w := (shaSmall p.wid p.s1 (ws.getD 1 0) + ws.getD 6 0 + shaSmall p.wid p.s0 (ws.getD 14 0) + ws.getD 15 0)
      % 2 ^ p.wid
    shaExtend p n (w :: ws)

/-- The eight working variables of a SHA-2 round. -/
structure ShaVars where
  a : Nat
  b : Nat
  c : Nat
  d : Nat
  e : Nat
  f : Nat
  g : Nat
  h : Nat

/-- One round, on a round constant and a schedule word. -/
def shaRound (p : ShaParams) (v : ShaVars) (kw : Nat × Nat) : ShaVars :=
  let ch := (v.e &&& v.f) ^^^ ((2 ^ p.wid - 1 - v.e) &&& v.g)
  let maj := (v.a &&& v.b) ^^^ (v.a &&& v.c) ^^^ (v.b &&& v.c)
  let t1 := v.h + shaBig p.wid p.e1 v.e + ch + kw.1 + kw.2
  let t2 := shaBig p.wid p.e0 v.a + maj
  ⟨(t1 + t2) % 2 ^ p.wid, v.a, v.b, v.c, (v.d + t1) % 2 ^ p.wid, v.e, v.f, v.g⟩

/-- Eight words as working variables. -/
def ShaVars.ofList (h : List Nat) : ShaVars :=
  ⟨h.getD 0 0, h.getD 1 0, h.getD 2 0, h.getD 3 0, h.getD 4 0, h.getD 5 0, h.getD 6 0, h.getD 7 0⟩

/-- The working variables as eight words. -/
def ShaVars.toList (v : ShaVars) : List Nat := [v.a, v.b, v.c, v.d, v.e, v.f, v.g, v.h]

/-- Fold one block of 16 words into the hash value. -/
def shaBlock (p : ShaParams) (h : List Nat) (block : List Nat) : List Nat :=
  let ws := beWords (p.wid / 8) 16 block
  let sched := (shaExtend p (p.k.length - 16) ws.reverse).reverse
  let v := (p.k.zip sched).foldl (shaRound p) (ShaVars.ofList h)
  (h.zip v.toList).map (fun x => addMod p.wid x.1 x.2)

/-- Fold every block of a padded message into the hash value. -/
def shaBlocks (p : ShaParams) : Nat → List Nat → List Nat → List Nat
  | 0, h, _ => h
  | n + 1, h, bs => shaBlocks p n (shaBlock p h (bs.take (2 * p.wid))) (bs.drop (2 * p.wid))

/-- The n big-endian bytes of a number. -/
def beBytes : Nat → Nat → List Nat
  | 0, _ => []
  | n + 1, x => x / 256 ^ n % 256 :: beBytes n x

/-- A message padded to whole blocks. -/
def shaPad (p : ShaParams) (m : List Nat) : List Nat :=
  let blk := 2 * p.wid
  let lenBytes := p.wid / 4
  let z := (2 * blk - 1 - lenBytes - m.length % blk) % blk
  m ++ 0x80 :: (List.replicate z 0 ++ beBytes lenBytes (8 * m.length))

/-- The hash value of a message, as words. -/
def shaWords (p : ShaParams) (init : List Nat) (m : List Nat) : List Nat :=
  let q := shaPad p m
  shaBlocks p (q.length / (2 * p.wid)) init q

/-- The SHA-256 digest of a list of bytes, as 32 bytes. -/
def sha256 (m : List Nat) : List Nat := (shaWords sha256Params sha256Init m).flatMap (beBytes 4)

/-- The SHA-384 digest of a list of bytes, as 48 bytes. -/
def sha384 (m : List Nat) : List Nat := ((shaWords sha384Params sha384Init m).take 6).flatMap (beBytes 8)

/-- A digest as a string of bytes, byte 0 first. -/
def digestBlob (d : List Nat) : Blob := Blob.ofBytes d

/-- One byte into a CRC of w bits, most significant bit first. -/
def crcMsbBits (w poly : Nat) : Nat → Nat → Nat
  | 0, r => r
  | n + 1, r => crcMsbBits w poly n (if r.testBit (w - 1) then ((r <<< 1) % 2 ^ w) ^^^ poly else (r <<< 1) % 2 ^ w)

/-- A CRC of w bits over bytes, most significant bit first. -/
def crcMsb (w poly init : Nat) (m : List Nat) : Nat :=
  m.foldl (fun r b => crcMsbBits w poly 8 (r ^^^ (b <<< (w - 8)))) init

/-- One byte into a CRC, least significant bit first (the polynomial reflected). -/
def crcLsbBits (poly : Nat) : Nat → Nat → Nat
  | 0, r => r
  | n + 1, r => crcLsbBits poly n (if r.testBit 0 then (r >>> 1) ^^^ poly else r >>> 1)

/-- A reflected CRC over bytes. -/
def crcLsb (poly init : Nat) (m : List Nat) : Nat :=
  m.foldl (fun r b => crcLsbBits poly 8 (r ^^^ b)) init

/-- CRC-32C (Castagnoli) of a list of bytes (R62). -/
def crc32c (m : List Nat) : Nat := crcLsb 0x82F63B78 0xFFFFFFFF m ^^^ 0xFFFFFFFF

end Sys2Proof
end

