-- ==== Sys2Proof/Machine/Signature.lean ====
section
/-! DEFINITION. The two signatures of an image and of a boot record, as the standards that R64 names define them: ECDSA over P-384
(FIPS 186-5), and ML-DSA-87 in its pure form (FIPS 204), with the SHAKE functions (FIPS 202) that the second uses. -/

namespace Sys2Proof

/-! ## Arithmetic modulo a prime -/

/-- b to the power e modulo m, for an exponent of at most n bits. -/
def powMod (m b : Nat) : Nat → Nat → Nat
  | 0, _ => 1 % m
  | n + 1, e =>
    let r := powMod m (b * b % m) n (e / 2)
    if e % 2 = 1 then r * b % m else r

/-- The inverse of x modulo a prime of at most 384 bits. -/
def invMod (m x : Nat) : Nat := powMod m (x % m) 384 (m - 2)

/-- a - b modulo m. -/
def subMod (m a b : Nat) : Nat := (a % m + (m - b % m)) % m

/-- A big-endian number from its bytes. -/
def beNat (l : List Nat) : Nat := l.foldl (fun a b => a * 256 + b % 256) 0

/-! ## ECDSA over P-384 (FIPS 186-5) -/

/-- The field prime of P-384. -/
def p384P : Nat := 2 ^ 384 - 2 ^ 128 - 2 ^ 96 + 2 ^ 32 - 1
/-- The order of its base point. -/
def p384N : Nat := 0xFFFFFFFFFFFFFFFFFFFFFFFFFFFFFFFFFFFFFFFFFFFFFFFFC7634D81F4372DDF581A0DB248B0A77AECEC196ACCC52973
/-- The constant term of its equation y^2 = x^3 - 3 x + b. -/
def p384B : Nat := 0xB3312FA7E23EE7E4988E056BE3F82D19181D9C6EFE8141120314088F5013875AC656398D8A2ED19D2A85C8EDD3EC2AEF
/-- Its base point. -/
def p384G : Nat × Nat :=
  (0xAA87CA22BE8B05378EB1C71EF320AD746E1D3B628BA79B9859F741E082542A385502F25DBF55296C3A545E3872760AB7,
   0x3617DE4A96262C6F5D9E98BF9292DC29F8F41DBD289A147CE9DA3113B5F0B8C00A60B1CE1D7E819D7A431D7C90EA0E5F)

/-- The sum of two points; none is the point at infinity. -/
def p384Add (a b : Option (Nat × Nat)) : Option (Nat × Nat) :=
  match a, b with
  | none, b => b
  | a, none => a
  | some (x1, y1), some (x2, y2) =>
    if x1 = x2 && (y1 + y2) % p384P = 0 then none
    else
      let l := if x1 = x2 then (3 * x1 * x1 + p384P - 3) * invMod p384P (2 * y1) % p384P
        else subMod p384P y2 y1 * invMod p384P (subMod p384P x2 x1) % p384P
      let x3 := subMod p384P (l * l) (x1 + x2)
      some (x3, subMod p384P (l * subMod p384P x1 x3) y1)

/-- k times a point, for a factor of at most n bits. -/
def p384Mul (a : Option (Nat × Nat)) : Nat → Nat → Option (Nat × Nat)
  | 0, _ => none
  | n + 1, k =>
    let r := p384Mul (p384Add a a) n (k / 2)
    if k % 2 = 1 then p384Add r a else r

/-- Whether a point has its coordinates in the field and lies on the curve. -/
def p384On (x y : Nat) : Bool :=
  x < p384P && y < p384P && y * y % p384P = (x * x * x + (p384P - 3) * x + p384B) % p384P

/-- Whether r and s, 48 bytes each, sign a message under an uncompressed public key; h is the message's SHA-384. -/
def ecdsaVerifies (key h sig : List Nat) : Bool :=
  let x := beNat ((key.drop 1).take 48)
  let y := beNat ((key.drop 49).take 48)
  let r := beNat (sig.take 48)
  let t := beNat ((sig.drop 48).take 48)
  let w := invMod p384N t
  let z := beNat h
  key.headD 0 = 4 && p384On x y && 0 < r && r < p384N && 0 < t && t < p384N
    && match p384Add (p384Mul (some p384G) 384 (z * w % p384N)) (p384Mul (some (x, y)) 384 (r * w % p384N)) with
      | some (v, _) => decide (v % p384N = r)
      | none => false

/-! ## SHAKE (FIPS 202) -/

/-- Rotate a 64-bit lane left. -/
def rotL64 (n x : Nat) : Nat := ((x <<< n) % 2 ^ 64) ||| (x >>> (64 - n))

/-- The rotations of the lanes x + 5 y. -/
def keccakRho : List Nat :=
  [0, 1, 62, 28, 27, 36, 44, 6, 55, 20, 3, 10, 43, 25, 39, 41, 45, 15, 21, 8, 18, 2, 61, 56, 14]

/-- The round constants. -/
def keccakRC : List Nat :=
  [0x0000000000000001, 0x0000000000008082, 0x800000000000808A, 0x8000000080008000, 0x000000000000808B, 0x0000000080000001] ++
  [0x8000000080008081, 0x8000000000008009, 0x000000000000008A, 0x0000000000000088, 0x0000000080008009, 0x000000008000000A] ++
  [0x000000008000808B, 0x800000000000008B, 0x8000000000008089, 0x8000000000008003, 0x8000000000008002, 0x8000000000000080] ++
  [0x000000000000800A, 0x800000008000000A, 0x8000000080008081, 0x8000000000008080, 0x0000000080000001, 0x8000000080008008]

/-- One round over the 25 lanes. -/
def keccakRound (a : List Nat) (rc : Nat) : List Nat :=
  let col := (List.range 5).map (fun x => (List.range 5).foldl (fun v y => v ^^^ a.getD (x + 5 * y) 0) 0)
  let a := (List.range 25).map (fun i =>
    a.getD i 0 ^^^ col.getD ((i + 4) % 5) 0 ^^^ rotL64 1 (col.getD ((i + 1) % 5) 0))
  let b := (List.range 25).map (fun i =>
    let j := (i % 5 + 3 * (i / 5)) % 5 + 5 * (i % 5)
    rotL64 (keccakRho.getD j 0) (a.getD j 0))
  (List.range 25).map (fun i =>
    let row := 5 * (i / 5)
    let v := b.getD i 0 ^^^ ((2 ^ 64 - 1 - b.getD (row + (i + 1) % 5) 0) &&& b.getD (row + (i + 2) % 5) 0)
    if i = 0 then v ^^^ rc else v)

/-- The permutation of 24 rounds. -/
def keccakF (a : List Nat) : List Nat := keccakRC.foldl keccakRound a

/-- The n little-endian bytes of a number. -/
def leBytes : Nat → Nat → List Nat
  | 0, _ => []
  | n + 1, x => x % 256 :: leBytes n (x / 256)

/-- A little-endian number from its bytes. -/
def leNat (l : List Nat) : Nat := l.foldr (fun b a => b % 256 + 256 * a) 0

/-- Absorb n blocks of a padded message. -/
def keccakAbsorb (rate : Nat) : Nat → List Nat → List Nat → List Nat
  | 0, a, _ => a
  | n + 1, a, m =>
    let a := (List.range 25).map (fun i => a.getD i 0 ^^^ (if 8 * i < rate then leNat ((m.drop (8 * i)).take 8) else 0))
    keccakAbsorb rate n (keccakF a) (m.drop rate)

/-- The bytes of n blocks of output. -/
def keccakSqueeze (rate : Nat) : Nat → List Nat → List Nat
  | 0, _ => []
  | n + 1, a => (a.flatMap (leBytes 8)).take rate ++ keccakSqueeze rate n (keccakF a)

/-- n bytes of SHAKE of a message: rate 168 is SHAKE128, rate 136 is SHAKE256. -/
def shake (rate : Nat) (m : List Nat) (n : Nat) : List Nat :=
  let z := rate - 1 - m.length % rate
  let padded := if z = 0 then m ++ [0x9F] else m ++ 0x1F :: (List.replicate (z - 1) 0 ++ [0x80])
  (keccakSqueeze rate ((n + rate - 1) / rate) (keccakAbsorb rate (padded.length / rate) (List.replicate 25 0) padded)).take n

/-! ## ML-DSA-87 (FIPS 204) -/

/-- The modulus q. -/
def mlQ : Nat := 8380417
/-- gamma 1. -/
def mlGamma1 : Nat := 2 ^ 19
/-- gamma 2. -/
def mlGamma2 : Nat := (mlQ - 1) / 32

/-- The low 8 bits of n in reverse order. -/
def brv8 (n : Nat) : Nat := (List.range 8).foldl (fun a i => 2 * a + n / 2 ^ i % 2) 0

/-- The power of 1753, a 512th root of unity modulo q. -/
def mlZeta (e : Nat) : Nat := powMod mlQ 1753 9 (e % 512)

/-- The value at x of the polynomial with the coefficients l. -/
def mlEval (l : List Nat) (x : Nat) : Nat := l.foldr (fun c a => (c + x * a) % mlQ) 0

/-- The number-theoretic transform of a polynomial of 256 coefficients. -/
def mlNtt (l : List Nat) : List Nat := (List.range 256).map (fun i => mlEval l (mlZeta (2 * brv8 i + 1)))

/-- Its inverse. -/
def mlInvNtt (h : List Nat) : List Nat :=
  let ordered := (List.range 256).map (fun i => h.getD (brv8 i) 0)
  (List.range 256).map (fun j =>
    mlEval ordered (mlZeta (512 - 2 * j)) * mlZeta (512 - j) % mlQ * invMod mlQ 256 % mlQ)

/-- n numbers of w bits each from little-endian bytes. -/
def mlUnpack (w n : Nat) (l : List Nat) : List Nat :=
  let x := leNat l
  (List.range n).map (fun i => bitsOf x (w * i) w)

/-- A polynomial of the public matrix in transformed form: three bytes at a time of SHAKE128, those below q. -/
def mlRejNtt (seed : List Nat) : List Nat :=
  (((mlUnpack 24 298 (shake 168 seed 894)).map (fun x => x % 2 ^ 23)).filter (fun x => decide (x < mlQ))).take 256

/-- The challenge polynomial: 60 coefficients of 1 or -1. -/
def mlBall (c : List Nat) : List Nat :=
  let b := shake 136 c 272
  let signs := leNat (b.take 8)
  ((List.range 60).foldl (fun (x : List Nat × List Nat) n =>
    let i := 196 + n
    let rest := x.2.dropWhile (fun j => decide (i < j))
    let j := rest.headD 0
    ((x.1.set i (x.1.getD j 0)).set j (if signs.testBit n then mlQ - 1 else 1), rest.drop 1))
    (List.replicate 256 0, b.drop 8)).1

/-- The high part of r, corrected by a hint bit. -/
def mlUseHint (h : Bool) (r : Nat) : Nat :=
  let low := r % (2 * mlGamma2)
  let r0 : Int := if mlGamma2 < low then (low : Int) - (2 * mlGamma2 : Nat) else low
  let top : Bool := (r : Int) - r0 = (mlQ - 1 : Nat)
  let r1 := if top then 0 else (((r : Int) - r0).toNat) / (2 * mlGamma2)
  let r0 := if top then r0 - 1 else r0
  if !h then r1 else if 0 < r0 then (r1 + 1) % 16 else (r1 + 15) % 16

/-- The positions of the hint bits of the 8 polynomials, if the 83 bytes that encode them are well formed. -/
def mlHints (y : List Nat) : Option (List (List Nat)) :=
  let ends := y.drop 75
  let starts := 0 :: ends
  let parts := (List.range 8).map (fun i => (y.take (ends.getD i 0)).drop (starts.getD i 0))
  let rising (l : List Nat) : Bool := (l.zip (l.drop 1)).all (fun p => decide (p.1 < p.2))
  if (List.range 8).all (fun i => decide (starts.getD i 0 ≤ ends.getD i 0) && decide (ends.getD i 0 ≤ 75))
      && parts.all rising && ((y.take 75).drop (ends.getD 7 0)).all (fun b => decide (b = 0))
  then some parts else none

/-- The rows of the transformed vector A z - c t1 2^13, brought back, whose high parts the hints correct. -/
def mlCommit (key : List Nat) (c : List Nat) (z : List (List Nat)) (hints : List (List Nat)) : List (List Nat) :=
  let rho := key.take 32
  let zh := z.map mlNtt
  let ch := mlNtt (mlBall c)
  (List.range 8).map (fun i =>
    let t := mlNtt ((mlUnpack 10 256 ((key.drop (32 + 320 * i)).take 320)).map (fun x => x * 2 ^ 13 % mlQ))
    let az := (List.range 7).foldl (fun (acc : List Nat) j =>
      acc.zipWith (fun a b => (a + b) % mlQ) ((mlRejNtt (rho ++ [j, i])).zipWith (fun a b => a * b % mlQ) (zh.getD j [])))
      (List.replicate 256 0)
    let w := mlInvNtt (az.zipWith (fun a b => subMod mlQ a b) (ch.zipWith (fun a b => a * b % mlQ) t))
    let h := hints.getD i []
    (List.range 256).map (fun j => mlUseHint (h.contains j) (w.getD j 0)))

/-- Whether sig, 4,627 bytes, signs a message under a public key of 2,592 bytes: the pure form, with an empty context string. -/
def mlDsaVerifies (key msg sig : List Nat) : Bool :=
  let c := sig.take 64
  let raw := (List.range 7).map (fun i => mlUnpack 20 256 ((sig.drop (64 + 640 * i)).take 640))
  let z := raw.map (fun l => l.map (fun x => subMod mlQ mlGamma1 x))
  let short := raw.all (fun l => l.all (fun x => decide (((mlGamma1 : Int) - x).natAbs < mlGamma1 - 120)))
  match mlHints (sig.drop 4544) with
  | none => false
  | some hints =>
    let tr := shake 136 key 64
    let mu := shake 136 (tr ++ [0, 0] ++ msg) 64
    let w1 := (mlCommit key c z hints).flatMap (fun l => (List.range 128).map (fun i => l.getD (2 * i) 0 + 16 * l.getD (2 * i + 1) 0))
    short && shake 136 (mu ++ w1) 64 = c

end Sys2Proof
end

