-- ==== Sys2Proof/Machine/Image.lean ====
section
/-! DEFINITION. The structure image: its container, its sections and their fields, the plane digest, and the checks of
R77 that judge an image without the part's running state (steps 1 to 9). -/

namespace Sys2Proof.Machine

/-! ## Fields of the sections (R65, R66, R167, R421 to R429) -/

/-- The body of a section; empty when the plane does not hold it. -/
def Plane.sec (p : Plane) (typ inst : Nat) : Blob :=
  match p.secs.find? (fun s => s.typ = typ && s.inst = inst) with
  | some s => s.body
  | none => Blob.empty

/-- Whether the plane holds a section. -/
def Plane.has (p : Plane) (typ inst : Nat) : Bool := p.secs.any (fun s => s.typ = typ && s.inst = inst)

/-- TURN_TICKS (R65). -/
def Plane.turnTicks (p : Plane) : Nat := (p.sec 1 0).le 0 4
/-- WARN_C (R65). -/
def Plane.warnC (p : Plane) : Nat := (p.sec 1 0).byte 4
/-- VOTE_BRIDGE (R65). -/
def Plane.voteBridge (p : Plane) : Nat := (p.sec 1 0).byte 5
/-- ETHERTYPE (R65). -/
def Plane.etherType (p : Plane) : Nat := (p.sec 1 0).le 6 2
/-- MAX_RES_MS (R65). -/
def Plane.maxResMs (p : Plane) : Nat := (p.sec 1 0).le 8 2
/-- COMMIT_SEC (R65). -/
def Plane.commitSec (p : Plane) : Bool := bitOf ((p.sec 1 0).byte 10) 0
/-- REVOKE_MASK (R65). -/
def Plane.revokeMask (p : Plane) : Nat := (p.sec 1 0).byte 11 % 16

/-- MAX_GRAINS (R421). -/
def Plane.maxGrains (p : Plane) : Nat := (p.sec 2 0).le 0 4
/-- MAX_POLICERS (R421). -/
def Plane.maxPolicers (p : Plane) : Nat := (p.sec 2 0).le 4 4
/-- MAX_NT_BYTES (R421). -/
def Plane.maxNtBytes (p : Plane) : Nat := (p.sec 2 0).le 8 8
/-- MAX_SLOT (R421). -/
def Plane.maxSlot (p : Plane) : Nat := (p.sec 2 0).le 16 4
/-- MAX_CONTEXTS (R421). -/
def Plane.maxContexts (p : Plane) : Nat := (p.sec 2 0).le 20 2
/-- WDOG_MAX_US (R421). -/
def Plane.wdogMaxUs (p : Plane) : Nat := (p.sec 2 0).le 22 2
/-- POL_RATE_MAX (R421). -/
def Plane.polRateMax (p : Plane) : Nat := (p.sec 2 0).le 24 4

/-- DEFINED (R422). -/
def Plane.partDefined (p : Plane) (q : Nat) : Bool := (p.sec 3 0).byte (64 * q) = 1
/-- LARGE_JOB (R422). -/
def Plane.largeJob (p : Plane) (q : Nat) : Bool := bitOf ((p.sec 3 0).byte (64 * q + 1)) 0
/-- PORT_DIES (R422). -/
def Plane.portDies (p : Plane) (q : Nat) : Nat := (p.sec 3 0).le (64 * q + 4) 4
/-- LATHE_DIES (R422). -/
def Plane.latheDies (p : Plane) (q : Nat) : Nat := (p.sec 3 0).le (64 * q + 8) 4
/-- BENCH_W or BENCH_E (R422), by half. -/
def Plane.benchShare (p : Plane) (q half : Nat) : Nat := (p.sec 3 0).le (64 * q + 12 + 4 * half) 4
/-- NT_BASE or FT_BASE (R422), by tier. -/
def Plane.shareBase (p : Plane) (q tier : Nat) : Nat := (p.sec 3 0).le (64 * q + 24 + 16 * tier) 8
/-- NT_LEN or FT_LEN (R422), by tier. -/
def Plane.shareLen (p : Plane) (q tier : Nat) : Nat := (p.sec 3 0).le (64 * q + 32 + 16 * tier) 8
/-- The partition of port die d, if any (R29). -/
def Plane.partOfPort (p : Plane) (d : Nat) : Option Nat :=
  (List.range 16).find? (fun q => p.partDefined q && bitOf (p.portDies q) d)
/-- The partition of lathe die d, if any (R29). -/
def Plane.partOfLathe (p : Plane) (d : Nat) : Option Nat :=
  (List.range 16).find? (fun q => p.partDefined q && bitOf (p.latheDies q) d)

/-- WIDTH of lane l of port die d (R66). -/
def Plane.width (p : Plane) (d l : Nat) : Nat := (p.sec 4 d).byte (4 * l)
/-- PERSONALITY (R66). -/
def Plane.personality (p : Plane) (d l : Nat) : Nat := (p.sec 4 d).byte (4 * l + 1)
/-- RATE: 1 for 100 Gb/s fixed (R66). -/
def Plane.rate100 (p : Plane) (d l : Nat) : Bool := (p.sec 4 d).byte (4 * l + 2) = 1
/-- FEC_BYPASS_ALLOWED (R66). -/
def Plane.bypassAllowed (p : Plane) (d l : Nat) : Bool := bitOf ((p.sec 4 d).byte (4 * l + 3)) 0
/-- ADMIN_UP (R66). -/
def Plane.adminUp (p : Plane) (d l : Nat) : Bool := bitOf ((p.sec 4 d).byte (4 * l + 3)) 1

/-- The number of routes (R423). -/
def Plane.routeCount (p : Plane) : Nat := (p.sec 5 0).le 0 4
/-- A field of route r at byte i of its entry (R423). -/
def Plane.routeByte (p : Plane) (r i : Nat) : Nat := (p.sec 5 0).byte (16 + 16 * r + i)
/-- The bridges that route r crosses, in order (R423). -/
def Plane.routeBridges (p : Plane) (r : Nat) : List Nat :=
  (List.range (p.routeByte r 3)).map (fun i => p.routeByte r (4 + i))

/-- The number of circuits of a partition (R424). -/
def Plane.circuitCount (p : Plane) (q : Nat) : Nat := (p.sec 6 q).le 0 4
/-- A field of circuit k, w bytes at byte i of its entry (R424). -/
def Plane.circuit (p : Plane) (q k i w : Nat) : Nat := (p.sec 6 q).le (16 + 208 * k + i) w

/-- SPILL_SHARE of a half (R425). -/
def Plane.spillShare (p : Plane) (half : Nat) : Nat := (p.sec 7 0).byte half
/-- The lossless classes of a partition: TC5 to TC7 always (R146, R425). -/
def Plane.lossless (p : Plane) (q tc : Nat) : Bool := 5 ≤ tc || bitOf ((p.sec 7 0).byte (16 + q)) tc
/-- The base of a partition's spill region (R425). -/
def Plane.spillBase (p : Plane) (q : Nat) : Nat := (p.sec 7 0).le (32 + 16 * q) 8
/-- The length of a partition's spill region (R425). -/
def Plane.spillLen (p : Plane) (q : Nat) : Nat := (p.sec 7 0).le (40 + 16 * q) 8
/-- The partition of pool k; 0xFF for an unused pool (R425). -/
def Plane.poolPart (p : Plane) (k : Nat) : Nat := (p.sec 7 0).byte (320 + 32 * k)
/-- SIZE, WARN, THROTTLE, PUSHOUT and HARD of pool k, by number 0 to 4 (R425). -/
def Plane.poolField (p : Plane) (k i : Nat) : Nat := (p.sec 7 0).le (320 + 32 * k + 4 + 4 * i) 4
/-- HYST of pool k (R425). -/
def Plane.poolHyst (p : Plane) (k : Nat) : Nat := (p.sec 7 0).le (320 + 32 * k + 24) 2
/-- SPILL_KEEP of pool k (R425). -/
def Plane.spillKeep (p : Plane) (k : Nat) : Nat := (p.sec 7 0).le (320 + 32 * k + 26) 2
/-- The pool of a requester; 0xFF for none (R425). -/
def Plane.reqPool (p : Plane) (i : Nat) : Nat := (p.sec 7 0).byte (2368 + 8 * i)
/-- The quota of a requester (R425). -/
def Plane.reqQuota (p : Plane) (i : Nat) : Nat := (p.sec 7 0).le (2368 + 8 * i + 4) 4
/-- The pool of egress queue q; 0xFF for none (R425). -/
def Plane.queuePool (p : Plane) (q : Nat) : Nat := (p.sec 7 0).byte (18752 + q)

/-- The number of lathe pools of a partition (R426). -/
def Plane.lathePoolCount (p : Plane) (q : Nat) : Nat := (p.sec 8 q).le 0 4
/-- LATHES of pool k of a partition (R426). -/
def Plane.poolLathes (p : Plane) (q k : Nat) : Nat := (p.sec 8 q).byte (16 + 8 * k)
/-- CTRL of pool k of a partition (R426). -/
def Plane.poolCtrl (p : Plane) (q k : Nat) : Bool := bitOf ((p.sec 8 q).byte (16 + 8 * k + 1)) 0
/-- The lathes that a partition's pools ask for, summed (R79). -/
def Plane.lathesAsked (p : Plane) (q : Nat) : Nat :=
  ((List.range (p.lathePoolCount q)).map (p.poolLathes q)).foldl (· + ·) 0

/-- An entry of a gate list: open classes, kerf, duration (R167). -/
structure GateEntry where
  openSet : Nat
  kerf : Nat
  dur : Nat
  deriving DecidableEq, Repr

/-- The gate list of lane l of port die d, in order; empty for none (R167). -/
def Plane.gateList (p : Plane) (d l : Nat) : List GateEntry :=
  let b := p.sec 9 d
  let first := b.le (4 * l) 2
  (List.range (b.le (4 * l + 2) 2)).map (fun i =>
    let o := 128 + 8 * (first + i)
    ⟨b.byte o, b.le (o + 2) 2, b.le (o + 4) 4⟩)

/-- A window of a class: first tick, end tick and kerf, counted from the turn boundary (R168). -/
structure GateWindow where
  s : Nat
  e : Nat
  k : Nat
  deriving DecidableEq, Repr

/-- The windows of class c: maximal runs of entries in which c is open (R168). -/
def gateWindows (c : Nat) : List GateEntry → Nat → Option Nat → List GateWindow → List GateWindow
  | [], _, _, acc => acc.reverse
  | g :: gs, t, run, acc =>
    if bitOf g.openSet c then
      let st := run.getD t
      let acc := match run with
        | none => ⟨st, t + g.dur, g.kerf⟩ :: acc
        | some _ => ⟨st, t + g.dur, g.kerf⟩ :: acc.drop 1
      gateWindows c gs (t + g.dur) (some st) acc
    else gateWindows c gs (t + g.dur) none acc

/-- LEVELS of template t (R427). -/
def Plane.treeLevels (p : Plane) (q t : Nat) : Nat := (p.sec 10 q).byte (16 + 8 * t)
/-- The carry format out of level k of template t (R427). -/
def Plane.treeCarry (p : Plane) (q t k : Nat) : Nat := (p.sec 10 q).byte (16 + 8 * t + 1 + k)
/-- The number of templates (R427). -/
def Plane.treeCount (p : Plane) (q : Nat) : Nat := (p.sec 10 q).le 0 2

/-- REQ of domain n (R428). -/
def Plane.powReq (p : Plane) (n : Nat) : Nat := (p.sec 11 0).byte (4 * n)
/-- VCEIL of domain n (R428). -/
def Plane.powVceil (p : Plane) (n : Nat) : Nat := (p.sec 11 0).byte (4 * n + 1)
/-- LOCK of domain n (R428). -/
def Plane.powLock (p : Plane) (n : Nat) : Nat := (p.sec 11 0).byte (4 * n + 2)

/-- LANE_AUTO of port die d (R429). -/
def Plane.laneAuto (p : Plane) (d : Nat) : Bool := bitOf ((p.sec 12 0).le 0 4) d
/-- LATHE_AUTO of lathe die d (R429). -/
def Plane.latheAuto (p : Plane) (d : Nat) : Bool := bitOf ((p.sec 12 0).le 4 4) d

/-! ## The plane digest (R69) -/

/-- What one section adds to the digest's message. -/
def Section.digestPart (s : Section) : List Nat :=
  [s.typ, s.inst] ++ (Blob.bytes ⟨4, s.body.len⟩) ++ sha256 s.body.bytes

/-- The plane digest, as a little-endian number of its 32 bytes. -/
def planeDigest (secs : List Section) : Nat :=
  (digestBlob (sha256 (secs.flatMap Section.digestPart))).val

/-! ## The container (R60 to R64) -/

/-- A failure: the code of R78, the directory index (0xFFFF outside a section), the entry. -/
structure ImgFail where
  code : Nat
  sect : Nat
  entry : Nat
  deriving DecidableEq, Repr

/-- A directory entry (R62). -/
structure DirEntry where
  typ : Nat
  inst : Nat
  off : Nat
  len : Nat
  crc : Nat
  deriving DecidableEq, Repr

/-- The section directory (R62). -/
def imgDir (b : Blob) : List DirEntry :=
  (List.range (b.le 20 2)).map (fun i =>
    let o := 128 + 16 * i
    ⟨b.byte o, b.byte (o + 1), b.le (o + 4) 4, b.le (o + 8) 4, b.le (o + 12) 4⟩)

/-- The first index below n at which f answers a code. -/
def firstBad (f : Nat → Option Nat) (n : Nat) : Option (Nat × Nat) :=
  (List.range n).findSome? (fun i => (f i).map (fun c => (c, i)))

/-- c when the condition fails. -/
def orFail (ok : Bool) (c : Nat) : Option Nat := if ok then none else some c

/-- The first failure of a list of checks. -/
def firstFail {α : Type} : List (Option α) → Option α
  | [] => none
  | some a :: _ => some a
  | none :: t => firstFail t

/-- Whether a range of bytes of a body is all zero. -/
def zeroBytes (b : Blob) (i n : Nat) : Bool := b.le i n = 0

/-- Step 1: the header (R61). -/
def imgStep1 (b : Blob) : Option Nat :=
  let len := b.le 12 4
  let sig := b.le 16 4
  let cnt := b.le 20 2
  firstFail [orFail (b.le 0 4 = 0x49535849 && b.byte 4 = 1 && b.byte 5 = 0) 0x01,
    orFail (len % 256 = 0 && 8192 ≤ len && len ≤ 2 ^ 28 && sig % 256 = 0 && sig + 7424 = len && 1 ≤ cnt && cnt ≤ 1024
      && len ≤ b.len) 0x02]

/-- Whether a signed block's key is accepted: slot programmed, not revoked, hash equal (R68). -/
def Fuses.keyOk (f : Fuses) (slot : Nat) (sig : Blob) : Bool :=
  slot < 4 && bitOf f.programmed slot && !bitOf f.revoked slot
    && (digestBlob (sha384 (sig.slice 0 2689).bytes)).val = f.keyHash.get (fun _ => 0) slot

/-- Whether the ECDSA signature of a signature block verifies over a message (R64). -/
def sigEcdsa (msg sig : Blob) : Bool :=
  ecdsaVerifies (sig.slice 0 97).bytes (sha384 msg.bytes) (sig.slice 2689 96).bytes

/-- Whether the ML-DSA-87 signature of a signature block verifies over a message (R64). -/
def sigMlDsa (msg sig : Blob) : Bool :=
  mlDsaVerifies (sig.slice 97 2592).bytes msg.bytes (sig.slice 2785 4627).bytes

/-- Steps 2 to 4: key, signatures, versions and grade (R77). -/
def imgStep2to4 (f : Fuses) (major : Nat) (b : Blob) : Option Nat :=
  let sigOff := b.le 16 4
  let sig := b.slice sigOff 7424
  let msg := b.slice 0 sigOff
  firstFail [orFail (f.keyOk (b.byte 22) sig) 0x03, orFail (sigEcdsa msg sig) 0x04, orFail (sigMlDsa msg sig) 0x05,
    orFail (f.minSec ≤ b.le 10 2) 0x06, orFail (1 ≤ f.grade && bitOf (b.byte 8) (f.grade - 1)) 0x07,
    orFail (b.byte 9 ≤ major) 0x08]

/-- PARTIAL (R61). -/
def imgPartial (b : Blob) : Bool := bitOf (b.le 6 2) 0

/-- What R61, R62 and R64 require of fields that no step of R77 names: the reserved bits of FLAGS and GRADE_MASK, the bytes that are 0 in the
header, in the directory and at the end of the signature block, a full image's BASE_DIGEST, and SEC_VERSION up to 64. They are judged first
in step 7, with 0x0C and in no section (DESIGN CHOICE, log 29). -/
def imgReserved (b : Blob) : Option Nat :=
  let n := b.le 20 2
  orFail (b.le 6 2 < 2 && b.byte 8 < 8 && b.le 10 2 ≤ 64 && b.byte 23 = 0 && zeroBytes b 72 56 && (imgPartial b || zeroBytes b 24 32)
    && (List.range n).all (fun i => zeroBytes b (128 + 16 * i + 2) 2) && zeroBytes b (b.le 16 4 + 7412) 12) 0x0C

/-- Step 5: the plane a partial image applies to (R77). -/
def imgStep5 (active : Option Plane) (b : Blob) : Option Nat :=
  if imgPartial b then
    match active with
    | some p => orFail (b.le 24 32 = p.digest) 0x09
    | none => some 0x09
  else none

/-- A section type that the part reads (R63). -/
def knownType (t : Nat) : Bool := 1 ≤ t && t ≤ 12
/-- The types whose instance is a port die (R63). -/
def portDieType (t : Nat) : Bool := t = 4 || t = 9
/-- The types whose instance is a partition (R63). -/
def partType (t : Nat) : Bool := t = 6 || t = 8 || t = 10

/-- Step 6 for one directory entry: type, instance, order, place (R62, R77). -/
def dirEntryBad (sig dirEnd : Nat) (ds : List DirEntry) (i : Nat) : Option Nat :=
  match ds[i]? with
  | none => none
  | some d =>
    let asc := match i with
      | 0 => true
      | j + 1 => match ds[j]? with
        | some e => e.typ < d.typ || (e.typ = d.typ && e.inst < d.inst)
        | none => true
    let instOk := if 0x80 ≤ d.typ then true else if portDieType d.typ then d.inst < 32
      else if partType d.typ then d.inst < 16 else d.inst = 0
    firstFail [orFail (asc && (knownType d.typ || 0x80 ≤ d.typ) && instOk) 0x0A,
      orFail (d.off % 256 = 0 && dirEnd ≤ d.off && d.off < sig && 1 ≤ d.len && d.off + d.len ≤ sig) 0x02,
      orFail ((List.range i).all (fun j => match ds[j]? with
        | some e => e.off + e.len ≤ d.off || d.off + d.len ≤ e.off
        | none => true)) 0x02]

/-- The sections an image carries, annotations left out (R63). -/
def imgSections (b : Blob) : List Section :=
  ((imgDir b).filter (fun d => knownType d.typ)).map (fun d => ⟨d.typ, d.inst, b.slice d.off d.len⟩)

/-- Order of sections by (TYPE, INSTANCE). -/
def Section.le (a b : Section) : Bool := a.typ < b.typ || (a.typ = b.typ && a.inst ≤ b.inst)

/-- Put a section into an ascending list, in place of one of the same type and instance (R70). -/
def secPut (s : Section) : List Section → List Section
  | [] => [s]
  | t :: ts => if s.typ = t.typ && s.inst = t.inst then s :: ts else if s.le t then s :: t :: ts else t :: secPut s ts

/-- The sections of the plane that an image makes: its own, over the active plane's for a partial image (R70). -/
def composeSections (active : Option Plane) (b : Blob) : List Section :=
  if imgPartial b then (imgSections b).foldl (fun acc s => secPut s acc) ((active.map Plane.secs).getD [])
  else imgSections b

/-- The sections that a plane must hold (R63). -/
def requiredSections (s : State) (p : Plane) : List (Nat × Nat) :=
  [(1, 0), (2, 0), (3, 0), (5, 0), (7, 0), (11, 0), (12, 0)]
    ++ (((List.range 32).filter (fun d => !s.ptdOff d)).flatMap (fun d => [(4, d), (9, d)]))
    ++ (((List.range 16).filter p.partDefined).flatMap (fun q => [(6, q), (8, q), (10, q)]))

/-- Step 6: the directory, the types and instances, the CRCs, and the required sections (R77). R60 says that the bytes between the parts of an
image are zero, and no step or failure code judges them: the part does not look at them (DESIGN CHOICE, log 29). -/
def imgStep6 (s : State) (p : Plane) (b : Blob) : Option ImgFail :=
  let ds := imgDir b
  let sig := b.le 16 4
  firstFail [
    (firstBad (dirEntryBad sig (128 + 16 * ds.length) ds) ds.length).map (fun x => ⟨x.1, x.2, 0⟩),
    (firstBad (fun i => match ds[i]? with
      | some d => orFail (crc32c (b.slice d.off d.len).bytes = d.crc) 0x0B
      | none => none) ds.length).map (fun x => ⟨x.1, x.2, 0⟩),
    if (requiredSections s p).all (fun x => p.has x.1 x.2) then none else some ⟨0x0A, 0xFFFF, 0⟩,
    (firstBad (fun i => match ds[i]? with
      | some d => orFail (!partType d.typ || p.partDefined d.inst) 0x0A
      | none => none) ds.length).map (fun x => ⟨x.1, x.2, 0⟩)]

/-! ## Step 7: the fields of each section -/

/-- DEVICE (R65). -/
def badDevice (keySlot : Nat) (b : Blob) : Option (Nat × Nat) :=
  let t := b.le 0 4
  if b.len = 64 && 10000 ≤ t && t ≤ 10000000 && 85 ≤ b.byte 4 && b.byte 4 ≤ 100 && (b.byte 5 = 5 || b.byte 5 = 6)
    && 0x0600 ≤ b.le 6 2 && 1 ≤ b.le 8 2 && b.le 8 2 ≤ 100 && b.byte 10 < 2 && b.byte 11 < 16
    && !bitOf (b.byte 11) keySlot && zeroBytes b 12 52 then none else some (0x0C, 0)

/-- CEILINGS (R421). -/
def badCeilings (s : State) (turnTicks : Nat) (b : Blob) : Option (Nat × Nat) :=
  if b.len = 64 && 1 ≤ b.le 0 4 && b.le 0 4 ≤ 5242880 && b.le 4 4 ≤ 65536 && b.le 8 8 % 4096 = 0
    && b.le 8 8 ≤ s.nearBytes && b.le 16 4 ≤ s.lathesEnabled * ((turnTicks + 1023) / 1024) && b.le 20 2 ≤ 16384
    && 1 ≤ b.le 22 2 && b.le 22 2 ≤ 10000 && 1 ≤ b.le 24 4 && b.le 24 4 ≤ 0xFFFFF && zeroBytes b 28 36
  then none else some (0x0C, 0)

/-- Whether two ranges overlap. -/
def overlaps (a al b bl : Nat) : Bool := 0 < al && 0 < bl && a < b + bl && b < a + al

/-- PARTITIONS (R422). -/
def badPartitions (s : State) (p : Plane) (b : Blob) : Option (Nat × Nat) :=
  if b.len ≠ 1024 then some (0x0C, 0)
  else firstBad (fun q =>
    let o := 64 * q
    if b.byte o = 0 then orFail (zeroBytes b o 64) 0x0C
    else
      let ok (tier tot : Nat) := p.shareBase q tier % 2 ^ 20 = 0 && p.shareLen q tier % 2 ^ 20 = 0
        && p.shareBase q tier + p.shareLen q tier ≤ tot
        && (List.range q).all (fun r => !p.partDefined r ||
          !overlaps (p.shareBase q tier) (p.shareLen q tier) (p.shareBase r tier) (p.shareLen r tier))
      let sum (half : Nat) := ((List.range (q + 1)).map (fun r =>
        if p.partDefined r then p.benchShare r half else 0)).foldl (· + ·) 0
      orFail (b.byte o = 1 && b.byte (o + 1) < 2 && zeroBytes b (o + 2) 2 && p.latheDies q < 2 ^ 24
        && zeroBytes b (o + 20) 4 && zeroBytes b (o + 56) 8 && ok 0 s.nearBytes && ok 1 farBytes
        && sum 0 ≤ 2326528 && sum 1 ≤ 2326528
        && (List.range q).all (fun r => !p.partDefined r ||
          ((p.portDies q &&& p.portDies r) = 0 && (p.latheDies q &&& p.latheDies r) = 0))) 0x0C) 16

/-- PORTS (R66). -/
def badPorts (b : Blob) : Option (Nat × Nat) :=
  if b.len ≠ 128 then some (0x0C, 0)
  else firstBad (fun l =>
    let w := b.byte (4 * l)
    let covered := (List.range l).any (fun m => m + b.byte (4 * m) > l && b.byte (4 * m) ≠ 0)
    if w = 0 then orFail (zeroBytes b (4 * l) 4) 0x0C
    else orFail ((w = 1 || w = 2 || w = 4 || w = 8) && l % w = 0 && !covered && b.byte (4 * l + 1) < 2
      && b.byte (4 * l + 2) < 2 && b.byte (4 * l + 3) < 4) 0x0C) 32

/-- ROUTES (R423). -/
def badRoutes (p : Plane) (b : Blob) : Option (Nat × Nat) :=
  let n := b.le 0 4
  if !(1 ≤ n && n ≤ 4096 && zeroBytes b 4 12 && b.len = 16 + 16 * n) then some (0x0C, 0)
  else firstBad (fun r =>
    let nb := p.routeByte r 3
    let bs := p.routeBridges r
    orFail (p.routeByte r 0 < 100 && p.routeByte r 1 < 100 && 1 ≤ p.routeByte r 2 && 1 ≤ nb && nb ≤ 8
      && bs.all (fun x => decide (x < 12)) && decide bs.Nodup
      && (List.range 8).all (fun i => i < nb || p.routeByte r (4 + i) = 0xFF)
      && zeroBytes b (16 + 16 * r + 12) 4
      && (dieHalf (p.routeByte r 0) = dieHalf (p.routeByte r 1) || bs.contains 5 || bs.contains 6)) 0x0C) n

/-- CIRCUITS (R424). -/
def badCircuits (p : Plane) (q turnTicks : Nat) (b : Blob) : Option (Nat × Nat) :=
  let n := b.le 0 4
  if !(n ≤ 8192 && zeroBytes b 4 12 && b.len = 16 + 208 * n) then some (0x0C, 0)
  else firstBad (fun k =>
    let f := p.circuit q k
    let ns := f 8 1
    let nw := f 9 1
    orFail (f 0 2 < 8192 && f 2 2 < 1024 && f 4 2 < 1024 && ns ≤ 16 && 1 ≤ nw && nw ≤ 16 && f 10 6 = 0
      && (List.range 16).all (fun i =>
        let v := f (16 + 4 * i) 4
        if i < ns then bitsOf v 28 4 < 12 && bitsOf v 24 4 = 0 && 64 * (bitsOf v 0 24 + 1) ≤ turnTicks else v = 0)
      && (List.range 16).all (fun i => if i < nw then 1 ≤ f (84 + 8 * i) 4 else f (80 + 8 * i) 8 = 0)) 0x0C) n

/-- BENCH (R425). -/
def badBench (p : Plane) (b : Blob) : Option (Nat × Nat) :=
  if !(b.len = 26944 && b.byte 0 ≤ 16 && b.byte 1 ≤ 16 && zeroBytes b 2 14 && zeroBytes b 288 32) then some (0x0C, 0)
  else
    let poolSum (half : Nat) := ((List.range 32).map (fun k =>
      if p.poolPart (32 * half + k) = 0xFF then 0 else p.poolField (32 * half + k) 0)).foldl (· + ·) 0
    firstFail [
      if poolSum 0 ≤ 2326528 && poolSum 1 ≤ 2326528 then none else some (0x0C, 0),
      firstBad (fun q => orFail (b.byte (16 + q) < 32 && p.spillBase q % 2 ^ 20 = 0 && p.spillLen q % 2 ^ 20 = 0) 0x0C) 16,
      firstBad (fun k =>
        let o := 320 + 32 * k
        if b.byte o = 0xFF then orFail (zeroBytes b (o + 1) 31) 0x0C
        else orFail (b.byte o < 16 && zeroBytes b (o + 1) 3 && p.poolField k 1 ≤ p.poolField k 2
          && p.poolField k 2 ≤ p.poolField k 3 && p.poolField k 3 ≤ p.poolField k 4 && p.poolField k 4 ≤ p.poolField k 0
          && 256 ≤ p.spillKeep k && zeroBytes b (o + 28) 4) 0x0C) 64,
      firstBad (fun i =>
        let o := 2368 + 8 * i
        orFail ((b.byte o < 64 || b.byte o = 0xFF) && zeroBytes b (o + 1) 3
          && (if b.byte o = 0xFF then p.reqQuota i = 0 else 1 ≤ p.reqQuota i)) 0x0C) 2048,
      firstBad (fun q => orFail (p.queuePool q < 64 || p.queuePool q = 0xFF) 0x0C) 8192]

/-- LATHES (R426). -/
def badLathes (b : Blob) : Option (Nat × Nat) :=
  let n := b.le 0 4
  if !(1 ≤ n && n ≤ 32 && zeroBytes b 4 12 && b.len = 16 + 8 * n) then some (0x0C, 0)
  else firstBad (fun k =>
    let o := 16 + 8 * k
    orFail (1 ≤ b.byte o && b.byte o ≤ 96 && b.byte (o + 1) < 2
      && (!bitOf (b.le (o + 2) 2) 15 || b.byte (o + 1) = 1) && zeroBytes b (o + 4) 4) 0x0C) n

/-- GATES (R167). -/
def badGates (p : Plane) (d turnTicks : Nat) (b : Blob) : Option (Nat × Nat) :=
  let total := ((List.range 32).map (fun l => b.le (4 * l + 2) 2)).foldl (· + ·) 0
  if b.len ≠ 128 + 8 * total then some (0x0C, 0)
  else firstBad (fun l =>
    let c := b.le (4 * l + 2) 2
    let first := b.le (4 * l) 2
    let gl := p.gateList d l
    let durs := (gl.map GateEntry.dur).foldl (· + ·) 0
    orFail (c ≤ 256 && (c = 0 || (first + c ≤ total && durs = turnTicks))
      && gl.all (fun g => g.openSet < 64 && g.kerf ≤ g.dur && 1 ≤ g.dur)
      && (List.range c).all (fun i => b.byte (128 + 8 * (first + i) + 1) = 0)
      && (List.range l).all (fun m =>
        !overlaps first c (b.le (4 * m) 2) (b.le (4 * m + 2) 2))) 0x0C) 32

/-- TREES (R427). -/
def badTrees (p : Plane) (q : Nat) (b : Blob) : Option (Nat × Nat) :=
  let n := b.le 0 2
  if !(1 ≤ n && n ≤ 256 && zeroBytes b 2 14 && b.len = 16 + 8 * n) then some (0x0C, 0)
  else firstBad (fun t =>
    let lv := p.treeLevels q t
    orFail (1 ≤ lv && lv ≤ 4 && zeroBytes b (16 + 8 * t + 5) 3
      && (List.range 4).all (fun k => if k + 1 < lv then [0, 1, 3, 4].contains (p.treeCarry q t k)
          else p.treeCarry q t k = 0xFF)) 0x0C) n

/-- POWER (R428). -/
def badPower (p : Plane) (b : Blob) : Option (Nat × Nat) :=
  if b.len ≠ 2144 then some (0x0C, 0)
  else firstBad (fun n =>
    orFail (p.powReq n < 3 && p.powVceil n ≤ 0x10 && p.powLock n < 2 && b.byte (4 * n + 3) = 0) 0x0C) 536

/-- SPARES (R429). -/
def badSpares (b : Blob) : Option (Nat × Nat) :=
  if b.len = 16 && b.byte 7 = 0 && zeroBytes b 8 8 then none else some (0x0C, 0)

/-- Step 7 for one section. -/
def badSection (s : State) (p : Plane) (keySlot : Nat) (x : Section) : Option (Nat × Nat) :=
  match x.typ with
  | 1 => badDevice keySlot x.body
  | 2 => badCeilings s p.turnTicks x.body
  | 3 => badPartitions s p x.body
  | 4 => badPorts x.body
  | 5 => badRoutes p x.body
  | 6 => badCircuits p x.inst p.turnTicks x.body
  | 7 => badBench p x.body
  | 8 => badLathes x.body
  | 9 => badGates p x.inst p.turnTicks x.body
  | 10 => badTrees p x.inst x.body
  | 11 => badPower p x.body
  | _ => badSpares x.body

/-! ## Step 8: units named (R79) -/

/-- Whether domain n is ABSENT: fused off or not present (R46, R47). -/
def State.domAbsent (s : State) (n : Nat) : Bool :=
  if n < 288 then s.ptdOff (n / 9)
  else if n < 432 then
    let d := (n - 288) / 6
    let p := (n - 288) % 6
    s.ltdOff d || (p < 5 && s.latheFused (5 * d + p))
  else if n < 496 then s.bchOff ((n - 432) / 4)
  else if n < 504 then !bitOf s.ntPresent (n - 496)
  else false

/-- Enabled lathes on a partition's lathe dies, less any whose domain is FAILED (R79). -/
def State.partLathes (s : State) (p : Plane) (q : Nat) : Nat :=
  ((List.range 120).filter (fun k => bitOf (p.latheDies q) (k / 5) && s.fuses.latheRole (k / 5) (k % 5) = 0
    && !s.ltdOff (k / 5)
    && s.fld (R.glbPd (288 + 6 * (k / 5) + k % 5)) F.GlbPd.state ≠ 5)).length

/-- Step 8 for one section. The CIRCUITS and LATHES sections of a partition that a partial image has emptied stand for nothing (R70). -/
def badUnits (s : State) (p : Plane) (x : Section) : Option (Nat × Nat) :=
  match x.typ with
  | 3 => firstBad (fun q => orFail ((List.range 32).all (fun d => !bitOf (p.portDies q) d || !s.ptdOff d)
      && (List.range 24).all (fun d => !bitOf (p.latheDies q) d || !s.ltdOff d)) 0x0D) 16
  | 4 => if s.ptdOff x.inst then some (0x0D, 0) else none
  | 5 => firstBad (fun r => orFail (s.dieEnabled (p.routeByte r 0) && s.dieEnabled (p.routeByte r 1)) 0x0D) p.routeCount
  | 6 => if p.partDefined x.inst then
      firstBad (fun k => orFail (!s.ptdOff (p.circuit x.inst k 2 2 / 32) && !s.ptdOff (p.circuit x.inst k 4 2 / 32)) 0x0D)
        (p.circuitCount x.inst)
    else none
  | 8 => if p.partDefined x.inst && s.partLathes p x.inst < p.lathesAsked x.inst then some (0x0E, 0) else none
  | 9 => if s.ptdOff x.inst then some (0x0D, 0) else none
  | 11 => firstBad (fun n => orFail (!s.domAbsent n || p.powReq n = 0) 0x0D) 536
  | _ => none

/-! ## Step 9: agreement between sections -/

/-- The shared dies of R63. -/
def sharedDie (d : Nat) : Bool := (56 ≤ d && d < 84) || 96 ≤ d

/-- The partition of a port or lathe die by its R53 index (R29). -/
def Plane.partOfDie (p : Plane) (d : Nat) : Option Nat :=
  if d < 32 then p.partOfPort d else if d < 56 then p.partOfLathe (d - 32) else none

/-- Whether a route joins dies as R63 allows. -/
def Plane.routeJoins (p : Plane) (r : Nat) : Bool :=
  let a := p.routeByte r 0
  let b := p.routeByte r 1
  let pa := p.partOfDie a
  let pb := p.partOfDie b
  (sharedDie a && sharedDie b) || (sharedDie a && pb.isSome) || (pa.isSome && sharedDie b) || (pa.isSome && pa = pb)

/-- The half and partition that a pool serves. -/
def Plane.poolFits (p : Plane) (k half q : Nat) : Bool := k < 64 && k / 32 = half && p.poolPart k = q

/-- Whether the pool that an image gives a unit of a half is one of the unit's own half and partition, or is absent where a unit that needs one
in a defined partition is not concerned (R425). -/
def Plane.ownPool (p : Plane) (k half : Nat) (part : Option Nat) (needs : Bool) : Bool :=
  match part with
  | some q => if k = 0xFF then !needs else p.poolFits k half q
  | none => k = 0xFF

/-- Whether lane l of port die d starts a port. -/
def Plane.startsPort (p : Plane) (d l : Nat) : Bool := p.width d l ≠ 0

/-- Step 9 for BENCH (R425). -/
def badBenchAgree (s : State) (p : Plane) : Option (Nat × Nat) :=
  let sysReqs := [(0x480, 0), (0x481, 1), (0x482, 0), (0x483, 1), (0x486, 0), (0x487, 1)]
  let sum (q half : Nat) := ((List.range 32).map (fun k =>
    if p.poolPart (32 * half + k) = q then p.poolField (32 * half + k) 0 else 0)).foldl (· + ·) 0
  let lastReq (i : Nat) : Bool := (0x478 ≤ i && i ≤ 0x47F) || i = 0x485 || 0x488 ≤ i
  firstFail [
    firstBad (fun q => orFail ((!p.partDefined q || (sum q 0 ≤ p.benchShare q 0 && sum q 1 ≤ p.benchShare q 1))
      && (p.spillLen q = 0 || (p.partDefined q && p.shareBase q 0 ≤ p.spillBase q
        && p.spillBase q + p.spillLen q ≤ p.shareBase q 0 + p.shareLen q 0))) 0x0F) 16,
    firstBad (fun k => orFail (p.poolPart k = 0xFF || p.partDefined (p.poolPart k)) 0x0F) 64,
    firstBad (fun i =>
      let k := p.reqPool i
      if k = 0xFF then none
      else orFail (!lastReq i && p.reqQuota i ≤ p.poolField k 0 && p.reqQuota i ≤ p.maxGrains && p.poolPart k ≠ 0xFF) 0x0F)
      2048,
    firstBad (fun i =>
      let d := i / 32
      let needs : Bool := !s.ptdOff d && p.startsPort d (i % 32)
      orFail (p.ownPool (p.reqPool i) (d / 16) (p.partOfPort d) needs) 0x0F) 1024,
    firstBad (fun i =>
      let d := i / 5
      orFail (p.ownPool (p.reqPool (0x400 + i)) (d / 12) (p.partOfLathe d) (!s.latheFused i)) 0x0F) 120,
    if sysReqs.all (fun x => p.reqPool x.1 < 64 && p.reqPool x.1 / 32 = x.2) && p.reqPool 0x484 < 64 then none
      else some (0x0F, 0),
    firstBad (fun q =>
      let d := q / 256
      let l := q / 8 % 32
      if p.startsPort d l then orFail (p.ownPool (p.queuePool q) (d / 16) (p.partOfPort d) true) 0x0F
      else orFail (p.queuePool q = 0xFF) 0x0F) 8192]

/-- The partitions that the plane defines (R422). -/
def Plane.definedParts (p : Plane) : List Nat := (List.range 16).filter p.partDefined

/-- The reserved spindle slots of every circuit, as (bridge, slot) (R424). -/
def Plane.reservedSlots (p : Plane) : List (Nat × Nat) :=
  (p.definedParts).flatMap (fun q => (List.range (p.circuitCount q)).flatMap (fun k =>
    (List.range (p.circuit q k 8 1)).map (fun i =>
      let v := p.circuit q k (16 + 4 * i) 4
      (bitsOf v 28 4, bitsOf v 0 24))))

/-- Every circuit's number (R424). -/
def Plane.circuitNumbers (p : Plane) : List Nat :=
  (p.definedParts).flatMap (fun q => (List.range (p.circuitCount q)).map (fun k => p.circuit q k 0 2))

/-- Step 9 for one circuit (R424). A window lies inside a window of the gate list of OUT_PORT; a port without a list is always open (R167) and
has no window of a list to lie in, so the circuit fails (DESIGN CHOICE, log 29). -/
def badCircuitAgree (p : Plane) (q k : Nat) : Option Nat :=
  let f := p.circuit q k
  let inP := f 2 2
  let outP := f 4 2
  let r := f 6 2
  let wins := gateWindows 5 (p.gateList (outP / 32) (outP % 32)) 0 none []
  orFail (p.partOfPort (inP / 32) = some q && p.partOfPort (outP / 32) = some q && p.startsPort (inP / 32) (inP % 32)
    && p.startsPort (outP / 32) (outP % 32) && r < p.routeCount && p.routeByte r 0 = inP / 32
    && (List.range (f 8 1)).all (fun i => (p.routeBridges r).contains (bitsOf (f (16 + 4 * i) 4) 28 4))
    && (List.range (f 9 1)).all (fun i =>
      let st := f (80 + 8 * i) 4
      let ln := f (84 + 8 * i) 4
      wins.any (fun w => w.s ≤ st && st + ln + w.k ≤ w.e))) 0x0F

/-- Step 9 for one section. -/
def badAgree (s : State) (p : Plane) (x : Section) : Option (Nat × Nat) :=
  match x.typ with
  | 5 => firstBad (fun r => orFail (p.routeJoins r) 0x0F) p.routeCount
  | 6 => if !p.partDefined x.inst then none else if decide p.reservedSlots.Nodup && decide p.circuitNumbers.Nodup
      then firstBad (badCircuitAgree p x.inst) (p.circuitCount x.inst) else some (0x0F, 0)
  | 7 => badBenchAgree s p
  | 9 => firstBad (fun l => orFail (p.startsPort x.inst l || (p.gateList x.inst l).isEmpty) 0x0F) 32
  | _ => none

/-! ## The whole of steps 1 to 9 -/

/-- The directory index of a section; 0xFFFF for one that the image does not carry. -/
def sectIndex (ds : List DirEntry) (x : Section) : Nat :=
  match ds.findIdx? (fun d => d.typ = x.typ && d.inst = x.inst) with
  | some i => i
  | none => 0xFFFF

/-- The first failure among a plane's sections under one check. -/
def sectionsFail (ds : List DirEntry) (f : Section → Option (Nat × Nat)) : List Section → Option ImgFail
  | [] => none
  | x :: xs => match f x with
    | some (c, e) => some ⟨c, sectIndex ds x, e % 65536⟩
    | none => sectionsFail ds f xs

/-- The plane that an image makes (R69, R70). -/
def composePlane (active : Option Plane) (src : Nat) (b : Blob) : Plane :=
  let secs := composeSections active b
  ⟨secs, b.le 10 2, b.byte 9, planeDigest secs, src⟩

/-- Steps 1 to 9 of CHECK, in order, to the first failure (R77). major is the running firmware's version. -/
def checkImage (s : State) (major : Nat) (b : Blob) : Option ImgFail :=
  let p := composePlane s.img.active s.img.loadSrc b
  let ds := imgDir b
  firstFail [(imgStep1 b).map (fun c => ⟨c, 0xFFFF, 0⟩), (imgStep2to4 s.fuses major b).map (fun c => ⟨c, 0xFFFF, 0⟩),
    (imgStep5 s.img.active b).map (fun c => ⟨c, 0xFFFF, 0⟩), imgStep6 s p b,
    (imgReserved b).map (fun c => ⟨c, 0xFFFF, 0⟩), sectionsFail ds (badSection s p (b.byte 22)) p.secs, sectionsFail ds (badUnits s p) p.secs,
    sectionsFail ds (badAgree s p) p.secs]

end Sys2Proof.Machine
end

