-- ==== Sys2Proof/Machine/Packet.lean ====
section
/-! DEFINITION. Druvo packets: the fields of the two headers, the grain word, and the CRCs (R121 to R126). -/

namespace Sys2Proof.Machine

/-! ## Header fields (R122, R123) -/

/-- A field of a data header. -/
def dh (h lo wid : Nat) : Nat := bitsOf h lo wid

/-- OPCODE of a header. -/
def hdrOpcode (data : Bool) (h : Nat) : Nat := if data then bitsOf h 134 8 else bitsOf h 56 8
/-- JOB of a header. -/
def hdrJob (data : Bool) (h : Nat) : Nat := if data then bitsOf h 232 16 else bitsOf h 104 16
/-- DST_RANK of a header. -/
def hdrDst (data : Bool) (h : Nat) : Nat := if data then bitsOf h 212 20 else bitsOf h 84 20
/-- SRC_RANK of a header. -/
def hdrSrc (data : Bool) (h : Nat) : Nat := if data then bitsOf h 192 20 else bitsOf h 64 20
/-- TC of a header. -/
def hdrTc (data : Bool) (h : Nat) : Nat := if data then bitsOf h 248 3 else bitsOf h 120 3
/-- VERSION of a header. -/
def hdrVersion (data : Bool) (h : Nat) : Nat := if data then bitsOf h 252 4 else bitsOf h 124 4
/-- KIND of a header. -/
def hdrKind (data : Bool) (h : Nat) : Nat := if data then bitsOf h 251 1 else bitsOf h 123 1
/-- HOPS of a header. -/
def hdrHops (data : Bool) (h : Nat) : Nat := if data then bitsOf h 40 8 else bitsOf h 48 8
/-- CONTEXT of a header. -/
def hdrContext (data : Bool) (h : Nat) : Nat := if data then bitsOf h 142 14 else bitsOf h 34 14
/-- FLOW of a data header. -/
def hdrFlow (h : Nat) : Nat := bitsOf h 180 12
/-- SEQ of a data header. -/
def hdrSeq (h : Nat) : Nat := bitsOf h 156 24
/-- GRAIN_COUNT of a data header. -/
def hdrGrainCount (h : Nat) : Nat := bitsOf h 128 6
/-- LAST_LEN of a data header. -/
def hdrLastLen (h : Nat) : Nat := bitsOf h 120 8
/-- SPARSE of a data header. -/
def hdrSparse (h : Nat) : Bool := bitOf h 119
/-- CIRCUIT of a data header. -/
def hdrCircuit (h : Nat) : Bool := bitOf h 116
/-- CIRCUIT_ID of a data header. -/
def hdrCircuitId (h : Nat) : Nat := bitsOf h 96 16
/-- GRAIN_BASE of a data header. -/
def hdrGrainBase (h : Nat) : Nat := bitsOf h 72 24
/-- SEGMENT of a data header. -/
def hdrSegment (h : Nat) : Nat := bitsOf h 66 6
/-- LAST of a data header. -/
def hdrLast (h : Nat) : Bool := bitOf h 117

/-- The valid bytes of the last grain: LAST_LEN, with 0 for 256 (R122). -/
def lastBytes (lastLen : Nat) : Nat := if lastLen = 0 then 256 else lastLen

/-- The packet length (R121). -/
def Pkt.length (p : Pkt) : Nat :=
  if p.data then 32 + 256 * (hdrGrainCount p.hdr - 1) + lastBytes (hdrLastLen p.hdr) else 64

/-- The grains a packet has on its links: GRAIN_COUNT, or 0 for a control packet (R169). -/
def Pkt.grainCount (p : Pkt) : Nat := if p.data then hdrGrainCount p.hdr else 0

/-- The credits a packet consumes (R136). -/
def Pkt.creditCost (p : Pkt) : Nat := if p.data then hdrGrainCount p.hdr else 1

/-! ## CRCs (R125, R126) -/

/-- CRC-16 of R125. -/
def crc16 (m : List Nat) : Nat := crcMsb 16 0x1021 0xFFFF m

/-- CRC-64 of R126. -/
def crc64 (m : List Nat) : Nat := crcLsb 0xC96C5795D7870F42 0xFFFFFFFFFFFFFFFF m ^^^ 0xFFFFFFFFFFFFFFFF

/-- HCRC as it should be: over bytes 0 to 29 of a data header, 0 to 13 of a control header (R125). -/
def hdrCrc (data : Bool) (h : Nat) : Nat :=
  if data then crc16 (beBytes 30 (h / 2 ^ 16)) else crc16 (beBytes 14 (h / 2 ^ 16))

/-- Whether a header's HCRC holds. -/
def hcrcOk (data : Bool) (h : Nat) : Bool := hdrCrc data h = h % 2 ^ 16

/-- A header with its HCRC regenerated (R127). -/
def hdrSeal (data : Bool) (h : Nat) : Nat := (h / 2 ^ 16) * 2 ^ 16 + hdrCrc data h

/-- Whether a control packet's PCRC holds. -/
def pcrcOk (h payload : Nat) : Bool := crc16 (beBytes 48 payload) = bitsOf h 16 16

/-- The valid bytes of a grain, in order. -/
def grainBytes (d : Grain) (len : Nat) : List Nat := (Blob.mk len d.toNat).bytes

/-- The grain CRC: the 8 bytes of the grain word, then the valid bytes (R126). -/
def grainCrc (word : Nat) (d : Grain) (len : Nat) : Nat := crc64 (beBytes 8 word ++ grainBytes d len)

/-- FORMAT of a grain word (R126). -/
def gwFormat (w : Nat) : Nat := bitsOf w 57 2
/-- BURR of a grain word (R126). -/
def gwBurr (w : Nat) : Bool := bitOf w 56
/-- DENSITY of a grain word (R126). -/
def gwDensity (w : Nat) : Nat := bitsOf w 48 8
/-- INDEX of a grain word (R126). -/
def gwIndex (w : Nat) : Nat := bitsOf w 59 5
/-- A grain word with its BURR bit set (R127). -/
def gwSetBurr (w : Nat) : Nat := w ||| 2 ^ 56
/-- A grain word with another INDEX. -/
def gwSetIndex (w i : Nat) : Nat := setBitsOf w 59 5 i

/-! ## R124: what the sender of a packet must meet (R138 step 2) -/

/-- Whether a data header is well formed. fromEndpoint: PACED and UNORDERED must be 0. -/
def dataFormatOk (h : Nat) (fromEndpoint : Bool) : Bool :=
  hdrVersion true h = 1 && hdrKind true h = 1 && bitsOf h 112 2 = 0 && bitsOf h 48 18 = 0
    && 1 ≤ hdrGrainCount h && hdrGrainCount h ≤ 32
    && (hdrCircuit h == decide (hdrTc true h = 5))
    && (if hdrCircuit h then hdrCircuitId h < 8192 else hdrCircuitId h = 0)
    && !(fromEndpoint && (bitOf h 115 || bitOf h 114))

/-- Whether a control header is well formed. -/
def ctlFormatOk (h : Nat) : Bool :=
  hdrVersion false h = 1 && hdrKind false h = 0 && 6 ≤ hdrTc false h && bitsOf h 32 2 = 0

end Sys2Proof.Machine
end

