-- ==== Sys2Proof/Machine/Bench.lean ====
section
/-! DEFINITION. The bench's shared operations: grains, pools and quotas, push-out, queues and flushes, drops and the
shavings ring, and credits (R141 to R161, R136). -/

namespace Sys2Proof.Machine

/-! ## Planes by stamp (R93) -/

/-- The state of the shadow plane (R71). -/
def State.imgState (s : State) : Nat := s.fld R.svImgStat F.SvImgStat.state

/-- The plane that a die keeps now, where it did not swap with the others (R81 step 4, R83). -/
def State.keptPlane (s : State) (d : Nat) : Option Plane :=
  (s.img.behind.find? (fun e => decide (e.die = d) && e.till.isNone)).map (fun e => e.plane)

/-- The plane that a die kept at a stamp, if it had not swapped with the others by then. -/
def State.keptAt (s : State) (d stamp : Nat) : Option Plane :=
  (s.img.behind.find? (fun e => decide (e.die = d) && decide (e.since ≤ stamp) && e.till.all (fun t => decide (stamp < t)))).map
    (fun e => e.plane)

/-- The plane in force at a stamp: the active plane from its swap on, before it the plane whose swap is the first after the stamp, also once
that plane has retired (R65, R81, R93). -/
def State.planeAt (s : State) (stamp : Nat) : Option Plane :=
  match (s.img.past.filter (fun e => decide (stamp < e.1))).getLast? with
  | some e => some e.2
  | none => s.img.active

/-- The leader's active plane; a plane without sections when there is none. -/
def State.plane (s : State) : Plane := (s.img.active).getD ⟨[], 0, 0, 0, 0⟩

/-- The active plane of die d: the leader's, or the one that the die has kept (R83). -/
def State.planeOn (s : State) (d : Nat) : Plane := (s.keptPlane d).getD s.plane

/-- The plane that governs on die d a packet of a stamp; a plane without sections when there is none. -/
def State.planeOf (s : State) (d stamp : Nat) : Plane :=
  (s.keptAt d stamp).getD ((s.planeAt stamp).getD ⟨[], 0, 0, 0, 0⟩)

/-- The active plane of a half's bench, as its first bench die has it. -/
def State.benchPlane (s : State) (half : Nat) : Plane := s.planeOn (dBench (8 * half))

/-- The active plane of the bench that pool k belongs to. -/
def State.poolPlane (s : State) (k : Nat) : Plane := s.benchPlane (k / 32)

/-- The active plane of the bench that serves requester i (R144). -/
def State.reqPlane (s : State) (i : Nat) : Plane :=
  s.benchPlane (if i < 0x400 then i / 512 else if i < 0x478 then (i - 0x400) / 60 else i % 2)

/-- The plane that governs a packet of a stamp at the bench of a half (R93). -/
def State.benchPlaneAt (s : State) (half stamp : Nat) : Plane := s.planeOf (dBench (8 * half)) stamp

/-- Whether a packet is older than the MAX_RES_MS of the plane in force at its stamp (R155). -/
def State.aged (s : State) (p : Pkt) : Bool :=
  p.stamp + 1000000 * (s.planeOf (p.inPort / 32) p.stamp).maxResMs < s.tb.tick

/-- The partition of a port's die in the active plane (R29). -/
def State.portPart (s : State) (port : Nat) : Option Nat := (s.planeOn (port / 32)).partOfPort (port / 32)

/-- The half of a port: 0 West, 1 East (R23). -/
def portHalf (port : Nat) : Nat := port / 512

/-- STATE of a port. -/
def State.portState (s : State) (p : Nat) : Nat := s.fld (R.ptdPortStat (p / 32) (p % 32)) F.PtdPortStat.state
/-- Whether a port is UP. -/
def State.portUp (s : State) (p : Nat) : Bool := s.portState p = 4
/-- Whether a port's queues stand: UP, RETRAIN or RESIZE. -/
def State.portQueues (s : State) (p : Nat) : Bool := 4 ≤ s.portState p && s.portState p ≤ 6

/-! ## Grains -/

/-- The grain at a pointer. -/
def State.grain (s : State) (ptr : Nat) : GrainSt := s.bench.grains.get (fun _ => GrainSt.empty) ptr

/-- Change the bench. -/
def State.withBench (s : State) (f : BenchSt → BenchSt) : State := { s with bench := f s.bench }

/-- Put a grain at a pointer. -/
def State.setGrain (s : State) (ptr : Nat) (g : GrainSt) : State :=
  s.withBench (fun b => { b with grains := b.grains.set (fun _ => GrainSt.empty) ptr g })

/-- The pointer of pool grain n of bench die d: banks 0 to 19 of groups 0 to 2, banks 0 to 10 of group 3 (R141, R142). -/
def poolPtr (d n : Nat) : Nat :=
  let bank := n / 4096
  d * 2 ^ 19 + (bank / 20) * 2 ^ 17 + (bank % 20) * 2 ^ 12 + n % 4096

/-- The bench die of a pointer. -/
def ptrDie (ptr : Nat) : Nat := ptr / 2 ^ 19
/-- The bank group of a pointer. -/
def ptrBg (ptr : Nat) : Nat := bitsOf ptr 17 2
/-- The logical bank of a pointer. -/
def ptrBank (ptr : Nat) : Nat := bitsOf ptr 12 5
/-- Whether a pointer names pool space (R141, R142). -/
def ptrInPool (ptr : Nat) : Bool :=
  ptr < 2 ^ 23 && ptrBank ptr ≤ 19 && !(ptrBg ptr = 3 && 11 ≤ ptrBank ptr)

/-- Whether a grain is withheld: retired alone or with its bank (R384). -/
def State.withheld (s : State) (ptr : Nat) : Bool :=
  s.err.retiredGrains.contains ptr || s.err.retiredBanks.contains (ptr / 4096)

/-- Whether the bank group of pool grain n of bench die d may give out grains: its domain is ON (R47). -/
def State.grainOn (s : State) (d n : Nat) : Bool := s.bankOn d (ptrBg (poolPtr d n))

/-- The lowest free grain of bench die d; none on a die that has failed or is treated as fused off (R28, R395). -/
def State.freeOn (s : State) (d : Nat) : Option Nat :=
  if (s.die (dBench d)).failed || s.bchOff d then none
  else (firstFrom (fun n => decide ((s.grain (poolPtr d n)).st = .free) && !s.withheld (poolPtr d n) && s.grainOn d n) 0 290816).map
    (poolPtr d)

/-- A free grain of a half, striped over its eight dies (R32; which free grain is taken is a DESIGN CHOICE, log 5). -/
def State.freePtr (s : State) (half : Nat) : Option Nat :=
  let st := s.bench.stripe.get (fun _ => 0) half
  (List.range 8).findSome? (fun i => s.freeOn (8 * half + (st + i) % 8))

/-- How many grains satisfy a condition, of those not FREE. -/
def State.grainCount (s : State) (p : GrainSt → Bool) : Nat :=
  (s.bench.grains.filter (fun e => decide (e.2.st ≠ .free) && p e.2)).length

/-- The grains charged to a requester, from ALLOC until FREE (R145). -/
def State.reqUsed (s : State) (req : Nat) : Nat := s.grainCount (fun g => g.req = req)
/-- The grains a requester holds in state HELD (R145). -/
def State.reqHeld (s : State) (req : Nat) : Nat := s.grainCount (fun g => g.req = req && decide (g.st = .held))
/-- The grains charged to a job (R328, R329). -/
def State.jobGrains (s : State) (j : Nat) : Nat := s.grainCount (fun g => g.job = some j)
/-- The lossless reservations of a pool (R147). -/
def State.resv (s : State) (k : Nat) : Nat := s.bench.resv.get (fun _ => 0) k
/-- The occupancy of a pool: its grains HELD or LINKED and its reservations (R147). -/
def State.poolOcc (s : State) (k : Nat) : Nat := s.grainCount (fun g => g.pool = k) + s.resv k
/-- A requester's current epoch (R144). -/
def State.epoch (s : State) (req : Nat) : Nat := s.bench.epochs.get (fun _ => 0) req

/-- Free a grain. -/
def State.freeGrain (s : State) (ptr : Nat) : State := s.setGrain ptr GrainSt.empty

/-- Give up one reference to a grain; it becomes FREE at the last (R34, R143). A HELD grain is freed at once. -/
def State.unref (s : State) (ptr : Nat) : State :=
  let g := s.grain ptr
  if g.refs ≤ 1 then s.freeGrain ptr else s.setGrain ptr { g with refs := g.refs - 1 }

/-- Give up one reference to each grain of a list. -/
def State.unrefAll (s : State) (ptrs : List Nat) : State := ptrs.foldl State.unref s

/-- Link a grain: HELD becomes LINKED with one more reference (R143). -/
def State.linkGrain (s : State) (ptr : Nat) : State :=
  let g := s.grain ptr
  s.setGrain ptr { g with st := .linked, refs := g.refs + 1 }

/-- Allocate one grain of a half to a requester, charged to a pool and, for a job, to the job; none when the half has
no free grain. -/
def State.allocOne (s : State) (half req pool : Nat) (job : Option Nat) : Option (Nat × State) :=
  match s.freePtr half with
  | none => none
  | some ptr =>
    let s := s.withBench (fun b => { b with
      stripe := b.stripe.modify (fun _ => 0) half (fun x => (x + 1) % 8)
      since := b.since.modify (fun _ => 0) (64 * ptrDie ptr + pool) (· + 1) })
    some (ptr, s.setGrain ptr { GrainSt.empty with st := .held, req := req, pool := pool, job := job })

/-- Allocate n grains; none when the half has too few. -/
def State.allocN (s : State) (half req pool : Nat) (job : Option Nat) : Nat → Option (List Nat × State)
  | 0 => some ([], s)
  | n + 1 => match s.allocOne half req pool job with
    | none => none
    | some (p, s1) => match s1.allocN half req pool job n with
      | none => none
      | some (l, s2) => some (p :: l, s2)

/-! ## Queues -/

/-- The key of an egress queue: 8 port + class (R425). -/
def qKey (port tc : Nat) : Nat := 8 * port + tc

/-- An egress queue, head first. -/
def State.queue (s : State) (q : Nat) : List Pkt := s.bench.queues.get (fun _ => []) q
/-- Replace an egress queue. -/
def State.setQueue (s : State) (q : Nat) (l : List Pkt) : State :=
  s.withBench (fun b => { b with queues := b.queues.set (fun _ => []) q l })
/-- The packets the tailstock has released, in order of release (R162). -/
def State.releasedQ (s : State) (q : Nat) : List Pkt := s.bench.released.get (fun _ => []) q
/-- Replace the packets the tailstock has released. -/
def State.setReleased (s : State) (q : Nat) (l : List Pkt) : State :=
  s.withBench (fun b => { b with released := b.released.set (fun _ => []) q l })

/-- A port's own state. -/
def State.port (s : State) (p : Nat) : PortSt := s.ports.get (fun _ => PortSt.fresh0) p
/-- Change a port's own state. -/
def State.setPort (s : State) (p : Nat) (f : PortSt → PortSt) : State :=
  { s with ports := s.ports.modify (fun _ => PortSt.fresh0) p f }

/-- The home bench die of a port (R153). -/
def homeDie (port : Nat) : Nat := 8 * portHalf port + port % 8
/-- The index of an egress queue in its home die's registers (R161). -/
def homeIdx (q : Nat) : Nat := 8 * ((q / 8 - 512 * portHalf (q / 8)) / 8) + q % 8
/-- The BCH_QDROP register of an egress queue. -/
def qdropReg (q : Nat) : Nat := R.bchQdrop (homeDie (q / 8)) (homeIdx q)

/-- The grains of a list of packets that are on the bench: not spilled. -/
def benchGrains (l : List Pkt) : Nat := (l.map (fun p => if p.spillAt.isSome then 0 else p.grains.length)).foldl (· + ·) 0
/-- The grains of a list of packets that are spilled. -/
def spilledGrains (l : List Pkt) : Nat := (l.map (fun p => if p.spillAt.isSome then p.grainCount else 0)).foldl (· + ·) 0
/-- The packets that a tailstock holds for one class. -/
def State.heldOf (s : State) (q : Nat) : List Pkt :=
  ((s.port (q / 8)).slots.flatMap ReorderSlot.held).filter (fun p => p.tc = q % 8)
/-- The depth of an egress queue in grains: the packets queued, held and released (R134, R161). -/
def State.depth (s : State) (q : Nat) : Nat :=
  benchGrains (s.queue q) + benchGrains (s.releasedQ q) + benchGrains (s.heldOf q)

/-- The descriptors in use in a half: one for each packet queued, held or released there (R142). -/
def State.descUsed (s : State) (half : Nat) : Nat :=
  let n (t : Tbl (List Pkt)) := ((t.filter (fun e => portHalf (e.1 / 8) = half)).map (fun e => e.2.length)).foldl (· + ·) 0
  n s.bench.queues + n s.bench.released
    + ((s.ports.filter (fun e => portHalf e.1 = half)).map (fun e =>
        ((e.2.slots.map (fun r => r.held.length)).foldl (· + ·) 0))).foldl (· + ·) 0
/-- The free descriptors of a half (R142). -/
def State.descFree (s : State) (half : Nat) : Nat := 262144 - s.descUsed half

/-! ## Pool levels (R147, R148) -/

/-- The BCH_POOL_STAT register of pool k, in its half's pool leader. -/
def poolReg (k : Nat) : Nat := R.bchPoolStat (8 * (k / 32)) (k % 32)

/-- The level by which a pool is judged: the last sum's, or HARD while its half is short of descriptors (R147, R156). -/
def State.poolLevel (s : State) (k : Nat) : Nat :=
  if s.descFree (k / 32) < 1024 then 4 else s.bench.levels.get (fun _ => 0) k

/-- The bench die whose pool manager takes the next request of a half: the one that hands out the next grain (R31, R32). -/
def State.manager (s : State) (half : Nat) : Nat := 8 * half + s.bench.stripe.get (fun _ => 0) half

/-- The occupancy of a pool as its pool manager judges it between sums: that of the last sum, with its own allocations since (R147). -/
def State.occSeen (s : State) (k : Nat) : Nat :=
  s.fld (poolReg k) F.BchPoolStat.occ + s.bench.since.get (fun _ => 0) (64 * s.manager (k / 32) + k)

/-! ## The shavings ring (R159, R160) -/

/-- The bytes of a header as they stood on the link: 32, a control header in the first 16. -/
def hdrLinkBytes (p : Pkt) : List Nat := if p.data then beBytes 32 p.hdr else beBytes 16 p.hdr ++ List.replicate 16 0

/-- Little-endian bytes of a number. -/
def leBytes (n x : Nat) : List Nat := (Blob.mk n x).bytes

/-- The stamp of what happens to a packet: a push-out and a flush are caused by a message of the port die that asked for grains or left its
port, so they are stamped at the bench later than their cause; everything else is the die's own event (R94). -/
def State.captureStamp (s : State) (p : Pkt) (cause : Nat) : Nat :=
  if cause = 4 || cause = 6 then causedStamp (s.dieNow (dBench (homeDie p.outPort))) (s.dieNow (dPort (p.outPort / 32)))
  else s.dieNow (dPort (p.inPort / 32))

/-- Capture a packet: cause, reason, egress queue if one was chosen. One entry per port die each 8 ns; an entry that
would fall in a segment not yet archived is lost. -/
def State.capturePkt (s : State) (p : Pkt) (cause reason : Nat) (q : Option Nat) : State :=
  let d := p.inPort / 32
  let half := portHalf p.inPort
  let leader := 8 * half
  let now := s.captureStamp p cause
  let last := s.bench.lastCapture.get (fun _ => 0) d
  if now < last + 8 && last ≠ 0 then s.count (R.bchShavStat leader) F.BchShavStat.missed
  else
    let seq := s.bench.taken.get (fun _ => 0) half
    let arch := s.fld (R.bchShavCtl leader) F.BchShavCtl.archGib
    let s := s.withBench (fun b => { b with lastCapture := b.lastCapture.set (fun _ => 0) d (max now 1) })
    if arch ≠ 0 && 128 ≤ seq / 4096 && s.bench.archived.get (fun _ => 0) half ≤ seq / 4096 - 128 then
      s.count (R.bchShavStat leader) F.BchShavStat.lost
    else
      let depth := match q with
        | some q => min (s.depth q / 64) 0xFFFF
        | none => 0
      let body := leBytes 8 p.stamp ++ leBytes 8 now ++ hdrLinkBytes p ++ leBytes 2 p.inPort
        ++ leBytes 2 ((q.map (· / 8)).getD 0x3FF) ++ [cause, reason] ++ leBytes 2 depth ++ leBytes 4 seq
      let entry := Blob.ofBytes (body ++ leBytes 4 (crc32c body))
      let s := s.withBench (fun b => { b with shav := b.shav.set (fun _ => none) (524288 * half + seq % 524288) (some entry) })
      let s := s.withBench (fun b => { b with taken := b.taken.set (fun _ => 0) half (seq + 1) })
      s.setFld (R.bchShavStat leader) F.BchShavStat.nextSeq (seq + 1)

/-- Capture a drop, push-out, aging or flush when CAPTURE_DROPS = 1 (R159). -/
def State.captureDrop (s : State) (p : Pkt) (cause reason : Nat) (q : Option Nat) : State :=
  if s.fld (R.bchShavCtl (8 * portHalf p.inPort)) F.BchShavCtl.captureDrops = 1 then s.capturePkt p cause reason q else s

/-! ## Dropping packets -/

/-- Mark the arrival of a packet's grains as dropped: those still to come are discarded. -/
def State.dropArriving (s : State) (uid : Nat) : State :=
  s.withBench (fun b => { b with
    arriving := b.arriving.map (fun e => (e.1, e.2.map (fun a => if a.pkt.uid = uid then { a with dropped := true } else a))) })

/-- Release everything a queued packet holds: its grains' references; its spill space goes with it (R153). -/
def State.releasePkt (s : State) (p : Pkt) : State :=
  (s.unrefAll p.grains).dropArriving p.uid

/-- Count a packet of a queue in one of the BCH_QDROP fields, with its capture cause, and release it. -/
def State.dropQueued (s : State) (q : Nat) (p : Pkt) (f : Fld) (cause : Nat) : State :=
  ((s.captureDrop p cause 0 (some q)).releasePkt p).count (qdropReg q) f

/-- Discard a packet that has aged (R155). -/
def State.dropAged (s : State) (q : Nat) (p : Pkt) : State := s.dropQueued q p F.BchQdrop.aged 5

/-- Record a packet that fails an ingress check (R138, R140). -/
def State.pktLast (s : State) (port : Nat) (p : Pkt) (reason : Nat) : State :=
  let r := R.ptdPktLast (port / 32)
  let s := s.setFld r F.PtdPktLast.job (hdrJob p.data p.hdr)
  let s := s.setFld r F.PtdPktLast.opcode (hdrOpcode p.data p.hdr)
  let s := s.setFld r F.PtdPktLast.reason reason
  let s := s.setFld r F.PtdPktLast.portLane (port % 32)
  s.setFld r F.PtdPktLast.stampLo (p.stamp % 2 ^ 24)

/-- The PTD_PKT_CNT register and field of a drop reason (R140). -/
def pktCnt (port reason : Nat) : Option (Nat × Fld) :=
  let d := port / 32
  let l := port % 32
  match reason with
  | 1 => some (R.ptdPktCnt0 d l, F.PtdPktCnt0.hcrc)
  | 2 => some (R.ptdPktCnt0 d l, F.PtdPktCnt0.format)
  | 3 => some (R.ptdPktCnt0 d l, F.PtdPktCnt0.job)
  | 4 => some (R.ptdPktCnt0 d l, F.PtdPktCnt0.opcode)
  | 5 => some (R.ptdPktCnt1 d l, F.PtdPktCnt1.rank)
  | 6 => some (R.ptdPktCnt1 d l, F.PtdPktCnt1.source)
  | 7 => some (R.ptdPktCnt1 d l, F.PtdPktCnt1.context)
  | 8 => some (R.ptdPktCnt1 d l, F.PtdPktCnt1.hops)
  | 9 => some (R.ptdPktCnt2 d l, F.PtdPktCnt2.circuit)
  | 0xA => some (R.ptdPktCnt2 d l, F.PtdPktCnt2.credit)
  | 0xB => some (R.ptdPktCnt2 d l, F.PtdPktCnt2.stale)
  | 0xC => some (R.ptdPktCnt2 d l, F.PtdPktCnt2.ethOther)
  | 0xD => some (R.ptdPktCnt3 d l, F.PtdPktCnt3.noRoute)
  | _ => none

/-- Count a drop at a port under one reason, with PTD_PKT_LAST and the capture (R138). -/
def State.dropCount (s : State) (port : Nat) (p : Pkt) (reason : Nat) (q : Option Nat) : State :=
  let s := match pktCnt port reason with
    | some (r, f) => s.count r f
    | none => s
  (s.pktLast port p reason).captureDrop p 3 reason q

/-! ## Push-out (R149) -/

/-- A push-out as it goes: the state (aged candidates already discarded), the victims selected with their queues, and
the grains freed. -/
structure PushOut where
  st : State
  victims : List (Nat × Pkt)
  freed : Nat

/-- The packets of an egress queue, from its head: those that the tailstock has released, those that it holds, and those behind them (R134,
R162). -/
def State.wholeQueue (s : State) (q : Nat) : List Pkt := s.releasedQ q ++ s.heldOf q ++ s.queue q

/-- Unlink a packet wherever it stands in its egress queue. -/
def State.unlinkPkt (s : State) (q uid : Nat) : State :=
  let keep (l : List Pkt) : List Pkt := l.filter (fun p => decide (p.uid ≠ uid))
  let s := (s.setQueue q (keep (s.queue q))).setReleased q (keep (s.releasedQ q))
  s.setPort (q / 8) (fun x => { x with slots := x.slots.map (fun r => { r with held := keep r.held }) })

/-- The packets of a queue that are not yet selected: victims go from the tail. -/
def PushOut.visible (w : PushOut) (q : Nat) : List Pkt :=
  let l := w.st.wholeQueue q
  l.take (l.length - (w.victims.filter (fun v => v.1 = q)).length)

/-- Whether one candidate queue comes before another: lower class, then longer, then lower port. -/
def PushOut.before (w : PushOut) (a b : Nat) : Bool :=
  let la := benchGrains (w.visible a)
  let lb := benchGrains (w.visible b)
  decide (a % 8 < b % 8) || (decide (a % 8 = b % 8) && (decide (lb < la) || (decide (la = lb) && decide (a / 8 < b / 8))))

/-- The queue whose tail is the next candidate: a lossy queue of the pool in a class below c whose tail has not begun
egress. -/
def PushOut.candidate (w : PushOut) (pool c : Nat) : Option Nat :=
  let pl := w.st.poolPlane pool
  let ok (q : Nat) : Bool := decide (q % 8 < c) && decide (q % 8 < 5) && decide (pl.queuePool q = pool)
    && !pl.lossless (pl.poolPart pool) (q % 8)
    && (match (w.visible q).getLast? with
      | some p => !p.began && p.spillAt.isNone
      | none => false)
  let all := w.st.bench.queues.map Prod.fst ++ w.st.bench.released.map Prod.fst
    ++ w.st.ports.flatMap (fun e => (List.range 5).map (fun c => qKey e.1 c))
  (all.filter ok).foldl (fun best q =>
    match best with
    | none => some q
    | some b => if w.before q b then some q else some b) none

/-- How many grains of a packet become FREE when it is unlinked after the victims already selected: those with no other reference left. -/
def PushOut.wouldFree (w : PushOut) (p : Pkt) : Nat :=
  (p.grains.filter (fun g =>
    decide ((w.st.grain g).refs ≤ 1 + (w.victims.filter (fun v => v.2.grains.contains g)).length))).length

/-- Select victims until the required number of grains is freed: at most four, aged candidates discarded on the way. -/
def PushOut.run (pool c need : Nat) : Nat → PushOut → Bool × PushOut
  | 0, w => (decide (need ≤ w.freed), w)
  | fuel + 1, w =>
    if need ≤ w.freed then (true, w)
    else match w.candidate pool c with
      | none => (false, w)
      | some q => match (w.visible q).getLast? with
        | none => (false, w)
        | some p =>
          let gain := w.wouldFree p
          if w.st.aged p then
            PushOut.run pool c need fuel { w with st := (w.st.unlinkPkt q p.uid).dropAged q p, freed := w.freed + gain }
          else if 4 ≤ w.victims.length then (false, w)
          else PushOut.run pool c need fuel { w with victims := w.victims ++ [(q, p)], freed := w.freed + gain }

/-- Push out lossy packets of a pool to free need grains for an arrival of class c. Answers whether it succeeded; on
failure only aged candidates are gone. -/
def State.pushOut (s : State) (pool c need : Nat) : Bool × State :=
  let total := s.descUsed (pool / 32)
  let (ok, w) := PushOut.run pool c need (total + 5) ⟨s, [], 0⟩
  if ok then
    (true, w.victims.foldl (fun s v =>
      (s.unlinkPkt v.1 v.2.uid).dropQueued v.1 v.2 F.BchQdrop.pushed 4) w.st)
  else (false, w.st)

/-! ## Admission (R145, R148) -/

/-- Whether an ALLOC stays within its requester's quota and the 4,096 HELD grains (R145). -/
def State.quotaIn (s : State) (pl : Plane) (req n : Nat) : Bool :=
  decide (pl.reqPool req ≠ 0xFF) && decide (s.reqUsed req + n ≤ pl.reqQuota req) && decide (s.reqHeld req + n ≤ 4096)

/-- The quota check under the active plane. -/
def State.quotaOk (s : State) (req n : Nat) : Bool := s.quotaIn (s.reqPlane req) req n

/-- Judge a lossy arrival of n grains by the level of its egress queue's pool (R148), under the plane of the packet. -/
def State.admitLossy (s : State) (pl : Plane) (pool port tc n : Nat) : Bool × State :=
  match s.poolLevel pool with
  | 0 => (true, s)
  | 1 => (true, s)
  | 2 => (decide (2 * s.reqUsed port ≤ pl.reqQuota port), s)
  | 3 => s.pushOut pool tc n
  | _ => (false, s)

/-- SIZE of a pool, less its share of the grains that its half has lost (R384, R395). -/
def State.poolSize (s : State) (k : Nat) : Nat :=
  let n := (s.poolPlane k).poolField k 0
  n - (n * s.bench.lost.get (fun _ => 0) (k / 32) + 2326527) / 2326528

/-- Judge an ALLOC or a reservation of n grains by the level of its pool: granted, by push-out where HARD would be
passed, or to wait (R148, R149). -/
def State.admitAlloc (s : State) (pool n : Nat) : Bool × State :=
  let occ := s.occSeen pool
  let hard := (s.poolPlane pool).poolField pool 4
  match s.poolLevel pool with
  | 0 => (true, s)
  | 1 => (true, s)
  | 2 => (true, s)
  | 3 => if occ + n ≤ hard then (true, s) else s.pushOut pool 8 (occ + n - hard)
  | _ => if occ + n ≤ hard then (true, s)
    else if occ < s.poolSize pool then s.pushOut pool 8 (occ + n - hard) else (false, s)

/-! ## Credits and reservations (R136, R147) -/

/-- An entry of a list of numbers, 0 beyond its end. -/
def nth (l : List Nat) (i : Nat) : Nat := l.getD i 0
/-- A list with entry i changed. -/
def setNth (l : List Nat) (i v : Nat) : List Nat := l.set i v

/-- Whether a class is lossless on a port (R136, R146). -/
def State.losslessOn (s : State) (port tc : Nat) : Bool :=
  match s.portPart port with
  | some q => (s.planeOn (port / 32)).lossless q tc
  | none => decide (5 ≤ tc)

/-- Give the peer of a port n credits of a class: told in idle control words where there is a link, in the capability word before that
(R136). -/
def State.giveCredits (s : State) (port tc n : Nat) : State :=
  if n = 0 then s
  else
    let s := s.setPort port (fun p => { p with given := setNth p.given tc (nth p.given tc + n) })
    if 3 ≤ s.portState port && s.portState port ≤ 6 then s.emit (.credit port tc n) else s

/-- Whether one reservation can be made now for an ingress port (R148): the requester quota, and the level of the
port's pool. -/
def State.reserveOne (s : State) (port : Nat) : Bool × State :=
  let k := (s.reqPlane port).reqPool port
  if k = 0xFF || (s.reqPlane port).reqQuota port < s.reqUsed port + 1 then (false, s)
  else if s.poolLevel k = 2 && (s.reqPlane port).reqQuota port < 2 * s.reqUsed port then (false, s)
  else
    let (ok, s) := s.admitAlloc k 1
    if ok then (true, s.withBench (fun b => { b with
      resv := b.resv.modify (fun _ => 0) k (· + 1)
      since := b.since.modify (fun _ => 0) (64 * s.manager (k / 32) + k) (· + 1) })) else (false, s)

/-- Return the waiting credits of one lossless class, one reservation at a time, while reservations are made. -/
def State.reserveCredits (s : State) (port tc : Nat) : Nat → State
  | 0 => s
  | n + 1 =>
    let (ok, s) := s.reserveOne port
    if ok then
      ((s.setPort port (fun p => { p with waitCredits := setNth p.waitCredits tc (nth p.waitCredits tc - 1) })).giveCredits
        port tc 1).reserveCredits port tc n
    else s

/-- Return whatever credits of a port can be returned now. -/
def State.tryCredits (s : State) (port : Nat) : State :=
  (List.range 8).foldl (fun s tc => s.reserveCredits port tc (nth (s.port port).waitCredits tc)) s

/-- Return n credits of a class of a port: lossy ones at once, lossless ones as reservations allow (R136). -/
def State.returnCredits (s : State) (port tc n : Nat) : State :=
  if s.losslessOn port tc then
    (s.setPort port (fun p => { p with waitCredits := setNth p.waitCredits tc (nth p.waitCredits tc + n) })).reserveCredits
      port tc (nth (s.port port).waitCredits tc + n)
  else s.giveCredits port tc n

/-- n lossless grains of a port have arrived: they leave the reservation count (R147). -/
def State.unreserve (s : State) (port tc n : Nat) : State :=
  if s.losslessOn port tc then
    s.withBench (fun b => { b with resv := b.resv.modify (fun _ => 0) ((s.reqPlane port).reqPool port) (fun x => x - n) })
  else s

/-! ## Flushes (R153) -/

/-- Discard a list of packets of one queue as flushed. -/
def State.flushList (s : State) (q : Nat) (l : List Pkt) : State :=
  l.foldl (fun s p => s.dropQueued q p F.BchQdrop.flush 6) s

/-- Flush one queue: queued, released and held packets (R153). -/
def State.flushQueue (s : State) (q : Nat) : State :=
  let l := s.wholeQueue q
  ((s.setQueue q []).setReleased q []).flushList q l

/-- The packets that the tailstocks of a port die hold. -/
def State.heldOnDie (s : State) (d : Nat) : Nat :=
  ((s.ports.filter (fun e => decide (e.1 / 32 = d))).map (fun e =>
    ((e.2.slots.map (fun r => r.held.length)).foldl (· + ·) 0))).foldl (· + ·) 0

/-- Show HELD and raise HELD_MAX (R140). -/
def State.showHeld (s : State) (d : Nat) : State :=
  let n := s.heldOnDie d
  (s.setFld (R.ptdReordCtl d) F.PtdReordCtl.held n).raiseMax (R.ptdReordCtl d) F.PtdReordCtl.heldMax n

/-- Flush the eight queues of a port and its replay copies, the packet in progress among them; credits, deficits, reorder slots and
link numbers start afresh (R108, R153, R164). The credits given to the peer give up their reservations. -/
def State.flushPort (s : State) (port : Nat) : State :=
  let p := s.port port
  let s := (List.range 8).foldl (fun s tc => s.flushQueue (qKey port tc)) s
  let s := p.unacked.foldl (fun s x => s.dropQueued (qKey port x.2.tc) x.2 F.BchQdrop.flush 6) s
  let s := (List.range 8).foldl (fun s tc => s.unreserve port tc (nth p.given tc)) s
  State.showHeld (d := port / 32) <| s.setPort port (fun p => { p with
    unacked := [], inProg := none, under := none, slots := [], deficit := List.replicate 5 0, cls := 0, fresh := true,
    credits := List.replicate 8 0, given := List.replicate 8 0, waitCredits := List.replicate 8 0, txSeq := 0,
    rxSeq := 0, replayFails := 0 })

/-! ## Reclaim (R154) -/

/-- Return every HELD grain of a requester to FREE; answers how many. What was still arriving into them is discarded, and grants
that were not used are gone. -/
def State.reclaimHeld (s : State) (req : Nat) : Nat × State :=
  let mine := s.bench.grains.filter (fun e => decide (e.2.req = req) && decide (e.2.st = .held))
  let s := s.withBench (fun b => { b with
    arriving := b.arriving.map (fun e => (e.1, e.2.map (fun a => if a.pkt.inPort = req then { a with dropped := true } else a)))
    got := b.got.filter (fun g => !mine.any (fun e => e.1 = g.2)) })
  (mine.length, mine.foldl (fun s e => s.freeGrain e.1) s)

/-- Raise a requester's epoch, modulo 16, and cancel its waiting ALLOCs (R154, R156). -/
def State.raiseEpoch (s : State) (req : Nat) : State :=
  s.withBench (fun b => { b with
    epochs := b.epochs.modify (fun _ => 0) req (fun e => (e + 1) % 16)
    waits := b.waits.filter (fun w => decide (w.req ≠ req)) })

/-- The half in whose pool a requester's grains lie (R144, R146). -/
def State.reqHalf (s : State) (i : Nat) : Nat :=
  if i < 0x400 then portHalf i
  else if i < 0x478 then (i - 0x400) / 60
  else if i = 0x484 then (s.reqPlane i).reqPool i / 32
  else i % 2

/-- A whole reclaim, as the part runs it within a reset, with its report in BCH_RECLAIM of the pool leader of the requester's half (R154,
R156). -/
def State.reclaimNow (s : State) (req : Nat) : State :=
  let r := R.bchReclaim (8 * (s.reqHalf req % 2))
  let (n, s) := (s.raiseEpoch req).reclaimHeld req
  let s := (s.setFld r F.BchReclaim.grains (min n 0xFFFF)).setFld r F.BchReclaim.lastReq req
  s.setFld r F.BchReclaim.epoch (s.epoch req)

end Sys2Proof.Machine
end

