-- ==== Sys2Proof/Machine/Context.lean ====
section
/-! DEFINITION. Contexts and lathes: the context record, residency, windows, the slot arbiter, job records, and the
packets that the part itself generates (R199 to R211, R278, R323, R330). -/

namespace Sys2Proof.Machine

/-! ## The context record (R203) -/

/-- A field of a context record: wid bytes at byte off. -/
def recF (r : CtxRec) (off wid : Nat) : Nat := bitsOf r.toNat (8 * off) (8 * wid)
/-- A context record with a field replaced. -/
def recPut (r : CtxRec) (off wid x : Nat) : CtxRec := BitVec.ofNat 4096 (setBitsOf r.toNat (8 * off) (8 * wid) x)

/-- JOB. -/
def recJob (r : CtxRec) : Nat := recF r 0 2
/-- STATE of CTL. -/
def recState (r : CtxRec) : Nat := bitsOf (recF r 2 2) 0 4
/-- MODE of CTL: 0 FREE, 1 EXACT, 2 PACED. -/
def recMode (r : CtxRec) : Nat := bitsOf (recF r 2 2) 4 2
/-- CTRL of CTL. -/
def recCtrl (r : CtxRec) : Bool := bitOf (recF r 2 2) 6
/-- PARTITION of CTL. -/
def recPart (r : CtxRec) : Nat := bitsOf (recF r 2 2) 8 4
/-- VCOUNT. -/
def recV (r : CtxRec) : Nat := recF r 4 1
/-- LCOUNT. -/
def recL (r : CtxRec) : Nat := recF r 5 1
/-- NCTL. -/
def recNctl (r : CtxRec) : Nat := recF r 8 8
/-- NSEED. -/
def recNseed (r : CtxRec) : Nat := recF r 16 8
/-- PACE_TICKS. -/
def recPaceTicks (r : CtxRec) : Nat := recF r 24 4
/-- PACE_OFFSET. -/
def recPaceOff (r : CtxRec) : Nat := recF r 28 4
/-- PROG_BASE. -/
def recProgBase (r : CtxRec) : Nat := recF r 32 8
/-- PROG_LEN. -/
def recProgLen (r : CtxRec) : Nat := recF r 40 4
/-- PROG_ENTRY. -/
def recEntry (r : CtxRec) : Nat := recF r 44 4
/-- PROG_DIGEST, its bytes as a list. -/
def recDigest (r : CtxRec) : List Nat := (List.range 32).map (fun i => recF r (48 + i) 1)
/-- Window w: its 16 bytes (R201). -/
def recWin (r : CtxRec) (w : Nat) : Nat := recF r (80 + 16 * w) 16
/-- Parameter register m. -/
def recP (r : CtxRec) (m : Nat) : Nat := recF r (208 + 4 * m) 4
/-- SAVE_BASE. -/
def recSaveBase (r : CtxRec) : Nat := recF r 464 8
/-- FAULT. -/
def recFault (r : CtxRec) : Nat := recF r 487 1
/-- DESC_BASE. -/
def recDescBase (r : CtxRec) : Nat := recF r 496 8
/-- CALL. -/
def recCall (r : CtxRec) : Nat := recF r 504 4
/-- LEVEL of CFLAGS. -/
def recLevel (r : CtxRec) : Nat := bitsOf (recF r 508 1) 0 2
/-- TOP of CFLAGS. -/
def recTop (r : CtxRec) : Bool := bitOf (recF r 508 1) 2
/-- HOME of CFLAGS. -/
def recHome (r : CtxRec) : Bool := bitOf (recF r 508 1) 3
/-- PARTNERS of CFLAGS. -/
def recPartners (r : CtxRec) : Nat := bitsOf (recF r 508 1) 4 4
/-- HOME_CTX. -/
def recHomeCtx (r : CtxRec) : Nat := recF r 510 2

/-- LIMIT of a window entry. -/
def winLimit (w : Nat) : Nat := bitsOf w 88 40
/-- SPACE of a window entry. -/
def winSpace (w : Nat) : Nat := bitsOf w 80 4
/-- WR of a window entry. -/
def winWr (w : Nat) : Bool := bitOf w 79
/-- RD of a window entry. -/
def winRd (w : Nat) : Bool := bitOf w 78
/-- BASE of a window entry. -/
def winBase (w : Nat) : Nat := bitsOf w 0 48

/-- The context STATE codes (R204). -/
def csFree : Nat := 0
/-- IDLE. -/
def csIdle : Nat := 1
/-- PARKED. -/
def csParked : Nat := 2
/-- RUNNING. -/
def csRunning : Nat := 3
/-- SAVED. -/
def csSaved : Nat := 4
/-- MOVING. -/
def csMoving : Nat := 5
/-- DONE. -/
def csDone : Nat := 6
/-- FAULTED. -/
def csFaulted : Nat := 7
/-- STOPPED. -/
def csStopped : Nat := 8

/-- Whether a window entry is free of reserved and out-of-range values (R201). -/
def winOk (w : Nat) : Bool :=
  winLimit w = 0 || (winLimit w % 4096 = 0 && bitsOf w 84 4 = 0 && bitsOf w 48 30 = 0 && 1 ≤ winSpace w && winSpace w ≤ 4
    && (winSpace w ≤ 2 || winBase w % 4096 = 0))

/-- The record checks of START and REPLAY that need the record alone (R203, R247). -/
def recordOk (r : CtxRec) : Bool :=
  recMode r ≠ 3 && bitsOf (recF r 2 2) 7 1 = 0 && bitsOf (recF r 2 2) 12 4 = 0 && recV r ≤ 4 && recL r ≤ 4
    && recF r 6 2 ≤ 10000 && nctlOk (recNctl r)
    && (if recMode r = 2 then 1 ≤ recPaceTicks r && recPaceTicks r ≤ 2 ^ 20 else recPaceTicks r = 0)
    && recProgLen r % 4 = 0 && 8 ≤ recProgLen r && recProgLen r ≤ 131072
    && (List.range 8).all (fun w => winOk (recWin r w))
    && recEntry r % 4 = 0 && recEntry r < recProgLen r

/-- Change a context. -/
def State.setCtx (s : State) (c : Nat) (f : CtxSt → CtxSt) : State :=
  { s with ctxs := s.ctxs.modify (fun _ => CtxSt.free) c f }
/-- The record in force for a context: firmware's own until START latches it (R203, R227, R254). -/
def CtxSt.inForce (x : CtxSt) : CtxRec := if recState x.record ≤ csIdle then x.record else x.live
/-- STATE of a context. -/
def State.ctxState (s : State) (c : Nat) : Nat := recState (s.ctx c).record
/-- Write STATE of a context. -/
def State.setCtxState (s : State) (c st : Nat) : State :=
  s.setCtx c (fun x => { x with record := recPut x.record 2 2 (setBitsOf (recF x.record 2 2) 0 4 st) })
/-- Write a field of a context's record. -/
def State.putRec (s : State) (c off wid v : Nat) : State := s.setCtx c (fun x => { x with record := recPut x.record off wid v })
/-- Change a context's registers. -/
def State.setRegs (s : State) (c : Nat) (f : Regs → Regs) : State := s.setCtx c (fun x => { x with regs := f x.regs })
/-- Change a context's collective state. -/
def State.setColl (s : State) (c : Nat) (f : Coll → Coll) : State := s.setCtx c (fun x => { x with coll := f x.coll })
/-- Set why a context's thread does not issue. -/
def State.setWait (s : State) (c : Nat) (w : Wait) : State := s.setRegs c (fun r => { r with wait := w })
/-- Whether a context has a collective descriptor (R269): a DESC_BASE of 0 names none (DESIGN CHOICE, log 7). -/
def State.hasColl (s : State) (c : Nat) : Bool := (s.ctx c).coll.desc.len ≠ 0

/-- Set flags in a context's NFLAGS (R196): sticky. -/
def State.setFlags (s : State) (c fl : Nat) : State :=
  if fl = 0 then s else s.setRegs c (fun r => { r with nflags := r.nflags ||| fl })

/-! ## Registers of a context (R226) -/

/-- S register i: S0 reads 0. -/
def Regs.getS (r : Regs) (i : Nat) : Nat := if i = 0 then 0 else (r.s.get (fun _ => 0) i).toNat
/-- Write S register i: writes to S0 are discarded. -/
def Regs.setS (r : Regs) (i v : Nat) : Regs := if i = 0 then r else { r with s := r.s.set (fun _ => 0) i (BitVec.ofNat 32 v) }
/-- A register i. -/
def Regs.getA (r : Regs) (i : Nat) : Nat := (r.a.get (fun _ => 0) i).toNat
/-- Write A register i, modulo 2^40. -/
def Regs.setA (r : Regs) (i v : Nat) : Regs := { r with a := r.a.set (fun _ => 0) i (BitVec.ofNat 40 v) }
/-- ASTR register i. -/
def Regs.getStr (r : Regs) (i : Nat) : BitVec 32 := r.astr.get (fun _ => 0) i
/-- Write ASTR register i. -/
def Regs.setStr (r : Regs) (i v : Nat) : Regs := { r with astr := r.astr.set (fun _ => 0) i (BitVec.ofNat 32 v) }
/-- V register i. -/
def Regs.getV (r : Regs) (i : Nat) : Nat := (r.v.get (fun _ => 0) i).toNat
/-- Write V register i. -/
def Regs.setV (r : Regs) (i v : Nat) : Regs := { r with v := r.v.set (fun _ => 0) i (BitVec.ofNat 8192 v) }
/-- K register i: K0 reads all ones. -/
def Regs.getK (r : Regs) (i : Nat) : Nat := if i = 0 then 2 ^ 256 - 1 else (r.k.get (fun _ => 0) i).toNat
/-- Write K register i: writes to K0 are discarded. -/
def Regs.setK (r : Regs) (i v : Nat) : Regs := if i = 0 then r else { r with k := r.k.set (fun _ => 0) i (BitVec.ofNat 256 v) }
/-- Lane j of L register i. -/
def Regs.getL (r : Regs) (i j : Nat) : LAcc := r.acc.get (fun _ => LAcc.cleared) (256 * i + j)
/-- Write lane j of L register i. -/
def Regs.setL (r : Regs) (i j : Nat) (a : LAcc) : Regs := { r with acc := r.acc.set (fun _ => LAcc.cleared) (256 * i + j) a }
/-- Lane j of a V register's bits. -/
def vLane (v j : Nat) : Nat := bitsOf v (32 * j) 32

/-! ## Lathes, residency and capacity (R199, R200, R216) -/

/-- A lathe. -/
def State.lathe (s : State) (k : Nat) : LatheSt := s.lathes.get (fun _ => LatheSt.fresh) k
/-- Change a lathe. -/
def State.setLathe (s : State) (k : Nat) (f : LatheSt → LatheSt) : State :=
  { s with lathes := s.lathes.modify (fun _ => LatheSt.fresh) k f }
/-- ROLE of lathe k. -/
def State.role (s : State) (k : Nat) : Nat := s.fld (ltStat k) F.LtStat.role
/-- Whether a lathe may hold contexts: ENABLED or SPARE_IN_SERVICE, and its domain in service (R47, R216). -/
def State.latheServes (s : State) (k : Nat) : Bool := (s.role k = 0 || s.role k = 2) && s.domState (domLathe k) = 2
/-- LOGICAL of lathe k. -/
def State.logical (s : State) (k : Nat) : Nat := s.fld (ltStat k) F.LtStat.logical
/-- The lathe that serves a logical number. -/
def State.latheOf (s : State) (n : Nat) : Option Nat :=
  (List.range 120).find? (fun k => s.latheServes k && s.logical k = n)
/-- The requester identifier of lathe k (R144). -/
def latheReq (k : Nat) : Nat := 0x400 + k
/-- The half of lathe k. -/
def latheHalf (k : Nat) : Nat := k / 60

/-- The pages of a record's register area (R200). -/
def regPages (r : CtxRec) : Nat := 1 + 2 * recV r + 3 * recL r
/-- The pages of a record's windows of one SPACE. -/
def winPages (r : CtxRec) (sp : Nat) : Nat :=
  ((List.range 8).map (fun w => if winSpace (recWin r w) = sp then winLimit (recWin r w) / 4096 else 0)).foldl (· + ·) 0
/-- The lathe-store pages of a context. -/
def storePages (r : CtxRec) : Nat := regPages r + winPages r 1
/-- The instruction-store blocks of a program. -/
def progBlocks (r : CtxRec) : Nat := (recProgLen r + 255) / 256

/-- The sum of a resource over a lathe's resident contexts. -/
def State.latheUse (s : State) (k : Nat) (f : CtxRec → Nat) : Nat :=
  ((s.residents k).map (fun c => f (s.ctx c).live)).foldl (· + ·) 0
/-- The free lathe-store pages of lathe k. -/
def State.freePages (s : State) (k : Nat) : Nat := 400 - s.latheUse k storePages
/-- Whether a context with record r fits on lathe k beside its residents (R199, R247). -/
def State.fitsLathe (s : State) (k : Nat) (r : CtxRec) : Bool :=
  decide (s.latheUse k storePages + storePages r ≤ 400) && decide (s.latheUse k (fun r => winPages r 2) + winPages r 2 ≤ 16)
    && decide (s.latheUse k progBlocks + progBlocks r ≤ 512) && decide ((s.residents k).length < 16)

/-- The pages of a store. -/
def spacePages (sp : Nat) : Nat := if sp = 1 then 400 else 16

/-- The page ranges (first, count) that windows of one SPACE of a lathe's residents take, but for window w and those after it of the
context that is being placed. -/
def State.placedPages (s : State) (k c w sp : Nat) : List (Nat × Nat) :=
  (s.residents k).flatMap (fun i => (List.range (if i = c then w else 8)).filterMap (fun v =>
    let e := recWin (s.ctx i).live v
    if winLimit e ≠ 0 && winSpace e = sp then some (winBase e / 4096, winLimit e / 4096) else none))

/-- The first page of the lowest run of n pages of a store of lathe k that no window takes: page 0 where the free pages do not lie
together (DESIGN CHOICE, log 3). -/
def State.placePage (s : State) (k c w sp n : Nat) : Nat :=
  let taken := s.placedPages k c w sp
  ((List.range (spacePages sp + 1 - n)).find? (fun b =>
    taken.all (fun t => decide (b + n ≤ t.1) || decide (t.1 + t.2 ≤ b)))).getD 0

/-- The BASE fields of the lathe-store and chuck-data windows as the part writes them (R201, R219): the spec does not say which pages
it takes (DESIGN CHOICE, log 3). -/
def State.placeWindows (s : State) (k c : Nat) : State :=
  (List.range 8).foldl (fun s w =>
    let e := recWin (s.ctx c).live w
    if winLimit e ≠ 0 && (winSpace e = 1 || winSpace e = 2) then
      let b := s.placePage k c w (winSpace e) (winLimit e / 4096) * 4096
      s.setCtx c (fun x => { x with
        record := recPut x.record (80 + 16 * w) 6 b, live := recPut x.live (80 + 16 * w) 6 b })
    else s) s

/-- The footprint of a context in bytes (R203). -/
def footprint (r : CtxRec) : Nat := 4096 * (regPages r + winPages r 1 + winPages r 2)

/-- The windows of a record that a save copies, each with its place behind the register area (R219): one after another in ascending
number (DESIGN CHOICE, log 53). -/
def savedWindows (r : CtxRec) : List (Nat × Nat) :=
  ((List.range 8).foldl (fun (a : List (Nat × Nat) × Nat) w =>
    let e := recWin r w
    if winLimit e ≠ 0 && (winSpace e = 1 || winSpace e = 2) then (a.1 ++ [(w, a.2)], a.2 + winLimit e) else a)
    ([], 4096 * regPages r)).1

/-! ## Slots and the arbiter (R205 to R211, R329) -/

/-- The slot in which a context stands on lathe k this turn. -/
def State.slotOf (s : State) (k c : Nat) : Option Nat :=
  (List.range 16).find? (fun i => s.fld (ltSlot k i) F.LtSlot.validNow = 1 && s.fld (ltSlot k i) F.LtSlot.ctxNow = c)

/-- A job as the part holds it. -/
def State.job (s : State) (j : Nat) : JobSt := s.jobs.jobs.get (fun _ => JobSt.none_) j
/-- Change a job. -/
def State.setJob (s : State) (j : Nat) (f : JobSt → JobSt) : State :=
  { s with jobs := { s.jobs with jobs := s.jobs.jobs.modify (fun _ => JobSt.none_) j f } }
/-- Q_SLOT of a job, in ticks. -/
def State.qSlot (s : State) (j : Nat) : Nat := 1024 * (s.job j).rec_.le 56 4
/-- Whether a job is at its slot-time quota this turn. -/
def State.slotSpent (s : State) (j : Nat) : Bool := (s.job j).slotOver || decide (s.qSlot j ≤ (s.job j).slotTicks)

/-- Whether a context's request may stand in the pending queue: it has a slot, and its job has slot-time left. -/
def State.mayHold (s : State) (k c : Nat) : Bool := (s.slotOf k c).isSome && !s.slotSpent (recJob (s.ctx c).live)

/-- Charge the holder's ticks since the last charge: its slot, its record and its job (R203, R220, R329). -/
def State.chargeGrant (s : State) (k : Nat) : State :=
  match (s.lathe k).holder with
  | none => s
  | some c =>
    let d := s.tb.tick - (s.lathe k).granted
    let s := s.setLathe k (fun l => { l with granted := s.tb.tick })
    let s := match s.slotOf k c with
      | some i => s.countBy (ltSlot k i) F.LtSlot.grantTicks d
      | none => s
    let s := s.putRec c 488 8 (recF (s.ctx c).record 488 8 + d)
    let j := recJob (s.ctx c).live
    let was := s.slotSpent j
    let s := s.setJob j (fun x => { x with slotTicks := x.slotTicks + d })
    if !was && s.slotSpent j then (s.setJob j (fun x => { x with slotOver := true })).count (R.svJobHit j) F.SvJobHit.slotHit
    else s

/-- The pending request of the highest slot. -/
def State.bestPending (s : State) (k : Nat) : Option (Nat × Nat) :=
  (s.lathe k).pending.foldl (fun best c =>
    if s.mayHold k c then
      match s.slotOf k c, best with
      | some i, some (b, _) => if b < i then some (i, c) else best
      | some i, none => some (i, c)
      | none, _ => best
    else best) none

/-- Grant the pipeline to the best pending request, if nobody holds it and the lathe is in service. -/
def State.grantNext (s : State) (k : Nat) : State :=
  if (s.lathe k).holder.isSome || !s.latheServes k then s
  else match s.bestPending k with
    | none => s
    | some (_, c) =>
      let s := s.setLathe k (fun l => { l with
        holder := some c, pending := l.pending.erase c, since := s.tb.tick, granted := s.tb.tick })
      if (s.ctx c).regs.wait = .grant then s.setWait c .ready else s

/-- The holder gives up the grant. -/
def State.dropGrant (s : State) (k : Nat) : State :=
  (s.chargeGrant k).setLathe k (fun l => { l with holder := none })

/-- A context asks for the pipeline: at most one request each (R206). -/
def State.requestPipe (s : State) (k c : Nat) : State :=
  let l := s.lathe k
  if l.holder = some c || l.pending.contains c then s
  else (s.setLathe k (fun l => { l with pending := l.pending ++ [c] })).grantNext k

/-- Remove a context from its lathe's arbiter: its request, and the grant if it holds it (R211, R260). -/
def State.leavePipe (s : State) (k c : Nat) : State :=
  let s := s.setLathe k (fun l => { l with pending := l.pending.erase c })
  if (s.lathe k).holder = some c then (s.dropGrant k).grantNext k else s

/-- What the holder does next, as the arbiter sees it at a grain boundary. -/
inductive Next where
  /-- Its next bundle or grain uses the pipeline. -/
  | pipe
  /-- It waits for an arrival. -/
  | arrival
  /-- Its next bundle does not use the pipeline, or it waits for an ALLOC. -/
  | leave
  deriving DecidableEq, Repr

/-- A grain boundary of the holder of lathe k (R206 to R208): its watchdog starts again; the grant passes when the holder
leaves, when a higher slot is pending, when its slot or its slot-time is gone, or, while it waits for an arrival, also when
anything is pending. -/
def State.boundary (s : State) (k : Nat) (n : Next) : State :=
  match (s.lathe k).holder with
  | none => s.grantNext k
  | some c =>
    let s := (s.chargeGrant k).setLathe k (fun l => { l with since := s.tb.tick })
    match n with
    | .leave => (s.dropGrant k).grantNext k
    | .arrival =>
      if (s.bestPending k).isSome || !s.mayHold k c then (s.dropGrant k).grantNext k else s
    | .pipe =>
      let yields : Bool := match s.slotOf k c, s.bestPending k with
        | none, _ => true
        | some i, some (b, _) => decide (i < b) || !s.mayHold k c
        | some _, none => !s.mayHold k c
      if yields then
        let s := (s.dropGrant k).count (R.ltWdogStat (k / 5) (k % 5)) F.LtWdogStat.revokes
        let s := s.setLathe k (fun l => { l with pending := l.pending ++ [c] })
        let s := if (s.ctx c).regs.wait = .ready then s.setWait c .grant else s
        s.grantNext k
      else s

/-! ## Parting fences (R30, R331, R332) -/

/-- The FENCE_STAT register of a die, where it has one. -/
def fenceStat (d : Nat) : Option Nat :=
  if d < 32 then some (dieBase d + 0xFF00)
  else if d < 56 then some (dieBase d + 0x1FF00)
  else if d < 84 then some (dieBase d + 0xFF00)
  else none

/-- The partition whose share of a tier holds an address. -/
def Plane.partOfAddr (p : Plane) (tier a : Nat) : Option Nat :=
  (List.range 16).find? (fun q => p.partDefined q && decide (p.shareBase q tier ≤ a)
    && decide (a < p.shareBase q tier + p.shareLen q tier))

/-- The tier and address that a transfer names. -/
def xferAddr : XferOp → Option (Nat × Nat)
  | .read t a _ => some (t, a)
  | .write t a _ => some (t, a)
  | _ => none

/-- A transfer is dropped at the fence of a die (R331, R332): the partition it carries, its issuing die, the kind of its target, its
address and its stamp are counted, with a record. -/
def State.fenceDropOf (s : State) (d part src kind addr stamp : Nat) : State :=
  let s := match fenceStat d with
    | some r =>
      let s := s.count r F.PtdFenceStat.drops
      let s := s.setFld r F.PtdFenceStat.lastPart part
      let s := s.setFld r F.PtdFenceStat.lastDie src
      let s := s.setFld r F.PtdFenceStat.lastKind kind
      s.setFld r F.PtdFenceStat.stampLo stamp
    | none => s
  s.raise { plainRec 0x0F 0 2 d stamp with part := part % 32, addr := addr }

/-- A transfer is dropped at the fence of a die. -/
def State.fenceDrop (s : State) (d : Nat) (x : Xfer) : State :=
  s.fenceDropOf d x.part x.src x.kind (((xferAddr x.op).map Prod.snd).getD 0) (causedStamp (s.dieNow d) x.carried)

/-- The tier (0 near, 1 far) of a window's SPACE. -/
def winTier (w : Nat) : Nat := winSpace w - 3

/-- Whether the fence of the die it reaches passes an access of a context to a tier (R202, R331): to its own partition's share, while
that partition is not resetting (R388). -/
def State.tierPasses (s : State) (c tier a n : Nat) : Bool :=
  let p := recPart (s.ctx c).live
  let q := (s.planeOn (s.tierDie tier a)).partOfAddr tier
  decide (q a = some p) && (decide (n = 0) || decide (q (a + n - 1) = some p)) && !s.partBusy p

/-- An access of a context to a tier is dropped at the fence. -/
def State.tierDrop (s : State) (c tier a : Nat) : State :=
  s.fenceDropOf (s.tierDie tier a) (recPart (s.ctx c).live) (dLathe (s.ctx c).home) 4 a (s.dieNow (dLathe (s.ctx c).home))

/-! ## Windows (R201, R202) -/

/-- Whether an access of n bytes at offset o passes the check of R202. -/
def winPasses (w o n : Nat) (wr : Bool) : Bool :=
  winLimit w ≠ 0 && o + n ≤ winLimit w && (if wr then winWr w else winRd w)

/-- The key of a byte of a lathe-store or chuck-data window. -/
def winKey (w o : Nat) : Nat := w * 2 ^ 40 + o

/-- Read n bytes at offset o of window w of a context. -/
def State.winRead (s : State) (c w o n : Nat) : Nat :=
  let e := recWin (s.ctx c).live w
  match winSpace e with
  | 3 => memRead s.near (winBase e + o) n
  | 4 => memRead s.far (winBase e + o) n
  | _ => memRead (s.ctx c).mem (winKey w o) n

/-- Whether a read touches a burred word or sector (R382). -/
def State.winBurred (s : State) (c w o n : Nat) : Bool :=
  let e := recWin (s.ctx c).live w
  match winSpace e with
  | 3 => s.tierBurred 0 (winBase e + o) n
  | 4 => s.tierBurred 1 (winBase e + o) n
  | _ => (s.ctx c).burr.any (fun b => b.2 && decide (winKey w o / 8 ≤ b.1) && decide (8 * b.1 < winKey w o + n))

/-- Whether an access through a window passes the fence; one to a store of the lathe meets none. -/
def State.winReaches (s : State) (c w o n : Nat) : Bool :=
  let e := recWin (s.ctx c).live w
  decide (winSpace e ≠ 3 ∧ winSpace e ≠ 4) || s.tierPasses c (winTier e) (winBase e + o) n

/-- An access through a window that the fence drops: counted, and nothing returns (R331). -/
def State.winDrop (s : State) (c w o : Nat) : State :=
  let e := recWin (s.ctx c).live w
  s.tierDrop c (winTier e) (winBase e + o)

/-- Write n bytes at offset o of window w of a context; a write that the fence drops changes nothing (R202, R331). -/
def State.winWrite (s : State) (c w o n v : Nat) : State :=
  let e := recWin (s.ctx c).live w
  match winSpace e with
  | 3 => if s.winReaches c w o n then s.nearWrite (winBase e + o) ⟨n, v⟩ else s.winDrop c w o
  | 4 => if s.winReaches c w o n then s.farWrite (winBase e + o) ⟨n, v⟩ else s.winDrop c w o
  | _ => s.setCtx c (fun x => { x with
      mem := memWrite x.mem (winKey w o) n v
      burr := x.burr.filter (fun b => !(decide (winKey w o ≤ 8 * b.1) && decide (8 * b.1 + 8 ≤ winKey w o + n))) })

/-- Where a register lies in the register area (R200; DESIGN CHOICE, log 53): the page of the scalar and mask registers first, then the V
registers, then the L registers. -/
def areaOff (r : CtxRec) (i : Nat) : Nat :=
  if i < 32 then 4096 + 1024 * i else if i < 36 then 4096 + 8192 * recV r + 12288 * (i - 32) else 0

/-- The register that lies at an offset of the register area. -/
def areaReg (r : CtxRec) (o : Nat) : Nat :=
  if o < 4096 then 36 else if o < 4096 + 8192 * recV r then (o - 4096) / 1024 else 32 + (o - 4096 - 8192 * recV r) / 12288

/-- Copy a context's register area and its lathe-store and chuck-data windows to SAVE_BASE, the burrs of their words with them
(R218, R219, R382). -/
def State.saveArea (s : State) (c : Nat) : State :=
  let x := s.ctx c
  let base := recSaveBase x.live
  let (v, s) := s.free
  let area := 4096 * regPages x.live
  let s := s.nearWrite base ⟨area, Config.areaImage area v.toNat⟩
  (savedWindows x.live).foldl (fun s p =>
    let n := winLimit (recWin x.live p.1)
    let s := s.nearWrite (base + p.2) ⟨n, memRead x.mem (winKey p.1 0) n⟩
    (x.burr.filter (fun b => b.2 && decide (8 * b.1 / 2 ^ 40 = p.1))).foldl (fun s b =>
      s.tierBurr 0 (base + p.2 + 8 * b.1 % 2 ^ 40)) s)
    (x.areaBurr.foldl (fun (s : State) i => s.tierBurr 0 (base + areaOff x.live i)) s)

/-- Restore a context's register area and windows from SAVE_BASE: a sector that reads back burred makes its words burred (R219, R382). -/
def State.loadArea (s : State) (c : Nat) : State :=
  let x := s.ctx c
  let base := recSaveBase x.live
  let ws := savedWindows x.live
  let mem := ws.foldl (fun m p =>
    let n := winLimit (recWin x.live p.1)
    memWrite m (winKey p.1 0) n (s.nearRead (base + p.2) n).val) []
  let burr := ws.flatMap (fun p =>
    ((s.nearBurr.map Prod.fst).filter (fun q => s.nearBurr.get (fun _ => false) q && decide (base + p.2 ≤ 32 * q)
      && decide (32 * q < base + p.2 + winLimit (recWin x.live p.1)))).flatMap (fun q =>
        (List.range 4).map (fun i => ((winKey p.1 (32 * q - (base + p.2))) / 8 + i, true))))
  let regs := (List.range (128 * regPages x.live)).filter (fun q => s.tierBurred 0 (base + 32 * q) 32)
  s.setCtx c (fun y => { y with mem := mem, burr := burr, areaBurr := (regs.map (fun q => areaReg y.live (32 * q))).eraseDups })

/-- Whether window w of a context lies in the near or far tier, whose data arrives later (R209). -/
def State.winFar (s : State) (c w : Nat) : Bool := 3 ≤ winSpace (recWin (s.ctx c).live w)

/-- Clear BUSY of a lathe die's context commands. -/
def State.ltdIdle (s : State) (d : Nat) : State := s.setFld (R.ltdCtxStat d) F.LtdCtxStat.busy 0
/-- Write BUSY of a lathe. -/
def State.ltBusy (s : State) (k : Nat) (b : Bool) : State := s.setFld (ltStat k) F.LtStat.busy (b2n b)
/-- Refuse a command or a slot write of a lathe. -/
def State.ltRefuse (s : State) (k : Nat) : State := s.setFld (ltStat k) F.LtStat.cmdRefused 1

/-- A move is over: BUSY of the lathe that was commanded is cleared. -/
def State.endMove (s : State) (c : Nat) : State :=
  let s := match (s.ctx c).moveTo with
    | some b => s.ltBusy b false
    | none => s
  s.setCtx c (fun x => { x with move := .none, moveTo := none })

/-- What a context was being moved or loaded for is given up: it completed or faulted first (R260, R265). -/
def State.dropMove (s : State) (c : Nat) : State :=
  let s := match (s.ctx c).move with
    | .load _ => s.ltdIdle (s.ctx c).home
    | _ => s
  s.endMove c

/-! ## Job records (R323, R330) -/

/-- A job as die d knows it: in a half that the seam has cut off, as it stood at the cut (R368, R369). -/
def State.jobOn (s : State) (d j : Nat) : JobSt :=
  match s.jobs.frozen with
  | some (h, t) => if dieHalf d = h then t.get (fun _ => JobSt.none_) j else s.job j
  | none => s.job j

/-- The record of a job that is in force on die d at a stamp. -/
def State.jobRec (s : State) (d j stamp : Nat) : Blob :=
  let x := s.jobOn d j
  if stamp < x.changeTick then x.oldRec else x.rec_
/-- Extent i of a job record: tier code (1 near, 2 far), base, length. -/
def jobExt (b : Blob) (i : Nat) : Nat × Nat × Nat :=
  (bitsOf (b.byte (80 + 16 * i + 7)) 4 4, b.le (80 + 16 * i) 6, b.le (88 + 16 * i) 8)
/-- Whether a range of a tier (1 near, 2 far) lies wholly inside one extent of a job record. -/
def inExtent (b : Blob) (tier base len : Nat) : Bool :=
  (List.range 6).any (fun i =>
    let (t, eb, el) := jobExt b i
    decide (t = tier) && decide (eb ≤ base) && decide (base + len ≤ eb + el))
/-- RANK_COUNT of a job record. -/
def jobRanks (b : Blob) : Nat := b.le 4 4
/-- RANK_BASE of a job record. -/
def jobRankBase (b : Blob) : Nat := b.le 8 8
/-- LEAF_KEY of a job record. -/
def jobLeafKey (b : Blob) : Nat := b.le 16 16
/-- The rank entry of a job's rank, as the near tier holds it (R130). -/
def State.rankEntry (s : State) (b : Blob) (rank : Nat) : Nat := memRead s.near (jobRankBase b + 8 * rank) 8
/-- VALID of a rank entry. -/
def reValid (e : Nat) : Bool := bitOf e 63
/-- REMOTE of a rank entry. -/
def reRemote (e : Nat) : Bool := bitOf e 62
/-- PORT of a rank entry. -/
def rePort (e : Nat) : Nat := bitsOf e 52 10
/-- UPGRP of a rank entry. -/
def reGroup (e : Nat) : Nat := bitsOf e 44 8
/-- EPID of a rank entry. -/
def reEpid (e : Nat) : Nat := bitsOf e 0 24

/-- Whether every near-tier and far-tier window of a record lies inside one extent of its job (R330). -/
def State.windowsAllowed (s : State) (r : CtxRec) : Bool :=
  (List.range 8).all (fun w =>
    let e := recWin r w
    if winLimit e = 0 then true
    else match winSpace e with
      | 3 => inExtent (s.job (recJob r)).rec_ 1 (winBase e) (winLimit e)
      | 4 => inExtent (s.job (recJob r)).rec_ 2 (winBase e) (winLimit e)
      | _ => true)

/-! ## Ports as the rest of the part sees them (R104, R108) -/

/-- The KIND bits of a peer identity: 1 an endpoint, 2 another part (R104). -/
def peerKind (identity : Nat) : Nat := bitsOf identity 62 2
/-- Whether a port faces another part. -/
def State.facesPart (s : State) (p : Nat) : Bool := peerKind (s.port p).identity = 2
/-- Whether a port has Ethernet personality in the active plane. -/
def State.isEthernet (s : State) (p : Nat) : Bool := (s.planeOn (p / 32)).personality (p / 32) (p % 32) = 1

/-! ## Packets that the part generates (R278) -/

/-- The fields of a generated data header. -/
structure GenHdr where
  tc : Nat
  job : Nat
  dst : Nat
  src : Nat
  seq : Nat
  ctx : Nat
  opcode : Nat
  lastLen : Nat
  sparse : Bool
  burr : Bool
  last : Bool
  paced : Bool
  base : Nat
  segment : Nat
  deriving DecidableEq, Repr

/-- A generated data header of one grain, with FLOW 0xFFF and HOPS 8. -/
def GenHdr.bits (g : GenHdr) : Nat :=
  hdrSeal true (1 * 2 ^ 252 + 1 * 2 ^ 251 + (g.tc % 8) * 2 ^ 248 + (g.job % 65536) * 2 ^ 232 + (g.dst % 2 ^ 20) * 2 ^ 212
    + (g.src % 2 ^ 20) * 2 ^ 192 + 0xFFF * 2 ^ 180 + (g.seq % 2 ^ 24) * 2 ^ 156 + (g.ctx % 16384) * 2 ^ 142
    + (g.opcode % 256) * 2 ^ 134 + 1 * 2 ^ 128 + (g.lastLen % 256) * 2 ^ 120 + b2n g.sparse * 2 ^ 119
    + b2n g.burr * 2 ^ 118 + b2n g.last * 2 ^ 117 + b2n g.paced * 2 ^ 115 + (g.base % 2 ^ 24) * 2 ^ 72
    + (g.segment % 64) * 2 ^ 66 + 8 * 2 ^ 40)

/-- A control header of TC6 (R123) with its payload's CRC. -/
def ctlHdr (job dst src opcode ctx : Nat) (payload : Nat) : Nat :=
  hdrSeal false (1 * 2 ^ 124 + 6 * 2 ^ 120 + (job % 65536) * 2 ^ 104 + (dst % 2 ^ 20) * 2 ^ 84 + (src % 2 ^ 20) * 2 ^ 64
    + (opcode % 256) * 2 ^ 56 + 8 * 2 ^ 48 + (ctx % 16384) * 2 ^ 34 + crc16 (beBytes 48 payload) * 2 ^ 16)

/-- Put a generated packet, whose grains it already holds, into its port's queue: dropped as flushed where the port's queues do not stand
(R153); it waits while its half has no free descriptor (R156). -/
def State.linkHeld (s : State) (p : Pkt) : State :=
  let q := qKey p.outPort p.tc
  if !s.portQueues p.outPort then
    ((s.captureDrop p 6 0 (some q)).unrefAll p.grains).count (qdropReg q) F.BchQdrop.flush
  else if s.descFree (portHalf p.outPort) = 0 then s.withBench (fun b => { b with descWait := b.descWait ++ [p] })
  else
    let s := s.setQueue q (s.queue q ++ [{ p with uid := s.bench.nextUid }])
    s.withBench (fun b => { b with nextUid := b.nextUid + 1 })

/-- Link a generated packet into its port's queue, which then holds a reference to its grains (R153, R156). -/
def State.linkGenerated (s : State) (p : Pkt) : State :=
  let q := qKey p.outPort p.tc
  if !s.portQueues p.outPort then (s.captureDrop p 6 0 (some q)).count (qdropReg q) F.BchQdrop.flush
  else (p.grains.foldl State.linkGrain s).linkHeld p

/-- Results that wait for a descriptor are linked, in order, as far as there are any (R156). -/
def State.linkWaiting (s : State) : State :=
  s.bench.descWait.foldl (fun (s : State) p => s.linkHeld p) (s.withBench (fun b => { b with descWait := [] }))

/-- A generated packet as a descriptor. -/
def genPkt (data : Bool) (hdr payload stamp port tc job : Nat) (grains : List Nat) (epid : Option Nat) (c : Nat) : Pkt :=
  { uid := 0, data := data, hdr := hdr, payload := payload, stamp := stamp, inPort := port, outPort := port, tc := tc,
    job := job, grains := grains, arrived := grains.length, epid := epid, unordered := false, heldTick := stamp,
    began := false, linkTick := stamp, spillAt := none, fromPart := true, ctx := some c, burred := false, limit := none }

/-! ## Error records of contexts (R260, R263, R376) -/

/-- The error record of a context's event on lathe k. -/
def State.ctxRec (s : State) (c k source step sev detail addr : Nat) : ErrRec :=
  { source := source, step := step, sev := sev, die := dLathe (k / 5), part := recPart (s.ctx c).record,
    job := some (recJob (s.ctx c).record), ctx := some c, stamp := s.dieNow (dLathe (k / 5)), addr := addr, rep := 0,
    detail := detail, unit := k % 5 }

/-- A counter of LTD_COLL_STAT of a context's home die (R287). -/
def State.collCount (s : State) (c : Nat) (f : Fld) : State := s.count (R.ltdCollStat (s.ctx c).home) f

end Sys2Proof.Machine
end

