-- ==== Sys2Proof/Machine/Collective.lean ====
section
/-! DEFINITION. The collective layer: descriptors and their checks, generated grains, the end of a call, and the fault
of a context, which ends its call (R260, R261, R266 to R286, R313 to R317). -/

namespace Sys2Proof.Machine

/-! ## The descriptor (R267, R268, R270) -/

/-- PROGRAM. -/
def dProgram (d : Blob) : Nat := d.byte 0
/-- NARROW_OK. -/
def dNarrowOk (d : Blob) : Bool := bitOf (d.byte 1) 0
/-- DIGEST. -/
def dDigest (d : Blob) : Bool := bitOf (d.byte 1) 1
/-- RESULT_TC. -/
def dTc (d : Blob) : Nat := d.byte 2
/-- SEGMENTS. -/
def dSegments (d : Blob) : Nat := d.byte 3
/-- MEMBERS. -/
def dMembers (d : Blob) : Nat := d.le 4 2
/-- CHILDREN. -/
def dChildren (d : Blob) : Nat := d.le 6 2
/-- ROOT. -/
def dRoot (d : Blob) : Nat := d.le 8 2
/-- TREE. -/
def dTree (d : Blob) : Nat := d.byte 10
/-- CARRY_FMT. -/
def dCarryFmt (d : Blob) : Nat := d.byte 11
/-- NARROW_FMT. -/
def dNarrowFmt (d : Blob) : Nat := d.byte 12
/-- CHILD_FMT. -/
def dChildFmt (d : Blob) : Nat := d.byte 13
/-- IN_K. -/
def dInK (d : Blob) : Int := signedOf (d.byte 14) 8
/-- INIT_K. -/
def dInitK (d : Blob) : Int := signedOf (d.byte 15) 8
/-- PARENT_PORT. -/
def dParentPort (d : Blob) : Nat := d.le 16 2
/-- PARENT_CTX. -/
def dParentCtx (d : Blob) : Nat := d.le 18 2
/-- CHILD_NO. -/
def dChildNo (d : Blob) : Nat := d.le 20 2
/-- COMP_DEPTH: 0 means 256. -/
def dCompDepth (d : Blob) : Nat := if d.byte 22 = 0 then 256 else d.byte 22
/-- TIMEOUT_US. -/
def dTimeout (d : Blob) : Nat := d.le 24 4
/-- COMP_BASE. -/
def dCompBase (d : Blob) : Nat := d.le 32 8
/-- VOTE_BASE. -/
def dVoteBase (d : Blob) : Nat := d.le 40 8
/-- The number of entries. -/
def dEntries (d : Blob) : Nat := dMembers d + dChildren d
/-- Entry i. -/
def dEntry (d : Blob) (i : Nat) : Nat := d.le (64 + 8 * i) 8
/-- KIND of an entry: a child. -/
def eChild (e : Nat) : Bool := bitOf e 62
/-- NOTIFY. -/
def eNotify (e : Nat) : Bool := bitOf e 61
/-- RESULT. -/
def eResult (e : Nat) : Bool := bitOf e 60
/-- LATHE_IDX. -/
def eLathe (e : Nat) : Nat := bitsOf e 56 4
/-- ID. -/
def eId (e : Nat) : Nat := bitsOf e 32 20
/-- PORT. -/
def ePort (e : Nat) : Nat := bitsOf e 22 10
/-- CHILD_CTX. -/
def eCtx (e : Nat) : Nat := bitsOf e 8 14

/-- The program codes of R266. -/
def pgAllgather : Nat := 4
/-- BCAST. -/
def pgBcast : Nat := 5
/-- BARRIER. -/
def pgBarrier : Nat := 6
/-- DIGEST_VOTE. -/
def pgVote : Nat := 7

/-- OP of segment s. -/
def segOp (r : CtxRec) (s : Nat) : Nat := bitsOf (recP r s) 28 4
/-- IN_FMT of segment s. -/
def segIn (r : CtxRec) (s : Nat) : Nat := bitsOf (recP r s) 24 4
/-- OUT_FMT of segment s. -/
def segOut (r : CtxRec) (s : Nat) : Nat := bitsOf (recP r s) 20 4
/-- GRAINS of segment s. -/
def segGrains (r : CtxRec) (s : Nat) : Nat := bitsOf (recP r s) 0 20
/-- ARG16 of segment s of GATHER_POOL, SORT_MERGE and FILTER (R306). -/
def segArg16 (r : CtxRec) (s : Nat) : Nat := recP r (16 + 2 * s) % 65536
/-- Whether segment s of GATHER_POOL is a scatter (R306). -/
def segScatter (r : CtxRec) (s : Nat) : Bool := bitOf (recP r (16 + 2 * s)) 31
/-- ARG32 of segment s (R306). -/
def segArg32 (r : CtxRec) (s : Nat) : Nat := recP r (17 + 2 * s)

/-- The elements of segment s: GRAINS grains of OUT_FMT (DEDUCED, log 9). -/
def segElems (r : CtxRec) (s : Nat) : Nat := segGrains r s * fmtElems (segOut r s)
/-- The grains that n elements take in a format. -/
def grainsFor (fmt n : Nat) : Nat := (n + fmtElems fmt - 1) / fmtElems fmt

/-- The levels and carry formats of a job's template (R63, R82): as they stood at its admission. -/
def treeLevelsOf (trees : Blob) (t : Nat) : Nat := trees.byte (16 + 8 * t)
/-- The format carried out of level k. -/
def treeCarryOf (trees : Blob) (t k : Nat) : Nat := trees.byte (16 + 8 * t + 1 + k)

/-- Whether the entries are as R267 and R268 require. -/
def entriesOk (d : Blob) (ranks partners : Nat) (portOk : Nat → Bool) : Bool :=
  (List.range (dEntries d)).all (fun i =>
    let e := dEntry d i
    let child : Bool := decide (dMembers d ≤ i)
    bitOf e 63 && eChild e == child && decide (bitsOf e 52 4 = 0) && decide (bitsOf e 0 8 = 0) && decide (eLathe e ≤ partners)
      && (if child then decide (ePort e = 0x3FF) || portOk (ePort e)
          else decide (ePort e = 0) && decide (eCtx e = 0) && decide (eId e < ranks))
      && (if i = 0 || i = dMembers d then true else decide (eId (dEntry d (i - 1)) < eId e)))

/-- The operator and formats that a program's stream instruction accepts (R240, R266, R299). -/
def segFormsOk (pg op i o : Nat) (scatter : Bool) : Bool :=
  if pg = 0 || pg = 6 || pg = 7 then decide (op ≤ 6) && decide (i ≤ 8) && decide (o ≤ 8)
  else if pg ≤ 3 then decide (op ≤ 6) && decide (i ≤ 6) && decide (o ≤ 6) && (decide (op < 4) || decide (i = o))
  else if pg = 8 && !scatter then decide (op ≤ 2) && decide (i ≤ 6) && decide (o ≤ 6)
  else if pg = 9 then decide (op ≤ 2) && decide (i ≤ 8) && decide (o = i)
  else decide (op = 0) && decide (i ≤ 8) && decide (o = i)

/-- Whether the segment table is as R236, R240, R266, R270 and R306 require. -/
def segmentsOk (r : CtxRec) (d : Blob) (ranks : Nat) : Bool :=
  let n := dSegments d
  let pg := dProgram d
  decide (1 ≤ n) && decide (n ≤ (if 8 ≤ pg then 16 else 64))
    && (List.range n).all (fun s =>
      segFormsOk pg (segOp r s) (segIn r s) (segOut r s) (segScatter r s) && decide (1 ≤ segGrains r s)
        && (pg ≠ 3 || segGrains r s % ranks = 0) && (pg ≠ 4 || ranks * segGrains r s ≤ 2 ^ 22))
    && decide (((List.range n).map (segGrains r)).foldl (· + ·) 0 ≤ 2 ^ 22)

/-- The checks of R271 on a context's descriptor, member table, segment table and program. -/
def State.descOk (s : State) (c : Nat) (r : CtxRec) (d : Blob) (major : Nat) : Bool :=
  let j := s.job (recJob r)
  let lv := treeLevelsOf j.trees (dTree d)
  let k := recLevel r
  let pg := dProgram d
  let inPart (p : Nat) : Bool := decide (s.portPart p = some (recPart r))
  decide (pg ≤ 10) && decide (d.byte 1 < 4) && (decide (dTc d ≤ 4) || decide (dTc d = 6))
    && decide (dMembers d ≤ 4095) && decide (1 ≤ dEntries d) && decide (dEntries d ≤ 4095)
    && (decide (dRoot d = 0xFFFF) || ((pg = 2 || pg = 5) && dRoot d < dMembers d))
    && decide (dTree d < j.trees.le 0 2) && decide (k < lv) && (recTop r == decide (k + 1 = lv))
    && decide (dCarryFmt d = if recTop r then 0xFF else treeCarryOf j.trees (dTree d) k)
    && decide (dChildFmt d = if dChildren d = 0 then 0xFF else treeCarryOf j.trees (dTree d) (k - 1))
    && (dChildren d = 0 || 1 ≤ k) && (dMembers d = 0 || k = 0)
    && [0, 1, 3, 4, 0xFF].contains (dNarrowFmt d)
    && (if recTop r then decide (dParentPort d = 0xFFFF)
        else decide (dParentPort d = 0x3FF) || (decide (dParentPort d < 0x3FF) && inPart (dParentPort d)))
    && decide (d.byte 23 = 0) && decide (dTimeout d ≤ 10000000) && decide (d.le 28 4 = 0) && decide (d.le 48 16 = 0)
    && decide (dCompBase d % 64 = 0) && (pg = pgVote || dVoteBase d = 0)
    && decide (recF r 509 1 = 0) && (!recHome r || recHomeCtx r = c)
    && entriesOk d (jobRanks j.rec_) (if recHome r then recPartners r else 15) inPart
    && segmentsOk r d (jobRanks j.rec_)
    && (pg ≠ 10 || lv = 1)
    && (pg = 0 || recDigest r = beBytes 32 (Config.stockDigest major pg).toNat)

/-! ## Formats, layouts and leaf hashes (R181, R288 to R297, R313, R314) -/

/-- The format of the grains that a contributor sends to a segment: IN_FMT from ranks, the children's carry format from
the children of a reduction; indices are UINT32. -/
def State.inFmt (s : State) (c seg kind : Nat) : Nat :=
  let x := s.ctx c
  let pg := dProgram x.coll.desc
  if kind = 0x11 && 1 ≤ pg && pg ≤ 3 then x.coll.childFmt
  else if pg = 8 && !segScatter x.live seg then 7
  else segIn x.live seg

/-- The field widths of a grain as they convert between the link and the bench, from byte 0 on (R181, R288, R296, R297,
R302): w the element width, records of PAIRS, scatter grains, a trailer, the group or quad count of a sparse grain. -/
def grainFields (w format count : Nat) (pairs scatter trailer : Bool) : List Nat :=
  let fill (used w : Nat) : List Nat := List.replicate ((256 - used) / w) w
  if trailer then 8 :: fill 8 w
  else if format = 1 then
    let n := min count 32
    let v := (8 + 4 * n + w - 1) / w * w
    [4, 1, 1, 1, 1] ++ List.replicate n 4 ++ List.replicate (v - (8 + 4 * n)) 1 ++ fill v w
  else if format = 2 then [4, 1, 1, 1, 1] ++ List.replicate 48 1 ++ fill 56 w
  else if pairs then fill 0 4
  else if scatter then [4, 2, 2] ++ fill 8 w
  else fill 0 w

/-- The bytes of a grain with each field turned round: the step between link order and bench order. -/
def turnFields : List Nat → List Nat → List Nat
  | [], bs => bs
  | w :: ws, bs => (bs.take w).reverse ++ turnFields ws (bs.drop w)

/-- A grain's 256 bytes turned between link order and bench order. -/
def turnGrain (fields : List Nat) (g : Nat) : Nat := (Blob.ofBytes (turnFields fields (Blob.mk 256 g).bytes)).val

/-- The layout code of a contribution grain of a context (R181): the records of a vote and the empty grain of a barrier are
opaque. -/
def State.notLay (s : State) (c seg kind : Nat) (last : Bool) : Nat :=
  let x := s.ctx c
  let pg := dProgram x.coll.desc
  let counted := pg = 9 || pg = 10
  if pg = pgBarrier || pg = pgVote then 0
  else fmtWidth (s.inFmt c seg kind) + 16 * b2n (counted && bitOf (segArg16 x.live seg) 15) + 32 * b2n (counted && last)
    + 64 * b2n (decide (pg = 8) && segScatter x.live seg) + 128 * b2n (decide (7 ≤ s.inFmt c seg kind))

/-- The layout code of a result grain of a context's segment (R181). -/
def State.resultLay (s : State) (c seg : Nat) (last : Bool) : Nat :=
  let x := s.ctx c
  let pg := dProgram x.coll.desc
  let counted := pg = 9 || pg = 10
  if pg = pgBarrier || pg = pgVote then 0
  else fmtWidth (segOut x.live seg) + 16 * b2n (counted && bitOf (segArg16 x.live seg) 15) + 32 * b2n (counted && last)
    + 128 * b2n (decide (7 ≤ segOut x.live seg))

/-- The fields of a grain from its layout code, FORMAT and count byte (R181). -/
def layFields (lay format count : Nat) : List Nat :=
  if lay = 0 then List.replicate 256 1
  else grainFields (lay % 16) (if bitOf lay 7 then 0 else format) count (bitOf lay 4) (bitOf lay 6) (bitOf lay 5)

/-- A grain's bytes in link order (R181). -/
def GrainSt.linkData (g : GrainSt) : Nat :=
  turnGrain (layFields g.lay (gwFormat g.word) ((Blob.mk 256 g.data.toNat).byte 4)) g.data.toNat

/-- The fields of a contribution grain of a context. -/
def State.notFields (s : State) (c seg kind format count : Nat) (last : Bool) : List Nat :=
  layFields (s.notLay c seg kind last) format count

/-- The prime of R313. -/
def leafP : Nat := 2 ^ 128 - 159

/-- The hash of R314 over its blocks. -/
def leafFold (key : Nat) (blocks : List Nat) : Nat :=
  blocks.foldl (fun h m => (h + m + 2 ^ 64) * (key % leafP) % leafP) 0

/-- A list of bytes as big-endian 8-byte blocks, padded with zeros. -/
def beBlocks : Nat → List Nat → List Nat
  | 0, _ => []
  | n + 1, bs =>
    ((bs.take 8 ++ List.replicate (8 - (bs.take 8).length) 0).foldl (fun a b => 256 * a + b) 0) :: beBlocks n (bs.drop 8)

/-- The leaf hash of one grain: its coordinates, then its valid bytes in link order (R314). -/
def leafHash (key index seg format len : Nat) (linkBytes : List Nat) : Nat :=
  leafFold key ((index % 2 ^ 22 * 2 ^ 42 + seg % 64 * 2 ^ 36 + format % 4 * 2 ^ 34 + len % 512 * 2 ^ 25)
    :: beBlocks ((len + 7) / 8) (linkBytes.take len))

/-! ## Generated grains (R278) -/

/-- Where a generated grain or event goes: a member entry (its index, rank, port, EPID), a child entry, the parent. -/
inductive Dest where
  | member (i rank port epid : Nat)
  | child (i no port ctx : Nat)
  | parent (port ctx no : Nat)
  deriving DecidableEq, Repr

/-- The number under which the sequence of a destination is kept. -/
def Dest.key : Dest → Nat
  | .member i _ _ _ => i
  | .child i _ _ _ => i
  | .parent _ _ _ => 4096

/-- The destination of entry i: a member's port is taken from the rank table; a member that is not on a port of this
part receives nothing (R268). -/
def State.destOf (s : State) (c i : Nat) : Option Dest :=
  let x := s.ctx c
  let e := dEntry x.coll.desc i
  if eChild e then some (.child i (eId e) (ePort e) (eCtx e))
  else
    let r := s.rankEntry (s.job (recJob x.live)).rec_ (eId e)
    if reValid r && !reRemote r then some (.member i (eId e) (rePort r) (reEpid r)) else none

/-- The parent as a destination. -/
def State.parentDest (s : State) (c : Nat) : Dest :=
  let d := (s.ctx c).coll.desc
  .parent (dParentPort d) (dParentCtx d) (dChildNo d)

/-- The destinations among the entries of a context that satisfy a condition. -/
def State.destsWhere (s : State) (c : Nat) (p : Nat → Nat → Bool) : List Dest :=
  let d := (s.ctx c).coll.desc
  (List.range (dEntries d)).filterMap (fun i => if p i (dEntry d i) then s.destOf c i else none)

/-- Where a result grain of segment seg goes downward (R266): RESULT members, and the children the program names; a
REDUCE_SCATTER grain at level 0 only to its owner; not the entry the grain came from. -/
def State.resultDests (s : State) (c seg g : Nat) (except_ : Option Nat) : List Dest :=
  let x := s.ctx c
  let d := x.coll.desc
  let pg := dProgram d
  let n := jobRanks (s.job (recJob x.live)).rec_
  s.destsWhere c (fun i e =>
    if eChild e then except_ ≠ some i && (pg ≠ 2 || eResult e)
    else eResult e && (pg ≠ 3 || g * n / segGrains x.live seg = eId e))

/-- Send one generated data packet of one grain to a destination: to a port's queue, or as an arrival to a context of
this part, which then shares the grain. CARRY goes up, ROWS from GATHER_POOL to its members, RESULT to all others (R266, R306). -/
def State.sendGrain (s : State) (c : Nat) (dst : Dest) (up paced : Bool) (seg index : Nat) (last : Bool)
    (ptr word len stamp : Nat) : State :=
  let x := s.ctx c
  let s := match x.phys with
    | some k => s.useInput 0 (dLathe (k / 5)) (k % 5)
    | none => s
  let d := x.coll.desc
  let base := (recCall x.record % 4) * 2 ^ 22 + index % 2 ^ 22
  let seq := x.coll.seqs.get (fun _ => 0) dst.key
  let s := s.setColl c (fun q => { q with seqs := q.seqs.set (fun _ => 0) dst.key ((seq + 1) % 2 ^ 24) })
  let lastLen := if len = 256 then 0 else len
  let hdr (dr sr cx op : Nat) : Nat :=
    GenHdr.bits ⟨dTc d, recJob x.live, dr, sr, seq, cx, op, lastLen, decide (gwFormat word ≠ 0), gwBurr word, last, paced, base, seg⟩
  let op := if up then 0x11 else if dProgram d = 8 && (match dst with | .member .. => true | _ => false) then 0x15 else 0x12
  let toPort (port : Nat) (h : Nat) (epid : Option Nat) : State :=
    s.linkGenerated (genPkt true h 0 stamp port (dTc d) (recJob x.live) [ptr] epid c)
  let toCtx (cx src : Nat) : State :=
    let y := s.ctx cx
    let g := s.grain ptr
    let h := leafHash (jobLeafKey (s.job (recJob y.live)).rec_) index seg (gwFormat word) len
      (Blob.mk 256 g.linkData).bytes
    let nt : Notice := ⟨op, 0, src, none, recCall x.record % 4, index % 2 ^ 22, seg, last, some ptr, word, len, h, stamp, 0, 0, none⟩
    (s.linkGrain ptr).setColl cx (fun q => { q with pend := q.pend ++ [nt] })
  match dst with
  | .member _ rank port epid => toPort port (hdr rank rank c op) (some epid)
  | .child _ no port cx => if port = 0x3FF then toCtx cx 0 else toPort port (hdr no 0 cx op) none
  | .parent port cx no => if port = 0x3FF then toCtx cx no else toPort port (hdr 0 no cx op) none

/-- Give up the reference that a HELD output grain has before it is linked: it becomes FREE when nothing linked it. -/
def State.settleGrain (s : State) (ptr : Nat) : State :=
  if (s.grain ptr).refs = 0 then s.freeGrain ptr else s

/-- Emit an output grain of a context's call on its result path (R266, R275, R278): up to the parent below the top, down
to the RESULT members and children at the top; ALLGATHER and BCAST do both. -/
def State.emitResult (s : State) (c seg index : Nat) (last paced : Bool) (ptr word len stamp : Nat) (from_ : Option Nat) : State :=
  let x := s.ctx c
  let pg := dProgram x.coll.desc
  let spread := pg = pgAllgather || pg = pgBcast
  let s := if recTop x.live || pg = 0 then s else s.sendGrain c (s.parentDest c) true paced seg index last ptr word len stamp
  let s :=
    if recTop x.live || spread || pg = 0 then
      (s.resultDests c seg index from_).foldl (fun s d => s.sendGrain c d false paced seg index last ptr word len stamp) s
    else s
  s.settleGrain ptr

/-! ## Events to members, children and the parent (R261, R283) -/

/-- Send a CTX_EVENT control packet to a destination. -/
def State.sendEvent (s : State) (c : Nat) (dst : Dest) (payload : Nat) : State :=
  let x := s.ctx c
  let j := recJob x.record
  let stamp := s.tb.tick
  let send (port dr sr cx : Nat) (epid : Option Nat) : State :=
    s.linkGenerated (genPkt false (ctlHdr j dr sr 0x43 cx payload) payload stamp port 6 j [] epid c)
  match dst with
  | .member _ rank port epid => send port rank rank c (some epid)
  | .child _ no port cx => if port = 0x3FF then s.emit (.localEvent cx true payload) else send port no 0 cx none
  | .parent port cx no => if port = 0x3FF then s.emit (.localEvent cx false payload) else send port 0 no cx none

/-- A payload from its bytes, big-endian: 48 bytes. -/
def payloadOf (bs : List Nat) : Nat := (bs ++ List.replicate (48 - bs.length) 0).foldl (fun a b => 256 * a + b % 256) 0

/-- A COMPLETE (1) or STATUS (3) payload. -/
def completePayload (kind status flags resK call nflags slip nextK : Nat) (digest : List Nat) : Nat :=
  payloadOf ([kind, status, flags, resK] ++ beBytes 4 call ++ beBytes 4 nflags ++ beBytes 2 (min slip 0xFFFF)
    ++ [nextK, 0] ++ digest)

/-- A signed exponent as its byte; 0x80 for none. -/
def kByte : Option Int → Nat
  | none => 0x80
  | some k => unsignedOf k 8

/-! ## The result digest (R316, R317) -/

/-- The message of R316. -/
def State.digestMessage (s : State) (c : Nat) : List Nat :=
  let x := s.ctx c
  let d := x.coll.desc
  let rec_ := (s.job (recJob x.live)).rec_
  [0x49, 0x58, 0x52, 0x44] ++ recDigest x.live ++ (rec_.slice 176 32).bytes ++ beBytes 2 x.major
    ++ [recLevel x.live, 0, if dChildren d = 0 then 0xFF else x.coll.childFmt,
        if recTop x.live then 0xFF else x.coll.carryFmt, kByte x.coll.inK, kByte x.coll.outK]
    ++ leBytes 8 (recNctl x.live) ++ leBytes 8 (recNseed x.live) ++ leBytes 256 (recF x.live 208 256)
    ++ beBytes 4 (dEntries d)
    ++ (List.range (dEntries d)).flatMap (fun i =>
        beBytes 4 (eId (dEntry d i)) ++ beBytes 16 (x.coll.leaf.get (fun _ => 0) i))

/-! ## The end of a call (R282, R283, R286) -/

/-- Release the grain of an arrival (R239, R273). -/
def State.releaseNotice (s : State) (n : Notice) : State :=
  match n.ptr with
  | some p => s.unref p
  | none => s

/-- Release the grains of a list of arrivals. -/
def State.releaseNotices (s : State) (l : List Notice) : State := l.foldl State.releaseNotice s

/-- The input grains of a segment from one contributor (R273, R297, R301): of a dense contribution; the trailer of a
counted stream counts as one. -/
def State.inputGrains (s : State) (c seg : Nat) (child : Bool) : Nat :=
  let x := s.ctx c
  let pg := dProgram x.coll.desc
  let g := segGrains x.live seg
  let ranks := jobRanks (s.job (recJob x.live)).rec_
  if pg = 4 then (if child then ranks * g else g)
  else if pg = 5 then g
  else if pg = pgBarrier then 1
  else if pg = pgVote then (ranks + 6) / 7
  else if pg = 8 then
    if segScatter x.live seg then g
    else
      let no := fmtElems (segOut x.live seg)
      let per := (segArg16 x.live seg % 4096 + no - 1) / no
      (g / max per 1 * (segArg32 x.live seg % 256) + 63) / 64
  else if 9 ≤ pg then g + 1
  else grainsFor (s.inFmt c seg (if child then 0x11 else 0x10)) (segElems x.live seg)

/-- Whether a contributor has been counted in full in the open call: it arrived or voted, or every grain of each of its
contributions was accepted. -/
def State.contribDone (s : State) (c i : Nat) : Bool :=
  let x := s.ctx c
  let pg := dProgram x.coll.desc
  let e := dEntry x.coll.desc i
  if pg = pgBarrier then x.coll.arrived.contains i
  else if pg = pgVote then
    if eChild e then x.coll.arrived.contains i else (x.coll.votes.get (fun _ => none) (eId e)).isSome
  else (List.range (dSegments x.coll.desc)).all (fun g =>
    let got := x.coll.got.get (fun _ => 0) (64 * i + g)
    let last := x.coll.lastAt.get (fun _ => 0) (64 * i + g)
    decide (got = 2 ^ s.inputGrains c g (eChild e) - 1) || (decide (last ≠ 0) && decide (got = 2 ^ last - 1)))

/-- The contributors not fully counted (R282). -/
def State.missing (s : State) (c : Nat) : Nat :=
  ((List.range (dEntries (s.ctx c).coll.desc)).filter (fun i => !s.contribDone c i)).length

/-- DIGEST_VOTE's outcome over a list of (rank, digest or none): outcome, majority digest, odd ranks (R285). -/
def tallyVotes (votes : List (Nat × Option Nat)) : Nat × Nat × List Nat :=
  let n := votes.length
  let maj := (votes.filterMap (fun v => v.2)).find? (fun d => decide (n < 2 * (votes.filter (fun v => v.2 = some d)).length))
  match maj with
  | some d =>
    let odd := (votes.filter (fun v => v.2 ≠ some d)).map (fun v => v.1)
    (if odd = [] then 0 else 1, d, odd)
  | none => (2, 0, [])

/-- Every rank of the job's tree with its vote, ascending. -/
def State.voteTable (s : State) (c : Nat) : List (Nat × Option Nat) :=
  let x := s.ctx c
  (List.range (jobRanks (s.job (recJob x.live)).rec_)).map (fun r => (r, x.coll.votes.get (fun _ => none) r))

/-- The format in force for a call: a narrowing's from its FROM_CALL on, else the descriptor's (R277). -/
def fmtAt (narrow : Option (Nat × Nat)) (base call : Nat) : Nat :=
  match narrow with
  | some (f, from_) => if (call + 2 ^ 32 - from_ % 2 ^ 32) % 2 ^ 32 < 2 ^ 31 then f else base
  | none => base

/-- The common carry scale that a parent chooses for the children of a call, from the carries of the call before (R276). -/
def CtxSt.nextInK (x : CtxSt) (call : Nat) : Option Int :=
  let f := fmtAt x.coll.narrowDown (dChildFmt x.coll.desc) call
  if f = 3 || f = 4 then some (chooseScaleK x.coll.childAmax f) else none

/-- Clear the tracking of the ended call: accepted, uncounted and formed grains return to the pool; early arrivals are
judged again; the next call's scales are chosen from this one's values (R272, R276, R286). -/
def State.clearCall (s : State) (c : Nat) : State :=
  let x := s.ctx c
  let q := x.coll
  let s := s.releaseNotices (q.accepted ++ q.above)
  let s := q.formed.foldl (fun s f => s.unref f.ptr) s
  let nextIn := x.nextInK (recCall x.record)
  s.setColl c (fun q => { q with
    pend := q.early ++ q.pend, early := [], above := [], accepted := [], got := [], used := [], leaf := [], firstAcc := none,
    votes := [], arrived := [], seg := 0, workDone := false, parent := none, forwarded := [], formed := [], released := 0,
    partials := [], duty := false, childAmax := 0, inK := nextIn,
    lastAt := [], copied := [], upSent := 0 })

/-- End the open call of a context with a status: the completion record, CALL, the notices, and the tracking (R282, R283,
R286). A partner of a multi-lathe context only closes its own share: the home writes the record and tells. The next call
opens with the replay that follows. -/
def State.endCall (s : State) (c status : Nat) (parentFlags : Nat) : State :=
  if !s.hasColl c then s
  else if !recHome (s.ctx c).live then
    (s.putRec c 504 4 ((recCall (s.ctx c).record + 1) % 2 ^ 32)).clearCall c
  else
    let x := s.ctx c
    let d := x.coll.desc
    let call := recCall x.record
    let now := s.dieNow (dLathe x.home)
    let paced : Bool := recMode x.live = 2
    let dig : Option (List Nat) :=
      if status = 0 && dDigest d && recMode x.live ≠ 0 then some (sha256 (s.digestMessage c)) else none
    let flags := b2n x.coll.duty + 2 * b2n dig.isSome + 4 * (x.coll.narrowed % 16) + 64 * b2n paced
    let nfl := x.regs.nflags ||| parentFlags
    let slip := min x.coll.slip (2 ^ 32 - 1)
    let miss := if status = 0 then 0 else s.missing c
    let sealWord := 2 ^ 32 - 1 - call % 2 ^ 32
    let dg := dig.getD (List.replicate 32 0)
    let body := leBytes 4 call ++ [status, flags] ++ leBytes 2 x.regs.code ++ leBytes 4 nfl ++ leBytes 4 slip
      ++ leBytes 8 now ++ dg ++ leBytes 4 miss ++ leBytes 4 sealWord
    let s := s.nearWrite (dCompBase d + 64 * (call % dCompDepth d)) (Blob.ofBytes body)
    let s := if status = 1 || status = 2 then s.collCount c F.LtdCollStat.aborts else s
    let nextIn := x.nextInK ((call + 1) % 2 ^ 32)
    let payload (k : Option Int) : Nat :=
      completePayload 1 status flags (kByte x.coll.resultK) call nfl slip (kByte k) dg
    let vote := dProgram d = pgVote && recTop x.live && (status = 0 || status = 2)
    let (outcome, majority, odd) := tallyVotes (s.voteTable c)
    let s :=
      if vote then
        let s := s.nearWrite (dVoteBase d) (Blob.ofBytes (leBytes 4 odd.length ++ odd.flatMap (leBytes 4)))
        s.post { kind := 0x0B, step := 0, job := recJob x.live, part := recPart x.live, dump := 0xFFFF, detail := c, errSeq := 0 }
      else s
    let votePayload := payloadOf ([4, outcome, 0, 0] ++ beBytes 4 call ++ beBytes 4 (odd.headD 0xFFFFFFFF)
      ++ beBytes 2 odd.length ++ [0, 0] ++ beBytes 32 majority)
    let s := (s.destsWhere c (fun _ e => eNotify e && !eChild e)).foldl (fun s t =>
      let s := s.sendEvent c t (payload none)
      if vote then s.sendEvent c t votePayload else s) s
    let s := (s.destsWhere c (fun _ e => eChild e)).foldl (fun s t => s.sendEvent c t (payload nextIn)) s
    let s := if vote then (s.destsWhere c (fun _ e => eNotify e && eChild e)).foldl (fun s t => s.sendEvent c t votePayload) s else s
    let s := if status ≠ 0 && !recTop x.live then s.sendEvent c (s.parentDest c) (payload none) else s
    let s := s.setColl c (fun q => { q with resK := q.resK.set (fun _ => 0x80) (call % dCompDepth d) (kByte q.resultK) })
    let s := s.putRec c 504 4 ((call + 1) % 2 ^ 32)
    s.clearCall c

/-! ## The fault of a context (R258 to R261) -/

/-- The syllable and the failing access of a fault: SLOT_KIND, and for WINDOW the access. -/
structure FaultAt where
  slotKind : Nat
  wr : Bool
  win : Nat
  size : Nat
  off : Nat
  deriving DecidableEq, Repr

/-- A fault outside any syllable. -/
def FaultAt.none_ : FaultAt := ⟨7, false, 0, 0, 0⟩

/-- Cancel a context's waiting ALLOCs and free the grains granted to it and not yet used (R156, R210). -/
def State.dropAllocs (s : State) (c : Nat) : State :=
  let mine := s.bench.got.filter (fun g => decide (g.1 = c))
  let s := mine.foldl (fun (s : State) g => s.freeGrain g.2) s
  s.withBench (fun b => { b with
    got := b.got.filter (fun g => decide (g.1 ≠ c)), waits := b.waits.filter (fun w => decide (w.ctx ≠ some c)) })

/-- Whether LT_FAULT_LAST of a lathe holds the fault of a higher context number in the same chuck step: it then stands (R260). -/
def State.faultStands (s : State) (d p c now : Nat) : Bool :=
  let last := R.ltFaultLast d p
  decide (s.fld last F.LtFaultLast.fault ≠ 0) && decide (s.fld last F.LtFaultLast.stampLo = now % 2 ^ 22)
    && decide (c < s.fld last F.LtFaultLast.ctx)

/-- Write LT_FAULT_LAST and LT_FAULT_ADDR of a lathe (R260 step 4, R263). -/
def State.faultRegs (s : State) (d p c code now : Nat) (at_ : FaultAt) : State :=
  if s.faultStands d p c now then s
  else
        let last := R.ltFaultLast d p
        let s := s.setFld last F.LtFaultLast.ctx c
        let s := s.setFld last F.LtFaultLast.fault code
        let s := s.setFld last F.LtFaultLast.slotKind at_.slotKind
        let s := s.setFld last F.LtFaultLast.pc (s.ctx c).regs.pc
        let s := s.setFld last F.LtFaultLast.stampLo now
        let a := R.ltFaultAddr d p
        let s := s.setFld a F.LtFaultAddr.valid (b2n (code = 2))
        if code = 2 then
            let s := s.setFld a F.LtFaultAddr.wr (b2n at_.wr)
            let s := s.setFld a F.LtFaultAddr.win at_.win
            let s := s.setFld a F.LtFaultAddr.size at_.size
            s.setFld a F.LtFaultAddr.offset at_.off
          else s

/-- Report a context's fault (R260 steps 4 and 5, R261): on lathe k, where there is one, the fault registers, the count and an error
record; then the notice to the endpoints that its descriptor names for its completion. -/
def State.faultReport (s : State) (c code : Nat) (at_ : FaultAt) (lathe : Option Nat) : State :=
  let x := s.ctx c
  let now := s.dieNow (dLathe x.home)
  let s := match lathe with
    | none => s
    | some k =>
      let s := (s.faultRegs (k / 5) (k % 5) c code now at_).count (R.ltFaultStat (k / 5) (k % 5)) F.LtFaultStat.faults
      s.raise (s.ctxRec c k 0x0C 1 2 (code * 2 ^ 24) (if code = 2 then at_.off else 0))
  let notice := payloadOf ([2, code, at_.slotKind, if code = 2 then 128 * b2n at_.wr + at_.win else 0]
      ++ beBytes 4 x.regs.pc ++ beBytes 8 x.regs.prog ++ beBytes 4 x.regs.nflags ++ beBytes 8 now
      ++ beBytes 5 (if code = 2 then at_.off else 0))
  (s.destsWhere c (fun _ e => eNotify e && !eChild e)).foldl (fun s t => s.sendEvent c t notice) s

/-- Fault one context (R260): its thread stops, its formed grains are freed, STATE, FAULT, PROG and NFLAGS go to the
record, which RECORD leaves otherwise unchanged (R203), the fault is reported, and its open call ends
FAULTED. The group of a multi-lathe context is the caller's. -/
def State.faultOne (s : State) (c code : Nat) (at_ : FaultAt) : State :=
  let x := s.ctx c
  let st := recState x.record
  if st = csFree || st = csFaulted then s
  else
    let s := match x.phys with
      | some k => s.leavePipe k c
      | none => s
    let s := x.coll.formed.foldl (fun s f => s.unref f.ptr) s
    let s := s.setColl c (fun q => { q with formed := [] })
    let s := ((s.dropAllocs c).dropMove c).setCtx c (fun x => { x with stopping := 0, startPend := false })
    let s := (s.setCtxState c csFaulted).putRec c 487 1 code
    let s := if code = 1 then s else (s.putRec c 472 8 x.regs.prog).putRec c 480 4 x.regs.nflags
    let s := s.faultReport c code at_ x.phys
    let s := s.releaseNotices ((s.ctx c).coll.pend ++ (s.ctx c).coll.early)
    let s := s.setColl c (fun q => { q with pend := [], early := [] })
    s.endCall c 3 0

/-- The contexts of the group of a multi-lathe context, but for itself (R279, R280). -/
def State.group (s : State) (c : Nat) : List Nat :=
  let x := s.ctx c
  let h := recHomeCtx x.live
  if !s.hasColl c then []
  else s.ctxs.keysWhere (fun y => y.coll.desc.len ≠ 0 && recHomeCtx y.live = h && recJob y.live = recJob x.live
    && (recPartners x.live ≠ 0 || !recHome x.live)) |>.filter (fun i => i ≠ c)

/-- Contain a job that has consumed burred data or lost state (R383): every other context of it on this part is faulted with POISON,
firmware reports it killed, and in large-job mode the reset of the partition is asked for. -/
def State.containJob (s : State) (j part die detail : Nat) : State :=
  let others := s.ctxs.keysWhere (fun y => recJob y.record = j && recState y.record ≠ csFree && recState y.record ≠ csFaulted)
  let s := others.foldl (fun (s : State) i => s.faultOne i 9 FaultAt.none_) s
  let s := s.post { kind := 0x04, step := 1, job := j, part := part, dump := 0xFFFF, detail := detail, errSeq := 0 }
  if s.plane.largeJob part then s.escalate 3 die 0 part else s

/-- Fault a context and, with COLLECTIVE, every other context of its group (R260, R280). A POISON fault also faults every
other context of the job with POISON; firmware reports the job killed, and in large-job mode the partition's reset is
asked for (R383). -/
def State.fault (s : State) (c code : Nat) (at_ : FaultAt) : State :=
  let x := s.ctx c
  let st := recState x.record
  if st = csFree || st = csFaulted then s
  else
    let grp := s.group c
    let s := s.faultOne c code at_
    let s := grp.foldl (fun s i => s.faultOne i 0x0A FaultAt.none_) s
    if code ≠ 9 then s else s.containJob (recJob x.record) (recPart x.record) (dLathe x.home) c

/-! ## Replay (R249, R254, R272) -/

/-- The fields of a record that fix resources or code, compared at REPLAY (R254). -/
def replayKey (r : CtxRec) : List Nat :=
  [recV r, recL r, recProgBase r, recProgLen r, recEntry r, recF r 48 32]
    ++ (List.range 8).map (fun w =>
      let e := recWin r w
      if winSpace e = 1 || winSpace e = 2 then setBitsOf e 0 48 0 else 0)

/-- The registers that START and REPLAY hand to the chuck thread (R249). -/
def freshRegs (r : CtxRec) : Regs := { Regs.zero with pc := recEntry r, nctl := recNctl r }

/-- The record to run from: firmware's, with the BASE fields that the part wrote for its own windows. -/
def mergeWindows (r live : CtxRec) : CtxRec :=
  (List.range 8).foldl (fun r w =>
    let e := recWin live w
    if winSpace e = 1 || winSpace e = 2 then recPut r (80 + 16 * w) 6 (winBase e) else r) r

/-- Whether the grant's die is limited below 100 % duty (R54, R214). -/
def State.dutyLow (s : State) (k : Nat) : Bool := s.fld (R.glbTherm (dLathe (k / 5))) F.GlbTherm.duty ≠ 0

/-- Open the context's next call: the formats in force and the scales of its rounding points (R276, R277); below the top the scale of
an FP8 carry stays open until the parent's notice has brought it. The result scale
of a top with several segments is chosen toward the first 8-bit format among them (log 10). -/
def State.openCall (s : State) (c : Nat) (first : Bool) : State :=
  let x := s.ctx c
  let d := x.coll.desc
  let call := recCall x.record
  let carry := fmtAt x.coll.narrowUp (dCarryFmt d) call
  let child := fmtAt x.coll.narrowDown (dChildFmt d) call
  let out := ((List.range (dSegments d)).map (segOut x.live)).find? (fun f => f = 3 || f = 4 || f = 5)
  let outK : Option Int :=
    if recTop x.live then out.map (fun f => if first then dInitK d else chooseScaleK x.coll.topAmax f)
    else if carry = 3 || carry = 4 then (if first then some (dInitK d) else x.coll.parentK) else none
  let inK : Option Int := if child = 3 || child = 4 then some (if first then dInitK d else x.coll.inK.getD (dInitK d)) else none
  let narrowed := (if carry = dCarryFmt d then 0 else 2 ^ recLevel x.live)
    + (if child = dChildFmt d then 0 else 2 ^ (recLevel x.live - 1))
  s.setColl c (fun q => { q with
    carryFmt := carry, childFmt := child, outK := outK, inK := inK, topAmax := 0, narrowed := narrowed, parentK := none
    resultK := if recTop x.live then outK else none })

/-- A context that START or RESIDE onto lathe k finds fault with (R203, R247, R261, R271): it becomes FAULTED, its record otherwise
unchanged, and is not resident; the fault is reported on that lathe, and the notice goes to the endpoints that its descriptor, as it
stands in the near tier, names. -/
def State.startFault (s : State) (c k code : Nat) : State :=
  let r := (s.ctx c).record
  let base := recDescBase r
  let d := if base = 0 then Blob.empty else s.nearRead base (64 + 8 * dEntries (s.nearRead base 64))
  let s := (s.releaseNotices (s.ctx c).coll.pend).setCtx c (fun x => { x with
    live := r, regs := freshRegs r, home := k / 5, coll := { Coll.empty with desc := d } })
  let s := (s.setCtxState c csFaulted).putRec c 487 1 code
  (s.faultReport c code FaultAt.none_ (some k)).setColl c (fun _ => Coll.empty)

/-- Run the program again from its entry (R254): the record is checked, and a context that was FAULTED faults anew where it fails; FAULT
is cleared; the registers are set; a PACED context waits for the next turn boundary. -/
def State.replay (s : State) (c : Nat) : State :=
  let x := s.ctx c
  let s := match x.phys with
    | some k => s.leavePipe k c
    | none => s
  if !(recordOk x.record && s.windowsAllowed x.record && decide (replayKey x.record = replayKey x.live)) then
    (if recState x.record = csFaulted then s.setCtxState c csStopped else s).fault c 1 FaultAt.none_
  else
    let live := mergeWindows x.record x.live
    let paced : Bool := recMode live = 2
    let s := s.setCtx c (fun y => { y with
      record := recPut y.record 487 1 0, live := live, regs := freshRegs live, startPend := paced })
    let s := s.setColl c (fun q => { q with
      slip := 0, duty := match x.phys with | some k => s.dutyLow k | none => false })
    let s := if s.hasColl c then s.openCall c false else s
    s.setCtxState c (if paced || x.move.loading then csParked else csRunning)

/-- Open the next call of a context: the layer replays it, unless it is STOPPED, FAULTED or not started (R272, R286). -/
def State.reopen (s : State) (c : Nat) : State :=
  let st := s.ctxState c
  if s.hasColl c && (st = csRunning || st = csParked || st = csDone) then s.replay c else s

/-- End the open call of a multi-lathe context and of its partners, and open the next one (R272, R279, R286). -/
def State.endAndReopen (s : State) (c status parentFlags : Nat) : State :=
  let grp := s.group c
  let s := s.endCall c status parentFlags
  let s := grp.foldl (fun s i => s.endCall i status parentFlags) s
  grp.foldl State.reopen (s.reopen c)

end Sys2Proof.Machine
end

