-- ==== Sys2Proof/Machine/Tracking.lean ====
section
/-! DEFINITION. Contribution tracking and the calls of a collective: arrivals, posts, queries, notices between parent and
child, timeouts and ports that go down (R272 to R286), and the ALLOC of a context's output grains (R208, R329). -/

namespace Sys2Proof.Machine

/-! ## Output grains (R145, R148, R208, R329) -/

/-- Q_GRAINS of a job. -/
def State.qGrains (s : State) (j : Nat) : Nat := (s.job j).rec_.le 48 4

/-- Ask for an output grain for a context on lathe k: a grain granted before is taken; else both quotas and the pool level
are judged. -/
def State.tryAlloc (s : State) (c k : Nat) : Option Nat × State :=
  match s.bench.got.find? (fun g => g.1 = c) with
  | some g => (some g.2, s.withBench (fun b => { b with got := b.got.erase g }))
  | none =>
    let req := latheReq k
    let j := recJob (s.ctx c).live
    if s.qGrains j ≤ s.jobGrains j then (none, s.count (R.svJobHit j) F.SvJobHit.grainHit)
    else if !s.quotaOk req 1 then (none, s)
    else
      let pool := (s.reqPlane req).reqPool req
      let (ok, s) := s.admitAlloc pool 1
      if !ok then (none, s)
      else match s.allocOne (latheHalf k) req pool (some j) with
        | none => (none, s)
        | some (p, s) => (some p, s)

/-- A context waits for its ALLOC: it gives up the grant, and its request leaves the queue (R208). -/
def State.waitAlloc (s : State) (c k : Nat) : State :=
  let w : AllocWait := ⟨latheReq k, s.epoch (latheReq k), 1, some c⟩
  let s := if s.bench.waits.any (fun v => v.ctx = some c) then s
    else s.withBench (fun b => { b with waits := b.waits ++ [w] })
  (s.setWait c .alloc).leavePipe k c

/-- Put an output grain's bytes into a HELD grain. -/
def State.fillGrain (s : State) (ptr word lay : Nat) (data : Nat) : State :=
  s.setGrain ptr { s.grain ptr with word := word, len := 256, lay := lay, data := BitVec.ofNat 2048 data }

/-! ## Who contributes (R268, R273, R279) -/

/-- The home of a context's group: itself unless it is a partner. -/
def State.homeOf (s : State) (c : Nat) : Nat :=
  let r := (s.ctx c).live
  if recHome r then c else recHomeCtx r

/-- The LATHE_IDX that a context serves: the home 0, a partner what its PARTNERS field holds (DEDUCED, log 8). -/
def myIdx (r : CtxRec) : Nat := if recHome r then 0 else recPartners r

/-- The contributors that a context accumulates. -/
def State.ownEntries (s : State) (c : Nat) : List Nat :=
  let x := s.ctx c
  (List.range (dEntries x.coll.desc)).filter (fun i => eLathe (dEntry x.coll.desc i) = myIdx x.live)

/-- The context of a group that serves a LATHE_IDX. -/
def State.ctxFor (s : State) (h idx : Nat) : Nat :=
  if idx = 0 then h else ((s.group h).find? (fun i => myIdx (s.ctx i).live = idx)).getD h

/-- Whether a program takes a kind of contribution in a segment (R128, R266). -/
def kindTaken (r : CtxRec) (pg kind post seg : Nat) : Bool :=
  if kind = 0x42 then (pg = pgBarrier && post = 2) || (pg = pgVote && post = 3)
  else if kind = 0x11 then true
  else if pg = 0 then true
  else if pg = pgBarrier || pg = pgVote then false
  else if pg = 8 then kind = (if segScatter r seg then 0x13 else 0x14)
  else if 9 ≤ pg then kind = 0x10 || kind = 0x14
  else kind = 0x10

/-- Step 1 of R273: the entry that an arrival comes from. -/
def State.entryOf (s : State) (h : Nat) (n : Notice) : Option Nat :=
  let x := s.ctx h
  let d := x.coll.desc
  let pg := dProgram d
  if !kindTaken x.live pg n.kind n.post n.segment then none
  else
    (List.range (dEntries d)).find? (fun i =>
      let e := dEntry d i
      if n.kind = 0x11 then
        eChild e && eId e = n.src && (match n.port with | some p => ePort e = p | none => ePort e = 0x3FF)
      else !eChild e && eId e = n.src && (pg ≠ pgBcast || i = dRoot d))

/-! ## Outcomes of tracking (R273, R274) -/

/-- Drop or refuse an arrival: counted, its grain returned. -/
def State.dropNotice (s : State) (h : Nat) (n : Notice) (f : Fld) : State := (s.collCount h f).releaseNotice n

/-- The lowest clear bit of a mask. -/
def lowestClear (m : Nat) : Nat := (firstFrom (fun i => !m.testBit i) 0 (2 ^ 22 + 1)).getD (2 ^ 22)

/-- Mark an input grain consumed by its stream (R273). -/
def State.markUsed (s : State) (h i seg index : Nat) : State :=
  s.setColl h (fun q => { q with used := q.used.modify (fun _ => 0) (64 * i + seg) (fun m => m ||| (1 <<< index)) })

/-- Count an accepted grain: its bit, its leaf sum, its contributor's end, the time of the first (R273, R286, R315). -/
def State.countGrain (s : State) (h i : Nat) (n : Notice) : State :=
  let key := 64 * i + n.segment
  s.setColl h (fun q => { q with
    got := q.got.modify (fun _ => 0) key (fun m => m ||| (1 <<< n.index))
    leaf := q.leaf.modify (fun _ => 0) i (fun l => (l + n.hash) % leafP)
    lastAt := if n.last then q.lastAt.set (fun _ => 0) key (n.index + 1) else q.lastAt
    firstAcc := match q.firstAcc with | some t => some t | none => some s.tb.tick })

/-- Note the first accepted contribution of a call that is a post. -/
def State.countPost (s : State) (h : Nat) : State :=
  s.setColl h (fun q => { q with firstAcc := match q.firstAcc with | some t => some t | none => some s.tb.tick })

/-! ## When a call is complete (R282) -/

/-- The result grains of a segment that come from the parent (R266). -/
def State.resultsIn (s : State) (c seg : Nat) : Nat :=
  let x := s.ctx c
  let d := x.coll.desc
  let g := segGrains x.live seg
  let took := x.coll.copied.get (fun _ => 0) seg
  match dProgram d with
  | 1 => g
  | 2 => if (List.range (dEntries d)).any (fun i => eResult (dEntry d i)) then g else 0
  | 3 => g
  | 4 => jobRanks (s.job (recJob x.live)).rec_ * g - took
  | 5 => g - took
  | 9 => if (List.range (dEntries d)).any (fun i => eResult (dEntry d i)) then 2 ^ 40 else 0
  | _ => 0

/-- Whether every result grain that the parent sends has been forwarded. A counted stream ends with its trailer, which
sets bit 40. -/
def State.allForwarded (s : State) (c : Nat) : Bool :=
  (List.range (dSegments (s.ctx c).coll.desc)).all (fun g =>
    s.resultsIn c g ≤ (s.ctx c).coll.forwarded.get (fun _ => 0) g)

/-- Whether the context's own work for the call is done. -/
def State.ownDone (s : State) (c : Nat) : Bool :=
  let x := s.ctx c
  let d := x.coll.desc
  let pg := dProgram d
  if pg = pgAllgather || pg = pgBcast then
    (List.range (dSegments d)).all (fun g =>
      let took := x.coll.copied.get (fun _ => 0) g
      let all := if pg = pgAllgather then jobRanks (s.job (recJob x.live)).rec_ * segGrains x.live g else segGrains x.live g
      if recTop x.live then all ≤ took else all ≤ took + x.coll.forwarded.get (fun _ => 0) g)
  else x.coll.workDone

/-- End the call with DONE when nothing of it is left: at the top when every result is linked; below it when the parent's
notice has arrived and every result is forwarded. A CUSTOM program has no parent to wait for. -/
def State.maybeEnd (s : State) (c : Nat) : State :=
  let x := s.ctx c
  if !s.hasColl c || !recHome x.live || !s.ownDone c || x.coll.formed ≠ [] then s
  else if recTop x.live || dProgram x.coll.desc = 0 then s.endAndReopen c 0 0
  else match x.coll.parent with
    | some (0, nfl, _) => if s.allForwarded c then s.endAndReopen c 0 nfl else s
    | _ => s

/-! ## BARRIER and DIGEST_VOTE (R266, R285) -/

/-- Send one grain that the layer itself makes up to the parent: none while its ALLOC waits. -/
def State.sendUp (s : State) (c index : Nat) (last : Bool) (data : Nat) : Option State :=
  match (s.ctx c).phys with
  | none => none
  | some k =>
    match s.tryAlloc c k with
    | (none, s) =>
      let w : AllocWait := ⟨latheReq k, s.epoch (latheReq k), 1, some c⟩
      some (if s.bench.waits.any (fun v => v.ctx = some c) then s
        else s.withBench (fun b => { b with waits := b.waits ++ [w] }))
    | (some p, s) =>
      let s := s.fillGrain p 0 0 data
      let s := s.sendGrain c (s.parentDest c) true (recMode (s.ctx c).live = 2) 0 index last p 0 256 s.tb.tick
      some ((s.settleGrain p).setColl c (fun q => { q with upSent := q.upSent + 1 }))

/-- The bytes of a grain of up to seven vote records: the rank in 4 bytes, then its digest, big-endian (R285). -/
def voteBytes (vs : List (Nat × Nat)) : Nat :=
  (Blob.ofBytes (vs.flatMap (fun v => beBytes 4 v.1 ++ beBytes 32 v.2))).val

/-- The votes of a grain: records stand in ascending rank order, so a record that does not rise is padding (DEDUCED,
log 11). -/
def votesOf (g : Nat) : List (Nat × Nat) :=
  let recs := (List.range 7).map (fun i =>
    let b := (Blob.mk 256 g).bytes.drop (36 * i)
    ((b.take 4).foldl (fun a x => 256 * a + x) 0, ((b.drop 4).take 32).foldl (fun a x => 256 * a + x) 0))
  (recs.foldl (fun acc r => match acc.getLast? with
    | none => [r]
    | some l => if l.1 < r.1 then acc ++ [r] else acc) [])

/-- The votes that a context holds, by ascending rank. -/
def CtxSt.heldVotes (x : CtxSt) : List (Nat × Nat) := x.coll.votes.filterMap (fun v => v.2.map (fun d => (v.1, d)))

/-- Record the first vote of each rank of a list. -/
def Coll.addVotes (q : Coll) (vs : List (Nat × Nat)) : Coll :=
  vs.foldl (fun q v =>
    if (q.votes.get (fun _ => none) v.1).isSome then q else { q with votes := q.votes.set (fun _ => none) v.1 (some v.2) }) q

/-- Move a BARRIER or a DIGEST_VOTE on: once every contributor is counted, the top is done, and a lower part sends its
CARRY grains up. -/
def State.layerAdvance (s : State) (c : Nat) : State :=
  let x := s.ctx c
  let d := x.coll.desc
  let pg := dProgram d
  if !(pg = pgBarrier || pg = pgVote) || x.coll.workDone then s
  else if !(List.range (dEntries d)).all (s.contribDone c) then s
  else if recTop x.live then (s.setColl c (fun q => { q with workDone := true })).maybeEnd c
  else
    let votes := x.heldVotes
    let total := if pg = pgBarrier then 1 else (votes.length + 6) / 7
    let go (s : State) (i : Nat) : State :=
      if (s.ctx c).coll.upSent ≠ i then s
      else match s.sendUp c i (decide (i + 1 = total)) (if pg = pgBarrier then 0 else voteBytes ((votes.drop (7 * i)).take 7)) with
        | some t => t
        | none => s
    let s := (List.range total).foldl go s
    if (s.ctx c).coll.upSent = total then (s.setColl c (fun q => { q with workDone := true })).maybeEnd c else s

/-! ## Tracking an arrival (R273) -/

/-- Deliver an accepted grain: to the BARRIER's count, to the tally, or to the stream of the lathe that accumulates its
contributor (R266, R279). -/
def State.deliver (s : State) (h i : Nat) (n : Notice) : State :=
  let x := s.ctx h
  let d := x.coll.desc
  let pg := dProgram d
  let s := s.countGrain h i n
  if pg = pgBarrier || pg = pgVote then
    let g := match n.ptr with | some p => (s.grain p).data.toNat | none => 0
    let burred := gwBurr n.word
    let s := (s.releaseNotice n).markUsed h i n.segment n.index
    let s := s.setColl h (fun q =>
      let q := if pg = pgVote then q.addVotes (votesOf g) else q
      if (n.last || pg = pgBarrier) && !q.arrived.contains i then { q with arrived := q.arrived ++ [i] } else q)
    if burred && pg = pgVote then s.fault h 9 FaultAt.none_ else s.layerAdvance h
  else
    let t := s.ctxFor h (eLathe (dEntry d i))
    s.setColl t (fun q => { q with accepted := q.accepted ++ [{ n with who := i }] })

/-- A post that tracking lets through: ARRIVE or VOTE. -/
def State.takePost (s : State) (h i : Nat) (n : Notice) : State :=
  let q := (s.ctx h).coll
  if n.post = 2 then
    if q.arrived.contains i then s.collCount h F.LtdCollStat.dup
    else ((s.countPost h).setColl h (fun q => { q with arrived := q.arrived ++ [i] })).layerAdvance h
  else if (q.votes.get (fun _ => none) n.src).isSome then s.collCount h F.LtdCollStat.dup
  else ((s.countPost h).setColl h (fun q => q.addVotes [(n.src, n.digest)])).layerAdvance h

/-- Steps 3 and 4 of R273 for a grain of the open call. A grain above the window waits, uncounted. -/
def State.trackGrain (s : State) (h i : Nat) (n : Notice) : State :=
  let x := s.ctx h
  let d := x.coll.desc
  let child := n.kind = 0x11
  let cap := s.inputGrains h n.segment child
  let cap := if gwFormat n.word = 0 then cap else 2 * cap
  if dSegments d ≤ n.segment || cap ≤ n.index then s.dropNotice h n F.LtdCollStat.refused
  else
    let key := 64 * i + n.segment
    let low := lowestClear (x.coll.used.get (fun _ => 0) key)
    if n.index < low || (x.coll.got.get (fun _ => 0) key).testBit n.index then s.dropNotice h n F.LtdCollStat.dup
    else if low + 4096 ≤ n.index then s.setColl h (fun q => { q with above := q.above ++ [{ n with who := i }] })
    else s.deliver h i n

/-- The checks of R273 on one arrival, in order. -/
def State.track (s : State) (h : Nat) (n : Notice) : State :=
  match s.entryOf h n with
  | none => s.dropNotice h n F.LtdCollStat.refused
  | some i =>
    let ahead := (n.tag + 4 - recCall (s.ctx h).record % 4) % 4
    if ahead = 1 then s.setColl h (fun q => { q with early := q.early ++ [n] })
    else if ahead ≠ 0 then s.dropNotice h n F.LtdCollStat.stale
    else if n.kind = 0x42 then s.takePost h i n
    else s.trackGrain h i n

/-- The window of a contributor has moved: grains that waited above it are judged again (R273). -/
def State.recheckAbove (s : State) (h : Nat) : State :=
  let l := (s.ctx h).coll.above
  l.foldl (fun s n => s.trackGrain h n.who n) (s.setColl h (fun q => { q with above := [] }))

/-- A result grain from the parent: forwarded unchanged to the RESULT members and children (R275). -/
def State.forwardResult (s : State) (c : Nat) (n : Notice) : State :=
  let x := s.ctx c
  let ahead := (n.tag + 4 - recCall x.record % 4) % 4
  if ahead = 1 then s.setColl c (fun q => { q with early := q.early ++ [n] })
  else if ahead ≠ 0 then s.dropNotice c n F.LtdCollStat.stale
  else if dSegments x.coll.desc ≤ n.segment then s.dropNotice c n F.LtdCollStat.refused
  else
    let stamp := max (s.dieNow (dLathe x.home)) (n.stamp + 1)
    let s := match n.ptr with
      | some p => (s.resultDests c n.segment n.index none).foldl
          (fun (s : State) t => s.sendGrain c t false (recMode x.live = 2) n.segment n.index n.last p n.word n.len stamp) s
      | none => s
    let trailer := dProgram x.coll.desc = 9 && n.last
    let s := (s.releaseNotice n).setColl c (fun q => { q with
      forwarded := q.forwarded.modify (fun _ => 0) n.segment (fun f => f + 1 + (if trailer then 2 ^ 40 else 0)) })
    s.maybeEnd c

/-- One arrival reaches a context's layer: a FAULTED context discards it (R252, R273). A context without a collective
descriptor takes every arrival in order (DESIGN CHOICE, log 7). -/
def State.arrive (s : State) (c : Nat) (n : Notice) : State :=
  if s.ctxState c = csFaulted then s.dropNotice c n F.LtdCollStat.dead
  else if !s.hasColl c then s.setColl c (fun q => { q with accepted := q.accepted ++ [{ n with who := n.src }] })
  else if n.kind = 0x12 || n.kind = 0x15 then s.forwardResult (s.homeOf c) n
  else s.track (s.homeOf c) n

/-- Whether a context's layer handles arrivals now; else they queue in its directory entry (R204, R252). -/
def State.handles (s : State) (c : Nat) : Bool :=
  let st := s.ctxState c
  decide (st = csRunning) || decide (st = csParked) || decide (st = csFaulted)

/-- COLLECTIVE_ARRIVAL (R158, R273). The head of the context's queue of arrivals is tracked; one that is spilled waits until it is read back. -/
def execCollectiveArrival (ctx : Ctx) (s : State) : Host.Outcome State Fault Refusal :=
  let c := ctx.val
  match (s.ctx c).coll.pend with
  | [] => .next s
  | n :: rest =>
    if s.handles c && n.spillAt.isNone then .next ((s.setColl c (fun q => { q with pend := rest })).arrive c n) else .next s

/-! ## Posts (R283 to R285) -/

/-- An ARRIVE or VOTE post as an arrival. -/
def postNotice (post src call digest : Nat) : Notice :=
  ⟨0x42, post, src, none, call % 4, 0, 0, false, none, 0, 0, 0, 0, digest, 0, none⟩

/-- A post reaches its context: at once, or after the arrivals that wait there; an IDLE one keeps it until it runs (R204). -/
def State.arrivePost (s : State) (c : Nat) (n : Notice) : State :=
  if s.ctxState c = csFree || (s.ctxState c ≠ csIdle && !s.hasColl c) then s
  else if s.handles c then s.arrive c n else s.setColl c (fun q => { q with pend := q.pend ++ [n] })

/-- ARRIVE (R283). A rank arrives at a BARRIER. -/
def execArrive (ctx : Ctx) (rank call : Nat) (s : State) : Host.Outcome State Fault Refusal :=
  .next (s.arrivePost ctx.val (postNotice 2 rank call 0))

/-- VOTE (R285). A rank votes with its weight digest. -/
def execVote (ctx : Ctx) (rank call : Nat) (digest : BitVec 256) (s : State) : Host.Outcome State Fault Refusal :=
  .next (s.arrivePost ctx.val (postNotice 3 rank call digest.toNat))

/-- The STATUS reply to a query of an ended call, from the record in the ring: a slot that holds another call has expired
(R284). -/
def State.statusReply (s : State) (c call : Nat) : Nat :=
  let x := s.ctx c
  let d := x.coll.desc
  let slot := call % dCompDepth d
  let r := s.nearRead (dCompBase d + 64 * slot) 64
  if r.le 0 4 = call then
    completePayload 3 (r.byte 4) (r.byte 5) (x.coll.resK.get (fun _ => 0x80) slot) call (r.le 8 4) (r.le 12 4) 0x80
      ((List.range 32).map (fun i => r.byte (24 + i)))
  else completePayload 3 5 0 0 call 0 0 0 []

/-- How far a call lies ahead of a context's, modulo 2^32: one that lies behind is more than half way round. -/
def callsAhead (call : Nat) (r : CtxRec) : Nat := (call % 2 ^ 32 + 2 ^ 32 - recCall r) % 2 ^ 32

/-- The reply to a query for a call: PENDING while it is open or next, none further ahead, else from the completion table while that
still holds it, EXPIRED after. -/
def State.queryReply (s : State) (c call : Nat) : Option Nat :=
  let x := s.ctx c
  let ahead := callsAhead call x.record
  if ahead ≤ 1 then some (completePayload 3 4 0 0 call 0 0 0 [])
  else if ahead < 2 ^ 31 then none
  else if 2 ^ 32 - ahead ≤ dCompDepth x.coll.desc then some (s.statusReply c call)
  else some (completePayload 3 5 0 0 call 0 0 0 [])

/-- A query from a rank (R284): the STATUS of a call, PENDING while it is open or next, EXPIRED when its slot holds a later
one; refused from a rank that is no member, and for a call further ahead. -/
def State.answerQuery (s : State) (c rank call : Nat) : State :=
  let d := (s.ctx c).coll.desc
  if !s.hasColl c then s
  else match (List.range (dMembers d)).find? (fun i => eId (dEntry d i) = rank) with
    | none => s.collCount c F.LtdCollStat.refused
    | some i => match s.queryReply c call with
      | none => s.collCount c F.LtdCollStat.refused
      | some p => match s.destOf c i with
        | some t => s.sendEvent c t p
        | none => s

/-- QUERY (R284). A rank asks how a call stands. -/
def execQuery (ctx : Ctx) (rank call : Nat) (s : State) : Host.Outcome State Fault Refusal :=
  .next (s.answerQuery ctx.val rank call)

/-! ## Notices between parent and child (R276, R277, R286) -/

/-- PARENT_COMPLETE_NOTICE (R276, R286): the parent's call ended; with DONE the child's ends once its results are forwarded,
else it ends likewise at once. The next carry scale is kept; where the child's call had ended before, the open call takes it. -/
def execParentCompleteNotice (ctx : Ctx) (call status nflags resultK nextK : Nat) (s : State) :
    Host.Outcome State Fault Refusal :=
  let c := ctx.val
  let st := s.ctxState c
  let k (b : Nat) : Option Int := if b % 256 = 0x80 then none else some (signedOf b 8)
  if !s.hasColl c || recTop (s.ctx c).live || st = csFree || st = csIdle || st = csFaulted then .next s
  else if call % 2 ^ 32 ≠ recCall (s.ctx c).record then
    if (call + 1) % 2 ^ 32 = recCall (s.ctx c).record && (s.ctx c).coll.outK.isNone then
      .next (s.setColl c (fun q => { q with outK := k nextK }))
    else .next s
  else
    let s := s.setColl c (fun q => { q with
      parent := some (status, nflags % 2 ^ 32, nextK), parentK := (match k nextK with | some z => some z | none => q.parentK)
      resultK := k resultK })
    if status = 0 then .next (s.maybeEnd c) else .next (s.endAndReopen (s.homeOf c) (status % 4) (nflags % 2 ^ 32))

/-- CHILD_ABORT_NOTICE (R286): a child's call ended otherwise than DONE; the parent's open call ends likewise. -/
def execChildAbortNotice (ctx : Ctx) (call status : Nat) (s : State) : Host.Outcome State Fault Refusal :=
  let c := ctx.val
  let st := s.ctxState c
  if !s.hasColl c || st = csFree || st = csIdle || st = csFaulted || status % 4 = 0
      || call % 2 ^ 32 ≠ recCall (s.ctx c).record then .next s
  else .next (s.endAndReopen (s.homeOf c) (status % 4) 0)

/-- Whether a context has already rounded a call, or something of it: the call is over, or an output grain of it has been
formed. -/
def State.rounded (s : State) (c call : Nat) : Bool :=
  let x := s.ctx c
  let ahead := callsAhead call x.record
  decide (2 ^ 31 ≤ ahead) || (decide (ahead = 0) && (decide (x.regs.prog ≠ 0) || decide (x.coll.seg ≠ 0) || x.coll.workDone))

/-- NARROW_NOTICE (R277). Upward, the notice of the parent's firmware: from the call it names the child carries in the
format named, unless it has rounded that call, which it refuses and firmware reports. Downward (down), firmware of this
part tells the children of a context, at least two calls ahead, and the context widens in that format. -/
def execNarrowNotice (ctx : Ctx) (down : Bool) (call format : Nat) (s : State) : Host.Outcome State Fault Refusal :=
  let c := ctx.val
  let x := s.ctx c
  let d := x.coll.desc
  let ahead := callsAhead call x.record
  if !s.hasColl c || !dNarrowOk d || s.ctxState c = csFree || s.ctxState c = csFaulted then .next s
  else if down then
    if dChildren d = 0 || ahead < 2 || 2 ^ 31 ≤ ahead || !([0, 1, 3, 4].contains format) then .next s
    else
      let s := s.setColl c (fun q => { q with narrowDown := some (format, call % 2 ^ 32) })
      let p := payloadOf ([5, recLevel x.live - 1, format, 0] ++ beBytes 4 call)
      .next ((s.destsWhere c (fun _ e => eChild e)).foldl (fun s t => s.sendEvent c t p) s)
  else if recTop x.live || !(format = dNarrowFmt d || format = dCarryFmt d) then .next s
  else if s.rounded c (call % 2 ^ 32) then
    let s := s.post ⟨0x0D, 0, recJob x.live, recPart x.live, 0xFFFF, c, 0⟩
    if dParentPort d = 0x3FF then .next (s.setColl (dParentCtx d) (fun q => { q with narrowDown := none })) else .next s
  else
    let s := s.setColl c (fun q => { q with narrowUp := some (format, call % 2 ^ 32) })
    .next (if ahead = 0 then s.setColl c (fun q => { q with
      carryFmt := format, narrowed := if format = dCarryFmt d then 0 else 2 ^ recLevel x.live }) else s)

/-! ## Calls that end early (R285, R286) -/

/-- Whether TIMEOUT_US has passed since the first accepted contribution of a context's call (R286). -/
def CtxSt.timedOut (x : CtxSt) (tick : Nat) : Bool :=
  decide (dTimeout x.coll.desc ≠ 0) && x.coll.firstAcc.any (fun t => decide (t + 1000 * dTimeout x.coll.desc ≤ tick))

/-- CALL_TIMEOUT (R286): it acts once TIMEOUT_US has passed. A vote with a majority still ends DONE (R285). -/
def execCallTimeout (ctx : Ctx) (s : State) : Host.Outcome State Fault Refusal :=
  let c := ctx.val
  let x := s.ctx c
  let st := s.ctxState c
  if !s.hasColl c || st = csFree || st = csIdle || st = csFaulted || !x.timedOut s.tb.tick then .next s
  else
    let tally := tallyVotes (s.voteTable c)
    let done := decide (dProgram x.coll.desc = pgVote) && recTop x.live && decide (tally.1 ≠ 2)
    .next (s.endAndReopen (s.homeOf c) (if done then 0 else 2) 0)

/-- Whether a context's open call uses a port: as a member's, a child's or the parent's. -/
def State.usesPort (s : State) (c port : Nat) : Bool :=
  let x := s.ctx c
  let d := x.coll.desc
  (!recTop x.live && dParentPort d = port)
    || (List.range (dEntries d)).any (fun i => match s.destOf c i with
      | some (.member _ _ p _) => p = port
      | some (.child _ _ p _) => p = port
      | _ => false)

/-- A port enters DOWN_HOLD or DISABLED: every open call that uses it ends ABORTED_PORT (R286). -/
def State.portAbort (s : State) (port : Nat) : State :=
  let l := s.ctxs.keysWhere (fun x => x.coll.desc.len ≠ 0 && recHome x.live && recState x.record ≠ csFree
    && recState x.record ≠ csIdle && recState x.record ≠ csFaulted)
  l.foldl (fun s c => if s.usesPort c port || (s.group c).any (fun i => s.usesPort i port) then s.endAndReopen c 1 0 else s) s

end Sys2Proof.Machine
end

