-- ==== Sys2Proof/Machine/Ingress.lean ====
section
/-! DEFINITION. The headstock: the checks of every packet in their order, policers, rank translation and spraying,
admission to the bench, and grains as they arrive (R33, R121 to R139, R148, R165, R166). -/

namespace Sys2Proof.Machine

/-! ## What stands at a headstock -/

/-- The packets of one port and class that are still arriving or held, oldest first. -/
def State.arrivals (s : State) (k : Nat) : List Arriving := s.bench.arriving.get (fun _ => []) k
/-- Replace them. -/
def State.setArrivals (s : State) (k : Nat) (l : List Arriving) : State :=
  s.withBench (fun b => { b with arriving := b.arriving.set (fun _ => []) k l })

/-- Change the descriptor of a packet wherever at its egress port it stands. -/
def State.updatePkt (s : State) (port tc uid : Nat) (f : Pkt → Pkt) : State :=
  let g (p : Pkt) : Pkt := if p.uid = uid then f p else p
  let q := qKey port tc
  let s := s.setQueue q ((s.queue q).map g)
  let s := s.setReleased q ((s.releasedQ q).map g)
  s.setPort port (fun x => { x with
    inProg := x.inProg.map (fun i => { i with pkt := g i.pkt })
    under := x.under.map (fun i => { i with pkt := g i.pkt })
    slots := x.slots.map (fun r => { r with held := r.held.map g }) })

/-- Return one of the credits that a packet's frame used (R136). -/
def State.payCredit (s : State) (port tc : Nat) (a : Arriving) : Arriving × State :=
  if a.owed = 0 then (a, s) else ({ a with owed := a.owed - 1 }, s.returnCredits port tc 1)

/-! ## Grains (R126, R127, R139, R181, R273) -/

/-- The layout code of the grains that an opcode brings to a segment of a context (R181); 0 where they are opaque. -/
def State.arriveLay (s : State) (c kind seg : Nat) (last : Bool) : Nat :=
  if !s.hasColl c then 0 else if kind = 0x12 then s.resultLay c seg last else s.notLay c seg kind last

/-- The bytes of which a last grain of a layout must hold whole fields (R181): 1 for an opaque payload. sparse: its FORMAT, which alone says
so (R291), is not dense. -/
def layUnit (lay : Nat) (sparse : Bool) : Nat :=
  if lay = 0 then 1
  else if bitOf lay 4 then 8
  else if bitOf lay 6 || (sparse && !bitOf lay 7) then max (lay % 16) 4 else max 1 (lay % 16)

/-- The stamp that goes to firmware with a PTP message: a Sync or a Delay_Req has one (R88), whose messageType, the low half of the first byte,
is 0 or 1 (IEEE 1588-2019, which R87 names; PRESUMED, log 47). -/
def ptpStamp (first stamp : Nat) : Nat := if first % 16 ≤ 1 then stamp else 0

/-- Pass one grain of an admitted packet on: to the bench grain allocated for it, which is linked, or to the context as an
arrival. Bytes beyond the valid ones read 0. -/
def State.forwardGrain (s : State) (a : Arriving) (word bytes : Nat) : State :=
  let p := a.pkt
  let n := hdrGrainCount p.hdr
  let len := if a.next + 1 = n then lastBytes (hdrLastLen p.hdr) else 256
  let bytes := bytes % 2 ^ (8 * len)
  match a.grains[a.next]? with
  | none => s
  | some ptr =>
    let g := s.grain ptr
    if a.mode = 1 then
      let c := p.ctx.getD 0
      let kind := hdrOpcode true p.hdr
      let seg := hdrSegment p.hdr
      let last := hdrLast p.hdr && decide (a.next + 1 = n)
      let index := hdrGrainBase p.hdr % 2 ^ 22 + a.next
      let lay := s.arriveLay c kind seg last
      let data := turnGrain (layFields lay (gwFormat word) (bitsOf bytes 32 8)) bytes
      let h := leafHash (jobLeafKey (s.jobRec (p.inPort / 32) p.job p.stamp)) index seg (gwFormat word) len (Blob.mk 256 bytes).bytes
      let nt : Notice := ⟨kind, 0, hdrSrc true p.hdr, some p.inPort, hdrGrainBase p.hdr / 2 ^ 22, index, seg, last, some ptr,
        word, len, h, p.stamp, 0, 0, none⟩
      let s := s.setGrain ptr { g with
        st := .linked, refs := 1, word := word, len := len, lay := lay, data := BitVec.ofNat 2048 data }
      s.setColl c (fun q => { q with pend := q.pend ++ [nt] })
    else
      let s := s.setGrain ptr { g with
        st := .linked, refs := g.refs + 1, word := word, len := len, data := BitVec.ofNat 2048 bytes }
      s.updatePkt p.outPort p.tc p.uid (fun x => { x with
        arrived := x.arrived + 1, burred := x.burred || gwBurr word })

/-- A grain that fails its CRC or has FORMAT 0b11 is burred (R127): the first writes a record, the second counts. -/
def State.checkGrain (s : State) (p : Pkt) (word crc bytes len : Nat) : Nat × State :=
  let odd := gwFormat word = 3
  let s := if odd then s.count (R.ptdPktCnt0 (p.inPort / 32) (p.inPort % 32)) F.PtdPktCnt0.format else s
  if grainCrc word (BitVec.ofNat 2048 bytes) len = crc then (if odd then gwSetBurr word else word, s)
  else
    let d := p.inPort / 32
    let r : ErrRec := { plainRec 0x09 0 2 d (s.dieNow d) with
      part := (s.portPart p.inPort).getD 0x1F, job := some p.job, unit := p.inPort % 32 }
    (gwSetBurr word, s.raise r)

/-- Supply the missing grains of a packet whose link frame ended early: burred grains of zeros (R139); firmware gets zeros. -/
def State.supplyGrains (s : State) (a : Arriving) : Nat → Arriving × State
  | 0 => (a, s)
  | n + 1 =>
    let w := gwSetBurr (gwSetIndex 0 a.next)
    let len := if a.next + 1 = hdrGrainCount a.pkt.hdr then lastBytes (hdrLastLen a.pkt.hdr) else 256
    let s := if a.dropped then s
      else if a.mode = 2 then s.emit (.toFirmware a.pkt.inPort 0x41 (ptpStamp 0 a.pkt.stamp) ⟨len, 0⟩) else s.forwardGrain a w 0
    State.supplyGrains s { a with next := a.next + 1 } n

/-- Return every credit that is still owed for a packet. -/
def State.payAll (s : State) (port tc : Nat) (a : Arriving) : Arriving × State :=
  ({ a with owed := 0 }, s.returnCredits port tc a.owed)

/-- The link frame ends a packet that is not held: fewer or more grains than GRAIN_COUNT count in FORMAT, and missing ones are
supplied (R139). -/
def State.endFrame (s : State) (port tc : Nat) (a : Arriving) : Arriving × State :=
  let n := hdrGrainCount a.pkt.hdr
  let s := if a.dropped || a.next = n then s else s.count (R.ptdPktCnt0 (port / 32) (port % 32)) F.PtdPktCnt0.format
  let (a, s) := s.supplyGrains a (n - a.next)
  let (a, s) := s.payAll port tc a
  ({ a with ended := true }, s)

/-- Whether the last grain of a packet for a context is sparse and its valid bytes split a field: the packet is dropped as FORMAT with it.
Grains of it that have been passed on stay (DEDUCED from R181, R138 and R291, log 13). -/
def State.splits (s : State) (a : Arriving) (word len : Nat) : Bool :=
  decide (a.mode = 1) && decide (a.next + 1 = hdrGrainCount a.pkt.hdr) && decide (gwFormat word ≠ 0)
    && decide (len % layUnit (s.arriveLay (a.pkt.ctx.getD 0) (hdrOpcode true a.pkt.hdr) (hdrSegment a.pkt.hdr) (hdrLast a.pkt.hdr)) true ≠ 0)

/-- One grain of a packet that is not held: checked and passed on, or discarded when the packet is dropped or has had all
its grains; last ends the link frame. -/
def State.acceptGrain (s : State) (port tc : Nat) (a : Arriving) (tag bytes : Nat) (last : Bool) : Arriving × State :=
  let n := hdrGrainCount a.pkt.hdr
  let (a, s) := s.payCredit port tc a
  let (a, s) :=
    if a.next < n && !a.dropped then
      let len := if a.next + 1 = n then lastBytes (hdrLastLen a.pkt.hdr) else 256
      let b := bytes % 2 ^ (8 * len)
      let (w, s) := s.checkGrain a.pkt (tag / 2 ^ 64) (tag % 2 ^ 64) b len
      if a.mode = 2 then ({ a with next := a.next + 1 }, s.emit (.toFirmware port 0x41 (ptpStamp b a.pkt.stamp) ⟨len, b⟩))
      else if s.splits a w len then
        ({ a with next := a.next + 1, dropped := true }, (s.unrefAll (a.grains.drop a.next)).dropCount port a.pkt 2 none)
      else ({ a with next := a.next + 1 }, (s.useInput a.pkt.tc (dPort (port / 32)) (port % 32 / 4)).forwardGrain a w b)
    else ({ a with next := a.next + 1 }, s)
  if last then s.endFrame port tc a else (a, s)

/-- Pass on what arrived while a packet was held. -/
def State.takeRaw (s : State) (port tc : Nat) (a : Arriving) : List (Option (Nat × Nat) × Bool) → Arriving × State
  | [] => ({ a with raw := [] }, s)
  | (g, last) :: rest =>
    let (a, s) := match g with
      | some (tag, bytes) => s.acceptGrain port tc a tag bytes last
      | none => s.endFrame port tc a
    State.takeRaw s port tc a rest

/-! ## Policers (R165, R166) -/

/-- A policer's buckets. -/
def State.pol (s : State) (k : Nat) : PolSt := s.head.pol.get (fun _ => ⟨true, 0, 0, 0⟩) k

/-- The port's current and configured bandwidth, in units of 100 Gb/s (R66, R120). -/
def State.bandwidth (s : State) (port : Nat) : Nat × Nat :=
  let st := R.ptdPortStat (port / 32) (port % 32)
  let lanes := ((List.range 8).filter (fun i => bitOf (s.fld st F.PtdPortStat.lanesActive) i)).length
  let per (r100 : Bool) : Nat := if r100 then 1 else 2
  (lanes * per (s.fld st F.PtdPortStat.rateNow = 1),
    (s.planeOn (port / 32)).width (port / 32) (port % 32) * per ((s.planeOn (port / 32)).rate100 (port / 32) (port % 32)))

/-- One policer's buckets at stamp, and its colour for length l before OVERHEAD: 0 green, 1 yellow, 2 red; with the
tokens that the packet costs. -/
def State.polColour (s : State) (port i l stamp : Nat) : PolSt × Nat × Nat :=
  let d := port / 32
  let cfg := R.ptdPolCfg d i
  let a := R.ptdPolProfA d (s.fld cfg F.PtdPolCfg.profile)
  let b := R.ptdPolProfB d (s.fld cfg F.PtdPolCfg.profile)
  let (cur, conf) := s.bandwidth port
  let rate (r : Nat) : Nat := if s.fld cfg F.PtdPolCfg.scale = 1 then r * cur / max conf 1 else r
  let cir := s.fld a F.PtdPolProfA.cir
  let pir := max cir (s.fld a F.PtdPolProfA.pir)
  let cbs := 1024 * s.fld b F.PtdPolProfB.cbs
  let pbs := 1024 * s.fld b F.PtdPolProfB.pbs
  let x := s.pol (2048 * d + i)
  let dt := stamp - x.last
  let tc := if x.full then cbs else min cbs (x.tc + rate cir * dt)
  let tp := if x.full then pbs else min pbs (x.tp + rate pir * dt)
  let n := (max 1 ((l : Int) + signedOf (s.fld a F.PtdPolProfA.overhead) 9)).toNat
  let x : PolSt := ⟨false, tc, tp, stamp⟩
  (x, if tp < 1024 * n then 2 else if tc < 1024 * n then 1 else 0, 1024 * n)

/-- The at most two policers that check a packet: the lowest that match with JOB_ANY = 0 and with JOB_ANY = 1 (R165). -/
def State.policersFor (s : State) (port tc job : Nat) : List Nat :=
  let d := port / 32
  let base := R.ptdPolCfg d 0
  let idx := (s.regs.filter (fun e => decide (base ≤ e.1) && decide (e.1 < base + 32768) && decide ((e.1 - base) % 16 = 0))).map
    (fun e => (e.1 - base) / 16)
  let hit (any_ i : Nat) : Bool :=
    let r := R.ptdPolCfg d i
    decide (s.fld r F.PtdPolCfg.en = 1) && decide (s.fld r F.PtdPolCfg.jobAny = any_)
      && decide (s.fld r F.PtdPolCfg.portLane = port % 32) && bitOf (s.fld r F.PtdPolCfg.classMask) tc
      && (any_ = 1 || s.fld r F.PtdPolCfg.job = job)
  if (s.planeOn d).width d (port % 32) = 0 then []
  else (idx.find? (hit 0)).toList ++ (idx.find? (hit 1)).toList

/-- Police a packet: answers whether it is admitted; each policer counts its own colour (R166). -/
def State.police (s : State) (port tc job l stamp : Nat) : Bool × State :=
  let ps := (s.policersFor port tc job).map (fun i => (i, s.polColour port i l stamp))
  let red := ps.any (fun p => p.2.2.1 = 2)
  let cnt := R.ptdPolCnt (port / 32)
  (!red, ps.foldl (fun (s : State) p =>
    let (i, x, col, n) := p
    let x := if red then x
      else { x with tp := x.tp - n, tc := if col = 0 then x.tc - n else x.tc }
    let s := { s with head := { s.head with
      pol := s.head.pol.set (fun _ => ⟨true, 0, 0, 0⟩) (2048 * (port / 32) + i) x } }
    if red then (if col = 2 then s.count (cnt i) F.PtdPolCnt.red else s)
    else if col = 1 then s.count (cnt i) F.PtdPolCnt.yellow else s.count (cnt i) F.PtdPolCnt.green) s)

/-! ## Rank translation (R130 to R132) -/

/-- The cached entries of a port die, most recently used first. -/
def State.rankCache (s : State) (d : Nat) : List RankEntry := s.head.cache.get (fun _ => []) d
/-- Replace them. -/
def State.setRankCache (s : State) (d : Nat) (l : List RankEntry) : State :=
  { s with head := { s.head with cache := s.head.cache.set (fun _ => []) d l } }

/-- Whether a cached entry is that of a rank of a job under a table base. -/
def RankEntry.isFor (e : RankEntry) (job base rank : Nat) : Bool :=
  decide (e.job = job) && decide (e.base = base) && decide (e.rank = rank)

/-- A cached entry, if there. -/
def State.cached (s : State) (d job base rank : Nat) : Option RankEntry :=
  (s.rankCache d).find? (fun e => e.isFor job base rank)

/-- An entry is used: it becomes the most recent. -/
def State.touchRank (s : State) (d job base rank : Nat) : State :=
  match s.cached d job base rank with
  | none => s
  | some e => s.setRankCache d (e :: (s.rankCache d).erase e)

/-- Load an entry into the cache of 32,768; the least recently used one that is not pinned gives way. -/
def State.loadRank (s : State) (d : Nat) (e : RankEntry) : State :=
  let l := (s.rankCache d).filter (fun x => !x.isFor e.job e.base e.rank)
  let l := if l.length < 32768 then l
    else match (l.reverse.find? (fun x => !x.pinned)) with
      | some v => l.erase v
      | none => l.dropLast
  s.setRankCache d (e :: l)

/-- Change or drop cached entries on every port die, and show PINNED (R140). -/
def State.mapRanks (s : State) (f : RankEntry → Option RankEntry) : State :=
  let dies := s.head.cache.map Prod.fst
  let s := { s with head := { s.head with cache := s.head.cache.filterMap (fun (e : Nat × List RankEntry) =>
    let l := e.2.filterMap f
    if l = [] then none else some (e.1, l)) } }
  dies.foldl (fun (s : State) d =>
    s.setFld (R.ptdRtcStat d) F.PtdRtcStat.pinned ((s.rankCache d).filter (fun e => e.pinned)).length) s

/-- The opcodes that name a context from an endpoint (R131). -/
def ctxOpcode (op : Nat) : Bool := op = 0x10 || op = 0x13 || op = 0x14 || op = 0x42
/-- The opcodes that come from a peer part, name a context and skip rank translation (R278): CARRY, RESULT and CTX_EVENT. -/
def peerOpcode (op : Nat) : Bool := op = 0x11 || op = 0x12 || op = 0x43

/-- Whether a port is endpoint-facing (R104). -/
def State.facesEndpoint (s : State) (p : Nat) : Bool := !s.isEthernet p && peerKind (s.port p).identity = 1

/-- The ranks that step 7 looks up for a packet: destination, then source. -/
def State.ranksOf (s : State) (p : Pkt) : List Nat :=
  let op := hdrOpcode p.data p.hdr
  let src := if s.facesEndpoint p.inPort then [hdrSrc p.data p.hdr] else []
  let l := if peerOpcode op then [] else if ctxOpcode op then src
    else if p.data && hdrCircuit p.hdr then [] else hdrDst p.data p.hdr :: src
  l.filter (fun r => decide (r < jobRanks (s.jobRec (p.inPort / 32) p.job p.stamp)))

/-- The ranks of a packet whose entries are not cached. -/
def State.ranksMissing (s : State) (p : Pkt) : List Nat :=
  let b := s.jobRec (p.inPort / 32) p.job p.stamp
  (s.ranksOf p).filter (fun r => (s.cached (p.inPort / 32) p.job (jobRankBase b) r).isNone)

/-- Read the missing entries of a packet from the near tier into the cache. -/
def State.loadRanks (s : State) (p : Pkt) : State :=
  let b := s.jobRec (p.inPort / 32) p.job p.stamp
  (s.ranksMissing p).foldl (fun (s : State) r =>
    s.loadRank (p.inPort / 32) ⟨p.job, jobRankBase b, r, s.rankEntry b r, false⟩) s

/-- A rank's entry as the lookup gives it: none beyond RANK_COUNT or without VALID. -/
def State.lookRank (s : State) (p : Pkt) (rank : Nat) : Option Nat :=
  let b := s.jobRec (p.inPort / 32) p.job p.stamp
  if jobRanks b ≤ rank then none
  else match s.cached (p.inPort / 32) p.job (jobRankBase b) rank with
    | some e => if reValid e.entry then some e.entry else none
    | none => none

/-! ## Where a packet goes (R129, R130, R133, R135) -/

/-- The ports of an uplink group under the table in force at a stamp (R130, R132). -/
def State.upgroup (s : State) (d g stamp : Nat) : List Nat :=
  let k := 256 * d + g
  if stamp < s.head.upgrpsTick then s.head.upgrpsOld.get (fun _ => []) k else s.head.upgrps.get (fun _ => []) k

/-- Whether a port is an eligible egress for a partition. -/
def State.eligiblePort (s : State) (pl : Plane) (part port : Nat) : Bool :=
  decide (port < 1024) && s.portUp port && decide (pl.partOfPort (port / 32) = some part)

/-- The least of a list of numbers; 0 for none. -/
def leastOf : List Nat → Nat
  | [] => 0
  | x :: xs => xs.foldl min x

/-- The member of an uplink group that a packet takes: the hashed one in TC6 and TC7 (R129), else the one with the fewest
grains queued in its class, ties broken by the rotation pointer (R133). -/
def State.pickUplink (s : State) (p : Pkt) (g part : Nat) : Option Nat × State :=
  let d := p.inPort / 32
  let all := s.upgroup d g p.stamp
  let el := all.filter (s.eligiblePort (s.planeOf d p.stamp) part)
  if el = [] then (none, s)
  else if 5 ≤ p.tc then
    let v := p.job * 2 ^ 40 + hdrSrc p.data p.hdr * 2 ^ 20 + hdrDst p.data p.hdr
    let sorted := (List.range 1024).filter (fun q => el.contains q)
    (sorted[crc16 (beBytes 7 v) % sorted.length]?, s)
  else
    let low := leastOf (el.map (fun q => s.depth (qKey q p.tc)))
    let ties := el.filter (fun q => s.depth (qKey q p.tc) = low)
    match ties with
    | [q] => (some q, s)
    | _ =>
      let k := 256 * d + g
      let r := s.head.rotation.get (fun _ => 0) k % all.length
      let order := all.drop r ++ all.take r
      match order.find? (fun q => ties.contains q) with
      | none => (none, s)
      | some q => (some q, { s with head := { s.head with
          rotation := s.head.rotation.set (fun _ => 0) k ((all.idxOf q + 1) % all.length) } })

/-- The circuit of a plane with a number: its partition and place (R135). -/
def Plane.findCircuit (pl : Plane) (id : Nat) : Option (Nat × Nat) :=
  ((List.range 16).filter pl.partDefined).findSome? (fun q =>
    ((List.range (pl.circuitCount q)).find? (fun k => pl.circuit q k 0 2 = id)).map (fun k => (q, k)))

/-- Where step 7 to step 10 of R138 send a packet. -/
inductive Route where
  | drop (reason : Nat)
  | context (c : Nat)
  | egress (port : Nat) (epid : Option Nat)
  deriving DecidableEq, Repr

/-- Step 9 of R138 for a packet that names a context (R128, R181, R278); whether a last grain turns out to be sparse is checked with it. -/
def State.routeContext (s : State) (p : Pkt) : Route :=
  let c := hdrContext p.data p.hdr
  let op := hdrOpcode p.data p.hdr
  let x := s.ctx c
  let d := x.coll.desc
  let parent := !recTop x.live && decide (dParentPort d = p.inPort)
  let child := (List.range (dEntries d)).any (fun i => eChild (dEntry d i) && ePort (dEntry d i) = p.inPort)
  let named := if op = 0x11 then child else if op = 0x43 then parent || child else if peerOpcode op then parent else true
  if recState x.record = csFree || recJob x.record ≠ p.job || !named || (peerOpcode op && !s.hasColl c) then .drop 7
  else if p.data && lastBytes (hdrLastLen p.hdr) % layUnit (s.arriveLay c op (hdrSegment p.hdr) (hdrLast p.hdr)) false ≠ 0 then
    .drop 2
  else .context c

/-- Steps 7 to 10 of R138, the seam aside. -/
def State.routeTables (s : State) (p : Pkt) : Route × State :=
  let op := hdrOpcode p.data p.hdr
  let rec_ := s.jobRec (p.inPort / 32) p.job p.stamp
  let pl := s.planeOf (p.inPort / 32) p.stamp
  let d := p.inPort / 32
  let s := (s.ranksOf p).foldl (fun (s : State) r => s.touchRank d p.job (jobRankBase rec_) r) s
  let peer := s.port p.inPort
  let srcOk : Bool := !s.facesEndpoint p.inPort
    || (match s.lookRank p (hdrSrc p.data p.hdr) with
      | some e => !reRemote e && decide (rePort e = p.inPort) && decide (reEpid e = peer.identity % 2 ^ 24)
      | none => false)
  let hopsBad (port : Nat) : Bool := s.facesPart port && decide (hdrHops p.data p.hdr = 0)
  if peerOpcode op then (s.routeContext p, s)
  else if ctxOpcode op then (if srcOk then s.routeContext p else .drop 6, s)
  else if p.data && hdrCircuit p.hdr then
    let id := hdrCircuitId p.hdr
    match pl.findCircuit id with
    | none => (.drop 9, s)
    | some (q, k) =>
      let out := pl.circuit q k 4 2
      if pl.circuit q k 2 2 ≠ p.inPort || !(rec_.le 208 2 ≤ id && id < rec_.le 208 2 + rec_.le 210 2) then (.drop 9, s)
      else if hopsBad out then (.drop 8, s)
      else if !s.eligiblePort pl (rec_.byte 3) out then (.drop 0xD, s)
      else (.egress out (if s.facesEndpoint out then some ((s.port out).identity % 2 ^ 24) else none), s)
  else match s.lookRank p (hdrDst p.data p.hdr) with
    | none => (.drop 5, s)
    | some e =>
      if !srcOk then (.drop 6, s)
      else if reRemote e then
        if hdrHops p.data p.hdr = 0 then (.drop 8, s)
        else
          let (q, s) := s.pickUplink p (reGroup e) (rec_.byte 3)
          match q with
          | some q => (.egress q (some (reEpid e)), s)
          | none => (.drop 0xD, s)
      else if hopsBad (rePort e) then (.drop 8, s)
      else if s.eligiblePort pl (rec_.byte 3) (rePort e) then (.egress (rePort e) (some (reEpid e)), s)
      else (.drop 0xD, s)

/-- Whether a packet may go to an egress port as the seam stands: within its half, or across a joined seam with a stamp from its
joining on (R368, R369). -/
def State.seamOpen (s : State) (p : Pkt) (out : Nat) : Bool :=
  dieHalf (p.inPort / 32) = dieHalf (out / 32) || (s.sup.seam = .joined && s.sup.joinTick ≤ p.stamp)

/-- Steps 7 to 10 of R138: a packet whose egress lies across a seam that is closed to it is dropped as NO_ROUTE (R368). -/
def State.routePkt (s : State) (p : Pkt) : Route × State :=
  match s.routeTables p with
  | (.egress q e, s) => (if s.seamOpen p q then .egress q e else .drop 0xD, s)
  | r => r

/-! ## Admission (R147, R148, R152, R156, R329) -/

/-- Count a packet dropped at admission in TAIL of its queue (R148). -/
def State.dropTail (s : State) (p : Pkt) (q : Nat) : State :=
  (s.captureDrop p 3 0xF (some q)).count (qdropReg q) F.BchQdrop.tail

/-- Whether a job's grain quota refuses n more grains (R329). -/
def State.overGrains (s : State) (d j stamp n : Nat) : Bool := (s.jobRec d j stamp).le 48 4 < s.jobGrains j + n

/-- Judge and allocate n grains for a packet of a port: lossless ones on their reservation, lossy ones by the level of the
pool and the quotas. Answers the pointers, or none with the packet to be dropped. -/
def State.admitGrains (s : State) (p : Pkt) (half pool n : Nat) (lossless : Bool) : Option (List Nat) × State :=
  let req := p.inPort
  let pl := s.benchPlaneAt (portHalf req) p.stamp
  if lossless then
    let occ := s.occSeen pool
    let hard := (s.poolPlane pool).poolField pool 4
    let s := if hard < occ + n then (s.pushOut pool 8 (occ + n - hard)).2 else s
    match s.allocN half req pool (some p.job) n with
    | some (l, s) => (some l, s)
    | none => (none, s)
  else if !s.quotaIn pl req n then (none, s)
  else if s.overGrains (p.inPort / 32) p.job p.stamp n then (none, s.count (R.svJobHit p.job) F.SvJobHit.grainHit)
  else
    let (ok, s) := s.admitLossy pl pool req p.tc n
    if !ok then (none, s)
    else match s.allocN half req pool (some p.job) n with
      | some (l, s) => (some l, s)
      | none => (none, s)

/-- Mark an arriving packet as dropped: its grains are discarded as they come. -/
def Arriving.drop (a : Arriving) : Arriving := { a with dropped := true, held := false }

/-- Link a routed packet to the tail of its egress queue. A control packet takes one grain, for its payload. -/
def State.admitEgress (s : State) (a : Arriving) (port : Nat) (epid : Option Nat) : Arriving × State :=
  let p := a.pkt
  let q := qKey port p.tc
  let half := portHalf port
  let pl := s.planeOf (port / 32) p.stamp
  let lossless := pl.lossless ((pl.partOfPort (port / 32)).getD 0) p.tc
  let n := if p.data then hdrGrainCount p.hdr else 1
  if s.descFree half = 0 then (a.drop, (s.dropTail p q).emit (.benchEvent 1 half 0))
  else
    let (l, s) := s.admitGrains p half ((s.benchPlaneAt half p.stamp).queuePool q) n lossless
    match l with
    | none => (a.drop, if lossless then (s.dropTail p q).emit (.benchEvent 2 half 0) else s.dropTail p q)
    | some l =>
      let s := if p.data then s else l.foldl (fun (s : State) g => s.setGrain g { s.grain g with
        st := .linked, refs := 1, len := 48, data := BitVec.ofNat 2048 p.payload }) s
      let x : Pkt := { p with
        outPort := port, epid := epid, grains := l, arrived := (if p.data then 0 else 1), linkTick := s.tb.tick }
      ({ a with pkt := x, grains := l, held := false }, s.setQueue q (s.queue q ++ [x]))

/-- A control packet for a context: a post, or a notice between parts, which reaches the context as its own command (R283). -/
def State.ctlToContext (s : State) (p : Pkt) (c : Nat) : State :=
  let b (i n : Nat) : Nat := bitsOf p.payload (8 * (48 - i - n)) (8 * n)
  if hdrOpcode false p.hdr = 0x43 then
    s.emit (.localEvent c (!recTop (s.ctx c).live && decide (dParentPort (s.ctx c).coll.desc = p.inPort)) p.payload)
  else
    let src := hdrSrc false p.hdr
    match b 0 1 with
    | 1 => s.answerQuery c src (b 4 4)
    | 2 => s.arrivePost c (postNotice 2 src (b 4 4) 0)
    | 3 => s.arrivePost c (postNotice 3 src (b 4 4) (b 16 32))
    | _ => s.collCount c F.LtdCollStat.refused

/-- Take a packet for a context: its grains come from the pool of its ingress port, in the half of the context's home
lathe (DEDUCED from R147 and R32, log 13). -/
def State.admitContext (s : State) (a : Arriving) (c : Nat) : Arriving × State :=
  let p := { a.pkt with ctx := some c }
  if !p.data then ({ a with pkt := p, held := false }, s.ctlToContext p c)
  else
    let half := (s.ctx c).home / 12
    let pl := s.planeOf (p.inPort / 32) p.stamp
    let lossless := pl.lossless ((pl.partOfPort (p.inPort / 32)).getD 0) p.tc
    let pool := (s.benchPlaneAt (portHalf p.inPort) p.stamp).reqPool p.inPort
    let (l, s) := s.admitGrains p half pool (hdrGrainCount p.hdr) lossless
    match l with
    | none =>
      let s := s.captureDrop p 3 0xF none
      (a.drop, if lossless then s.emit (.benchEvent 2 half 0) else s)
    | some l => ({ a with pkt := p, mode := 1, grains := l, held := false }, s)

/-- Steps 7 to 10 of R138 and admission, for a packet whose rank entries are at hand. -/
def State.resumePkt (s : State) (a : Arriving) : Arriving × State :=
  let (r, s) := s.routePkt a.pkt
  match r with
  | .drop reason => (a.drop, s.dropCount a.pkt.inPort a.pkt reason none)
  | .context c => s.admitContext a c
  | .egress port epid => s.admitEgress a port epid

/-- The reservations of an arrival's grains are given up: its grains are allocated now, or it is dropped (R147, R156). -/
def State.endResv (s : State) (port tc : Nat) (a : Arriving) : Arriving × State := ({ a with resv := 0 }, s.unreserve port tc a.resv)

/-- Resume one packet and pass on what arrived of it. -/
def State.resumeArrival (s : State) (port tc : Nat) (a : Arriving) : Arriving × State :=
  let (a, s) := s.endResv port tc a
  let (a, s) := s.resumePkt a
  let raw := a.raw
  let (a, s) := s.takeRaw port tc { a with raw := [] } raw
  if a.pkt.data then (a, s) else s.payAll port tc a

/-- Keep of a class's arrivals those that are not finished. -/
def State.dropFinished (s : State) (k : Nat) : State :=
  s.setArrivals k ((s.arrivals k).filter (fun a => a.held || !a.ended))

/-- Put a changed arrival in its place; a finished one leaves. -/
def State.setArrival (s : State) (k : Nat) (b : Arriving) : State :=
  (s.setArrivals k ((s.arrivals k).map (fun x => if x.pkt.uid = b.pkt.uid then b else x))).dropFinished k

/-- Resume the held packets of a class, in order, while their entries are at hand (R132, R152). -/
def State.resumeHeld (s : State) (port tc : Nat) : List Arriving → List Arriving → List Arriving × State
  | done, [] => (done, s)
  | done, a :: rest =>
    if !a.held then State.resumeHeld s port tc (done ++ [a]) rest
    else if s.ranksMissing a.pkt = [] then
      let (a, s) := s.resumeArrival port tc a
      State.resumeHeld s port tc (done ++ [a]) rest
    else (done ++ a :: rest, s)

/-! ## Steps 1 to 6 (R138) -/

/-- Step 3: the job is in force at the stamp, on this port (R328). -/
def State.jobPasses (s : State) (j port stamp : Nat) : Bool :=
  let x := s.jobOn (port / 32) j
  x.state ≠ .free && x.state ≠ .admitting && decide (x.admitTick ≤ stamp)
    && (match x.endTick with | some e => decide (stamp < e) | none => true)
    && decide ((s.planeOf (port / 32) stamp).partOfPort (port / 32) = some ((s.jobRec (port / 32) j stamp).byte 3))

/-- Whether a port takes PTP packets (R88). -/
def State.ptpPort (s : State) (port : Nat) : Bool :=
  s.fld R.tbPtpCtl F.TbPtpCtl.en = 1 && s.fld R.tbPtpCtl F.TbPtpCtl.port = port

/-- Step 6: OPCODE against kind, peer and personality (R128). -/
def State.opcodeOk (s : State) (port : Nat) (data : Bool) (h : Nat) : Bool :=
  let eth := s.isEthernet port
  let e := s.facesEndpoint port
  let p := !eth && s.facesPart port
  let tc := hdrTc data h
  match hdrOpcode data h with
  | 0x01 => data && (e || p || eth)
  | 0x10 => data && e
  | 0x11 => data && p
  | 0x12 => data && p
  | 0x13 => data && e
  | 0x14 => data && e
  | 0x15 => data && p
  | 0x40 => !data && (e || p || eth)
  | 0x41 => (if data then tc = 6 && hdrGrainCount h = 1 else tc = 7) && s.ptpPort port
  | 0x42 => !data && tc = 6 && e
  | 0x43 => !data && tc = 6 && p
  | _ => false

/-- What the first six steps make of a packet. -/
inductive Verdict where
  | drop (reason : Nat)
  | policed
  | firmware
  | pass
  deriving DecidableEq, Repr

/-- Steps 1 to 6 of R138. creditOk: the peer had the credits (R136); len: the length that policers count. -/
def State.firstSteps (s : State) (p : Pkt) (creditOk : Bool) (len : Nat) : Verdict × State :=
  let port := p.inPort
  let ptp := hdrOpcode p.data p.hdr = 0x41
  if !hcrcOk p.data p.hdr || (!p.data && !pcrcOk p.hdr p.payload) then (.drop 1, s)
  else if !(if p.data then dataFormatOk p.hdr (s.facesEndpoint port || s.isEthernet port) else ctlFormatOk p.hdr) then (.drop 2, s)
  else if !ptp && !s.jobPasses p.job port p.stamp then (.drop 3, s)
  else if !creditOk then (.drop 0xA, s)
  else
    let (ok, s) := s.police port p.tc p.job len p.stamp
    if !ok then (.policed, s)
    else if !s.opcodeOk port p.data p.hdr then (.drop 4, s)
    else if ptp then (.firmware, s)
    else (.pass, s)

/-- A received packet as a descriptor. -/
def State.rxPkt (s : State) (port : Nat) (data : Bool) (hdr payload : Nat) : Pkt :=
  { uid := s.bench.nextUid, data := data, hdr := hdr, payload := payload, stamp := s.dieNow (dPort (port / 32)), inPort := port,
    outPort := port, tc := hdrTc data hdr, job := hdrJob data hdr, grains := [], arrived := 0, epid := none,
    unordered := false, heldTick := 0, began := false, linkTick := 0, spillAt := none,
    fromPart := s.facesPart port, ctx := none, burred := false, limit := none }

/-- Sample or mirror a packet into the shavings ring (R159). -/
def State.sampleCapture (s : State) (p : Pkt) (q : Option Nat) : State :=
  let ctl := R.bchShavCtl (8 * portHalf p.inPort)
  let n := s.fld ctl F.BchShavCtl.sampleLog2
  let c := s.bench.sampleCtr.get (fun _ => 0) p.inPort
  let s := s.withBench (fun b => { b with sampleCtr := b.sampleCtr.set (fun _ => 0) p.inPort ((c + 1) % 2 ^ 31) })
  if n ≠ 0 && c % 2 ^ n = 0 then s.capturePkt p 1 0 q
  else if s.fld ctl F.BchShavCtl.mirrorEn = 1 && p.data && s.fld ctl F.BchShavCtl.mirrorJob = p.job then s.capturePkt p 2 0 q
  else s

/-- A packet's header has arrived: the checks, the lookup or the wait for it, and admission. -/
def State.receivePkt (s : State) (p : Pkt) (frameTc owed : Nat) (creditOk : Bool) (len : Nat) : State :=
  let port := p.inPort
  let k := qKey port frameTc
  let s := s.withBench (fun b => { b with nextUid := b.nextUid + 1 })
  let a : Arriving := ⟨p, 0, [], 0, owed, false, false, !p.data, [], owed⟩
  let (v, s) := s.firstSteps p creditOk len
  let free (s : State) : Arriving × State := s.endResv port frameTc a
  let (a, s) : Arriving × State := match v with
    | .drop reason => let (a, s) := free s; (a.drop, s.dropCount port p reason none)
    | .policed => let (a, s) := free s; (a.drop, s.captureDrop p 3 0 none)
    | .firmware =>
      let (a, s) := free s
      if p.data then ({ a with mode := 2 }, s)
      else
        let b := Blob.ofBytes (beBytes 48 p.payload)
        (a, s.emit (.toFirmware port 0x41 (ptpStamp b.val p.stamp) b))
    | .pass =>
      let miss := s.ranksMissing p
      let r := R.ptdRtcStat (port / 32)
      let s := s.countBy r F.PtdRtcStat.misses miss.length
      let s := if miss ≠ [] && p.tc = 7 then s.count r F.PtdRtcStat.tc7Miss else s
      if miss ≠ [] || (s.arrivals k).any (fun x => x.held) then ({ a with held := true }, s)
      else
        let (a, s) := free s
        s.resumePkt a
  let (a, s) := if a.held || p.data then (a, s) else s.payAll port frameTc a
  let s := s.sampleCapture a.pkt
    (if a.dropped || a.held || a.mode ≠ 0 || a.pkt.ctx.isSome || v = .firmware then none else some (qKey a.pkt.outPort a.pkt.tc))
  (s.setArrivals k (s.arrivals k ++ [a])).dropFinished k

/-- One grain of a port and class, for the oldest packet of which grains are still to come. -/
def State.grainArrives (s : State) (port tc tag bytes : Nat) (last : Bool) : State :=
  let k := qKey port tc
  match (s.arrivals k).find? (fun a => !a.ended) with
  | none => s
  | some a =>
    let (b, s) : Arriving × State :=
      if a.held then ({ a with raw := a.raw ++ [(some (tag, bytes), last)], ended := last }, s)
      else s.acceptGrain port tc a tag bytes last
    s.setArrival k b

/-- The frame of the oldest packet of which grains are still to come ends without a further one. -/
def State.frameEnds (s : State) (port tc : Nat) : State :=
  let k := qKey port tc
  match (s.arrivals k).find? (fun a => !a.ended) with
  | none => s
  | some a => if a.held then s.setArrival k { a with raw := a.raw ++ [(none, true)], ended := true }
    else
      let (b, s) := s.endFrame port tc a
      s.setArrival k b

/-- A packet's header, or a whole control packet, arrives on a Druvo-native port that is UP; the frame's own framing gives its class and
grain count, by which credits are charged (R136). A frame without a grain ends here (R139). -/
def State.packetIn (s : State) (q t : Nat) (frameGrains : Nat) (raw : RawPacket) : State :=
  if !s.portUp q || s.isEthernet q then s
  else
    let (data, hdr, payload) : Bool × Nat × Nat := match raw with
      | .data h => (true, h.toNat, 0)
      | .ctl h b => (false, h.toNat, b.toNat)
    let p := s.rxPkt q data hdr payload
    let cost := if data then frameGrains else 1
    let have_ := nth (s.port q).given t
    let used := min cost have_
    let s := s.setPort q (fun x => { x with given := setNth x.given t (have_ - used) })
    let s := s.receivePkt p t used (decide (cost ≤ have_)) p.length
    if data && frameGrains = 0 then s.frameEnds q t else s

/-- PACKET_INGRESS (R93, R122 to R138). -/
def execPacketIngress (port : Port) (frameTc : Tc) (frameGrains : Fin 64) (raw : RawPacket) (s : State) :
    Host.Outcome State Fault Refusal :=
  .next (s.packetIn port.val frameTc.val frameGrains.val raw)

/-- RANK_LOOKUP_RETURN (R132, R139). The near-tier read for the oldest held packet of a port and class returns; an
uncorrectable error drops the packet. -/
def execRankLookupReturn (port : Port) (tc : Tc) (burred : Bool) (s : State) : Host.Outcome State Fault Refusal :=
  let q := port.val
  let k := qKey q tc.val
  match (s.arrivals k).find? (fun a => a.held) with
  | none => .next s
  | some a =>
    let d := q / 32
    if burred then
      let r : ErrRec := { plainRec 0x06 0 2 d (s.dieNow d) with
        part := (s.portPart q).getD 0x1F, job := some a.pkt.job, unit := q % 32 }
      let s := (s.raise r).dropCount q a.pkt 5 none
      let raw := a.raw
      let (a, s) := s.endResv q tc.val a
      let (b, s) := s.takeRaw q tc.val { a.drop with raw := [] } raw
      let (b, s) := if b.pkt.data then (b, s) else s.payAll q tc.val b
      let s := s.setArrival k b
      let (l, s) := s.resumeHeld q tc.val [] (s.arrivals k)
      .next ((s.setArrivals k l).dropFinished k)
    else
      let s := s.loadRanks a.pkt
      let (l, s) := s.resumeHeld q tc.val [] (s.arrivals k)
      .next ((s.setArrivals k l).dropFinished k)

/-- A grain and its tag arrive on a Druvo-native port that is UP; last: the link frame ends the packet here. -/
def State.grainIn (s : State) (q t : Nat) (tag data : Nat) (last : Bool) : State :=
  if !s.portUp q || s.isEthernet q then s else s.grainArrives q t tag data last

/-- GRAIN_INGRESS (R33, R126, R127, R139). -/
def execGrainIngress (port : Port) (tc : Tc) (tag : BitVec 128) (data : Grain) (last : Bool) (s : State) :
    Host.Outcome State Fault Refusal :=
  .next (s.grainIn port.val tc.val tag.toNat data.toNat last)

/-- A port fails in mid-packet: what is still arriving is completed with burred grains, and no credit is owed any more (R139,
R154). -/
def State.failArrivals (s : State) (port : Nat) : State :=
  (List.range 8).foldl (fun (s : State) tc =>
    let k := qKey port tc
    (s.arrivals k).foldl (fun (s : State) a =>
      if a.ended then s.setArrival k { a with owed := 0 }
      else (s.setArrival k { a with owed := 0 }).frameEnds port tc) s) s

/-! ## Ethernet frames (R33, R101, R137) -/

/-- The grains of a Druvo packet in a frame, regenerated: words with INDEX alone, and the CRC that the part computes. -/
def etherGrains (b : Blob) (n lastLen : Nat) : List (Nat × Nat × Bool) :=
  (List.range n).filterMap (fun i =>
    let len := if i + 1 = n then lastLen else 256
    let off := 18 + 32 + 256 * i
    if b.len < off + 4 + len then none
    else
      let w := gwSetIndex 0 i
      let v := b.le off len
      some (w * 2 ^ 64 + grainCrc w (BitVec.ofNat 2048 v) len, v, decide (i + 1 = n)))

/-- A big-endian field of a frame. -/
def frameBe (frame : Blob) (i n : Nat) : Nat := (Blob.bytesFrom frame i n).foldl (fun a x => 256 * a + x) 0

/-- A priority-flow-control frame, the MAC control frame of opcode 0x0101: each priority that its class vector names is paused for its time in
quanta of 512 bit times at the port's bandwidth, or resumed by a time of 0 (IEEE 802.1Qbb, which R101 names; PRESUMED, log 52). -/
def State.pauseIn (s : State) (q : Nat) (frame : Blob) : State :=
  let rate := 100 * (s.bandwidth q).1
  let till (i : Nat) : Nat := s.tb.tick + (512 * frameBe frame (18 + 2 * i) 2 + rate - 1) / max rate 1
  s.setPort q (fun x => { x with
    paused := (List.range 8).map (fun i => if bitOf (frameBe frame 16 2) i then till i else nth x.paused i) })

/-- A whole frame has arrived on an Ethernet port that is UP, from its destination address to its frame check sequence. A frame whose check
fails, or of a length that the MAC does not accept, is discarded. -/
def State.frameIn (s : State) (q etherType : Nat) (fcsOk : Bool) (frame : Blob) : State :=
  if !s.portUp q || !s.isEthernet q || !fcsOk || frame.len < 64 || 9216 < frame.len then s
  else
    let stamp := s.dieNow (dPort (q / 32))
    if etherType = 0x88CC then s.emit (.toFirmware q etherType stamp frame)
    else if etherType = 0x88F7 && s.ptpPort q then
      let first := frame.byte (if frameBe frame 12 2 = 0x88F7 then 14 else 18)
      s.emit (.toFirmware q etherType (ptpStamp first stamp) frame)
    else if etherType = 0x8808 && frameBe frame 14 2 = 0x0101 then s.pauseIn q frame
    else if etherType ≠ (s.planeOn (q / 32)).etherType || etherType = 0x88F7 then
      s.dropCount q (s.rxPkt q true 0 0) 0xC none
    else
      let be := frameBe frame
      let data := bitOf (frame.byte 18) 3
      let p := if data then s.rxPkt q true (be 18 32) 0 else s.rxPkt q false (be 18 16) (be 34 48)
      let s := s.receivePkt p p.tc 0 true frame.len
      if !data then s
      else
        let l := etherGrains frame (hdrGrainCount p.hdr) (lastBytes (hdrLastLen p.hdr))
        let s := l.foldl (fun (s : State) g => s.grainArrives q p.tc g.1 g.2.1 g.2.2) s
        if l.length < hdrGrainCount p.hdr || l = [] then s.frameEnds q p.tc else s

/-- ETHERNET_FRAME_INGRESS (R33, R88, R101, R137). -/
def execEthernetFrameIngress (port : Port) (etherType : Nat) (fcsOk : Bool) (frame : Blob) (s : State) :
    Host.Outcome State Fault Refusal :=
  .next (s.frameIn port.val etherType fcsOk frame)

/-! ## PTP (R87, R88) -/

/-- PTP_MESSAGE (R88). A message that arrives is a packet or frame like any other: on the named port while EN = 1 it passes steps 1, 2, 4, 5 and
6 of R138 and goes to firmware; else it is dropped as OPCODE, or as ETH_OTHER on an Ethernet port. One that firmware sends leaves on the
named port while EN = 1 and the port is UP, and firmware learns the egress stamp of a Sync or a Delay_Req (beside the queues: DESIGN CHOICE,
log 47). -/
def execPtpMessage (port : Port) (form : PtpForm) (hdr : BitVec 256) (fcsOk : Bool) (s : State) : Host.Outcome State Fault Refusal :=
  let q := port.val
  match form with
  | .ctl payload =>
    let h := hdr.setWidth 128
    .next (s.packetIn q (hdrTc false h.toNat) 0 (.ctl h payload))
  | .data tag grain =>
    let t := hdrTc true hdr.toNat
    .next ((s.packetIn q t 1 (.data hdr)).grainIn q t tag.toNat grain.toNat true)
  | .ether b => .next (s.frameIn q 0x88F7 fcsOk b)
  | .sent b =>
    if s.portUp q && s.ptpPort q then .next (s.emit (.ptpSent q (ptpStamp b.val (s.dieNow (dPort (q / 32)))) b)) else .next s

end Sys2Proof.Machine
end

