-- ==== Sys2Proof/Machine/Links.lean ====
section
/-! DEFINITION. Lanes, ports and Druvo links: the link state machine, negotiation, link replay, width and rate changes,
sparing, and the lane and port commands (R98 to R120, R387). -/

namespace Sys2Proof.Machine

/-! ## Lanes -/

/-- PTD_LANE_STAT of a physical lane. -/
def laneStat (d n : Nat) : Nat := R.ptdLaneStat d n
/-- LSTATE of a physical lane. -/
def State.lstate (s : State) (d n : Nat) : Nat := s.fld (laneStat d n) F.PtdLaneStat.lstate
/-- Write LSTATE. -/
def State.setLstate (s : State) (d n v : Nat) : State := s.setFld (laneStat d n) F.PtdLaneStat.lstate v
/-- A physical lane that reads FAILED. -/
def State.laneFailed (s : State) (d n : Nat) : Bool := s.lstate d n = 5
/-- A physical lane that is not there: fused off, or on a die that is (R25, R28). -/
def State.laneAbsent (s : State) (d n : Nat) : Bool :=
  s.ptdOff d || bitOf (F.GlbUnitmapPtd.laneOff.get (s.fuses.ptdOf d)) n
/-- A physical lane that carries nothing: FAILED or not there. -/
def State.laneBad (s : State) (d n : Nat) : Bool := s.laneFailed d n || s.laneAbsent d n
/-- The attempt to lock a lane's synthesiser that runs. -/
def State.lockTry (s : State) (d n : Nat) : Nat := s.lanes.get (fun _ => 0) (34 * d + n)
/-- Set it. -/
def State.setLockTry (s : State) (d n v : Nat) : State := { s with lanes := s.lanes.set (fun _ => 0) (34 * d + n) v }
/-- What the last TX command set a lane's transmitter to: 0 idle, 1 data, 3 PRBS31. -/
def State.txMode (s : State) (d n : Nat) : Nat := s.lanes.get (fun _ => 0) (1088 + 34 * d + n)
/-- Set it. -/
def State.setTxMode (s : State) (d n v : Nat) : State :=
  { s with lanes := s.lanes.set (fun _ => 0) (1088 + 34 * d + n) v }
/-- What a spare trains for in the background. -/
def State.spareJob (s : State) (d b : Nat) : Nat := s.spares.get (fun _ => 0) (2 * d + b)
/-- Set it. -/
def State.setSpareJob (s : State) (d b v : Nat) : State := { s with spares := s.spares.set (fun _ => 0) (2 * d + b) v }
/-- STATE of a spare of PTD_SPARE: b is 0 for A, 1 for B. -/
def spStateF (b : Nat) : Fld := if b = 0 then F.PtdSpare.aState else F.PtdSpare.bState
/-- FOR of a spare of PTD_SPARE. -/
def spForF (b : Nat) : Fld := if b = 0 then F.PtdSpare.aFor else F.PtdSpare.bFor
/-- STATE of a spare. -/
def State.spState (s : State) (d b : Nat) : Nat := s.fld (R.ptdSpare d) (spStateF b)
/-- FOR of a spare. -/
def State.spFor (s : State) (d b : Nat) : Nat := s.fld (R.ptdSpare d) (spForF b)

/-- The physical lane that carries logical lane l: a spare in service for it, else its own (R116, R117). -/
def State.physOf (s : State) (d l : Nat) : Nat :=
  if s.spState d 0 = 2 && s.spFor d 0 = l then 32
  else if s.spState d 1 = 2 && s.spFor d 1 = l then 33
  else l

/-- The logical lane that a physical lane carries, if any. -/
def State.logicalOf (s : State) (d n : Nat) : Option Nat := (List.range 32).find? (fun l => s.physOf d l = n)

/-- The WIDTH of a port in the active plane; 0: no port. -/
def State.portWidth (s : State) (p : Nat) : Nat := (s.planeOn (p / 32)).width (p / 32) (p % 32)

/-- The port of logical lane l of die d, if any. -/
def State.portOfLane (s : State) (d l : Nat) : Option Nat :=
  ((List.range 32).find? (fun f => decide (f ≤ l) && decide (l < f + (s.planeOn d).width d f))).map (fun f => 32 * d + f)

/-- The physical lanes of a port, in order. -/
def State.portLanes (s : State) (p : Nat) : List Nat :=
  (List.range (s.portWidth p)).map (fun i => s.physOf (p / 32) (p % 32 + i))

/-- PTD_PORT_STAT and PTD_PORT_CTL of a port. -/
def pStat (p : Nat) : Nat := R.ptdPortStat (p / 32) (p % 32)
/-- PTD_PORT_CTL of a port. -/
def pCtl (p : Nat) : Nat := R.ptdPortCtl (p / 32) (p % 32)

/-- The lanes of a port that are not FAILED, as a mask over its port lanes. -/
def State.cleanMask (s : State) (p : Nat) : Nat :=
  ((List.range (s.portWidth p)).map (fun i =>
    if s.laneBad (p / 32) (s.physOf (p / 32) (p % 32 + i)) then 0 else 2 ^ i)).foldl (· + ·) 0

/-- The lowest aligned block of at most w lanes inside a mask over a port of width tot, largest blocks first (R113): 0 for
none. -/
def alignedBlock (tot w mask : Nat) : Nat :=
  let at_ (b : Nat) : Option Nat :=
    if b ≤ w && b ≤ tot && 1 ≤ b then
      ((List.range (tot / b)).map (fun i => (2 ^ b - 1) * 2 ^ (b * i))).find? (fun m => (mask &&& m) = m)
    else none
  ([8, 4, 2, 1].findSome? at_).getD 0

/-- A mask of the peer's lanes over the port's own: its lane order is corrected (R98, R103). -/
def State.mapLanes (s : State) (p m : Nat) : Nat :=
  let w := s.portWidth p
  if (s.port p).laneRev then ((List.range w).map (fun i => if bitOf m i then 2 ^ (w - 1 - i) else 0)).foldl (· + ·) 0 else m % 2 ^ w

/-- The lanes that the port may run on by its own lanes. -/
def State.cleanBlock (s : State) (p : Nat) : Nat := alignedBlock (s.portWidth p) (s.portWidth p) (s.cleanMask p)

/-- The lanes that the port may run on against this peer: a block of its clean lanes within what the peer offered at the last negotiation
(R103, R113); on an Ethernet port all of them (R102). -/
def State.resizeBlock (s : State) (p : Nat) : Nat :=
  if s.isEthernet p then s.cleanBlock p
  else alignedBlock (s.portWidth p) (s.port p).peerWidth ((s.port p).peerLanes &&& s.cleanMask p)

/-- WIDTH_NOW of a set of lanes. -/
def widthCode (mask : Nat) : Nat :=
  match ((List.range 8).filter (bitOf mask)).length with
  | 0 => 0
  | 1 => 1
  | 2 => 2
  | 4 => 3
  | _ => 4

/-- Every lane of a port that is not FAILED has a signal (R108). -/
def State.signalAll (s : State) (p : Nat) : Bool :=
  (s.portLanes p).all (fun n => s.laneBad (p / 32) n || s.fld (laneStat (p / 32) n) F.PtdLaneStat.sigDet = 1)

/-- Write the LSTATE of a port's lanes as its state has them; FAILED and ABSENT lanes keep theirs (R119, R120). -/
def State.paintLanes (s : State) (p : Nat) : State :=
  let d := p / 32
  let st := s.portState p
  let act := s.fld (pStat p) F.PtdPortStat.lanesActive
  (List.range (s.portWidth p)).foldl (fun (s : State) i =>
    let n := s.physOf d (p % 32 + i)
    if s.laneBad d n then s
    else if s.domState (domQuad d ((p % 32 + i) / 4)) ≠ 2 then s.setLstate d n 0
    else
      let idle := if s.lockTry d n ≠ 0 then 2 else 1
      s.setLstate d n (match st with
        | 2 => 3
        | 3 => 3
        | 4 => if bitOf act i then 4 else 1
        | 5 => 3
        | 6 => if (s.port p).rateChange then (if s.lockTry d n ≠ 0 then 2 else 3) else 4
        | _ => idle)) s

/-! ## Records and events of a port (R111, R377, R394) -/

/-- Write the port event record of event e. -/
def State.portRecord (s : State) (p e : Nat) : State :=
  let d := p / 32
  let f := s.fld (pStat p)
  s.raise { plainRec 0x01 0 0 d (s.dieNow d) with
    part := (s.portPart p).getD 0x1F, unit := p % 32
    detail := e * 2 ^ 28 + f F.PtdPortStat.widthNow * 2 ^ 24 + f F.PtdPortStat.rateNow * 2 ^ 23 + f F.PtdPortStat.peerSame * 2 ^ 22 }

/-- Post PORT_UP (1) or PORT_DOWN (2). -/
def State.portEvent (s : State) (p kind : Nat) : State :=
  s.post ⟨kind, 0, 0xFFFF, (s.portPart p).getD 0xFF, 0xFFFF, p, 0⟩

/-! ## Sending frames (R105, R127, R131, R137) -/

/-- A packet's header as it leaves on a port: HOPS counted toward another part, but for a packet that the part generated (R278,
DEDUCED, log 14); EPID toward an endpoint; UNORDERED and BURR; the CRC regenerated. -/
def State.wireHdr (s : State) (port : Nat) (p : Pkt) : Nat :=
  let gen := p.ctx.isSome
  let burr (h : Nat) : Nat := if p.burred then h ||| 2 ^ 118 else h
  let hops (h lo : Nat) : Nat :=
    if s.facesPart port && !s.isEthernet port && !gen then setBitsOf h lo 8 (bitsOf h lo 8 - 1) else h
  if p.data then
    let h := hops p.hdr 40
    let h := match p.epid with
      | some e => if s.facesPart port && !s.isEthernet port then h else setBitsOf h 16 24 e
      | none => h
    hdrSeal true (burr (if p.unordered then h ||| 2 ^ 114 else h))
  else hdrSeal false (hops p.hdr 48)

/-- A grain leaves: its word, its bytes in link order, how many are valid, and the grain CRC regenerated over what leaves (R126, R127).
inserted: its packet goes between two grains of another (R163). -/
def State.sendWireGrain (s : State) (port tc ptr : Nat) (inserted : Bool) : State :=
  let g := s.grain ptr
  let data := BitVec.ofNat 2048 (g.linkData % 2 ^ (8 * g.len))
  (s.useInput tc (dBench (ptrDie ptr)) (ptrBg ptr)).emit (.grain port g.word data g.len (grainCrc g.word data g.len) inserted)

/-- The grains of a packet as it leaves: a control packet has none. -/
def Pkt.wireGrains (p : Pkt) : List Nat := if p.data then p.grains else []

/-- Send a whole packet on a Druvo-native port under a link sequence number; inserted: between two grains of another packet (R163). -/
def State.sendFrame (s : State) (port seq : Nat) (p : Pkt) (inserted : Bool) : State :=
  p.wireGrains.foldl (fun (s : State) g => s.sendWireGrain port p.tc g inserted)
    (s.emit (.header port p.data (s.wireHdr port p) p.payload seq inserted))

/-- D: a frame's link time in ticks (R169). -/
def State.linkTime (s : State) (port : Nat) (p : Pkt) : Nat :=
  let b := 25 * (s.bandwidth port).1
  if b = 0 then 0 else (2 * (p.length + 16 * p.grainCount + 16) + b - 1) / b

/-- A frame has been sent, to end at a tick: it keeps the limit that its gate set until it has ended past it, which counts once (R169). -/
def State.frameSent (s : State) (port seq endTick : Nat) (limit : Option Nat) : State :=
  let late := limit.any (fun l => decide (l < max endTick s.tb.tick))
  let s := s.setPort port (fun x => { x with
    unacked := x.unacked.map (fun u => if u.1 = seq then (u.1, { u.2 with limit := if late then none else limit }) else u) })
  if late then s.count (R.ptdGateStat (port / 32) (port % 32)) F.PtdGateStat.gateOverrun else s

/-- A frame in progress begins again, to end at tick t. -/
def State.restartFrame (s : State) (port seq t : Nat) : State :=
  let again (i : InProgress) : InProgress := if i.seq = seq then { i with sent := 0, endTick := t } else i
  s.setPort port (fun x => { x with inProg := x.inProg.map again, under := x.under.map again })

/-- Resend one unacknowledged frame after the others: x is the tick at which these end and whether the frames that follow are inserted. A frame
that was being sent starts again. -/
def State.resendOne (s : State) (port : Nat) (cur : List Nat) (x : Nat × Bool) (u : Nat × Pkt) : (Nat × Bool) × State :=
  let t := x.1 + s.linkTime port u.2
  if cur.contains u.1 then
    let s := s.restartFrame port u.1 t
    ((t, true), s.emit (.header port u.2.data (s.wireHdr port u.2) u.2.payload u.1 x.2))
  else ((t, x.2), (s.sendFrame port u.1 u.2 x.2).frameSent port u.1 t u.2.limit)

/-- Resend every unacknowledged frame, in order (R105, R108), one after another: one that now ends past its window is counted (R169, R176).
The frame that was being sent starts again, and those that follow it are inserted as TC7 packets were (R163). -/
def State.resendAll (s : State) (port : Nat) : State :=
  let cur := ((s.port port).inProg.toList ++ (s.port port).under.toList).map (fun i => i.seq)
  ((s.port port).unacked.foldl (fun (x : (Nat × Bool) × State) u => x.2.resendOne port cur x.1 u) ((s.tb.tick, false), s)).2

/-- The peer has the frames of a list: their grains count as sent (R34, R106). -/
def State.releaseSent (s : State) (l : List (Nat × Pkt)) : State := l.foldl (fun (s : State) x => s.unrefAll x.2.grains) s

/-! ## The link state machine (R108 to R111) -/

/-- Write STATE of a port; while it is not UP no lane carries data. -/
def State.setPortState (s : State) (p st : Nat) : State :=
  let s := s.setFld (pStat p) F.PtdPortStat.state st
  if st = 4 then s
  else (s.setFld (pStat p) F.PtdPortStat.lanesActive 0).setFld (pStat p) F.PtdPortStat.widthNow 0

/-- The lanes that the port would resume on. -/
def State.keepLink (s : State) (p : Nat) : State :=
  let f := s.fld (pStat p)
  s.setPort p (fun x => { x with
    pendLanes := f F.PtdPortStat.lanesActive, pend100 := decide (f F.PtdPortStat.rateNow = 1)
    pendFec := decide (f F.PtdPortStat.fec = 0), rateChange := false })

/-- A synthesiser starts to lock. -/
def State.startLock (s : State) (d n : Nat) : State :=
  let s := (s.setFld (laneStat d n) F.PtdLaneStat.synthLock 0).setLockTry d n 1
  if s.laneFailed d n then s else s.setLstate d n 2

/-- A change of rate relocks the synthesiser of every lane of a port (R119). -/
def State.relockPort (s : State) (p : Nat) : State :=
  (s.portLanes p).foldl (fun (s : State) n => if s.laneBad (p / 32) n then s else s.startLock (p / 32) n) s

/-- A port leaves DISABLED or FAULT: pending lane commands are discarded, and the state machine takes the transmitters (R119). -/
def State.dropPending (s : State) (p : Nat) : State :=
  (s.portLanes p).foldl (fun (s : State) n =>
    let s := s.setTxMode (p / 32) n 0
    let r := laneStat (p / 32) n
    if s.fld r F.PtdLaneStat.pendCmd = 0 then s
    else (s.setFld r F.PtdLaneStat.pendCmd 0).setFld r F.PtdLaneStat.cmdSuperseded 1) s

/-- A port enters TRAIN: warm if it has been UP before (R109). -/
def State.enterTrain (s : State) (p : Nat) : State :=
  (((s.setPortState p 2).setPort p (fun x => { x with waiting := false, warm := decide (x.prevIdentity.isSome) })).paintLanes p)

/-- A port enters DETECT, and goes on to TRAIN when the signal is there (R108). A port that has fallen back to 100 Gb/s stays there until
firmware writes UPRATE (R114). -/
def State.enterDetect (s : State) (p : Nat) : State :=
  let was := s.portState p
  let s := if was = 0 || was = 8 then (s.dropPending p).setPort p (fun x => { x with attempts := 0, backoffMs := 1 }) else s
  let s := ((s.setPortState p 1).setPort p (fun x => { x with waiting := false })).paintLanes p
  if s.signalAll p then s.enterTrain p else s

/-- The queues of a port go (R108, R153, R286): arrivals are completed, queues flushed, calls that use it ended. -/
def State.loseLink (s : State) (p : Nat) : State := ((s.failArrivals p).flushPort p).portAbort p

/-- A port enters DISABLED with the cause of the record: 3 administrative or plane, 6 a quad reset (R108, R111). -/
def State.enterDisabled (s : State) (p cause : Nat) : State :=
  if s.portState p = 0 then s
  else
    let was := s.portState p
    let s := (s.setPortState p 0).setPort p (fun x => { x with waiting := false, rateChange := false, localReq := false })
    let s := (s.loseLink p).paintLanes p
    if was = 4 || was = 5 || was = 6 then (s.portRecord p cause).portEvent p 2 else s

/-- A port enters DOWN_HOLD (R108). -/
def State.enterDownHold (s : State) (p : Nat) : State :=
  let s := (s.setPortState p 7).setPort p (fun x => { x with
    waiting := true, rateChange := false, localReq := false, since := s.tb.tick })
  let s := ((s.loseLink p).paintLanes p).count (pStat p) F.PtdPortStat.flaps
  (s.portRecord p 2).portEvent p 2

/-- Tell the peer of the change that this end starts: lanes, rate and FEC (R115). -/
def State.tellPeer (s : State) (p : Nat) : State :=
  if s.isEthernet p then s else s.emit (.change p (s.port p).pendLanes (s.port p).pend100 (s.port p).pendFec)

/-- A port that is UP, or in a RESIZE that has lost its last lane, enters RETRAIN; own: this end asks for it (R108, R113, R115). -/
def State.enterRetrain (s : State) (p : Nat) (own : Bool) : State :=
  let st := s.portState p
  if st ≠ 4 && st ≠ 6 then s
  else
    let s := (if st = 4 then s.keepLink p else s).setPortState p 5
    let s := s.setPort p (fun x => { x with warm := true, localReq := own, replayFails := 0, rateChange := false, since := s.tb.tick })
    let s := if own then s.tellPeer p else s
    (s.count (pStat p) F.PtdPortStat.retrains).paintLanes p

/-- A port that is UP, or in RETRAIN or RESIZE, goes to or stays in RESIZE toward a set of lanes and a rate (R108, R113, R115). A change
of rate relocks its lanes, and its time limit starts afresh (R119, R120). Every entry into RESIZE writes its record (R111); that a RESIZE
which turns into one for a rate change counts as an entry is DEDUCED from the words of RETRAIN_LIMIT (log 41). -/
def State.enterResize (s : State) (p lanes : Nat) (r100 own : Bool) : State :=
  let st := s.portState p
  if st ≠ 4 && st ≠ 5 && st ≠ 6 then s
  else
    let s := (if st = 4 then s.keepLink p else s).setPortState p 6
    let change := decide ((s.port p).pend100 ≠ r100)
    let s := s.setPort p (fun x => { x with
      rateChange := x.rateChange || change, pendLanes := lanes, pend100 := r100, localReq := own || (decide (st ≠ 4) && x.localReq)
      warm := true, since := if st = 4 || change then s.tb.tick else x.since })
    let s := if change then s.relockPort p else s
    let s := (if own then s.tellPeer p else s).paintLanes p
    if st = 6 && !change then s else s.portRecord p 4

/-- Training at 200 Gb/s has failed in RETRAIN or RESIZE: where RATE permits, the port goes on at 100 Gb/s, which is a change of rate
(R114). -/
def State.rateFall (s : State) (p : Nat) : State :=
  if (s.port p).pend100 || (s.planeOn (p / 32)).rate100 (p / 32) (p % 32) then s
  else (s.setPort p (fun x => { x with next100 := true })).enterResize p (s.port p).pendLanes true true

/-- The credits given to the peer of a port, and those that wait, are gone, with their reservations. -/
def State.dropGiven (s : State) (p : Nat) : State :=
  let x := s.port p
  let s := (List.range 8).foldl (fun (s : State) tc => s.unreserve p tc (nth x.given tc)) s
  s.setPort p (fun x => { x with given := List.replicate 8 0, waitCredits := List.replicate 8 0 })

/-- An attempt to train or negotiate has failed (R108, R109, R114). slow: training at 200 Gb/s failed; the next one runs at 100, to which
the lanes relock. -/
def State.failAttempt (s : State) (p : Nat) (slow : Bool) : State :=
  let x := s.port p
  let n := x.attempts + 1
  let fall := slow && !(s.planeOn (p / 32)).rate100 (p / 32) (p % 32)
  let s := (s.dropGiven p).setPort p (fun x => { x with attempts := n, next100 := x.next100 || fall, since := s.tb.tick })
  let s := if fall then s.relockPort p else s
  if 8 ≤ n then
    let s := (s.setPortState p 8).setPort p (fun x => { x with waiting := false })
    (s.paintLanes p).portRecord p 5
  else
    ((s.setPortState p 2).setPort p (fun x => { x with
      waiting := true, backoffMs := min 64 (if n = 1 then 1 else 2 * x.backoffMs) })).paintLanes p

/-- A port enters UP on a set of lanes, at a rate, with or without FEC; a port that was held resumes its replay (R108). -/
def State.enterUp (s : State) (p lanes : Nat) (r100 fec : Bool) : State :=
  let st := pStat p
  let same := decide ((s.port p).prevIdentity = some (s.port p).identity) && !s.isEthernet p
  let s := s.setPortState p 4
  let s := ((s.setFld st F.PtdPortStat.lanesActive lanes).setFld st F.PtdPortStat.widthNow (widthCode lanes)).setFld st
    F.PtdPortStat.rateNow (b2n r100)
  let s := (s.setFld st F.PtdPortStat.fec (b2n !fec)).setFld st F.PtdPortStat.peerSame (b2n same)
  let s := s.setPort p (fun x => { x with
    prevIdentity := some x.identity, attempts := 0, backoffMs := 1, waiting := false, warm := true, rateChange := false
    localReq := false, replayTicks := [], badTicks := [] })
  let s := ((s.paintLanes p).portRecord p 1).portEvent p 1
  s.resendAll p

/-- A port in RETRAIN or RESIZE returns to UP, on what is left of its lanes (R113): an Ethernet port only on all of them (R102). -/
def State.resumeUp (s : State) (p : Nat) : State :=
  let x := s.port p
  let w := s.portWidth p
  let blk := alignedBlock w w (x.pendLanes &&& s.cleanMask p)
  if blk = 0 || (s.isEthernet p && blk ≠ 2 ^ w - 1) then s else s.enterUp p blk x.pend100 x.pendFec

/-- Whether a port should run: in the plane with ADMIN_UP, not ADMIN_DOWN, its die not failed and in a partition that is not
resetting, its core and quads ON (R108, R388, R395). -/
def State.shouldRun (s : State) (p : Nat) : Bool :=
  let d := p / 32
  let l := p % 32
  let w := s.portWidth p
  decide (w ≠ 0) && (s.planeOn d).adminUp d l && decide (s.fld (pCtl p) F.PtdPortCtl.adminDown = 0) && ((s.planeOn d).partOfPort d).any (fun q => !s.partBusy q)
    && decide (s.domState (domPort d) = 2) && !(s.die d).failed
    && (List.range ((w + 3) / 4)).all (fun i => decide (s.domState (domQuad d (l / 4 + i)) = 2))

/-- Bring a port into line with its settings: DISABLED, or out of it to DETECT. -/
def State.refreshPort (s : State) (p : Nat) : State :=
  if s.shouldRun p then (if s.portState p = 0 then s.enterDetect p else s) else s.enterDisabled p 3

/-- LOSS_OF_SIGNAL (R108, R109). Some port lanes of a port have lost their signal, and some their lock, as masks: a port that is UP and
has lost one on any lane enters RETRAIN. -/
def execLossOfSignal (loss : LaneLoss) (s : State) : Host.Outcome State Fault Refusal :=
  let p := loss.port.val
  let w := s.portWidth p
  let s := (List.range w).foldl (fun (s : State) i =>
    if bitOf loss.signal.val i then s.setFld (laneStat (p / 32) (s.physOf (p / 32) (p % 32 + i))) F.PtdLaneStat.sigDet 0 else s) s
  .next (if (loss.signal.val ||| loss.lock.val) % 2 ^ w = 0 || s.portState p ≠ 4 then s else s.enterRetrain p true)

/-- SIGNAL_DETECT (R108, R109). Every lane of a port that is not FAILED has a signal. -/
def execSignalDetect (port : Port) (s : State) : Host.Outcome State Fault Refusal :=
  let p := port.val
  let s := (s.portLanes p).foldl (fun (s : State) n =>
    if s.laneBad (p / 32) n then s else s.setFld (laneStat (p / 32) n) F.PtdLaneStat.sigDet 1) s
  .next (if s.portWidth p = 0 then s
    else if s.portState p = 1 then s.enterTrain p
    else if s.portState p = 7 && !(s.port p).waiting && s.shouldRun p then s.enterDetect p
    else s)

/-- The rate at which a training from TRAIN ends: 100 Gb/s when RATE fixes it, when an earlier attempt at 200 failed, or when this
training fell back (R66, R114). -/
def State.trainedAt100 (s : State) (p : Nat) (fell : Bool) : Bool :=
  fell || (s.planeOn (p / 32)).rate100 (p / 32) (p % 32) || (s.port p).next100

/-- The identity that the part sends: KIND 0b10, its serial, and the port number (R104). -/
def State.ownIdentity (s : State) (p : Nat) : Nat := 2 ^ 63 + (s.fuses.serial % 2 ^ 52) * 2 ^ 10 + p % 2 ^ 10

/-- The capability word of this end (R99, R103, R104): version 1, the lanes and the rate that trained, bypass if the plane allows it and
the port still may, the largest window, its credits, its identity, and for each spare whose path reaches the peer the lane that faces it
(DEDUCED, log 41). -/
def State.ownWord (s : State) (p : Nat) : CapWord :=
  let x := s.port p
  let path := s.fld (pCtl p) F.PtdPortCtl.sparePath
  { version := 1, width := ((List.range 8).filter (bitOf x.pendLanes)).length, rate100 := x.pend100
    fecBypass := (s.planeOn (p / 32)).bypassAllowed (p / 32) (p % 32) && !x.noBypass
    lanes := x.pendLanes, window := 4095, credits := x.offer, identity := s.ownIdentity p
    spareA := if bitOf path 0 then some 32 else none, spareB := if bitOf path 1 then some 33 else none, reversed := false }

/-- Settle this end's credits for a new link: for each class at least the largest packet; how many more is open (log 3). Lossless ones are
given as reservations allow (R136, R147). What is given by now is what the capability word offers. -/
def State.advertise (s : State) (p : Nat) : State :=
  let s := (List.range 8).foldl (fun (s : State) tc =>
    let (v, s) := s.free
    s.returnCredits p tc (32 + v.toNat % 1024)) (s.dropGiven p)
  s.setPort p (fun x => { x with offer := x.given })

/-- TRAINING_COMPLETE (R108, R114, R119). Training converged, at 100 Gb/s if rate100: to NEGOTIATE, to UP on an Ethernet port, or
back to UP in place; a rate change waits for every lane's synthesiser. Training that fell back to 100 Gb/s in RETRAIN or RESIZE is a change
of rate. -/
def execTrainingComplete (port : Port) (rate100 : Bool) (s : State) : Host.Outcome State Fault Refusal :=
  let p := port.val
  let st := s.portState p
  let x := s.port p
  if st = 2 && !x.waiting then
    let blk := s.cleanBlock p
    let r := s.trainedAt100 p rate100
    let fell := rate100 && !(s.planeOn (p / 32)).rate100 (p / 32) (p % 32)
    let s := s.setPort p (fun x => { x with pendLanes := blk, pend100 := r, next100 := x.next100 || fell })
    if s.isEthernet p then
      if blk = 2 ^ s.portWidth p - 1 then .next (s.enterUp p blk r true) else .next (s.failAttempt p false)
    else
      let s := (((s.advertise p).setPortState p 3).setPort p (fun x => { x with resends := 0 })).paintLanes p
      .next (s.emit (.capability p (s.ownWord p)))
  else if st = 5 || (st = 6 && x.rateChange
      && (s.portLanes p).all (fun n => s.laneBad (p / 32) n || s.fld (laneStat (p / 32) n) F.PtdLaneStat.synthLock = 1)) then
    .next (if rate100 && !x.pend100 then s.rateFall p else s.resumeUp p)
  else .next s

/-- WARM_TRAINING_TIMEOUT (R109). Warm training falls back to cold. -/
def execWarmTrainingTimeout (port : Port) (s : State) : Host.Outcome State Fault Refusal :=
  let st := s.portState port.val
  if (st = 2 && !(s.port port.val).waiting) || st = 5 || st = 6 then
    .next (s.setPort port.val (fun x => { x with warm := false }))
  else .next s

/-- COLD_TRAINING_TIMEOUT (R109, R114). Cold training has not converged: the attempt fails; a retrain at 200 Gb/s goes on at
100. -/
def execColdTrainingTimeout (port : Port) (s : State) : Host.Outcome State Fault Refusal :=
  let p := port.val
  let st := s.portState p
  let x := s.port p
  if x.warm || x.waiting then .next s
  else if st = 2 then .next (s.failAttempt p (!(s.trainedAt100 p false)))
  else if st = 5 || st = 6 then .next (s.rateFall p)
  else .next s

/-- TRAINING_BACKOFF_EXPIRY (R109). The back-off ends and training starts again. -/
def execTrainingBackoffExpiry (port : Port) (s : State) : Host.Outcome State Fault Refusal :=
  let x := s.port port.val
  if s.portState port.val = 2 && x.waiting && decide (x.since + 1000000 * x.backoffMs ≤ s.tb.tick) then .next (s.enterTrain port.val)
  else .next s

/-! ## Negotiation (R99, R103, R104, R136) -/

/-- Whether a peer identity is well formed (R104). -/
def identityOk (i : Nat) : Bool := peerKind i = 2 || (peerKind i = 1 && bitsOf i 24 38 = 0)

/-- The lanes that a negotiation settles on: a block of the intersection, no wider than either proposal (R103). -/
def State.settledLanes (s : State) (p width lanes : Nat) : Nat :=
  alignedBlock (s.portWidth p) width ((s.port p).pendLanes &&& lanes)

/-- A peer's mask of lanes over the port's own, in the order that its capability word shows (R103). -/
def State.wordLanes (s : State) (p : Nat) (w : CapWord) : Nat :=
  (s.setPort p (fun x => { x with laneRev := w.reversed })).mapLanes p w.lanes

/-- Whether a capability word can be settled with (R103, R104, R136). A replay window of 0, with which no frame could be sent, fails the
attempt: the spec gives no lower bound (DESIGN CHOICE, log 41). -/
def State.wordOk (s : State) (p : Nat) (w : CapWord) : Bool :=
  decide (1 ≤ w.version) && identityOk (w.identity % 2 ^ 64) && decide (w.credits.length = 8)
    && w.credits.all (fun c => decide (32 ≤ c)) && decide (1 ≤ w.window) && decide (s.settledLanes p w.width (s.wordLanes p w) ≠ 0)

/-- Whether the measured channel permits bypass (R99): a one-way delay of 5 ns or less, and on every lane fewer bit errors than one in
10^12 bits. -/
def channelPermits (width delayPs : Nat) (bitErrors : List (Nat × Nat)) : Bool :=
  decide (delayPs ≤ 5000) && decide (width ≤ bitErrors.length) && (bitErrors.take width).all (fun e => decide (e.1 * 10 ^ 12 < e.2))

/-- CAPABILITY_WORD (R99, R103, R104, R108). The peer's word settles the link, or the attempt fails. -/
def execCapabilityWord (port : Port) (heard : CapHeard) (s : State) : Host.Outcome State Fault Refusal :=
  let p := port.val
  let word := heard.word
  if s.portState p ≠ 3 then .next s
  else if !s.wordOk p word then .next (s.failAttempt p false)
  else
    let x := s.port p
    let lanes := s.wordLanes p word
    let bypass := (s.planeOn (p / 32)).bypassAllowed (p / 32) (p % 32) && word.fecBypass && !x.noBypass
      && channelPermits (s.portWidth p) heard.delayPs heard.bitErrors
    let path := s.fld (pCtl p) F.PtdPortCtl.sparePath
    let s := s.setPort p (fun x => { x with
      identity := word.identity % 2 ^ 64, version := min 1 word.version, window := min 4095 word.window
      laneRev := word.reversed, peerLanes := lanes, peerWidth := word.width
      credits := word.credits, txSeq := 0, rxSeq := 0, unacked := [], replayFails := 0
      peerSpareA := if bitOf path 0 then word.spareA else none, peerSpareB := if bitOf path 1 then word.spareB else none })
    .next (s.enterUp p (s.settledLanes p word.width lanes) (x.pend100 || word.rate100) (!bypass))

/-- CAPABILITY_RESEND_TIMEOUT (R109). A word unanswered for 10 µs is resent; after three resends the attempt fails. -/
def execCapabilityResendTimeout (port : Port) (s : State) : Host.Outcome State Fault Refusal :=
  let p := port.val
  if s.portState p ≠ 3 then .next s
  else if 3 ≤ (s.port p).resends then .next (s.failAttempt p false)
  else .next ((s.setPort p (fun x => { x with resends := x.resends + 1 })).emit (.capability p (s.ownWord p)))

/-! ## Link replay (R99, R105 to R107) -/

/-- A port that may not bypass FEC any more retrains with it (R99). -/
def State.retrainWithFec (s : State) (p : Nat) : State :=
  (s.enterRetrain p true).setPort p (fun x => { x with pendFec := true, noBypass := true })

/-- The ticks of a list that lie in the last millisecond, with now. -/
def lastMs (now : Nat) (l : List Nat) : List Nat := (l.filter (fun t => decide (now < t + 1000000))) ++ [now]

/-- The FEC of a port corrected codewords on its lanes, and found an uncorrectable one on a lane, if any: they are counted per lane (R120),
and more than 1,000 uncorrectable ones in a millisecond take the port to RETRAIN (R107). -/
def State.countCodewords (s : State) (p : Nat) (err : FrameErr) (corrected : List (Fin 8 × Nat)) : State :=
  let lane (i : Nat) : Nat := laneStat (p / 32) (s.physOf (p / 32) (p % 32 + i % s.portWidth p))
  if s.fld (pStat p) F.PtdPortStat.fec ≠ 0 || s.portWidth p = 0 then s
  else
    let s := corrected.foldl (fun (s : State) c => s.countBy (lane c.1.val) F.PtdLaneStat.cwCorr c.2) s
    match err with
    | .codeword i =>
      let bad := lastMs s.tb.tick (s.port p).badTicks
      let s := (s.count (lane i.val) F.PtdLaneStat.cwUncorr).setPort p (fun x => { x with badTicks := bad })
      if 1000 < bad.length then s.enterRetrain p true else s
    | _ => s

/-- LINK_FRAME_RECEIVE (R105, R107). A link frame arrives: in order and good, it is acknowledged; already delivered, it is
acknowledged again; beyond a gap, or with an uncorrectable codeword or a bad CRC, a NAK names the last good one. A number less than the
replay window ahead of the expected one can only be new, and is a gap; any other was delivered before (DEDUCED from R103 and R105, log
41). On an Ethernet port only codewords are counted. -/
def execLinkFrameReceive (port : Port) (number : Nat) (check : FrameCheck) (s : State) : Host.Outcome State Fault Refusal :=
  let p := port.val
  if !s.portUp p then .next s
  else if s.isEthernet p then .next (s.countCodewords p check.err check.corrected)
  else
    let x := s.port p
    let good := (x.rxSeq + 4095) % 4096
    let ahead := (number % 4096 + 4096 - x.rxSeq) % 4096
    let s := match check.err with
      | .none =>
        if ahead = 0 then (s.setPort p (fun x => { x with rxSeq := (x.rxSeq + 1) % 4096 })).emit (.ack p x.rxSeq)
        else if ahead < x.window then s.emit (.nak p good)
        else s.emit (.ack p good)
      | _ => s.emit (.nak p good)
    .next (s.countCodewords p check.err check.corrected)

/-- ACK_RECEIVE (R106). Every frame up to the number counts as sent, and its grains are released. -/
def execAckReceive (port : Port) (number : Nat) (s : State) : Host.Outcome State Fault Refusal :=
  let p := port.val
  let l := (s.port p).unacked
  match (List.range l.length).find? (fun i => (l[i]?.map Prod.fst) = some (number % 4096)) with
  | none => .next s
  | some i =>
    if !s.portUp p then .next s
    else
      let s := s.releaseSent (l.take (i + 1))
      .next (s.setPort p (fun x => { x with unacked := l.drop (i + 1), replayFails := 0 }))

/-- NAK_RECEIVE (R99, R105, R107). Every frame after the last good one is resent, in order. More than four replays in a millisecond take
a bypassed port to RETRAIN with FEC. The first NAK of a frame starts a replay of it, and each further one in a row says that the replay
failed: after eight failed replays the port enters RETRAIN. -/
def execNakReceive (port : Port) (lastGood : Nat) (s : State) : Host.Outcome State Fault Refusal :=
  let p := port.val
  let x := s.port p
  let l := x.unacked
  let next := (lastGood + 1) % 4096
  match (List.range l.length).find? (fun i => (l[i]?.map Prod.fst) = some next) with
  | none => .next s
  | some i =>
    if !s.portUp p then .next s
    else
      let fails := if i = 0 then x.replayFails + 1 else 1
      let ticks := lastMs s.tb.tick x.replayTicks
      let s := s.releaseSent (l.take i)
      let s := s.setPort p (fun x => { x with unacked := l.drop i, replayFails := fails, replayTicks := ticks })
      let s := s.count (pStat p) F.PtdPortStat.replays
      if s.fld (pStat p) F.PtdPortStat.fec = 1 && 4 < ticks.length then .next (s.retrainWithFec p)
      else if 8 < fails then .next (s.enterRetrain p true)
      else .next (s.resendAll p)

/-- CREDIT_RETURN (R136). Credits that the peer returns are added to the class's. -/
def execCreditReturn (port : Port) (tc : Tc) (grains : Nat) (s : State) : Host.Outcome State Fault Refusal :=
  if !s.portUp port.val || s.isEthernet port.val then .next s
  else .next (s.setPort port.val (fun x => { x with credits := setNth x.credits tc.val (nth x.credits tc.val + grains) }))

/-! ## Going down and coming back (R108, R109) -/

/-- RETRAIN_LIMIT_EXPIRY (R108, R120). RETRAIN or RESIZE has lasted for RETRAIN_LIMIT, in units of 250 µs. -/
def execRetrainLimitExpiry (port : Port) (s : State) : Host.Outcome State Fault Refusal :=
  if (s.portState port.val = 5 || s.portState port.val = 6)
      && decide ((s.port port.val).since + 250000 * s.fld (pCtl port.val) F.PtdPortCtl.retrainLimit ≤ s.tb.tick) then .next (s.enterDownHold port.val) else .next s

/-- PCS_ALIGNMENT_LOSS (R108). An Ethernet port loses PCS alignment; for 10 µs or more it goes down. -/
def execPcsAlignmentLoss (port : Port) (ns : Nat) (s : State) : Host.Outcome State Fault Refusal :=
  if s.isEthernet port.val && [4, 5, 6].contains (s.portState port.val) && 10000 ≤ ns then .next (s.enterDownHold port.val) else .next s

/-- HOLDDOWN_EXPIRY (R109, R120). HOLDDOWN_MS have passed: with the signal present the port leaves DOWN_HOLD. -/
def execHolddownExpiry (port : Port) (s : State) : Host.Outcome State Fault Refusal :=
  let p := port.val
  if s.portState p ≠ 7 || s.tb.tick < (s.port p).since + 1000000 * s.fld (pCtl p) F.PtdPortCtl.holddownMs then .next s
  else
    let s := s.setPort p (fun x => { x with waiting := false })
    .next (if s.signalAll p && s.shouldRun p then s.enterDetect p else s)

/-- FAULT_RETRY_EXPIRY (R108). A port that has been in FAULT for 1 s tries DETECT again. -/
def execFaultRetryExpiry (port : Port) (s : State) : Host.Outcome State Fault Refusal :=
  if s.portState port.val = 8 && decide ((s.port port.val).since + 1000000000 ≤ s.tb.tick) then .next (s.enterDetect port.val)
  else .next s

/-- RESIZE_PAUSE_END (R109, R113, R118). The pause of a width change ends, and the port is UP at its new width. -/
def execResizePauseEnd (port : Port) (s : State) : Host.Outcome State Fault Refusal :=
  let p := port.val
  if s.portState p = 6 && !(s.port p).rateChange then .next (s.resumeUp p) else .next s

/-! ## Lanes that fail, and sparing (R112 to R118) -/

/-- The spare path of a spare on a port, and the lane that the peer named for it (R116). -/
def State.sparePath (s : State) (p b : Nat) : Bool :=
  bitOf (s.fld (pCtl p) F.PtdPortCtl.sparePath) b
    && (if b = 0 then (s.port p).peerSpareA.isSome else (s.port p).peerSpareB.isSome) && !s.isEthernet p

/-- A spare that is free: neither assigned, training, failed nor fused off. -/
def State.spareFree (s : State) (d b : Nat) : Bool :=
  s.spState d b = 0 && s.spFor d b = 0x3F && !s.laneAbsent d (32 + b) && !s.laneFailed d (32 + b)

/-- A spare starts to train for logical lane l, in the background (R118); its synthesiser locks first if it has not. -/
def State.trainSpare (s : State) (d b l : Nat) : State :=
  let s := if s.fld (laneStat d (32 + b)) F.PtdLaneStat.synthLock = 1 then s else s.startLock d (32 + b)
  ((s.setFld (R.ptdSpare d) (spStateF b) 1).setSpareJob d b (1 + l)).setLstate d (32 + b) 3

/-- In automatic mode the lower free spare whose path bit is set takes a failed lane (R118). -/
def State.autoSpare (s : State) (p l : Nat) : State :=
  let d := p / 32
  if !(s.planeOn d).laneAuto d then s
  else match [0, 1].find? (fun b => s.spareFree d b && s.sparePath p b) with
    | some b => s.trainSpare d b l
    | none => s

/-- A logical lane of a port has failed (R102, R113): a Druvo port enters RESIZE toward the block that is left, or RETRAIN when none is; one
that negotiates offers what is left; an Ethernet port goes down. -/
def State.narrow (s : State) (p : Nat) : State :=
  let st := s.portState p
  let blk := s.resizeBlock p
  if s.isEthernet p then (if [4, 5, 6].contains st then s.enterDownHold p else s)
  else if s.portWidth p = 1 || blk = 0 then
    let s := if st = 5 || st = 6 then s.setPort p (fun x => { x with pendLanes := 0 }) else s
    s.enterRetrain p true
  else if st = 4 then s.enterResize p blk (s.fld (pStat p) F.PtdPortStat.rateNow = 1) true
  else if st = 5 || st = 6 then s.enterResize p blk (s.port p).pend100 true
  else if st = 3 then
    let s := s.setPort p (fun x => { x with pendLanes := s.cleanBlock p })
    s.emit (.capability p (s.ownWord p))
  else s

/-- LANE_FAIL (R112, R113, R118). A physical lane fails, for whichever cause: it reads FAILED, its port is narrowed or retrains,
and in automatic mode a spare starts to train. -/
def State.failLane (s : State) (d n : Nat) : State :=
  if s.laneAbsent d n || s.laneFailed d n then s
  else
    let l := s.logicalOf d n
    let s := ((s.setLstate d n 5).setLockTry d n 0).setFld (laneStat d n) F.PtdLaneStat.pendCmd 0
    let s := if 32 ≤ n then s.setFld (R.ptdSpare d) (spStateF (n - 32)) 3 else s
    match l with
    | none => s
    | some l =>
      let s := if 32 ≤ n then s.setFld (laneStat d n) F.PtdLaneStat.logical 0x3F else s
      let s := if 32 ≤ n && !s.laneAbsent d l then s.setFld (laneStat d l) F.PtdLaneStat.logical l else s
      match s.portOfLane d l with
      | none => s
      | some p => (s.narrow p).autoSpare p l

/-- LANE_FAIL (R112). -/
def execLaneFail (die : PDie) (lane : Lane) (_cause : LaneFailCause) (s : State) : Host.Outcome State Fault Refusal :=
  .next (s.failLane die.val lane.val)

/-- PEER_CHANGE_REQUEST (R113, R115). The peer asks for a retrain, a width, a rate or FEC: alone it is carried out; with a change that
this end has started it merges into one: the lower width on the intersected lanes, the lower rate, and FEC if either end asks for it. Where
the lanes of the two ends have none in common the spec names no result, and this end keeps its own (DESIGN CHOICE, log 41). -/
def execPeerChangeRequest (port : Port) (width : Nat) (mode : LinkMode) (lanes : Nat) (s : State) : Host.Outcome State Fault Refusal :=
  let p := port.val
  let st := s.portState p
  if s.isEthernet p || !([4, 5, 6].contains st) then .next s
  else
    let x := s.port p
    let act := s.fld (pStat p) F.PtdPortStat.lanesActive
    let cur100 : Bool := s.fld (pStat p) F.PtdPortStat.rateNow = 1
    let own := if st = 4 then s.resizeBlock p else x.pendLanes
    let was100 := if st = 4 then cur100 else x.pend100
    let blk := alignedBlock (s.portWidth p) width (own &&& s.mapLanes p lanes)
    let blk := if blk ≠ 0 then blk else if st = 4 then act else own
    let r := mode.rate100 || (if st = 4 then (s.planeOn (p / 32)).rate100 (p / 32) (p % 32) || (s.port p).next100 else was100)
    let fecOn (s : State) : State := if mode.fec then s.setPort p (fun x => { x with pendFec := true }) else s
    if st = 4 then
      .next (fecOn (if blk = act && (r == cur100) then s.enterRetrain p false else s.enterResize p blk r false))
    else
      let s := if x.localReq then (s.count (pStat p) F.PtdPortStat.collisions).setPort p (fun x => { x with localReq := false }) else s
      .next (fecOn (if blk = own && (r == was100) then s else s.enterResize p blk r false))

/-- SPARE_TRAINING_DONE (R118, R120). The background training of a spare, or of the lane that a RELEASE brings back, ends. A RELEASE whose
lane does not pass is refused. -/
def execSpareTrainingDone (die : PDie) (spareB : Bool) (ok : Bool) (s : State) : Host.Outcome State Fault Refusal :=
  let d := die.val
  let b := b2n spareB
  let j := s.spareJob d b
  let r := R.ptdSpare d
  let widen (s : State) (l : Nat) : State := match s.portOfLane d l with
    | none => s
    | some p =>
      let rate : Bool := if s.portState p = 4 then s.fld (pStat p) F.PtdPortStat.rateNow = 1 else (s.port p).pend100
      if s.resizeBlock p = 0 then s else s.enterResize p (s.resizeBlock p) rate true
  if j = 0 then .next s
  else
    let s := s.setSpareJob d b 0
    if j < 65 then
      let l := j - 1
      if ok then
        let old := s.physOf d l
        let s := (s.setFld r (spStateF b) 2).setFld r (spForF b) l
        let s := (s.setFld (laneStat d old) F.PtdLaneStat.logical 0x3F).setFld (laneStat d (32 + b)) F.PtdLaneStat.logical l
        .next (widen ((s.setLstate d (32 + b) 1).setFld (laneStat d (32 + b)) F.PtdLaneStat.sigDet 1) l)
      else
        let s := (s.setFld r (spStateF b) 3).setLstate d (32 + b) 5
        .next (match s.portOfLane d l with
          | some p => s.autoSpare p l
          | none => s)
    else
      let l := j - 65
      if ok then
        let s := (s.setFld r (spStateF b) 0).setFld r (spForF b) 0x3F
        let s := (s.setFld (laneStat d (32 + b)) F.PtdLaneStat.logical 0x3F).setFld (laneStat d l) F.PtdLaneStat.logical l
        .next (widen (((s.setLstate d (32 + b) 1).setLstate d l 1).setFld (laneStat d l) F.PtdLaneStat.sigDet 1) l)
      else .next ((s.setLstate d l 5).setFld r F.PtdSpare.cmdRefused 1)

/-! ## Lane commands (R119, R120) -/

/-- Whether lane commands act on a physical lane: its port is DISABLED or FAULT. On a lane that belongs to no port, of which the spec says
nothing, they act too (DESIGN CHOICE, log 15). -/
def State.laneCmdOpen (s : State) (d n : Nat) : Bool :=
  match (s.logicalOf d n).bind (s.portOfLane d) with
  | some p => s.portState p = 0 || s.portState p = 8
  | none => true

/-- What TX_ENABLE (1), TX_IDLE (2) and PRBS31 (3) do to a locked lane (DEDUCED, log 15): the transmitter sends data, is idle, or sends the
pattern. LSTATE shows it, but for a FAILED lane, whose LSTATE stays (R112). -/
def State.laneAct (s : State) (d n cmd : Nat) : State :=
  let s := s.setTxMode d n (if cmd = 2 then 0 else cmd)
  if s.laneFailed d n then s else s.setLstate d n (if cmd = 2 then 1 else 4)

/-- A lane command, through the die's fence. -/
def State.laneCmd (s : State) (w : Writer) (d n : Nat) (go : State → State) : State :=
  s.fenced w d (R.ptdLaneCtl d n) (fun s =>
    if s.laneAbsent d n || !s.laneCmdOpen d n then s.setFld (laneStat d n) F.PtdLaneStat.cmdRefused 1 else go s)

/-- TX_ENABLE, TX_IDLE or PRBS31: at once when locked, else held in the lane's one pending slot. -/
def State.txCmd (s : State) (w : Writer) (d n cmd : Nat) : State :=
  s.laneCmd w d n (fun s =>
    let r := laneStat d n
    if s.fld r F.PtdLaneStat.synthLock = 1 then s.laneAct d n cmd
    else
      let s := if s.fld r F.PtdLaneStat.pendCmd = 0 then s else s.setFld r F.PtdLaneStat.cmdSuperseded 1
      s.setFld r F.PtdLaneStat.pendCmd cmd)

/-- TX_ENABLE (R119). -/
def execTxEnable (w : Writer) (die : PDie) (lane : Lane) (s : State) : Host.Outcome State Fault Refusal :=
  .next (s.txCmd w die.val lane.val 1)
/-- TX_IDLE (R119). -/
def execTxIdle (w : Writer) (die : PDie) (lane : Lane) (s : State) : Host.Outcome State Fault Refusal :=
  .next (s.txCmd w die.val lane.val 2)
/-- PRBS31 (R119). -/
def execPrbs31 (w : Writer) (die : PDie) (lane : Lane) (s : State) : Host.Outcome State Fault Refusal :=
  .next (s.txCmd w die.val lane.val 3)
/-- RELOCK (R119): ignored while locking. -/
def execRelock (w : Writer) (die : PDie) (lane : Lane) (s : State) : Host.Outcome State Fault Refusal :=
  .next (s.laneCmd w die.val lane.val (fun s =>
    if s.lockTry die.val lane.val ≠ 0 then s else s.startLock die.val lane.val))

/-- SYNTH_LOCK (R119). A lane's synthesiser locks, and its pending command is carried out. -/
def execSynthLock (die : PDie) (lane : Lane) (s : State) : Host.Outcome State Fault Refusal :=
  let d := die.val
  let n := lane.val
  let r := laneStat d n
  if s.laneAbsent d n || s.fld r F.PtdLaneStat.synthLock = 1 then .next s
  else
    let s := (s.setFld r F.PtdLaneStat.synthLock 1).setLockTry d n 0
    let s := if s.lstate d n = 2 || s.lstate d n = 0 then s.setLstate d n 1 else s
    let c := s.fld r F.PtdLaneStat.pendCmd
    if c ≠ 0 then .next ((s.laneAct d n c).setFld r F.PtdLaneStat.pendCmd 0)
    else .next (match (s.logicalOf d n).bind (s.portOfLane d) with
      | some p => if s.portState p = 0 || s.portState p = 8 then s else s.paintLanes p
      | none => s)

/-- SYNTH_LOCK_TIMEOUT (R119). Lock was not reached: the relock starts once more; a second failure fails the lane. -/
def execSynthLockTimeout (die : PDie) (lane : Lane) (s : State) : Host.Outcome State Fault Refusal :=
  let d := die.val
  let n := lane.val
  if s.laneAbsent d n || s.fld (laneStat d n) F.PtdLaneStat.synthLock = 1 then .next s
  else if s.lockTry d n < 2 then .next (s.setLockTry d n 2)
  else .next (s.failLane d n)

/-! ## Port commands (R114, R120) -/

/-- A port command, through the die's fence; a lane that starts no port ignores it. -/
def State.portCmd (s : State) (w : Writer) (p : Nat) (ok : State → Bool) (go : State → State) : State :=
  s.fenced w (p / 32) (pCtl p) (fun s =>
    if s.portWidth p = 0 then s
    else if ok s then go s else s.setFld (pStat p) F.PtdPortStat.cmdRefused 1)

/-- RETRAIN (R99, R108, R120): in place; the port may propose bypass again. -/
def execRetrain (w : Writer) (port : Port) (s : State) : Host.Outcome State Fault Refusal :=
  .next (s.portCmd w port.val (fun s => s.portUp port.val) (fun s =>
    (s.enterRetrain port.val true).setPort port.val (fun x => { x with noBypass := false })))

/-- UPRATE (R114, R120): a rate change to 200 Gb/s, with fallback; a port that runs at 200 Gb/s stays there. -/
def execUprate (w : Writer) (port : Port) (s : State) : Host.Outcome State Fault Refusal :=
  let p := port.val
  .next (s.portCmd w p (fun s => s.portUp p && !(s.planeOn (p / 32)).rate100 (p / 32) (p % 32)) (fun s =>
    let s := s.setPort p (fun x => { x with next100 := false })
    if s.fld (pStat p) F.PtdPortStat.rateNow = 0 then s
    else s.enterResize p (s.fld (pStat p) F.PtdPortStat.lanesActive) false true))

/-- RESTORE_WIDTH (R113, R120): the lanes left out are tried again; a lane that reads FAILED stays out (R112). -/
def execRestoreWidth (w : Writer) (port : Port) (s : State) : Host.Outcome State Fault Refusal :=
  let p := port.val
  .next (s.portCmd w p (fun s => s.portUp p) (fun s =>
    if s.resizeBlock p = s.fld (pStat p) F.PtdPortStat.lanesActive || s.resizeBlock p = 0 then s
    else s.enterResize p (s.resizeBlock p) (s.fld (pStat p) F.PtdPortStat.rateNow = 1) true))

/-- RESTART (R108, R120): from FAULT to DETECT at once. -/
def execPortRestart (w : Writer) (port : Port) (s : State) : Host.Outcome State Fault Refusal :=
  .next (s.portCmd w port.val (fun s => s.portState port.val = 8) (fun s => s.enterDetect port.val))

/-- A write of ADMIN_DOWN (R108, R111): set, the port goes straight to DISABLED; cleared, it detects with no hold-down. -/
def execAdminDownWrite (w : Writer) (port : Port) (down : Bool) (s : State) : Host.Outcome State Fault Refusal :=
  let p := port.val
  .next (s.fenced w (p / 32) (pCtl p) (fun s =>
    if s.portWidth p = 0 then s else (s.setFld (pCtl p) F.PtdPortCtl.adminDown (b2n down)).refreshPort p))

/-- TAKE (R116, R118, R120). -/
def execTake (w : Writer) (die : PDie) (lane : Fin 32) (spareB : Bool) (s : State) : Host.Outcome State Fault Refusal :=
  let d := die.val
  let b := b2n spareB
  .next (s.fenced w d (R.ptdSpare d) (fun s =>
    let ok := match s.portOfLane d lane.val with
      | some p => s.sparePath p b
      | none => false
    if s.spareFree d b && ok && s.laneBad d (s.physOf d lane.val) then s.trainSpare d b lane.val
    else s.setFld (R.ptdSpare d) F.PtdSpare.cmdRefused 1))

/-- RELEASE of a spare (R120): the original lane is checked with PRBS31 and trains in the background; SPARE_TRAINING_DONE says how
that ends. A lane fused off cannot come back. -/
def execSpareRelease (w : Writer) (die : PDie) (spareB : Bool) (s : State) : Host.Outcome State Fault Refusal :=
  let d := die.val
  let b := b2n spareB
  .next (s.fenced w d (R.ptdSpare d) (fun s =>
    if s.spState d b = 2 && s.spareJob d b = 0 && !s.laneAbsent d (s.spFor d b) then
      (s.setSpareJob d b (65 + s.spFor d b)).setLstate d (s.spFor d b) 3
    else s.setFld (R.ptdSpare d) F.PtdSpare.cmdRefused 1))

/-! ## The engine reset of a quad (R387) -/

/-- The ports with a lane in a quad. -/
def State.quadPorts (s : State) (d quad : Nat) : List Nat :=
  ((List.range 32).filter (fun l =>
    decide ((s.planeOn d).width d l ≠ 0) && decide (l < 4 * quad + 4) && decide (4 * quad < l + (s.planeOn d).width d l))).map (32 * d + ·)

/-- Reset a quad's headstock and tailstock: its ports go to DISABLED, their ingress grains are reclaimed, and they detect with no
hold-down. -/
def State.resetQuad (s : State) (d quad : Nat) : State :=
  let l := s.quadPorts d quad
  let s := l.foldl (fun (s : State) p => ((s.enterDisabled p 6).reclaimNow p)) s
  let s := l.foldl State.refreshPort s
  let s := { s with err := { s.err with
    escal := s.err.escal.filter (fun e => !(e.step = 2 && e.die = d && e.unit / 4 = quad)) } }
  s.post ⟨3, 2, 0xFFFF, ((s.planeOn d).partOfPort d).getD 0xFF, 0xFFFF, 8 * d + quad, 0⟩

/-- QUAD_ENGINE_RESET (R387): by firmware's command, or by the part when a record asked for it. -/
def execQuadEngineReset (cause : ResetCause) (die : PDie) (quad : Fin 8) (s : State) : Host.Outcome State Fault Refusal :=
  let d := die.val
  let q := quad.val
  match cause with
  | .fw w => .next (s.fenced w d (cfgFenceReg d) (fun s => s.resetQuad d q))
  | .part => if s.err.escal.any (fun e => e.step = 2 && e.die = d && e.unit / 4 = q) then .next (s.resetQuad d q) else .next s

end Sys2Proof.Machine
end

