-- ==== Sys2Proof/Machine/Egress.lean ====
section
/-! DEFINITION. The egress side of a port: time gates, the scheduler, TC7 insertion, and the tailstock that puts the packets
of a flow back in order (R134, R155, R162 to R172). -/

namespace Sys2Proof.Machine

/-- Whether a port is the last one before an endpoint, where flows are put back in order: it faces an endpoint, or is an
Ethernet port (R131, R134, R137; DEDUCED, log 16). -/
def State.finalPort (s : State) (p : Nat) : Bool := s.isEthernet p || s.facesEndpoint p

/-! ## Time gates (R167 to R172) -/

/-- The ticks since the last turn boundary. -/
def State.sinceTurn (s : State) : Nat := if s.tb.ticks = 0 then 0 else (s.tb.tick - s.tb.origin) % s.tb.ticks

/-- The windows in which a packet of TC0 to TC5 may go, under the plane in force at its stamp; none when its class is always
open (R167, R168, R171, R172). -/
def State.windowsOf (s : State) (port : Nat) (p : Pkt) : Option (List GateWindow) :=
  let pl := s.planeOf (port / 32) p.stamp
  let list := pl.gateList (port / 32) (port % 32)
  if 6 ≤ p.tc then none
  else if p.tc = 5 then
    match pl.findCircuit (hdrCircuitId p.hdr) with
    | none => some []
    | some (q, k) => some ((List.range (pl.circuit q k 9 1)).map (fun i =>
        let st := pl.circuit q k (80 + 8 * i) 4
        ⟨st, st + pl.circuit q k (84 + 8 * i) 4, 0⟩))
  else if list = [] then none
  else some (gateWindows p.tc list 0 none [])

/-- What its gate says of a frame now. -/
inductive Gate where
  /-- Never gated, or always open. -/
  | free
  /-- It fits a window; the tick by which it must have ended. -/
  | fits (limit : Nat)
  /-- It waits for a window that it fits. -/
  | waits
  /-- It fits no window of the turn (R170). -/
  | never
  deriving DecidableEq, Repr

/-- Judge a head frame (R169, R170). -/
def State.gate (s : State) (port : Nat) (p : Pkt) : Gate :=
  let d := s.linkTime port p
  let t := s.sinceTurn
  match s.windowsOf port p with
  | none => .free
  | some ws =>
    if ws.all (fun w => decide (w.e < w.s + w.k + d)) then .never
    else match ws.find? (fun w => decide (w.s ≤ t) && decide (t < w.e) && decide (t + d + w.k ≤ w.e)) with
      | some w => .fits (s.tb.tick + (w.e - w.k - t))
      | none => .waits

/-- GATE_ENTRY_ADVANCE (R167, R177). An entry's duration ends: PTD_GATE_STAT shows the next one of the active plane's list; the
last ends with the turn. -/
def execGateEntryAdvance (port : Port) (s : State) : Host.Outcome State Fault Refusal :=
  let p := port.val
  let l := (s.planeOn (p / 32)).gateList (p / 32) (p % 32)
  let r := R.ptdGateStat (p / 32) (p % 32)
  let i := s.fld r F.PtdGateStat.entry + 1
  match l[i]? with
  | none => .next s
  | some g => .next ((s.setFld r F.PtdGateStat.entry i).setFld r F.PtdGateStat.openBits g.openSet)

/-! ## Heads of the classes -/

/-- The packets that a class presents, in order: those that the tailstock has released on a final port, else its queue (R162). -/
def State.presented (s : State) (port c : Nat) : List Pkt :=
  if c < 5 && s.finalPort port then s.releasedQ (qKey port c) else s.queue (qKey port c)

/-- Take a packet out of what its class presents. -/
def State.takeOut (s : State) (port c uid : Nat) : State :=
  let q := qKey port c
  if c < 5 && s.finalPort port then s.setReleased q ((s.releasedQ q).filter (fun p => decide (p.uid ≠ uid)))
  else s.setQueue q ((s.queue q).filter (fun p => decide (p.uid ≠ uid)))

/-- The heads of a class: the first packet; in TC5 the first packet of each circuit (R172). -/
def State.heads (s : State) (port c : Nat) : List Pkt :=
  if c = 5 then
    (s.presented port c).foldl (fun acc p =>
      if acc.any (fun a => hdrCircuitId a.hdr = hdrCircuitId p.hdr) then acc else acc ++ [p]) []
  else (s.presented port c).take 1

/-- Discard heads that have aged (R155), and heads that fit no window (R170). -/
def State.purgeHeads (s : State) (port c : Nat) : Nat → State
  | 0 => s
  | fuel + 1 =>
    match (s.heads port c).find? (fun p => p.spillAt.isNone && (s.aged p || s.gate port p = .never)) with
    | none => s
    | some p =>
      let s1 := s.takeOut port c p.uid
      let s2 := if s1.aged p then s1.dropAged (qKey port c) p
        else ((s1.captureDrop p 3 0 (some (qKey port c))).releasePkt p).count (R.ptdGateStat (port / 32) (port % 32))
          F.PtdGateStat.gateNever
      State.purgeHeads s2 port c fuel

/-- Whether a head may be sent now, apart from its gate: its first grain is in the bench (all of them for an Ethernet port); the peer has
given the credits and has room in its replay window, or on an Ethernet port has not paused the priority (R33, R101, R105, R136, R162). -/
def State.mayGo (s : State) (port : Nat) (p : Pkt) : Bool :=
  p.spillAt.isNone
    && (if s.isEthernet port then (!p.data || decide (p.grainCount ≤ p.arrived)) && decide (nth (s.port port).paused p.tc ≤ s.tb.tick)
      else (!p.data || decide (1 ≤ p.arrived)) && decide (p.creditCost ≤ nth (s.port port).credits p.tc)
        && decide ((s.port port).unacked.length < (s.port port).window))

/-- The head of a class that is eligible, with the limit that its gate sets. TC5's circuits are served in rotation. -/
def State.eligible (s : State) (port c : Nat) : Option (Pkt × Option Nat) :=
  let ok := (s.heads port c).filterMap (fun p =>
    if !s.mayGo port p then none
    else match s.gate port p with
      | .free => some (p, none)
      | .fits l => some (p, some l)
      | _ => none)
  if c = 5 then
    let turn := (s.port port).circuitTurn
    let key (x : Pkt × Option Nat) : Nat := (hdrCircuitId x.1.hdr + 8192 - turn) % 8192
    ok.foldl (fun best x => match best with
      | none => some x
      | some b => if key x < key b then some x else some b) none
  else ok.head?

/-! ## Sending (R162 to R164) -/

/-- Quantum of a class in bytes (R164, R177). -/
def State.quantum (s : State) (port c : Nat) : Nat :=
  let r := R.ptdSched (port / 32) (port % 32)
  32 * (match c with
    | 0 => s.fld r F.PtdSched.qTc0
    | 1 => s.fld r F.PtdSched.qTc1
    | 2 => s.fld r F.PtdSched.qTc2
    | 3 => s.fld r F.PtdSched.qTc3
    | _ => s.fld r F.PtdSched.qTc4)

/-- Whether a class holds nothing. -/
def State.classEmpty (s : State) (port c : Nat) : Bool := s.queue (qKey port c) = [] && s.releasedQ (qKey port c) = []

/-- Set a class's deficit. -/
def State.setDeficit (s : State) (port c v : Nat) : State :=
  s.setPort port (fun x => { x with deficit := setNth x.deficit c v })

/-- Deficit-weighted round robin over TC0 to TC4 (R164): the packet to send, with the deficits as the rule leaves them. -/
def State.drr (s : State) (port : Nat) : Nat → Option (Pkt × Option Nat) × State
  | 0 => (none, s)
  | fuel + 1 =>
    if !(List.range 5).any (fun c => (s.eligible port c).isSome) then (none, s)
    else
      let c := (s.port port).cls
      let el := s.eligible port c
      let s := if (s.port port).fresh then
          let s := if s.classEmpty port c then s.setDeficit port c 0
            else if el.isSome then s.setDeficit port c (nth (s.port port).deficit c + s.quantum port c) else s
          s.setPort port (fun x => { x with fresh := false })
        else s
      match el with
      | some (p, l) =>
        if p.length ≤ nth (s.port port).deficit c then
          let s := s.setDeficit port c (nth (s.port port).deficit c - p.length)
          let rest := (s.takeOut port c p.uid).classEmpty port c
          (some (p, l), if rest then s.setDeficit port c 0 else s)
        else State.drr (s.setPort port (fun x => { x with cls := (c + 1) % 5, fresh := true })) port fuel
      | none => State.drr (s.setPort port (fun x => { x with cls := (c + 1) % 5, fresh := true })) port fuel

/-- The packet that the scheduler picks: TC7, TC6, TC5, then the round robin (R162). -/
def State.pick (s : State) (port : Nat) : Option (Pkt × Option Nat) × State :=
  match s.eligible port 7 with
  | some x => (some x, s)
  | none => match s.eligible port 6 with
    | some x => (some x, s)
    | none => match s.eligible port 5 with
      | some x => (some x, s.setPort port (fun y => { y with circuitTurn := (hdrCircuitId x.1.hdr + 1) % 8192 }))
      | none => s.drr port 4000

/-- Start a frame on a Druvo-native port: credits are used, it takes the next link number, its header leaves. -/
def State.startFrame (s : State) (port : Nat) (p : Pkt) (inserted : Bool) : Nat × State :=
  let seq := (s.port port).txSeq
  let s := s.takeOut port p.tc p.uid
  let s := s.setPort port (fun x => { x with
    credits := setNth x.credits p.tc (nth x.credits p.tc - p.creditCost), txSeq := (seq + 1) % 4096
    unacked := x.unacked ++ [(seq, { p with began := true })] })
  (seq, s.emit (.header port p.data (s.wireHdr port p) p.payload seq inserted))

/-- Send the next grain of the packet in progress, if it has arrived; the last one ends it, and a packet that it interrupted is in progress
again. -/
def State.sendOn (s : State) (port : Nat) : State :=
  match (s.port port).inProg with
  | none => s
  | some i =>
    let done (s : State) : State :=
      (s.setPort port (fun x => { x with inProg := x.under, under := none })).frameSent port i.seq i.endTick i.limit
    if !i.pkt.data then done s
    else if i.pkt.arrived ≤ i.sent then s
    else
      let s := match i.pkt.grains[i.sent]? with
        | some g => s.sendWireGrain port i.pkt.tc g (s.port port).under.isSome
        | none => s
      if i.sent + 1 = i.pkt.grainCount then done s
      else s.setPort port (fun x => { x with inProg := some { i with sent := i.sent + 1 } })

/-- Send a whole frame on an Ethernet port: the neighbour entry of EPID[7:0] gives destination and VLAN, and grain tags are not carried
(R137). -/
def State.sendEthernet (s : State) (port : Nat) (p : Pkt) (limit : Option Nat) : State :=
  let s := s.takeOut port p.tc p.uid
  let n := s.head.neigh.get (fun _ => 0) (256 * port + (p.epid.getD 0) % 256)
  let s := p.wireGrains.foldl (fun (s : State) g => s.useInput p.tc (dBench (ptrDie g)) (ptrBg g)) s
  let grains := p.wireGrains.map (fun g =>
    (BitVec.ofNat 2048 ((s.grain g).linkData % 2 ^ (8 * (s.grain g).len)), (s.grain g).len))
  let s := s.emit (.frame port n (s.port port).mac p.tc (s.planeOn (port / 32)).etherType p.data (s.wireHdr port p) p.payload grains)
  (s.unrefAll p.grains).frameSent port 4096 (s.tb.tick + s.linkTime port p) limit

/-- EGRESS_SCHEDULE (R152, R155, R162 to R164, R169 to R172). The egress link may start a packet, and the scheduler serves the first
eligible class; or it goes on with the next grain of the packet that it is sending. -/
def execEgressSchedule (port : Port) (s : State) : Host.Outcome State Fault Refusal :=
  let p := port.val
  if !s.portUp p then .next s
  else if (s.port p).inProg.isSome then .next (s.sendOn p)
  else
    let s := (List.range 8).foldl (fun (s : State) c => s.purgeHeads p c (s.presented p c).length) s
    match s.pick p with
    | (none, s) => .next s
    | (some (x, limit), s) =>
      if s.isEthernet p then .next (s.sendEthernet p x limit)
      else
        let d := s.linkTime p x
        let (seq, s) := s.startFrame p x false
        .next ((s.setPort p (fun y => { y with inProg := some ⟨{ x with began := true }, seq, 0, s.tb.tick + d, limit⟩ })).sendOn p)

/-- Insert every TC7 packet that is eligible, in order, whole (R163). One whose later grains are still arriving is the packet in progress
until they have gone; then the interrupted one resumes. -/
def State.insertTc7 (s : State) (port : Nat) : Nat → State
  | 0 => s
  | fuel + 1 =>
    match s.eligible port 7 with
    | none => s
    | some (p, _) =>
      let d := s.linkTime port p
      let (seq, s) := s.startFrame port p true
      let s := s.setPort port (fun x => { x with inProg := x.inProg.map (fun i => { i with endTick := i.endTick + d }) })
      if p.data && p.arrived < p.grainCount then
        (s.setPort port (fun x => { x with
          under := x.inProg, inProg := some ⟨{ p with began := true }, seq, 0, s.tb.tick + d, none⟩ })).sendOn port
      else State.insertTc7 (p.wireGrains.foldl (fun (s : State) g => s.sendWireGrain port p.tc g true) s) port fuel

/-- TC7_INSERTION (R163). TC7 packets that are eligible while a packet of another class is being sent on a Druvo-native port go
whole at its next grain boundary; then it resumes. -/
def execTc7Insertion (port : Port) (s : State) : Host.Outcome State Fault Refusal :=
  let p := port.val
  match (s.port p).inProg with
  | none => .next s
  | some i =>
    if i.pkt.tc = 7 || !s.portUp p || s.isEthernet p then .next s
    else
      let s := s.purgeHeads p 7 (s.presented p 7).length
      .next (s.insertTc7 p (s.presented p 7).length)

/-! ## The tailstock's reorder (R134) -/

/-- The distance from one sequence number to another, modulo 2^24. -/
def seqDist (a b : Nat) : Nat := (b + 2 ^ 24 - a % 2 ^ 24) % 2 ^ 24

/-- TIMEOUT_US of a port die, in ticks. -/
def State.reordTimeout (s : State) (d : Nat) : Nat := 1000 * s.fld (R.ptdReordCtl d) F.PtdReordCtl.timeoutUs

/-- A packet is released to the scheduler. -/
def State.release (s : State) (port : Nat) (p : Pkt) : State :=
  let q := qKey port p.tc
  s.setReleased q (s.releasedQ q ++ [p])

/-- A packet leaves its hold: released, or discarded if it has aged (R155). -/
def State.releaseHeld (s : State) (port : Nat) (p : Pkt) : State :=
  if s.aged p then s.dropAged (qKey port p.tc) p else s.release port p

/-- Replace slot i of a port. -/
def State.setSlot (s : State) (port i : Nat) (r : ReorderSlot) : State :=
  s.setPort port (fun x => { x with slots := x.slots.set i r })

/-- Deliver held packets while the next is expected. -/
def State.drain (s : State) (port i : Nat) : Nat → State
  | 0 => s
  | fuel + 1 =>
    match (s.port port).slots[i]? with
    | none => s
    | some r => match r.held.find? (fun p => hdrSeq p.hdr = r.expected) with
      | none => s
      | some p =>
        let s1 := s.setSlot port i { r with expected := (r.expected + 1) % 2 ^ 24, held := r.held.erase p }
        State.drain (s1.releaseHeld port p) port i fuel

/-- Held packets in SEQ order from a number on. -/
def seqOrder (from_ : Nat) (l : List Pkt) : List Pkt :=
  l.foldl (fun acc p =>
    let k := seqDist from_ (hdrSeq p.hdr)
    acc.takeWhile (fun a => decide (seqDist from_ (hdrSeq a.hdr) ≤ k)) ++ [p]
      ++ acc.dropWhile (fun a => decide (seqDist from_ (hdrSeq a.hdr) ≤ k))) []

/-- A slot jumps to e (R134): held packets below e are delivered in order, the numbers given up are marked in LATE, and held
packets go on while the next is expected. -/
def State.jump (s : State) (port i e : Nat) : State :=
  match (s.port port).slots[i]? with
  | none => s
  | some r =>
    let span := seqDist r.expected e
    let below := seqOrder r.expected (r.held.filter (fun p => decide (seqDist r.expected (hdrSeq p.hdr) < span)))
    let isHeld (k : Nat) : Bool := below.any (fun p => seqDist r.expected (hdrSeq p.hdr) = k)
    let base := (firstFrom (fun k => !isHeld k) 0 span).getD span
    let late := ((List.range 64).map (fun k =>
      if base + k < span && !isHeld (base + k) then 2 ^ k else 0)).foldl (· + ·) 0
    let s1 := s.setSlot port i { r with
      expected := e % 2 ^ 24, held := r.held.filter (fun p => !below.contains p), late := late
      lateBase := (r.expected + base) % 2 ^ 24, lastJump := some (s.dieNow (port / 32)) }
    (below.foldl (fun (s : State) p => s.releaseHeld port p) s1).drain port i r.held.length

/-- The oldest packet held on a port die: held longest, then on the lower port, then of the lower SEQ. Answers tick, port, slot and
SEQ. -/
def State.oldestHeld (s : State) (d : Nat) : Option (Nat × Nat × Nat × Nat) :=
  let all := (List.range 32).flatMap (fun l =>
    let port := 32 * d + l
    let sl := (s.port port).slots
    (List.range sl.length).flatMap (fun i => match sl[i]? with
      | some r => r.held.map (fun p => (p.heldTick, port, i, hdrSeq p.hdr))
      | none => []))
  all.foldl (fun best x => match best with
    | none => some x
    | some b =>
      if x.1 < b.1 || (x.1 = b.1 && (x.2.1 < b.2.1 || (x.2.1 = b.2.1 && x.2.2.2 < b.2.2.2))) then some x else some b) none

/-- Count one of the REORD_ counters of an egress port. -/
def State.countReord (s : State) (port : Nat) (f : Fld) : State := s.count (R.ptdPktCnt3 (port / 32) (port % 32)) f

/-- Handle a packet at its slot: deliver, hold, jump or drop (R134). -/
def State.handleSlot (s : State) (port i : Nat) (p : Pkt) : Nat → State
  | 0 => s
  | fuel + 1 =>
    match (s.port port).slots[i]? with
    | none => s
    | some r =>
      let d := port / 32
      let now := s.dieNow d
      let seq := hdrSeq p.hdr
      let dist := seqDist r.expected seq
      let stale (s : State) : State := (s.dropCount port p 0xB (some (qKey port p.tc))).releasePkt p
      if dist = 0 then
        ((s.setSlot port i { r with expected := (r.expected + 1) % 2 ^ 24 }).release port p).drain port i r.held.length
      else if dist < 4096 then
        if r.held.any (fun x => hdrSeq x.hdr = seq) then stale s
        else if 16384 ≤ s.heldOnDie d then
          match s.oldestHeld d with
          | none => s
          | some (_, po, sl, sq) => State.handleSlot ((s.jump po sl sq).countReord po F.PtdPktCnt3.reordOverflow) port i p fuel
        else s.setSlot port i { r with held := r.held ++ [{ p with heldTick := now }] }
      else if dist < 2 ^ 23 then
        State.handleSlot ((s.jump port i (seqDist 4095 seq)).countReord port F.PtdPktCnt3.reordOverflow) port i p fuel
      else
        let k := seqDist r.lateBase seq
        let young : Bool := match r.lastJump with
          | some t => decide (now < t + s.reordTimeout d)
          | none => false
        if k < 64 && bitOf r.late k && young then
          (s.setSlot port i { r with late := r.late - 2 ^ k }).release port { p with unordered := true }
        else stale s

/-- Whether a slot holds nothing, has received nothing for 10 µs and has not jumped in the last TIMEOUT_US: it is freed (R134). -/
def State.slotIdle (s : State) (d : Nat) (r : ReorderSlot) : Bool :=
  let now := s.dieNow d
  r.held = [] && decide (r.lastRecv + 10000 ≤ now)
    && (match r.lastJump with | some t => decide (t + s.reordTimeout d ≤ now) | none => true)

/-- REORDER_ARRIVAL (R134, R155). The tailstock of a final port takes the next packet of an egress queue: it delivers, holds, jumps or
drops it by its SEQ. Control packets are not in these classes. -/
def execReorderArrival (port : Port) (tc : Fin 5) (s : State) : Host.Outcome State Fault Refusal :=
  let p := port.val
  let q := qKey p tc.val
  let d := p / 32
  if !s.finalPort p || !s.portQueues p then .next s
  else match s.queue q with
    | [] => .next s
    | x :: rest =>
      if x.spillAt.isSome then .next s
      else
        let s := s.setQueue q rest
        if s.aged x then .next (s.dropAged q x)
        else
          let key (r : ReorderSlot) : Bool := decide (r.job = x.job) && decide (r.src = hdrSrc true x.hdr) && decide (r.flow = hdrFlow x.hdr)
          let s := s.setPort p (fun y => { y with slots := y.slots.filter (fun r => !s.slotIdle d r) })
          let sl := (s.port p).slots
          let now := s.dieNow d
          match (List.range sl.length).find? (fun i => (sl[i]?.map key).getD false) with
          | some i =>
            let s := s.setPort p (fun y => { y with slots := y.slots.mapIdx (fun j r => if j = i then { r with lastRecv := now } else r) })
            .next ((s.handleSlot p i x 4).showHeld d)
          | none =>
            if 64 ≤ sl.length then .next ((s.countReord p F.PtdPktCnt3.reordNoslot).release p { x with unordered := true })
            else
              let r : ReorderSlot := ⟨x.job, hdrSrc true x.hdr, hdrFlow x.hdr, hdrSeq x.hdr, [], 0, 0, none, now⟩
              .next (((s.setPort p (fun y => { y with slots := y.slots ++ [r] })).handleSlot p sl.length x 4).showHeld d)

/-- REORDER_TIMEOUT (R134). The packet that a slot has held longest has waited TIMEOUT_US: the slot jumps to it. -/
def execReorderTimeout (port : Port) (slot : Nat) (s : State) : Host.Outcome State Fault Refusal :=
  let p := port.val
  let d := p / 32
  match (s.port p).slots[slot]? with
  | none => .next s
  | some r =>
    let best := r.held.foldl (fun (b : Option Pkt) x => match b with
      | none => some x
      | some y => if x.heldTick < y.heldTick || (x.heldTick = y.heldTick && hdrSeq x.hdr < hdrSeq y.hdr) then some x else some y) none
    match best with
    | none => .next s
    | some x =>
      if s.dieNow d < x.heldTick + s.reordTimeout d then .next s
      else .next (((s.countReord p F.PtdPktCnt3.reordTimeout).jump p slot (hdrSeq x.hdr)).showHeld d)

/-- REORDER_SLOT_FREE (R134). A slot that holds nothing and has been idle is freed. -/
def execReorderSlotFree (port : Port) (slot : Nat) (s : State) : Host.Outcome State Fault Refusal :=
  let p := port.val
  match (s.port p).slots[slot]? with
  | none => .next s
  | some r =>
    if s.slotIdle (p / 32) r then .next (s.setPort p (fun x => { x with slots := x.slots.eraseIdx slot })) else .next s

end Sys2Proof.Machine
end

