-- ==== Sys2Proof/Machine/BenchOps.lean ====
section
/-! DEFINITION. Commands of the bench and its engines: spindle transfers at a parting fence, ALLOC and returns, pool levels,
reclaim, aging, spill, the shavings archive, and policer writes (R144 to R161, R165, R329, R331). -/

namespace Sys2Proof.Machine

/-! ## Parting fences (R331, R332) -/

/-- The partition that a transfer's target belongs to (R331). -/
def State.entitled (s : State) (d : Nat) (x : Xfer) : Option Nat :=
  match x.kind with
  | 0 => (s.planeOn d).partOfDie d
  | 1 => let q := (s.poolPlane (s.grain x.unit).pool).poolPart (s.grain x.unit).pool; if q < 16 then some q else none
  | 2 => if s.ctxState x.unit = csFree then none else some (recPart (s.ctx x.unit).record)
  | 3 => s.portPart (x.unit / 8)
  | _ => (xferAddr x.op).bind (fun a => (s.planeOn d).partOfAddr a.1 a.2)

/-- The bytes of a tier. -/
def State.tierSize (s : State) (tier : Nat) : Nat := if tier = 0 then s.nearBytes else farBytes

/-- Pin a rank entry in a port die's cache: at most 4,096 (R132), of the table in force. -/
def State.pinRank (s : State) (d job rank : Nat) : State :=
  let b := (s.job job).rec_
  let n := ((s.rankCache d).filter (fun e => e.pinned && !e.isFor job (jobRankBase b) rank)).length
  if 4096 ≤ n || jobRanks b ≤ rank then s
  else
    let s := s.loadRank d ⟨job, jobRankBase b, rank, s.rankEntry b rank, true⟩
    s.setFld (R.ptdRtcStat d) F.PtdRtcStat.pinned (n + 1)

/-- What a transfer does that has passed the fence: a tier read or write, a write into a context record, and firmware's tables of a
port die (R130, R132, R137, R203). -/
def State.xferApply (s : State) (d : Nat) (x : Xfer) : State :=
  match x.op with
  | .read t a n => if a + n ≤ s.tierSize t then s.emit (.readReply (s.tierRead t a n)) else s
  | .write t a b => if a + b.len ≤ s.tierSize t then s.tierWrite t a b else s
  | .ctxWrite c off b =>
    if c < 16384 && off + b.len ≤ 512 then s.setCtx c (fun y => { y with
      record := BitVec.ofNat 4096 (setBitsOf y.record.toNat (8 * off) (8 * b.len) b.val) }) else s
  | .upgroup g ports =>
    if d < 32 && g < 256 then { s with head := { s.head with
      upgrpsNext := s.head.upgrpsNext.put (256 * d + g) (ports.take 64) } } else s
  | .neighbour p i e =>
    if p / 32 = d && i < 256 then { s with head := { s.head with neigh := s.head.neigh.set (fun _ => 0) (256 * p + i) e } } else s
  | .mac p a => if p / 32 = d then s.setPort p (fun y => { y with mac := a % 2 ^ 48 }) else s
  | .pin j r => if d < 32 then s.pinRank d j r else s
  | .other => s

/-- A transfer at the fence of a die (R331): with SYS it passes; else only for the partition that its target belongs to, unless that
partition is resetting (R388). -/
def State.xferFence (s : State) (d : Nat) (x : Xfer) : State :=
  if x.sys || (s.entitled d x = some x.part && !s.partBusy x.part) then s.xferApply d x else s.fenceDrop d x

/-! ## The spindle's arbiters (R174 to R178) -/

/-- The reserved slot of a bridge channel that runs now: 64 ticks each from the turn boundary (R424). -/
def State.slotNow (s : State) : Nat := s.sinceTurn / 64

/-- The (bridge, slot) pairs that are reserved for a circuit (R424). -/
def Plane.slotsOf (p : Plane) (id : Nat) : List (Nat × Nat) :=
  match p.findCircuit id with
  | none => []
  | some (q, k) => (List.range (p.circuit q k 8 1)).map (fun i =>
      let v := p.circuit q k (16 + 4 * i) 4
      (bitsOf v 28 4, bitsOf v 0 24))

/-- In which order a request is served (R174): TC7, TC6, a circuit's grain in one of its reserved slots, all else. -/
def State.xferOrder (s : State) (x : Xfer) : Nat :=
  if x.tc = 7 then 0
  else if x.tc = 6 then 1
  else match x.circuit with
    | some id => if x.hops.any (fun h => (s.plane.slotsOf id).contains (h.bridge, s.slotNow)) then 2 else 3
    | none => 3

/-- The weighted request that is served next (R175): the die whose turn it is has grains left in the round, or the next die that asks has its
turn, with W grains; of that die the next active input is served. Dies come in the order of their numbers (DESIGN CHOICE, log 43). -/
def State.pickWeighted (s : State) (d : Nat) (ws : List Xfer) : Option (Xfer × State) :=
  let x := s.die d
  let has (o : Nat) : Bool := ws.any (fun y => decide (y.src = o))
  let goOn := decide (0 < x.roundLeft) && has x.roundDie
  let o := if goOn then some x.roundDie else ((List.range 100).map (fun i => (x.roundDie + 1 + i) % 100)).find? has
  match o with
  | none => none
  | some o =>
    let left := if goOn then x.roundLeft else (s.die o).spindleWeight
    let y := ((List.range 8).map (fun i => ((s.die o).nextInput + i) % 8)).findSome? (fun i =>
      ws.find? (fun y => decide (y.src = o) && decide (y.input % 8 = i)))
    match y with
    | none => none
    | some y =>
      some (y, (s.setDie d (fun z => { z with roundDie := o, roundLeft := left - 1 })).setDie o (fun z => { z with
        nextInput := (y.input + 1) % 8 }))

/-- What crossing a bridge shows in BRG_ARB_STAT (R178): retries, the longest wait of a TC7 grain, and a reserved slot that weighted traffic
takes, once for each slot. -/
def State.crossBridge (s : State) (x : Xfer) (order : Nat) (h : Hop) : State :=
  let r := R.brgArbStat h.bridge
  let s := s.countBy r F.BrgArbStat.retries h.retries
  let s := if order = 0 then s.raiseMax r F.BrgArbStat.tc7WaitMax h.wait else s
  let slot := s.tb.turn * 2 ^ 24 + s.slotNow + 1
  if order < 2 || (s.die (dBridge h.bridge)).lastSlot = slot || !s.plane.reservedSlots.contains (h.bridge, s.slotNow) then s
  else
    let mine := (x.circuit.map (fun id => (s.plane.slotsOf id).contains (h.bridge, s.slotNow))).getD false
    let s := s.setDie (dBridge h.bridge) (fun z => { z with lastSlot := slot })
    if mine then s else s.count r F.BrgArbStat.resvUnused

/-- The request served next: those of strict order first, then by weight (R174). -/
def State.nextXfer (s : State) (d : Nat) (l : List Xfer) : Option (Xfer × State) :=
  match (List.range 3).findSome? (fun o => l.find? (fun x => decide (s.xferOrder x = o))) with
  | some x => some (x, s)
  | none => s.pickWeighted d l

/-- Serve the requests that wait for a die, one grain each, in the order of the arbiters. -/
def State.serveXfers (s : State) (d : Nat) : Nat → List Xfer → State
  | 0, _ => s
  | n + 1, l =>
    match s.nextXfer d l with
    | none => s
    | some (x, s) =>
      let order := s.xferOrder x
      ((x.hops.foldl (fun (s : State) h => s.crossBridge x order h) s).xferFence d x).serveXfers d n (l.erase x)

/-- SPINDLE_TRANSFER_RECEIVE (R174 to R178, R331): the transfers that wait for a die are served and pass, or are dropped at, its fence. -/
def execSpindleTransferReceive (die : Die) (waiting : List Xfer) (s : State) : Host.Outcome State Fault Refusal :=
  let s := waiting.foldl (fun (s : State) x => s.useInput x.tc x.src (x.input % 8)) s
  .next (s.serveXfers die.val waiting.length waiting)

/-! ## ALLOC and return (R144, R145, R148, R150, R154) -/

/-- A requester identifier that is reserved (R144). -/
def reqReserved (i : Nat) : Bool := (0x478 ≤ i && i ≤ 0x47F) || i = 0x485 || 0x488 ≤ i

/-- Record a refused operation at the pool manager of bench die d: BCH_PM_CHK and BCH_PM_LAST (R150, R161). -/
def State.pmRefuse (s : State) (d req cause ptr : Nat) : State :=
  let r := R.bchPmChk d
  let s := match cause with
    | 1 => s.count r F.BchPmChk.align
    | 2 => s.count r F.BchPmChk.range
    | 3 => s.count r F.BchPmChk.double
    | 4 => s.count r F.BchPmChk.owner
    | _ => s.count r F.BchPmChk.stale
  let l := R.bchPmLast d
  let s := s.setFld l F.BchPmLast.req req
  let s := s.setFld l F.BchPmLast.cause cause
  let s := s.setFld l F.BchPmLast.pointer ptr
  s.setFld l F.BchPmLast.stampLo (s.dieNow (dBench d))

/-- Whether a requester waits when its ALLOC cannot be granted: all but an ingress port (R145). -/
def reqWaits (i : Nat) : Bool := 0x400 ≤ i

/-- GRAIN_ALLOC (R144, R145, R148, R154). An ALLOC of count grains is granted, refused, or waits. -/
def execGrainAlloc (die : BDie) (req : Req) (epoch : Nat) (count : Nat) (s : State) : Host.Outcome State Fault Refusal :=
  let i := req.val
  if reqReserved i then .next (s.pmRefuse die.val i 2 0)
  else if epoch % 16 ≠ s.epoch i then .next (s.pmRefuse die.val i 5 0)
  else
    let wait (s : State) : State := if reqWaits i then s.withBench (fun b => { b with waits := b.waits ++ [⟨i, epoch % 16, count, none⟩] }) else s
    if !s.quotaOk i count then .next (wait s)
    else
      let pool := (s.reqPlane i).reqPool i
      let (ok, s) := s.admitAlloc pool count
      if !ok then .next (wait s)
      else match s.allocN (s.reqHalf i) i pool none count with
        | some (_, s) => .next s
        | none => .next (wait s)

/-- A context of a lathe that holds a reference to a grain as an arrival or as a result that waits for its release. -/
def State.ctxHolding (s : State) (k ptr : Nat) : Option Nat :=
  (s.residents k).find? (fun c =>
    let q := (s.ctx c).coll
    (q.pend ++ q.early ++ q.above ++ q.accepted).any (fun n => n.ptr = some ptr) || q.formed.any (fun f => f.ptr = ptr))

/-- A context's reference to a grain is given up: an arrival names it no more, and a result is not released. -/
def Coll.forget (q : Coll) (ptr : Nat) : Coll :=
  let f (n : Notice) : Notice := if n.ptr = some ptr then { n with ptr := none } else n
  { q with
    pend := q.pend.map f, early := q.early.map f, above := q.above.map f, accepted := q.accepted.map f
    formed := q.formed.filter (fun x => decide (x.ptr ≠ ptr)) }

/-- An egress port's reference to a grain of a frame that it has sent, or of a packet that it holds, is given up. -/
def PortSt.forget (x : PortSt) (ptr : Nat) : PortSt :=
  let f (p : Pkt) : Pkt := { p with grains := p.grains.erase ptr }
  { x with
    unacked := x.unacked.map (fun u => (u.1, f u.2)), slots := x.slots.map (fun r => { r with held := r.held.map f }) }

/-- Whether a packet of an egress port's queues, or a frame that it has sent, refers to a grain. -/
def State.portHolds (s : State) (port ptr : Nat) : Bool :=
  (s.port port).unacked.any (fun u => u.2.grains.contains ptr)
    || (List.range 8).any (fun tc => (s.wholeQueue (qKey port tc)).any (fun p => p.grains.contains ptr))

/-- An egress port gives up its references to a grain. -/
def State.portForgets (s : State) (port ptr : Nat) : State :=
  let f (p : Pkt) : Pkt := { p with grains := p.grains.erase ptr }
  let s := (List.range 8).foldl (fun (s : State) tc =>
    let q := qKey port tc
    (s.setQueue q ((s.queue q).map f)).setReleased q ((s.releasedQ q).map f)) s
  s.setPort port (fun x => x.forget ptr)

/-- A holder gives up its reference to a LINKED grain: a port one of a packet of its queues or of a frame that it has sent, a lathe one of an
arrival or of a result of a resident context; none when the requester holds none. -/
def State.releaseLinked (s : State) (req ptr : Nat) : Option State :=
  if req < 0x400 then
    if s.portHolds req ptr then some ((s.portForgets req ptr).unref ptr) else none
  else if req < 0x478 then
    match s.ctxHolding (req - 0x400) ptr with
    | none => none
    | some c => some ((s.setColl c (fun q => q.forget ptr)).unref ptr)
  else none

/-- The engine that a refused return resets: the requester's lathe, or its port's quad (R150, R385). -/
def reqEngine (i : Nat) : Option (Nat × Nat) :=
  if i < 0x400 then some (dPort (i / 32), i % 32)
  else if i < 0x478 then some (dLathe ((i - 0x400) / 5), (i - 0x400) % 5)
  else none

/-- A refused return; from lathes and engines, all but STALE writes a record that asks for step 2 (R150). -/
def State.returnRefused (s : State) (d req cause ptr addr : Nat) : State :=
  let s := s.pmRefuse d req cause ptr
  if cause = 5 || 0x484 < req || reqReserved req then s
  else
    let old := s.err.escal
    let s := s.raise { plainRec 0x0E 2 2 (dBench d) (s.dieNow (dBench d)) with addr := addr, unit := ptrBg ptr, detail := req }
    let s := { s with err := { s.err with escal := old } }
    match reqEngine req with
    | some (e, u) => s.escalate 2 e u 0x1F
    | none => s

/-- GRAIN_RETURN (R150, R151). A returned grain, named by its bench address, passes the checks in their order and is freed or
released. -/
def execGrainReturn (die : BDie) (req : Req) (epoch : Nat) (pointer : Nat) (s : State) : Host.Outcome State Fault Refusal :=
  let d := die.val
  let i := req.val
  let ptr := pointer / 256 % 2 ^ 23
  let no (cause : Nat) : Host.Outcome State Fault Refusal := .next (s.returnRefused d i cause ptr (pointer % 2 ^ 31))
  let g := s.grain ptr
  if pointer % 256 ≠ 0 then no 1
  else if !ptrInPool ptr || reqReserved i then no 2
  else if epoch % 16 ≠ s.epoch i then no 5
  else match g.st with
    | .free => no 3
    | .held => if g.req = i then .next (s.freeGrain ptr) else no 4
    | .linked => match s.releaseLinked i ptr with
      | some s => .next s
      | none => no 4

/-! ## Pool levels (R147, R148) -/

/-- The threshold of a level: 1 WARN to 4 HARD. -/
def Plane.levelAt (p : Plane) (k lv : Nat) : Nat := p.poolField k lv

/-- The level of a pool after a sum: it rises to the highest threshold reached, and falls by one below its threshold less HYST. -/
def nextLevel (p : Plane) (k occ lv : Nat) : Nat :=
  let reached := ((List.range 4).map (fun i => if p.levelAt k (i + 1) ≤ occ then i + 1 else 0)).foldl max 0
  if lv < reached then reached
  else if 0 < lv && occ + p.poolHyst k < p.levelAt k lv then lv - 1
  else lv

/-- Sum one pool: its level by its thresholds, and the LEVEL it stands at, which is HARD while its half is short of descriptors (R147,
R156). -/
def State.sumPool (s : State) (k : Nat) : State :=
  if (s.poolPlane k).poolPart k = 0xFF then s
  else
    let r := poolReg k
    let occ := s.poolOcc k
    let was := s.fld r F.BchPoolStat.level
    let lv := nextLevel (s.poolPlane k) k occ (s.bench.levels.get (fun _ => 0) k)
    let s := s.withBench (fun b => { b with levels := b.levels.set (fun _ => 0) k lv })
    let new := s.poolLevel k
    let s := ((s.setFld r F.BchPoolStat.occ occ).raiseMax r F.BchPoolStat.occMax occ).setFld r F.BchPoolStat.level new
    if new = was then s else s.emit (.benchEvent 0 k new)

/-- Grant what waits of the requesters that are not lathes, where it can be granted now (R145). -/
def State.grantEngines (s : State) : State :=
  s.bench.waits.foldl (fun (s : State) w =>
    if 0x400 ≤ w.req && w.req < 0x478 || w.epoch ≠ s.epoch w.req || !s.quotaOk w.req w.count then s
    else
      let pool := (s.reqPlane w.req).reqPool w.req
      let (ok, s1) := s.admitAlloc pool w.count
      if !ok then s1
      else match s1.allocN (s1.reqHalf w.req) w.req pool none w.count with
        | some (_, s2) => s2.withBench (fun b => { b with waits := b.waits.erase w })
        | none => s1) s

/-- An Ethernet port that is UP asks its peer to pause the priorities of the lossless classes while the pool of its grains stands at PUSHOUT
or HARD, and to resume them below (R101; IEEE 802.1Qbb leaves the threshold to the receiver: DESIGN CHOICE, log 52). -/
def State.askPause (s : State) (p : Nat) : State :=
  if !s.isEthernet p || !s.portUp p then s
  else
    let k := (s.reqPlane p).reqPool p
    let full := decide (k ≠ 0xFF) && decide (3 ≤ s.poolLevel k)
    let mask := if full then ((List.range 8).map (fun tc => if s.losslessOn p tc then 2 ^ tc else 0)).foldl (· + ·) 0 else 0
    let was := (s.port p).pfcOut
    if mask = was then s else (s.setPort p (fun x => { x with pfcOut := mask })).emit (.pause p (mask ||| was) mask)

/-- POOL_LEVEL_SUM (R136, R147). The pool leaders sum the occupancy of each pool and set its level; results that wait for a descriptor,
credits and engines' ALLOCs that wait are tried again. -/
def execPoolLevelSum (s : State) : Host.Outcome State Fault Refusal :=
  let s := (List.range 64).foldl State.sumPool s
  let s := s.withBench (fun b => { b with since := [] })
  let s := (s.ports.map Prod.fst).foldl (fun (s : State) p => s.askPause p) s.linkWaiting
  let waiting := s.ports.keysWhere (fun x => x.waitCredits.any (fun n => decide (n ≠ 0)))
  .next ((waiting.foldl (fun (s : State) p => s.tryCredits p) s).grantEngines)

/-! ## Reclaim (R154, R161) -/

/-- RECLAIM (R154, R161): on a pool leader, dies 0 and 8. -/
def execReclaim (w : Writer) (die : BDie) (req : Req) (s : State) : Host.Outcome State Fault Refusal :=
  let d := die.val
  let r := R.bchReclaim d
  .next (s.fenced w (dBench d) r (fun s =>
    if d ≠ 0 && d ≠ 8 then s
    else if reqReserved req.val || s.fld r F.BchReclaim.busy = 1 then s.setFld r F.BchReclaim.cmdRefused 1
    else
      let s := s.raiseEpoch req.val
      let s := (s.setFld r F.BchReclaim.busy 1).setFld r F.BchReclaim.lastReq req.val
      s.setFld r F.BchReclaim.epoch (s.epoch req.val)))

/-- RECLAIM_COMPLETE (R154): the requester's HELD grains are FREE, and BCH_RECLAIM reports the count. -/
def execReclaimComplete (die : BDie) (req : Req) (s : State) : Host.Outcome State Fault Refusal :=
  let r := R.bchReclaim die.val
  if s.fld r F.BchReclaim.busy = 1 && s.fld r F.BchReclaim.lastReq = req.val then
    let (n, s) := s.reclaimHeld req.val
    .next ((s.setFld r F.BchReclaim.grains (min n 0xFFFF)).setFld r F.BchReclaim.busy 0)
  else .next s

/-! ## Aging and spill (R155, R157) -/

/-- Discard the heads of a list of packets while they have aged. -/
def State.ageHeads (s : State) (q : Nat) : List Pkt → List Pkt × State
  | [] => ([], s)
  | p :: rest => if s.aged p then State.ageHeads (s.dropAged q p) q rest else (p :: rest, s)

/-- RETRAIN_AGE_SCAN (R155): the heads of the held queues of a port in RETRAIN or RESIZE. -/
def execRetrainAgeScan (port : Port) (s : State) : Host.Outcome State Fault Refusal :=
  let p := port.val
  if s.portState p ≠ 5 && s.portState p ≠ 6 then .next s
  else .next ((List.range 8).foldl (fun (s : State) tc =>
    let q := qKey p tc
    let (l, s) := s.ageHeads q (s.releasedQ q)
    let s := s.setReleased q l
    let (l, s) := s.ageHeads q (s.queue q)
    s.setQueue q l) s)

/-- Where the spilled packets of a partition lie in its region: offset and length (288 bytes a grain; log 18). -/
def State.spilledAt (s : State) (part : Nat) : List (Nat × Nat) :=
  s.bench.queues.flatMap (fun e =>
    if s.portPart (e.1 / 8) = some part then
      e.2.filterMap (fun p => p.spillAt.map (fun o => (o, 288 * p.creditCost)))
    else [])
    ++ s.ctxs.flatMap (fun e => if recPart e.2.record = part then e.2.coll.pend.filterMap (fun n => n.spillAt.map (fun o => (o, 288))) else [])

/-- The first offset at which n bytes are free in a partition's spill region. -/
def State.spillPlace (s : State) (half part n : Nat) : Option Nat :=
  let used := s.spilledAt part
  let clear (o : Nat) : Bool := decide (o + n ≤ (s.benchPlane half).spillLen part) && used.all (fun u => !overlaps o n u.1 u.2)
  (0 :: used.map (fun u => u.1 + u.2)).find? clear

/-- A grain as it is written to the spill region: its bytes, word, length and layout. -/
def GrainSt.spillBytes (g : GrainSt) : Blob :=
  ⟨288, g.data.toNat + (g.word % 2 ^ 64) * 2 ^ 2048 + (g.len % 2 ^ 16) * 2 ^ 2112 + (g.lay % 2 ^ 16) * 2 ^ 2128⟩

/-- The packets of a queue with the bench grains that lie before each. -/
def grainsBefore (n : Nat) : List Pkt → List (Nat × Pkt)
  | [] => []
  | p :: ps => (n, p) :: grainsBefore (n + (if p.spillAt.isSome then 0 else p.grains.length)) ps

/-- Whether a queue may spill: lossless, its pool from THROTTLE up, its half with a spill share (R157). -/
def State.maySpill (s : State) (q : Nat) : Bool :=
  let pl := s.benchPlane (portHalf (q / 8))
  let k := pl.queuePool q
  match s.portPart (q / 8) with
  | some part => pl.lossless part (q % 8) && decide (k < 64) && decide (2 ≤ s.poolLevel k)
      && decide (pl.spillShare (portHalf (q / 8)) ≠ 0)
  | none => false

/-- Spill one packet: its grains go to the near tier and are released; none when the region has no room for it. -/
def State.spillPkt (s : State) (q part : Nat) (p : Pkt) : Option State :=
  match s.spillPlace (portHalf (q / 8)) part (288 * p.creditCost) with
  | none => none
  | some o =>
    let base := (s.benchPlane (portHalf (q / 8))).spillBase part + o
    let s := (List.range p.grains.length).foldl (fun (s : State) i => match p.grains[i]? with
      | some g => s.nearWrite (base + 288 * i) (s.grain g).spillBytes
      | none => s) s
    let s := s.unrefAll p.grains
    some (s.setQueue q ((s.queue q).map (fun x => if x.uid = p.uid then { x with spillAt := some o, grains := [] } else x)))

/-- Spill packets in order until the region is full (R157). -/
def State.spillList (s : State) (q part : Nat) : List Pkt → State
  | [] => s
  | p :: ps => match s.spillPkt q part p with
    | some s => s.spillList q part ps
    | none => s

/-- The grains of a queue's bench head: before its first spilled packet. -/
def headGrains (l : List Pkt) : Nat := benchGrains (l.takeWhile (fun p => p.spillAt.isNone))

/-- Whether a queue is due for readback: it has spilled packets, and its bench head has fallen below SPILL_KEEP / 2 grains (R157). -/
def State.readbackDue (s : State) (q : Nat) : Bool :=
  let pl := s.benchPlane (portHalf (q / 8))
  (s.queue q).any (fun p => p.spillAt.isSome) && decide (headGrains (s.queue q) < pl.spillKeep (pl.queuePool q) / 2)

/-- Whether contributions of a context are due for readback: it is on a lathe, and some are spilled (R158). -/
def CtxSt.readbackDue (x : CtxSt) : Bool := x.phys.isSome && x.coll.pend.any (fun n => n.spillAt.isSome)

/-- Whether the spill engine of a half has readback to do, which takes precedence over writes (R157, R158). -/
def State.readbackFirst (s : State) (half : Nat) : Bool :=
  s.bench.queues.any (fun e => decide (portHalf (e.1 / 8) = half) && s.readbackDue e.1)
    || s.ctxs.any (fun e => decide (e.2.home / 12 = half) && e.2.readbackDue)

/-- The packets of a queue behind its first SPILL_KEEP grains move to the partition's spill region, until it is full; readback that is due
goes first. Packets that are still arriving stay. -/
def State.spillQueue (s : State) (q : Nat) : State :=
  let pl := s.benchPlane (portHalf (q / 8))
  let keep := pl.spillKeep (pl.queuePool q)
  match s.portPart (q / 8) with
  | none => s
  | some part =>
    if !s.maySpill q || benchGrains (s.queue q) ≤ keep || s.readbackFirst (portHalf (q / 8)) then s
    else
      let l := ((grainsBefore 0 (s.queue q)).filter (fun x => decide (keep ≤ x.1) && x.2.spillAt.isNone
        && decide (x.2.arrived = x.2.creditCost))).map Prod.snd
      s.spillList q part l

/-- A contribution that waits for a context may spill: its grain is on the bench, and the grain's pool stands at THROTTLE or higher. -/
def State.noteSpills (s : State) (n : Notice) : Bool :=
  match n.ptr with
  | some g => n.spillAt.isNone && decide (2 ≤ s.poolLevel (s.grain g).pool)
  | none => false

/-- The first contribution that waits for a context and may spill moves to the partition's spill region; none when there is none, or no room. -/
def State.spillNote (s : State) (c half : Nat) : Option State :=
  let x := s.ctx c
  let part := recPart x.record
  match x.coll.pend.find? s.noteSpills, s.spillPlace half part 288 with
  | some n, some o =>
    let g := n.ptr.getD 0
    let s := (s.nearWrite ((s.benchPlane half).spillBase part + o) (s.grain g).spillBytes).unref g
    some (s.setColl c (fun q => { q with
      pend := q.pend.map (fun m => if m.ptr = n.ptr then { m with ptr := none, spillAt := some o } else m) }))
  | _, _ => none

/-- Spill contributions of a context, in order, while there is room (R158). -/
def State.spillNotes (s : State) (c half : Nat) : Nat → State
  | 0 => s
  | fuel + 1 => match s.spillNote c half with
    | some s => s.spillNotes c half fuel
    | none => s

/-- The contributions that wait for a context spill while it is on no lathe (R158). -/
def State.spillCtx (s : State) (c : Nat) : State :=
  let x := s.ctx c
  let half := x.home / 12
  if x.phys.isSome || (s.benchPlane half).spillShare half = 0 || s.readbackFirst half then s
  else s.spillNotes c half x.coll.pend.length

/-- SPILL_WRITE (R157, R158). -/
def execSpillWrite (what : SpillOf) (s : State) : Host.Outcome State Fault Refusal :=
  match what with
  | .queue q => .next (s.spillQueue q.val)
  | .ctx c => .next (s.spillCtx c.val)

/-- Read one grain from the spill region at an address. -/
def State.spillRead (s : State) (a g : Nat) : State :=
  let b := s.nearRead a 288
  s.setGrain g { s.grain g with
    st := .linked, refs := 1, data := BitVec.ofNat 2048 b.val, word := b.le 256 8, len := b.le 264 2, lay := b.le 266 2 }

/-- Read one spilled packet back to the bench, into grains of the spill engine; one that has aged is discarded. Answers none when
no grains are to be had. -/
def State.readBack (s : State) (q part : Nat) (p : Pkt) (o : Nat) : Option State :=
  if s.aged p then some ((s.setQueue q ((s.queue q).filter (fun x => decide (x.uid ≠ p.uid)))).dropAged q p)
  else
    let half := portHalf (q / 8)
    let req := 0x480 + half
    let pool := (s.reqPlane req).reqPool req
    if !s.quotaOk req p.creditCost then none
    else
      let (ok, s) := s.admitAlloc pool p.creditCost
      if !ok then none
      else match s.allocN half req pool (some p.job) p.creditCost with
        | none => none
        | some (l, s) =>
          let base := (s.benchPlane (portHalf (q / 8))).spillBase part + o
          let s := (List.range l.length).foldl (fun (s : State) i => match l[i]? with
            | some g => s.spillRead (base + 288 * i) g
            | none => s) s
          some (s.setQueue q ((s.queue q).map (fun x => if x.uid = p.uid then { x with spillAt := none, grains := l } else x)))

/-- Read packets back until the head holds SPILL_KEEP grains. -/
def State.readBackAll (s : State) (q part keep : Nat) : Nat → State
  | 0 => s
  | fuel + 1 =>
    if keep ≤ headGrains (s.queue q) then s
    else match (s.queue q).find? (fun p => p.spillAt.isSome) with
      | none => s
      | some p => match s.readBack q part p (p.spillAt.getD 0) with
        | some s => State.readBackAll s q part keep fuel
        | none => s

/-- A queue whose bench head has fallen below SPILL_KEEP / 2 grains gets spilled packets back, within the half's SPILL_SHARE: none where it
is 0. -/
def State.readQueue (s : State) (q : Nat) : State :=
  let pl := s.benchPlane (portHalf (q / 8))
  let keep := pl.spillKeep (pl.queuePool q)
  match s.portPart (q / 8) with
  | none => s
  | some part => if !s.readbackDue q || pl.spillShare (portHalf (q / 8)) = 0 then s else s.readBackAll q part keep (s.queue q).length

/-- The first spilled contribution of a context is read back to the bench, into a grain of the spill engine; none when there is none, or no
grain is to be had. -/
def State.readNote (s : State) (c half : Nat) : Option State :=
  let x := s.ctx c
  let req := 0x480 + half
  let pool := (s.reqPlane req).reqPool req
  match x.coll.pend.find? (fun n => n.spillAt.isSome) with
  | none => none
  | some n =>
    if !s.quotaOk req 1 then none
    else
      let (ok, s) := s.admitAlloc pool 1
      if !ok then none
      else match s.allocOne half req pool (some (recJob x.record)) with
        | none => none
        | some (g, s) =>
          let s := s.spillRead ((s.benchPlane half).spillBase (recPart x.record) + n.spillAt.getD 0) g
          some (s.setColl c (fun q => { q with
            pend := q.pend.map (fun m => if m.spillAt = n.spillAt then { m with ptr := some g, spillAt := none } else m) }))

/-- Read the contributions of a context back, in order (R158). -/
def State.readNotes (s : State) (c half : Nat) : Nat → State
  | 0 => s
  | fuel + 1 => match s.readNote c half with
    | some s => s.readNotes c half fuel
    | none => s

/-- The spilled contributions of a context that is on a lathe come back before it consumes them (R158). -/
def State.readCtx (s : State) (c : Nat) : State :=
  let x := s.ctx c
  let half := x.home / 12
  if !x.readbackDue || (s.benchPlane half).spillShare half = 0 then s else s.readNotes c half x.coll.pend.length

/-- SPILL_READBACK (R155, R157, R158). -/
def execSpillReadback (what : SpillOf) (s : State) : Host.Outcome State Fault Refusal :=
  match what with
  | .queue q => .next (s.readQueue q.val)
  | .ctx c => .next (s.readCtx c.val)

/-! ## The shavings archive (R160) -/

/-- ARCHIVE_SEGMENT_COPY (R160): the next full segment of a half's ring, 256 KiB, goes to the circular archive in the far tier. -/
def execArchiveSegmentCopy (die : BDie) (s : State) : Host.Outcome State Fault Refusal :=
  let d := die.val
  let half := d / 8
  let gib := s.fld (R.bchShavCtl (8 * half)) F.BchShavCtl.archGib
  let seq := s.bench.taken.get (fun _ => 0) half
  let a := max (s.bench.archived.get (fun _ => 0) half) (seq / 4096 - 128)
  if d % 8 ≠ 0 || gib = 0 || seq / 4096 ≤ a then .next s
  else
    let base := Config.archiveBase half + 262144 * (a % (4096 * gib))
    let s := (List.range 4096).foldl (fun (s : State) i =>
      match s.bench.shav.get (fun _ => none) (524288 * half + (4096 * a + i) % 524288) with
      | some b => s.farWrite (base + 64 * i) ⟨64, b.val⟩
      | none => s) s
    .next (s.withBench (fun b => { b with archived := b.archived.set (fun _ => 0) half (a + 1) }))

/-! ## Policer writes (R165, R166, R176, R177, R329) -/

/-- A value stored in a field, clamped to a maximum; answers whether it was clamped. -/
def clampTo (top x : Nat) : Nat × Bool := if top < x then (top, true) else (x, false)

/-- POLICER_PROFILE_WRITE (R176, R177): rates and OVERHEAD are clamped to their limits, with CLAMPED, and buckets to the new CBS and
PBS. -/
def execPolicerProfileWrite (w : Writer) (die : PDie) (k : Fin 64) (isB : Bool) (value : W64) (s : State) :
    Host.Outcome State Fault Refusal :=
  let d := die.val
  let ra := R.ptdPolProfA d k.val
  let rb := R.ptdPolProfB d k.val
  .next (s.fenced w d (if isB then rb else ra) (fun s =>
    if isB then
      let old := s.fld rb F.PtdPolProfB.clamped
      let s := s.setFld rb F.PtdPolProfB.clamped (if F.PtdPolProfB.clamped.get value = 1 then 0 else old)
      let cbs := F.PtdPolProfB.cbs.get value
      let pbs := F.PtdPolProfB.pbs.get value
      let s := (s.setFld rb F.PtdPolProfB.cbs cbs).setFld rb F.PtdPolProfB.pbs pbs
      let mine (i : Nat) : Bool := i / 2048 = d && s.fld (R.ptdPolCfg d (i % 2048)) F.PtdPolCfg.profile = k.val
      { s with head := { s.head with pol := s.head.pol.map (fun e =>
          if mine e.1 then (e.1, { e.2 with tc := min e.2.tc (1024 * cbs), tp := min e.2.tp (1024 * pbs) }) else e) } }
    else
      let top := (s.planeOn d).polRateMax
      let (cir, c1) := clampTo top (F.PtdPolProfA.cir.get value)
      let (pir, c2) := clampTo top (F.PtdPolProfA.pir.get value)
      let o := signedOf (F.PtdPolProfA.overhead.get value) 9
      let low : Bool := decide (o < -64)
      let s := (s.setFld ra F.PtdPolProfA.cir cir).setFld ra F.PtdPolProfA.pir pir
      let s := s.setFld ra F.PtdPolProfA.overhead (unsignedOf (if low then -64 else o) 9)
      if c1 || c2 || low then s.setFld rb F.PtdPolProfB.clamped 1 else s))

/-- The policers bound to a job over all port dies, but for one (R329). -/
def State.jobPolicers (s : State) (j skip : Nat) : Nat :=
  (s.regs.filter (fun e =>
    decide (0x01004000 ≤ e.1) && decide (e.1 < 0x01200000) && decide (e.1 % 0x10000 / 0x4000 = 1) && decide (e.1 < 0x01000000 + 0x200000)
      && decide (e.1 % 0x10000 < 0xC000) && decide (e.1 % 16 = 0) && decide (e.1 ≠ skip)
      && decide (F.PtdPolCfg.en.get e.2 = 1) && decide (F.PtdPolCfg.jobAny.get e.2 = 0) && decide (F.PtdPolCfg.job.get e.2 = j))).length

/-- POLICER_BIND_WRITE (R176, R177, R329): the policer is bound, its buckets full before its next check; at the job's Q_POLICERS the
write stores EN = 0. -/
def execPolicerBindWrite (w : Writer) (die : PDie) (i : Fin 2048) (value : W64) (s : State) : Host.Outcome State Fault Refusal :=
  let d := die.val
  let r := R.ptdPolCfg d i.val
  .next (s.fenced w d r (fun s =>
    let j := F.PtdPolCfg.job.get value
    let wants : Bool := F.PtdPolCfg.en.get value = 1 && F.PtdPolCfg.jobAny.get value = 0
    let tooMany : Bool := wants && decide ((s.job j).rec_.le 52 4 ≤ s.jobPolicers j r)
    let v := value &&& ~~~ (0x3FFFFFF#64)
    let s := s.wr r (if tooMany then F.PtdPolCfg.en.put v 0 else v)
    let s := { s with head := { s.head with pol := s.head.pol.set (fun _ => ⟨true, 0, 0, 0⟩) (2048 * d + i.val) ⟨true, 0, 0, 0⟩ } }
    if tooMany then s.count (R.svJobHit j) F.SvJobHit.polHit else s))

end Sys2Proof.Machine
end

