-- ==== Sys2Proof/Machine/Operands.lean ====
section
/-! DEFINITION. Bundles and syllables: the header, the six slots with every operand form, the reserved encodings and what
each names as its destination, the registers a syllable needs, and the descriptor of a stream (R221 to R242, R256, R257,
R299). -/

namespace Sys2Proof.Machine

/-- The bits hi to lo of a syllable. -/
def syl (x hi lo : Nat) : Nat := bitsOf x lo (hi - lo + 1)
/-- The bits hi to lo of a syllable as a signed number. -/
def sylS (x hi lo : Nat) : Int := signedOf (syl x hi lo) (hi - lo + 1)

/-- A control syllable (R230). -/
inductive CSyl where
  | nop
  | br (off : Int)
  | bcc (a b cond : Nat) (off : Int)
  | jal (d : Nat) (off : Int)
  | jr (a : Nat)
  | fence
  | halt (code : Nat)
  /-- Reserved: no branch, no register, no fence, no halt. -/
  | bad
  deriving DecidableEq, Repr

/-- The destination that a reserved syllable names (R257). -/
inductive BadDest where
  | none | s (d : Nat) | a (n : Nat) | str (n : Nat) | k (n : Nat) | v (d : Nat) | l (n : Nat) | nctl
  | gin (v s : Nat)
  deriving DecidableEq, Repr

/-- A scalar syllable (R231). -/
inductive SSyl where
  | nop
  | alu (op d a b : Nat)
  | imm (op d a i : Nat)
  | lui (d i : Nat)
  | shift (op d a sh : Nat)
  | aset (n a b : Nat)
  | aaddi (n : Nat) (i : Int)
  | apset (n m : Nat)
  | aget (d n : Nat) (h : Bool)
  | strset (n a : Nat) (i : Int)
  | pget (d m : Nat)
  | setnctl (a : Nat)
  | getnctl (d : Nat)
  | getf (d : Nat)
  | clrf (a : Nat)
  | getprog (d : Nat)
  | kfirst (k a : Nat)
  | kop (k a b op : Nat)
  | kcnt (d a : Nat)
  | bad (d : BadDest)
  deriving DecidableEq, Repr

/-- A vector syllable (R232, R233). -/
inductive VSyl where
  | nop
  | arith (op d a b k rnd c : Nat)
  | cvtu (d a fmt part cr : Nat)
  | cvtp (d a fmt part rnd cr : Nat) (srci : Bool)
  | lclr (n k : Nat)
  | lacc (n part a fmt k cr : Nat)
  | ladd (n m k : Nat)
  | lrnd (d n fmt cr k rnd : Nat)
  | lgetw (d n j k : Nat)
  | lputw (n a j k : Nat)
  | bad (d : BadDest)
  deriving DecidableEq, Repr

/-- A memory syllable (R234). pipe of a reserved one: whether it asks for the pipeline. -/
inductive MSyl where
  | nop
  | ldv (d win a size k : Nat)
  | stv (d win a size k : Nat)
  | lds (d win a : Nat) (i : Int)
  | sts (d win a : Nat) (i : Int)
  | ldk (k win a : Nat)
  | stk (k win a : Nat)
  | bad (d : BadDest) (pipe : Bool)
  deriving DecidableEq, Repr

/-- A transfer syllable (R235, R241). -/
inductive TSyl where
  | nop
  | stream (op n d : Nat)
  | gin (v d part : Nat)
  | gout (v a part : Nat)
  | bad (d : BadDest)
  deriving DecidableEq, Repr

/-- A control syllable from its word. -/
def decodeC (x : Nat) : CSyl :=
  match syl x 31 26 with
  | 0x00 => if syl x 25 0 = 0 then .nop else .bad
  | 0x01 => .br (sylS x 25 0)
  | 0x02 => if syl x 15 13 ≤ 5 then .bcc (syl x 25 21) (syl x 20 16) (syl x 15 13) (sylS x 12 0) else .bad
  | 0x03 => .jal (syl x 25 21) (sylS x 20 0)
  | 0x04 => if syl x 20 0 = 0 then .jr (syl x 25 21) else .bad
  | 0x05 => if syl x 25 0 = 0 then .fence else .bad
  | 0x06 => if syl x 25 16 = 0 then .halt (syl x 15 0) else .bad
  | _ => .bad

/-- A scalar syllable from its word. -/
def decodeS (x : Nat) : SSyl :=
  let op := syl x 31 26
  let d := syl x 25 21
  let a := syl x 20 16
  let chk (ok : Bool) (v : SSyl) (b : BadDest) : SSyl := if ok then v else .bad b
  if op = 0 then chk (syl x 25 0 = 0) .nop .none
  else if op ≤ 0x0E then chk (syl x 10 0 = 0) (.alu op d a (syl x 15 11)) (.s d)
  else if 0x10 ≤ op && op ≤ 0x13 then .imm op d a (syl x 15 0)
  else if op = 0x14 then chk (a = 0) (.lui d (syl x 15 0)) (.s d)
  else if 0x15 ≤ op && op ≤ 0x17 then chk (syl x 15 5 = 0) (.shift op d a (syl x 4 0)) (.s d)
  else if op = 0x18 then
    chk (syl x 21 21 = 0 && syl x 10 0 = 0) (.aset (syl x 25 22) a (syl x 15 11)) (.a (syl x 25 22))
  else if op = 0x19 then chk (syl x 21 16 = 0) (.aaddi (syl x 25 22) (sylS x 15 0)) (.a (syl x 25 22))
  else if op = 0x1A then chk (syl x 15 0 = 0) (.apset (syl x 25 22) (syl x 21 16)) (.a (syl x 25 22))
  else if op = 0x1B then chk (syl x 15 0 = 0) (.aget d (syl x 20 17) (bitOf x 16)) (.s d)
  else if op = 0x1C then chk (syl x 21 21 = 0) (.strset (syl x 25 22) a (sylS x 15 0)) (.str (syl x 25 22))
  else if op = 0x1D then chk (syl x 14 0 = 0) (.pget d (syl x 20 15)) (.s d)
  else if op = 0x1E then chk (d = 0 && syl x 15 0 = 0) (.setnctl a) .nctl
  else if op = 0x1F then chk (syl x 20 0 = 0) (.getnctl d) (.s d)
  else if op = 0x20 then chk (syl x 20 0 = 0) (.getf d) (.s d)
  else if op = 0x21 then chk (d = 0 && syl x 15 0 = 0) (.clrf a) .none
  else if op = 0x22 then chk (syl x 20 0 = 0) (.getprog d) (.s d)
  else if op = 0x23 then chk (syl x 22 21 = 0 && syl x 15 0 = 0) (.kfirst (syl x 25 23) a) (.k (syl x 25 23))
  else if op = 0x24 then
    chk (syl x 14 0 = 0) (.kop (syl x 25 23) (syl x 22 20) (syl x 19 17) (syl x 16 15)) (.k (syl x 25 23))
  else if op = 0x25 then chk (syl x 17 0 = 0) (.kcnt d (syl x 20 18)) (.s d)
  else .bad (.s d)

/-- Whether a RND field names a mode (R228). -/
def rndFieldOk (r : Nat) : Bool := r ≤ 5

/-- Whether a PART field is valid for a format of the number unit (R228). -/
def partOk (fmt part : Nat) : Bool := fmt ≤ 6 && (part + 1) * fmtWidth fmt ≤ 4

/-- The format of a lane-arithmetic instruction: the fields that it must leave 0 are 0 (R232). -/
def arithOk (op d b rnd c : Nat) : Bool :=
  if op ≤ 3 then rndFieldOk rnd && c = 0
  else if op = 4 then rndFieldOk rnd
  else if op = 7 || op = 0x0B then d < 8 && c ≤ 5 && rnd = 0
  else if op = 0x12 || op = 0x13 then b = 0 && rnd = 0 && c = 0
  else rnd = 0 && c = 0

/-- A vector syllable from its word. -/
def decodeV (x : Nat) : VSyl :=
  let op := syl x 31 26
  let d := syl x 25 21
  let a := syl x 20 16
  let chk (ok : Bool) (v : VSyl) (b : BadDest) : VSyl := if ok then v else .bad b
  if op = 0 then chk (syl x 25 0 = 0) .nop .none
  else if op ≤ 0x13 then
    chk (arithOk op d (syl x 15 11) (syl x 7 5) (syl x 4 0))
      (.arith op d a (syl x 15 11) (syl x 10 8) (syl x 7 5) (syl x 4 0)) (if op = 7 || op = 0x0B then .k (d % 8) else .v d)
  else match op with
    | 0x20 => chk (partOk (syl x 15 12) (syl x 11 10) && syl x 9 7 = 0 && syl x 2 0 = 0)
        (.cvtu d a (syl x 15 12) (syl x 11 10) (syl x 6 3)) (.v d)
    | 0x21 => chk (partOk (syl x 15 12) (syl x 11 10) && rndFieldOk (syl x 9 7) && syl x 1 0 = 0)
        (.cvtp d a (syl x 15 12) (syl x 11 10) (syl x 9 7) (syl x 6 3) (bitOf x 2)) (.v d)
    | 0x22 => chk (syl x 23 11 = 0 && syl x 7 0 = 0) (.lclr (syl x 25 24) (syl x 10 8)) (.l (syl x 25 24))
    | 0x23 => chk (partOk (syl x 15 12) (syl x 23 22) && syl x 21 21 = 0 && syl x 11 11 = 0 && syl x 3 0 = 0)
        (.lacc (syl x 25 24) (syl x 23 22) a (syl x 15 12) (syl x 10 8) (syl x 7 4)) (.l (syl x 25 24))
    | 0x24 => chk (syl x 21 11 = 0 && syl x 7 0 = 0) (.ladd (syl x 25 24) (syl x 23 22) (syl x 10 8)) (.l (syl x 25 24))
    | 0x25 => chk (syl x 18 15 ≤ 6 && rndFieldOk (syl x 7 5) && syl x 4 0 = 0)
        (.lrnd d (syl x 20 19) (syl x 18 15) (syl x 14 11) (syl x 10 8) (syl x 7 5)) (.v d)
    | 0x26 => chk (syl x 18 15 ≤ 10 && syl x 14 11 = 0 && syl x 7 0 = 0)
        (.lgetw d (syl x 20 19) (syl x 18 15) (syl x 10 8)) (.v d)
    | 0x27 => chk (syl x 23 21 = 0 && syl x 15 12 ≤ 10 && syl x 11 11 = 0 && syl x 7 0 = 0)
        (.lputw (syl x 25 24) a (syl x 15 12) (syl x 10 8)) (.l (syl x 25 24))
    | _ => .bad (.v d)

/-- A memory syllable from its word. -/
def decodeM (x : Nat) : MSyl :=
  let d := syl x 25 21
  let w := syl x 20 18
  let a := syl x 17 14
  match syl x 31 26 with
  | 0x00 => if syl x 13 0 = 0 then .nop else .bad .none false
  | 0x01 => if syl x 13 12 ≤ 2 && syl x 8 0 = 0 then .ldv d w a (syl x 13 12) (syl x 11 9) else .bad (.v d) true
  | 0x02 => if syl x 13 12 ≤ 2 && syl x 8 0 = 0 then .stv d w a (syl x 13 12) (syl x 11 9) else .bad .none true
  | 0x03 => if syl x 13 12 = 0 then .lds d w a (sylS x 11 0) else .bad (.s d) false
  | 0x04 => if syl x 13 12 = 0 then .sts d w a (sylS x 11 0) else .bad .none false
  | 0x05 => if syl x 13 0 = 0 && d < 8 then .ldk d w a else .bad (.k (d % 8)) false
  | 0x06 => if syl x 13 0 = 0 && d < 8 then .stk d w a else .bad .none false
  | _ => .bad (.v d) true

/-- A transfer syllable from its word. -/
def decodeT (x : Nat) : TSyl :=
  let op := syl x 31 26
  let n := syl x 25 21
  let d := syl x 20 16
  if op = 0 then .nop
  else if op ≤ 7 then
    if syl x 15 0 = 0 && n % 4 = 0 && 4 ≤ n && n ≤ 28 then .stream op n d else .bad (.s d)
  else if op = 0x10 then
    if syl x 13 0 = 0 && d % 2 = 0 && 2 ≤ d then .gin n d (syl x 15 14) else .bad (.gin n d)
  else if op = 0x11 then if syl x 13 0 = 0 then .gout n d (syl x 15 14) else .bad .none
  else .bad (.s d)

/-! ## Bundles (R221 to R223) -/

/-- A bundle: its length in bytes, its count field, its syllables, and whether its header is itself reserved. -/
structure Bundle where
  len : Nat
  rfrom : Bool
  rep : Nat
  c : CSyl
  s : SSyl
  v1 : VSyl
  v2 : VSyl
  m : MSyl
  t : TSyl
  undef : Bool
  deriving DecidableEq, Repr

/-- The syllable of a program at a byte offset. -/
def sylAt (p : Blob) (o : Nat) : Nat := p.le o 4

/-- The bundle at a byte offset. A reserved header runs once with every present syllable reserved (R257). -/
def decodeBundle (p : Blob) (pc : Nat) : Bundle :=
  let h := sylAt p pc
  let present := (List.range 6).map (fun i => bitOf h (31 - i))
  let pos (i : Nat) : Nat := pc + 4 + 4 * ((present.take i).filter id).length
  let has (i : Nat) : Bool := present.getD i false
  let get (i : Nat) : Nat := sylAt p (pos i)
  let n := (present.filter id).length
  let badHdr : Bool := n ≠ 0 && (syl h 12 0 ≠ 0 || (bitOf h 25 && syl h 24 18 ≠ 0))
  if n = 0 then ⟨4, false, 0, .nop, .nop, .nop, .nop, .nop, .nop, true⟩
  else if badHdr then
    { len := 4 * (n + 1), rfrom := false, rep := 0
      c := if has 0 then .bad else .nop
      s := if has 1 then .bad (.s (syl (get 1) 25 21)) else .nop
      v1 := if has 2 then .bad (.v (syl (get 2) 25 21)) else .nop
      v2 := if has 3 then .bad (.v (syl (get 3) 25 21)) else .nop
      m := if has 4 then .bad (.v (syl (get 4) 25 21)) true else .nop
      t := if has 5 then .bad (.s (syl (get 5) 20 16)) else .nop
      undef := true }
  else
    let rfrom := bitOf h 25
    let rep := syl h 24 13
    let t := if has 5 then decodeT (get 5) else .nop
    { len := 4 * (n + 1), rfrom := rfrom, rep := rep
      c := if has 0 then decodeC (get 0) else .nop
      s := if has 1 then decodeS (get 1) else .nop
      v1 := if has 2 then decodeV (get 2) else .nop
      v2 := if has 3 then decodeV (get 3) else .nop
      m := if has 4 then decodeM (get 4) else .nop
      t := match t with
        | .stream _ _ d => if rfrom || rep ≠ 0 then .bad (.s d) else t
        | t => t
      undef := false }

/-- Executions of a bundle: REPEAT + 1, or S modulo 2^24 (R223). -/
def Bundle.count (b : Bundle) (r : Regs) : Nat := if b.rfrom then r.getS (b.rep % 32) % 2 ^ 24 else b.rep + 1

/-- Whether a vector syllable asks for the pipeline: all but NOP, a malformed NOP included (R229, R257). -/
def VSyl.pipe : VSyl → Bool
  | .nop => false
  | .bad .none => false
  | _ => true
/-- Whether a memory syllable asks for the pipeline. -/
def MSyl.pipe : MSyl → Bool
  | .ldv .. => true
  | .stv .. => true
  | .bad _ p => p
  | _ => false
/-- Whether a transfer syllable asks for the pipeline. -/
def TSyl.pipe : TSyl → Bool
  | .nop => false
  | _ => true
/-- Whether a bundle asks for the pipeline (R229). -/
def Bundle.pipe (b : Bundle) : Bool := b.v1.pipe || b.v2.pipe || b.m.pipe || b.t.pipe

/-- Whether a bundle holds a reserved syllable, whatever its operands (R256). -/
def Bundle.reserved (b : Bundle) : Bool :=
  b.undef || (match b.c with | .bad => true | _ => false) || (match b.s with | .bad _ => true | _ => false)
    || (match b.v1 with | .bad _ => true | _ => false) || (match b.v2 with | .bad _ => true | _ => false)
    || (match b.m with | .bad .. => true | _ => false) || (match b.t with | .bad _ => true | _ => false)

/-! ## Registers that must exist (R200, R226, R258) -/

/-- The V and L registers that a vector syllable names. -/
def VSyl.names : VSyl → List Nat × List Nat
  | .arith op d a b _ _ c =>
    if op = 4 then ([d, a, b, c], [])
    else if op = 7 || op = 0x0B then ([a, b], [])
    else if op = 0x12 then ([d, a], [])
    else if op = 0x13 then ([d], [])
    else ([d, a, b], [])
  | .cvtu d a .. => ([d, a], [])
  | .cvtp d a .. => ([d, a], [])
  | .lclr n _ => ([], [n])
  | .lacc n _ a .. => ([a], [n])
  | .ladd n m _ => ([], [n, m])
  | .lrnd d n .. => ([d], [n])
  | .lgetw d n .. => ([d], [n])
  | .lputw n a .. => ([a], [n])
  | _ => ([], [])
/-- The V registers that a memory syllable names. -/
def MSyl.names : MSyl → List Nat
  | .ldv d .. => [d]
  | .stv d .. => [d]
  | _ => []
/-- The V registers that a transfer syllable names. -/
def TSyl.names : TSyl → List Nat
  | .gin v .. => [v]
  | .gout v .. => [v]
  | _ => []

/-- Whether a V register exists under VCOUNT. -/
def vExists (r : CtxRec) (n : Nat) : Bool := n < 8 * recV r
/-- Whether an L register exists under LCOUNT. -/
def lExists (r : CtxRec) (n : Nat) : Bool := n < recL r

/-- The SLOT_KIND of the first syllable that names a register the context lacks, if any (R258, R263). The ring of a
stream is checked with its descriptor. -/
def Bundle.noReg (b : Bundle) (r : CtxRec) : Option Nat :=
  let vOk (v : VSyl) : Bool := v.names.1.all (vExists r) && v.names.2.all (lExists r)
  if !vOk b.v1 then some 3 else if !vOk b.v2 then some 4
  else if !b.m.names.all (vExists r) then some 5 else if !b.t.names.all (vExists r) then some 6 else none

/-! ## Registers that are read, and that are written whole (R382, R383) -/

/-- An L register by its number in the register area (R200): after the 32 V registers. -/
def areaL (n : Nat) : Nat := 32 + n
/-- The page of the scalar, address, stride and mask registers, by its number in the register area. -/
def areaPage : Nat := 36
/-- A mask register that selects every lane. -/
def maskFull (r : Regs) (k : Nat) : Bool := r.getK k = 2 ^ 256 - 1

/-- The V and L registers whose lanes a vector syllable takes as input. -/
def VSyl.reads : VSyl → List Nat
  | .arith op _ a b _ _ c => if op = 4 then [a, b, c] else if op = 0x12 then [a] else if op = 0x13 then [] else [a, b]
  | .cvtu _ a .. => [a]
  | .cvtp _ a .. => [a]
  | .lacc n _ a .. => [a, areaL n]
  | .ladd n m _ => [areaL n, areaL m]
  | .lrnd _ n .. => [areaL n]
  | .lgetw _ n .. => [areaL n]
  | .lputw _ a .. => [a]
  | _ => []

/-- The V and L registers that a vector syllable writes in every lane. -/
def VSyl.fills (r : Regs) : VSyl → List Nat
  | .arith op d _ _ k .. => if op = 7 || op = 0x0B then [] else if op = 0x11 || maskFull r k then [d] else []
  | .cvtu d .. => [d]
  | .lclr n k => if maskFull r k then [areaL n] else []
  | .lrnd d _ _ _ k _ => if maskFull r k then [d] else []
  | .lgetw d _ _ k => if maskFull r k then [d] else []
  | _ => []

/-- The V and L registers whose lanes a bundle takes as input. -/
def Bundle.reads (b : Bundle) : List Nat :=
  b.v1.reads ++ b.v2.reads ++ (match b.m with
    | .stv d .. => [d]
    | _ => []) ++ (match b.t with
    | .gout v .. => [v]
    | _ => [])

/-- The V and L registers that a bundle writes in every lane. -/
def Bundle.fills (b : Bundle) (r : Regs) : List Nat :=
  b.v1.fills r ++ b.v2.fills r ++ (match b.m with
    | .ldv d _ _ size k => if size = 0 && maskFull r k then [d] else []
    | _ => [])

/-- Whether a bundle takes a burred register as input: one of its V and L registers, or the page of the others, from which every bundle
takes its masks, addresses and thread state (R382, R383). -/
def Bundle.poisoned (b : Bundle) (burred : List Nat) : Bool := burred.any (fun r => r = areaPage || b.reads.contains r)

/-! ## Memory operands (R234) -/

/-- A memory access: window, offset, bytes, write. -/
structure Access where
  win : Nat
  off : Nat
  len : Nat
  wr : Bool
  deriving DecidableEq, Repr

/-- The bytes of a SIZE field. -/
def sizeBytes (size : Nat) : Nat := if size = 0 then 1024 else if size = 1 then 512 else 256

/-- The offset of an access: An, plus 4 x simm12 for LDS and STS, modulo 2^40, aligned down. -/
def accOff (r : Regs) (a : Nat) (i : Int) (align : Nat) : Nat :=
  let o := unsignedOf ((r.getA a : Int) + 4 * i) 40
  o - o % align

/-- The access that a memory syllable makes. -/
def MSyl.access (m : MSyl) (r : Regs) : Option Access :=
  match m with
  | .ldv _ w a size _ => some ⟨w, accOff r a 0 4, sizeBytes size, false⟩
  | .stv _ w a size _ => some ⟨w, accOff r a 0 4, sizeBytes size, true⟩
  | .lds _ w a i => some ⟨w, accOff r a i 4, 4, false⟩
  | .sts _ w a i => some ⟨w, accOff r a i 4, 4, true⟩
  | .ldk _ w a => some ⟨w, accOff r a 0 32, 32, false⟩
  | .stk _ w a => some ⟨w, accOff r a 0 32, 32, true⟩
  | _ => none

/-! ## Stream descriptors (R236, R238, R240, R299) -/

/-- The rounding mode that a RND field names under NCTL (R228). -/
def rndOf (field nctl : Nat) : Nat := if field = 0 then nctlRnd nctl else field - 1

/-- The scale that a CR field names: none for 0, else S(2c) (R228). -/
def crScale (r : Regs) (cr : Nat) : Option Nat := if cr = 0 then none else some (r.getS (2 * cr))

/-- Whether a descriptor is free of reserved values for its instruction. -/
def descWordsOk (op w0 w1 w2 w3 : Nat) : Bool :=
  let ofmt := syl w0 31 28
  let ifmt := syl w0 27 24
  let grains := syl w0 23 0
  let lnum := syl w1 31 30
  let expect := syl w1 27 16
  let rop := syl w1 3 0
  let arg := syl w2 31 16
  let odst := bitOf w2 7
  let no := fmtElems ofmt
  let ni := fmtElems ifmt
  let pairs := bitOf arg 15
  let base : Bool := ofmt ≤ 8 && ifmt ≤ 8 && 1 ≤ grains && 1 ≤ expect && syl w1 7 7 = 0 && rndFieldOk (syl w1 6 4)
    && rop ≤ 6 && syl w2 15 8 = 0
  base && match op with
    | 1 => ofmt ≤ 6 && ifmt ≤ 6 && (rop < 4 || ifmt = ofmt) && arg = 0 && w3 = 0 && ni ≤ no * (lnum + 1)
    | 7 => ofmt = ifmt && rop = 0 && expect = 1 && arg = 0 && w3 = 0
    | 2 => ofmt ≤ 6 && ifmt ≤ 6 && rop ≤ 2 && expect = 1 && !odst && syl arg 13 12 = 0 && 1 ≤ syl arg 11 0
        && (!bitOf arg 15 || rop = 0) && 1 ≤ syl w3 31 8 && 1 ≤ syl w3 7 0
        && syl arg 11 0 ≤ no * (lnum + 1) && grains % ((syl arg 11 0 + no - 1) / no) = 0
    | 3 => ofmt = ifmt && rop = 0 && !odst && !bitOf arg 15 && syl arg 13 12 = 0 && 1 ≤ syl arg 11 0
        && 1 ≤ syl w3 31 8 && syl w3 7 0 = 0
    | 4 => ofmt = ifmt && rop ≤ 2 && (pairs || rop = 0) && expect ≤ 64 && syl arg 13 0 = 0 && w3 = 0
        && (!pairs || ifmt ≤ 6)
    | 5 => ofmt = ifmt && rop = 0 && !odst && syl arg 13 0 = 0 && 1 ≤ w3 && (!pairs || ifmt ≤ 6)
    | 6 => ofmt = ifmt && rop = 0 && syl arg 13 11 ≤ 5 && syl arg 10 0 = 0 && (!pairs || ifmt ≤ 6)
    | _ => false

/-- The stream that an instruction starts from its descriptor, NCTL and the segment it serves (R237). -/
def startStream (r : Regs) (op n d seg : Nat) : Stream :=
  let w0 := r.getS n
  let w1 := r.getS (n + 1)
  let w2 := r.getS (n + 2)
  { op := op, sd := d, ofmt := syl w0 31 28, ifmt := syl w0 27 24, grains := syl w0 23 0, lnum := syl w1 31 30
    lfirst := syl w1 29 28, expect := syl w1 27 16, ocr := syl w1 15 12, oscale := crScale r (syl w1 15 12)
    iscale := crScale r (syl w1 11 8), rnd := rndOf (syl w1 6 4) r.nctl, nctl := r.nctl, rop := syl w1 3 0
    arg16 := syl w2 31 16, arg32 := r.getS (n + 3), odst := bitOf w2 7, win := syl w2 2 0, a0 := r.getA (syl w2 6 3)
    seg := seg, elems := syl w0 23 0 * fmtElems (syl w0 31 28), cnt := [], acc := [], run := [], stamps := [], feeds := []
    out := [], group := none, sorted := false, emitted := 0 }

/-- Whether the ring of a stream exists (R226, R236). -/
def ringExists (rc : CtxRec) (w1 : Nat) : Bool := syl w1 29 28 + syl w1 31 30 < recL rc

end Sys2Proof.Machine
end

