-- ==== Sys2Proof/Machine/Stream.lean ====
section
/-! DEFINITION. Stream instructions: what a grain's elements are, how each instruction takes its input grains and forms
its output grains, paced release, partials between lathes, and how a stream ends (R214, R236 to R240, R279, R280, R288 to
R306). -/

namespace Sys2Proof.Machine

/-! ## The elements of a grain (R181, R288 to R294) -/

/-- A grain's elements (stream element index, bits), whether it was read as sparse, and what R294 counts of it. -/
structure Elems where
  l : List (Nat × Nat)
  sparse : Bool
  pairMask : Nat
  overfill : Nat
  span : Nat

/-- Element j of width w of a grain's bytes. -/
def elemAt (data w j : Nat) : Nat := bitsOf data (8 * w * j) (8 * w)

/-- The elements of dense grain g. -/
def denseElems (w g data : Nat) : List (Nat × Nat) := (List.range (256 / w)).map (fun j => (g * (256 / w) + j, elemAt data w j))

/-- The elements of a bitmap-packed grain (R289, R294). -/
def bitmapElems (w data : Nat) : Elems :=
  let ng := bitsOf data 32 8
  let n := min ng 32
  let fg := bitsOf data 0 32
  let v := (8 + 4 * n + w - 1) / w * w
  let cap := (256 - v) / w
  let r := (List.range (32 * n)).foldl (fun (a : List (Nat × Nat) × Nat) b =>
    let set := bitOf data (64 + b)
    let bits := if set && a.2 < cap then bitsOf data (8 * v + 8 * w * a.2) (8 * w) else 0
    ((32 * fg + b, bits) :: a.1, if set then a.2 + 1 else a.2)) ([], 0)
  ⟨r.1.reverse, true, 0, b2n (decide (cap < r.2)), b2n (decide (ng = 0) || decide (32 < ng))⟩

/-- The quads that a pair-format grain may cover (R290). -/
def quadMax (w : Nat) : Nat := if w = 1 then 96 else if w = 2 then 48 else 24

/-- The elements of a pair-format grain (R290, R294). -/
def pairElems (w data : Nat) : Elems :=
  let nq := bitsOf data 32 8
  let n := min nq (quadMax w)
  let fq := bitsOf data 0 32
  let quad (k : Nat) : List (Nat × Nat) × Nat :=
    let mask := bitsOf data (64 + 4 * k) 4
    let r := (List.range 4).foldl (fun (a : List (Nat × Nat) × Nat) i =>
      let set := mask.testBit i
      let bits := if set && a.2 < 2 then bitsOf data (448 + 8 * (2 * k * w + a.2 * w)) (8 * w) else 0
      ((4 * (fq + k) + i, bits) :: a.1, if set then a.2 + 1 else a.2)) ([], 0)
    (r.1.reverse, r.2)
  let qs := (List.range n).map quad
  ⟨qs.flatMap (fun q => q.1), true, (qs.filter (fun q => q.2 ≠ 2)).length, 0,
    b2n (decide (nq = 0) || decide (quadMax w < nq))⟩

/-- The elements of grain g in a format, by its FORMAT; UINT32 and UINT64 are read as dense bytes. -/
def elemsOf (fmt word g data : Nat) : Elems :=
  let w := fmtWidth fmt
  let f := gwFormat word
  if f = 0 then ⟨denseElems w g data, false, 0, 0, 0⟩
  else if 7 ≤ fmt then ⟨denseElems w g data, false, 0, 0, 1⟩
  else if f = 1 then bitmapElems w data
  else pairElems w data

/-- Count what R294 records, on the lathe that runs the context (R308). -/
def State.sparseCount (s : State) (k pairMask overfill span wrap unsorted : Nat) : State :=
  let r := R.ltSparseStat (k / 5) (k % 5)
  let add (s : State) (f : Fld) (n : Nat) : State := if n = 0 then s else s.countBy r f n
  let s := add s F.LtSparseStat.pairMask pairMask
  let s := add s F.LtSparseStat.overfill overfill
  let s := add s F.LtSparseStat.span span
  let s := add s F.LtSparseStat.wrap wrap
  add s F.LtSparseStat.unsorted unsorted

/-! ## How a bundle or a stock program goes on (R225, R230, R252) -/

/-- Whether a context runs a stock program. -/
def State.isStock (s : State) (c : Nat) : Bool := s.hasColl c && dProgram (s.ctx c).coll.desc ≠ 0

/-- Whether the context's sums are exact: EXACT and PACED mode (R212). -/
def isExact (r : CtxRec) : Bool := recMode r ≠ 0

/-- Leave a bundle: NCTL as written takes effect, FENCE and HALT wait for earlier stores and for results that wait for their release
tick (R214, R230), and the thread goes on at the next bundle, completes, or faults with PC. -/
def State.finish (s : State) (c : Nat) : State :=
  let r := (s.ctx c).regs
  match r.after with
  | none => s.setWait c .ready
  | some a =>
    if a.kind ≠ 0 && (r.stores ≠ 0 || (s.ctx c).coll.formed ≠ []) then s.setWait c .fence
    else
      let s := s.setRegs c (fun r =>
        { r with rep := 0, repN := none, after := none, wait := .ready, nctl := r.nctlNext.getD r.nctl, nctlNext := none })
      if a.kind = 2 then
        let s := (s.setRegs c (fun r => { r with code := a.code })).setCtxState c csDone
        let s := match (s.ctx c).phys with
          | some k => s.leavePipe k c
          | none => s
        let s := (s.dropMove c).setCtx c (fun x => { x with stopping := 0 })
        if s.hasColl c then (s.setColl c (fun q => { q with workDone := true })).maybeEnd c else s
      else if 0 ≤ a.npc && a.npc < (recProgLen (s.ctx c).live : Int) then s.setRegs c (fun r => { r with pc := a.npc.toNat })
      else s.fault c 7 ⟨if a.viaC then 1 else 0, false, 0, 0, 0⟩

/-- What the thread of a context does next, as the arbiter sees it. -/
def State.nextUse (s : State) (c : Nat) : Next :=
  let x := s.ctx c
  if recState x.record ≠ csRunning then .leave
  else if x.regs.stream.isSome then .pipe
  else if x.regs.wait = .stream then .arrival
  else if x.regs.wait ≠ .ready && x.regs.wait ≠ .grant then .leave
  else if s.isStock c then .pipe
  else if (decodeBundle x.program x.regs.pc).pipe then .pipe else .leave

/-- What a thread waits for that is to ask again: its stream, or its bundle from the start. -/
def Regs.again (r : Regs) : Wait := if r.stream.isSome then .stream else .ready

/-- A stop that waited for a grain boundary is taken: STOP makes the context STOPPED; EVICT and MIGRATE make it MOVING; an
engine reset only takes the grant. PROG and NFLAGS are written to the record (R219, R253, R264). -/
def State.settleStop (s : State) (c : Nat) : State :=
  let x := s.ctx c
  if x.stopping = 0 then s
  else
    let s := match x.phys with
      | some k => s.leavePipe k c
      | none => s
    let s := s.setCtx c (fun x => { x with stopping := 0, regs := { x.regs with
      wait := if x.regs.wait = .grant || x.regs.wait = .operand then x.regs.again else x.regs.wait } })
    let s := (s.putRec c 472 8 x.regs.prog).putRec c 480 4 x.regs.nflags
    match x.stopping with
    | 1 => s.setCtxState c csStopped
    | 2 => s.setCtxState c csMoving
    | _ => s

/-- A grain boundary of a context on lathe k: the arbiter decides, and a stop that waits is taken. -/
def State.reach (s : State) (c k : Nat) (n : Next) : State :=
  let s := if (s.lathe k).holder = some c then s.boundary k n else s
  s.settleStop c

/-! ## Result grains: paced release (R214) -/

/-- Hand a formed result grain to the result path: at once, or in PACED mode at its release tick; a grain formed later
leaves at once and adds to SLIP. -/
def State.giveGrain (s : State) (c k seg index : Nat) (last : Bool) (ptr word stamp : Nat) (from_ : Option Nat) : State :=
  let x := s.ctx c
  if recMode x.live ≠ 2 then s.emitResult c seg index last false ptr word 256 stamp from_
  else
    let q := x.coll
    let rel := q.start + recPaceOff x.live + (q.released + 1) * recPaceTicks x.live + q.slip
    let s := s.setColl c (fun q => { q with released := q.released + 1 })
    if s.tb.tick ≤ rel then
      let s := s.setGrain ptr { s.grain ptr with refs := (s.grain ptr).refs + 1 }
      s.setColl c (fun q => { q with formed := q.formed ++ [⟨rel, seg, index, last, ptr, word, 256, stamp, from_⟩] })
    else
      let late := s.tb.tick - rel
      let r := R.ltPaceStat (k / 5) (k % 5)
      let s := (s.countBy r F.LtPaceStat.slipTicks late).count r F.LtPaceStat.slips
      let s := s.setColl c (fun q => { q with slip := q.slip + late })
      s.emitResult c seg index last true ptr word 256 (max s.tb.tick stamp) from_

/-- The stamp of a generated grain: its die's counter, or the largest stamp it consumed plus 1 (R278). -/
def State.genStamp (s : State) (k consumed : Nat) : Nat := max (s.dieNow (dLathe (k / 5))) (consumed + 1)

/-- The fault of a window access of a stream. -/
def streamFault (a : Access) : FaultAt := ⟨6, a.wr, a.win, a.len, a.off⟩

/-- The window access of output grain index of a stream that writes to a window, where it fails (R202). -/
def State.outFails (s : State) (c : Nat) (st : Stream) (index : Nat) : Option Access :=
  let a : Access := ⟨st.win, st.a0 + 256 * index, 256, true⟩
  if st.odst && !winPasses (recWin (s.ctx c).live a.win) a.off 256 true then some a else none

/-- Give back the output grain of a grain that is abandoned, where the stream had asked for one. -/
def State.dropOut (s : State) (st : Stream) (ptr : Nat) : State := if st.odst then s else s.freeGrain ptr

/-- Put an output grain where the stream sends it: to window WIN at A + 256 k, or to the result path in a grain that was
allocated. None: the window access failed, and the context has faulted. -/
def State.putOut (s : State) (c k : Nat) (st : Stream) (index : Nat) (last : Bool) (ptr word lay data stamp : Nat) :
    Option State :=
  if st.odst then
    let a : Access := ⟨st.win, st.a0 + 256 * index, 256, true⟩
    if winPasses (recWin (s.ctx c).live a.win) a.off 256 true then
      let s := s.winWrite c a.win a.off 256 data
      some (if s.winFar c a.win then s.setRegs c (fun r => { r with stores := r.stores + 1 }) else s)
    else none
  else some ((s.fillGrain ptr word lay data).giveGrain c k st.seg index last ptr word (s.genStamp k stamp) none)

/-! ## The end of a stream (R237, R266) -/

/-- A stream ends: Sd receives its status and PROG returns to 0. A stock program goes to its next segment, or its work for
the call is done; else the bundle's C syllable acts. -/
def State.endStream (s : State) (c status : Nat) : State :=
  let x := s.ctx c
  let sd := match x.regs.stream with
    | some st => st.sd
    | none => 0
  let s := s.setRegs c (fun r => { (r.setS sd status) with stream := none, prog := 0 })
  let s := s.setColl c (fun q => { q with seg := q.seg + 1 })
  if s.isStock c then
    if (s.ctx c).coll.seg < dSegments (s.ctx c).coll.desc then s.setWait c .ready
    else ((s.setWait c .call).setColl c (fun q => { q with workDone := true })).maybeEnd c
  else s.finish c

/-- The segment that a stream serves: a stock program's current one; the k-th stream of a CUSTOM program serves segment k,
the last one from there on (DESIGN CHOICE, log 9). -/
def State.streamSeg (s : State) (c : Nat) : Nat :=
  let q := (s.ctx c).coll
  min q.seg (dSegments q.desc - 1)

/-- The pseudo instruction of ALLGATHER and BCAST: every segment's grains are passed on as they are accepted. -/
def opSpread : Nat := 0x22

/-- The scale 2^k of a stock program's 8-bit format, as FP32 bits (R190, R276). -/
def stockScale (k : Option Int) (f : Nat) : Option Nat :=
  if f = 3 || f = 4 || f = 5 then k.map (fun z => ((z + 127).toNat % 255) * 2 ^ 23) else none

/-- The stream that a stock program runs for its current segment (R266, R306): the ring is as wide as the format needs, or
as LCOUNT allows if that is wider (DESIGN CHOICE, log 9). -/
def State.stockStream (s : State) (c : Nat) : Stream :=
  let x := s.ctx c
  let d := x.coll.desc
  let g := x.coll.seg
  let pg := dProgram d
  let reduce : Bool := 1 ≤ pg && pg ≤ 3
  let child : Bool := dMembers d = 0
  let ofmt := if reduce && !recTop x.live then x.coll.carryFmt else segOut x.live g
  let ifmt := if reduce && child then x.coll.childFmt else segIn x.live g
  let n := segElems x.live g
  let ring := max (recL x.live) ((fmtElems ifmt + fmtElems ofmt - 1) / fmtElems ofmt)
  { op := if reduce then 1 else if pg = pgAllgather || pg = pgBcast then opSpread
      else if pg = 8 then (if segScatter x.live g then 3 else 2)
      else if pg = 9 then (if recLevel x.live = 0 then 5 else 4) else 6
    sd := 0, ofmt := ofmt, ifmt := ifmt
    grains := if reduce then grainsFor ofmt n else segGrains x.live g
    lnum := max 1 ring - 1, lfirst := 0, expect := (s.ownEntries c).length, ocr := 0
    oscale := stockScale x.coll.outK ofmt, iscale := stockScale (if child then x.coll.inK else some (dInK d)) ifmt
    rnd := nctlRnd x.regs.nctl, nctl := x.regs.nctl, rop := segOp x.live g
    arg16 := if 8 ≤ pg then segArg16 x.live g else 0, arg32 := if 8 ≤ pg then segArg32 x.live g else 0
    odst := false, win := 0, a0 := 0, seg := g, elems := n, cnt := [], acc := [], run := [], stamps := [], feeds := []
    out := [], group := none, sorted := false, emitted := 0 }

/-! ## STREDUCE (R238, R239, R293) -/

/-- A combination as it goes: the stream, the flags raised, the largest widened value, and the elements discarded. -/
structure Comb where
  st : Stream
  fl : Nat
  am : Nat
  span : Nat

/-- What a lane of the ring holds for an element that nothing was combined into yet: the accumulator's content where the
ring's register still holds what it held at the start, else a cleared lane. -/
def ringLane (r : Regs) (st : Stream) (stock : Bool) (e : Nat) : LAcc :=
  let no := fmtElems st.ofmt
  if stock || st.lnum < e / no then LAcc.cleared else r.getL (st.lfirst + e / no) (e % no)

/-- The FP32 lane of a contribution in FREE mode: through the converter, where SUBN applies. -/
def freeLane (st : Stream) (bits : Nat) : Nat × Nat :=
  let (v, f1) := nuIn st.nctl st.ifmt bits st.iscale
  let (x, f2) := fp32.round (nuCtl st.nctl (rndNoStoch (nctlRnd st.nctl)) 0) v
  (x, f1 ||| f2)

/-- The bits of a running value that is kept as raw bits. -/
def rawBits : Option Val → Option Nat
  | some (.fin _ n _) => some n
  | _ => none

/-- AND, OR and XOR on raw encodings (R188). -/
def bitOp (op a b : Nat) : Nat := if op = 4 then a &&& b else if op = 5 then a ||| b else a ^^^ b

/-- Combine one element into its lane, and count it; an element outside the segment, already emitted, or beyond a sparse
grain's reach is discarded. -/
def Comb.elem (exact stock : Bool) (r : Regs) (prog first : Nat) (sparse : Bool) (stamp : Nat) (w : Comb) (eb : Nat × Nat) :
    Comb :=
  let st := w.st
  let e := eb.1
  let pos := e / fmtElems st.ofmt
  if st.elems ≤ e || pos < prog || (sparse && first + st.lnum < pos) then
    { w with span := w.span + b2n sparse }
  else
    let st := { st with
      cnt := st.cnt.modify (fun _ => 0) e (· + 1), stamps := st.stamps.modify (fun _ => 0) pos (max stamp) }
    if st.rop = 0 && exact then
      let (v, f1) := nuIn st.nctl st.ifmt eb.2 st.iscale
      let (a, f2) := (st.acc.get (ringLane r st stock) e).add (nctlRnd st.nctl) v
      { w with st := { st with acc := st.acc.put e a }, fl := w.fl ||| f1 ||| f2, am := (amaxGather w.am v).1 }
    else if st.rop = 0 then
      let (x, f1) := freeLane st eb.2
      let old := (rawBits (st.run.get (fun _ => none) e)).getD 0x80000000
      let (y, f2) := laneAdd st.rnd false old x
      { w with
        st := { st with run := st.run.set (fun _ => none) e (some (.fin false y 0)) }, fl := w.fl ||| f1 ||| f2
        am := (amaxGather w.am (fp32.decode x)).1 }
    else if st.rop ≤ 3 then
      let (v, f1) := nuIn st.nctl st.ifmt eb.2 st.iscale
      { w with
        st := { st with run := st.run.set (fun _ => none) e (some (reduceVal st.rop (st.run.get (fun _ => none) e) v)) }
        fl := w.fl ||| f1, am := (amaxGather w.am v).1 }
    else
      let y := match rawBits (st.run.get (fun _ => none) e) with
        | some b => bitOp st.rop b eb.2
        | none => eb.2
      { w with st := { st with run := st.run.set (fun _ => none) e (some (.fin false y 0)) } }

/-- Whether every element of an output position has its contributions. -/
def Stream.posDone (st : Stream) (p : Nat) : Bool :=
  let no := fmtElems st.ofmt
  (List.range no).all (fun j => let e := p * no + j; st.elems ≤ e || st.expect ≤ st.cnt.get (fun _ => 0) e)

/-- The value that a lane without contributions has under an operator. -/
def identityVal (op : Nat) : Val :=
  match op with
  | 1 => .inf true
  | 2 => .inf false
  | 4 => .fin false (2 ^ 32 - 1) 0
  | _ => .fin false 0 0

/-- The value of a lane of an output position: exact sums, FP32 lanes and raw bits as whole numbers (R279). -/
def Stream.laneVal (st : Stream) (exact stock : Bool) (r : Regs) (e : Nat) : Val :=
  if st.rop = 0 && exact then (st.acc.get (ringLane r st stock) e).value
  else match st.run.get (fun _ => none) e with
    | some v => v
    | none => if st.rop = 0 then .fin false 0x80000000 0 else identityVal st.rop

/-- Fold the partials of one position in the order they were taken (R279, R280). -/
def foldPartials (st : Stream) (exact : Bool) (ps : List (List Val)) (j : Nat) : Val × Nat :=
  let vs := ps.map (fun p => p.getD j (.fin true 0 0))
  if st.rop = 0 && exact then
    let r := vs.foldl (fun (a : LAcc × Nat) v => let (b, f) := a.1.add 0 v; (b, a.2 ||| f)) (LAcc.cleared, 0)
    (r.1.value, r.2)
  else match vs with
    | [] => (.fin true 0 0, 0)
    | v :: vs =>
      vs.foldl (fun (a : Val × Nat) w =>
        if st.rop = 0 then
          let (y, f) := laneAdd st.rnd false ((rawBits (some a.1)).getD 0) ((rawBits (some w)).getD 0)
          (.fin false y 0, a.2 ||| f)
        else if st.rop ≤ 3 then (reduceVal (if st.rop = 3 then 1 else st.rop) (some a.1) w, a.2)
        else (.fin false (bitOp st.rop ((rawBits (some a.1)).getD 0) ((rawBits (some w)).getD 0)) 0, a.2)) (v, 0)

/-- The rounding point of one lane (R194, R239): the element, the flags, and the value that amax gathers. -/
def Stream.roundLane (st : Stream) (exact : Bool) (v : Val) (draw den : Nat) : Nat × Nat × Val :=
  let c := nuCtl st.nctl st.rnd draw
  if st.rop = 0 && exact then
    let z := match v with
      | .fin s n e => Val.fin (if n = 0 then s || decide (st.rnd = rndRDN) else s) n e
      | v => v
    let (w, f1) := nuUnscale z st.oscale
    let (x, f2) := roundElem st.ofmt c w den
    (x, (if v.isNan then nfNanIn else 0) ||| f1 ||| f2, v)
  else
    let (v, f0) := if st.rop = 0 then nuIn st.nctl 0 ((rawBits (some v)).getD 0) none else (v, 0)
    let (w, f1) := nuUnscale v st.oscale
    let (x, f2) := roundElem st.ofmt c w 1
    (x, f0 ||| f1 ||| f2, v)

/-- Pack n elements of width w into a grain's bytes. -/
def packElems (w : Nat) (l : List Nat) : Nat := l.foldr (fun x a => x % 2 ^ (8 * w) + 2 ^ (8 * w) * a) 0

/-- The draw of element j of output grain g (R186). -/
def State.drawOf (s : State) (c : Nat) (st : Stream) (g j : Nat) : Nat :=
  if st.rnd = rndSTOCH then stochDraw (recNseed (s.ctx c).live) c (fmtElems st.ofmt * (g % 2 ^ 22) + j) else 0

/-- Raise the amax register that the output names, or the stock program's own (R191, R276). -/
def State.gatherAmax (s : State) (c : Nat) (st : Stream) (vs : List Val) : State :=
  if s.isStock c then
    let r := vs.foldl (fun (a : Nat × Nat) v => let (m, f) := amaxGather a.1 v; (m, a.2 ||| f)) ((s.ctx c).coll.topAmax, 0)
    (s.setColl c (fun q => { q with topAmax := r.1 })).setFlags c r.2
  else if st.ocr = 0 then s
  else
    let r := vs.foldl (fun (a : Nat × Nat) v => let (m, f) := amaxGather a.1 v; (m, a.2 ||| f))
      ((s.ctx c).regs.getS (2 * st.ocr + 1), 0)
    (s.setRegs c (fun x => x.setS (2 * st.ocr + 1) r.1)).setFlags c r.2

/-- Round one output position into a grain. A bitwise reduction whose carry is of another width than its elements has no
stated result: each lane is a free value, which its operands fix (R6; DESIGN CHOICE, log 3). -/
def State.roundPos (s : State) (c : Nat) (st : Stream) (g : Nat) (val : Nat → Val × Nat) : Nat × State :=
  let no := fmtElems st.ofmt
  let w := fmtWidth st.ofmt
  let exact := isExact (s.ctx c).live
  if 4 ≤ st.rop && w ≠ fmtWidth st.ifmt then
    let lane (j : Nat) : Nat := Config.bitCarry st.rop st.ifmt st.ofmt ((rawBits (some (val j).1)).getD 0)
    (packElems w ((List.range no).map (fun j => if st.elems ≤ g * no + j then 0 else lane j)), s)
  else
    let one (j : Nat) : Nat × Nat × Val :=
      if st.elems ≤ g * no + j then (0, 0, .nan)
      else
        let (v, f0) := val j
        if 4 ≤ st.rop then ((rawBits (some v)).getD 0, f0, .nan)
        else let (x, f, a) := st.roundLane exact v (s.drawOf c st g j) 1; (x, f0 ||| f, a)
    let l := (List.range no).map one
    let live := (l.zip (List.range no)).filter (fun p => g * no + p.2 < st.elems)
    let s := s.setFlags c (l.foldl (fun a x => a ||| x.2.1) 0)
    let s := if 4 ≤ st.rop then s else s.gatherAmax c st (live.map (fun p => p.1.2.2))
    (packElems w (l.map (fun x => x.1)), s)

/-- Forget an emitted position: its lanes, counts and stamps, and its ring register is cleared. -/
def State.clearPos (s : State) (c : Nat) (p : Nat) : State :=
  let stock := s.isStock c
  s.setRegs c (fun r => match r.stream with
    | none => r
    | some st =>
      let no := fmtElems st.ofmt
      let keep (e : Nat) : Bool := e / no ≠ p
      let l := st.lfirst + p % (st.lnum + 1)
      { r with
        stream := some { st with
          cnt := st.cnt.filter (fun x => keep x.1), acc := st.acc.filter (fun x => keep x.1)
          run := st.run.filter (fun x => keep x.1), stamps := st.stamps.filter (fun x => x.1 ≠ p) }
        acc := if stock then r.acc else r.acc.filter (fun x => x.1 / 256 ≠ l) })

/-- An output grain is done: PROG counts it, and the stream ends with the last. -/
def State.stepProg (s : State) (c grains : Nat) : State :=
  let p := (s.ctx c).regs.prog + 1
  let s := s.setRegs c (fun r => { r with prog := p })
  if p = grains then s.endStream c grains else s

/-- Whether a STREDUCE can take a grain: all of its positions are open; a sparse one when its first element's is. -/
def reduceOpen (st : Stream) (prog : Nat) (e : Elems) : Bool :=
  let no := fmtElems st.ofmt
  match e.l with
  | [] => true
  | f :: _ =>
    let last := (e.l.getLast?.map Prod.fst).getD f.1
    let reach := if e.sparse then f.1 else min last (st.elems - 1)
    decide (reach / no ≤ prog + st.lnum) || decide (st.elems ≤ f.1)

/-! ## Counted streams (R295 to R298, R303 to R305) -/

/-- PAIRS of a counted stream. -/
def Stream.pairs (st : Stream) : Bool := bitOf st.arg16 15
/-- The elements of a data grain of a counted stream. -/
def Stream.per (st : Stream) : Nat := if st.pairs then 32 else fmtElems st.ifmt
/-- The order of a key: with DESC reversed. -/
def Stream.order (st : Stream) (key : Nat) : Int :=
  let k := orderKey (if st.pairs then 7 else st.ifmt) key
  if st.op ≠ 6 && bitOf st.arg16 14 then -k else k

/-- The slots of a data grain: records (key, value), or keys; a sparse grain is expanded. -/
def Stream.slots (st : Stream) (word data : Nat) : List (Nat × Nat) × Elems :=
  if st.pairs then
    ((List.range 32).map (fun j => (bitsOf data (64 * j) 32, bitsOf data (64 * j + 32) (8 * fmtWidth st.ifmt))), ⟨[], false, 0, 0, 0⟩)
  else let e := elemsOf st.ifmt word 0 data; (e.l.map (fun x => (x.2, 0)), e)

/-- The feed of a contributor. -/
def Stream.feed (st : Stream) (who : Nat) : Feed :=
  (st.feeds.find? (fun f => f.who = who)).getD ⟨who, 0, [], [], 0, none, none⟩

/-- Put a contributor's feed in its place, in contributor order. -/
def Stream.setFeed (st : Stream) (f : Feed) : Stream :=
  { st with feeds := (st.feeds.filter (fun g => g.who < f.who)) ++ f :: (st.feeds.filter (fun g => f.who < g.who)) }

/-- Take a data grain of a contributor: the slots held so far are valid, and the new ones wait. -/
def Feed.data (f : Feed) (slots : List (Nat × Nat)) : Feed :=
  { f with next := f.next + 1, elems := f.elems ++ f.held, held := slots, got := f.got + slots.length }

/-- Take a contributor's trailer: of the slots received the valid ones stand; whether it disagrees with what was received
(R297). -/
def Feed.trail (f : Feed) (n : Nat) : Feed × Bool :=
  let before := f.got - f.held.length
  let elems := if before ≤ n then f.elems ++ f.held.take (n - before) else f.elems.take (f.elems.length - (before - n))
  ({ f with next := f.next + 1, elems := elems, held := [], trailer := some n }, decide (f.got < n) || decide (n < before)
    || (decide (n = before) && decide (f.got ≠ 0)))

/-- The contributors of a counted stream: a collective's own entries, or whoever has sent. -/
def State.contributors (s : State) (c : Nat) (st : Stream) : List Nat :=
  if s.hasColl c then (s.ownEntries c).take st.expect else st.feeds.map Feed.who

/-- Whether every contributor's trailer has been taken. -/
def State.allTrailed (s : State) (c : Nat) (st : Stream) : Bool :=
  let l := s.contributors c st
  decide (st.expect ≤ l.length) && l.all (fun w => (st.feed w).trailer.isSome)

/-- The contributor that a STFILTER takes now: the first whose trailer has not been taken. -/
def State.filterTurn (s : State) (c : Nat) (st : Stream) (who : Nat) : Bool :=
  match (s.contributors c st).find? (fun w => (st.feed w).trailer.isNone) with
  | some w => w = who
  | none => !s.hasColl c

/-- A counted stream as it is moved on: the stream, flags, discarded elements, records out of order, values for amax. -/
structure Pump where
  st : Stream
  fl : Nat
  span : Nat
  unsorted : Nat
  am : List Val

/-- Emit one element, unless GRAINS data grains are full (R297). -/
def Pump.push (w : Pump) (e : Nat × Nat) : Pump :=
  if w.st.grains * w.st.per ≤ w.st.emitted then { w with span := w.span + 1 }
  else { w with st := { w.st with out := w.st.out ++ [e], emitted := w.st.emitted + 1 } }

/-- Close the group of records with one key: its value is rounded once (R303). -/
def Pump.flush (exact : Bool) (draw : Nat → Nat) (w : Pump) : Pump :=
  match w.st.group with
  | none => w
  | some key =>
    let v := if w.st.rop = 0 && exact then (w.st.acc.get (fun _ => LAcc.cleared) 0).value
      else (w.st.run.get (fun _ => none) 0).getD (.fin false 0 0)
    let (x, f, a) := w.st.roundLane exact v (draw w.st.emitted) 1
    let w := { w with st := { w.st with group := none, acc := [], run := [] }, fl := w.fl ||| f, am := w.am ++ [a] }
    w.push (key, x)

/-- Combine a record into the open group, which its key starts or continues. -/
def Pump.record (exact : Bool) (draw : Nat → Nat) (w : Pump) (e : Nat × Nat) : Pump :=
  let w := if w.st.group = some e.1 then w else w.flush exact draw
  let st := { w.st with group := some e.1 }
  if st.rop = 0 && exact then
    let (v, f1) := nuIn st.nctl st.ifmt e.2 st.iscale
    let (a, f2) := (st.acc.get (fun _ => LAcc.cleared) 0).add (nctlRnd st.nctl) v
    { w with st := { st with acc := [(0, a)] }, fl := w.fl ||| f1 ||| f2 }
  else if st.rop = 0 then
    let (x, f1) := freeLane st e.2
    let old := (rawBits (st.run.get (fun _ => none) 0)).getD 0x80000000
    let (y, f2) := laneAdd st.rnd false old x
    { w with st := { st with run := [(0, some (.fin false y 0))] }, fl := w.fl ||| f1 ||| f2 }
  else
    let (v, f1) := nuIn st.nctl st.ifmt e.2 st.iscale
    { w with
      st := { st with run := [(0, some (reduceVal st.rop (st.run.get (fun _ => none) 0) v))] }, fl := w.fl ||| f1 }

/-- The least head under R295 and R298: among feeds in contributor order, the first of the least key. -/
def leastHead (st : Stream) : Option Feed :=
  st.feeds.foldl (fun best f =>
    match f.elems, best with
    | [], _ => best
    | _ :: _, none => some f
    | (k, _) :: _, some b => match b.elems with
      | (m, _) :: _ => if st.order k < st.order m then some f else best
      | [] => some f) none

/-- STMERGE as far as every unfinished contributor has a head (R303). -/
def Pump.merge (exact : Bool) (draw : Nat → Nat) (who : List Nat) : Nat → Pump → Pump
  | 0, w => w
  | fuel + 1, w =>
    if who.any (fun i => let f := w.st.feed i; f.trailer.isNone && f.elems = []) then w
    else match leastHead w.st with
      | none => w
      | some f => match f.elems with
        | [] => w
        | e :: rest =>
          let k := w.st.order e.1
          let bad := match f.prev with
            | some p => decide (k < p)
            | none => false
          let w := { w with st := w.st.setFeed { f with elems := rest, prev := some k }, unsorted := w.unsorted + b2n bad }
          Pump.merge exact draw who fuel (if w.st.pairs then w.record exact draw e else w.push e)

/-- Insert into a list in order, after its equals (a stable sort). -/
def insertBy (le : Nat × Nat → Nat × Nat → Bool) (e : Nat × Nat) : List (Nat × Nat) → List (Nat × Nat)
  | [] => [e]
  | x :: xs => if le e x && !le x e then e :: x :: xs else x :: insertBy le e xs

/-- Sort a list stably. -/
def sortBy (le : Nat × Nat → Nat × Nat → Bool) (l : List (Nat × Nat)) : List (Nat × Nat) :=
  l.foldl (fun a e => insertBy le e a) []

/-- Whether an element passes a filter (R305). -/
def Stream.keeps (st : Stream) (key : Nat) : Bool :=
  let fmt := if st.pairs then 7 else st.ifmt
  let cond := bitsOf st.arg16 11 3
  match fpFmt fmt with
  | some f =>
    let key := if bitOf st.arg16 14 then key % 2 ^ f.signPos else key
    condHolds cond (orderKey fmt key) (fpKey st.arg32)
  | none => condHolds cond (orderKey fmt key) (orderKey (if fmt = 5 then 6 else fmt) st.arg32)

/-- Move a counted stream on as far as its input allows. -/
def State.pump (s : State) (c : Nat) (st : Stream) : Pump :=
  let w : Pump := ⟨st, 0, 0, 0, []⟩
  let exact := isExact (s.ctx c).live
  let draw (i : Nat) : Nat := if st.rnd = rndSTOCH then stochDraw (recNseed (s.ctx c).live) c i else 0
  let n := (st.feeds.map (fun f => f.elems.length)).foldl (· + ·) 0
  if st.op = 4 then
    let l := s.contributors c st
    if l.length < st.expect then w
    else
      let w := w.merge exact draw l (n + 1)
      if s.allTrailed c w.st && w.st.feeds.all (fun f => f.elems = []) then w.flush exact draw else w
  else if st.op = 5 then
    if st.sorted || !s.allTrailed c st then w
    else
      let all := sortBy (fun a b => st.order a.1 ≤ st.order b.1) (st.feeds.flatMap Feed.elems)
      let w := all.foldl Pump.push { w with st := { st with feeds := st.feeds.map (fun f => { f with elems := [] }) } }
      { w with st := { w.st with sorted := true } }
  else
    let all := st.feeds.flatMap Feed.elems
    (all.filter (fun e => st.keeps e.1)).foldl Pump.push
      { w with st := { st with feeds := st.feeds.map (fun f => { f with elems := [] }) } }

/-- Whether a counted stream has nothing left to emit but its last data grain and its trailer. -/
def State.drained (s : State) (c : Nat) (st : Stream) : Bool :=
  s.allTrailed c st && st.group.isNone && st.feeds.all (fun f => f.elems = []) && (st.op ≠ 5 || st.sorted)

/-- The bytes of a data grain of a counted stream. -/
def Stream.packOut (st : Stream) (l : List (Nat × Nat)) : Nat :=
  if st.pairs then packElems 8 (l.map (fun e => e.1 % 2 ^ 32 + 2 ^ 32 * (e.2 % 2 ^ (8 * fmtWidth st.ifmt))))
  else packElems (fmtWidth st.ifmt) (l.map (fun e => e.1))

/-! ## Gather and scatter (R300 to R302) -/

/-- ROW_LEN. -/
def Stream.rowLen (st : Stream) : Nat := st.arg16 % 4096
/-- ROWS. -/
def Stream.rows (st : Stream) : Nat := st.arg32 / 256
/-- BAG. -/
def Stream.bag (st : Stream) : Nat := st.arg32 % 256
/-- The row stride. -/
def Stream.stride (st : Stream) : Nat := (st.rowLen * fmtWidth st.ifmt + 63) / 64 * 64
/-- The output grains of one bag. -/
def Stream.bagGrains (st : Stream) : Nat := (st.rowLen + fmtElems st.ofmt - 1) / fmtElems st.ofmt

/-- The window and offset of a row, by its index. -/
def Stream.rowAt (st : Stream) (rc : CtxRec) (i : Nat) : Nat × Nat :=
  let row := i % max st.rows 1
  let h := (winLimit (recWin rc st.win) - st.a0) / max st.stride 1
  if bitOf st.arg16 14 && h ≤ row then ((st.win + 1) % 8, (row - h) * st.stride) else (st.win, st.a0 + row * st.stride)

/-- The indices of the bag of the next output grain, if they are all there. -/
def Stream.bagIndices (st : Stream) : Option (List Nat) :=
  let l := (st.feeds.flatMap Feed.elems).map Prod.fst
  if st.bag ≤ l.length then some (l.take st.bag) else none

/-- The accesses that the next output grain of a gather makes, one for each index. -/
def Stream.rowReads (st : Stream) (rc : CtxRec) (prog : Nat) (idx : List Nat) : List Access :=
  let no := fmtElems st.ofmt
  let w := fmtWidth st.ifmt
  let part := prog % max st.bagGrains 1
  let n := min no (st.rowLen - part * no)
  idx.map (fun i => let (win, off) := st.rowAt rc i; ⟨win, off + part * no * w, n * w, false⟩)

/-- One element of a pooled row (R301). -/
def Stream.pool (st : Stream) (exact : Bool) (draw : Nat) (xs : List Nat) : Nat × Nat × Val :=
  let den := if bitOf st.arg16 15 then st.bag else 1
  if st.rop = 0 && exact then
    let r := xs.foldl (fun (a : LAcc × Nat) x =>
      let (v, f1) := nuIn st.nctl st.ifmt x st.iscale
      let (b, f2) := a.1.add (nctlRnd st.nctl) v
      (b, a.2 ||| f1 ||| f2)) (LAcc.cleared, 0)
    let (y, f, v) := st.roundLane true r.1.value draw den
    (y, r.2 ||| f, v)
  else if st.rop = 0 then
    let r := xs.foldl (fun (a : Nat × Nat) x =>
      let (l, f1) := freeLane st x
      let (b, f2) := laneAdd st.rnd false a.1 l
      (b, a.2 ||| f1 ||| f2)) (0x80000000, 0)
    let (m, f3) := if bitOf st.arg16 15 then laneDivNat st.rnd r.1 den else (r.1, 0)
    let (y, f, v) := st.roundLane false (.fin false m 0) draw 1
    (y, r.2 ||| f3 ||| f, v)
  else
    let r := xs.foldl (fun (a : Option Val × Nat) x =>
      let (v, f1) := nuIn st.nctl st.ifmt x st.iscale
      (some (reduceVal st.rop a.1 v), a.2 ||| f1)) (none, 0)
    let (y, f, v) := st.roundLane false (r.1.getD (.fin false 0 0)) draw 1
    (y, r.2 ||| f, v)

/-- Form and emit the next output grain of a gather, its operands having arrived. -/
def State.gatherGrain (s : State) (c k : Nat) (st : Stream) (ptr : Nat) (idx : List Nat) : State :=
  let x := s.ctx c
  let prog := x.regs.prog
  let acc := st.rowReads x.live prog idx
  match (acc.find? (fun a => !winPasses (recWin x.live a.win) a.off a.len false)).or (s.outFails c st prog) with
  | some a => (s.dropOut st ptr).fault c 2 (streamFault a)
  | none =>
    if acc.any (fun a => s.winBurred c a.win a.off a.len) then (s.dropOut st ptr).fault c 9 FaultAt.none_
    else
      let no := fmtElems st.ofmt
      let w := fmtWidth st.ifmt
      let part := prog % max st.bagGrains 1
      let rows := acc.map (fun a => s.winRead c a.win a.off a.len)
      let l := (List.range no).map (fun j =>
        if st.rowLen ≤ part * no + j then (0, 0, Val.nan)
        else st.pool (isExact x.live) (s.drawOf c st prog j) (rows.map (fun r => elemAt r w j)))
      let n := min no (st.rowLen - part * no)
      let s := s.setFlags c (l.foldl (fun a y => a ||| y.2.1) 0)
      let s := s.gatherAmax c st ((l.take n).map (fun y => y.2.2))
      let wraps := if part = 0 then (idx.filter (fun i => st.rows ≤ i)).length else 0
      let s := s.sparseCount k 0 0 0 wraps 0
      let data := packElems (fmtWidth st.ofmt) (l.map (fun y => y.1))
      let stamp := st.stamps.get (fun _ => 0) 0
      match s.putOut c k st prog (decide (prog + 1 = st.grains)) ptr 0 (fmtWidth st.ofmt) data stamp with
      | none => s
      | some s =>
        let s := if part + 1 = st.bagGrains then
            s.setRegs c (fun r => { r with stream := r.stream.map (fun st => { st with
              feeds := st.feeds.map (fun f => { f with elems := f.elems.drop st.bag }) }) })
          else s
        s.stepProg c st.grains

/-- The bytes of a scatter grain: a sparse one is first expanded to dense elements (R291). -/
def Stream.scatterData (st : Stream) (word data : Nat) : Nat :=
  let e := elemsOf st.ifmt word 0 data
  if e.sparse then packElems (fmtWidth st.ifmt) ((e.l.map Prod.snd).take (256 / fmtWidth st.ifmt)) else data

/-- The elements of a scatter grain that its row takes, and those that its count announces (R302). -/
def Stream.scatterKeep (st : Stream) (data : Nat) : Nat × Nat :=
  let cnt := min (bitsOf data 48 16) (248 / fmtWidth st.ifmt)
  (min cnt (st.rowLen - bitsOf data 32 16), cnt)

/-- The access with which a scatter grain is written into its row (R302). -/
def Stream.scatterAccess (st : Stream) (rc : CtxRec) (data : Nat) : Access :=
  let w := fmtWidth st.ifmt
  let (win, off) := st.rowAt rc (bitsOf data 0 32)
  ⟨win, off + bitsOf data 32 16 * w, (st.scatterKeep data).1 * w, true⟩

/-- Write the elements of a scatter grain into its row (R302). -/
def State.scatterGrain (s : State) (c k : Nat) (st : Stream) (data : Nat) : State :=
  let (keep, cnt) := st.scatterKeep data
  let cmax := 248 / fmtWidth st.ifmt
  let s := s.sparseCount k 0 0 (b2n (decide (cmax < bitsOf data 48 16)) + (cnt - keep))
    (b2n (decide (st.rows ≤ bitsOf data 0 32))) 0
  if keep = 0 then s.stepProg c st.grains
  else
    let a := st.scatterAccess (s.ctx c).live data
    let s := s.winWrite c a.win a.off a.len (bitsOf data 64 (8 * a.len))
    let s := if s.winFar c a.win then s.setRegs c (fun r => { r with stores := r.stores + 1 }) else s
    s.stepProg c st.grains

/-! ## Taking an input grain -/

/-- Whether the stream of a context can take an arrival now. -/
def State.canTake (s : State) (c : Nat) (st : Stream) (n : Notice) : Bool :=
  let prog := (s.ctx c).regs.prog
  let data := match n.ptr with | some p => (s.grain p).data.toNat | none => 0
  if st.op = opSpread then true
  else if n.segment ≠ st.seg && s.hasColl c then false
  else match st.op with
    | 1 => reduceOpen st prog (elemsOf st.ifmt n.word n.index data)
    | 7 => n.index = prog
    | 2 => n.index = (st.feed 0).next
    | 3 => prog < st.grains
    | 6 => n.index = (st.feed n.who).next && s.filterTurn c st n.who
    | _ => n.index = (st.feed n.who).next

/-- Change a context's stream. -/
def State.setStream (s : State) (c : Nat) (st : Stream) : State := s.setRegs c (fun r => { r with stream := some st })

/-- The slots of a sort that now stand of a grain, up to CAP, and how many went over it (R304). -/
def Stream.sortNew (st : Stream) (f g : Feed) : List (Nat × Nat) × Nat :=
  let before := (st.feeds.map (fun f => f.elems.length)).foldl (· + ·) 0
  let fresh := g.elems.drop f.elems.length
  let new := fresh.take (st.arg32 - before)
  (new, fresh.length - new.length)

/-- The access with which a sort copies n slots into its scratch area (R304). -/
def Stream.sortAccess (st : Stream) (n : Nat) : Access :=
  let before := (st.feeds.map (fun f => f.elems.length)).foldl (· + ·) 0
  let sz := if st.pairs then 8 else fmtWidth st.ifmt
  ⟨st.win, st.a0 + before * sz, n * sz, true⟩

/-- A grain of a sort: its slots that now stand are copied into the scratch area, up to CAP (R304). A stock program's
scratch area is its own. -/
def State.sortCopy (s : State) (c k : Nat) (st : Stream) (f g : Feed) : Feed × State :=
  let (new, extra) := st.sortNew f g
  let s := s.sparseCount k 0 0 extra 0 0
  let g := { g with elems := f.elems ++ new }
  if s.isStock c || new = [] then (g, s)
  else
    let a := st.sortAccess new.length
    let data := if st.pairs then packElems 8 (new.map (fun e => e.1 + 2 ^ 32 * e.2))
      else packElems (fmtWidth st.ifmt) (new.map Prod.fst)
    let s := s.winWrite c a.win a.off a.len data
    (g, if s.winFar c a.win then s.setRegs c (fun r => { r with stores := r.stores + 1 }) else s)

/-- A contributor's feed with a grain taken: the feed, what the grain's slots show of R294, and whether a trailer disagrees. -/
def Stream.feedWith (st : Stream) (n : Notice) (data : Nat) : Feed × Elems × Bool :=
  let f := st.feed n.who
  let (slots, e) := st.slots n.word data
  if n.last then let (g, bad) := f.trail (bitsOf data 0 64); (g, ⟨[], false, 0, 0, 0⟩, bad)
  else (f.data slots, e, false)

/-- The window access that taking an input grain makes, where it fails: nothing of the grain then acts (R202, R259). -/
def State.takeFails (s : State) (c : Nat) (st : Stream) (n : Notice) (data : Nat) : Option Access :=
  let rc := (s.ctx c).live
  let bad (a : Access) : Option Access := if a.len ≠ 0 && !winPasses (recWin rc a.win) a.off a.len true then some a else none
  match st.op with
  | 7 => s.outFails c st (s.ctx c).regs.prog
  | 3 => bad (st.scatterAccess rc (st.scatterData n.word data))
  | 5 =>
    if s.isStock c then none
    else bad (st.sortAccess (st.sortNew (st.feed n.who) (st.feedWith n data).1).1.length)
  | _ => none

/-- Pass a grain on unchanged (STCOPY, ALLGATHER, BCAST): the grain itself is linked again, or its bytes go to a window. -/
def State.passGrain (s : State) (c k : Nat) (st : Stream) (n : Notice) (data : Nat) : State :=
  let x := s.ctx c
  let stamp := s.genStamp k n.stamp
  if st.op = opSpread then
    let all := dProgram x.coll.desc = pgAllgather
    let own := !eChild (dEntry x.coll.desc n.who)
    let idx := if all && own then eId (dEntry x.coll.desc n.who) * segGrains x.live n.segment + n.index else n.index
    let total := if all then jobRanks (s.job (recJob x.live)).rec_ * segGrains x.live n.segment else segGrains x.live n.segment
    let s := match n.ptr with
      | some p =>
        let s := s.setGrain p { s.grain p with refs := (s.grain p).refs + 1 }
        (s.giveGrain c k n.segment idx (decide (idx + 1 = total)) p n.word stamp (if own then none else some n.who)).unref p
      | none => s
    let s := (s.releaseNotice n).setColl c (fun q => { q with copied := q.copied.modify (fun _ => 0) n.segment (· + 1) })
    s.maybeEnd c
  else
    let prog := x.regs.prog
    let last := decide (prog + 1 = st.grains)
    if st.odst then
      match (s.releaseNotice n).putOut c k st prog last 0 n.word 0 data stamp with
      | none => s
      | some s => s.stepProg c st.grains
    else
      let s := match n.ptr with
        | some p =>
          let s := s.setGrain p { s.grain p with refs := (s.grain p).refs + 1 }
          (s.giveGrain c k st.seg prog last p n.word stamp none).unref p
        | none => s
      (s.releaseNotice n).stepProg c st.grains

/-- Combine the elements of an input grain into a STREDUCE (R239). -/
def State.combine (s : State) (c : Nat) (st : Stream) (n : Notice) (e : Elems) : Comb :=
  let x := s.ctx c
  let first := match e.l with
    | [] => 0
    | f :: _ => f.1 / fmtElems st.ofmt
  e.l.foldl (Comb.elem (isExact x.live) (s.isStock c) x.regs x.regs.prog first e.sparse n.stamp) ⟨st, 0, x.coll.childAmax, 0⟩

/-- Whether a register of a stream's ring, or the page of the scalar registers, holds burred words (R382, R383). -/
def State.ringBurred (s : State) (c : Nat) (st : Stream) : Bool :=
  (s.ctx c).areaBurr.any (fun i => i = areaPage
    || st.op = 1 && !s.isStock c && areaL st.lfirst ≤ i && i ≤ areaL (st.lfirst + st.lnum))

/-- Take one arrival into the stream: marked consumed, its bytes read, its grain released (R239, R273). Burred data, in the grain or in
the stream's ring, raises the flags of its values as received and faults the context with POISON (R198, R258, R383). -/
def State.takeGrain (s : State) (c k : Nat) (st : Stream) (n : Notice) : State :=
  let data := match n.ptr with | some p => (s.grain p).data.toNat | none => 0
  let burred := gwBurr n.word || s.ringBurred c st
  let fails := if burred then none else s.takeFails c st n data
  match fails with
  | some a => s.fault c 2 (streamFault a)
  | none =>
  let s := s.setColl c (fun q => { q with accepted := q.accepted.erase n })
  let h := s.homeOf c
  let s := if s.hasColl c then (s.markUsed h n.who n.segment n.index).recheckAbove h else s
  let e := elemsOf st.ifmt n.word n.index data
  if burred then
    let s := if st.op = 1 then s.setFlags c (s.combine c st n e).fl else s
    (s.releaseNotice n).fault c 9 FaultAt.none_
  else if st.op = opSpread || st.op = 7 then s.passGrain c k st n data
  else
    let s := s.releaseNotice n
    if st.op = 1 then
      let w := s.combine c st n e
      let s := ((s.setStream c w.st).setFlags c w.fl).sparseCount k e.pairMask e.overfill (e.span + w.span) 0 0
      if n.kind = 0x11 then s.setColl c (fun q => { q with childAmax := w.am }) else s
    else if st.op = 2 then
      let f := st.feed 0
      let idx := (List.range 64).map (fun j => (elemAt data 4 j, 0))
      let st := { st with stamps := st.stamps.modify (fun _ => 0) 0 (max n.stamp) }
      (s.sparseCount k 0 0 (b2n (decide (gwFormat n.word ≠ 0))) 0 0).setStream c
        (st.setFeed { f with next := f.next + 1, elems := f.elems ++ idx })
    else if st.op = 3 then
      (s.sparseCount k e.pairMask e.overfill e.span 0 0).scatterGrain c k st (st.scatterData n.word data)
    else
      let st := { st with stamps := st.stamps.modify (fun _ => 0) 0 (max n.stamp) }
      let (g, e, bad) := st.feedWith n data
      let s := s.sparseCount k e.pairMask e.overfill (e.span + b2n bad) 0 0
      let (g, s) := if st.op = 5 then s.sortCopy c k st (st.feed n.who) g else (g, s)
      s.setStream c (st.setFeed g)

/-- Take the first arrival that the stream can take; answers whether there was one. -/
def State.absorb (s : State) (c k : Nat) : Bool × State :=
  match (s.ctx c).regs.stream with
  | none => (false, s)
  | some st => match (s.ctx c).coll.accepted.find? (s.canTake c st) with
    | none => (false, s)
    | some n => (true, s.takeGrain c k st n)

/-- Take arrivals while the stream can, at most n. -/
def State.absorbAll (s : State) (c k : Nat) : Nat → State
  | 0 => s
  | n + 1 => let (ok, t) := s.absorb c k; if ok then t.absorbAll c k n else t

/-! ## Completing an output grain -/

/-- What came of trying to complete the next output grain. -/
inductive Progress where
  /-- A grain was emitted, or the stream ended. -/
  | did
  /-- Its input is not complete. -/
  | short
  /-- Its ALLOC waits. -/
  | alloc
  /-- Its window operands have not arrived. -/
  | operand
  deriving DecidableEq, Repr

/-- Take an output grain for the next position unless the stream writes to a window. -/
def State.outPtr (s : State) (c k : Nat) (st : Stream) : Option Nat × State :=
  if st.odst then (some 0, s) else s.tryAlloc c k

/-- Emit a formed output grain and count it. -/
def State.emitPos (s : State) (c k : Nat) (st : Stream) (ptr data stamp : Nat) : State :=
  let p := (s.ctx c).regs.prog
  match s.putOut c k st p (decide (p + 1 = st.grains)) ptr 0 (fmtWidth st.ofmt) data stamp with
  | none => s
  | some s => (s.clearPos c p).stepProg c st.grains

/-- STREDUCE: complete position PROG (R239). A partner keeps its partial for the home (R279); the home waits for every
partner's, and below the top for the scale of an FP8 carry (R276). -/
def State.completeReduce (s : State) (c k : Nat) (st : Stream) : Progress × State :=
  let x := s.ctx c
  let p := x.regs.prog
  let no := fmtElems st.ofmt
  let exact := isExact x.live
  let stock := s.isStock c
  let scaled : Bool := !stock || recTop x.live || x.coll.outK.isSome || !(st.ofmt = 3 || st.ofmt = 4)
  if !st.posDone p || !scaled then (.short, s)
  else
    let st := if stock then { st with oscale := stockScale x.coll.outK st.ofmt } else st
    let own : List Val := (List.range no).map (fun j => st.laneVal exact stock x.regs (p * no + j))
    let part : Partial := ⟨myIdx x.live, st.seg, p, own⟩
    if s.hasColl c && !recHome x.live then
      (.did, ((s.setColl c (fun q => { q with partials := q.partials ++ [part] })).clearPos c p).stepProg c st.grains)
    else
      let multi := s.hasColl c && decide (recPartners x.live ≠ 0)
      let have_ (q : Coll) : List Partial := q.partials.filter (fun y => y.seg = st.seg && y.pos = p)
      let s := if multi && !(have_ x.coll).any (fun y => y.who = 0) then
          s.setColl c (fun q => { q with partials := q.partials ++ [part] })
        else s
      let ps := have_ (s.ctx c).coll
      if multi && ps.length ≤ recPartners x.live then (.short, s)
      else match s.outFails c st p with
      | some a => (.did, s.fault c 2 (streamFault a))
      | none => match s.outPtr c k st with
        | (none, s) => (.alloc, s)
        | (some ptr, s) =>
          let val (j : Nat) : Val × Nat :=
            if multi then foldPartials st exact (ps.map Partial.lanes) j else (own.getD j (.fin true 0 0), 0)
          let (data, s) := s.roundPos c st p val
          let s := s.setColl c (fun q => { q with partials := q.partials.filter (fun y => !(y.seg = st.seg && y.pos = p)) })
          (.did, s.emitPos c k st ptr data (st.stamps.get (fun _ => 0) p))

/-- A counted stream: emit a full data grain, or at the end the last one and the trailer (R297). -/
def State.completeCounted (s : State) (c k : Nat) (st : Stream) : Progress × State :=
  let w := s.pump c st
  let st := w.st
  let n := st.per
  let prog := (s.ctx c).regs.prog
  let full := decide (n ≤ st.out.length)
  let due := full || s.drained c st
  match if due then s.outFails c st prog else none with
  | some a => (.did, s.fault c 2 (streamFault a))
  | none =>
  let s := ((s.setStream c st).setFlags c w.fl).sparseCount k 0 0 w.span 0 w.unsorted
  let s := if w.am = [] then s else s.gatherAmax c st w.am
  let stamp := st.stamps.get (fun _ => 0) 0
  let lay := fmtWidth st.ifmt + 16 * b2n st.pairs
  if !due then (.short, s)
  else match s.outPtr c k st with
    | (none, s) => (.alloc, s)
    | (some ptr, s) =>
      if full || st.out ≠ [] then
        match s.putOut c k st prog false ptr 0 lay (st.packOut (st.out.take n)) stamp with
        | none => (.did, s)
        | some s => (.did, (s.setStream c { st with out := st.out.drop n }).setRegs c (fun r => { r with prog := prog + 1 }))
      else
        match s.putOut c k st prog true ptr 0 (lay + 32) st.emitted stamp with
        | none => (.did, s)
        | some s => (.did, s.endStream c st.emitted)

/-- Try to complete the next output grain of a context's stream. -/
def State.complete (s : State) (c k : Nat) : Progress × State :=
  match (s.ctx c).regs.stream with
  | none => (.short, s)
  | some st =>
    let x := s.ctx c
    match st.op with
    | 1 => s.completeReduce c k st
    | 2 => match st.bagIndices with
      | none => (.short, s)
      | some idx =>
        if (st.rowReads x.live x.regs.prog idx).any (fun a => s.winFar c a.win) then (.operand, s)
        else match s.outPtr c k st with
          | (none, s) => (.alloc, s)
          | (some ptr, s) => (.did, s.gatherGrain c k st ptr idx)
    | 4 => s.completeCounted c k st
    | 5 => s.completeCounted c k st
    | 6 => s.completeCounted c k st
    | _ => (.short, s)

end Sys2Proof.Machine
end

