-- ==== Sys2Proof/Machine/Execute.lean ====
section
/-! DEFINITION. One execution of a bundle: what each syllable reads and writes, reserved syllables, repeats, faults, and the
issue of a bundle by a thread (R223 to R235, R241, R243, R256 to R259, R319). -/

namespace Sys2Proof.Machine

/-- An execution as it goes: the registers with the writes made so far, and the flags raised. Reads go to the registers
as they stood at the start of the execution. -/
structure Exec where
  r : Regs
  fl : Nat

/-- Raise flags. -/
def Exec.flag (x : Exec) (f : Nat) : Exec := { x with fl := x.fl ||| f }

/-- 256 lanes as a V register. -/
def packLanes (f : Nat → Nat) : Nat := (List.range 256).foldr (fun j a => f j % 2 ^ 32 + 2 ^ 32 * a) 0

/-- Write a V register where it exists (R257). -/
def Exec.putV (rc : CtxRec) (x : Exec) (d v : Nat) : Exec := if vExists rc d then { x with r := x.r.setV d v } else x

/-- Write the lanes of a V register that a mask selects, with the flags of those lanes. -/
def Exec.lanes (rc : CtxRec) (x : Exec) (d old mask : Nat) (f : Nat → Nat × Nat) : Exec :=
  let l := (List.range 256).map (fun j => if mask.testBit j then f j else (vLane old j, 0))
  (x.flag (l.foldl (fun a y => a ||| y.2) 0)).putV rc d (l.foldr (fun y a => y.1 % 2 ^ 32 + 2 ^ 32 * a) 0)

/-- Change the lanes of an L register that a mask selects. -/
def Exec.accs (x : Exec) (n mask : Nat) (f : Nat → LAcc → LAcc × Nat) : Exec :=
  (List.range 256).foldl (fun x j =>
    if mask.testBit j then let (a, fl) := f j (x.r.getL n j); { r := x.r.setL n j a, fl := x.fl ||| fl } else x) x

/-- Raise the amax register that a CR field names over some values (R191). -/
def Exec.amax (r0 : Regs) (x : Exec) (cr : Nat) (vs : List Val) : Exec :=
  if cr = 0 then x
  else
    let m := vs.foldl (fun (a : Nat × Nat) v => let (m, f) := amaxGather a.1 v; (m, a.2 ||| f)) (r0.getS (2 * cr + 1), 0)
    { r := x.r.setS (2 * cr + 1) m.1, fl := x.fl ||| m.2 }

/-- The destination of a reserved syllable receives zero, and UNDEF_SEEN is set (R256, R257). -/
def Exec.bad (rc : CtxRec) (x : Exec) (d : BadDest) : Exec :=
  let x := x.flag nfUndefSeen
  match d with
  | .none => x
  | .s d => { x with r := x.r.setS d 0 }
  | .a n => { x with r := x.r.setA n 0 }
  | .str n => { x with r := x.r.setStr n 0 }
  | .k n => { x with r := x.r.setK n 0 }
  | .v d => x.putV rc d 0
  | .l n => if lExists rc n then (x.accs n (2 ^ 256 - 1) (fun _ _ => (LAcc.plusZero, 0))) else x
  | .nctl => { x with r := { x.r with nctlNext := some 0 } }
  | .gin v s => { (x.putV rc v 0) with r := ((x.putV rc v 0).r.setS s 0) }

/-! ## Scalar syllables (R231) -/

/-- Signed reading of a 32-bit word. -/
def sgn (a : Nat) : Int := signedOf a 32

/-- The three-register scalar operations. -/
def aluS (op a b : Nat) : Nat :=
  match op with
  | 0x01 => a + b
  | 0x02 => a + 2 ^ 32 - b
  | 0x03 => a &&& b
  | 0x04 => a ||| b
  | 0x05 => a ^^^ b
  | 0x06 => a <<< (b % 32)
  | 0x07 => a >>> (b % 32)
  | 0x08 => unsignedOf (sgn a / 2 ^ (b % 32)) 32
  | 0x09 => a * b
  | 0x0A => a * b / 2 ^ 32
  | 0x0B => b2n (decide (sgn a < sgn b))
  | 0x0C => b2n (decide (a < b))
  | 0x0D => if sgn b < sgn a then b else a
  | _ => max a b

/-- The operations with an immediate: ADDI sign-extends it, the others zero-extend it. -/
def aluI (op a i : Nat) : Nat :=
  match op with
  | 0x10 => unsignedOf ((a : Int) + signedOf i 16) 32
  | 0x11 => a &&& i
  | 0x12 => a ||| i
  | _ => a ^^^ i

/-- Number of set bits among the low n. -/
def popCount (m : Nat) : Nat → Nat
  | 0 => 0
  | n + 1 => b2n (m.testBit n) + popCount m n

/-- A scalar syllable. pr is the record, whose P registers it reads; the flags that CLRF clears are answered beside. -/
def Exec.scalar (rc : CtxRec) (r0 : Regs) (x : Exec) (y : SSyl) : Exec × Nat :=
  let set (d v : Nat) : Exec × Nat := ({ x with r := x.r.setS d v }, 0)
  let g := r0.getS
  match y with
  | .nop => (x, 0)
  | .alu op d a b => set d (aluS op (g a) (g b))
  | .imm op d a i => set d (aluI op (g a) i)
  | .lui d i => set d (i * 2 ^ 16)
  | .shift op d a sh => set d (aluS (if op = 0x15 then 6 else if op = 0x16 then 7 else 8) (g a) sh)
  | .aset n a b => ({ x with r := x.r.setA n (g a + (g b % 256) * 2 ^ 32) }, 0)
  | .aaddi n i => ({ x with r := x.r.setA n (unsignedOf ((r0.getA n : Int) + i) 40) }, 0)
  | .apset n m => ({ x with r := x.r.setA n (recP rc m) }, 0)
  | .aget d n h => set d (if h then r0.getA n / 2 ^ 32 else r0.getA n % 2 ^ 32)
  | .strset n a i => ({ x with r := x.r.setStr n (unsignedOf ((g a : Int) + i) 32) }, 0)
  | .pget d m => set d (recP rc m)
  | .setnctl a =>
    if nctlOk (g a) then ({ x with r := { x.r with nctlNext := some (g a) } }, 0) else (x.bad rc .nctl, 0)
  | .getnctl d => set d r0.nctl
  | .getf d => set d r0.nflags
  | .clrf a => (x, g a)
  | .getprog d => set d (r0.prog % 2 ^ 32)
  | .kfirst k a => ({ x with r := x.r.setK k (2 ^ min (g a) 256 - 1) }, 0)
  | .kop k a b op =>
    let p := r0.getK a
    let q := r0.getK b
    ({ x with r := x.r.setK k (if op = 0 then p &&& q else if op = 1 then p ||| q else if op = 2 then p ^^^ q
      else p &&& (2 ^ 256 - 1 - q)) }, 0)
  | .kcnt d a => set d (popCount (r0.getK a) 256)
  | .bad d => (x.bad rc d, 0)

/-- Whether a scalar syllable turns out reserved by the value it reads (R231). -/
def SSyl.badValue (r0 : Regs) : SSyl → Bool
  | .setnctl a => !nctlOk (r0.getS a)
  | _ => false

/-! ## Vector syllables (R232, R233) -/

/-- The integer and bitwise lane operations. -/
def laneInt (op a b : Nat) : Nat :=
  match op with
  | 0x08 => (a + b) % 2 ^ 32
  | 0x09 => (a + 2 ^ 32 - b) % 2 ^ 32
  | 0x0A => (a * b) % 2 ^ 32
  | 0x0C => a &&& b
  | 0x0D => a ||| b
  | 0x0E => a ^^^ b
  | 0x0F => (a <<< (b % 32)) % 2 ^ 32
  | 0x10 => a >>> (b % 32)
  | _ => a

/-- Element j of block PART of a V register, in a format. -/
def vElem (v fmt part j : Nat) : Nat :=
  let w := fmtWidth fmt
  bitsOf v (8 * w * (256 * part + j)) (8 * w)

/-- What the draws of a bundle depend on: the seed and the context (R186). -/
structure DrawKey where
  seed : Nat
  ctx : Nat

/-- A lane-arithmetic syllable. -/
def Exec.arith (rc : CtxRec) (r0 : Regs) (x : Exec) (op d a b k rnd c : Nat) : Exec :=
  let va := r0.getV a
  let vb := r0.getV b
  let vc := r0.getV c
  let mask := r0.getK k
  let m := rndOf rnd r0.nctl
  let old := r0.getV d
  if op = 7 || op = 0x0B then
    let one (j : Nat) : Bool × Nat :=
      if !mask.testBit j then (false, 0)
      else if op = 7 then laneCmp c (vLane va j) (vLane vb j)
      else (condHolds c (sgn (vLane va j)) (sgn (vLane vb j)), 0)
    let l := (List.range 256).map one
    let x := x.flag (l.foldl (fun a y => a ||| y.2) 0)
    { x with r := x.r.setK (d % 8) (l.foldr (fun y a => b2n y.1 + 2 * a) 0) }
  else if op = 0x11 then
    x.putV rc d (packLanes (fun j => if mask.testBit j then vLane va j else vLane vb j))
  else
    x.lanes rc d old mask (fun j =>
      let p := vLane va j
      let q := vLane vb j
      match op with
      | 0x01 => laneAdd m false p q
      | 0x02 => laneAdd m true p q
      | 0x03 => laneMul m p q
      | 0x04 => laneFma m p q (vLane vc j)
      | 0x05 => laneMinMax false p q
      | 0x06 => laneMinMax true p q
      | 0x12 => (p, 0)
      | 0x13 => (r0.getS a, 0)
      | op => (laneInt op p q, 0))

/-- A vector syllable. L registers are read as they stand after V1, everything else as at the start (R224). -/
def Exec.vector (rc : CtxRec) (key : DrawKey) (r0 : Regs) (x : Exec) (y : VSyl) : Exec :=
  let s1 := r0.getS 1
  let draw (m i : Nat) : Nat := if m = rndSTOCH then stochDraw key.seed key.ctx i else 0
  match y with
  | .nop => x
  | .arith op d a b k rnd c => x.arith rc r0 op d a b k rnd c
  | .cvtu d a fmt part cr =>
    let l := (List.range 256).map (fun j => cvtuElem r0.nctl fmt (vElem (r0.getV a) fmt part j) (crScale r0 cr))
    let x := (x.flag (l.foldl (fun a y => a ||| y.2.1) 0)).amax r0 cr (l.map (fun y => y.2.2))
    x.putV rc d (l.foldr (fun y a => y.1 % 2 ^ 32 + 2 ^ 32 * a) 0)
  | .cvtp d a fmt part rnd cr srci =>
    let m := rndOf rnd r0.nctl
    let l := (List.range 256).map (fun j =>
      cvtpElem r0.nctl m (draw m (s1 + j + 256 * part)) fmt srci (vLane (r0.getV a) j) (crScale r0 cr))
    let x := (x.flag (l.foldl (fun a y => a ||| y.2.1) 0)).amax r0 cr (l.map (fun y => y.2.2))
    let w := fmtWidth fmt
    x.putV rc d (setBitsOf (r0.getV d) (2048 * w * part) (2048 * w) (packElems w (l.map (fun y => y.1))))
  | .lclr n k => x.accs n (r0.getK k) (fun _ _ => (LAcc.cleared, 0))
  | .lacc n part a fmt k cr =>
    let mask := r0.getK k
    let val (j : Nat) := nuIn r0.nctl fmt (vElem (r0.getV a) fmt part j) (crScale r0 cr)
    let x := x.amax r0 cr (((List.range 256).filter (fun j => mask.testBit j)).map (fun j => (val j).1))
    x.accs n mask (fun j l => let (v, f1) := val j; let (b, f2) := l.add (nctlRnd r0.nctl) v; (b, f1 ||| f2))
  | .ladd n m k => let src := x.r; x.accs n (r0.getK k) (fun j l => l.add 0 (src.getL m j).value)
  | .lrnd d n fmt cr k rnd =>
    let m := rndOf rnd r0.nctl
    let mask := r0.getK k
    let src := x.r
    let x := x.amax r0 cr (((List.range 256).filter (fun j => mask.testBit j)).map (fun j => (src.getL n j).value))
    x.lanes rc d (r0.getV d) mask (fun j =>
      let (e, f) := (src.getL n j).round fmt (nuCtl r0.nctl m (draw m (s1 + j))) (crScale r0 cr) 1
      (elemToLane fmt e, f))
  | .lgetw d n j k => let src := x.r; x.lanes rc d (r0.getV d) (r0.getK k) (fun i => ((src.getL n i).word j, 0))
  | .lputw n a j k => x.accs n (r0.getK k) (fun i l => l.putWord j (vLane (r0.getV a) i))
  | .bad d => x.bad rc d

/-! ## Memory syllables (R234) -/

/-- The lanes within a SIZE. -/
def sizeLanes (size : Nat) : Nat := sizeBytes size / 4

/-- The bytes that a masked V store writes, lane by lane. -/
def State.storeLanes (s : State) (c win off v mask n : Nat) : State :=
  (List.range n).foldl (fun s j => if mask.testBit j then s.winWrite c win (off + 4 * j) 4 (vLane v j) else s) s

/-- A memory syllable whose access has passed its check. -/
def State.memory (s : State) (c : Nat) (rc : CtxRec) (r0 : Regs) (x : Exec) (y : MSyl) : Exec × State :=
  match y.access r0 with
  | none => match y with
    | .bad d _ => (x.bad rc d, s)
    | _ => (x, s)
  | some a =>
    let data := s.winRead c a.win a.off a.len
    let stored (s : State) : State := if s.winFar c a.win then s.setRegs c (fun r => { r with stores := r.stores + 1 }) else s
    match y with
    | .ldv d _ _ size k =>
      let mask := r0.getK k % 2 ^ sizeLanes size
      (x.lanes rc d (r0.getV d) mask (fun j => (bitsOf data (32 * j) 32, 0)), s)
    | .lds d .. => ({ x with r := x.r.setS d data }, s)
    | .ldk k .. => ({ x with r := x.r.setK k data }, s)
    | .stv d _ _ size k => (x, stored (s.storeLanes c a.win a.off (r0.getV d) (r0.getK k) (sizeLanes size)))
    | .sts d .. => (x, stored (s.winWrite c a.win a.off 4 (r0.getS d)))
    | .stk k .. => (x, stored (s.winWrite c a.win a.off 32 (r0.getK k)))
    | _ => (x, s)

/-! ## Transfer syllables (R235, R241) -/

/-- GIN takes an arrival: its bytes into the V register, its index and source into two S registers (R241). -/
def Exec.gin (rc : CtxRec) (r0 : Regs) (x : Exec) (v d part : Nat) (n : Notice) (data : Nat) : Exec :=
  let x := x.putV rc v (setBitsOf (r0.getV v) (2048 * part) 2048 data)
  { x with r := (x.r.setS d (n.index % 2 ^ 24)).setS (d + 1) (n.src % 2 ^ 20) }

/-- What the C syllable of a bundle does after its last execution, from the registers at that execution's start (R225). -/
def CSyl.after (y : CSyl) (pc len : Nat) (r0 : Regs) : After :=
  let next : Int := (pc + len : Nat)
  let jump (off : Int) : After := ⟨(pc : Int) + 4 * off, true, 0, 0⟩
  let on : After := ⟨next, false, 0, 0⟩
  match y with
  | .nop => on
  | .br off => jump off
  | .bcc a b cond off =>
    let p := r0.getS a
    let q := r0.getS b
    let t : Bool := match cond with
      | 0 => decide (p = q)
      | 1 => decide (p ≠ q)
      | 2 => decide (sgn p < sgn q)
      | 3 => decide (sgn q ≤ sgn p)
      | 4 => decide (p < q)
      | _ => decide (q ≤ p)
    if t then jump off else on
  | .jal _ off => jump off
  | .jr a => ⟨((r0.getS a) - (r0.getS a) % 4 : Nat), true, 0, 0⟩
  | .fence => { on with kind := 1 }
  | .halt code => { on with kind := 2, code := code }
  | .bad => on

/-- The register that the C syllable of a bundle writes at its last execution, and the value (R230). -/
def CSyl.link (y : CSyl) (pc len : Nat) : Option (Nat × Nat) :=
  match y with
  | .jal d _ => some (d, pc + len)
  | _ => none

/-- A registers advance by their strides between two executions (R223). -/
def Regs.advance (r : Regs) : Regs :=
  (List.range 16).foldl (fun r i => r.setA i (unsignedOf ((r.getA i : Int) + (r.getStr i).toInt) 40)) r

/-! ## An execution -/

/-- The arrival that a GIN takes: the first accepted one. -/
def State.nextArrival (s : State) (c : Nat) : Option Notice := (s.ctx c).coll.accepted.head?

/-- The data of an arrival's grain. -/
def State.noticeData (s : State) (n : Notice) : Nat := match n.ptr with | some p => (s.grain p).data.toNat | none => 0

/-- Carry out one execution of a bundle whose checks have passed; ptr is GOUT's output grain, n GIN's arrival, st the stream
that the bundle starts. reserved: whether it holds a reserved syllable. -/
def State.perform (s : State) (c k : Nat) (b : Bundle) (ptr : Nat) (n : Option Notice) (st : Option Stream) (reserved : Bool) :
    State :=
  let x0 := s.ctx c
  let rc := x0.live
  let r0 := x0.regs
  let count := r0.repN.getD 1
  let lastExec := decide (count ≤ r0.rep + 1)
  let key : DrawKey := ⟨recNseed rc, c⟩
  let x : Exec := match if lastExec then b.c.link r0.pc b.len else none with
    | some (d, v) => ⟨r0.setS d v, 0⟩
    | none => ⟨r0, 0⟩
  let x := match b.c with
    | .bad => x.flag nfUndefSeen
    | _ => x
  let x := if b.undef then x.flag nfUndefSeen else x
  let (x, clr) := x.scalar rc r0 b.s
  let x := x.vector rc key r0 b.v1
  let x := x.vector rc key r0 b.v2
  let (x, s) := s.memory c rc r0 x b.m
  let stores := (s.ctx c).regs.stores
  let data := match n with
    | some n => s.noticeData n
    | none => 0
  let s := match n with
    | some n =>
      let h := s.homeOf c
      let s := (s.setColl c (fun q => { q with accepted := q.accepted.erase n })).releaseNotice n
      if s.hasColl c then (s.markUsed h n.who n.segment n.index).recheckAbove h else s
    | none => s
  let x := match b.t with
    | .gin v d part => match n with
      | some n => x.gin rc r0 v d part n data
      | none => x
    | .bad d => x.bad rc d
    | .stream _ _ d => if st.isNone then x.bad rc (.s d) else x
    | _ => x
  let after := b.c.after r0.pc b.len r0
  let nf := (r0.nflags - (r0.nflags &&& clr)) ||| x.fl
  let r := { x.r with nflags := nf, stores := stores, stream := st, wait := .ready }
  let r := if lastExec then { r with rep := r0.rep + 1, after := some after } else { r.advance with rep := r0.rep + 1 }
  let s := s.setRegs c (fun _ => r)
  let s := s.setCtx c (fun y => { y with areaBurr := y.areaBurr.filter (fun i => !(b.fills r0).contains i) })
  let s := if reserved then s.count (R.ltFaultStat (k / 5) (k % 5)) F.LtFaultStat.undef else s
  let s := match b.t with
    | .gout v a part =>
      let idx := r0.getS a % 2 ^ 24
      let seg := s.streamSeg c
      let last := decide (idx + 1 = segGrains rc seg)
      let s := s.fillGrain ptr 0 (fmtWidth (segOut rc seg)) (bitsOf (r0.getV v) (2048 * part) 2048)
      s.giveGrain c k seg idx last ptr 0 (s.genStamp k 0) none
    | _ => s
  if st.isSome then s.setWait c .stream
  else if lastExec then s.finish c
  else s

/-- A residue mismatch in a bundle or grain that uses the pipeline (R319): counted while checking is on; one that persists
faults the context with POISON. Answers whether the execution goes on. -/
def State.residue (s : State) (c k : Nat) (x : Residue) : Bool × State :=
  let r := R.ltReschk (k / 5) (k % 5)
  let rec_ (step sev : Nat) : ErrRec := s.ctxRec c k 0x0B step sev 0 0
  if s.fld r F.LtReschk.en = 0 then (true, s)
  else match x with
    | .none => (true, s)
    | .lane => (true, (s.count r F.LtReschk.laneRetry).raise (rec_ 0 1))
    | .acc => (true, (s.count r F.LtReschk.accRetry).raise (rec_ 0 1))
    | .burred => (false, ((s.count r F.LtReschk.burred).raise (rec_ 1 2)).fault c 9 FaultAt.none_)

/-- The grain boundary after an execution: between repeats and at the completion of a pipeline bundle; a thread without the
grant takes a stop that waits. -/
def State.afterExec (s : State) (c k : Nat) : State :=
  if s.ctxState c = csRunning then s.reach c k (s.nextUse c) else s

/-- The stream that a transfer syllable starts, if its descriptor holds no reserved value. -/
def State.openStream (s : State) (c : Nat) (b : Bundle) : Option Stream :=
  let r := (s.ctx c).regs
  match b.t with
  | .stream op n d =>
    if descWordsOk op (r.getS n) (r.getS (n + 1)) (r.getS (n + 2)) (r.getS (n + 3)) then
      some (startStream r op n d (s.streamSeg c))
    else none
  | _ => none

/-- Whether a stream names a ring that the context lacks (R226, R236, R258). -/
def State.badRing (s : State) (c : Nat) (b : Bundle) : Bool :=
  let x := s.ctx c
  match b.t with
  | .stream _ n _ => (s.openStream c b).isSome && !ringExists x.live (x.regs.getS (n + 1))
  | _ => false

/-- Carry out an execution, or wait for what its transfer syllable needs: an arrival for GIN, an output grain for GOUT. -/
def State.runBundle (s : State) (c k : Nat) (b : Bundle) : State :=
  let st := s.openStream c b
  let bad := b.reserved || b.s.badValue (s.ctx c).regs || (match b.t with | .stream .. => st.isNone | _ => false)
  match b.t with
  | .gin .. => match s.nextArrival c with
    | none => (s.setWait c .stream).reach c k .arrival
    | some n =>
      if gwBurr n.word then s.fault c 9 FaultAt.none_ else (s.perform c k b 0 (some n) none bad).afterExec c k
  | .gout .. => match s.tryAlloc c k with
    | (none, s) => s.waitAlloc c k
    | (some p, s) => (s.perform c k b p none none bad).afterExec c k
  | _ => (s.perform c k b 0 none st bad).afterExec c k

/-- Whether a memory syllable is a load through a near-tier or far-tier window, whose data arrives later (R209). -/
def State.farLoad (s : State) (c : Nat) (m : MSyl) (a : Access) : Bool :=
  !a.wr && s.winFar c a.win && (match m with | .ldv .. => true | .lds .. => true | .ldk .. => true | _ => false)

/-- Issue the next execution of a thread's bundle: fetch, count, NOREG, the pipeline, the residue check, burred registers, the window check,
and the operands, in that order (R206, R223, R258, R259, R383). -/
def State.issue (s : State) (c k : Nat) (res : Residue) : State :=
  let x := s.ctx c
  let r := x.regs
  let b := decodeBundle x.program r.pc
  if recProgLen x.live < r.pc + b.len then s.fault c 7 ⟨0, false, 0, 0, 0⟩
  else
    let n := r.repN.getD (b.count r)
    if n = 0 then
      (s.setRegs c (fun r => { r with after := some ⟨(r.pc + b.len : Nat), false, 0, 0⟩ })).finish c
    else match b.noReg x.live with
      | some kind => s.fault c 8 ⟨kind, false, 0, 0, 0⟩
      | none =>
        if s.badRing c b then s.fault c 8 ⟨6, false, 0, 0, 0⟩
        else
          let s := s.setRegs c (fun r => { r with repN := some n })
          let s := if b.pipe then s.requestPipe k c else s
          if b.pipe && (s.lathe k).holder ≠ some c then s.setWait c .grant
          else
            let (ok, s) := if b.pipe then s.residue c k res else (true, s)
            if !ok then s
            else if b.poisoned x.areaBurr then s.fault c 9 FaultAt.none_
            else match b.m.access r with
              | none => s.runBundle c k b
              | some a =>
                if !winPasses (recWin x.live a.win) a.off a.len a.wr then s.fault c 2 ⟨5, a.wr, a.win, a.len, a.off⟩
                else if s.farLoad c b.m a then s.setWait c .operand
                else if !a.wr && s.winBurred c a.win a.off a.len then s.fault c 9 FaultAt.none_
                else s.runBundle c k b

/-- A stock program's thread: it asks for the pipeline and starts the stream of its next segment; BARRIER and DIGEST_VOTE
only count (R266). -/
def State.issueStock (s : State) (c k : Nat) (res : Residue) : State :=
  let pg := dProgram (s.ctx c).coll.desc
  if pg = pgBarrier || pg = pgVote then (s.setWait c .call).layerAdvance c
  else
    let s := s.requestPipe k c
    if (s.lathe k).holder ≠ some c then s.setWait c .grant
    else
      let (ok, s) := s.residue c k res
      if !ok then s
      else
        let st := s.stockStream c
        (s.setStream c st).setWait c .stream

end Sys2Proof.Machine
end

