-- ==== Sys2Proof/Machine/Threads.lean ====
section
/-! DEFINITION. What drives the threads of a lathe: bundles, grain boundaries, arrivals, operands, accepted stores,
allocations, the watchdog, paced release and the slot plan (R199, R205 to R211, R214, R220, R239, R264, R279). -/

namespace Sys2Proof.Machine

/-! ## Choosing a thread (R199) -/

/-- Whether a resident context's thread is ready to issue. -/
def State.threadReady (s : State) (c : Nat) : Bool :=
  decide (s.ctxState c = csRunning) && decide ((s.ctx c).regs.wait = .ready)

/-- The order of a thread in the round robin: its slot, or behind the slots its context number. -/
def State.threadKey (s : State) (k c : Nat) : Nat := (s.slotOf k c).getD (16 + c)

/-- The ready thread that issues next on lathe k: the first at or after the place that the last issue left, wrapping
round. -/
def State.nextThread (s : State) (k : Nat) : Option Nat :=
  let ready := (s.residents k).filter s.threadReady
  let least (l : List Nat) : Option Nat := l.foldl (fun best c =>
    match best with
    | none => some c
    | some b => if s.threadKey k c < s.threadKey k b then some c else some b) none
  match least (ready.filter (fun c => decide ((s.lathe k).lastIssue ≤ s.threadKey k c))) with
  | some c => some c
  | none => least ready

/-! ## The engine reset that waits for a boundary (R218, R264, R387) -/

/-- A context is no longer resident: its LATHE and SLOT fields say so. -/
def State.unseat (s : State) (c : Nat) : State :=
  ((s.setCtx c (fun x => { x with phys := none, move := .none, stopping := 0 })).putRec c 484 2 0xFFFF).putRec c 486 1 0xFF

/-- A thread that waits for its ALLOC gives the wait up, to ask again when it runs next (R156, R211). -/
def State.unwait (s : State) (c : Nat) : State :=
  let s := s.dropAllocs c
  if (s.ctx c).regs.wait = .alloc then s.setWait c (s.ctx c).regs.again else s

/-- A context that runs again looks at what its thread waits for (R253, R262): a stream asks for the pipeline, and a FENCE or HALT whose
stores were accepted meanwhile completes. -/
def State.rewake (s : State) (k c : Nat) : State :=
  if s.ctxState c ≠ csRunning then s
  else match (s.ctx c).regs.wait with
    | .stream => if (s.ctx c).regs.stream.isSome then s.requestPipe k c else s
    | .fence => s.finish c
    | _ => s

/-- A load ended by LOAD or DIGEST, or abandoned. -/
def State.loadFail (s : State) (k : Nat) : State := s.count (R.ltFaultStat (k / 5) (k % 5)) F.LtFaultStat.loadFails

/-- Whether a context's register area and lathe-store windows read back without an uncorrectable error (R218, R382). -/
def CtxSt.clean (x : CtxSt) : Bool :=
  x.areaBurr.isEmpty && !x.burr.any (fun b => b.2 && decide (winSpace (recWin x.live (8 * b.1 / 2 ^ 40)) = 1))

/-- What an engine reset does with one resident context (R218, R264): a START in load is abandoned, a context whose state
reads back is written to SAVE_BASE and saved, one with burred state is faulted. One that was being restored is in its save area
already. -/
def State.resetCtx (s : State) (k c : Nat) : State :=
  let x := s.ctx c
  let s := (s.leavePipe k c).unwait c
  let st := recState x.record
  match x.move with
  | .load _ => ((((s.loadFail k).unseat c).setCtxState c csIdle).ltdIdle x.home)
  | _ =>
    let held : Bool := match x.move with
      | .restore _ _ => true
      | _ => false
    let s := s.endMove c
    if st = csFaulted then s.unseat c
    else if !x.clean then (s.fault c 4 FaultAt.none_).unseat c
    else
      let s := if st = csMoving then s else s.setCtx c (fun x => { x with prev := if x.stopping = 1 then csStopped else st })
      let s := s.setRegs c (fun r => { r with wait := if r.wait = .grant || r.wait = .operand then r.again else r.wait })
      let s := (s.putRec c 472 8 x.regs.prog).putRec c 480 4 x.regs.nflags
      let s := if held then s else s.saveArea c
      (s.unseat c).setCtxState c csSaved

/-- The engine reset of lathe k once the grant is withdrawn: the sample, the contexts, the grains; the self-test runs. -/
def State.resetLathe (s : State) (k : Nat) : State :=
  let back := (s.lathe k).selfTest
  let s := s.sampleLathe k
  let s := s.setLathe k (fun l => { l with resetting := false, pending := [] })
  let s := (s.residents k).foldl (fun (s : State) c => s.resetCtx k c) s
  let s := s.reclaimNow (latheReq k)
  let s := { s with err := { s.err with
    escal := s.err.escal.filter (fun e => !(e.step = 2 && e.die = dLathe (k / 5) && e.unit = k % 5)) } }
  (s.ltBusy k true).setLathe k (fun _ => { LatheSt.fresh with selfTest := back })

/-- An engine reset that waited for the holder goes on once nobody holds the grant. -/
def State.resumeReset (s : State) (k : Nat) : State :=
  if (s.lathe k).resetting && (s.lathe k).holder.isNone then s.resetLathe k else s

/-! ## Bundles and grains -/

/-- BUNDLE_EXECUTE (R199, R206, R223, R224). -/
def execBundleExecute (lathe : Lathe) (residue : Residue) (s : State) : Host.Outcome State Fault Refusal :=
  let k := lathe.val
  if !s.latheServes k then .next s
  else match s.nextThread k with
    | none => .next s
    | some c =>
      let s := s.setLathe k (fun l => { l with lastIssue := s.threadKey k c + 1 })
      .next ((if s.isStock c then s.issueStock c k residue else s.issue c k residue).resumeReset k)

/-- One grain of the holder's stream: what has arrived is combined, and the next output grain, if its input is complete, is
formed. -/
def State.grainStep (s : State) (c k : Nat) (st : Stream) : State :=
  let once : Bool := st.op = opSpread || st.op = 7
  let s := s.absorbAll c k (if once then 1 else (s.ctx c).coll.accepted.length + 1)
  if s.ctxState c ≠ csRunning || (s.ctx c).regs.stream.isNone then s.reach c k (s.nextUse c)
  else if once then
    s.reach c k (if (s.ctx c).coll.accepted.any (s.canTake c st) then .pipe else .arrival)
  else match s.complete c k with
    | (.did, s) => s.reach c k (s.nextUse c)
    | (.short, s) => s.reach c k .arrival
    | (.alloc, s) => (s.waitAlloc c k).settleStop c
    | (.operand, s) => s.setWait c .operand

/-- GRAIN_BOUNDARY (R206, R207, R208); residue is what the checkers found in a stream's grain (R319). -/
def execGrainBoundary (done : GrainDone) (s : State) : Host.Outcome State Fault Refusal :=
  let k := done.lathe.val
  match (s.lathe k).holder with
  | none => .next ((s.grantNext k).resumeReset k)
  | some c =>
    if (s.ctx c).regs.wait = .operand then .next s
    else match (s.ctx c).regs.stream with
      | some st =>
        let (ok, s) := s.residue c k done.residue
        .next ((if ok then s.grainStep c k st else s).resumeReset k)
      | none =>
        let s := if (s.ctx c).regs.wait = .stream && (s.ctx c).coll.accepted ≠ [] then s.setWait c .ready else s
        .next ((s.reach c k (s.nextUse c)).resumeReset k)

/-- A waiting stream or GIN looks at what has arrived: GIN's bundle is ready again; a stream asks for the pipeline and,
holding it, combines one grain (R239, R241). -/
def State.noticed (s : State) (c k : Nat) : State :=
  if s.ctxState c ≠ csRunning || (s.ctx c).regs.wait ≠ .stream then s
  else match (s.ctx c).regs.stream with
    | none => if (s.ctx c).coll.accepted = [] then s else s.setWait c .ready
    | some _ =>
      let s := s.requestPipe k c
      if (s.lathe k).holder = some c then (s.absorb c k).2 else s

/-- ARRIVAL_NOTICE (R239). -/
def execArrivalNotice (ctx : Ctx) (s : State) : Host.Outcome State Fault Refusal :=
  match (s.ctx ctx.val).phys with
  | none => .next s
  | some k => .next ((s.noticed ctx.val k).resumeReset k)

/-- The operands of a waiting load or gather have arrived; a read that the fence dropped returns nothing, and the watchdog ends the
wait (R331). -/
def State.operandsIn (s : State) (c k : Nat) : State :=
  match (s.ctx c).regs.stream with
  | none =>
    let x := s.ctx c
    let b := decodeBundle x.program x.regs.pc
    match b.m.access x.regs with
    | none => s.runBundle c k b
    | some a =>
      if !s.winReaches c a.win a.off a.len then s.winDrop c a.win a.off
      else if s.winBurred c a.win a.off a.len then s.fault c 9 FaultAt.none_ else s.runBundle c k b
  | some st =>
    match st.bagIndices with
    | none => s.setWait c .stream
    | some idx =>
      match (st.rowReads (s.ctx c).live (s.ctx c).regs.prog idx).find? (fun a => !s.winReaches c a.win a.off a.len) with
      | some a => s.winDrop c a.win a.off
      | none =>
        let s := s.setWait c .stream
        match s.outPtr c k st with
        | (none, s) => (s.waitAlloc c k).settleStop c
        | (some ptr, s) =>
          let s := s.gatherGrain c k st ptr idx
          s.reach c k (s.nextUse c)

/-- WINDOW_OPERAND_ARRIVE (R209). -/
def execWindowOperandArrive (ctx : Ctx) (s : State) : Host.Outcome State Fault Refusal :=
  let c := ctx.val
  match (s.ctx c).phys with
  | none => .next s
  | some k =>
    if s.ctxState c = csRunning && (s.ctx c).regs.wait = .operand then .next ((s.operandsIn c k).resumeReset k) else .next s

/-- A FENCE or HALT that waits looks whether it completes now; a stop that waited for its bundle is then taken (R230, R253). -/
def State.fenceDone (s : State) (c : Nat) : State :=
  if (s.ctx c).regs.wait = .fence && s.ctxState c = csRunning then
    let s := s.finish c
    if (s.ctx c).regs.wait = .fence then s else s.settleStop c
  else s

/-- WINDOW_WRITE_ACCEPTED (R230): one earlier store is accepted; a FENCE or HALT that waited for the last one completes. -/
def execWindowWriteAccepted (ctx : Ctx) (s : State) : Host.Outcome State Fault Refusal :=
  let c := ctx.val
  let s := s.setRegs c (fun r => { r with stores := r.stores - 1 })
  .next (s.fenceDone c)

/-- A context's ALLOC is granted (R208): its request returns to the queue. -/
def State.allocGranted (s : State) (k c : Nat) : State :=
  if (s.ctx c).regs.wait = .alloc then
    let s := s.setWait c (s.ctx c).regs.again
    s.requestPipe k c
  else s.layerAdvance c

/-- The first waiting ALLOC of a lathe that can be granted now. -/
def State.grantWait (s : State) (k : Nat) : List AllocWait → State
  | [] => s
  | w :: rest =>
    match w.ctx with
    | none =>
      if w.req = latheReq k && w.epoch = s.epoch w.req && s.quotaOk w.req w.count then
        let (ok, s) := s.admitAlloc ((s.reqPlane w.req).reqPool w.req) w.count
        if ok then match s.allocN (latheHalf k) w.req ((s.reqPlane w.req).reqPool w.req) none w.count with
          | some (_, s) => s.withBench (fun b => { b with waits := b.waits.erase w })
          | none => s.grantWait k rest
        else s.grantWait k rest
      else s.grantWait k rest
    | some c =>
      if w.req = latheReq k && w.epoch = s.epoch w.req then
        match s.tryAlloc c k with
        | (none, s) => s.grantWait k rest
        | (some p, s) =>
          let s := s.withBench (fun b => { b with got := b.got ++ [(c, p)], waits := b.waits.erase w })
          s.allocGranted k c
      else s.grantWait k rest

/-- ALLOC_WAIT_GRANTED (R145, R148, R208). -/
def execAllocWaitGranted (lathe : Lathe) (s : State) : Host.Outcome State Fault Refusal :=
  .next (s.grantWait lathe.val s.bench.waits)

/-- PARTIAL_ARRIVAL (R279, R280): a partner's oldest partial reaches the home's collector. -/
def execPartialArrival (ctx : Ctx) (from_ : Ctx) (s : State) : Host.Outcome State Fault Refusal :=
  let h := ctx.val
  let f := from_.val
  if h = f || !s.hasColl h || !(s.group h).contains f then .next s
  else match (s.ctx f).coll.partials with
    | [] => .next s
    | p :: rest =>
      let s := s.setColl f (fun q => { q with partials := rest })
      let s := s.setColl h (fun q => { q with partials := q.partials ++ [p] })
      match (s.ctx h).phys with
      | some k => .next ((s.noticed h k).resumeReset k)
      | none => .next s

/-! ## The watchdog (R210) -/

/-- WDOG_US of a context in ticks: 0 means 64 µs, and the CEILINGS maximum caps it (R203, R210). -/
def State.wdogTicks (s : State) (k c : Nat) : Nat :=
  let w := recF (s.ctx c).live 6 2
  let top := (s.planeOn (dLathe (k / 5))).wdogMaxUs
  let w := if w = 0 then 64 else w
  1000 * (if top = 0 then w else min w top)

/-- WATCHDOG_BITE (R210): it acts when the holder's count has passed its WDOG_US. -/
def execWatchdogBite (lathe : Lathe) (s : State) : Host.Outcome State Fault Refusal :=
  let k := lathe.val
  match (s.lathe k).holder with
  | none => .next s
  | some c =>
    if s.tb.tick ≤ (s.lathe k).since + s.wdogTicks k c then .next s
    else
      let r := R.ltWdogStat (k / 5) (k % 5)
      let s := s.count r F.LtWdogStat.bites
      let s := (s.setFld r F.LtWdogStat.lastCtx c).setFld r F.LtWdogStat.lastStamp (s.dieNow (dLathe (k / 5)))
      let s := s.fault c 3 FaultAt.none_
      .next ((s.setLathe k (fun l => { l with bitten := some s.tb.tick })).resumeReset k)

/-- PIPELINE_DRAIN_TIMEOUT (R210, R376): 10 µs after a bite, a DRAIN record asks for the engine reset. -/
def execPipelineDrainTimeout (lathe : Lathe) (s : State) : Host.Outcome State Fault Refusal :=
  let k := lathe.val
  if (s.lathe k).bitten.any (fun t => decide (t + 10000 ≤ s.tb.tick)) then
    let s := s.setLathe k (fun l => { l with bitten := none })
    .next (s.raise { plainRec 0x0D 2 2 (dLathe (k / 5)) (s.dieNow (dLathe (k / 5))) with
      unit := k % 5, part := ((s.planeOn (dLathe (k / 5))).partOfLathe (k / 5)).getD 0x1F })
  else .next s

/-! ## Paced release (R214) -/

/-- PACED_RELEASE_TICK (R214): the oldest formed result grain leaves once its release tick has come, with that tick as its stamp. -/
def execPacedReleaseTick (ctx : Ctx) (s : State) : Host.Outcome State Fault Refusal :=
  let c := ctx.val
  match (s.ctx c).coll.formed with
  | [] => .next s
  | f :: rest =>
    if s.tb.tick < f.release then .next s
    else
      let s := s.setColl c (fun q => { q with formed := rest })
      let s := s.emitResult c f.seg f.index f.last true f.ptr f.word f.len (max f.release f.stamp) f.from_
      .next (((s.unref f.ptr).fenceDone c).maybeEnd c)

/-! ## The slot plan (R205, R220) -/

/-- Whether a slot of lathe k is taken from the next boundary by another context than c, which is resident there and has
neither ended nor faulted. -/
def State.slotTaken (s : State) (k i c : Nat) : Bool :=
  let r := ltSlot k i
  let o := s.fld r F.LtSlot.ctxNext
  decide (s.fld r F.LtSlot.validNext = 1) && decide (o ≠ c) && decide ((s.ctx o).phys = some k)
    && decide (s.ctxState o ≠ csFaulted) && decide (s.ctxState o ≠ csDone)

/-- Whether a context may stand in a slot: slot 15 is for CTRL = 1 (R205). -/
def State.slotAllowed (s : State) (i c : Nat) : Bool := i ≠ 15 || recCtrl (s.ctx c).inForce

/-- Name a context for a slot from the next turn boundary. -/
def State.planSlot (s : State) (k i c : Nat) : State :=
  (s.setFld (ltSlot k i) F.LtSlot.validNext 1).setFld (ltSlot k i) F.LtSlot.ctxNext c

/-- LT_SLOT_WRITE (R205, R220). -/
def execLtSlotWrite (w : Writer) (lathe : Lathe) (slot : Fin 16) (value : W64) (s : State) : Host.Outcome State Fault Refusal :=
  let k := lathe.val
  let r := ltSlot k slot.val
  .next (s.fenced w (dLathe (k / 5)) r (fun s =>
    let c := F.LtSlot.ctxNext.get value
    let on := F.LtSlot.validNext.get value
    let named : Bool := (List.range 16).any (fun i =>
      i ≠ slot.val && s.fld (ltSlot k i) F.LtSlot.validNext = 1 && s.fld (ltSlot k i) F.LtSlot.ctxNext = c)
    if s.role k = 0xF then s.ltRefuse k
    else if on = 1 && ((s.ctx c).phys ≠ some k || named || !s.slotAllowed slot.val c) then s.ltRefuse k
    else (s.setFld r F.LtSlot.validNext on).setFld r F.LtSlot.ctxNext c))

end Sys2Proof.Machine
end

