-- ==== Sys2Proof/Machine/Residency.lean ====
section
/-! DEFINITION. Where contexts live: EVICT, RESIDE, MIGRATE, engine resets and spare lathes, and the context commands CREATE,
START, STOP, RESUME, REPLAY and RELEASE (R216 to R220, R244 to R255, R264, R271, R387). -/

namespace Sys2Proof.Machine

/-! ## Failed and spare lathes (R217) -/

/-- The failed lathe of a lathe die whose logical number no lathe serves. -/
def State.lostLathe (s : State) (d : Nat) : Option Nat :=
  (List.range 5).findSome? (fun p => if s.role (5 * d + p) = 3 && s.logical (5 * d + p) ≠ 0xFF then some (5 * d + p) else none)

/-- A spare begins to take over: its domain wakes, with the next group that the keepers start (R51, R217 step 1). -/
def State.beginTakeover (s : State) (k : Nat) : State :=
  let s := (s.setLathe k (fun l => { l with takeover := true })).ltBusy k true
  if s.domState (domLathe k) = 2 || s.domState (domLathe k) = 1 then s else s.domWake (domLathe k)

/-- The die's spare that is not in service. -/
def State.idleSpare (s : State) (d : Nat) : Option Nat :=
  (List.range 5).findSome? (fun p => if s.role (5 * d + p) = 1 then some (5 * d + p) else none)

/-- Lathe k fails (R217): ROLE reads FAILED, its domain is left OFF, LATHE_LOST is posted (R394), and with automatic
takeover the die's spare begins to take over. -/
def State.failLathe (s : State) (k : Nat) : State :=
  let d := k / 5
  let s := (s.setFld (ltStat k) F.LtStat.role 3).ltBusy k false
  let s := s.setLathe k (fun _ => LatheSt.fresh)
  let s := if s.domState (domLathe k) = 5 then s else (s.setDom (domLathe k) 0).setWake (domLathe k) .none
  let s := s.post ⟨0x0A, 2, 0xFFFF, ((s.planeOn (dLathe d)).partOfLathe d).getD 0xFF, 0xFFFF, s.logical k, 0⟩
  match s.idleSpare d with
  | some p => if (s.planeOn (dLathe d)).latheAuto d && !(s.lathe p).takeover then s.beginTakeover p else s
  | none => s

/-- A takeover at the first turn boundary after the spare is ready (R217 step 2). -/
def State.finishTakeover (s : State) (k : Nat) : State :=
  if !(s.lathe k).takeover || s.domState (domLathe k) ≠ 2 then s
  else
    let s := (s.setLathe k (fun l => { l with takeover := false })).ltBusy k false
    match s.lostLathe (k / 5) with
    | none => s
    | some f =>
      let n := s.logical f
      let s := s.setFld (ltStat f) F.LtStat.logical 0xFF
      (s.setFld (ltStat k) F.LtStat.logical n).setFld (ltStat k) F.LtStat.role 2

/-! ## Lathe commands (R220) -/

/-- A command of LT_CTL, through the die's fence: refused on a fused-off lathe, while BUSY, or where its own check fails. -/
def State.ltCommand (s : State) (w : Writer) (k : Nat) (ok : State → Bool) (go : State → State) : State :=
  s.fenced w (dLathe (k / 5)) (R.ltCtl (k / 5) (k % 5)) (fun s =>
    if s.role k = 0xF || s.fld (ltStat k) F.LtStat.busy = 1 || !ok s then s.ltRefuse k else go s)

/-- TAKEOVER (R217, R220). -/
def execTakeover (w : Writer) (lathe : Lathe) (s : State) : Host.Outcome State Fault Refusal :=
  .next (s.ltCommand w lathe.val (fun s => s.role lathe.val = 1) (fun s => s.beginTakeover lathe.val))

/-- Whether EVICT and MIGRATE accept a context: PARKED or RUNNING on this lathe (R220). -/
def State.canEvict (s : State) (k c : Nat) : Bool :=
  decide ((s.ctx c).phys = some k) && (decide (s.ctxState c = csParked) || decide (s.ctxState c = csRunning))

/-- A START's load gives way to a move: the program is read again when the context is restored, which starts it then (R219, R247;
DESIGN CHOICE, log 12). -/
def State.loadYields (s : State) (c : Nat) : State :=
  let x := s.ctx c
  let paced : Bool := recMode x.live = 2
  let s := (s.ltdIdle x.home).count (R.ltdCtxStat x.home) F.LtdCtxStat.starts
  let s := s.setCtx c (fun x => { x with move := .none, startPend := paced })
  if paced then s else s.setCtxState c csRunning

/-- Stop a context for a move: at its next grain boundary, or at once when it holds no grant (R219 step 1). A STOP that waits for that
boundary is taken with it. -/
def State.beginMove (s : State) (k c : Nat) (m : Move) : State :=
  let s := if (s.ctx c).move.loading then s.loadYields c else s
  let st := if (s.ctx c).stopping = 1 then csStopped else s.ctxState c
  let s := (s.unwait c).ltBusy k true
  let s := s.setCtx c (fun x => { x with move := m, prev := st, stopping := 2, moveTo := some k })
  if (s.lathe k).holder = some c then s else s.settleStop c

/-- Whether lathe k belongs to the partition of a context's record (R29, R205). -/
def State.latheOfCtx (s : State) (k c : Nat) : Bool :=
  decide ((s.planeOn (dLathe (k / 5))).partOfLathe (k / 5) = some (recPart (s.ctx c).inForce))

/-- EVICT (R219). -/
def execEvict (w : Writer) (lathe : Lathe) (ctx : Ctx) (s : State) : Host.Outcome State Fault Refusal :=
  let k := lathe.val
  .next (s.ltCommand w k (fun s => s.canEvict k ctx.val) (fun s => s.beginMove k ctx.val .evict))

/-- MIGRATE (R219). -/
def execMigrate (w : Writer) (lathe : Lathe) (ctx : Ctx) (slot : Fin 16) (target : Fin 256) (s : State) :
    Host.Outcome State Fault Refusal :=
  let k := lathe.val
  let c := ctx.val
  .next (s.ltCommand w k
    (fun s => match s.latheOf target.val with
      | some t => s.canEvict k c && s.latheOfCtx t c && s.slotAllowed slot.val c && !s.slotTaken t slot.val c
      | none => false)
    (fun s => match s.latheOf target.val with
      | some t => s.beginMove k c (.migrate t slot.val)
      | none => s))

/-- The collective layer's checks and latches when a context starts (R268, R271, R276): none where a check fails. -/
def State.latchColl (s : State) (c : Nat) : Option State :=
  let r := (s.ctx c).record
  let base := recDescBase r
  let major := s.fld (R.glbSvStat ((s.leader).getD 0)) F.GlbSvStat.major
  let s := s.setCtx c (fun x => { x with major := major })
  if base = 0 then some (s.setColl c (fun q => { Coll.empty with pend := q.pend }))
  else
    let head := s.nearRead base 64
    let d := s.nearRead base (64 + 8 * dEntries head)
    if s.descOk c r d major then
      let keep := (s.ctx c).coll.pend
      some ((s.setColl c (fun _ => { Coll.empty with desc := d, pend := keep })).openCall c true)
    else none

/-- Latch a context's record for a run on lathe k: the record's own checks, then the collective's; a failure faults the
context and leaves it non-resident (R203, R247 step 1, R271). Answers whether it goes on. -/
def State.latch (s : State) (k c : Nat) : Bool × State :=
  let r := (s.ctx c).record
  if !(recordOk r && s.windowsAllowed r) then (false, s.startFault c k 1)
  else
    let s := s.setCtx c (fun x => { x with live := r, regs := freshRegs r, mem := [], burr := [], areaBurr := [], stopping := 0 })
    match s.latchColl c with
    | some s => (true, s)
    | none => (false, s.startFault c k 0x0A)

/-- The reload of a context onto lathe k begins (R219 step 3): its pages and blocks are taken. -/
def State.beginRestore (s : State) (k c slot : Nat) (busy : Nat) : State :=
  let s := s.setCtx c (fun x => { x with phys := some k, home := k / 5, move := .restore k slot, moveTo := some busy })
  ((s.setCtxState c csMoving).ltBusy busy true).count (R.ltFaultStat (k / 5) (k % 5)) F.LtFaultStat.loads

/-- RESIDE (R219). A context that never ran is latched as at START and comes to stand PARKED (DESIGN CHOICE, log 12). -/
def execReside (w : Writer) (lathe : Lathe) (ctx : Ctx) (slot : Fin 16) (s : State) : Host.Outcome State Fault Refusal :=
  let k := lathe.val
  let c := ctx.val
  .next (s.ltCommand w k
    (fun s =>
      let st := s.ctxState c
      let r := if st = csIdle then (s.ctx c).record else (s.ctx c).live
      (decide (st = csIdle) || decide (st = csSaved)) && decide ((s.ctx c).move = .none) && s.latheServes k
        && s.latheOfCtx k c && s.fitsLathe k r && s.slotAllowed slot.val c && !s.slotTaken k slot.val c)
    (fun s =>
      if s.ctxState c = csIdle then
        let (ok, s) := s.latch k c
        if ok then (s.setCtx c (fun x => { x with prev := csParked, unsaved := true })).beginRestore k c slot.val k else s
      else s.beginRestore k c slot.val k))

/-- CONTEXT_SAVE_COMPLETE (R219 steps 2 and 3). -/
def execContextSaveComplete (ctx : Ctx) (s : State) : Host.Outcome State Fault Refusal :=
  let c := ctx.val
  let x := s.ctx c
  if s.ctxState c ≠ csMoving then .next s
  else match x.move with
    | .evict => .next (((s.saveArea c).endMove c).unseat c |>.setCtxState c csSaved)
    | .migrate t slot =>
      let busy := x.moveTo.getD t
      let s := ((s.saveArea c).unseat c).setCtxState c csSaved
      if s.latheServes t && s.fitsLathe t x.live then .next (s.beginRestore t c slot busy)
      else .next ((s.setCtx c (fun y => { y with moveTo := some busy })).endMove c |>.ltRefuse busy)
    | _ => .next s

/-- Load a context's program from the near tier (R247 steps 4 and 5, R250): a FAULT code where the load fails. -/
def State.loadProgram (s : State) (c : Nat) : Option Nat × State :=
  let r := (s.ctx c).live
  let b := s.nearRead (recProgBase r) (recProgLen r)
  if s.tierBurred 0 (recProgBase r) (recProgLen r) then (some 6, s)
  else if sha256 b.bytes ≠ recDigest r then (some 5, s)
  else (none, s.setCtx c (fun x => { x with program := b }))

/-- A restore whose slot is in use at the target: the command is refused, and the context stays SAVED (R219, R220; DESIGN CHOICE,
log 12). -/
def State.slotLost (s : State) (k c : Nat) : State :=
  let busy := (s.ctx c).moveTo.getD k
  (((s.endMove c).unseat c).setCtxState c csSaved).ltRefuse busy

/-- Whether a context's area is read back from SAVE_BASE: one that never ran has nothing there, and its pages are zero. -/
def State.hasArea (s : State) (c : Nat) : Bool := !(s.ctx c).unsaved

/-- CONTEXT_RESTORE_COMPLETE (R219 steps 3 and 4, R265). -/
def execContextRestoreComplete (ctx : Ctx) (s : State) : Host.Outcome State Fault Refusal :=
  let c := ctx.val
  match (s.ctx c).move with
  | .restore k slot =>
    match s.loadProgram c with
    | (some code, s) => .next (((s.loadFail k).fault c code FaultAt.none_).unseat c)
    | (none, s) =>
      let s := (if s.hasArea c then s.loadArea c else s).placeWindows k c
      let s := s.setCtx c (fun x => { x with move := .placed slot, unsaved := false })
      if s.slotTaken k slot c then .next (s.slotLost k c) else .next (s.planSlot k slot c)
  | _ => .next s

/-- A restored context at the turn boundary (R219 step 4): it stands in its slot, its directory entry names the lathe, and
STATE returns to what it was. -/
def State.finishPlaced (s : State) (c : Nat) : State :=
  match (s.ctx c).move, (s.ctx c).phys with
  | .placed _, some k =>
    if s.ctxState c ≠ csMoving then s.endMove c
    else if (s.slotOf k c).isNone then s.slotLost k c
    else (((s.endMove c).setCtxState c (s.ctx c).prev).putRec c 484 2 (s.logical k)).rewake k c
  | _, _ => s

/-! ## Engine resets of a lathe (R218, R264, R387) -/

/-- An engine reset of lathe k begins: ROLE reads RESETTING; a holder yields at its next grain boundary, within 2 µs. A holder that a
STOP or a move waits for takes it there. -/
def State.beginReset (s : State) (k : Nat) : State :=
  let back := if s.role k = 4 then (s.lathe k).selfTest.getD 0
    else if s.role k = 3 then (if s.fuses.latheRole (k / 5) (k % 5) = 1 then 2 else 0) else s.role k
  let s := (s.setFld (ltStat k) F.LtStat.role 4).ltBusy k true
  let s := s.setLathe k (fun l => { l with resetting := true, resetAt := s.tb.tick, selfTest := some back, takeover := false })
  match (s.lathe k).holder with
  | some c => s.setCtx c (fun x => { x with stopping := if x.stopping = 0 then 3 else x.stopping })
  | none => s.resetLathe k

/-- ENGINE_RESET (R218, R264, R387): by firmware's command, or by the part when a record asked for it. -/
def execEngineReset (cause : ResetCause) (lathe : Lathe) (s : State) : Host.Outcome State Fault Refusal :=
  let k := lathe.val
  match cause with
  | .fw w => .next (s.ltCommand w k (fun _ => true) (fun s => s.beginReset k))
  | .part =>
    if s.err.escal.any (fun e => e.step = 2 && e.die = dLathe (k / 5) && e.unit = k % 5) && s.role k ≠ 0xF then
      .next (s.beginReset k)
    else .next s

/-- ENGINE_RESET_BOUNDARY_TIMEOUT (R264): 2 µs after the reset began, the holder is faulted with STATE_LOST, and the reset goes on. -/
def execEngineResetBoundaryTimeout (lathe : Lathe) (s : State) : Host.Outcome State Fault Refusal :=
  let k := lathe.val
  if !(s.lathe k).resetting || s.tb.tick < (s.lathe k).resetAt + 2000 then .next s
  else
    let s := match (s.lathe k).holder with
      | some c => s.fault c 4 FaultAt.none_
      | none => s
    .next ((s.setLathe k (fun l => { l with holder := none })).resetLathe k)

/-- The reset of partition p ends once no lathe of it is still resetting (R388 steps 5 and 6): the rank-table caches of its port dies
are clear, the fences reopen and its ports detect. -/
def State.finishPartReset (s : State) (p : Nat) : State :=
  if !s.partBusy p
      || (List.range 120).any (fun k => decide ((s.planeOn (dLathe (k / 5))).partOfLathe (k / 5) = some p) && decide (s.role k = 4)) then s
  else
    let busy := s.fld R.glbEscStat F.GlbEscStat.partBusy
    let s := s.setFld R.glbEscStat F.GlbEscStat.partBusy (busy - 2 ^ p)
    let dies := (List.range 32).filter (fun d => decide ((s.planeOn d).partOfPort d = some p))
    let s := dies.foldl (fun (s : State) d =>
      State.setFld { s with head := { s.head with cache := s.head.cache.set (fun _ => []) d [] } } (R.ptdRtcStat d)
        F.PtdRtcStat.pinned 0) s
    dies.foldl (fun (s : State) d => (List.range 32).foldl (fun (s : State) l => s.refreshPort (32 * d + l)) s) s

/-- SELF_TEST_COMPLETE (R217, R387 step 5): ROLE returns, or the lathe fails; ENGINE_RESET is posted (R394). The
last self-test of a partition's reset ends it (R388). -/
def execSelfTestComplete (lathe : Lathe) (ok : Bool) (s : State) : Host.Outcome State Fault Refusal :=
  let k := lathe.val
  match (s.lathe k).selfTest with
  | none => .next s
  | some back =>
    if (s.lathe k).resetting then .next s
    else
      let s := (s.setLathe k (fun l => { l with selfTest := none })).ltBusy k false
      let part := ((s.planeOn (dLathe (k / 5))).partOfLathe (k / 5)).getD 0xFF
      let s := if s.partBusy part then s else s.post ⟨3, 2, 0xFFFF, part, 0xFFFF, s.logical k, 0⟩
      let s := if ok then s.setFld (ltStat k) F.LtStat.role back else s.failLathe k
      .next (s.finishPartReset part)

/-! ## Context commands (R244 to R246) -/

/-- Refuse a context command with a RESULT code. -/
def State.ltdRefuse (s : State) (d code : Nat) : State :=
  (s.setFld (R.ltdCtxStat d) F.LtdCtxStat.result code).setFld (R.ltdCtxStat d) F.LtdCtxStat.cmdRefused 1

/-- A context command on lathe die d, through its fence: BUSY of the die and MOVING refuse it, then the command's own check gives a
RESULT, and an accepted command acts. -/
def State.ctxCommand (s : State) (w : Writer) (d c cmd : Nat) (check : State → Nat) (go : State → State) : State :=
  s.fenced w (dLathe d) (R.ltdCtxCmd d) (fun s =>
    let r := R.ltdCtxStat d
    let s := (s.setFld r F.LtdCtxStat.lastCtx c).setFld r F.LtdCtxStat.lastCmd cmd
    if s.fld r F.LtdCtxStat.busy = 1 || s.ctxState c = csMoving then s.ltdRefuse d 4
    else
      let e := check s
      if e ≠ 0 then s.ltdRefuse d e else go (s.setFld r F.LtdCtxStat.result 0))

/-- Whether lathe die d belongs to the partition of a context's record. -/
def State.dieOfCtx (s : State) (d c : Nat) : Bool := decide ((s.planeOn (dLathe d)).partOfLathe d = some (recPart (s.ctx c).record))

/-- The contexts of a job that are not FREE (R329). -/
def State.jobContexts (s : State) (j : Nat) : Nat :=
  (s.ctxs.keysWhere (fun x => recState x.record ≠ csFree && recJob x.record = j)).length

/-- Q_CONTEXTS of a job. -/
def State.qContexts (s : State) (j : Nat) : Nat := (s.job j).rec_.le 60 2

/-- CREATE (R246, R329, R384). -/
def execCreate (w : Writer) (die : LDie) (ctx : Ctx) (s : State) : Host.Outcome State Fault Refusal :=
  let c := ctx.val
  let j := recJob (s.ctx c).record
  let full (s : State) : Bool := s.qContexts j ≤ s.jobContexts j
  let s1 := s.ctxCommand w die.val c 1
    (fun s => if s.ctxState c ≠ csFree then 1 else if !s.dieOfCtx die.val c then 6
      else if full s || s.err.retiredCtxs.contains c then 2 else 0)
    (fun s =>
      let s := (s.setCtxState c csIdle).putRec c 472 8 0
      let s := (((s.putRec c 480 4 0).putRec c 484 2 0xFFFF).putRec c 486 1 0xFF).putRec c 487 1 0
      (s.putRec c 488 8 0).putRec c 504 4 0)
  let r := R.ltdCtxStat die.val
  if s.judge w (dLathe die.val) = .applied && s1.fld r F.LtdCtxStat.result = 2 && full s then
    .next (s1.count (R.svJobHit j) F.SvJobHit.ctxHit)
  else .next s1

/-- Start a context's load: its pages are zeroed, its windows placed, its slot planned (R247 steps 2 to 4). -/
def State.beginLoad (s : State) (d k c slot : Nat) : State :=
  let s := s.setFld (R.ltdCtxStat d) F.LtdCtxStat.busy 1
  let s := s.setCtx c (fun x => { x with phys := some k, home := d, move := .load slot })
  let s := (s.placeWindows k c).setCtxState c csParked
  let s := (s.putRec c 484 2 (s.logical k)).putRec c 486 1 (if slot = 0x1F then 0xFF else slot)
  let s := if slot = 0x1F then s else s.planSlot k slot c
  s.count (R.ltFaultStat (k / 5) (k % 5)) F.LtFaultStat.loads

/-- START (R246, R247). -/
def execStart (w : Writer) (die : LDie) (ctx : Ctx) (slot : Fin 32) (phys : Fin 8) (s : State) :
    Host.Outcome State Fault Refusal :=
  let c := ctx.val
  let d := die.val
  let k := 5 * d + phys.val
  .next (s.ctxCommand w d c 2
    (fun s =>
      if s.ctxState c ≠ csIdle then 1
      else if 5 ≤ phys.val || (0x10 ≤ slot.val && slot.val ≠ 0x1F) then 5
      else if !s.dieOfCtx d c then 6
      else if !s.latheServes k then 7
      else if slot.val ≠ 0x1F && (s.slotTaken k slot.val c || !s.slotAllowed slot.val c) then 3
      else if recordOk (s.ctx c).record && s.windowsAllowed (s.ctx c).record && !s.fitsLathe k (s.ctx c).record then 2
      else 0)
    (fun s =>
      let (ok, s) := s.latch k c
      if ok then s.beginLoad d k c slot.val else s))

/-- PROGRAM_LOAD_COMPLETE (R247 steps 4 to 7, R249). -/
def execProgramLoadComplete (ctx : Ctx) (s : State) : Host.Outcome State Fault Refusal :=
  let c := ctx.val
  match (s.ctx c).move, (s.ctx c).phys with
  | .load _, some k =>
    let d := (s.ctx c).home
    let s := s.ltdIdle d
    match s.loadProgram c with
    | (some code, s) => .next (((s.loadFail k).fault c code FaultAt.none_).unseat c)
    | (none, s) =>
      let s := s.setCtx c (fun x => { x with move := .none })
      let paced : Bool := recMode (s.ctx c).live = 2
      let s := s.setCtx c (fun x => { x with regs := freshRegs x.live, startPend := paced })
      let s := s.setColl c (fun q => { q with duty := s.dutyLow k })
      let s := if paced || s.ctxState c ≠ csParked then s else s.setCtxState c csRunning
      .next (s.count (R.ltdCtxStat d) F.LtdCtxStat.starts)
  | _, _ => .next s

/-- STOP (R253): a holder stops at its next grain boundary, a context without the grant after the bundle that it is executing. -/
def execStop (w : Writer) (die : LDie) (ctx : Ctx) (s : State) : Host.Outcome State Fault Refusal :=
  let c := ctx.val
  .next (s.ctxCommand w die.val c 3
    (fun s =>
      let st := s.ctxState c
      if st ≠ csParked && st ≠ csRunning && st ≠ csIdle && st ≠ csSaved then 1 else if !s.dieOfCtx die.val c then 6 else 0)
    (fun s =>
      let w := (s.ctx c).regs.wait
      if (s.ctx c).stopping = 2 then s.setCtx c (fun x => { x with prev := csStopped })
      else
        let s := (s.unwait c).setCtx c (fun x => { x with stopping := 1 })
        match (s.ctx c).phys with
        | some k => if (s.lathe k).holder = some c || w = .operand || w = .fence then s else s.settleStop c
        | none => s.settleStop c))

/-- RESUME (R253, R262): a context that was stopped before its program was loaded, or before its PACED start, goes on with that. -/
def execResume (w : Writer) (die : LDie) (ctx : Ctx) (s : State) : Host.Outcome State Fault Refusal :=
  let c := ctx.val
  .next (s.ctxCommand w die.val c 4
    (fun s => if s.ctxState c ≠ csStopped || (s.ctx c).phys.isNone then 1 else if !s.dieOfCtx die.val c then 6 else 0)
    (fun s =>
      if (s.ctx c).move.loading || (s.ctx c).startPend then s.setCtxState c csParked
      else
        let s := s.setCtxState c csRunning
        match (s.ctx c).phys with
        | some k => s.rewake k c
        | none => s))

/-- REPLAY (R254). -/
def execReplay (w : Writer) (die : LDie) (ctx : Ctx) (s : State) : Host.Outcome State Fault Refusal :=
  let c := ctx.val
  .next (s.ctxCommand w die.val c 5
    (fun s =>
      let st := s.ctxState c
      if (st ≠ csDone && st ≠ csStopped && st ≠ csFaulted) || (s.ctx c).phys.isNone
        || (st = csFaulted && recFault (s.ctx c).record = 4) then 1
      else if !s.dieOfCtx die.val c then 6 else 0)
    (fun s => (s.dropAllocs c).replay c))

/-- Free a context: its pages, its grains and its directory entry (R255). -/
def State.freeCtx (s : State) (c : Nat) : State :=
  let x := s.ctx c
  let s := match x.phys with
    | some k => s.leavePipe k c
    | none => s
  let s := (s.dropAllocs c).dropMove c
  let s := s.releaseNotices (x.coll.pend ++ x.coll.early ++ x.coll.above ++ x.coll.accepted)
  let s := x.coll.formed.foldl (fun (s : State) f => s.unref f.ptr) s
  let s := s.setCtx c (fun x => { CtxSt.free with record := x.record })
  ((s.setCtxState c csFree).putRec c 484 2 0xFFFF).putRec c 486 1 0xFF

/-- RELEASE (R255). -/
def execRelease (w : Writer) (die : LDie) (ctx : Ctx) (s : State) : Host.Outcome State Fault Refusal :=
  let c := ctx.val
  .next (s.ctxCommand w die.val c 6
    (fun s =>
      let st := s.ctxState c
      if st ≠ csIdle && st ≠ csDone && st ≠ csFaulted && st ≠ csStopped && st ≠ csSaved then 1
      else if !s.dieOfCtx die.val c then 6 else 0)
    (fun s => s.freeCtx c))

/-! ## What the turn boundary does to slots and contexts (R214, R219, R220, R247) -/

/-- A slot at the boundary: VALID_NEXT and CTX_NEXT are copied; a context that was evicted, faulted or completed leaves it
empty, and the record of a context that leaves it while it stays on the lathe names no slot. -/
def State.turnSlot (s : State) (k i : Nat) : State :=
  let r := ltSlot k i
  let c := s.fld r F.LtSlot.ctxNext
  let stands : Bool := s.fld r F.LtSlot.validNext = 1 && (s.ctx c).phys = some k && s.ctxState c ≠ csFaulted && s.ctxState c ≠ csDone
  let was := s.fld r F.LtSlot.ctxNow
  let s := if s.fld r F.LtSlot.validNow = 1 && (s.ctx was).phys = some k then s.putRec was 486 1 0xFF else s
  let s := s.setFld r F.LtSlot.ctxNow c
  if stands then s.setFld r F.LtSlot.validNow 1 else (s.setFld r F.LtSlot.validNow 0).setFld r F.LtSlot.validNext 0

/-- The slots of lathe k at the boundary; the record of each context that stands names its slot, and a context whose stream
waits asks for the pipeline. -/
def State.turnSlots (s : State) (k : Nat) : State :=
  let s := (List.range 16).foldl (fun (s : State) i => s.turnSlot k i) s
  let s := (List.range 16).foldl (fun (s : State) i =>
    let r := ltSlot k i
    if s.fld r F.LtSlot.validNow = 1 then
      let c := s.fld r F.LtSlot.ctxNow
      let s := s.putRec c 486 1 i
      if s.ctxState c = csRunning && (s.ctx c).regs.wait = .stream && (s.ctx c).regs.stream.isSome then s.requestPipe k c else s
    else s) s
  s.grantNext k

/-- A PACED context whose start waits becomes RUNNING at the boundary, which is its S (R214, R247, R254). -/
def State.turnPaced (s : State) (c : Nat) : State :=
  if !(s.ctx c).startPend || s.ctxState c ≠ csParked then s
  else
      ((s.setCtx c (fun x => { x with startPend := false })).setColl c (fun q => { q with start := s.tb.tick, released := 0, slip := 0 })).setCtxState c csRunning

end Sys2Proof.Machine
end

