-- ==== Sys2Proof/Machine/Jobs.lean ====
section
/-! DEFINITION. Jobs: their records, the checks of admission, and the commands ADMIT, MODIFY, REMOVE and CANCEL with what they
do at their boundaries (R323 to R329). -/

namespace Sys2Proof.Machine

/-! ## Job states as the part keeps and shows them (R323, R325, R326) -/

/-- STATE as R326 numbers it. -/
def JobState.code : JobState → Nat
  | .free => 0
  | .admitting => 1
  | .admitted => 2
  | .modifying => 3
  | .removing => 4
  | .draining => 5

/-- Where the record of job j lies (R323). -/
def State.jobAddr (s : State) (j : Nat) : Nat := s.fld R.svJobBase F.SvJobBase.base + 256 * j

/-- The jobs in ADMITTED or MODIFYING (R325). -/
def State.admittedJobs (s : State) : Nat :=
  (s.jobs.jobs.keysWhere (fun x => x.state = .admitted || x.state = .modifying)).length

/-- The jobs that are not FREE. -/
def State.liveJobs (s : State) : List Nat := s.jobs.jobs.keysWhere (fun x => decide (x.state ≠ .free))

/-- Move a job to a state: kept, written to its record, and counted in SV_JOB_STAT.ADMITTED (R323, R325). -/
def State.setJobState (s : State) (j : Nat) (st : JobState) : State :=
  let s := s.setJob j (fun x => { x with state := st })
  let s := s.nearWrite (s.jobAddr j + 2) ⟨1, st.code⟩
  s.setFld R.svJobStat F.SvJobStat.admitted s.admittedJobs

/-- The RESULT of a command on a job: LAST_JOB, LAST_CMD, RESULT, and CMD_REFUSED where it is not 0 (R325). -/
def State.jobResult (s : State) (j cmd code : Nat) : State :=
  let r := R.svJobStat
  let s := ((s.setFld r F.SvJobStat.lastJob j).setFld r F.SvJobStat.lastCmd cmd).setFld r F.SvJobStat.result code
  if code = 0 then s else s.setFld r F.SvJobStat.cmdRefused 1

/-! ## The admission checks (R324) -/

/-- Q_GRAINS. -/
def jobQGrains (b : Blob) : Nat := b.le 48 4
/-- Q_POLICERS. -/
def jobQPolicers (b : Blob) : Nat := b.le 52 4
/-- Q_SLOT. -/
def jobQSlot (b : Blob) : Nat := b.le 56 4
/-- Q_CONTEXTS. -/
def jobQContexts (b : Blob) : Nat := b.le 60 2
/-- Q_NT_BYTES or Q_FT_BYTES by TIER code (1 near, 2 far). -/
def jobQBytes (b : Blob) (tier : Nat) : Nat := b.le (56 + 8 * tier) 8
/-- CIRC_FIRST. -/
def jobCircFirst (b : Blob) : Nat := b.le 208 2
/-- CIRC_COUNT. -/
def jobCircCount (b : Blob) : Nat := b.le 210 2

/-- The bytes of a record's extents of one tier, summed. -/
def jobExtBytes (b : Blob) (tier : Nat) : Nat :=
  ((List.range 6).map (fun i => let e := jobExt b i; if e.1 = tier then e.2.2 else 0)).foldl (· + ·) 0

/-- Whether an extent's words hold only what R323 allows. -/
def jobExtOk (b : Blob) (i : Nat) : Bool :=
  let e := jobExt b i
  decide (e.1 < 3) && e.2.1 % 4096 = 0 && e.2.2 % 4096 = 0 && bitsOf (b.le (80 + 16 * i + 6) 2) 0 12 = 0

/-- Whether every field of the record of job j lies within the limits of R323. -/
def jobFieldsOk (j : Nat) (b : Blob) (ftShare : Option Nat) : Bool :=
  b.le 0 2 = j && b.byte 3 < 16 && 1 ≤ jobRanks b && jobRanks b ≤ 2 ^ 20 && 2 ≤ jobLeafKey b && 1 ≤ jobQGrains b
    && b.le 40 8 = 0 && b.le 62 2 = 0 && b.le 212 44 = 0 && jobCircCount b ≤ 8192
    && (List.range 6).all (jobExtOk b)
    && jobExtBytes b 1 ≤ jobQBytes b 1 && jobExtBytes b 2 ≤ jobQBytes b 2
    && (match ftShare with | some n => decide (jobQBytes b 2 ≤ n) | none => true)
    && jobRankBase b % 8 = 0 && inExtent b 1 (jobRankBase b) (8 * jobRanks b)

/-- Whether every quota lies at or below its maximum in CEILINGS. -/
def jobUnderCeilings (p : Plane) (b : Blob) : Bool :=
  jobQGrains b ≤ p.maxGrains && jobQPolicers b ≤ p.maxPolicers && jobQSlot b ≤ p.maxSlot && jobQContexts b ≤ p.maxContexts
    && jobQBytes b 1 ≤ p.maxNtBytes

/-- The circuit numbers of a partition. -/
def Plane.partCircuits (p : Plane) (q : Nat) : List Nat := (List.range (p.circuitCount q)).map (fun k => p.circuit q k 0 2)

/-- Whether the plane gives the job's partition what its record names. -/
def jobInPartition (p : Plane) (b : Blob) : Bool :=
  let q := b.byte 3
  let cs := p.partCircuits q
  p.partDefined q && 1 ≤ p.treeCount q
    && (List.range (jobCircCount b)).all (fun i => cs.contains (jobCircFirst b + i))
    && (List.range 6).all (fun i =>
      let e := jobExt b i
      if e.1 = 0 then true
      else
        let t := e.1 - 1
        decide (p.shareBase q t ≤ e.2.1) && decide (e.2.1 + e.2.2 ≤ p.shareBase q t + p.shareLen q t)
          && !(t = 0 && overlaps e.2.1 e.2.2 (p.spillBase q) (p.spillLen q)))

/-- Whether two records claim one extent or one circuit. -/
def jobsClash (a b : Blob) : Bool :=
  overlaps (jobCircFirst a) (jobCircCount a) (jobCircFirst b) (jobCircCount b)
    || (List.range 6).any (fun i => (List.range 6).any (fun k =>
      let x := jobExt a i
      let y := jobExt b k
      decide (x.1 ≠ 0) && decide (x.1 = y.1) && overlaps x.2.1 x.2.2 y.2.1 y.2.2))

/-- The records that a job stands on: the one in force, and the one that waits. -/
def State.jobClaims (s : State) (j : Nat) : List Blob :=
  let x := s.job j
  match x.state with
  | .free => []
  | .admitting => [x.nextRec]
  | .modifying => [x.rec_, x.nextRec]
  | _ => [x.rec_]

/-- The admission checks, in order: the RESULT of R325 (R324). -/
def State.jobCheck (s : State) (p : Plane) (j : Nat) (b : Blob) : Nat :=
  let q := b.byte 3
  let share := if q < 16 && p.partDefined q then some (p.shareLen q 1) else none
  let others := s.liveJobs.filter (fun k => decide (k ≠ j))
  if !jobFieldsOk j b share then 2
  else if !jobUnderCeilings p b then 3
  else if !jobInPartition p b then 6
  else if others.any (fun k => (s.jobClaims k).any (fun o => jobsClash b o)) || 4096 ≤ others.length then 4
  else 0

/-- The windows of a context in the tiers: TIER code, base, length. -/
def State.tierWindows (s : State) (c : Nat) : List (Nat × Nat × Nat) :=
  let r := if s.ctxState c = csIdle then (s.ctx c).record else (s.ctx c).live
  (List.range 8).filterMap (fun w =>
    let e := recWin r w
    if winLimit e ≠ 0 && (winSpace e = 3 || winSpace e = 4) then some (winSpace e - 2, winBase e, winLimit e) else none)

/-- What MODIFY refuses beside R324: a changed PARTITION, RANK_COUNT or LEAF_KEY, then a quota or extent below current use
(R327). -/
def State.modifyCheck (s : State) (j : Nat) (b : Blob) : Nat :=
  let old := (s.job j).rec_
  let ctxs := s.ctxs.keysWhere (fun x => recState x.record ≠ csFree && recJob x.record = j)
  if b.byte 3 ≠ old.byte 3 || jobRanks b ≠ jobRanks old || jobLeafKey b ≠ jobLeafKey old then 2
  else if jobQGrains b < s.jobGrains j || jobQContexts b < s.jobContexts j || jobQPolicers b < s.jobPolicers j 0
    || 1024 * jobQSlot b < (s.job j).slotTicks
    || ctxs.any (fun c => (s.tierWindows c).any (fun w => !inExtent b w.1 w.2.1 w.2.2)) then 5
  else 0

/-- The plane that will be in force at the boundary that starts turn t (R80, R327). -/
def State.planeFor (s : State) (t : Nat) : Plane :=
  if (s.imgState = 5 || s.imgState = 6) && s.img.target = t % 2 ^ 32 then (s.img.shadow).getD s.plane else s.plane

/-- The checks of a job command against a plane: the RESULT (R327). -/
def State.jobCmdCheck (s : State) (p : Plane) (j cmd : Nat) (b : Blob) : Nat :=
  match cmd with
  | 1 => s.jobCheck p j b
  | 2 =>
    let e := s.jobCheck p j b
    if e ≠ 0 then e else s.modifyCheck j b
  | _ => if s.jobContexts j = 0 then 0 else 7

/-! ## The commands (R325, R327) -/

/-- A job command through the supervisor's fence: refused while the checks of another run, or in another state; else its
record is read and its checks begin. -/
def State.jobCommand (s : State) (w : Writer) (j cmd : Nat) (need : JobState) : State :=
  s.fenced w (writerDie w) R.svJobCtl (fun s =>
    if s.jobs.checking.isSome then s.jobResult j cmd 8
    else if (s.job j).state ≠ need then s.jobResult j cmd 1
    else
      let s := (s.jobResult j cmd 0).setFld R.svJobStat F.SvJobStat.busy 1
      let s := if cmd = 3 then s else
        let b := s.nearRead (s.jobAddr j) 256
        s.setJob j (fun x => { x with nextRec := b })
      { s with jobs := { s.jobs with checking := some (j, cmd) } })

/-- ADMIT (R324, R327). -/
def execAdmitJob (w : Writer) (job : Job) (s : State) : Host.Outcome State Fault Refusal :=
  .next (s.jobCommand w job.val 1 .free)

/-- Whether a collective context of a job has a call open: it has been started and has not come to its end (R269, R398). -/
def State.callsOpen (s : State) (j : Nat) : Bool :=
  s.ctxs.any (fun e => decide (recJob e.2.record = j) && s.hasColl e.1
    && [csParked, csRunning, csSaved, csMoving, csStopped].contains (recState e.2.record))

/-- Whether a MODIFY of a job would switch its rank table, which firmware refuses while a call of the job is open (R398). -/
def State.rewriteOpen (s : State) (j : Nat) : Bool :=
  decide (jobRankBase (s.nearRead (s.jobAddr j) 256) ≠ jobRankBase (s.job j).rec_) && s.callsOpen j

/-- MODIFY (R327). A rewrite of the rank table that firmware refuses is not written at all (R398; DESIGN CHOICE, log 54). -/
def execModify (w : Writer) (job : Job) (s : State) : Host.Outcome State Fault Refusal :=
  if s.rewriteOpen job.val then .next s else .next (s.jobCommand w job.val 2 .admitted)

/-- REMOVE (R327). -/
def execRemove (w : Writer) (job : Job) (s : State) : Host.Outcome State Fault Refusal :=
  .next (s.jobCommand w job.val 3 .admitted)

/-- A job's pending command is withdrawn: its earlier state returns (R327). -/
def State.dropJobCmd (s : State) (x : JobCmd) : State :=
  let s := { s with jobs := { s.jobs with waiting := s.jobs.waiting.filter (fun y => decide (y.job ≠ x.job)) } }
  let s := s.setJob x.job (fun y => { y with nextRec := Blob.empty })
  s.setJobState x.job x.prev

/-- CANCEL of a job command (R327). -/
def execJobCancel (w : Writer) (job : Job) (s : State) : Host.Outcome State Fault Refusal :=
  let j := job.val
  .next (s.fenced w (writerDie w) R.svJobCtl (fun s =>
    if s.jobs.checking.isSome then s.jobResult j 4 8
    else match s.jobs.waiting.find? (fun x => decide (x.job = j)) with
      | some x => (s.dropJobCmd x).jobResult j 4 0
      | none => s.jobResult j 4 1))

/-- JOB_CHECKS_COMPLETE (R327 steps 1 and 2): N is the turn in which this happens. A record that reads burred is refused as RECORD. -/
def execJobChecksComplete (s : State) : Host.Outcome State Fault Refusal :=
  match s.jobs.checking with
  | none => .next s
  | some (j, cmd) =>
    let s := { s with jobs := { s.jobs with checking := none } }
    let s := s.setFld R.svJobStat F.SvJobStat.busy 0
    let b := (s.job j).nextRec
    let t := s.tb.turn + 2
    let e := if cmd ≠ 3 && s.tierBurred 0 (s.jobAddr j) 256 then 2 else s.jobCmdCheck (s.planeFor t) j cmd b
    let s := s.jobResult j cmd e
    if e ≠ 0 then .next (s.setJob j (fun x => { x with nextRec := Blob.empty }))
    else
      let prev := (s.job j).state
      let s := s.setJobState j (if cmd = 1 then .admitting else if cmd = 2 then .modifying else .removing)
      .next { s with jobs := { s.jobs with waiting := s.jobs.waiting ++ [⟨j, cmd, prev, t⟩] } }

/-- SV_JOB_BASE_WRITE (R325). -/
def execSvJobBaseWrite (w : Writer) (value : W64) (s : State) : Host.Outcome State Fault Refusal :=
  .next (s.fenced w (writerDie w) R.svJobBase (fun s =>
    if value.toNat % 2 ^ 24 ≠ 0 || s.liveJobs ≠ [] then s.setFld R.svJobStat F.SvJobStat.cmdRefused 1
    else s.setFld R.svJobBase F.SvJobBase.base (value.toNat % 2 ^ 48)))

/-! ## What boundaries do to jobs (R327, R329) -/

/-- A string of bytes with n bytes from byte i replaced. -/
def blobPut (b : Blob) (i n v : Nat) : Blob := ⟨b.len, setBitsOf b.val (8 * i) (8 * n) v⟩

/-- Step 3, at the boundary that starts turn T - 1: the checks again, against the plane that will be in force at T; a failure
withdraws the command with RESULT 0x5, and firmware is told. -/
def State.recheckJob (s : State) (x : JobCmd) : State :=
  if s.jobCmdCheck (s.planeFor x.turn) x.job x.cmd (s.job x.job).nextRec = 0 then s
  else ((s.dropJobCmd x).jobResult x.job x.cmd 5).emit (.benchEvent 3 x.job 5)

/-- A job's rank table lies at a new base from here on (R132): what the caches hold of an earlier table there is gone; the entries of the old
table serve the packets stamped before, and are pinned no more (DESIGN CHOICE, log 13). -/
def State.newRanks (s : State) (j base : Nat) : State :=
  s.mapRanks (fun e => if e.job ≠ j then some e else if e.base = base then none else some { e with pinned := false })

/-- Step 4, at the boundary T: the command takes effect. drainMs is MAX_RES_MS of the plane in force just before T. -/
def State.applyJob (s : State) (x : JobCmd) (drainMs : Nat) : State :=
  let j := x.job
  let now := s.tb.tick
  let s := { s with jobs := { s.jobs with waiting := s.jobs.waiting.filter (fun y => decide (y.job ≠ j)) } }
  match x.cmd with
  | 3 =>
    (s.setJob j (fun y => { y with endTick := some now, drainMs := drainMs })).setJobState j .draining
  | 1 =>
    let dg := s.plane.digest
    let b := blobPut (blobPut (s.job j).nextRec 32 8 s.tb.turn) 176 32 dg
    let a := s.jobAddr j
    let s := (s.nearWrite (a + 32) ⟨8, s.tb.turn % 2 ^ 64⟩).nearWrite (a + 176) ⟨32, dg⟩
    let s := s.setJob j (fun y => { JobSt.none_ with
      state := y.state, rec_ := b, oldRec := b, changeTick := now, admitTick := now, trees := s.plane.sec 10 (b.byte 3) })
    (s.wr (R.svJobHit j) 0).setJobState j .admitted
  | _ =>
    let old := (s.job j).rec_
    let b := blobPut (blobPut (s.job j).nextRec 32 8 (old.le 32 8)) 176 32 (old.le 176 32)
    let s := s.setJob j (fun y => { y with rec_ := b, oldRec := old, changeTick := now, nextRec := Blob.empty })
    let s := if jobRankBase b = jobRankBase old then s else s.newRanks j (jobRankBase b)
    s.setJobState j .admitted

/-- Every job command at a boundary, after the planes have swapped: those whose turn it is take effect, and those of the next
turn are checked again; slot-time starts again (R327, R329). -/
def State.jobBoundary (s : State) (drainMs : Nat) : State :=
  let s := { s with jobs := { s.jobs with jobs := s.jobs.jobs.filterMap (fun (e : Nat × JobSt) =>
    let x := { e.2 with slotTicks := 0, slotOver := false }
    if x = JobSt.none_ then none else some (e.1, x)) } }
  s.jobs.waiting.foldl (fun (s : State) x =>
    if x.turn = s.tb.turn then s.applyJob x drainMs
    else if x.turn = s.tb.turn + 1 then s.recheckJob x
    else s) s

/-! ## Draining (R328) -/

/-- Whether a packet of job j is still in the part: queued, released or held for reordering, arriving, or sent and not
acknowledged. -/
def State.jobInside (s : State) (j : Nat) : Bool :=
  let has (l : List Pkt) : Bool := l.any (fun p => decide (p.job = j))
  s.bench.queues.any (fun e => has e.2) || s.bench.released.any (fun e => has e.2)
    || s.ports.any (fun e => e.2.slots.any (fun r => has r.held) || has (e.2.unacked.map (fun u => u.2)))
    || s.bench.arriving.any (fun e => has ((e.2.filter (fun a => !a.dropped)).map (fun a => a.pkt)))

/-- Discard what is left of a job whose draining time has passed: its packets are older than MAX_RES_MS (R155, R328). -/
def State.purgeJob (s : State) (j : Nat) : State :=
  let mine (p : Pkt) : Bool := decide (p.job = j)
  let s := s.bench.queues.foldl (fun (s : State) e =>
    (e.2.filter mine).foldl (fun (s : State) p => s.dropAged e.1 p)
      (s.setQueue e.1 ((s.queue e.1).filter (fun p => !mine p)))) s
  let s := s.bench.released.foldl (fun (s : State) e =>
    (e.2.filter mine).foldl (fun (s : State) p => s.dropAged e.1 p)
      (s.setReleased e.1 ((s.releasedQ e.1).filter (fun p => !mine p)))) s
  s.ports.foldl (fun (s : State) e =>
    let held := (e.2.slots.flatMap (fun r => r.held)).filter mine
    let s := s.setPort e.1 (fun x => { x with slots := x.slots.map (fun (r : ReorderSlot) => { r with held := r.held.filter (fun p => !mine p) }) })
    (held.foldl (fun (s : State) p => s.dropAged (qKey e.1 p.tc) p) s).showHeld (e.1 / 32)) s

/-- JOB_DRAIN_END (R328): the job becomes FREE when nothing of it is left in the part, or when MAX_RES_MS of the plane in force
just before its removal has passed. Its entries of the rank-table caches go with it. -/
def execJobDrainEnd (job : Job) (s : State) : Host.Outcome State Fault Refusal :=
  let j := job.val
  let x := s.job j
  let late : Bool := decide (x.endTick.getD 0 + 1000000 * x.drainMs ≤ s.tb.tick)
  if x.state ≠ .draining || (s.jobInside j && !late) then .next s
  else
    let s := s.purgeJob j
    let s := s.mapRanks (fun e => if e.job = j then none else some e)
    let s := (s.setJobState j .free).setJob j (fun _ => JobSt.none_)
    .next (s.wr (R.svJobHit j) 0)

end Sys2Proof.Machine
end

