-- ==== Sys2Proof/Machine/Planes.lean ====
section
/-! DEFINITION. The shadow plane: loading, CHECK, ARM, CANCEL and DISCARD, staging, COMMIT, retiring, and the live checks (R71 to
R83). -/

namespace Sys2Proof.Machine

/-- Change the structure-image engine. -/
def State.withImg (s : State) (f : ImgSt → ImgSt) : State := { s with img := f s.img }

/-- Write STATE of the shadow plane (R71, R73). -/
def State.setImgState (s : State) (n : Nat) : State := s.setFld R.svImgStat F.SvImgStat.state n

/-- Write FAIL, FAIL_SECT and FAIL_ENTRY (R73). -/
def State.imgFail (s : State) (code sect entry : Nat) : State :=
  ((s.setFld R.svImgStat F.SvImgStat.fail code).setFld R.svImgStat F.SvImgStat.failSect sect).setFld R.svImgStat
    F.SvImgStat.failEntry entry

/-- Refuse a plane command: the state is unchanged (R76). -/
def State.imgRefuse (s : State) : State := s.setFld R.svImgStat F.SvImgStat.cmdRefused 1

/-- The major version of the firmware that runs: the leader's (R61, R77). -/
def State.runningMajor (s : State) : Nat := s.fld (R.glbSvStat (s.leader.getD 0)) F.GlbSvStat.major

/-! ## Loading (R76, R342) -/

/-- The states in which a load is accepted. -/
def State.mayLoad (s : State) : Bool := s.imgState = 0 || s.imgState = 2 || s.imgState = 4 || s.imgState = 8

/-- A load begins: LOADING, with nothing arrived. src: 1 copy A, 2 copy B, 3 the host (R407). -/
def State.beginImage (s : State) (imageLen src : Nat) : State :=
  (s.withImg (fun i => { i with loadLen := imageLen, loaded := Blob.empty, loadSrc := src, shadow := none })).setImgState 1

/-- Bytes of the image arrive: LOADED once IMAGE_LEN bytes have; bytes beyond it are not the image's. -/
def State.addImage (s : State) (data : Blob) : State :=
  let b := s.img.loaded.append data
  let b := if s.img.loadLen < b.len then b.slice 0 s.img.loadLen else b
  let s := s.withImg (fun i => { i with loaded := b })
  if b.len = s.img.loadLen then s.setImgState 2 else s

/-- IMAGE_DMA_LOAD (R76): the DMA master writes an image of imageLen bytes; further bytes of one that is LOADING follow on. -/
def execImageDmaLoad (imageLen : Nat) (data : Blob) (s : State) : Host.Outcome State Fault Refusal :=
  if s.imgState = 1 then .next (s.addImage data)
  else if s.mayLoad then .next ((s.beginImage imageLen 3).addImage data)
  else .next s.imgRefuse

/-- A load of the shadow plane stops early (R343): FAILED with FAIL 0x02. -/
def State.imageStopped (s : State) : State :=
  if s.imgState = 1 then (s.imgFail 2 0xFFFF 0).setImgState 8 else s

/-! ## The live checks (R80) -/

/-- The record on which a job will stand at the boundary of turn t, if it is admitted then: an admission, a change or a removal that is
pending for that boundary or an earlier one counts as done (R80). -/
def State.jobThen (s : State) (t j : Nat) : Option Blob :=
  let x := s.job j
  let due : Bool := s.jobs.waiting.any (fun w => decide (w.job = j) && decide (w.turn ≤ t))
  match x.state with
  | .admitting => if due then some x.nextRec else none
  | .modifying => if due then some x.nextRec else some x.rec_
  | .removing => if due then none else some x.rec_
  | .admitted => some x.rec_
  | _ => none

/-- The partitions with a job that is admitted at the boundary of turn t (R80). -/
def State.busyParts (s : State) (t : Nat) : List Nat := s.liveJobs.filterMap (fun j => (s.jobThen t j).map (fun b => b.byte 3))

/-- The largest value of a quota over the jobs that are admitted at the boundary of turn t (R80). -/
def State.quotaHeld (s : State) (t : Nat) (f : Blob → Nat) : Nat :=
  (s.liveJobs.filterMap (s.jobThen t)).foldl (fun m b => max m (f b)) 0

/-- A lathe of the fused map is in service: its domain has not gone FAILED, or a spare has taken its logical number (R80). -/
def State.latheCounts (s : State) (k : Nat) : Bool :=
  s.fuses.latheRole (k / 5) (k % 5) = 0 && !s.ltdOff (k / 5) && (s.domState (domLathe k) ≠ 5 || s.logical k = 0xFF)

/-- The lathes of a partition's dies that count as in service. -/
def State.lathesInService (s : State) (p : Plane) (q : Nat) : Nat :=
  ((List.range 120).filter (fun k => bitOf (p.latheDies q) (k / 5) && s.latheCounts k)).length

/-- The lathe pool to which firmware has assigned a logical lathe: 32 partition + pool (R426). -/
def State.lathePool (s : State) (n : Nat) : Option Nat := s.img.pools.get (fun _ => none) n

/-- The lathes of pool k of partition q that hold resident contexts. -/
def State.poolHolding (s : State) (q k : Nat) : Nat :=
  ((List.range 120).filter (fun l => decide (s.residents l ≠ []) && decide (s.logical l ≠ 0xFF)
    && decide (s.lathePool (s.logical l) = some (32 * q + k)))).length

/-- LATHES of pool k of partition q; 0 for a pool that the plane does not have (R426). -/
def Plane.poolSizeOf (p : Plane) (q k : Nat) : Nat := if p.partDefined q && k < p.lathePoolCount q then p.poolLathes q k else 0

/-- The logical lathes on the lathe dies of partition q, ascending. -/
def State.partLogicals (s : State) (p : Plane) (q : Nat) : List Nat :=
  (((List.range 120).filter (fun l => bitOf (p.latheDies q) (l / 5))).map s.logical).filter (fun n => decide (n < 0xFF))

/-- The logical lathes that pool k of partition q takes, of those that no pool has taken yet: first its own that hold contexts, then its
others, then the lowest that are free. R426 leaves the choice to firmware and names no order (DESIGN CHOICE, log 19). -/
def State.takeLathes (s : State) (p : Plane) (q k : Nat) (taken : Tbl (Option Nat)) : Tbl (Option Nat) :=
  let free := (s.partLogicals p q).filter (fun n => taken.get (fun _ => none) n = none)
  let own (n : Nat) : Bool := decide (s.lathePool n = some (32 * q + k))
  let busy (n : Nat) : Bool := (List.range 120).any (fun l => decide (s.logical l = n) && decide (s.residents l ≠ []))
  let ranked := free.filter (fun n => own n && busy n) ++ free.filter (fun n => own n && !busy n)
    ++ free.filter (fun n => (s.lathePool n).isNone) ++ free.filter (fun n => !own n && (s.lathePool n).isSome)
  (ranked.take (p.poolSizeOf q k)).foldl (fun (t : Tbl (Option Nat)) n => t.set (fun _ => none) n (some (32 * q + k))) taken

/-- Firmware assigns the logical lathes of every partition to its pools when a plane activates, no lathe to two (R426). -/
def State.assignPools (s : State) (p : Plane) : Tbl (Option Nat) :=
  (List.range 16).foldl (fun (t : Tbl (Option Nat)) q =>
    (List.range (p.lathePoolCount q)).foldl (fun (t : Tbl (Option Nat)) k => s.takeLathes p q k t) t) []

/-- Whether a port that is up keeps WIDTH, PERSONALITY, RATE and ADMIN_UP. -/
def portKept (old new : Plane) (p : Nat) : Bool :=
  let d := p / 32
  let l := p % 32
  old.width d l = new.width d l && old.personality d l = new.personality d l && old.rate100 d l = new.rate100 d l && new.adminUp d l

/-- The live checks of a plane against the part's running state, with target turn t: true when they pass (R80, R83). -/
def State.liveOk (s : State) (new : Plane) (t : Nat) : Bool :=
  match s.img.active with
  | none => true
  | some old =>
    let busy := s.busyParts t
    (List.range 32).all (fun d => match old.partOfPort d with
      | some q => decide (new.partOfPort d = some q) || !busy.contains q
      | none => true)
      && (List.range 24).all (fun d => match old.partOfLathe d with
        | some q => decide (new.partOfLathe d = some q) || !busy.contains q
        | none => true)
      && (List.range 1024).all (fun p => !s.portUp p || portKept old new p)
      && (List.range 64).all (fun k =>
        decide (s.poolOcc k ≤ if new.poolPart k = 0xFF then 0 else new.poolField k 0))
      && (List.range 2048).all (fun i => decide (s.reqUsed i ≤ if new.reqPool i = 0xFF then 0 else new.reqQuota i))
      && decide (s.quotaHeld t jobQGrains ≤ new.maxGrains) && decide (s.quotaHeld t jobQPolicers ≤ new.maxPolicers)
      && decide (s.quotaHeld t jobQSlot ≤ new.maxSlot) && decide (s.quotaHeld t jobQContexts ≤ new.maxContexts)
      && decide (s.quotaHeld t (fun b => jobQBytes b 1) ≤ new.maxNtBytes)
      && (List.range 16).all (fun q => (List.range 32).all (fun k => decide (s.poolHolding q k ≤ new.poolSizeOf q k)))
      && (List.range 16).all (fun q => !new.partDefined q || decide (new.lathesAsked q ≤ s.lathesInService new q))

/-! ## Commands (R72, R76) -/

/-- CHECK (R76). -/
def State.imgCheck (s : State) : State := if s.imgState = 2 then s.setImgState 3 else s.imgRefuse

/-- The turn that a 32-bit TARGET_TURN names, from the current turn on. -/
def State.turnNamed (s : State) (t : Nat) : Nat := s.tb.turn + (t + 2 ^ 32 - s.tb.turn % 2 ^ 32) % 2 ^ 32

/-- ARM, TARGET_TURN being stored first (R72, R76): within 3 to 2^20 turns, and with the live checks passed. -/
def State.imgArm (s : State) (target term : Nat) : State :=
  let s := s.setFld R.svImgCtl F.SvImgCtl.targetTurn (target % 2 ^ 32)
  let t := s.turnNamed (target % 2 ^ 32)
  if s.imgState = 4 && s.tb.turn + 3 ≤ t && t ≤ s.tb.turn + 2 ^ 20 then
    match s.img.shadow with
    | none => s.imgRefuse
    | some p =>
      if s.liveOk p t then
        (s.withImg (fun i => { i with
          target := target % 2 ^ 32, armTerm := term, armTick := s.tb.tick, ready := [], commits := [] })).setImgState 5
      else (s.imgFail 0x11 0xFFFF 0).imgRefuse
  else s.imgRefuse

/-- CANCEL of the plane (R76): accepted while ARMED, FAIL unchanged. -/
def State.imgCancel (s : State) : State := if s.imgState = 5 then s.setImgState 4 else s.imgRefuse

/-- DISCARD (R76). -/
def State.imgDiscard (s : State) : State :=
  if s.imgState = 2 || s.imgState = 4 || s.imgState = 8 then
    (s.withImg (fun i => { i with loaded := Blob.empty, shadow := none })).setImgState 0
  else s.imgRefuse

/-- A plane command through the supervisor's fence (R72). -/
def State.imgCommand (s : State) (w : Writer) (go : State → State) : State := s.fenced w (writerDie w) R.svImgCtl go

/-- CHECK. -/
def execCheck (w : Writer) (s : State) : Host.Outcome State Fault Refusal := .next (s.imgCommand w State.imgCheck)
/-- ARM. -/
def execArm (w : Writer) (target : Nat) (s : State) : Host.Outcome State Fault Refusal :=
  let term := match w with
    | .fw _ t => t.getD 0
    | .host _ => 0
  .next (s.imgCommand w (fun s => s.imgArm target term))
/-- CANCEL. -/
def execCancel (w : Writer) (s : State) : Host.Outcome State Fault Refusal := .next (s.imgCommand w State.imgCancel)
/-- DISCARD. -/
def execDiscard (w : Writer) (s : State) : Host.Outcome State Fault Refusal := .next (s.imgCommand w State.imgDiscard)

/-! ## Boot-flash copies, as far as the first image needs them (R403, R404) -/

/-- The bytes of a boot-flash copy: 0 A, 1 B. -/
def State.flashRead (s : State) (copy a n : Nat) : Blob := ⟨n, memRead (if copy = 0 then s.side.flashA else s.side.flashB) a n⟩

/-- Bytes in a boot-flash device: 1 Gib (R403). -/
def flashBytes : Nat := 2 ^ 27

/-- The first 768 bytes of a copy's boot record. -/
def State.bootRec (s : State) (copy : Nat) : Blob := s.flashRead copy 0 768

/-- Whether a copy's boot record is valid (R403). -/
def State.bootValid (s : State) (copy : Nat) : Bool :=
  let b := s.bootRec copy
  let sig := s.flashRead copy 768 7424
  let msg := blobPut b 8 1 0
  let fits (o n top : Nat) : Bool := decide (n ≤ top) && decide (o + n ≤ flashBytes)
  b.le 0 4 = 0x52425849 && s.fuses.keyOk (b.byte 9) sig && s.fuses.minSec ≤ b.le 10 2 && sigEcdsa msg sig && sigMlDsa msg sig
    && fits (b.le 16 4) (b.le 20 4) (2 ^ 21) && fits (b.le 24 4) (b.le 28 4) (64 * 2 ^ 20)
    && fits (b.le 32 4) (b.le 36 4) (60 * 2 ^ 20)

/-- Write STAGE, with the ms from t0 (R407). -/
def State.setStage (s : State) (n : Nat) : State :=
  (s.setFld R.glbBoot F.GlbBoot.stage n).setFld R.glbBoot F.GlbBoot.elapsedMs
    (min ((s.tb.tick - s.boot.stepped) / 1000000) 0xFFFF)

/-- STAGE of the start. -/
def State.stage (s : State) : Nat := s.fld R.glbBoot F.GlbBoot.stage

/-- A failure of the start: FAIL, and an ERR record of SEV 2 by the keepers (R408). -/
def State.bootFail (s : State) (code : Nat) : State := (s.setFld R.glbBoot F.GlbBoot.fail code).keeperRec 2 0xFF code

/-- Firmware copies the image of a boot-flash copy into the shadow plane (R405 step 8): LOADED. -/
def State.loadFlashImage (s : State) (copy : Nat) : State :=
  let b := s.bootRec copy
  let n := b.le 36 4
  (s.beginImage n (1 + copy)).addImage (s.flashRead copy (b.le 32 4) n)

/-- The first image from the copies not tried yet, the running one first; WAIT_IMAGE when none is left (R405, R408). -/
def State.nextFlashImage (s : State) (tried : List Nat) : State :=
  let run := s.fld R.glbBoot F.GlbBoot.copy
  let has (c : Nat) : Bool := !tried.contains c && s.bootValid c && decide ((s.bootRec c).le 36 4 ≠ 0)
  match [run, 1 - run].find? has with
  | some c => s.loadFlashImage c
  | none => (s.bootFail 8).setStage 7

/-- CHECK_COMPLETE (R77, R78): the checks in order. At a start, the image of the other copy is tried after one that failed (R408). -/
def execCheckComplete (s : State) : Host.Outcome State Fault Refusal :=
  if s.imgState ≠ 3 then .next s
  else
    match checkImage s s.runningMajor s.img.loaded with
    | some f =>
      let src := s.img.loadSrc
      let s := (s.imgFail f.code f.sect f.entry).setImgState 8
      .next (if s.stage = 6 && src < 3 then
        let other := 2 - src
        if s.boot.imgTried then (s.bootFail 8).setStage 7
        else ({ s with boot := { s.boot with imgTried := true } }).nextFlashImage [1 - other]
      else s)
    | none =>
      let p := composePlane s.img.active s.img.loadSrc s.img.loaded
      let s := (s.withImg (fun i => { i with shadow := some p })).setImgState 4
      .next (if s.liveOk p s.tb.turn then s.imgFail 0 0 0 else s.imgFail 0x11 0xFFFF 0)

/-! ## Staging and COMMIT (R81) -/

/-- The dies that stage: every enabled die that has not failed. -/
def State.stagers (s : State) : List Nat := (List.range 100).filter (fun d => s.dieEnabled d && !(s.die d).failed)

/-- STAGING_READY (R81 step 2): a die holds its slice of the shadow plane, or while the seam heals that of the plane it is behind
(R369). -/
def execStagingReady (die : Die) (s : State) : Host.Outcome State Fault Refusal :=
  let d := die.val
  let s : State := if s.sup.seam = .healing && (s.keptPlane d).isSome && !s.sup.healReady.contains d then
      { s with sup := { s.sup with healReady := s.sup.healReady ++ [d] } }
    else s
  if s.imgState = 5 && s.dieEnabled d && !s.img.ready.contains d then
    .next (s.withImg (fun i => { i with ready := i.ready ++ [d] }))
  else .next s

/-- Whether messages pass between two halves. -/
def State.halvesJoined (s : State) (a b : Nat) : Bool := s.sup.seam ≠ .cut || a = b

/-- The first tick of turn t, counted from the current turn on in the length now in force (R91). -/
def State.turnTick (s : State) (t : Nat) : Nat :=
  let ticks := max s.tb.ticks 1
  let last := s.tb.tick - (s.tb.tick - s.tb.origin) % ticks
  last + (t - s.tb.turn) * ticks

/-- COMMIT (R81 steps 2 and 3, R83): issued by a supervisor under its term after the staging boundary, no later than 5 µs before T.
Each die that it reaches takes it through its fence and holds it under a stamp later than its sender's (R94). A term other than that of the ARM ends the activation with 0x13. -/
def execCommit (sv : Sv) (term : Nat) (s : State) : Host.Outcome State Fault Refusal :=
  let t := s.turnNamed s.img.target
  if s.imgState ≠ 5 || s.tb.turn + 1 ≠ t || s.turnTick t < s.tb.tick + 5000 then .next s
  else if term ≠ s.img.armTerm then .next ((s.imgFail 0x13 0xFFFF 0).setImgState 4)
  else
    let s' := s.stagers.foldl (fun (s : State) d =>
      if !s.halvesJoined (dieHalf d) sv.val then s
      else match (s.fence d).judge (s.dieNow d) (some term) with
        | .applied => s.withImg (fun i => { i with
          commits := i.commits ++ [(d, term, causedStamp (s.dieNow d) (s.dieNow (dSup sv.val)))] })
        | v => s.dropWrite (.fw sv (some term)) d 0 v) s
    if s'.img.commits = [] then .next s'
    else
      let len := ((s'.img.shadow).map Plane.turnTicks).getD s'.tb.ticks
      let next := if len = s'.tb.ticks then 0 else len
      .next ((({ s' with tb := { s'.tb with nextTicks := next } }).setFld R.tbTurnLen F.TbTurnLen.nextTicks next).setImgState 6)

/-- The retiring plane's obligations end: CHECKED, holding the previous plane (R76, R81 step 5). -/
def State.endRetire (s : State) : State := (s.withImg (fun i => { i with retire := none })).setImgState 4

/-- RETIRE_REPORT (R81 step 5). -/
def execRetireReport (die : Die) (s : State) : Host.Outcome State Fault Refusal :=
  match s.img.retire with
  | none => .next s
  | some r =>
    let left := r.left.erase die.val
    let s := s.withImg (fun i => { i with retire := some { r with left := left } })
    .next (if left = [] then s.endRetire else s)

/-- RETIRE_TIMEOUT (R81 step 5): the retiring plane's MAX_RES_MS has passed since the swap. -/
def execRetireTimeout (s : State) : Host.Outcome State Fault Refusal :=
  match s.img.retire with
  | none => .next s
  | some r => .next (if r.swapTick + 1000000 * r.maxResMs ≤ s.tb.tick then s.endRetire else s)

/-! ## The boundary (R81 steps 2, 4 and 5) -/

/-- An activation that ends at a boundary without a swap. -/
def State.cancelArm (s : State) (code sect entry : Nat) : State :=
  let s := (s.imgFail code sect entry).setImgState 4
  ({ s with tb := { s.tb with nextTicks := 0 } }).setFld R.tbTurnLen F.TbTurnLen.nextTicks 0

/-- The staging boundary T - 1 (R81 step 2, R83). -/
def State.stagingCheck (s : State) : State :=
  match s.stagers.find? (fun d => !s.img.ready.contains d) with
  | some d => s.cancelArm 0x12 0xFFFF d
  | none =>
    match s.img.shadow with
    | none => s
    | some p => if s.liveOk p (s.tb.turn + 1) then s else s.cancelArm 0x11 0xFFFF 0

/-- The dies that hold a COMMIT of their fence's current term (R81 step 4). -/
def State.swappers (s : State) : List Nat :=
  (s.img.commits.filter (fun c => decide ((s.fence c.1).term = c.2.1))).map (fun c => c.1)

/-- No packet with a stamp before this tick is left in the part: MAX_RES_MS is at most 100 (R65). -/
def oldStamp (now t : Nat) : Bool := decide (t + 100000000 < now)

/-- The planes change places: the new one is active, the old one retires, and every die that does not swap keeps its own (R81, R82). -/
def State.swapImg (s : State) (new : Plane) : State :=
  let old := s.img.active
  let now := s.tb.tick
  let sw := s.swappers
  let swaps (d : Nat) : Bool := sw.contains d
  let kept := (s.img.behind.filter (fun e => !oldStamp now (e.till.getD now))).map (fun e =>
    if e.till.isNone && swaps e.die then { e with till := some now } else e)
  let late := (s.stagers.filter (fun d => !swaps d && (s.keptPlane d).isNone)).map (fun d => (⟨d, now, none, s.plane⟩ : Kept))
  let past := match old with
    | some p => (now, p) :: s.img.past.filter (fun e => !oldStamp now e.1)
    | none => s.img.past
  let pools := s.assignPools new
  s.withImg (fun i => { i with
    active := some new, actTick := now, shadow := old, commits := [], ready := [], behind := kept ++ late, past := past, pools := pools
    retire := old.map (fun p => ⟨s.stagers, now, p.maxResMs⟩) })

/-- A new turn length starts at the boundary of the swap; the planned one is spent (R76, R91). -/
def State.swapTurn (s : State) (new : Plane) : State :=
  let now := s.tb.tick
  let s := if new.turnTicks = s.tb.ticks then s else
    (({ s with tb := { s.tb with ticks := new.turnTicks, origin := now } }).setFld R.tbTurnLen F.TbTurnLen.ticks new.turnTicks).wr
      R.tbOrigin (BitVec.ofNat 64 now)
  let s := ({ s with tb := { s.tb with nextTicks := 0, planeEver := true } }).setFld R.tbTurnLen F.TbTurnLen.nextTicks 0
  s.setFld R.tbStat F.TbStat.stepAllowed 0

/-- SV_IMG_ACT names the activation (R74). -/
def State.swapAct (s : State) (new : Plane) : State :=
  let gen := (s.fld R.svImgAct F.SvImgAct.generation + 1) % 2 ^ 16
  ((s.setFld R.svImgAct F.SvImgAct.actTurn (s.tb.turn % 2 ^ 32)).setFld R.svImgAct F.SvImgAct.generation gen).setFld R.svImgAct
    F.SvImgAct.actSec new.secVersion

/-- The swap itself, after which FAIL reads 0x00 on the leader's side of a cut seam (R83): planes, SV_IMG_ACT, turn length, VOTE_BRIDGE,
GLB_BOOT (R74, R76, R81, R82, R91). -/
def State.swapPlanes (s : State) (new : Plane) : State :=
  let t := (s.swapImg new).setImgState (if s.img.active.isSome then 7 else 0)
  let t := if t.sup.seam = .cut then t.imgFail 0 0 0 else t
  let t := (t.swapAct new).swapTurn new
  let t : State := { t with sup := { t.sup with vbridge := new.voteBridge } }
  let t := t.setFld R.glbBoot F.GlbBoot.imageSrc new.src
  if t.stage = 8 then t else t.setStage 8

/-- The fuses that are blown after the swap: with COMMIT_SEC, MIN_SEC; the revoke fuses of REVOKE_MASK on every activation (R65, R68). -/
def State.blowFuses (s : State) (p : Plane) : State :=
  { s with fuses := { s.fuses with
    minSec := if p.commitSec then max s.fuses.minSec p.secVersion else s.fuses.minSec
    revoked := s.fuses.revoked ||| p.revokeMask } }

/-- Every slot of every lathe of some lathe dies is planned empty when a plane activates there, until firmware fills it (R426). -/
def State.emptySlots (s : State) (on : Nat → Bool) : State :=
  ((List.range 120).filter (fun k => on (dLathe (k / 5)))).foldl (fun (s : State) k =>
    (List.range 16).foldl (fun (s : State) i =>
      let r := ltSlot k i
      (s.setFld r F.LtSlot.validNext 0).setFld r F.LtSlot.ctxNext 0) s) s

/-- What the planes do at a boundary: the staging check, or the swap; an activation that no COMMIT reached in time ends with 0x12,
and one whose term has passed with 0x13 (R83). -/
def State.planeBoundary (s : State) : State :=
  let due : Bool := decide (s.tb.turn % 2 ^ 32 = s.img.target)
  let passed : Bool := (List.range 100).any (fun d => decide (s.img.armTerm < (s.fence d).term))
  match s.imgState with
  | 5 =>
    if passed then s.cancelArm 0x13 0xFFFF 0
    else if (s.tb.turn + 1) % 2 ^ 32 = s.img.target then s.stagingCheck
    else if due then s.cancelArm 0x12 0xFFFF 0
    else s
  | 6 =>
    if !due then s
    else if s.swappers = [] then s.cancelArm 0x13 0xFFFF 0
    else match s.img.shadow with
      | none => s
      | some p =>
        let s := s.swapPlanes p
        (s.emptySlots (fun d => (s.keptPlane d).isNone)).blowFuses p
  | _ => s

end Sys2Proof.Machine
end

