-- ==== Sys2Proof/Machine/Supervision.lean ====
section
/-! DEFINITION. The lease, its voters and their notices, handover, restarts of the supervisors, and the seam (R361 to R374, R386,
R389). -/

namespace Sys2Proof.Machine

/-! ## Who reaches whom (R361, R368) -/

/-- The die of a voter: the keepers and the voting bridge. -/
def State.voterDie (s : State) (v : Nat) : Nat :=
  if v = 0 then dKeeper 0 else if v = 1 then dKeeper 1 else dBridge s.sup.vbridge

/-- Whether two dies that work can exchange messages: across a cut seam they cannot. -/
def State.reaches (s : State) (a b : Nat) : Bool :=
  !(s.die a).failed && !(s.die b).failed && (s.sup.seam ≠ .cut || dieHalf a = dieHalf b)

/-- The voters that die d reaches. -/
def State.votersOf (s : State) (d : Nat) : List Nat := (List.range 3).filter (fun v => s.reaches d (s.voterDie v))

/-- Change leadership and supervision. -/
def State.withSup (s : State) (f : SupSt → SupSt) : State := { s with sup := f s.sup }

/-- Change a voter. -/
def State.setVoter (s : State) (v : Nat) (f : Voter → Voter) : State :=
  s.withSup (fun u => { u with voters := u.voters.modify (fun _ => ⟨0, 0xF, 0⟩) v f })

/-- STATE of a supervisor (R370): 0 OFF, 1 BOOTING, 2 SYNCING, 3 READY, 4 LEADER, 5 FAILED. -/
def State.svState (s : State) (v : Nat) : Nat := s.fld (R.glbSvStat v) F.GlbSvStat.state

/-- Write STATE of a supervisor. -/
def State.setSvState (s : State) (v n : Nat) : State := s.setFld (R.glbSvStat v) F.GlbSvStat.state n

/-- The lease: 2,000,000 ticks from each grant or renewal (R361). -/
def leaseTicks : Nat := 2000000

/-! ## Requests to the voters (R362) -/

/-- A voter answers one request: granted where ok, and then changed. -/
def State.askVoter (s : State) (sv term : Nat) (ok : Voter → Nat → Bool) (grant : Voter → Nat → Voter) (v : Nat) : State :=
  let now := s.dieNow (s.voterDie v)
  let g := ok (s.voter v) now
  let s := if g then s.setVoter v (fun x => grant x now) else s
  s.emit (.voteReply v sv term g)

/-- The voters that supervisor sv reaches and that grant its request. -/
def State.granters (s : State) (sv : Nat) (ok : Voter → Nat → Bool) : List Nat :=
  (s.votersOf (dSup sv)).filter (fun v => ok (s.voter v) (s.dieNow (s.voterDie v)))

/-- A request reaches every voter that supervisor sv reaches. -/
def State.askVoters (s : State) (sv term : Nat) (ok : Voter → Nat → Bool) (grant : Voter → Nat → Voter) : State :=
  (s.votersOf (dSup sv)).foldl (fun (s : State) v => s.askVoter sv term ok grant v) s

/-- Count a request that a majority refused (R366). -/
def State.countRefused (s : State) (asked granted : Nat) : State :=
  if granted + 2 ≤ asked then s.count R.svLeaseLog F.SvLeaseLog.refused else s

/-- The first boundary at least 20 µs from now (R364). -/
def State.noticeTurn (s : State) : Nat :=
  let next := s.turnTick (s.tb.turn + 1)
  if s.tb.tick + 20000 ≤ next then s.tb.turn + 1
  else s.tb.turn + 1 + (s.tb.tick + 20000 - next + max s.tb.ticks 1 - 1) / max s.tb.ticks 1

/-- Supervisor sv leads: its STATE is LEADER, and the other, if it led, is READY (R370). -/
def State.takeLead (s : State) (sv : Nat) : State :=
  let s := if s.svState (1 - sv) = 4 then s.setSvState (1 - sv) 3 else s
  s.setSvState sv 4

/-- A lease gained during a start (R405 steps 6 to 8): never-fused map entries are logged (R28), GRADE is checked (R8), and
the first image is copied if both tiers have trained. -/
def State.startLeased (s : State) : State :=
  if s.stage ≠ 5 then s
  else
    let s := s.setStage 6
    let bad := (List.range 72).filter (fun d =>
      (d < 32 && s.fuses.ptdBad d) || (32 ≤ d && d < 56 && s.fuses.ltdBad (d - 32)) || (56 ≤ d && s.fuses.bchBad (d - 56)))
    let s := bad.foldl (fun (s : State) d => s.keeperRec 2 d 0) s
    if s.fuses.grade = 0 || 3 < s.fuses.grade then (s.bootFail 2).setStage 9
    else if s.boot.nearDone && s.boot.farDone && s.imgState = 0 then s.nextFlashImage [] else s

/-- Supervisor sv asks for a new term (R362). Gaining two votes makes it the leader of a term that the fences adopt at the first
boundary at least 20 µs later (R364); failing to, it backs off for between 20 and 50 µs (R363). -/
def State.campaign (s : State) (sv term : Nat) : State :=
  let ok (v : Voter) (now : Nat) : Bool := decide (v.promised < term) && (decide (v.expiry + 10000 < now) || decide (v.holder = sv))
  let led := (List.range 3).any (fun v => decide ((s.voter v).promised ≠ 0))
  let live := s.leader
  let asked := (s.votersOf (dSup sv)).length
  let granted := (s.granters sv ok).length
  let s := s.askVoters sv term ok (fun _ now => ⟨term, sv, now + leaseTicks⟩)
  let s := s.countRefused asked granted
  if 2 ≤ granted then
    let s := s.count R.svLeaseLog F.SvLeaseLog.terms
    let s := if led && live.isNone then s.count R.svLeaseLog F.SvLeaseLog.failovers else s
    let turn := s.noticeTurn
    let s := s.withSup (fun u => { u with adoptTurn := turn, backoff := u.backoff.set (fun _ => none) sv none })
    (s.takeLead sv).startLeased
  else
    let (w, s) := s.free
    s.withSup (fun u => { u with
      backoff := u.backoff.set (fun _ => none) sv (some (s.tb.tick + 20000 + w.toNat % 30001)) })

/-- CAMPAIGN (R362, R366). -/
def execCampaign (sv : Sv) (term : Nat) (s : State) : Host.Outcome State Fault Refusal := .next (s.campaign sv.val term)

/-- A renewal reaches the fences at once (R364): each fence of that term that two of the voters reach takes the new expiry. -/
def State.renewFences (s : State) (term : Nat) (by_ : List Nat) : State :=
  (List.range 100).foldl (fun (s : State) d =>
    let vs := by_.filter (fun v => s.reaches d (s.voterDie v))
    if (s.fence d).term = term && 2 ≤ vs.length then s.setFence d (fun f => { f with expiry := s.tb.tick + leaseTicks })
    else s) s

/-- RENEW (R362, R364). -/
def execRenew (sv : Sv) (term : Nat) (s : State) : Host.Outcome State Fault Refusal :=
  let ok (v : Voter) (_ : Nat) : Bool := decide (v.promised = term) && decide (v.holder = sv.val)
  let asked := (s.votersOf (dSup sv.val)).length
  let g := s.granters sv.val ok
  let s := s.askVoters sv.val term ok (fun v now => { v with expiry := now + leaseTicks })
  .next ((s.countRefused asked g.length).renewFences term g)

/-- The lease of term t ends now (R362): its voters' expiry, the fences that hold it, and STATE of its holder. -/
def State.resign (s : State) (sv term : Nat) : State :=
  let ok (v : Voter) (_ : Nat) : Bool := decide (v.promised = term) && decide (v.holder = sv)
  let asked := (s.votersOf (dSup sv)).length
  let g := s.granters sv ok
  let s := s.askVoters sv term ok (fun v now => { v with expiry := now })
  let s := s.countRefused asked g.length
  if 2 ≤ g.length then
    let s := (List.range 100).foldl (fun (s : State) d =>
      if (s.fence d).term = term then s.setFence d (fun f => { f with expiry := min f.expiry s.tb.tick }) else s) s
    if s.svState sv = 4 then s.setSvState sv 3 else s
  else s

/-- RESIGN (R362). -/
def execResign (sv : Sv) (term : Nat) (s : State) : Host.Outcome State Fault Refusal := .next (s.resign sv.val term)

/-! ## Notices and the fences (R362, R364) -/

/-- Store a voter's notice at a fence in place of an older one of the same voter. -/
def Fence.note (f : Fence) (v term expiry turn : Nat) : Fence :=
  { f with notices := (v, term, expiry, turn) :: f.notices.filter (fun n => decide (n.1 ≠ v)) }

/-- The notices of a term that a fence holds. -/
def Fence.notesOf (f : Fence) (term : Nat) : List (Nat × Nat × Nat × Nat) := f.notices.filter (fun n => decide (n.2.1 = term))

/-- The earliest expiry among notices. -/
def notesExpiry (l : List (Nat × Nat × Nat × Nat)) : Nat := leastOf (l.map (fun n => n.2.2.1))

/-- TERM_NOTICE (R362, R364): die d hears from a voter that reaches it. Its fence keeps a notice of a higher term for its boundary; two
notices of the term in force renew the expiry at once. A die that holds a vote adopts a term that two voters hold, at or above
its own. -/
def execTermNotice (die : Die) (voter : Fin 3) (s : State) : Host.Outcome State Fault Refusal :=
  let d := die.val
  let v := voter.val
  let x := s.voter v
  if x.promised = 0 || !s.reaches (s.voterDie v) d then .next s
  else
    let s := if x.promised < (s.fence d).term then s
      else
        let s := s.setFence d (fun f => f.note v x.promised x.expiry s.sup.adoptTurn)
        let f := s.fence d
        let same := f.notesOf f.term
        if 2 ≤ same.length then s.setFence d (fun f => { f with expiry := notesExpiry same }) else s
    let own := (List.range 3).filter (fun u => decide (u ≠ v) && decide (s.voterDie u = d))
    .next (own.foldl (fun (s : State) u =>
      if 2 ≤ (s.backers v).length && (s.voter u).promised ≤ x.promised then s.setVoter u (fun _ => x) else s) s)

/-- At a boundary every fence adopts the highest term of which it holds two notices that name this boundary or an earlier one. -/
def State.adoptTerms (s : State) : State :=
  (List.range 100).foldl (fun (s : State) d =>
    let f := s.fence d
    let due := f.notices.filter (fun n => decide (f.term < n.2.1) && decide (n.2.2.2 ≤ s.tb.turn))
    match due.find? (fun n => 2 ≤ ((due.filter (fun m => decide (m.2.1 = n.2.1))).length)) with
    | some n =>
      let t := n.2.1
      s.setFence d (fun f => ⟨t, notesExpiry (f.notesOf t), f.notices.filter (fun m => decide (t ≤ m.2.1))⟩)
    | none => s) s

/-! ## Handover and restarts (R370, R371, R374) -/

/-- Refuse a supervisor command. -/
def State.svRefuse (s : State) : State := s.setFld R.glbSvCtl F.GlbSvCtl.cmdRefused 1

/-- A supervisor command through the keepers' fence. -/
def State.svCommand (s : State) (w : Writer) (go : State → State) : State := s.fenced w s.glbDie R.glbSvCtl go

/-- HANDOVER to successor n at the turn with these low 32 bits (R370). A voter takes part while it holds the leader's term and T lies
more than 10 µs ahead; with fewer than two the handover lapses (R374). -/
def State.handover (s : State) (n turn : Nat) : State :=
  let t := s.turnNamed (turn % 2 ^ 32)
  let stajaMin := match s.img.active with
    | some p => p.stajaMin
    | none => 0
  if 2 ≤ n || s.svState n ≠ 3 || t < s.tb.turn + 3 || s.tb.turn + 2 ^ 20 < t || s.fld (R.glbSvStat n) F.GlbSvStat.major < stajaMin
      || s.imgState = 5 || s.imgState = 6 then s.svRefuse
  else match s.majority with
    | none => s.svRefuse
    | some (term, h, _) =>
      let vs := (s.votersOf (dSup h)).filter (fun v =>
        decide ((s.voter v).promised = term) && decide ((s.voter v).holder = h) && decide (s.tb.tick + 10000 < s.turnTick t))
      if vs.length < 2 then s.count R.svLeaseLog F.SvLeaseLog.refused
      else s.withSup (fun u => { u with handover := some ⟨n, t, term, vs⟩ })

/-- HANDOVER. -/
def execHandover (w : Writer) (sv turn : Nat) (s : State) : Host.Outcome State Fault Refusal :=
  .next (s.svCommand w (fun s => s.handover sv turn))

/-- CANCEL_HANDOVER (R370). -/
def State.cancelHandover (s : State) : State :=
  match s.sup.handover with
  | some h => if s.turnTick h.turn < s.tb.tick + 10000 then s.svRefuse else s.withSup (fun u => { u with handover := none })
  | none => s.svRefuse

/-- CANCEL_HANDOVER. -/
def execCancelHandover (w : Writer) (s : State) : Host.Outcome State Fault Refusal := .next (s.svCommand w State.cancelHandover)

/-- A supervisor boots again from a copy (R371, R389). -/
def State.svBoot (s : State) (v copy : Nat) : State :=
  if (s.die (dSup v)).failed then s
  else
    let r := R.glbSvStat v
    let s := ((s.setSvState v 1).setFld r F.GlbSvStat.copy copy).count r F.GlbSvStat.restarts
    s.withSup (fun u => { u with backoff := u.backoff.set (fun _ => none) v none })

/-- RESTART of supervisor n (R370, R371): refused for the current holder. -/
def State.svRestart (s : State) (n : Nat) (copyB : Bool) : State :=
  if 2 ≤ n || s.majority.any (fun m => decide (m.2.1 = n)) then s.svRefuse else s.svBoot n (b2n copyB)

/-- RESTART. -/
def execSvRestart (w : Writer) (sv : Nat) (copyB : Bool) (s : State) : Host.Outcome State Fault Refusal :=
  .next (s.svCommand w (fun s => s.svRestart sv copyB))

/-- A supervisor has failed (R374, R395): a handover to it is cancelled, and the log says so. -/
def State.svFailed (s : State) (v : Nat) : State :=
  let s := s.setSvState v 5
  let s := s.withSup (fun u => { u with
    handover := match u.handover with
      | some h => if h.sv = v then none else some h
      | none => none })
  s.keeperRec 2 (dSup v) 0

/-- SUPERVISOR_READY (R371, R405 step 6): a booting supervisor, its firmware loaded, ends its checks: READY under the version of its
copy, or FAILED. -/
def execSupervisorReady (sv : Sv) (ok : Bool) (s : State) : Host.Outcome State Fault Refusal :=
  let v := sv.val
  if (s.svState v = 1 || s.svState v = 2) && s.boot.mainDone then
    if ok then
      let r := R.glbSvStat v
      let b := s.bootRec (s.fld r F.GlbSvStat.copy)
      .next ((((s.setSvState v 3).setFld r F.GlbSvStat.major (b.byte 12)).setFld r F.GlbSvStat.minor (b.byte 13)).setFld r
        F.GlbSvStat.patch (b.le 14 2))
    else .next (s.svFailed v)
  else .next s

/-- What a handover does at its boundary (R362, R374): the voters that took part and still hold the term pass it on, and the fences that
two of them reach take it; with fewer than two it lapses. -/
def State.handoverBoundary (s : State) : State :=
  match s.sup.handover with
  | none => s
  | some h =>
    if s.tb.turn < h.turn then s
    else
      let s := s.withSup (fun u => { u with handover := none })
      let vs := h.voters.filter (fun v => decide ((s.voter v).promised = h.term) && !(s.die (s.voterDie v)).failed)
      if vs.length < 2 then s.count R.svLeaseLog F.SvLeaseLog.refused
      else
        let e := s.tb.tick + leaseTicks
        let s := vs.foldl (fun (s : State) v => s.setVoter v (fun _ => ⟨h.term + 1, h.sv, e⟩)) s
        let s := (List.range 100).foldl (fun (s : State) d =>
          let near := vs.filter (fun v => s.reaches d (s.voterDie v))
          if 2 ≤ near.length && (s.fence d).term ≤ h.term then s.setFence d (fun f => { f with term := h.term + 1, expiry := e })
          else s) s
        ((s.count R.svLeaseLog F.SvLeaseLog.handovers).count R.svLeaseLog F.SvLeaseLog.terms).takeLead h.sv

/-! ## The lease runs out; back-off ends (R361, R363, R367) -/

/-- LEASE_EXPIRY: once the majority's expiry has passed no supervisor leads. -/
def execLeaseExpiry (s : State) : Host.Outcome State Fault Refusal :=
  if s.leader.isSome then .next s
  else
    let drop (s : State) (v : Nat) : State := if s.svState v = 4 then s.setSvState v 3 else s
    .next (drop (drop s 0) 1)

/-- CAMPAIGN_BACKOFF_EXPIRY (R363): a supervisor whose back-off ends campaigns for PROMISED + 1 while no lease is live. -/
def execCampaignBackoffExpiry (sv : Sv) (s : State) : Host.Outcome State Fault Refusal :=
  let v := sv.val
  match s.sup.backoff.get (fun _ => none) v with
  | none => .next s
  | some _ =>
    let s := s.withSup (fun u => { u with backoff := u.backoff.set (fun _ => none) v none })
    if s.leader.isSome then .next s
    else .next (s.campaign v (1 + (s.votersOf (dSup v)).foldl (fun m u => max m (s.voter u).promised) 0))

/-! ## The seam (R368, R369) -/

/-- The two seam bridges. -/
def seamBridges : List Nat := [5, 6]

/-- An event of the seam: recorded in the ERR log and posted (R369, R394). -/
def State.seamEvent (s : State) : State :=
  (s.logAppend { plainRec 0x13 0 0 0xFF s.tb.tick with detail := match s.sup.seam with
    | .joined => 0
    | .cut => 1
    | .healing => 2 }).post (plainEvent 0x0C 0 0)

/-- The half that holds one voter keeps the jobs as they stand at the cut, until the seam has healed (R368, R369). -/
def State.freezeJobs (s : State) : State :=
  if s.jobs.frozen.isSome then s
  else { s with jobs := { s.jobs with frozen := some (1 - dieHalf (dBridge s.sup.vbridge), s.jobs.jobs) } }

/-- The seam is cut (R368): every fence's expiry is truncated to the stamp of the cut, and the notices it holds are void. -/
def State.cutSeam (s : State) : State :=
  if s.sup.seam = .cut then s
  else
    let s := s.withSup (fun u => { u with seam := .cut, healTurn := none, healReady := [] })
    let s := (List.range 100).foldl (fun (s : State) d =>
      if s.fence d = ⟨0, 0, []⟩ then s
      else s.setFence d (fun f => { f with expiry := min f.expiry (s.dieNow d), notices := [] })) s
    s.freezeJobs.seamEvent

/-- SEAM_CUT (R368): both seam bridges drop the transfers in flight across the seam, lost counting them by bridge, as RETRIES. -/
def execSeamCut (lost : List (Fin 12 × Nat)) (s : State) : Host.Outcome State Fault Refusal :=
  let s := lost.foldl (fun (s : State) l =>
    if seamBridges.contains l.1.val then s.countBy (R.brgArbStat l.1.val) F.BrgArbStat.retries l.2 else s) s
  .next s.cutSeam

/-- The catch-up boundary, as far ahead as ARM requires with staging in time (R369, R81). -/
def State.catchUpTurn (s : State) : Nat := s.tb.turn + max 3 (2 + (200000 + max s.tb.ticks 1 - 1) / max s.tb.ticks 1)

/-- SEAM_HEAL (R369): a seam bridge carries traffic again. The minority's fences take the leader's term at the next boundary, and the
leader names a catch-up boundary. -/
def execSeamHeal (s : State) : Host.Outcome State Fault Refusal :=
  if s.sup.seam ≠ .cut || seamBridges.all (fun b => (s.die (dBridge b)).failed) then .next s
  else
    let turn := s.catchUpTurn
    let s := s.withSup (fun u => { u with seam := .healing, healTurn := some turn, healReady := [] })
    let s := match s.majority with
      | none => s
      | some (term, h, _) =>
        let vs := (List.range 3).filter (fun v => decide ((s.voter v).promised = term) && decide ((s.voter v).holder = h))
        let s := (List.range 3).foldl (fun (s : State) u =>
          match vs with
          | v :: _ => if (s.voter u).promised ≤ term then s.setVoter u (fun _ => s.voter v) else s
          | [] => s) s
        (List.range 100).foldl (fun (s : State) d =>
          vs.foldl (fun (s : State) v =>
            if (s.fence d).term < term then s.setFence d (fun f => f.note v term (s.voter v).expiry (s.tb.turn + 1))
            else if (s.fence d).term = term then s.setFence d (fun f => { f with expiry := (s.voter v).expiry })
            else s) s) s
    .next s.seamEvent

/-- What the seam does at its catch-up boundary (R369): JOINED once every die that was behind is staged, and then they swap; else the
leader names a later one. -/
def State.seamBoundary (s : State) : State :=
  match s.sup.healTurn with
  | none => s
  | some t =>
    if s.tb.turn < t then s
    else if s.img.behind.all (fun e => e.till.isSome || s.sup.healReady.contains e.die) then
      let s := s.emptySlots (fun d => (s.keptPlane d).isSome)
      let now := s.tb.tick
      let s := s.withImg (fun i => { i with
        behind := (i.behind.filter (fun e => !oldStamp now (e.till.getD now))).map (fun e => { e with till := some (e.till.getD now) }) })
      let s := { s with jobs := { s.jobs with frozen := none } }
      (s.withSup (fun u => { u with seam := .joined, healTurn := none, healReady := [], joinTick := s.tb.tick })).seamEvent
    else
      let turn := s.catchUpTurn
      s.withSup (fun u => { u with healTurn := some turn })

/-! ## Warm restart (R386, R389) -/

/-- A warm restart: both supervisors boot again from their copies; a lease held is resigned; what was retired until a warm restart
comes back (R384, R389). -/
def State.warmRestart (s : State) : State :=
  let s := match s.majority with
    | some (t, h, _) => if s.leader.isSome then s.resign h t else s
    | none => s
  let s := s.count R.glbEscStat F.GlbEscStat.warmRestarts
  let boot (s : State) (v : Nat) : State := s.svBoot v (s.fld (R.glbSvStat v) F.GlbSvStat.copy)
  let s := boot (boot s 0) 1
  let s := s.withSup (fun u => { u with handover := none })
  let s : State := { s with err := { s.err with retiredGrains := [], retiredCtxs := [] } }
  (s.taken 4 none).post (plainEvent 0x06 4 0)

/-- WARM_RESTART (R389, R391). -/
def execWarmRestart (w : Writer) (s : State) : Host.Outcome State Fault Refusal :=
  .next (s.fenced w s.glbDie R.glbEscCtl State.warmRestart)

/-- The tick up to which a term held a majority: the expiry of the majority there is or, where none stands, the latest expiry that a voter
holds. -/
def State.lastLease (s : State) : Nat :=
  match s.majority with
  | some (_, _, e) => e
  | none => (List.range 3).foldl (fun m v => max m (s.voter v).expiry) 0

/-- NO_LEADER_TIMEOUT (R386, R405 step 6): with the monitor armed and no leader for 100 ms, the keepers start a warm restart. -/
def execNoLeaderTimeout (s : State) : Host.Outcome State Fault Refusal :=
  if s.fld R.glbBoot F.GlbBoot.confirmed = 1 && s.leader.isNone && s.lastLease + 100000000 ≤ s.tb.tick then .next s.capture.warmRestart
  else .next s

end Sys2Proof.Machine
end

