-- ==== Sys2Proof/Machine/Dies.lean ====
section
/-! DEFINITION. Errors that are found, dies that fail, and recovery: scrubbing, hangs, die losses, partition resets, power cycles, dumps
and health scores (R375 to R397). -/

namespace Sys2Proof.Machine

/-! ## Packets and contexts that an error takes (R384, R395) -/

/-- Discard a packet that has left its queue: its grains are released, and the shavings ring takes the drop (R159). -/
def State.discardPkt (s : State) (p : Pkt) : State :=
  (s.captureDrop p 3 0 (some (qKey p.outPort p.tc))).releasePkt p

/-- Discard every queued, released or held packet that satisfies a condition, and mark arriving ones as dropped: their grains are
released. -/
def State.discardPkts (s : State) (bad : Pkt → Bool) : State :=
  let keep (l : List Pkt) : List Pkt := l.filter (fun p => !bad p)
  let s := (s.bench.queues.map Prod.fst).foldl (fun (s : State) q =>
    let l := s.queue q
    (s.setQueue q (keep l)) |> (fun s => (l.filter bad).foldl (fun (s : State) p => s.discardPkt p) s)) s
  let s := (s.bench.released.map Prod.fst).foldl (fun (s : State) q =>
    let l := s.releasedQ q
    (s.setReleased q (keep l)) |> (fun s => (l.filter bad).foldl (fun (s : State) p => s.discardPkt p) s)) s
  let s := (s.ports.map Prod.fst).foldl (fun (s : State) p =>
    let l := (s.port p).slots.flatMap (fun x => x.held)
    let s := s.setPort p (fun x => { x with slots := x.slots.map (fun y => { y with held := keep y.held }) })
    ((l.filter bad).foldl (fun (s : State) p => s.discardPkt p) s).showHeld (p / 32)) s
  let waits := s.bench.descWait
  let s := (waits.filter bad).foldl (fun (s : State) p => s.discardPkt p) (s.withBench (fun b => { b with descWait := keep waits }))
  let arr := (s.bench.arriving.flatMap Prod.snd).filter (fun a => bad a.pkt || bad { a.pkt with grains := a.grains })
  arr.foldl (fun (s : State) a => s.dropArriving a.pkt.uid) s

/-- The contexts whose grains, arrivals or results name a bench grain. -/
def State.ctxsHolding (s : State) (ptr : Nat) : List Nat :=
  s.ctxs.keysWhere (fun x =>
    (x.coll.pend ++ x.coll.early ++ x.coll.above ++ x.coll.accepted).any (fun n => n.ptr = some ptr)
      || x.coll.formed.any (fun f => f.ptr = ptr))
    ++ (s.bench.got.filter (fun g => decide (g.2 = ptr))).map Prod.fst

/-- Mark the grain word and the stored bytes of a grain as burred (R126, R382). -/
def State.burrGrain (s : State) (ptr : Nat) : State :=
  let g := s.grain ptr
  if g.st = .free then s else s.setGrain ptr { g with word := gwSetBurr g.word }

/-! ## Dies that fail (R395) -/

/-- Lathe die d fails: each lathe is engine-reset and then failed; no spare of the die can take over. -/
def State.failLatheDie (s : State) (d : Nat) : State :=
  let ks := (List.range 5).map (fun p => 5 * d + p)
  let live := ks.filter (fun k => s.role k ≠ 0xF && s.role k ≠ 3)
  let s := (ks.filter (fun k => s.role k = 1)).foldl (fun (s : State) k => s.setFld (ltStat k) F.LtStat.role 3) s
  live.foldl (fun (s : State) k =>
    let s := s.resetLathe k
    if s.role k = 3 then s else s.failLathe k) s

/-- Bench die d fails: packets with a grain on it are discarded, what contexts hold there is burred, and its 1,024 context records are
lost (R395, R430). -/
def State.failBenchDie (s : State) (d : Nat) : State :=
  let s := s.discardPkts (fun p => p.grains.any (fun g => decide (ptrDie g = d)))
  let s := (s.bench.grains.map Prod.fst).foldl (fun (s : State) g => if ptrDie g = d then s.burrGrain g else s) s
  let lost := (s.ctxs.keysWhere (fun x => recState x.record ≠ csFree)).filter (fun c => decide (c / 1024 = d))
  lost.foldl (fun (s : State) c =>
    if s.ctxState c = csFaulted then s
    else
      let r := (s.ctx c).record
      (s.fault c 4 FaultAt.none_).containJob (recJob r) (recPart r) (dBench d) c) s

/-- A tier die fails: what it held is lost; its reads are burred from then on. -/
def State.failTierDie (s : State) (tier d : Nat) : State :=
  if tier = 0 then { s with near := s.near.filter (fun e => decide (s.tierDie 0 e.1 ≠ d)) }
  else { s with far := s.far.filter (fun e => decide (s.tierDie 1 e.1 ≠ d)) }

/-- How many voters' dies have failed. -/
def State.votersLost (s : State) : Nat := ((List.range 3).filter (fun v => (s.die (s.voterDie v)).failed)).length

/-- Die d is declared failed (R395): a DIE_LOST record of SEV 3 in the ERR log, and what its type calls for. When the second voter is
lost the keepers tell the tray controller, with an event whose code the spec does not name (R374, log 3). -/
def State.failDie (s : State) (d : Nat) : State :=
  if (s.die d).failed || !s.dieEnabled d then s
  else
    let before := s.votersLost
    let s := s.setDie d (fun x => { x with failed := true })
    let s := s.logAppend { plainRec 0x15 0 3 d s.tb.tick with part := ((s.planeOn d).partOfDie d).getD 0x1F }
    let s :=
      if d < 32 then (List.range 32).foldl (fun (s : State) l => s.enterDisabled (32 * d + l) 2) s
      else if d < 56 then s.failLatheDie (d - 32)
      else if d < 72 then s.failBenchDie (d - 56)
      else if d < 80 then s.failTierDie 0 d
      else if d < 84 then s.failTierDie 1 d
      else if d < 96 then (if seamBridges.all (fun b => (s.die (dBridge b)).failed) then s.cutSeam else s)
      else if d < 98 then s.svFailed (d - 96)
      else if d = 98 then s.setFld R.tbStat F.TbStat.master 1
      else s
    if before < 2 && 2 ≤ s.votersLost then
      let (w, s) := s.free
      (s.keeperRec 2 0xFF 0).i3cEvent ([0x10, 0x11, 0x12, 0x20, 0x21, 0x30, 0x40, 0x41].getD (w.toNat % 8) 0x10) 0xFF
    else s

/-- DIE_FAILED (R395). -/
def execDieFailed (die : Die) (s : State) : Host.Outcome State Fault Refusal := .next (s.failDie die.val)

/-- HEARTBEAT_MISS (R386): a die that misses 10 consecutive heartbeats is declared failed. -/
def execHeartbeatMiss (die : Die) (missed : Nat) (s : State) : Host.Outcome State Fault Refusal :=
  if 10 ≤ missed then .next (s.failDie die.val) else .next s

/-! ## Hangs (R386) -/

/-- Whether a port has work queued and the credits to send it. -/
def State.portBusy (s : State) (p : Nat) : Bool :=
  (List.range 8).any (fun tc =>
    (match s.queue (qKey p tc) with
      | x :: _ => decide (max x.grains.length 1 ≤ nth (s.port p).credits tc) || s.isEthernet p
      | [] => false)
      || !(s.arrivals (qKey p tc)).isEmpty)

/-- HANG_DETECT (R386): unit is a port's first lane on a port die; any other unit is a pool manager or spindle port, whose hang is a hang
of its die. A step 2 on a die that has no engine becomes step 4, as in R379. -/
def execHangDetect (die : Die) (unit : Nat) (s : State) : Host.Outcome State Fault Refusal :=
  let d := die.val
  let r := { plainRec 0x11 2 2 d (s.dieNow d) with unit := unit, part := ((s.planeOn d).partOfDie d).getD 0x1F }
  if d < 32 && unit < 32 then
    let p := 32 * d + unit
    if s.portUp p && s.portBusy p then .next (s.raise r) else .next s
  else if !s.dieEnabled d || (s.die d).failed then .next s
  else
    let s := (s.capture).raise r
    let s := { s with err := { s.err with escal := s.err.escal.erase ⟨2, d, unit⟩ } }
    .next (s.escalate 4 d unit r.part)

/-! ## Scrubbing and control state (R375, R384) -/

/-- A CTRL_UE record on a die; more than 8 of them within 1 s declare the die failed (R384, R395). -/
def State.ctrlUe (s : State) (d step part syndrome : Nat) : State :=
  let now := s.dieNow d
  let s := s.raise { plainRec 0x04 step 2 d now with part := part, detail := syndrome }
  let l := ((s.die d).ctrlUe.filter (fun t => decide (now < t + 1000000000))) ++ [now]
  let s := s.setDie d (fun x => { x with ctrlUe := l })
  if 8 < l.length then s.failDie d else s

/-- Retire a grain until the next warm restart: what holds it is handled as burred; past 16 of one bank the bank is retired (R384). -/
def State.retireGrain (s : State) (ptr : Nat) : State :=
  let cs := s.ctxsHolding ptr
  let s := s.discardPkts (fun p => p.grains.contains ptr)
  let s := cs.foldl (fun (s : State) c => s.fault c 9 FaultAt.none_) s
  let s := s.freeGrain ptr
  let l := if s.err.retiredGrains.contains ptr then s.err.retiredGrains else s.err.retiredGrains ++ [ptr]
  let bank := ptr / 4096
  let n := (l.filter (fun g => decide (g / 4096 = bank))).length
  { s with err := { s.err with
    retiredGrains := l
    retiredBanks := if 16 < n && !s.err.retiredBanks.contains bank then s.err.retiredBanks ++ [bank] else s.err.retiredBanks } }

/-- The source of a corrected error on a die, and of an uncorrectable one in data (R376). -/
def eccSource (d : Nat) (ue : Bool) : Nat :=
  if 72 ≤ d && d < 80 then 5 + b2n ue else if 80 ≤ d && d < 84 then 7 + b2n ue else 2 + b2n ue

/-- UNIT of an ECC record on die d at an address (R377): a bank group, a far-tier channel, the lathe whose store holds a window of context
c; 0 elsewhere. -/
def State.eccUnit (s : State) (d addr : Nat) (c : Option Nat) : Nat :=
  if 56 ≤ d && d < 72 then ptrBg (2 ^ 19 * (d - 56) + addr / 256 % 2 ^ 19)
  else if 80 ≤ d && d < 84 then addr / 2 ^ 37 % 3
  else ((c.bind (fun c => (s.ctx c).phys)).map (fun k => k % 5)).getD 0

/-- SCRUB (R375, R382, R384). -/
def execScrub (die : Die) (addr : Nat) (hit : ScrubHit) (s : State) : Host.Outcome State Fault Refusal :=
  let d := die.val
  let part := ((s.planeOn d).partOfDie d).getD 0x1F
  let data (s : State) (ue : Bool) (syn : Nat) (c : Option Nat) : State :=
    s.raise { plainRec (eccSource d ue) 0 (1 + b2n ue) d (s.dieNow d) with
      part := part, addr := addr, unit := s.eccUnit d addr c, detail := syn }
  if !s.dieEnabled d || (s.die d).failed then .next s
  else match hit with
    | .clean => .next s
    | .corrected syn => .next (data s false syn none)
    | .data syn =>
      let s := data s true syn none
      .next (if 72 ≤ d && d < 80 then s.tierBurr 0 addr else if 80 ≤ d && d < 84 then s.tierBurr 1 addr
        else if 56 ≤ d && d < 72 then s.burrGrain (2 ^ 19 * (d - 56) + addr / 256 % 2 ^ 19) else s)
    | .window c w off syn =>
      let s := data s true syn (some c)
      .next (s.setCtx c (fun x => { x with burr := x.burr.set (fun _ => false) (winKey w off / 8) true }))
    | .area c i syn =>
      let s := data s true syn (some c)
      .next (s.setCtx c (fun x =>
        if x.phys.isNone || 36 < i || x.areaBurr.contains i then x else { x with areaBurr := x.areaBurr ++ [i] }))
    | .descriptor uid syn => .next ((s.discardPkts (fun p => decide (p.uid = uid))).ctrlUe d 0 part syn)
    | .grainMeta ptr syn => .next ((s.retireGrain ptr).ctrlUe d 0 part syn)
    | .queueState q syn => .next ((s.flushQueue q).ctrlUe d 0 part syn)
    | .context c readable syn =>
      let r := (s.ctx c).record
      if readable then
        .next (((s.fault c 4 FaultAt.none_).containJob (recJob r) (recPart r) d c).ctrlUe d 0 (recPart r) syn)
      else
        let p := match (s.ctx c).phys with
          | some k => ((s.planeOn (dLathe (k / 5))).partOfLathe (k / 5)).getD 0x1F
          | none => part
        let s : State := { s with err := { s.err with
          retiredCtxs := if s.err.retiredCtxs.contains c then s.err.retiredCtxs else s.err.retiredCtxs ++ [c] } }
        .next (s.ctrlUe d 3 p syn)
    | .jobRecord j syn =>
      let s := s.raise { plainRec 6 0 2 d (s.dieNow d) with part := part, addr := s.jobAddr j, detail := syn, job := some j }
      .next ((s.tierBurr 0 (s.jobAddr j)).containJob j ((s.job j).rec_.byte 3) d 0)

/-! ## Queues, escalation commands (R378, R388, R390, R391) -/

/-- ERRQ_POP (R378, R379): firmware has appended the oldest record to the ERR log, and removes it. -/
def execErrqPop (w : Writer) (die : Die) (s : State) : Host.Outcome State Fault Refusal :=
  let d := die.val
  .next (s.fenced w d (errqReg d + 0x28) (fun s =>
    match s.errq d with
    | [] => s
    | r :: rest => (s.logAppend r).setErrq d rest))

/-- Steps 1 to 5 of the reset of partition p (R388). -/
def State.partReset (s : State) (p : Nat) : State :=
  let busy := s.fld R.glbEscStat F.GlbEscStat.partBusy
  let s := (s.setFld R.glbEscStat F.GlbEscStat.partBusy (busy ||| 2 ^ p)).count R.glbEscStat F.GlbEscStat.partResets
  let s := (s.taken 3 (some p)).post ⟨5, 3, 0xFFFF, p, 0xFFFF, 0, 0⟩
  let ports := (List.range 1024).filter (fun q => decide ((s.planeOn (q / 32)).partOfPort (q / 32) = some p))
  let lathes := (List.range 120).filter (fun k => decide ((s.planeOn (dLathe (k / 5))).partOfLathe (k / 5) = some p))
  let s := ports.foldl (fun (s : State) q => s.enterDisabled q 2) s
  let s := lathes.foldl (fun (s : State) k => s.sampleLathe k) s
  let mine := s.ctxs.keysWhere (fun x => recState x.record ≠ csFree && recPart x.record = p)
  let s := mine.foldl (fun (s : State) c => (s.faultOne c 4 FaultAt.none_).unseat c) s
  let reqs := (List.range 2048).filter (fun i => (s.reqPlane i).reqPool i ≠ 0xFF && (s.reqPlane i).poolPart ((s.reqPlane i).reqPool i) = p)
  let s := reqs.foldl (fun (s : State) i => s.reclaimNow i) s
  let grains := (s.bench.grains.filter (fun e => (s.poolPlane e.2.pool).poolPart e.2.pool = p)).map Prod.fst
  let s := grains.foldl (fun (s : State) g => s.freeGrain g) s
  lathes.foldl (fun (s : State) k =>
    let back := if s.role k = 4 then (s.lathe k).selfTest.getD 0 else s.role k
    if back = 0 || back = 2 then
      ((s.setFld (ltStat k) F.LtStat.role 4).ltBusy k true).setLathe k (fun _ => { LatheSt.fresh with selfTest := some back })
    else s) s

/-- PART_RESET (R388, R391): refused for a partition that the plane does not define or that is already resetting. -/
def execPartReset (w : Writer) (part : Part) (s : State) : Host.Outcome State Fault Refusal :=
  let p := part.val
  .next (s.fenced w s.glbDie R.glbEscCtl (fun s =>
    if !s.plane.partDefined p || s.partBusy p then s.setFld R.glbEscStat F.GlbEscStat.cmdRefused 1
    else (s.partReset p).finishPartReset p))

/-- POWER_CYCLE (R390): the request goes to the tray controller; the part forwards normally. -/
def execPowerCycle (w : Writer) (s : State) : Host.Outcome State Fault Refusal :=
  .next (s.fenced w s.glbDie R.glbEscCtl (fun s =>
    ((s.taken 5 none).i3cEvent 0x40 0xFF).post (plainEvent 0x07 5 0)))

/-! ## Dumps (R393) -/

/-- DUMP_WRITTEN (R393): the leader has written the captures into the next of eight slots; the dump's length, at most 512 MiB, is a free
value. -/
def execDumpWritten (s : State) : Host.Outcome State Fault Refusal :=
  if s.err.captured.isNone || s.leader.isNone then .next s
  else
    let r := R.errDump
    let n := s.fld r F.ErrDump.next
    let k := n % 8
    let (w, s) := s.free
    let dump : Dump := ⟨n, 64 * (1 + w.toNat % 2 ^ 23), s.boot.sram, s.err.captured, s.err.samples, s.err.log,
      s.ctxs.filterMap (fun e => if e.2.record = 0 then none else some (e.1, e.2.record)), s.bench.shav⟩
    let held := s.fld r F.ErrDump.held
    let part := s.fld r F.ErrDump.partial
    let s := if bitOf held k then s.count r F.ErrDump.overwritten else s
    let s := s.setFld r F.ErrDump.held (held ||| 2 ^ k)
    let s := s.setFld r F.ErrDump.partial (if s.err.dumpPartial then part ||| 2 ^ k else part - (if bitOf part k then 2 ^ k else 0))
    let s := (s.setFld r F.ErrDump.next (n + 1)).count r F.ErrDump.dumps
    let s : State := { s with err := { s.err with
      dumps := s.err.dumps.set (fun _ => none) k (some dump), captured := none, samples := [], dumpPartial := false } }
    .next (s.post ⟨8, 0, 0xFFFF, 0xFF, n, 0, 0⟩)

/-! ## Health scores (R397) -/

/-- The counts of a lane of a port die since it was reset or read: uncorrectable codewords, replay episodes and retrains of its port,
corrected codewords. -/
def State.laneCounts (s : State) (d n : Nat) : List Nat :=
  let p := (s.logicalOf d n).bind (fun l => s.portOfLane d l)
  let port (f : Fld) : Nat := match p with
    | some p => s.fld (pStat p) f
    | none => 0
  [s.fld (laneStat d n) F.PtdLaneStat.cwUncorr, port F.PtdPortStat.replays, port F.PtdPortStat.retrains,
    s.fld (laneStat d n) F.PtdLaneStat.cwCorr]

/-- The weight of an error record in the score of its die (R397). -/
def dieWeight (source : Nat) : Nat :=
  match source with
  | 0x02 => 1
  | 0x03 => 256
  | 0x04 => 256
  | 0x0B => 4
  | 0x10 => 64
  | 0x11 => 1024
  | _ => 0

/-- The weight of an error record in the score of its DIMM (R397). -/
def dimmWeight (r : ErrRec) : Nat :=
  if r.source = 7 then (if Config.wholeDevice r.detail then 64 else 1) else if r.source = 8 then 1024 else 0

/-- The records appended to the ERR log since sequence number n, at most the 1,024 that it holds. -/
def State.recordsSince (s : State) (n : Nat) : List ErrRec :=
  let next := s.fld R.errStat F.ErrStat.nextSeq
  let from_ := max n (next - 1024)
  (List.range (next - from_)).filterMap (fun i => s.err.log.get (fun _ => none) ((from_ + i) % 1024))

/-- The weighted counts of unit u of the second just ended: lanes 0 to 1087, dies from 1088, DIMMs from 1188. -/
def State.unitX (s : State) (recs : List ErrRec) (u : Nat) : Nat :=
  if u < 1088 then
    let c := s.laneCounts (u / 34) (u % 34)
    let seen (i : Nat) : Nat := s.err.healthSeen.get (fun _ => 0) (4 * u + i)
    let more (i : Nat) : Nat := let now := nth c i; if seen i ≤ now then now - seen i else now
    64 * more 0 + 16 * more 1 + 256 * more 2 + more 3 / 2 ^ 20
  else if u < 1188 then
    ((recs.filter (fun r => decide (r.die = u - 1088))).map (fun r => dieWeight r.source * (r.rep + 1))).foldl (· + ·) 0
  else
    let k := u - 1188
    ((recs.filter (fun r => decide (r.die = dFar (k / 3)) && decide (r.unit = k % 3))).map
      (fun r => dimmWeight r * (r.rep + 1))).foldl (· + ·) 0

/-- E after one second with counts x, K being 6, in 24.8 fixed point. -/
def healthStep (e x : Nat) : Nat := ((e : Int) + (256 * (x : Int) - e) / 64).toNat

/-- The entry of a unit in the near-tier table: KIND, index, E, x. -/
def healthEntry (u e x : Nat) : Blob :=
  let (kind, i) := if u < 1088 then (1, u) else if u < 1188 then (2, u - 1088) else (3, u - 1188)
  ⟨16, kind + i * 2 ^ 16 + (e % 2 ^ 32) * 2 ^ 32 + (x % 2 ^ 32) * 2 ^ 64⟩

/-- What firmware does when a score passes a threshold: a HEALTH event at 64; at 1,024 a spare for a lane, a report for a die or a
DIMM. -/
def State.healthActs (s : State) (u old new : Nat) : State :=
  let ev : MgmtEvent := ⟨9, 0, 0xFFFF, 0xFF, 0xFFFF, u, 0⟩
  let s := if old ≤ 64 * 256 && 64 * 256 < new then s.post ev else s
  if old ≤ 1024 * 256 && 1024 * 256 < new then
    if u < 1088 then
      match (s.logicalOf (u / 34) (u % 34)).bind (fun l => (s.portOfLane (u / 34) l).map (fun p => (p, l))) with
      | some (p, l) => match [0, 1].find? (fun b => s.spareFree (u / 34) b && s.sparePath p b) with
        | some b => s.trainSpare (u / 34) b l
        | none => s
      | none => s
    else s.post ev
  else s

/-- HEALTH_UPDATE (R397): the scores of the 1,200 units, kept and written to the table that SV_HEALTH locates. -/
def execHealthUpdate (s : State) : Host.Outcome State Fault Refusal :=
  let recs := s.recordsSince (s.err.healthSeen.get (fun _ => 0) 8192)
  let count := s.fld R.svHealth F.SvHealth.count
  let base := s.fld R.svHealth F.SvHealth.base
  let s := (List.range 1200).foldl (fun (s : State) u =>
    let x := s.unitX recs u
    let old := (s.err.health.get (fun _ => (0, 0)) u).1
    let new := healthStep old x
    let s : State := { s with err := { s.err with health := s.err.health.set (fun _ => (0, 0)) u (new, x) } }
    let s := if u < count then s.nearWrite (base + 16 * u) (healthEntry u new x) else s
    s.healthActs u old new) s
  let seen := (List.range 1088).foldl (fun (t : Tbl Nat) u =>
    (List.range 4).foldl (fun (t : Tbl Nat) i => t.set (fun _ => 0) (4 * u + i) (nth (s.laneCounts (u / 34) (u % 34)) i)) t)
    s.err.healthSeen
  let seen := seen.set (fun _ => 0) 8192 (s.fld R.errStat F.ErrStat.nextSeq)
  .next { s with err := { s.err with healthSeen := seen } }

end Sys2Proof.Machine
end

