-- ==== Sys2Proof/Machine/Power.lean ====
section
/-! DEFINITION. Power domains, thermal zones, and the supplies (R44 to R58, R82, R402, R420, R428). -/

namespace Sys2Proof.Machine

/-! ## The domain tree (R46, R50) -/

/-- The R53 die of a domain. -/
def domDie (n : Nat) : Nat :=
  if n < 288 then n / 9
  else if n < 432 then 32 + (n - 288) / 6
  else if n < 496 then 56 + (n - 432) / 4
  else if n < 504 then 72 + (n - 496)
  else if n < 520 then 80 + (n - 504) / 4
  else if n < 532 then 84 + (n - 520)
  else 96 + (n - 532) / 2

/-- What UNIT of an error record says of a domain (R377): a quad's first lane, a lathe, a bank group or a channel. -/
def domUnit (n : Nat) : Nat :=
  if n < 288 then (if n % 9 < 8 then 4 * (n % 9) else 0)
  else if n < 432 then (if (n - 288) % 6 < 5 then (n - 288) % 6 else 0)
  else if n < 496 then (n - 432) % 4
  else if 504 ≤ n && n < 520 then (n - 504) % 4 % 3
  else 0

/-- The core or ring of which a domain is a child (R50). -/
def domParent (n : Nat) : Option Nat :=
  if n < 288 then (if n % 9 < 8 then some (9 * (n / 9) + 8) else none)
  else if n < 432 then (if (n - 288) % 6 < 5 then some (288 + 6 * ((n - 288) / 6) + 5) else none)
  else if 504 ≤ n && n < 520 then (if (n - 504) % 4 < 3 then some (504 + 4 * ((n - 504) / 4) + 3) else none)
  else none

/-- The lathe of a lathe's domain. -/
def domLatheOf (n : Nat) : Option Nat :=
  if 288 ≤ n && n < 432 && (n - 288) % 6 < 5 then some (5 * ((n - 288) / 6) + (n - 288) % 6) else none

/-- Whether a domain supports RET: near-tier stacks and far-tier channels (R47). -/
def domRet (n : Nat) : Bool := (496 ≤ n && n < 504) || (504 ≤ n && n < 520 && (n - 504) % 4 < 3)

/-- The window of the far tier that channel c of die d holds: 128 GiB each (PRESUMED, log 19). -/
def farWindow (d c : Nat) : Nat × Nat := ((3 * d + c) * 2 ^ 37, 2 ^ 37)

/-- The part of a tier that a domain holds: the tier, its first address, its length. -/
def State.domTier (s : State) (n : Nat) : Option (Nat × Nat × Nat) :=
  if 496 ≤ n && n < 504 then
    some (0, ((List.range 8).filter (fun i => i < n - 496 && bitOf s.ntPresent i)).length * 2 ^ 36, 2 ^ 36)
  else if 504 ≤ n && n < 520 && (n - 504) % 4 < 3 then
    let w := farWindow ((n - 504) / 4) ((n - 504) % 4)
    some (1, w.1, w.2)
  else none

/-! ## What fuses say, as registers (R25, R26, R119, R120, R216, R220) -/

/-- The lane and spare registers of port die d as its fuses have them. -/
def State.fusedPtd (s : State) (d : Nat) : State :=
  let f := s.fuses.ptdOf d
  let a := F.GlbUnitmapPtd.spareAFor.get f
  let b := F.GlbUnitmapPtd.spareBFor.get f
  let st (x : Nat) : Nat := if x < 0x20 then 2 else 0
  let r := R.ptdSpare d
  let s := (((s.setFld r F.PtdSpare.aFor a).setFld r F.PtdSpare.bFor b).setFld r F.PtdSpare.aState (st a)).setFld r F.PtdSpare.bState
    (st b)
  (List.range 34).foldl (fun (s : State) n =>
    let logical := if n = 32 then (if a < 0x20 then a else 0x3F) else if n = 33 then (if b < 0x20 then b else 0x3F)
      else if a = n || b = n then 0x3F else n
    let s := s.setFld (laneStat d n) F.PtdLaneStat.logical logical
    if s.laneAbsent d n then s.setLstate d n 0xF else s) s

/-- ROLE and LOGICAL of every lathe as the fuses have them: logical numbers in ascending order of the enabled lathes (R216). -/
def State.fusedLathes (s : State) : State :=
  ((List.range 120).foldl (fun (x : Nat × State) k =>
    let (next, s) := x
    let role := s.fuses.latheRole (k / 5) (k % 5)
    if s.latheFused k then (next, (s.setFld (ltStat k) F.LtStat.role 0xF).setFld (ltStat k) F.LtStat.logical 0xFF)
    else if role = 1 then (next, (s.setFld (ltStat k) F.LtStat.role 1).setFld (ltStat k) F.LtStat.logical 0xFF)
    else (next + 1, (s.setFld (ltStat k) F.LtStat.role 0).setFld (ltStat k) F.LtStat.logical next)) (0, s)).2

/-! ## GLB_PD requests (R48 to R50) -/

/-- Refuse a request or setpoint of a domain, with its REASON (R50). -/
def State.pdRefuse (s : State) (n reason : Nat) : State :=
  (s.setFld (R.glbPd n) F.GlbPd.refused 1).setFld (R.glbPd n) F.GlbPd.reason reason

/-- PD_WRITE (R48, R49): the codes written wait for the boundary, at which they are judged (R50); the last write of a turn counts and
the earlier ones leave no trace. -/
def execPdWrite (w : Writer) (n : Dom) (value : W64) (s : State) : Host.Outcome State Fault Refusal :=
  let r := R.glbPd n.val
  .next (s.fenced w s.glbDie r (fun s =>
    let s := if F.GlbPd.refused.get value = 1 then s.setFld r F.GlbPd.refused 0 else s
    let new : PdPend := ⟨some (F.GlbPd.req.get value), some (F.GlbPd.vset.get value)⟩
    let s : State := { s with pdPend := s.pdPend.set (fun _ => ⟨none, none⟩) n.val new }
    s.setFld r F.GlbPd.pending 1))

/-- Whether a quad has an up port or a non-empty egress queue. -/
def State.quadLive (s : State) (d q : Nat) : Bool :=
  (s.quadPorts d q).any (fun p => s.portUp p || (List.range 8).any (fun tc =>
    !(s.queue (qKey p tc)).isEmpty || !(s.releasedQ (qKey p tc)).isEmpty || !(s.heldOf (qKey p tc)).isEmpty))

/-- Whether a bank group holds an allocated grain, or, in group 3, queue state or context records. -/
def State.bankLive (s : State) (d g : Nat) : Bool :=
  s.bench.grains.any (fun e => decide (e.2.st ≠ .free) && decide (ptrDie e.1 = d) && decide (ptrBg e.1 = g))
    || (g = 3 && (s.bench.queues.any (fun e => decide (homeDie (e.1 / 8) = d))
      || s.ctxs.any (fun e => decide (e.1 / 1024 = d) && decide (recState e.2.record ≠ csFree))))

/-- Whether a job that is not FREE has an extent in a window of a tier. -/
def State.tierMapped (s : State) (w : Nat × Nat × Nat) : Bool :=
  s.liveJobs.any (fun j => (s.jobClaims j).any (fun b => (List.range 6).any (fun i =>
    let e := jobExt b i
    decide (e.1 = w.1 + 1) && decide (e.2.2 ≠ 0) && decide (e.2.1 < w.2.1 + w.2.2) && decide (w.2.1 < e.2.1 + e.2.2))))

/-- Whether a domain holds live state, so that it may not go OFF or RET (R50, REASON 1). -/
def State.domLive (s : State) (n : Nat) : Bool :=
  if n < 288 then n % 9 < 8 && s.quadLive (n / 9) (n % 9)
  else if n < 432 then (domLatheOf n).any (fun k => !(s.residents k).isEmpty)
  else if n < 496 then s.bankLive ((n - 432) / 4) ((n - 432) % 4)
  else if n < 520 then (s.domTier n).any s.tierMapped
  else if n < 532 then
    let b := n - 520
    s.sup.vbridge = b || (List.range s.plane.routeCount).any (fun r => (s.plane.routeBridges r).contains b)
  else s.leader = some ((n - 532) / 2)

/-- Whether a core or ring has a child that is not OFF (R50). A child that is ABSENT is no child to wait for (DEDUCED, log 36). -/
def State.childPowered (s : State) (n : Nat) : Bool :=
  (List.range 536).any (fun c => domParent c = some n && !([0, 15].contains (s.domState c)))

/-- Whether the core or ring of a domain is ON or waking. -/
def State.parentOk (s : State) (n : Nat) : Bool :=
  match domParent n with
  | none => true
  | some q => s.domState q = 1 || s.domState q = 2

/-- Whether a domain is powered or on its way to it. -/
def State.domUp (s : State) (n : Nat) : Bool := s.domState n = 1 || s.domState n = 2

/-- The REASON for which a REQ of r on domain n is refused; 0 none (R48, R50); of several rules that it breaks the first named here counts
(DEDUCED, log 36). A domain that is OFF or FAILED is unpowered and holds no live state (R47). locked: whether LOCK applies, which forbids
every write of REQ. -/
def State.reqReason (s : State) (n r : Nat) (locked : Bool) : Nat :=
  let zone := s.fld (R.glbTherm (domDie n)) F.GlbTherm.zone
  if s.domAbsent n then 7
  else if r = 3 then 5
  else if r ≠ 2 && !([0, 5].contains (s.domState n)) && s.domLive n then 1
  else if r ≠ 2 && s.domUp n && s.childPowered n then 2
  else if r = 2 && !s.domUp n && !s.parentOk n then 2
  else if locked && s.fld (R.glbPd n) F.GlbPd.lock = 1 then 3
  else if r = 1 && !domRet n then 4
  else if r = 2 && !s.domUp n && (zone = 3 || zone = 4) then 6
  else 0

/-! ## Going OFF, and coming ON (R47, R51, R117) -/

/-- A die whose core, ring, group 3 or own domain is unpowered has lost its error-record queue and its configuration fence with the rest
(R47, R364, R378). -/
def State.loseDie (s : State) (d : Nat) : State := (s.setErrq d []).setFence d (fun _ => ⟨0, 0, []⟩)

/-- A field of the registers of one unit returns to the values it had in another state: it names what the unit is, not what it holds. -/
def State.keepFrom (s old : State) (off : Nat) (f : Fld) : State := s.setFld off f (old.fld off f)

/-- Registers from lo up to hi return to their reset values: their domain lost its contents. -/
def State.loseRegs (s : State) (lo hi : Nat) : State :=
  { s with regs := s.regs.filter (fun e => decide (e.1 < lo) || decide (hi ≤ e.1)) }

/-- A quad is unpowered: its lanes' synthesizers are unlocked and their waiting commands lost; a lane's FAILED stays (R112). -/
def State.quadOff (s : State) (d q : Nat) : State :=
  let s := (List.range 4).foldl (fun (s : State) i =>
    let lane := 4 * q + i
    let s := ((s.setFld (laneStat d lane) F.PtdLaneStat.synthLock 0).setFld (laneStat d lane) F.PtdLaneStat.pendCmd 0).setLockTry d lane 0
    if s.laneBad d lane then s else s.setLstate d lane 0) s
  (s.quadPorts d q).foldl (fun (s : State) p => s.refreshPort p) s

/-- A port die's core is unpowered: ports, caches, policers and rank tables are lost; a lane's FAILED stays (R112). -/
def State.portDieOff (s : State) (d : Nat) : State :=
  let old := s
  let s := ((s.loseRegs (dieBase d) (dieBase d + 0x10000)).setSpareJob d 0 0).setSpareJob d 1 0
  let s := ((List.range 32).filter (old.laneBad d)).foldl (fun (s : State) l => s.keepFrom old (laneStat d l) F.PtdLaneStat.lstate) s
  let s := s.loseDie d
  { s with ports := s.ports.filter (fun e => decide (e.1 / 32 ≠ d)), head := { s.head with
    cache := s.head.cache.set (fun _ => []) d []
    pol := s.head.pol.filter (fun e => decide (e.1 / 2048 ≠ d))
    upgrps := s.head.upgrps.filter (fun e => decide (e.1 / 256 ≠ d))
    upgrpsNext := s.head.upgrpsNext.filter (fun e => decide (e.1 / 256 ≠ d))
    upgrpsOld := s.head.upgrpsOld.filter (fun e => decide (e.1 / 256 ≠ d))
    rotation := s.head.rotation.filter (fun e => decide (e.1 / 256 ≠ d))
    neigh := s.head.neigh.filter (fun e => decide (e.1 / 256 / 32 ≠ d)) } }

/-- A lathe is unpowered; its ROLE and LOGICAL, which name it, stay (R216, R217). -/
def State.latheOff (s : State) (k base : Nat) : State :=
  ((s.loseRegs base (base + 0x4000)).keepFrom s (ltStat k) F.LtStat.role).keepFrom s (ltStat k) F.LtStat.logical

/-- A tier's range is unpowered: near is tier 0, far tier 1. -/
def State.tierOff (s : State) (tier a l : Nat) : State :=
  if tier = 0 then { s with near := s.near.filter (fun e => decide (e.1 < a) || decide (a + l ≤ e.1)) }
  else { s with far := s.far.filter (fun e => decide (e.1 < a) || decide (a + l ≤ e.1)) }

/-- A supervisor's host interface is unpowered: its function, its vectors and the console's buffers are lost. -/
def State.hostOff (s : State) (v : Nat) : State :=
  let s := s.loseRegs (fnReg v 0x00200000) (fnReg v 0x00203000)
  { s with
    side := { s.side with conCap := s.side.conCap.set (fun _ => []) v [], conIn := s.side.conIn.set (fun _ => []) v [] }
    host := { s.host with fns := s.host.fns.set (fun _ => FnSt.fresh) v FnSt.fresh
                          msixTable := s.host.msixTable.filter (fun e => decide (e.1 / 12 ≠ v))
                          msixPend := s.host.msixPend.set (fun _ => 0) v 0 } }

/-- The registers of a whole die, from base, are lost with the die's own state. -/
def State.wholeOff (s : State) (d lo hi : Nat) : State := (s.loseRegs lo hi).loseDie d

/-- A domain is unpowered and its contents are lost (R47). What names a unit is not among them: a lathe's ROLE and LOGICAL (R216, R217), and a
lane's FAILED, which stays until a spare replaces the lane or firmware releases the spare (R112). -/
def State.domOff (s : State) (n : Nat) : State :=
  let s := (s.setDom n 0).setWake n .none
  if n < 288 then if n % 9 < 8 then s.quadOff (n / 9) (n % 9) else s.portDieOff (n / 9)
  else if n < 432 then
    let d := (n - 288) / 6
    let p := (n - 288) % 6
    let base := dieBase (dLathe d)
    if p < 5 then s.latheOff (5 * d + p) (base + 0x4000 * p) else s.wholeOff (dLathe d) (base + 0x14000) (base + 0x20000)
  else if n < 496 then
    let d := dBench ((n - 432) / 4)
    if (n - 432) % 4 = 3 then s.wholeOff d (dieBase d) (dieBase d + 0x10000) else s
  else if 520 ≤ n && n < 532 then
    let d := dBridge (n - 520)
    s.wholeOff d (dieBase d) (dieBase d + 0x4000)
  else match s.domTier n with
    | some (tier, a, l) => s.tierOff tier a l
    | none =>
      if n < 520 then s.wholeOff (dFar ((n - 504) / 4)) (dieBase (dFar ((n - 504) / 4))) (dieBase (dFar ((n - 504) / 4)) + 0x10000)
      else if (n - 532) % 2 = 0 then (s.setSvState ((n - 532) / 2) 0).loseDie (dSup ((n - 532) / 2))
      else s.hostOff ((n - 532) / 2)

/-- Carry out a REQ that is not refused: toward ON, or DRAINING toward OFF or RET from whatever powered state (R49, R51). -/
def State.takeReq (s : State) (n r : Nat) : State :=
  let s := s.setFld (R.glbPd n) F.GlbPd.req r
  let st := s.domState n
  if r = 2 then (if st = 0 || st = 4 || st = 5 then s.domWake n else s)
  else if st = 1 || st = 2 || (st = 4 && r = 0) then (s.setDom n 3).setWake n .none
  else s

/-- Judge a REQ at the boundary. -/
def State.request (s : State) (n r : Nat) (locked : Bool) : State :=
  match s.reqReason n r locked with
  | 0 => s.takeReq n r
  | e => s.pdRefuse n e

/-- Take a setpoint: a code above 0x10 is ignored and refused, a valid one is held to VCEIL (R48). -/
def State.takeVset (s : State) (n v : Nat) : State :=
  let r := R.glbPd n
  let top := s.fld r F.GlbPd.vceil
  if 0x10 < v then s.pdRefuse n 5
  else if top < v then (s.setFld r F.GlbPd.vset top).pdRefuse n 3 else s.setFld r F.GlbPd.vset v

/-- A domain's pending write at the boundary. -/
def State.applyPd (s : State) (n : Nat) : State :=
  let p := s.pdPend.get (fun _ => ⟨none, none⟩) n
  let s : State := { s with pdPend := s.pdPend.set (fun _ => ⟨none, none⟩) n ⟨none, none⟩ }
  let s := s.setFld (R.glbPd n) F.GlbPd.pending 0
  if s.domAbsent n then s.pdRefuse n 7
  else
    let s := match p.vset with
      | some v => s.takeVset n v
      | none => s
    match p.req with
    | some r => s.request n r true
    | none => s

/-- The domains with a write that waits, cores and rings before their children. -/
def State.pdOrder (s : State) : List Nat :=
  let l := s.pdPend.map Prod.fst
  l.filter (fun n => (domParent n).isNone) ++ l.filter (fun n => (domParent n).isSome)

/-- The POWER section of a plane that has just activated: ceilings, locks and setpoints, and each REQ that it changes (R49, R82,
R428). The first one sets every setpoint to its ceiling (DESIGN CHOICE, log 20). -/
def State.applyPower (s : State) (old : Option Plane) (new : Plane) : State :=
  let all := (List.range 536).filter (fun n => !s.domAbsent n)
  let s := all.foldl (fun (s : State) n =>
    let r := R.glbPd n
    let s := (s.setFld r F.GlbPd.vceil (new.powVceil n)).setFld r F.GlbPd.lock (new.powLock n)
    match old with
    | none => s.setFld r F.GlbPd.vset (new.powVceil n)
    | some _ => s.setFld r F.GlbPd.vset (min (s.fld r F.GlbPd.vset) (new.powVceil n))) s
  let ordered := all.filter (fun n => (domParent n).isNone) ++ all.filter (fun n => (domParent n).isSome)
  ordered.foldl (fun (s : State) n =>
    if old.all (fun p => decide (p.powReq n ≠ new.powReq n)) then s.request n (new.powReq n) false else s) s

/-! ## Wakes (R51, R58) -/

/-- Whether a queued wake may start: its core or ring, if it has one, is ON or ready. -/
def State.wakeOpen (s : State) (n : Nat) : Bool :=
  match domParent n with
  | none => true
  | some q => s.domState q = 2 || (match s.wake q with
    | .ready _ => true
    | _ => false)

/-- Start up to 64 queued wakes, in ascending n. -/
def State.startGroup (s : State) : State :=
  let l := (s.wakes.filter (fun e => decide (e.2 = .queued) && s.wakeOpen e.1)).map Prod.fst
  (l.take 64).foldl (fun (s : State) n => s.startWake n) s

/-- WAKE_GROUP_START (R51). -/
def execWakeGroupStart (s : State) : Host.Outcome State Fault Refusal := .next s.startGroup

/-- A wake has not completed (R58): the domain is FAILED and unpowered, its contents lost, with a record; a lathe fails with it (R217). -/
def State.wakeFail (s : State) (n : Nat) : State :=
  let d := domDie n
  let s := ((s.domOff n).setDom n 5).pdRefuse n 8
  let s := s.raise { plainRec 0x12 0 2 d (s.dieNow d) with unit := domUnit n, part := ((s.planeOn d).partOfDie d).getD 0x1F }
  match domLatheOf n with
  | some k => s.failLathe k
  | none => s

/-- Start the queued children of a core or ring that is ready, in ascending n (R50). -/
def State.startChildren (s : State) (n : Nat) : State :=
  let l := (s.wakes.filter (fun e => decide (e.2 = .queued) && decide (domParent e.1 = some n))).map Prod.fst
  l.foldl (fun (s : State) c => s.startWake c) s

/-- DOMAIN_WAKE_READY (R50, R51, R395): WAKE_US is recorded, a part of a microsecond counting as a whole one (DESIGN CHOICE, log 20: R48
names no rounding), and the children that wait for this core or ring start. A failed self-test fails a whole die's domain with its die, any
other domain as a wake that did not complete (DEDUCED, log 20). -/
def execDomainWakeReady (n : Dom) (selfTest : Bool) (s : State) : Host.Outcome State Fault Refusal :=
  let n := n.val
  match s.wake n with
  | .started t =>
    if !selfTest then
      let s := s.wakeFail n
      .next (if n < 432 && (domParent n).isSome || 432 ≤ n && n < 496 || 504 ≤ n && n < 520 && (domParent n).isSome then s
        else s.failDie (domDie n))
    else
      let us := (s.tb.tick - t + 999) / 1000
      .next (((s.setFld (R.glbPd n) F.GlbPd.wakeUs (min us 255)).setWake n (.ready us)).startChildren n)
  | _ => .next s

/-- WAKE_TIMEOUT (R58): 25 µs after its start a wake that is not ready is stopped. -/
def execWakeTimeout (n : Dom) (s : State) : Host.Outcome State Fault Refusal :=
  match s.wake n.val with
  | .started t => if t + 25000 ≤ s.tb.tick then .next (s.wakeFail n.val) else .next s
  | _ => .next s

/-- DOMAIN_DRAIN_COMPLETE (R51): DRAINING ends in OFF or RET. A domain asked ON while it was DRAINING, for which R50 and R51 give no
outcome, goes through OFF, its contents lost, and wakes again (DESIGN CHOICE, log 20). -/
def execDomainDrainComplete (n : Dom) (s : State) : Host.Outcome State Fault Refusal :=
  let n := n.val
  if s.domState n ≠ 3 then .next s
  else match s.fld (R.glbPd n) F.GlbPd.req with
    | 1 => .next (s.setDom n 4)
    | 2 => .next ((s.domOff n).domWake n)
    | _ => .next (s.domOff n)

/-- A domain enters service at the boundary: lanes of a quad start to lock, a core takes its fused lane assignments (R51, R117,
R119). -/
def State.domOn (s : State) (n : Nat) : State :=
  let s := (s.setDom n 2).setWake n .none
  if 288 ≤ n then s
  else if n % 9 = 8 then
    let s := s.fusedPtd (n / 9)
    [0, 1].foldl (fun (s : State) b => if s.spState (n / 9) b = 2 then s.startLock (n / 9) (32 + b) else s) s
  else (List.range 4).foldl (fun (s : State) i =>
    let lane := 4 * (n % 9) + i
    if s.laneAbsent (n / 9) lane then s else s.startLock (n / 9) lane) s

/-- Every domain that is ready enters service, cores before their children. -/
def State.wakesDone (s : State) : State :=
  let l := (s.wakes.filter (fun e => match e.2 with
    | .ready _ => true
    | _ => false)).map Prod.fst
  (l.filter (fun n => (domParent n).isNone) ++ l.filter (fun n => (domParent n).isSome)).foldl (fun (s : State) n => s.domOn n) s

/-- What a turn boundary does to the domains: those that are ready enter service, pending writes are judged, wakes start, and ports
follow their domains (R49, R51, R108). -/
def State.powerBoundary (s : State) : State :=
  let s := s.wakesDone
  let s := s.pdOrder.foldl (fun (s : State) n => s.applyPd n) s
  let s := s.startGroup
  if s.img.active.isNone then s
  else (List.range 1024).foldl (fun (s : State) p => s.refreshPort p) s

/-! ## Losing power (R55, R58, R420) -/

/-- The registers that the keepers hold: GLB, TB and ERR. -/
def keeperReg (off : Nat) : Bool := off < 0x00200000 || (0x02000000 ≤ off && off < fnBank)

/-- Every domain but the keepers' loses power, and all state outside the keepers with it (R55): of the sideband the console buffers, which
the supervisors hold, and of the start the supervisors' SRAM. -/
def State.losePower (s : State) : State :=
  let r := State.reset
  let s : State := { r with
    fuses := s.fuses, pins := s.pins, tb := { s.tb with planeEver := false, nextTicks := 0, stepPend := none }
    regs := s.regs.filter (fun e => keeperReg e.1)
    dies := s.dies
    err := { r.err with
      log := s.err.log, dumps := s.err.dumps, evtSeq := s.err.evtSeq, evtRead := s.err.evtRead }
    side := { s.side with conCap := [], conIn := [] }, boot := { s.boot with sram := Blob.empty }, freeCtr := s.freeCtr, outs := s.outs, pending := s.pending }
  let s := (List.range 536).foldl (fun (s : State) n => if s.domState n = 0 || s.domState n = 0xF then s else s.setDom n 0) s
  (s.setSvState 0 0).setSvState 1 0

/-- A keeper's event in the ERR log, with what it saw (R58, R376). -/
def State.supplyEvent (s : State) (sev mv : Nat) : State := s.keeperRec sev 0xFF mv

/-- VIN_PKG_LOW (R58): effective setpoints are capped at VIN_PKG − 50 mV, not below 0.72 V. -/
def execVinPkgLow (mv : Nat) (s : State) : Host.Outcome State Fault Refusal :=
  if mv < 770 || 850 ≤ mv then .next s
  else
    let s : State := { s with pins := { s.pins with vinMv := mv, vinCap := some ((mv - 770) / 5) } }
    .next ((s.supplyEvent 0 mv).i3cEvent 0x21 0xFF)

/-- VIN_PKG_RECOVER (R58): back above 0.85 V, the cap lifts. -/
def execVinPkgRecover (mv : Nat) (s : State) : Host.Outcome State Fault Refusal :=
  if mv < 850 then .next s else .next { s with pins := { s.pins with vinMv := mv, vinCap := none } }

/-- VIN_PKG_DIP (R58): at most 5 µs below 0.77 V is ridden through. -/
def execVinPkgDip (mv ns : Nat) (s : State) : Host.Outcome State Fault Refusal :=
  if 770 ≤ mv || 5000 < ns then .next s else .next (s.supplyEvent 0 mv)

/-- VIN_PKG_HIGH (R58): above 0.95 V, up to 1.00 V for any time or above it for at most 5 µs, the part runs on; a cap of a low supply is
lifted, since the supply is above 0.85 V. -/
def execVinPkgHigh (mv ns : Nat) (s : State) : Host.Outcome State Fault Refusal :=
  if mv ≤ 950 || (1000 < mv && 5000 < ns) then .next s
  else
    let s := if mv ≤ 1000 then { s with pins := { s.pins with vinMv := mv, vinCap := none } } else s
    .next (s.supplyEvent 0 mv)

/-- POWER_FAULT (R58): VIN_PKG out of its limits for more than 5 µs stops the part until COLD_RST_N. A hold that a trip or a lost VAUX_1V8
has begun goes on (R55, R420). -/
def execPowerFault (mv ns : Nat) (s : State) : Host.Outcome State Fault Refusal :=
  if (770 ≤ mv && mv ≤ 1000) || ns ≤ 5000 then .next s
  else
    let s := ((s.losePower).supplyEvent 3 mv).i3cEvent 0x20 0xFF
    let hold := if s.pins.hold = .trip || s.pins.hold = .vaux then s.pins.hold else .await
    .next { s with pins := { s.pins with vinMv := mv, pwrFault := true, hold := hold } }

/-- VAUX_1V8_DROP (R420, R401): below 1.62 V for more than 1 µs the part stops and is held in reset; removing the supply clears the ERR
log, the attempts and the record of dumps. -/
def execVaux1v8Drop (mv ns : Nat) (removed : Bool) (s : State) : Host.Outcome State Fault Refusal :=
  if 1620 ≤ mv || ns ≤ 1000 then .next s
  else
    let s := s.losePower
    let s : State := if removed then
      { s with
        regs := [], dies := [], err := State.reset.err, boot := State.reset.boot
        tb := State.reset.tb
        side := { State.reset.side with flashA := s.side.flashA, flashB := s.side.flashB }
        pins := { s.pins with thermTrip := false, thermAlert := false, tripped := false } }
      else s
    .next { s with pins := { s.pins with vauxMv := mv, pwrFault := true, hold := .vaux, removed := removed } }

/-- VAUX_1V8_RECOVER (R420, R409): back in range for 1 ms, the part waits for COLD_RST_N to be asserted; at power-up its release
starts the part. A trip that had not ended goes on holding it (R55). Above 2.10 V the behaviour is not specified. -/
def execVaux1v8Recover (mv : Nat) (s : State) : Host.Outcome State Fault Refusal :=
  if 2100 < mv then .fault .beyondRatings
  else if mv < 1710 || 1890 < mv then .next s
  else
    let was := s.pins.removed
    let s : State := { s with pins := { s.pins with vauxMv := mv, removed := false } }
    if s.pins.hold ≠ .vaux then .next s
    else if was then
      .next { s with pins := { s.pins with hold := if s.pins.coldRst then .none else .await, pwrFault := false } }
    else .next ({ s with pins := { s.pins with hold := if s.pins.thermTrip then .trip else .await } }.supplyEvent 2 mv)

/-! ## Thermal zones (R53 to R55) -/

/-- The setpoint code that a domain runs at: VSET held to the die's thermal cap and to the supply's (R54, R58); supervisor domains run at
0.80 V and ignore the setpoint (R45). -/
def State.effSetpoint (s : State) (n : Nat) : Nat :=
  if 532 ≤ n then 0x10 else
  let v := s.fld (R.glbPd n) F.GlbPd.vset
  let v := match (s.die (domDie n)).capCode with
    | some c => min v c
    | none => v
  match s.pins.vinCap with
  | some c => min v c
  | none => v

/-- The domains of a die. -/
def dieDomains (d : Nat) : List Nat := (List.range 536).filter (fun n => domDie n = d)

/-- Write DUTY of a lathe die; contexts that run while it is below 100 % remember it (R54, R215). -/
def State.setDuty (s : State) (d v : Nat) : State :=
  let s := s.setFld (R.glbTherm (dLathe d)) F.GlbTherm.duty v
  if v = 0 then s
  else (s.ctxs.keysWhere (fun x => x.phys.any (fun k => decide (k / 5 = d)))).foldl (fun (s : State) c =>
    s.setColl c (fun q => { q with duty := true })) s

/-- TNOW in sixteenths of a degree, as a signed number. -/
def State.tnow (s : State) (d : Nat) : Int := signedOf (s.fld (R.glbTherm d) F.GlbTherm.tnow) 16

/-- The zone of a die whose hottest healthy sensor reads t: a zone is left when t has fallen 2 degrees below its threshold (R54). -/
def State.zoneOf (s : State) (old : Nat) (t : Int) : Nat :=
  let warn : Int := 16 * (match s.img.active with
    | some p => p.warnC
    | none => 95)
  let was := if old = 4 then 2 else old
  let in_ (z : Nat) (limit : Int) : Bool := decide (limit ≤ t) || (decide (z ≤ was) && decide (limit - 32 < t))
  if in_ 3 1760 then 3 else if in_ 2 1680 then 2 else if in_ 1 warn then 1 else 0

/-- The keeper acts on the zone that a die is in now (R54, R357). R54 does not say how the cap and DUTY recover: when the die has left the
limit zone the cap lifts and DUTY returns to 100 % at once (DESIGN CHOICE, log 36). -/
def State.enterZone (s : State) (d z : Nat) : State :=
  let old := s.fld (R.glbTherm d) F.GlbTherm.zone
  let lathe : Bool := 32 ≤ d && d < 56
  let s := s.setFld (R.glbTherm d) F.GlbTherm.zone z
  if z = old then s
  else
    let s := s.keeperRec 0 d z
    let s := if z < 2 then
        let s := s.setDie d (fun x => { x with capCode := none })
        if lathe then s.setDuty (d - 32) 0 else s
      else if z = 3 then (if lathe then s.setDuty (d - 32) 4 else s)
      else if old = 3 && lathe then s.setDuty (d - 32) 3
      else s
    let s := if z = 3 then s.i3cEvent 0x10 d else if old = 3 then s.i3cEvent 0x11 d else s
    let any := (List.range 100).any (fun i => decide (s.fld (R.glbTherm i) F.GlbTherm.zone = 3))
    { s with pins := { s.pins with thermAlert := any } }

/-- One die's sample: TNOW, TMAX, SENS_BAD, the count of samples at 115 degrees, and its zone. The die has the sensors that R53 gives its
type; one for which no reading stands fails its self-check. -/
def State.sampleDie (s : State) (d : Nat) (l : List (Option Int)) : State :=
  let r := R.glbTherm d
  let l := (List.range (sensorsOf d)).map (fun i => (l[i]?).join)
  let good := l.filterMap id
  let s := s.setFld r F.GlbTherm.sensBad (l.length - good.length)
  match good with
  | [] => (s.setDie d (fun x => { x with over115 := 0 })).enterZone d 4
  | x :: xs =>
    let t := xs.foldl max x
    let s := s.setFld r F.GlbTherm.tnow (unsignedOf t 16)
    let s := if signedOf (s.fld r F.GlbTherm.tmax) 16 < t then s.setFld r F.GlbTherm.tmax (unsignedOf t 16) else s
    let s := s.setDie d (fun x => { x with over115 := if 1840 ≤ t then x.over115 + 1 else 0 })
    s.enterZone d (s.zoneOf (s.fld r F.GlbTherm.zone) t)

/-- A trip (R55): its fuse is blown, every domain but the keepers' loses power, THERM_TRIP_N asserts, and the part is held. -/
def State.trip (s : State) (d : Nat) : State :=
  let n := min 15 (s.fuses.trips.get (fun _ => 0) d + 1)
  let s : State := { s with fuses := { s.fuses with trips := s.fuses.trips.set (fun _ => 0) d n } }
  let s := ((s.setFld (R.glbTherm d) F.GlbTherm.trips n).losePower).keeperRec 3 d 4
  let s := s.i3cEvent 0x12 d
  { s with pins := { s.pins with thermTrip := true, tripped := true, hold := .trip } }

/-- THERMAL_SAMPLE (R53, R54): every 10 µs; each die with its sensors' readings in 1/16 degree, none for one that fails its
self-check. -/
def execThermalSample (readings : List (Die × List (Option Int))) (s : State) : Host.Outcome State Fault Refusal :=
  .next (readings.foldl (fun (s : State) r => s.sampleDie r.1.val r.2) s)

/-- THERMAL_TRIP (R55): 115 degrees on two consecutive samples. -/
def execThermalTrip (die : Die) (s : State) : Host.Outcome State Fault Refusal :=
  if (s.die die.val).over115 < 2 || s.pins.hold = .trip then .next s else .next (s.trip die.val)

/-- TRIP_HOLD_END (R55): every healthy sensor reads below 95 degrees. -/
def execTripHoldEnd (s : State) : Host.Outcome State Fault Refusal :=
  if s.pins.hold ≠ .trip || (List.range 100).any (fun d => decide (s.fld (R.glbTherm d) F.GlbTherm.zone ≠ 4) && decide (1520 ≤ s.tnow d)) then
    .next s
  else .next { s with pins := { s.pins with thermTrip := false, hold := if s.pins.coldRst then .none else .await } }

/-- LIMIT_VOLTAGE_STEP (R54): in the limit zone the die's cap steps down 5 mV, to 0.72 V. -/
def execLimitVoltageStep (die : Die) (s : State) : Host.Outcome State Fault Refusal :=
  let d := die.val
  if s.fld (R.glbTherm d) F.GlbTherm.zone < 2 then .next s
  else
    let top := ((dieDomains d).map (fun n => s.fld (R.glbPd n) F.GlbPd.vset)).foldl max 0
    .next (s.setDie d (fun x => { x with capCode := some ((x.capCode.getD top) - 1) }))

/-- DUTY_STEP (R54): in the limit zone, a lathe die already at 0.72 V steps its DUTY down one level, to 25 %. -/
def execDutyStep (die : LDie) (s : State) : Host.Outcome State Fault Refusal :=
  let d := dLathe die.val
  let zone := s.fld (R.glbTherm d) F.GlbTherm.zone
  let duty := s.fld (R.glbTherm d) F.GlbTherm.duty
  if (zone = 2 || zone = 4) && duty < 3 && (dieDomains d).all (fun n => decide (s.effSetpoint n = 0)) then
    .next (s.setDuty die.val (duty + 1))
  else .next s

end Sys2Proof.Machine
end

