-- ==== Sys2Proof/Machine/Time.lean ====
section
/-! DEFINITION. The timebase, PTP, skew, and the turn boundary with everything that changes only there (R84 to R97). -/

namespace Sys2Proof.Machine

/-! ## The reference and its sources (R84, R97, R412) -/

/-- Time runs: the part has been released from reset and is not held (R84). -/
def State.running (s : State) : Bool := !s.pins.coldRst && s.pins.hold = .none

/-- REFERENCE_LOST (R97): the keepers run on their internal oscillator. -/
def execReferenceLost (s : State) : Host.Outcome State Fault Refusal :=
  let s : State := { s with pins := { s.pins with refPresent := false } }
  let s := ((s.setFld R.tbStat F.TbStat.refLost 1).setFld R.tbStat F.TbStat.refOk 0).setFld R.tbStat F.TbStat.internalOsc 1
  .next ((s.keeperRec 0 0xFF 0).i3cEvent 0x30 0xFF)

/-- REFERENCE_RECOVERED (R97): back to the input within 1 ms, by frequency alone. -/
def execReferenceRecovered (s : State) : Host.Outcome State Fault Refusal :=
  let s : State := { s with pins := { s.pins with refPresent := true } }
  .next ((s.setFld R.tbStat F.TbStat.refOk 1).setFld R.tbStat F.TbStat.internalOsc 0)

/-- TIMEBASE_SOURCE_FAIL (R84, R97): keeper East drives the timebase; no count is lost. -/
def execTimebaseSourceFail (s : State) : Host.Outcome State Fault Refusal :=
  .next ((s.setFld R.tbStat F.TbStat.master 1).keeperRec 0 (dKeeper 0) 0)

/-! ## Alignment inside the part (R86) -/

/-- INTERNAL_ALIGNMENT_DONE (R86). -/
def execInternalAlignmentDone (s : State) : Host.Outcome State Fault Refusal := .next (s.setFld R.tbStat F.TbStat.intAligned 1)

/-- One die's measured offset in 1/16 ns (R86): up to 2 ns it is trimmed away at once; beyond, it is recorded and stands until a later
measurement has trimmed it, and after more than 1 ms there the die fails. The record's SEV 2 and its DETAIL, the size of the offset, are the
model's (DESIGN CHOICE, log 40). -/
def State.measureDie (s : State) (d : Nat) (off : Int) : State :=
  let now := s.tb.tick
  let s := s.raiseMax R.tbStat F.TbStat.skewMax off.natAbs
  if off.natAbs ≤ 32 then s.setDie d (fun x => { x with skew := 0, skewSince := none })
  else
    let since := (s.die d).skewSince.getD now
    let s := s.setDie d (fun x => { x with skew := off, skewSince := some since })
    let s := s.setFld R.tbStat F.TbStat.skewErr 1
    let s := s.raise { plainRec 0x10 0 2 d (s.dieNow d) with detail := off.natAbs, part := ((s.planeOn d).partOfDie d).getD 0x1F }
    if since + 1000000 < now then s.failDie d else s

/-- SKEW_MEASURE (R86): the offset of each die that the keepers measure; SKEW_DIE names the largest, the first listed of several that are
equally large (DESIGN CHOICE, log 47). -/
def execSkewMeasure (offsets : List (Die × Int)) (s : State) : Host.Outcome State Fault Refusal :=
  match offsets with
  | [] => .next s
  | x :: xs =>
    let top := xs.foldl (fun (m : Die × Int) y => if m.2.natAbs < y.2.natAbs then y else m) x
    let s := s.setFld R.tbStat F.TbStat.skewDie top.1.val
    .next (offsets.foldl (fun (s : State) y => s.measureDie y.1.val y.2) s)

/-! ## The TB registers (R89, R90) -/

/-- A write of firmware to the TB block through the keepers' fence; a host write is dropped and counted (R90, R339). -/
def State.tbWrite (s : State) (w : Writer) (off : Nat) (go : State → State) : State :=
  match w with
  | .host fn => s.hostDrop fn.val 1 0 off F.HifDrop.wrDeny
  | .fw _ _ => s.fenced w s.glbDie off go

/-- TB_FREQ_WRITE (R90): applied at once, or refused outside ±100,000 ppb. -/
def execTbFreqWrite (w : Writer) (value : W64) (s : State) : Host.Outcome State Fault Refusal :=
  .next (s.tbWrite w R.tbFreq (fun s =>
    let v := F.TbFreq.ppb.get value
    if (signedOf v 32).natAbs ≤ 100000 then s.setFld R.tbFreq F.TbFreq.ppb v else s.setFld R.tbStat F.TbStat.adjRefused 1))

/-- TB_STEP_WRITE (R89, R90): a step waits for the next boundary, or is refused. -/
def execTbStepWrite (w : Writer) (value : W64) (s : State) : Host.Outcome State Fault Refusal :=
  .next (s.tbWrite w R.tbStep (fun s =>
    if value = 0 || 2 ^ 62 < value.toNat || s.fld R.tbStat F.TbStat.stepAllowed = 0 then s.setFld R.tbStat F.TbStat.stepRefused 1
    else
      let s : State := { s with tb := { s.tb with stepPend := some value.toNat } }
      (s.setFld R.tbStat F.TbStat.stepPending 1).setFld R.tbStat F.TbStat.stepAllowed 0))

/-- TB_PTP_CTL_WRITE (R90): a reserved domain leaves the whole register unchanged. -/
def execTbPtpCtlWrite (w : Writer) (value : W64) (s : State) : Host.Outcome State Fault Refusal :=
  .next (s.tbWrite w R.tbPtpCtl (fun s =>
    if 128 ≤ F.TbPtpCtl.domain.get value then s
    else ((s.setFld R.tbPtpCtl F.TbPtpCtl.port (F.TbPtpCtl.port.get value)).setFld R.tbPtpCtl F.TbPtpCtl.domain
      (F.TbPtpCtl.domain.get value)).setFld R.tbPtpCtl F.TbPtpCtl.en (F.TbPtpCtl.en.get value)))

/-! ## The turn boundary (R91, R92) -/

/-- The first tick of the next turn. -/
def State.nextBoundary (s : State) : Nat :=
  let n := max s.tb.ticks 1
  s.tb.tick + (n - (s.tb.tick - s.tb.origin) % n)

/-- A step that waits is applied: the boundary bears the stepped value, and ORIGIN advances with it (R89). A step is no passing of time, so
what is measured from an earlier tick moves with it. -/
def State.applyStep (s : State) : State :=
  match s.tb.stepPend with
  | none => s
  | some n =>
    let later (t : Nat) : Nat := t + n
    let s : State := { s with
      tb := { s.tb with tick := s.tb.tick + n, origin := s.tb.origin + n, stepPend := none }
      dies := s.dies.map (fun e => (e.1, { e.2 with skewSince := e.2.skewSince.map later, ctrlUe := e.2.ctrlUe.map later }))
      wakes := s.wakes.map (fun e => (e.1, match e.2 with
        | .started t => .started (later t)
        | w => w))
      boot := { s.boot with stepped := s.boot.stepped + n } }
    let s := (s.wr R.tbOrigin (BitVec.ofNat 64 s.tb.origin)).setFld R.tbStat F.TbStat.stepPending 0
    s.setFld R.tbStat F.TbStat.stepAllowed (b2n (!s.tb.planeEver))

/-- The number of ones in the low n bits of x. -/
def onesIn (x : Nat) : Nat → Nat
  | 0 => 0
  | n + 1 => b2n (bitOf x n) + onesIn x n

/-- Every die takes its spindle weight from the inputs that were active in the turn just ended (R175). -/
def State.turnWeights (s : State) : State :=
  (s.dies.map Prod.fst).foldl (fun (s : State) d =>
    s.setDie d (fun x => { x with spindleWeight := max 1 (onesIn x.inputs 8), inputs := 0 })) s

/-- Uplink groups that were rewritten take effect (R92, R133). -/
def State.turnGroups (s : State) : State :=
  if s.head.upgrpsNext = [] then s
  else { s with head := { s.head with
    upgrpsOld := s.head.upgrps
    upgrps := s.head.upgrpsNext.foldl (fun (t : Tbl (List Nat)) e => t.set (fun _ => []) e.1 e.2) s.head.upgrps
    upgrpsNext := [], upgrpsTick := s.tb.tick } }

/-- Every gate list begins with its first entry; a port without a list has every class open (R167, R177). -/
def State.turnGates (s : State) : State :=
  if s.img.active.isNone then s
  else (List.range 1024).foldl (fun (s : State) p =>
    if (s.planeOn (p / 32)).width (p / 32) (p % 32) = 0 then s
    else
      let r := R.ptdGateStat (p / 32) (p % 32)
      let now := match (s.planeOn (p / 32)).gateList (p / 32) (p % 32) with
        | [] => 0x3F
        | g :: _ => g.openSet
      (s.setFld r F.PtdGateStat.entry 0).setFld r F.PtdGateStat.openBits now) s

/-- The grains that the pools of each half have lost with retired banks, failed dies and dies treated as fused off (R28, R384, R395). -/
def State.turnPools (s : State) : State :=
  let lost (h : Nat) : Nat :=
    let gone (d : Nat) : Bool := (s.die (dBench d)).failed || s.bchOff d
    (((List.range 8).filter (fun i => gone (8 * h + i))).length * 290816)
      + ((s.err.retiredBanks.filter (fun b => decide (b / 1024 = h) && !gone (b / 128))).length * 4096)
  s.withBench (fun b => { b with lost := (b.lost.set (fun _ => 0) 0 (lost 0)).set (fun _ => 0) 1 (lost 1) })

/-- The lathes that have a slot plan. -/
def State.plannedLathes (s : State) : List Nat :=
  (List.range 120).filter (fun k => s.regs.any (fun e => decide (ltSlot k 0 ≤ e.1) && decide (e.1 ≤ ltSlot k 15)))

/-- Slots, takeovers and contexts at the boundary (R205, R214, R217, R219). -/
def State.turnLathes (s : State) : State :=
  let s := s.plannedLathes.foldl (fun (s : State) k => s.turnSlots k) s
  let s := (s.lathes.map Prod.fst).foldl (fun (s : State) k => s.finishTakeover k) s
  let cs := s.ctxs.map Prod.fst
  cs.foldl (fun (s : State) c => (s.finishPlaced c).turnPaced c) s

/-- The planes at the boundary, and the POWER section of one that activates there (R81, R82). -/
def State.turnPlanes (s : State) : State :=
  let gen := s.fld R.svImgAct F.SvImgAct.generation
  let old := s.img.active
  let s := s.planeBoundary
  match s.img.active with
  | none => s
  | some new => if s.fld R.svImgAct F.SvImgAct.generation = gen then s else s.applyPower old new

/-- What a turn boundary does, at its tick, before any event stamped with that tick (R91, R92): the holders are charged for the turn that
ends (R329); a step; the turn; the lease and the fences; the planes; jobs; power; slots and contexts; the rest. -/
def State.boundaryActs (s : State) : State :=
  let s := ((s.lathes.map Prod.fst).foldl (fun (s : State) k => s.chargeGrant k) s).applyStep
  let s : State := { s with tb := { s.tb with turn := s.tb.turn + 1 } }
  let s := s.handoverBoundary.adoptTerms
  let drain := s.plane.maxResMs
  let s := s.turnPlanes.jobBoundary drain
  let s := s.powerBoundary.turnLathes
  s.turnWeights.turnGroups.turnGates.turnPools.seamBoundary

/-- TURN_BOUNDARY (R91): time passes to the next boundary, and the boundary acts. Nothing while the part is held in reset. -/
def execTurnBoundary (s : State) : Host.Outcome State Fault Refusal :=
  if s.running then .next { s with tb := { s.tb with tick := s.nextBoundary } }.boundaryActs else .next s

/-- One tick of the timebase passes while no command waits (DESIGN CHOICE, log 1). -/
def State.idle (s : State) : State :=
  if !s.running then s
  else
    let t := s.nextBoundary
    let s' : State := { s with tb := { s.tb with tick := s.tb.tick + 1 } }
    if t = s.tb.tick + 1 then s'.boundaryActs else s'

end Sys2Proof.Machine
end

