-- ==== Sys2Proof/Machine/Startup.lean ====
section
/-! DEFINITION. COLD_RST_N, the start sequence, and the confirmation of a boot (R8, R28, R402 to R408, R414). -/

namespace Sys2Proof.Machine

/-! ## Cold reset (R404, R407, R414) -/

/-- The part as a cold reset leaves it: everything at its reset value but what survives: the fuses, the pins, the boot flash and TAP,
the ERR log and its counts, the dumps, and the boot attempts. -/
def State.coldReset (s : State) : State :=
  let r := State.reset
  let keep (s' : State) (off : Nat) : State := s'.wr off (s.rd off)
  let s' : State := { r with
    fuses := s.fuses
    pins := { s.pins with pwrFault := false, thermAlert := false, tripped := false }
    err := { r.err with log := s.err.log, dumps := s.err.dumps }
    side := { r.side with
      flashA := s.side.flashA, flashB := s.side.flashB, jtagIr := s.side.jtagIr, jtagBoundary := s.side.jtagBoundary
      jtagUnlocked := s.side.jtagUnlocked, jtagNet := s.side.jtagNet }
    freeCtr := s.freeCtr, outs := s.outs, pending := s.pending }
  let s' := keep (keep s' R.errStat) R.errDump
  let s' := s'.setFld R.glbBoot F.GlbBoot.attemptsA (s.fld R.glbBoot F.GlbBoot.attemptsA)
  let s' := s'.setFld R.glbBoot F.GlbBoot.attemptsB (s.fld R.glbBoot F.GlbBoot.attemptsB)
  let s' := (List.range 32).foldl (fun (s : State) d => s.fusedPtd d) s'.fusedLathes
  let s' := (s'.fuses.trips.map Prod.fst).foldl (fun (s : State) d =>
    s.setFld (R.glbTherm d) F.GlbTherm.trips (s.fuses.trips.get (fun _ => 0) d)) s'
  (List.range 536).foldl (fun (s : State) n => if s.domAbsent n then s.setDom n 0xF else s) s'

/-- COLD_RST_N_ASSERT (R55, R402, R414, R420): at least 10 µs resets the package; under 1 µs is ignored; between, the part may or may not
recognise it (a free value, log 3). While a trip or a lost VAUX_1V8 holds the part only the pin is seen. -/
def execColdRstNAssert (widthNs : Nat) (s : State) : Host.Outcome State Fault Refusal :=
  if widthNs < 1000 then .next s
  else
    let (w, s) := if widthNs < 10000 then s.free else (1, s)
    if w.toNat % 2 = 0 then .next s
    else if s.pins.hold = .trip || s.pins.hold = .vaux then .next { s with pins := { s.pins with coldRst := true } }
    else .next { s with pins := { s.pins with coldRst := true, hold := .none } }.coldReset

/-! ## The start (R402, R404, R405) -/

/-- Both supplies lie within their ranges (R44). -/
def State.suppliesOk (s : State) : Bool :=
  850 ≤ s.pins.vinMv && s.pins.vinMv ≤ 950 && 1710 ≤ s.pins.vauxMv && s.pins.vauxMv ≤ 1890

/-- ATTEMPTS of a copy. -/
def attemptsF (copy : Nat) : Fld := if copy = 0 then F.GlbBoot.attemptsA else F.GlbBoot.attemptsB

/-- The copy that keeper West selects among those with a valid record (R404). -/
def State.selectCopy (s : State) : Option Nat :=
  let ok := [0, 1].filter s.bootValid
  let pref := ok.filter (fun c => (s.bootRec c).byte 8 = 0x5A && decide (s.fld R.glbBoot (attemptsF c) < 2))
  match if pref = [] then ok else pref with
  | [] => none
  | [c] => some c
  | _ => if (s.bootRec 0).le 4 4 < (s.bootRec 1).le 4 4 then some 1 else some 0

/-- A copy becomes the one that is booted. -/
def State.bootCopy (s : State) (c : Nat) : State :=
  let s : State := { s with boot := { s.boot with copy := c, tried := if s.boot.tried.contains c then s.boot.tried else s.boot.tried ++ [c] } }
  (s.setFld R.glbBoot F.GlbBoot.copy c).setStage 2

/-- The domains that the keepers wake first: 496 to 535, and bank group 3 of each bench die (R405 step 2). -/
def earlyDomains : List Nat := (List.range 16).map (fun d => domBank d 3) ++ (List.range 40).map (fun i => 496 + i)

/-- Steps 1 to 3 of the start: the timebase, the early domains, the copy (R405). -/
def State.start (s : State) : State :=
  let present := s.pins.refPresent
  let s := (s.setFld R.tbStat F.TbStat.refOk (b2n present)).setFld R.tbStat F.TbStat.internalOsc (b2n (!present))
  let early := earlyDomains.filter (fun n => !s.domAbsent n)
  let s := early.foldl (fun (s : State) n => (s.setFld (R.glbPd n) F.GlbPd.req 2).domWake n) s
  let s := s.startGroup.setStage 1
  match s.selectCopy with
  | some c => s.bootCopy c
  | none => s.bootFail 3

/-- COLD_RST_N_RELEASE (R84, R402, R405): the tick counters start at 0; with a supply out of range the part waits for COLD_RST_N to be
asserted again. A part that is held does not start. -/
def execColdRstNRelease (s : State) : Host.Outcome State Fault Refusal :=
  if !s.pins.coldRst then .next s
  else
    let s : State := { s with pins := { s.pins with coldRst := false } }
    if s.pins.hold ≠ .none then .next s
    else
      let s := s.coldReset
      if s.suppliesOk then .next s.start
      else .next ({ s with pins := { s.pins with pwrFault := true, hold := .await } }.bootFail 1)

/-! ## The boot stage and the memory tiers (R404, R405, R408) -/

/-- The other copy, if its record is valid and it has not been tried in this start. -/
def State.otherCopy (s : State) : Option Nat :=
  let c := 1 - s.boot.copy
  if !s.boot.tried.contains c && s.bootValid c then some c else none

/-- Release supervisor v to boot the copy, unless its die has failed. -/
def State.releaseSv (s : State) (v : Nat) : State :=
  if (s.die (dSup v)).failed then s else (s.setSvState v 1).setFld (R.glbSvStat v) F.GlbSvStat.copy s.boot.copy

/-- BOOT_STAGE_LOADED (R404, R405 step 3): the boot stage matches its hash and the supervisors are released; else the copy is set
aside. -/
def execBootStageLoaded (s : State) : Host.Outcome State Fault Refusal :=
  if s.stage ≠ 2 then .next s
  else
    let c := s.boot.copy
    let b := s.bootRec c
    let img := s.flashRead c (b.le 16 4) (b.le 20 4)
    if sha384 img.bytes = (b.slice 40 48).bytes then
      let s : State := { s with boot := { s.boot with sram := img } }
      .next (((s.releaseSv 0).releaseSv 1).setStage (if s.boot.nearDone then 4 else 3))
    else match s.otherCopy with
      | some o => .next (s.bootCopy o)
      | none => .next ((s.setStage 1).bootFail 4)

/-- Memory that fails its training is absent for this start: its domain is left FAILED, and the log says so (R408). -/
def State.untrained (s : State) (n : Nat) : State := ((s.setDom n 5).setWake n .none).keeperRec 2 (domDie n) n

/-- NEAR_TIER_TRAINED (R405 step 4, R408): ok has a bit for each stack. -/
def execNearTierTrained (ok : BitVec 8) (s : State) : Host.Outcome State Fault Refusal :=
  if s.stage ≠ 3 || s.boot.nearDone then .next s
  else
    let good := s.stacks.filter (fun n => bitOf ok.toNat n)
    let s := (s.stacks.filter (fun n => !bitOf ok.toNat n)).foldl (fun (s : State) n => s.untrained (domNear n)) s
    match good with
    | [] => .next (s.bootFail 5)
    | n :: _ => .next ({ s with boot := { s.boot with nearDone := true, mainStack := some n } }.setStage 4)

/-- FAR_TIER_TRAINED (R405 steps 4 and 8, R408): ok has a bit for each channel, 3 d + c. -/
def execFarTierTrained (ok : BitVec 12) (s : State) : Host.Outcome State Fault Refusal :=
  if s.boot.farDone || s.stage < 3 then .next s
  else
    let s := ((List.range 12).filter (fun i => !bitOf ok.toNat i)).foldl (fun (s : State) i => s.untrained (domFar (i / 3) (i % 3))) s
    let s : State := { s with boot := { s.boot with farDone := true } }
    .next (if s.stage = 6 && s.imgState = 0 && s.boot.nearDone then s.nextFlashImage [] else s)

/-- MAIN_FIRMWARE_LOADED (R405 step 5, R408): the main firmware stands in the lowest stack that trained and matches its hash; else the
other copy is booted, or the start is HALTED. -/
def execMainFirmwareLoaded (s : State) : Host.Outcome State Fault Refusal :=
  if s.stage ≠ 4 then .next s
  else
    let c := s.boot.copy
    let b := s.bootRec c
    let img := s.flashRead c (b.le 24 4) (b.le 28 4)
    let at_ := (s.stacks.filter (fun i => decide (i < s.boot.mainStack.getD 0))).length * 2 ^ 36
    let s := s.nearWrite at_ img
    if sha384 img.bytes = (b.slice 88 48).bytes then
      .next ({ s with boot := { s.boot with mainDone := true } }.setStage 5)
    else match s.otherCopy with
      | some o =>
        let s := s.bootFail 6
        let s := (s.svBoot 0 o).svBoot 1 o
        .next (s.bootCopy o)
      | none => .next ((s.bootFail 6).setStage 9)

/-! ## Confirmation (R404, R407, R408) -/

/-- BOOT_CONFIRM (R404, R407): firmware, and only it, sets CONFIRMED under its term; the copy's attempts are cleared. -/
def execBootConfirm (w : Writer) (s : State) : Host.Outcome State Fault Refusal :=
  match w with
  | .host fn => .next (s.hostDrop fn.val 1 0 R.glbBoot F.HifDrop.wrDeny)
  | .fw _ _ => .next (s.fenced w s.glbDie R.glbBoot (fun s =>
    (s.setFld R.glbBoot F.GlbBoot.confirmed 1).setFld R.glbBoot (attemptsF (s.fld R.glbBoot F.GlbBoot.copy)) 0))

/-- BOOT_CONFIRM_TIMEOUT (R404, R408): 2 s after t0 without confirmation the copy's attempts rise, and once in a start the supervisors
restart from the other copy; with none left the start is HALTED. -/
def execBootConfirmTimeout (s : State) : Host.Outcome State Fault Refusal :=
  if !s.running || s.fld R.glbBoot F.GlbBoot.confirmed = 1 || s.tb.tick - s.boot.stepped < 2000000000 || s.stage < 2 || s.stage = 9 then
    .next s
  else
    let c := s.boot.copy
    let s := s.count R.glbBoot (attemptsF c)
    let code := if [3, 4].contains (s.svState 0) || [3, 4].contains (s.svState 1) then 9 else 7
    let s := s.bootFail code
    let next := if s.boot.fallback then none else s.otherCopy
    match next with
    | some o =>
      let s : State := { s with boot := { s.boot with fallback := true, mainDone := false } }
      let s := (s.svBoot 0 o).svBoot 1 o
      .next (if s.stage = 8 then
        { (s.setFld R.glbBoot F.GlbBoot.copy o) with boot := { s.boot with copy := o, mainDone := true, tried := s.boot.tried ++ [o] } }
        else s.bootCopy o)
    | none => .next (if s.stage = 8 then s else s.setStage 9)

end Sys2Proof.Machine
end

