-- ==== Sys2Proof/Machine/Host.lean ====
section
/-! DEFINITION. The host interface: resets of a function, the tier window, the DMA master, the host command FIFO and its commands, and
the mailboxes (R334 to R352). -/

namespace Sys2Proof.Machine

/-! ## Functions (R334, R352) -/

/-- A PCIe function beside its registers. -/
def State.fn (s : State) (fn : Nat) : FnSt := s.host.fns.get (fun _ => FnSt.fresh) fn

/-- Change a PCIe function. -/
def State.setFn (s : State) (fn : Nat) (f : FnSt → FnSt) : State :=
  { s with host := { s.host with fns := s.host.fns.modify (fun _ => FnSt.fresh) fn f } }

/-- A field of HIF_STAT of a function. -/
def State.hif (s : State) (fn : Nat) (f : Fld) : Nat := s.fld (fnReg fn R.hifStat) f

/-- Write a field of HIF_STAT of a function. -/
def State.setHif (s : State) (fn : Nat) (f : Fld) (x : Nat) : State := s.setFld (fnReg fn R.hifStat) f x

/-- Firmware's own record in the ERR log. R376 gives no SOURCE, SEV or DETAIL for it, so those are free values (log 3). -/
def State.fwRec (s : State) (die addr : Nat) : State :=
  let (w, s) := s.free
  let v := w.toNat
  s.logAppend { plainRec (1 + v % 0x15) 0 (bitsOf v 16 2) die s.tb.tick with addr := addr, detail := bitsOf v 32 32 }

/-- A function's supervisor leads; on A1 the West supervisor relays to the leader (R334, R372). -/
def State.fnLeads (s : State) (fn : Nat) : Bool :=
  if s.fuses.stepLetter = 0xA then s.leader.isSome else s.leader = some fn

/-- The leader as a writer, with its term. -/
def State.leaderWriter (s : State) : Writer :=
  .fw ⟨s.leader.getD 0 % 2, Nat.mod_lt _ (by decide)⟩ (s.majority.map (fun m => m.1))

/-! ## Replies (R346, R351) -/

/-- The reply word of a command. -/
def HcfCmd.replyWord (c : HcfCmd) (ret result : Nat) : W64 :=
  BitVec.ofNat 64 ((c.code % 256) * 2 ^ 56 + (c.tag % 256) * 2 ^ 48 + (ret % 2 ^ 16) * 2 ^ 32 + result % 2 ^ 32)

/-- F2H mailbox i of a function holds a word that the host has not released (R349). -/
def State.f2hFull (s : State) (fn i : Nat) : Bool := bitOf (s.fld (fnReg fn R.mbxFull) F.MbxFull.f2hFull) i

/-- Firmware replies once the mailbox is empty, and waits until then (R346). -/
def State.sendReply (s : State) (fn i : Nat) (v : W64) : State :=
  if s.f2hFull fn i then s.setFn fn (fun x => { x with owed := x.owed ++ [(i, v)] }) else s.f2hPut fn i v

/-- Reply to a command with a return code. Where R346 states no result, it is a free value. -/
def State.hcfReply (s : State) (fn : Nat) (c : HcfCmd) (ret : Nat) (result : Option Nat) : State :=
  match c.reply with
  | none => s
  | some i =>
    match result with
    | some r => s.sendReply fn i (c.replyWord ret r)
    | none =>
      let (w, s) := s.free
      s.sendReply fn i (c.replyWord ret w.toNat)

/-- The low 32 bits of SV_IMG_STAT: the result of an IMAGE command (R346). -/
def State.imgResult (s : State) : Nat := (s.rd R.svImgStat).toNat % 2 ^ 32

/-! ## The DMA master (R342 to R344) -/

/-- The transfer of a DMA channel. -/
def State.chan (s : State) (c : Nat) : Option DmaChan := s.host.chans.get (fun _ => none) c

/-- The reads that a channel has outstanding: requests of at most 512 bytes, at most 128 (R334). -/
def DmaChan.reads (x : DmaChan) : Nat := min ((x.wait + 511) / 512) 128

/-- Store a channel's transfer, and show it in SV_DMA_STAT (R344). -/
def State.putChan (s : State) (c : Nat) (x : DmaChan) : State :=
  let s : State := { s with host := { s.host with chans := s.host.chans.set (fun _ => none) c (some x) } }
  (s.setFld (R.svDmaStat c) F.SvDmaStat.outstanding x.reads).setFld (R.svDmaStat c) F.SvDmaStat.bytes x.moved

/-- A channel is busy: it runs, or still waits for reads to end. -/
def State.chanBusy (s : State) (c : Nat) : Bool :=
  match s.chan c with
  | some x => x.live || decide (x.wait ≠ 0)
  | none => false

/-- The requester identifier of the DMA master (R144). -/
def dmaReq : Nat := 0x484

/-- A stopped channel's reads have ended: requester 0x484 is reclaimed (R343). -/
def State.chanEnded (s : State) (c : Nat) (x : DmaChan) : State := (s.putChan c { x with wait := 0 }).reclaimNow dmaReq

/-- A running channel stops with ERR err, and the DMA master is reset (R343). MSI-X vector 0 leaves only while Bus Master Enable is set
and the link stands; after an FLR or PERST# completions are dropped as unexpected. -/
def State.dmaStop (s : State) (c err : Nat) : State :=
  match s.chan c with
  | none => s
  | some x =>
    if !x.live then s
    else
      let r := R.svDmaStat c
      let s := (s.setFld r F.SvDmaStat.state 2).setFld r F.SvDmaStat.err err
      let x := { x with live := false, done := false, deaf := err = 2 || err = 3 }
      let s := s.putChan c x
      let s := match x.use with
        | .image => (s.imageStopped).hcfReply x.fn x.cmd 9 (some s.imageStopped.imgResult)
        | _ => s.hcfReply x.fn x.cmd 9 none
      let s := if err ≤ 3 then s else s.msix x.fn 0
      if x.wait = 0 then s.chanEnded c x else s

/-- Read the next 16-byte list entry (R342). -/
def State.readEntry (s : State) (c : Nat) (x : DmaChan) : State :=
  (s.putChan c { x with wait := 16, inList := true, part := Blob.empty }).emit (.dmaRead c x.list 16)

/-- A channel starts on a command: RUNNING; without Bus Master Enable it can issue no request and stops. -/
def State.dmaStart (s : State) (c : Nat) (x : DmaChan) : State :=
  let r := R.svDmaStat c
  let s := (s.setFld r F.SvDmaStat.state 1).setFld r F.SvDmaStat.err 0
  if s.hif x.fn F.HifStat.bme = 0 || s.hif x.fn F.HifStat.dState ≠ 0 then (s.putChan c x).dmaStop c 1 else s.readEntry c x

/-- A new transfer of a function's command. -/
def newChan (use : DmaUse) (fn : Nat) (cmd : HcfCmd) (list total : Nat) : DmaChan :=
  ⟨use, fn, cmd, list, 0, total, 0, 0, false, Blob.empty, false, Blob.empty, true, false, false⟩

/-- Whether a list entry keeps R342, for a channel that has moved and read what x says. -/
def DmaChan.entryOk (x : DmaChan) (e : Blob) : Bool :=
  let len := e.le 8 4
  let flags := e.le 12 4
  e.le 0 8 % 64 = 0 && len % 64 = 0 && 64 ≤ len && len ≤ 2 ^ 24 && flags ≤ 1 && x.entries < 65536 && x.moved + len ≤ x.total
    && (flags = 0 || x.moved + len = x.total)

/-- The bytes of an entry have moved: the channel reads the next one, or has moved its last byte. -/
def State.entryMoved (s : State) (c : Nat) (x : DmaChan) : State :=
  if x.last then s.putChan c { x with done := true } else s.readEntry c x

/-- A whole list entry has arrived (R342): channel IN reads its data, channel OUT writes the dump's bytes. -/
def State.takeEntry (s : State) (c : Nat) (x : DmaChan) : State :=
  let e := x.part
  if !x.entryOk e then (s.putChan c x).dmaStop c 7
  else
    let addr := e.le 0 8
    let len := e.le 8 4
    let x := { x with inList := false, part := Blob.empty, list := x.list + 16, entries := x.entries + 1, last := e.le 12 4 = 1 }
    match x.use with
    | .dump n =>
      let s := s.emit (.dmaWrite c addr len n x.moved)
      s.entryMoved c { x with moved := x.moved + len }
    | _ => (s.putChan c { x with wait := len }).emit (.dmaRead c addr len)

/-- Data of a read arrives on a running channel. -/
def State.takeData (s : State) (c : Nat) (x : DmaChan) (d : Blob) : State :=
  let s := match x.use with
    | .image => if s.imgState = 1 then s.addImage d else s
    | _ => s
  let x := { x with
    moved := x.moved + d.len, wait := x.wait - d.len
    buf := match x.use with
      | .flash _ => x.buf.append d
      | _ => x.buf }
  if x.wait = 0 then s.entryMoved c x else s.putChan c x

/-- DMA_COMPLETION (R342, R343): data arrives in the order of the requests; on a channel that has stopped it is discarded, and what no
read asked for is dropped. -/
def execDmaCompletion (ch : Fin 2) (data : Blob) (s : State) : Host.Outcome State Fault Refusal :=
  let c := ch.val
  match s.chan c with
  | none => .next s
  | some x =>
    let n := min data.len x.wait
    let d := data.slice 0 n
    if x.deaf || n = 0 then .next s
    else if !x.live then
      let x := { x with wait := x.wait - n }
      .next (if x.wait = 0 then s.chanEnded c x else s.putChan c x)
    else if x.inList then
      let x := { x with wait := x.wait - n, part := x.part.append d }
      .next (if x.wait = 0 then s.takeEntry c x else s.putChan c x)
    else .next (s.takeData c x d)

/-- ERR of a failed read (R344). -/
def dmaErr : DmaFail → Nat
  | .timeout => 4
  | .poison => 5
  | .ur => 6
  | .ca => 6

/-- DMA_READ_TIMEOUT (R343): a read times out, or completes with UR, CA or poison: the channel stops, and the ERR log records it. On a
channel that has stopped, its last reads have ended. -/
def execDmaReadTimeout (ch : Fin 2) (cause : DmaFail) (s : State) : Host.Outcome State Fault Refusal :=
  let c := ch.val
  match s.chan c with
  | none => .next s
  | some x =>
    if x.wait = 0 then .next s
    else if x.live then .next ((s.dmaStop c (dmaErr cause)).fwRec (dSup x.fn) x.list)
    else .next (s.chanEnded c x)

/-- Stop every running channel that serves a function. -/
def State.stopFn (s : State) (fn err : Nat) : State :=
  [0, 1].foldl (fun (s : State) c =>
    match s.chan c with
    | some x => if x.fn = fn then s.dmaStop c err else s
    | none => s) s

/-- BME_CLEAR (R339, R343): the host writes the Command register; Bus Master Enable cleared stops the DMA master. Set again, it
leaves a stopped channel so. -/
def execBmeClear (fn : Sv) (bme mse : Bool) (s : State) : Host.Outcome State Fault Refusal :=
  let s := (s.setHif fn.val F.HifStat.bme (b2n bme)).setHif fn.val F.HifStat.mse (b2n mse)
  .next (if bme then s else s.stopFn fn.val 1)

/-- D3HOT_ENTRY (R334): D_STATE; in D3hot the DMA master stops as if Bus Master Enable were cleared. -/
def execD3hotEntry (fn : Sv) (d3 : Bool) (s : State) : Host.Outcome State Fault Refusal :=
  let s := s.setHif fn.val F.HifStat.dState (if d3 then 3 else 0)
  .next (if d3 then s.stopFn fn.val 1 else s)

/-- PCIE_LINK_DOWN (R339, R343): SPEED and WIDTH follow the link; its loss stops the DMA master and is counted in PERSTS. -/
def execPcieLinkDown (fn : Sv) (trained : Option (Fin 6 × Fin 9)) (s : State) : Host.Outcome State Fault Refusal :=
  match trained with
  | some (v, w) =>
    if v.val = 0 || !([1, 2, 4, 8].contains w.val) then .next s
    else .next ((s.setHif fn.val F.HifStat.speed v.val).setHif fn.val F.HifStat.width w.val)
  | none =>
    let s := (s.setHif fn.val F.HifStat.speed 0).setHif fn.val F.HifStat.width 0
    .next ((s.count (fnReg fn.val R.hifStat) F.HifStat.persts).stopFn fn.val 3)

/-- Firmware abandons every reply it owes a function (R352). -/
def State.abandonReplies (s : State) (fn : Nat) : State :=
  let s := s.setFn fn (fun x => { x with owed := [], taken := x.taken.map (fun c => { c with reply := none }) })
  [0, 1].foldl (fun (s : State) c =>
    match s.chan c with
    | some x => if x.fn = fn then s.putChan c { x with cmd := { x.cmd with reply := none } } else s
    | none => s) s

/-- A reset of a function's PCIe controller and HIF block, and nothing else (R352); FLRS and PERSTS keep their counts, by which firmware
sees the reset. -/
def State.resetFn (s : State) (fn err : Nat) : State :=
  let s := (s.abandonReplies fn).stopFn fn err
  let s := ((s.setHif fn F.HifStat.bme 0).setHif fn F.HifStat.mse 0).setHif fn F.HifStat.dState 0
  let s := ((s.wr (fnReg fn R.hifDrop) 0).wr (fnReg fn R.hifOvr) 0).wr (fnReg fn R.hifWin) 0
  let s := s.setFn fn (fun x => { x with unsupported := none, poisoned := false })
  { s with host := { s.host with
    msixTable := s.host.msixTable.filter (fun e => decide (e.1 / 12 ≠ fn)), msixPend := s.host.msixPend.del fn } }

/-- PERST_ASSERT (R343, R352, R414): PERST# for at least 100 µs, or a hot reset; whether a shorter pulse is recognised is a free value.
The link is down. -/
def execPerstAssert (fn : Sv) (kind : PerstKind) (widthNs : Nat) (s : State) : Host.Outcome State Fault Refusal :=
  let (w, s) := if kind = .pin && widthNs < 100000 then s.free else (1, s)
  if w.toNat % 2 = 0 then .next s
  else
    let s := (s.resetFn fn.val 3).count (fnReg fn.val R.hifStat) F.HifStat.persts
    .next ((s.setHif fn.val F.HifStat.speed 0).setHif fn.val F.HifStat.width 0)

/-- FUNCTION_LEVEL_RESET (R343, R352). -/
def execFunctionLevelReset (fn : Sv) (s : State) : Host.Outcome State Fault Refusal :=
  .next ((s.resetFn fn.val 2).count (fnReg fn.val R.hifStat) F.HifStat.flrs)

/-! ## The boot flash (R359, R403) -/

/-- Write bytes of a boot-flash copy. -/
def State.flashPut (s : State) (copy a : Nat) (b : Blob) : State :=
  if copy = 0 then { s with side := { s.side with flashA := memWrite s.side.flashA a b.len b.val } }
  else { s with side := { s.side with flashB := memWrite s.side.flashB a b.len b.val } }

/-- Firmware's verification of a whole copy: a valid record, and the hashes of the boot stage and the main firmware (R359, R403). -/
def State.copyVerified (s : State) (copy : Nat) : Bool :=
  let b := s.bootRec copy
  let hashed (o n at_ : Nat) : Bool :=
    decide (sha384 (s.flashRead copy (b.le o 4) (b.le n 4)).bytes = (b.slice at_ 48).bytes)
  s.bootValid copy && hashed 16 20 40 && hashed 24 28 88

/-- FLASH_WRITE ends: the copy is written with BOOTABLE clear, verified, and only then marked bootable. -/
def State.flashDone (s : State) (copy : Nat) (data : Blob) : Bool × State :=
  let s := (s.flashPut copy 0 data).flashPut copy 8 ⟨1, 0⟩
  if s.copyVerified copy then (true, s.flashPut copy 8 ⟨1, 0x5A⟩) else (false, s)

/-- What a transfer that has moved its last byte brings about, and its reply (R346, R359, R393). -/
def State.chanFinish (s : State) (x : DmaChan) : State :=
  match x.use with
  | .image => s.hcfReply x.fn x.cmd 0 (some s.imgResult)
  | .flash copy =>
    let (ok, s) := s.flashDone copy x.buf
    s.hcfReply x.fn x.cmd (if ok then 0 else 4) none
  | .dump n =>
    let held := s.fld R.errDump F.ErrDump.held
    let mine : Bool := (s.err.dumps.get (fun _ => none) (n % 8)).any (fun d => decide (d.number = n))
    let s := if mine && bitOf held (n % 8) then s.setFld R.errDump F.ErrDump.held (held - 2 ^ (n % 8)) else s
    s.hcfReply x.fn x.cmd 0 none

/-- DMA_CHANNEL_DONE (R334, R342): DONE, MSI-X vector 0, and the command's reply. -/
def execDmaChannelDone (ch : Fin 2) (s : State) : Host.Outcome State Fault Refusal :=
  let c := ch.val
  match s.chan c with
  | none => .next s
  | some x =>
    if !x.live || !x.done then .next s
    else
      let s := (s.putChan c { x with live := false }).setFld (R.svDmaStat c) F.SvDmaStat.state 3
      .next ((s.chanFinish x).msix x.fn 0)

/-! ## The host command FIFO (R345 to R348) -/

/-- The depth of the FIFO. -/
def hcfDepth : Nat := 512

/-- A word is written to HCF_DATA or HCF_DATA_END: appended with its parity, or ignored while the FIFO is full, which leaves the command
open and broken (R345, R347, R348). -/
def State.hcfPush (s : State) (fn : Nat) (word : W64) (parityOk last : Bool) : State :=
  let x := s.fn fn
  if !s.hostIn fn then s
  else if hcfDepth ≤ x.fifo.length then
    let s := (s.setFld (fnReg fn R.hcfStat) F.HcfStat.overrun 1).count (fnReg fn R.hcfStat) F.HcfStat.overruns
    s.setFn fn (fun x => { x with opened := true, broken := true })
  else s.setFn fn (fun x => { x with
    fifo := x.fifo ++ [⟨word, parityOk, last, last && x.broken⟩], opened := !last, broken := x.broken && !last })

/-- HCF_DATA_WRITE (R347). -/
def execHcfDataWrite (fn : Sv) (word : W64) (parityOk : Bool) (s : State) : Host.Outcome State Fault Refusal :=
  .next (s.hcfPush fn.val word parityOk false)

/-- HCF_DATA_END_WRITE (R347). -/
def execHcfDataEndWrite (fn : Sv) (word : W64) (parityOk : Bool) (s : State) : Host.Outcome State Fault Refusal :=
  .next (s.hcfPush fn.val word parityOk true)

/-- Put what is left of a FIFO; MSI-X vector 1 when it becomes empty (R334). -/
def State.hcfRest (s : State) (fn : Nat) (rest : List HcfWord) : State :=
  let had : Bool := (s.fn fn).fifo ≠ []
  let s := s.setFn fn (fun x => { x with fifo := rest })
  if had && rest = [] then s.msix fn 1 else s

/-- FLUSH (R347, R348): every word is discarded, and no command is open. -/
def execFlush (fn : Sv) (s : State) : Host.Outcome State Fault Refusal :=
  if !s.hostIn fn.val then .next s
  else .next ((s.setFn fn.val (fun x => { x with opened := false, broken := false })).hcfRest fn.val [])

/-- The words of the first whole command, and the words after it. -/
def splitCmd : List HcfWord → Option (List HcfWord × List HcfWord)
  | [] => none
  | w :: ws =>
    if w.last then some ([w], ws)
    else match splitCmd ws with
      | some (a, b) => some (w :: a, b)
      | none => none

/-- The header of a command (R346). -/
def hcfHeader (w : W64) : HcfCmd :=
  let h := w.toNat
  let r := bitsOf h 43 5
  ⟨bitsOf h 56 8, bitsOf h 48 8, if 16 ≤ r then some r else none, []⟩

/-- HCF_TAKE (R345, R346, R348): firmware takes one whole command, unless it still has one in hand: it is discarded with a reply, or
without one where REPLY is outside 16 to 31, or it is the command to execute. While no supervisor leads, requests wait (R367). Policy
modules are absent, so their codes are unknown. -/
def execHcfTake (fn : Sv) (s : State) : Host.Outcome State Fault Refusal :=
  let n := fn.val
  if (s.fn n).taken.isSome || s.leader.isNone then .next s
  else match splitCmd (s.fn n).fifo with
    | none => .next s
    | some (ws, rest) =>
      let s := s.hcfRest n rest
      let h := (ws.map (fun w => w.word)).headD 0
      let c := hcfHeader h
      if c.reply.isNone then .next (s.fwRec (dSup n) h.toNat)
      else if ws.any (fun w => w.broken) then .next (s.hcfReply n c 6 none)
      else if ws.any (fun w => !w.parityOk) then .next ((s.count (fnReg n R.hcfStat) F.HcfStat.parity).hcfReply n c 7 none)
      else if bitsOf h.toNat 0 10 ≠ ws.length then .next (s.hcfReply n c 5 none)
      else if !s.fnLeads n then .next (s.hcfReply n c 8 none)
      else if c.code = 0 || 0x0A < c.code then .next (s.hcfReply n c 2 none)
      else .next (s.setFn n (fun x => { x with taken := some { c with args := (ws.drop 1).map (fun w => w.word) } }))

/-- Execute the command in hand, if it has this code: with a wrong number of arguments it is BAD_ARG. While no supervisor leads it waits
(R367), and when another supervisor leads it is NOT_LEADER (R334). -/
def State.hcfRun (s : State) (fn code nargs : Nat) (go : State → HcfCmd → List Nat → State) : State :=
  match (s.fn fn).taken with
  | none => s
  | some c =>
    if c.code ≠ code || s.leader.isNone then s
    else
      let s := s.setFn fn (fun x => { x with taken := none })
      let args := c.args.map (fun a => a.toNat)
      if !s.fnLeads fn then s.hcfReply fn c 8 none
      else if args.length ≠ nargs then s.hcfReply fn c 3 none else go s c args

/-- An IMAGE command on the shadow plane: REFUSED when the part refuses it, with the low half of SV_IMG_STAT as the result (R346, R351). -/
def State.hcfImage (s : State) (fn : Nat) (c : HcfCmd) (go : State → State) : State :=
  let was := s.fld R.svImgStat F.SvImgStat.cmdRefused
  let s := go (s.setFld R.svImgStat F.SvImgStat.cmdRefused 0)
  let refused := s.fld R.svImgStat F.SvImgStat.cmdRefused
  let s := s.setFld R.svImgStat F.SvImgStat.cmdRefused (max was refused)
  s.hcfReply fn c (if refused = 1 then 4 else 0) (some s.imgResult)

/-- IMAGE_LOAD (R342, R346): list address and IMAGE_LEN, over channel IN. -/
def execImageLoad (fn : Sv) (s : State) : Host.Outcome State Fault Refusal :=
  .next (s.hcfRun fn.val 0x01 2 (fun s c args =>
    let list := args.getD 0 0
    let len := args.getD 1 0
    if list % 64 ≠ 0 || len % 256 ≠ 0 || len < 8192 || 2 ^ 28 < len then s.hcfReply fn.val c 3 (some s.imgResult)
    else if s.chanBusy 0 then s.hcfReply fn.val c 1 (some s.imgResult)
    else if !s.mayLoad then s.hcfImage fn.val c State.imgRefuse
    else (s.beginImage len 3).dmaStart 0 (newChan .image fn.val c list len)))

/-- IMAGE_CHECK (R346). -/
def execImageCheck (fn : Sv) (s : State) : Host.Outcome State Fault Refusal :=
  .next (s.hcfRun fn.val 0x02 0 (fun s c _ => s.hcfImage fn.val c (fun s => s.imgCommand s.leaderWriter State.imgCheck)))

/-- IMAGE_ARM (R346): TARGET_TURN has 32 bits. -/
def execImageArm (fn : Sv) (s : State) : Host.Outcome State Fault Refusal :=
  .next (s.hcfRun fn.val 0x03 1 (fun s c args =>
    let t := args.getD 0 0
    if 2 ^ 32 ≤ t then s.hcfReply fn.val c 3 (some s.imgResult)
    else
      let term := ((s.majority.map (fun m => m.1)).getD 0)
      s.hcfImage fn.val c (fun s => s.imgCommand s.leaderWriter (fun s => s.imgArm t term))))

/-- IMAGE_CANCEL (R346). -/
def execImageCancel (fn : Sv) (s : State) : Host.Outcome State Fault Refusal :=
  .next (s.hcfRun fn.val 0x04 0 (fun s c _ => s.hcfImage fn.val c (fun s => s.imgCommand s.leaderWriter State.imgCancel)))

/-- IMAGE_DISCARD (R346). -/
def execImageDiscard (fn : Sv) (s : State) : Host.Outcome State Fault Refusal :=
  .next (s.hcfRun fn.val 0x05 0 (fun s c _ => s.hcfImage fn.val c (fun s => s.imgCommand s.leaderWriter State.imgDiscard)))

/-- The bytes of a tier, by TIER of HIF_WIN (R341). -/
def State.tierBytes (s : State) (tier : Nat) : Nat := if tier = 1 then s.nearBytes else farBytes

/-- WINDOW (R341, R346): the window is placed by a word packed as HIF_WIN; TIER 0 closes it. Firmware allows the whole of a tier
(DESIGN CHOICE, log 21). -/
def execWindow (fn : Sv) (s : State) : Host.Outcome State Fault Refusal :=
  .next (s.hcfRun fn.val 0x06 1 (fun s c args =>
    let v := BitVec.ofNat 64 (args.getD 0 0)
    let tier := F.HifWin.tier.get v
    let len := F.HifWin.lenMib.get v
    let r := fnReg fn.val R.hifWin
    let used := F.HifWin.wr.mask ||| F.HifWin.tier.mask ||| F.HifWin.lenMib.mask ||| F.HifWin.base.mask
    if v &&& ~~~ used ≠ 0 || tier = 3 then s.hcfReply fn.val c 3 none
    else if tier = 0 then (s.wr r 0).hcfReply fn.val c 0 none
    else if len = 0 || 1024 < len || s.tierBytes tier < (F.HifWin.base.get v + len) * 2 ^ 20 then s.hcfReply fn.val c 3 none
    else (s.wr r v).hcfReply fn.val c 0 none))

/-- DUMP_FETCH (R346, R393): dump number and list address, over channel OUT. -/
def execDumpFetch (fn : Sv) (s : State) : Host.Outcome State Fault Refusal :=
  .next (s.hcfRun fn.val 0x07 2 (fun s c args =>
    let n := args.getD 0 0
    let list := args.getD 1 0
    match s.err.dumps.get (fun _ => none) (n % 8) with
    | none => s.hcfReply fn.val c 3 none
    | some d =>
      if d.number ≠ n || list % 64 ≠ 0 then s.hcfReply fn.val c 3 none
      else if s.chanBusy 1 then s.hcfReply fn.val c 1 none
      else s.dmaStart 1 (newChan (.dump n) fn.val c list d.len)))

/-- OVERRIDE (R338, R346): 1 grants the host writes to GLB under the leader's term, 0 releases them. -/
def execOverride (fn : Sv) (s : State) : Host.Outcome State Fault Refusal :=
  .next (s.hcfRun fn.val 0x08 1 (fun s c args =>
    let r := fnReg fn.val R.hifOvr
    match args.getD 0 0 with
    | 0 => (s.wr r 0).hcfReply fn.val c 0 none
    | 1 =>
      let s := (s.setFld r F.HifOvr.grant 1).setFld r F.HifOvr.term ((s.majority.map (fun m => m.1)).getD 0)
      s.hcfReply fn.val c 0 none
    | _ => s.hcfReply fn.val c 3 none))

/-- FLASH_WRITE (R346, R359): copy, list address and length, over channel IN; REFUSED for the copy that the part booted from. -/
def execFlashWrite (fn : Sv) (s : State) : Host.Outcome State Fault Refusal :=
  .next (s.hcfRun fn.val 0x09 3 (fun s c args =>
    let copy := args.getD 0 0
    let list := args.getD 1 0
    let len := args.getD 2 0
    if 1 < copy || list % 64 ≠ 0 || len % 64 ≠ 0 || len = 0 || flashBytes < len then s.hcfReply fn.val c 3 none
    else if s.fld R.glbBoot F.GlbBoot.copy = copy then s.hcfReply fn.val c 4 none
    else if s.chanBusy 0 then s.hcfReply fn.val c 1 none
    else s.dmaStart 0 (newChan (.flash copy) fn.val c list len)))

/-- EVENT_READ (R346, R394): the sequence number of the next unread event, or 0. -/
def execEventRead (fn : Sv) (s : State) : Host.Outcome State Fault Refusal :=
  .next (s.hcfRun fn.val 0x0A 0 (fun s c _ =>
    if s.err.evtRead < s.err.evtSeq then
      let n := s.err.evtRead + 1
      let s : State := { s with err := { s.err with evtRead := n } }
      s.hcfReply fn.val c 0 (some n)
    else s.hcfReply fn.val c 0 (some 0)))

/-! ## The tier window (R340, R341) -/

/-- The tier (0 near, 1 far) and address that BAR2 reaches with an access of len bytes at off, where the window covers it whole. -/
def State.bar2At (s : State) (fn off len : Nat) : Option (Nat × Nat) :=
  let r := fnReg fn R.hifWin
  let tier := s.fld r F.HifWin.tier
  if (tier = 1 || tier = 2) && off + len ≤ s.fld r F.HifWin.lenMib * 2 ^ 20 then
    some (tier - 1, s.fld r F.HifWin.base * 2 ^ 20 + off)
  else none

/-- BAR2_READ (R340): up to 512 bytes; zeros outside the window; poisoned where the memory is. -/
def execBar2Read (fn : Sv) (off len : Nat) (s : State) : Host.Outcome State Fault Refusal :=
  if !s.hostIn fn.val then .next s
  else if 512 < len then .next (s.emit (.unsupported fn.val 2 off))
  else match s.bar2At fn.val off len with
    | none => .next ((s.hostDrop fn.val 4 1 off F.HifDrop.rdBad).emit (.readReply ⟨len, 0⟩))
    | some (tier, a) =>
      if s.tierBurred tier a len then
        let s := (s.setFn fn.val (fun x => { x with poisoned := true })).emit (.poisonedReply (s.tierRead tier a len))
        .next (s.logAppend { plainRec (if tier = 0 then 0x06 else 0x08) 0 2 (s.tierDie tier a) s.tb.tick with addr := a })
      else .next (s.emit (.readReply (s.tierRead tier a len)))

/-- BAR2_WRITE (R340): up to Max Payload Size; discarded outside the window, or with WR = 0. -/
def execBar2Write (fn : Sv) (off : Nat) (data : Blob) (s : State) : Host.Outcome State Fault Refusal :=
  if !s.hostIn fn.val then .next s
  else if 512 < data.len then .next (s.emit (.unsupported fn.val 2 off))
  else match s.bar2At fn.val off data.len with
    | some (tier, a) =>
      if s.fld (fnReg fn.val R.hifWin) F.HifWin.wr = 1 then .next (s.tierWrite tier a data)
      else .next (s.hostDrop fn.val 4 1 off F.HifDrop.wrDeny)
    | none => .next (s.hostDrop fn.val 4 1 off F.HifDrop.wrDeny)

/-! ## Mailboxes (R349, R350) -/

/-- MBX_H2F_WRITE (R350): stored while the mailbox is free; else discarded as an Unsupported Request. -/
def execMbxH2fWrite (fn : Sv) (i : Fin 32) (value : W64) (s : State) : Host.Outcome State Fault Refusal :=
  let n := fn.val
  let full := fnReg n R.mbxFull
  if !s.hostIn n then .next s
  else if bitOf (s.fld full F.MbxFull.h2fFull) i.val then
    let r := fnReg n R.mbxLog
    let s := ((s.count r F.MbxLog.discards).setFld r F.MbxLog.lastIdx i.val).setFld r F.MbxLog.lastLo (value.toNat % 2 ^ 32)
    let s := s.setFn n (fun x => { x with unsupported := some (R.mbxH2f i.val, value) })
    .next (s.emit (.unsupported n 0 (R.mbxH2f i.val)))
  else
    let s := (s.wr (fnReg n (R.mbxH2f i.val)) value).setFld full F.MbxFull.h2fFull (s.fld full F.MbxFull.h2fFull ||| 2 ^ i.val)
    .next (s.setFld (fnReg n (R.mbxAck i.val)) F.MbxAck.acked 0)

/-- MBX_ACK (R350): firmware acknowledges with a return code. -/
def execMbxAck (fn : Sv) (i : Fin 32) (code : Nat) (s : State) : Host.Outcome State Fault Refusal :=
  let n := fn.val
  let full := fnReg n R.mbxFull
  let was := s.fld full F.MbxFull.h2fFull
  let s := if bitOf was i.val then s.setFld full F.MbxFull.h2fFull (was - 2 ^ i.val) else s
  let r := fnReg n (R.mbxAck i.val)
  .next ((s.setFld r F.MbxAck.acked 1).setFld r F.MbxAck.code code)

/-- MBX_F2H_WRITE (R350): firmware writes the mailbox, or gets a bus error while it is full. -/
def execMbxF2hWrite (fn : Sv) (i : Fin 32) (value : W64) (s : State) : Host.Outcome State Fault Refusal :=
  if s.f2hFull fn.val i.val then .next (s.emit (.fwBusError fn.val (R.mbxF2h i.val))) else .next (s.f2hPut fn.val i.val value)

/-- Replies that wait go to their mailboxes once these are empty (R346). -/
def State.sendOwed (s : State) (fn : Nat) : State :=
  let l := (s.fn fn).owed
  let s := s.setFn fn (fun x => { x with owed := [] })
  l.foldl (fun (s : State) e => s.sendReply fn e.1 e.2) s

/-- MBX_FULL_RELEASE (R350): a 1 releases the F2H mailbox of its bit. -/
def execMbxFullRelease (fn : Sv) (value : W64) (s : State) : Host.Outcome State Fault Refusal :=
  let n := fn.val
  let full := fnReg n R.mbxFull
  if !s.hostIn n then .next s
  else
    let w := BitVec.ofNat 32 (s.fld full F.MbxFull.f2hFull) &&& ~~~ BitVec.ofNat 32 (F.MbxFull.f2hFull.get value)
    .next ((s.setFld full F.MbxFull.f2hFull w.toNat).sendOwed n)

end Sys2Proof.Machine
end

