-- ==== Sys2Proof/Machine/Sideband.lean ====
section
/-! DEFINITION. The sideband: the console UART, the I3C target, and the JTAG TAP (R353 to R358). -/

namespace Sys2Proof.Machine

/-! ## Console (R353 to R355) -/

/-- The console input of a supervisor: the bytes that wait for firmware, oldest first. -/
def State.conInput (s : State) (v : Nat) : List Nat := s.side.conIn.get (fun _ => []) v

/-- The capture ring of a supervisor, oldest first. -/
def State.conCaptured (s : State) (v : Nat) : List Nat := s.side.conCap.get (fun _ => []) v

/-- A byte for the console input, lost while 64 wait (R354, R355). -/
def State.conAccept (s : State) (v b : Nat) : State :=
  if 64 ≤ (s.conInput v).length then s.count (R.conStat v) F.ConStat.ovr
  else { s with side := { s.side with conIn := s.side.conIn.set (fun _ => []) v (s.conInput v ++ [b]) } }

/-- A byte that firmware prints: to the TX pin and the 4 KiB capture ring, lost there while it is full (R355). -/
def State.conPrint (s : State) (v b : Nat) : State :=
  let s := s.emit (.conTx v b)
  if 4096 ≤ (s.conCaptured v).length then s.count (R.conStat v) F.ConStat.ovr
  else { s with side := { s.side with conCap := s.side.conCap.set (fun _ => []) v (s.conCaptured v ++ [b]) } }

/-- The bits of a byte are even in number. -/
def evenOnes (b : BitVec 8) : Bool := ((List.range 8).filter (fun i => b.getLsbD i)).length % 2 = 0

/-- Whether a parity bit is as CON_CFG.PARITY asks: none, even or odd (R355). -/
def parityOk (mode : Nat) (b : BitVec 8) (bit : Bool) : Bool :=
  match mode with
  | 0 => true
  | 1 => bit = !evenOnes b
  | _ => bit = evenOnes b

/-- UART_FRAME_RECEIVE (R354): each bit is the majority of its samples at ticks 7, 8 and 9. A break is recorded alone; every other byte is
kept, with a framing error where the majority of the stop bit is low, and a parity error. -/
def execUartFrameReceive (sv : Sv) (t7 t8 t9 : BitVec 8) (parityBit : Bool) (stop : StopLine) (s : State) :
    Host.Outcome State Fault Refusal :=
  let v := sv.val
  let r := R.conStat v
  let b := (t7 &&& t8) ||| (t7 &&& t9) ||| (t8 &&& t9)
  match stop with
  | .breakLow => .next (s.setFld r F.ConStat.break 1)
  | _ =>
    let framed : Bool := stop = .high || stop = .edgeAt9
    let s := if framed then s else s.count r F.ConStat.fe
    let s := if parityOk (s.fld (R.conCfg v) F.ConCfg.parity) b parityBit then s else s.count r F.ConStat.pe
    .next (s.conAccept v b.toNat)

/-- CON_TXD_WRITE (R355): ignored while HOST_IN = 0. -/
def execConTxdWrite (fn : Sv) (sv : Sv) (value : W64) (s : State) : Host.Outcome State Fault Refusal :=
  if s.hostIn fn.val && s.fld (R.conCfg sv.val) F.ConCfg.hostIn = 1 then .next (s.conAccept sv.val (value.toNat % 256)) else .next s

/-- What CON_CAP shows: VALID with the oldest captured byte, or 0. -/
def State.conHead (s : State) (v : Nat) : Nat :=
  match s.conCaptured v with
  | [] => 0
  | b :: _ => 256 + b % 256

/-- CON_CAP_READ (R355): VALID and the oldest captured byte, which is removed; 0 when there is none. -/
def execConCapRead (fn : Sv) (sv : Sv) (s : State) : Host.Outcome State Fault Refusal :=
  if !s.hostIn fn.val then .next s
  else match s.conCaptured sv.val with
    | [] => .next (s.emit (.readReply ⟨8, 0⟩))
    | b :: rest =>
      let s : State := { s with side := { s.side with conCap := s.side.conCap.set (fun _ => []) sv.val rest } }
      .next (s.emit (.readReply ⟨8, 256 + b % 256⟩))

/-! ## Identity (R7, R358) -/

/-- GLB_IDENT (R7). -/
def State.glbIdent (s : State) : W64 :=
  let v := F.GlbIdent.device.put (F.GlbIdent.vendor.put 0 0x1F3C) 0x0A10
  F.GlbIdent.stepDigit.put (F.GlbIdent.stepLetter.put (F.GlbIdent.grade.put v s.fuses.grade) s.fuses.stepLetter) s.fuses.stepDigit

/-- The PCIe Revision ID of the stepping (R5, R334): 0xA1 on A1, 0xB0 on B0. -/
def State.revisionId (s : State) : Nat := if s.fuses.stepLetter = 0xA then 0xA1 else 0xB0

/-- The JTAG IDCODE of the stepping (R358). -/
def State.idcode (s : State) : Nat := if s.fuses.stepLetter = 0xA then 0x10A1058B else 0x20A1058B

/-! ## I3C (R356, R357) -/

/-- Change the sideband. -/
def State.withSide (s : State) (f : SideSt → SideSt) : State := { s with side := f s.side }

/-- A transfer that addresses the target: not acknowledged while it has no dynamic address. -/
def State.i3cAddressed (s : State) (go : State → State) : State := if s.side.i3cAddr.isSome then go s else s.emit .nack

/-- Bytes that the target returns, the first at byte 0. -/
def State.i3cReply (s : State) (l : List Nat) : State := s.emit (.readReply (Blob.ofBytes l))

/-- An event in the IBI format: code, die, and the low 48 bits of its stamp, most significant byte first (R356). -/
def I3cEvent.bytes (e : I3cEvent) : List Nat := [e.code, e.die] ++ (List.range 6).map (fun i => bitsOf e.stamp (8 * (5 - i)) 8)

/-- The hottest die: TNOW and index, the lowest index where several are as hot (R357). -/
def State.hottest (s : State) : Nat × Nat :=
  (List.range 100).foldl (fun (m : Nat × Nat) d =>
    let t := s.fld (R.glbTherm d) F.GlbTherm.tnow
    if signedOf m.1 16 < signedOf t 16 then (t, d) else m) (s.fld (R.glbTherm 0) F.GlbTherm.tnow, 0)

/-- Byte o of the register space (R357); open holds the free values of the package power and of the offsets that the table does not
give. -/
def State.i3cByte (s : State) (open_ : W64) (o : Nat) : Nat :=
  if o < 8 then bitsOf s.glbIdent.toNat (8 * o) 8
  else if o = 8 then
    b2n s.pins.thermAlert + 2 * b2n s.pins.tripped + 4 * b2n s.pins.pwrFault + 8 * b2n (s.die (dKeeper 0)).failed
  else if o = 0x10 || o = 0x11 then bitsOf s.hottest.1 (8 * (o - 0x10)) 8
  else if o = 0x12 then s.hottest.2
  else if o = 0x18 || o = 0x19 then bitsOf s.pins.vinMv (8 * (o - 0x18)) 8
  else if 0x20 ≤ o && o < 0x28 then
    match s.side.i3cQueue with
    | [] => 0
    | e :: _ => e.bytes.getD (o - 0x20) 0
  else bitsOf open_.toNat (8 * (o % 8)) 8

/-- I3C_PRIVATE_WRITE (R357): one byte sets the read offset; the register space is read-only. -/
def execI3cPrivateWrite (data : List (BitVec 8)) (s : State) : Host.Outcome State Fault Refusal :=
  .next (s.i3cAddressed (fun s =>
    match data with
    | [o] => s.withSide (fun x => { x with i3cOffset := o.toNat })
    | _ => s))

/-- I3C_PRIVATE_READ (R357): bytes from the offset onward, as many as the maximum read length allows; reading the queued event removes
it. -/
def execI3cPrivateRead (count : Nat) (s : State) : Host.Outcome State Fault Refusal :=
  .next (s.i3cAddressed (fun s =>
    let n := min count s.side.i3cMrl
    let o := s.side.i3cOffset
    let (w, s) := s.free
    let s := s.i3cReply ((List.range n).map (fun i => s.i3cByte w (o + i)))
    if o ≤ 0x20 && 0x20 < o + n then s.withSide (fun x => { x with i3cQueue := x.i3cQueue.drop 1 }) else s))

/-- ENEC (R356): IBIs enabled. -/
def execEnec (ibi : Bool) (s : State) : Host.Outcome State Fault Refusal :=
  .next (if ibi then s.withSide (fun x => { x with i3cIbi := true }) else s)

/-- DISEC (R356, R357): IBIs disabled, so that events only queue. -/
def execDisec (ibi : Bool) (s : State) : Host.Outcome State Fault Refusal :=
  .next (if ibi then s.withSide (fun x => { x with i3cIbi := false }) else s)

/-- RSTDAA (R356). -/
def execRstdaa (s : State) : Host.Outcome State Fault Refusal := .next (s.withSide (fun x => { x with i3cAddr := none }))

/-- ENTDAA (R356): a target without a dynamic address takes part: it sends its PID, BCR and DCR and takes the address. -/
def execEntdaa (address : BitVec 7) (s : State) : Host.Outcome State Fault Refusal :=
  if s.side.i3cAddr.isSome then .next s
  else .next ((s.i3cReply [0x0B, 0xE6, 0x0A, 0x10, 0x00, 0x00, 0x06, 0x00]).withSide (fun x => { x with i3cAddr := some address.toNat }))

/-- SETDASA (R356): to static address 0x5A of a target without a dynamic address. -/
def execSetdasa (static : BitVec 7) (address : BitVec 7) (s : State) : Host.Outcome State Fault Refusal :=
  if static = 0x5A && s.side.i3cAddr.isNone then .next (s.withSide (fun x => { x with i3cAddr := some address.toNat }))
  else .next (s.emit .nack)

/-- SETNEWDA (R356). -/
def execSetnewda (address : BitVec 7) (s : State) : Host.Outcome State Fault Refusal :=
  .next (s.i3cAddressed (fun s => s.withSide (fun x => { x with i3cAddr := some address.toNat })))

/-- GETPID (R356): most significant byte first. -/
def execGetpid (s : State) : Host.Outcome State Fault Refusal :=
  .next (s.i3cAddressed (fun s => s.i3cReply [0x0B, 0xE6, 0x0A, 0x10, 0x00, 0x00]))

/-- GETBCR (R356). -/
def execGetbcr (s : State) : Host.Outcome State Fault Refusal := .next (s.i3cAddressed (fun s => s.i3cReply [0x06]))

/-- GETDCR (R356). -/
def execGetdcr (s : State) : Host.Outcome State Fault Refusal := .next (s.i3cAddressed (fun s => s.i3cReply [0x00]))

/-- GETSTATUS (R356): two bytes whose fields the spec does not give, a free value. -/
def execGetstatus (s : State) : Host.Outcome State Fault Refusal :=
  .next (s.i3cAddressed (fun s =>
    let (w, s) := s.free
    s.i3cReply [w.toNat % 256, bitsOf w.toNat 8 8]))

/-- GETMWL (R356): most significant byte first. -/
def execGetmwl (s : State) : Host.Outcome State Fault Refusal :=
  .next (s.i3cAddressed (fun s => s.i3cReply [s.side.i3cMwl / 256, s.side.i3cMwl % 256]))

/-- SETMWL (R356). -/
def execSetmwl (value : BitVec 16) (s : State) : Host.Outcome State Fault Refusal :=
  .next (s.withSide (fun x => { x with i3cMwl := value.toNat }))

/-- GETMRL (R356): most significant byte first, then the bytes of an IBI. -/
def execGetmrl (s : State) : Host.Outcome State Fault Refusal :=
  .next (s.i3cAddressed (fun s => s.i3cReply [s.side.i3cMrl / 256, s.side.i3cMrl % 256, 8]))

/-- SETMRL (R356). -/
def execSetmrl (value : BitVec 16) (s : State) : Host.Outcome State Fault Refusal :=
  .next (s.withSide (fun x => { x with i3cMrl := value.toNat }))

/-- RSTACT (R356): action 0x00 changes nothing, 0x01 resets the target logic only, and every other action is not acknowledged. -/
def execRstact (action : BitVec 8) (s : State) : Host.Outcome State Fault Refusal :=
  if action = 0 then .next s
  else if action = 1 then
    let r := State.reset.side
    .next (s.withSide (fun x => { x with
      i3cAddr := none, i3cOffset := 0, i3cIbi := r.i3cIbi, i3cMwl := r.i3cMwl, i3cMrl := r.i3cMrl }))
  else .next (s.emit .nack)

/-! ## JTAG (R358) -/

/-- The codes of the instruction register (R358). -/
def irIdcode : Nat := 0x01
/-- SAMPLE/PRELOAD. -/
def irSample : Nat := 0x02
/-- IJTAG. -/
def irIjtag : Nat := 0x10
/-- BYPASS. -/
def irBypass : Nat := 0xFF

/-- Select an instruction. -/
def State.selectIr (s : State) (n : Nat) : State := s.withSide (fun x => { x with jtagIr := n })

/-- TAP_RESET (R358): IDCODE is selected. -/
def execTapReset (s : State) : Host.Outcome State Fault Refusal := .next (s.selectIr irIdcode)

/-- IDCODE (R358): 32 bits. -/
def execIdcode (s : State) : Host.Outcome State Fault Refusal := .next ((s.selectIr irIdcode).emit (.tdo s.idcode 32))

/-- SAMPLE_PRELOAD (R358): the lands are sampled, a free value whose layout the BSDL file gives, and the boundary register is loaded. -/
def execSamplePreload (preload : Nat) (s : State) : Host.Outcome State Fault Refusal :=
  let (w, s) := s.free
  .next (((s.selectIr irSample).emit (.tdo w.toNat 64)).withSide (fun x => { x with jtagBoundary := preload }))

/-- An instruction that acts only while COLD_RST_N is asserted; at other times it acts as BYPASS, and the attempt is recorded in the ERR
log. -/
def State.underReset (s : State) (ir : Nat) (go : State → State) : State :=
  if s.pins.coldRst then go (s.selectIr ir) else (s.selectIr irBypass).keeperRec 0 (dKeeper 0) ir

/-- EXTEST (R358, R408): the boundary outputs are driven, by which the boot flash is programmed. -/
def execExtest (flash : Option (Bool × Nat × Blob)) (s : State) : Host.Outcome State Fault Refusal :=
  .next (s.underReset 0x03 (fun s =>
    match flash with
    | some (b, a, data) => if a + data.len ≤ flashBytes then s.flashPut (b2n b) a data else s
    | none => s))

/-- CLAMP (R358): the boundary outputs are held from the boundary register, which the selected instruction shows. -/
def execClamp (s : State) : Host.Outcome State Fault Refusal := .next (s.underReset 0x04 (fun s => s))

/-- HIGHZ (R358): the boundary outputs are at high impedance, which the selected instruction shows. -/
def execHighz (s : State) : Host.Outcome State Fault Refusal := .next (s.underReset 0x05 (fun s => s))

/-- IJTAG (R358): the instrument network is readable at all times; a write is accepted only in a session that firmware has unlocked. -/
def execIjtag (data : Nat) (s : State) : Host.Outcome State Fault Refusal :=
  let s := (s.selectIr irIjtag).emit (.tdo s.side.jtagNet 64)
  .next (if s.side.jtagUnlocked then s.withSide (fun x => { x with jtagNet := data }) else s)

/-- BYPASS (R358): also every other code. -/
def execBypass (_code : Nat) (s : State) : Host.Outcome State Fault Refusal := .next (s.selectIr irBypass)

end Sys2Proof.Machine
end

