-- ==== Sys2Proof/Machine/Registers.lean ====
section
/-! DEFINITION. Register accesses as the bus sees them: what a read of BAR0 returns, reads that clear, reads that fail, and writes of
registers (R13 to R17, R336, R337). -/

namespace Sys2Proof.Machine

/-! ## Where an offset lies (R336) -/

/-- The die whose block an offset lies in, for the blocks of which there are several. -/
def dieAt (off : Nat) : Option Nat :=
  if off < 0x01000000 then none
  else if off < 0x01200000 then some (dPort ((off - 0x01000000) / 0x10000))
  else if off < 0x01400000 then none
  else if off < 0x01700000 then some (dLathe ((off - 0x01400000) / 0x20000))
  else if off < 0x01800000 then none
  else if off < 0x01900000 then some (dBench ((off - 0x01800000) / 0x10000))
  else if off < 0x01A00000 then none
  else if off < 0x01A80000 then some (dNear ((off - 0x01A00000) / 0x10000))
  else if off < 0x01C00000 then none
  else if off < 0x01C40000 then some (dFar ((off - 0x01C00000) / 0x10000))
  else if off < 0x01E00000 then none
  else if off < 0x01E30000 then some (dBridge ((off - 0x01E00000) / 0x4000))
  else none

/-- The domain of the part of a die that answers for its registers. -/
def answerDomain (d : Nat) : Nat :=
  if d < 32 then domPort d
  else if d < 56 then domRing (d - 32)
  else if d < 72 then Machine.domBank (d - 56) 3
  else if d < 80 then Machine.domNear (d - 72)
  else if d < 84 then Machine.domFar (d - 80) 3
  else Machine.domBridge (d - 84)

/-- A die that cannot answer a read: its domain is OFF, FAILED or ABSENT, or it has failed (R337). -/
def State.dieSilent (s : State) (off : Nat) : Bool :=
  match dieAt off with
  | none => false
  | some d => [0, 5, 15].contains (s.domState (answerDomain d)) || (s.die d).failed

/-- The key under which a function's read or write of an offset finds its register: HIF, MBX and HCF are its own, and so is its
supervisor's SV_CFG_FENCE (R334, R365). -/
def fnKey (fn off : Nat) : Nat :=
  if (0x00200000 ≤ off && off < 0x00203000) || off = R.svCfgFence then fnReg fn off else off

/-! ## What a read returns -/

/-- A word of 64 bits. -/
def w64 (n : Nat) : W64 := BitVec.ofNat 64 n

/-- A word with the fields of a register, and 0 in its reserved bits (R15). -/
def fieldsOnly (fs : List Fld) (v : W64) : W64 := fs.foldl (fun (w : W64) f => f.put w (f.get v)) 0

/-- GLB_UNITSUM (R24). -/
def State.unitSum (s : State) : W64 :=
  let dies := (List.range 32).filter (fun d => !s.ptdOff d)
  let free (d : Nat) (f : Fld) : Nat := b2n (f.get (s.fuses.ptdOf d) = 0x3F)
  let spares := dies.foldl (fun n d => n + free d F.GlbUnitmapPtd.spareAFor + free d F.GlbUnitmapPtd.spareBFor) 0
  let v := F.GlbUnitsum.lathesSpare.put (F.GlbUnitsum.lathesEnabled.put 0 s.lathesEnabled) 24
  let v := F.GlbUnitsum.portDiesEnabled.put v (if s.is768 then 24 else 32)
  F.GlbUnitsum.spareLanesFree.put (F.GlbUnitsum.ntPresent.put v s.ntPresent) spares

/-- GLB_IMGKEYST (R67). -/
def State.imgKeySt (s : State) : W64 :=
  F.GlbImgkeyst.minSec.put (F.GlbImgkeyst.revoked.put (F.GlbImgkeyst.programmed.put 0 s.fuses.programmed) s.fuses.revoked) s.fuses.minSec

/-- Word i of SV_IMG_DGST (R75). -/
def State.imgDigest (s : State) (i : Nat) : W64 :=
  let p := if i < 4 then s.img.active
    else if [4, 5, 6, 7].contains s.imgState then s.img.shadow else none
  match p with
  | some p => w64 (bitsOf p.digest (64 * (i % 4)) 64)
  | none => 0

/-- SV_LEASE (R366). -/
def State.svLease (s : State) : W64 :=
  let v := match s.majority with
    | some (t, h, _) =>
      let votes := (List.range 3).foldl (fun n u =>
        if (s.voter u).promised = t && (s.voter u).holder = h then n + 2 ^ u else n) 0
      F.SvLease.votes.put (F.SvLease.holder.put (F.SvLease.term.put 0 t) h) votes
    | none => F.SvLease.holder.put 0 0xF
  let seam := match s.sup.seam with
    | .joined => 0
    | .cut => 1
    | .healing => 2
  F.SvLease.vbridge.put (F.SvLease.seam.put v seam) s.sup.vbridge

/-- SV_LEASE_EXP (R366). -/
def State.svLeaseExp (s : State) : W64 :=
  match s.majority with
  | some (_, _, e) => w64 e
  | none => 0

/-- A CFG_FENCE register of die d, with its counts from v (R365). -/
def State.viewFence (s : State) (d : Nat) (v : W64) : W64 :=
  let f := s.fence d
  F.PtdCfgFence.live.put (F.PtdCfgFence.term.put v f.term) (b2n (decide (s.dieNow d ≤ f.expiry)))

/-- An ERRQ_STAT register of die d, with its count from v (R378). -/
def State.viewErrq (s : State) (d : Nat) (v : W64) : W64 :=
  F.PtdErrqStat.level.put (F.PtdErrqStat.pendStep.put v (pendStep (s.errq d))) (s.errq d).length

/-- Word k of an ERRQ_HEAD register of die d (R378). -/
def State.viewHead (s : State) (d k : Nat) : W64 :=
  match s.errq d with
  | [] => 0
  | r :: _ => w64 (r.word k)

/-- LT_STAT of lathe k (R220): a slot is pending when its context is. -/
def State.viewLt (s : State) (k : Nat) (v : W64) : W64 :=
  let l := s.lathe k
  let holder := ((l.holder.bind (fun c => s.slotOf k c)).getD 0x1F)
  let pend := l.pending.foldl (fun m c => match s.slotOf k c with
    | some i => m ||| 2 ^ i
    | none => m) 0
  let v := F.LtStat.resident.put v (s.residents k).length
  let v := F.LtStat.pending.put (F.LtStat.holder.put v holder) pend
  let duty := b2n (decide (s.fld (R.glbTherm (dLathe (k / 5))) F.GlbTherm.duty ≠ 0))
  F.LtStat.freePages.put (F.LtStat.dutyLimited.put v duty) (s.freePages k)

/-- BCH_QDEPTH[q] of bench die d (R161): port p of half h has q = 8 ((p - 512 h) div 8) + class. -/
def State.viewDepth (s : State) (d q : Nat) : W64 :=
  let port := 512 * (d / 8) + 8 * (q / 8) + d % 8
  let k := qKey port (q % 8)
  F.BchQdepth.depth.put (F.BchQdepth.spilled.put 0 (spilledGrains (s.queue k ++ s.releasedQ k))) (s.depth k)

/-- SV_JOB_USE of a job that is not FREE (R325). -/
def State.viewJobUse (s : State) (j : Nat) : W64 :=
  let x := s.job j
  let v := F.SvJobUse.contexts.put (F.SvJobUse.grains.put 0 (s.jobGrains j)) (s.jobContexts j)
  F.SvJobUse.slotTurn.put (F.SvJobUse.state.put v x.state.code) (min (x.slotTicks / 1024) (2 ^ 20 - 1))

/-- The words of the MSI-X table and the pending bits, 8 bytes from an offset of that area (R336). -/
def State.viewMsix (s : State) (fn off : Nat) : W64 :=
  if 0x00208800 ≤ off then
    if off < 0x00208808 then w64 (s.host.msixPend.get (fun _ => 0) fn) else 0
  else
    let i := (off - 0x00208000) / 4
    if i < 12 then w64 (s.msixWord (12 * fn + i) + s.msixWord (12 * fn + i + 1) * 2 ^ 32) else 0

/-- Whether an offset lies in the MSI-X table or pending-bit area. -/
def msixArea (off : Nat) : Bool := 0x00208000 ≤ off && off < 0x00209000

/-- The registers of a port whose index names a lane with WIDTH 0 read 0 (R120, R140). -/
def State.noPortAt (s : State) (r : RegDesc) (off : Nat) : Bool :=
  match dieAt off with
  | none => false
  | some d =>
    let rel := (off - r.base) % 0x10000
    if r.base = 0x01000400 || r.base = 0x01000500 || r.base = 0x01002000 || r.base = 0x01002100 then (s.planeOn d).width d (rel / 8) = 0
    else if 0x01001000 ≤ r.base && r.base ≤ 0x01001018 then (s.planeOn d).width d (rel / 32) = 0
    else false

/-- The value that a read of a register of GLB or ERR, or of the leases and fences, takes from the rest of the state. -/
def State.viewShared (s : State) (fn off : Nat) (r : RegDesc) (v : W64) : W64 :=
  let rel := off - r.base
  let i := rel / 8
  if r.base = R.glbIdent then s.glbIdent
  else if r.base = R.glbUnitsum then s.unitSum
  else if r.base = R.glbImgkeyst then s.imgKeySt
  else if r.base = R.glbUnitmapPtd 0 then F.GlbUnitmapPtd.dieOff.put (fieldsOnly r.flds (s.fuses.ptdOf i)) (b2n (s.ptdFused i))
  else if r.base = R.glbUnitmapLtd 0 then fieldsOnly r.flds (w64 (s.fuses.ltdOf i))
  else if r.base = R.glbUnitmapBch 0 then fieldsOnly r.flds (s.fuses.bchOf i)
  else if r.base = R.svImgDgst 0 then s.imgDigest i
  else if r.base = R.tbTick then w64 s.tb.tick
  else if r.base = R.tbTurn then w64 s.tb.turn
  else if r.base = R.svLease then s.svLease
  else if r.base = R.svLeaseExp then s.svLeaseExp
  else if r.base = R.glbCfgFence then s.viewFence s.glbDie v
  else if r.base = R.svCfgFence then s.viewFence (dSup fn) v
  else if r.base = R.glbErrqStat 0 then s.viewErrq (dKeeper (rel / 0x40)) v
  else if r.base = R.glbErrqHead 0 0 then s.viewHead (dKeeper (rel / 0x40)) (rel % 0x40 / 8)
  else if r.base = R.svErrqStat 0 then s.viewErrq (dSup (rel / 0x40)) v
  else if r.base = R.svErrqHead 0 0 then s.viewHead (dSup (rel / 0x40)) (rel % 0x40 / 8)
  else if r.base = R.errEntry 0 0 then
    match s.err.log.get (fun _ => none) (rel / 32) with
    | some e => w64 (e.word (rel % 32 / 8))
    | none => 0
  else if r.base = R.svJobUse 0 then (if (s.job (rel / 16)).state = .free then 0 else s.viewJobUse (rel / 16))
  else if r.base = R.svJobHit 0 then (if (s.job (rel / 16)).state = .free then 0 else v)
  else if r.base = R.hcfStat then
    let x := s.fn fn
    let v := F.HcfStat.openBits.put (F.HcfStat.level.put v x.fifo.length) (b2n x.opened)
    F.HcfStat.full.put v (b2n (decide (hcfDepth ≤ x.fifo.length)))
  else if r.base = R.hcfPkts then F.HcfPkts.pkts.put 0 ((s.fn fn).fifo.filter (fun w => w.last)).length
  else if r.base = R.conCap 0 then F.ConCap.cap.put 0 (s.conHead (rel / 0x100))
  else if r.base = R.conStat 0 then F.ConStat.capLevel.put v (s.conCaptured (rel / 0x100)).length
  else v

/-- The value that a read of a register of one of several dies takes from the rest of the state. -/
def State.viewDie (s : State) (d off : Nat) (r : RegDesc) (v : W64) : W64 :=
  let at_ := off - dieBase d
  if off = cfgFenceReg d then s.viewFence d v
  else if off = errqReg d then s.viewErrq d v
  else if errqReg d < off && off ≤ errqReg d + 0x20 then s.viewHead d ((off - errqReg d - 8) / 8)
  else if r.base = R.ltStat 0 0 then s.viewLt (5 * (d - 32) + at_ / 0x4000) v
  else if r.base = R.bchQdepth 0 0 then s.viewDepth (d - 56) ((at_ - 0x9000) / 8)
  else v

/-- The value of the 8 bytes at an aligned offset, as function fn reads it: 0 where no block decodes it (R336). -/
def State.view (s : State) (fn off : Nat) : W64 :=
  if msixArea off then s.viewMsix fn off
  else match regAt off with
    | none => 0
    | some r =>
      if s.noPortAt r off then 0
      else
        let v := s.rd (fnKey fn off)
        match dieAt off with
        | some d => s.viewDie d off r v
        | none => s.viewShared fn off r v

/-! ## Reads (R14, R17, R337) -/

/-- A read that returns all ones (R337). -/
def State.badRead (s : State) (fn off size : Nat) : State :=
  (s.hostDrop fn 3 0 (off % 2 ^ 30) F.HifDrop.rdBad).emit (.readReply ⟨size, 2 ^ (8 * size) - 1⟩)

/-- Clear the RC fields of the register at an offset. -/
def State.clearRc (s : State) (fn off : Nat) : State :=
  match regAt off with
  | none => s
  | some r =>
    let key := fnKey fn off
    (r.fldsOf .rc).foldl (fun (s : State) f => s.setFld key f 0) s

/-- A whole 8-byte read that the part answers: the value, then its RC fields cleared. A slot's grant ticks are brought up to date first. -/
def State.goodRead (s : State) (fn off : Nat) : State :=
  let s := match dieAt off with
    | some d => if 32 ≤ d && d < 56 && (off - dieBase d) / 0x4000 < 5 then s.chargeGrant (5 * (d - 32) + (off - dieBase d) / 0x4000) else s
    | none => s
  (s.emit (.readReply ⟨8, (s.view fn off).toNat⟩)).clearRc fn off

/-- RC_READ (R14, R17, R337): an 8-byte read returns the register, then clears its RC fields. -/
def execRcRead (fn : Sv) (off : Nat) (s : State) : Host.Outcome State Fault Refusal :=
  let n := fn.val
  if !s.hostIn n then .next s
  else if off % 8 ≠ 0 || s.dieSilent off then .next (s.badRead n off 8)
  else if off = R.conCap 0 then execConCapRead fn 0 s
  else if off = R.conCap 1 then execConCapRead fn 1 s
  else .next (s.goodRead n off)

/-- BAR0_BAD_READ (R337): a read of another size or alignment, or of a die that is unpowered or silent, returns all ones. A read that is
neither is an ordinary one; a half of a register is read without clearing. The MSI-X area follows the PCIe specification, which leaves
other sizes open (a free value). -/
def execBar0BadRead (fn : Sv) (off size : Nat) (silent : Bool) (s : State) : Host.Outcome State Fault Refusal :=
  let n := fn.val
  let whole : Bool := size = 8 && off % 8 = 0
  let half : Bool := size = 4 && off % 4 = 0
  if !s.hostIn n then .next s
  else if !whole && !half && msixArea off then
    let (w, s) := s.free
    .next (s.emit (.readReply ⟨size, w.toNat % 2 ^ (8 * size)⟩))
  else if !whole && !half then .next (s.badRead n off size)
  else if s.dieSilent off || (silent && (dieAt off).isSome) then .next (s.badRead n off size)
  else if whole then execRcRead fn off s
  else .next (s.emit (.readReply ⟨4, bitsOf (s.view n (off / 8 * 8)).toNat (8 * (off % 8)) 32⟩))

/-! ## Writes (R14, R16) -/

/-- The state a command leads to. -/
def afterCmd (o : Host.Outcome State Fault Refusal) (s : State) : State :=
  match o with
  | .next t => t
  | _ => s

/-- A number below n, taken modulo n. -/
def finOf (n x : Nat) (h : 0 < n := by decide) : Fin n := ⟨x % n, Nat.mod_lt x h⟩

/-- Write the fields of a register by their access types: RW stores, W1C and W1S act on each 1, the others ignore it (R14). -/
def State.writeFlds (s : State) (key : Nat) (fs : List Fld) (value : W64) : State :=
  fs.foldl (fun (s : State) f =>
    match f.acc with
    | .rw => s.setFld key f (f.get value)
    | .w1c => s.setFld key f (s.fld key f &&& (2 ^ f.wid - 1 - f.get value))
    | .w1s => s.setFld key f (s.fld key f ||| f.get value)
    | _ => s) s

/-- Store every field of a register: what firmware writes into one that the host only reads. -/
def State.storeFlds (s : State) (key : Nat) (fs : List Fld) (value : W64) : State :=
  fs.foldl (fun (s : State) f => s.setFld key f (f.get value)) s

/-- The values that a register stores in place of those outside its range (R120, R140, R161, R177, R355). -/
def clampWrite (r : RegDesc) (value : W64) : W64 :=
  let least (f : Fld) (lo : Nat) (v : W64) : W64 := f.put v (max (f.get v) lo)
  let most (f : Fld) (hi : Nat) (v : W64) : W64 := f.put v (min (f.get v) hi)
  if r.base = R.ptdPortCtl 0 0 then least F.PtdPortCtl.retrainLimit 0x0A value
  else if r.base = R.ptdReordCtl 0 then most F.PtdReordCtl.timeoutUs 1000 (least F.PtdReordCtl.timeoutUs 1 value)
  else if r.base = R.ptdSched 0 0 then
    [F.PtdSched.qTc0, F.PtdSched.qTc1, F.PtdSched.qTc2, F.PtdSched.qTc3, F.PtdSched.qTc4].foldl (fun v f => least f 1 v) value
  else if r.base = R.bchShavCtl 0 then most F.BchShavCtl.archGib 64 value
  else if r.base = R.conCfg 0 then least F.ConCfg.div 4 value
  else value

/-- A write to a register of port die d, whose fence has passed it. -/
def State.writePtd (s : State) (w : Writer) (d off : Nat) (r : RegDesc) (value : W64) : State :=
  let rel := (off - r.base) % 0x10000
  let die : PDie := finOf 32 d
  let cmd := value.toNat % 16
  if r.base = R.ptdLaneCtl 0 0 then
    let n : Lane := finOf 34 (rel / 8)
    match cmd with
    | 1 => afterCmd (execTxEnable w die n s) s
    | 2 => afterCmd (execTxIdle w die n s) s
    | 3 => afterCmd (execPrbs31 w die n s) s
    | 4 => afterCmd (execRelock w die n s) s
    | _ => s.setFld (laneStat d n.val) F.PtdLaneStat.cmdRefused 1
  else if r.base = R.ptdPortCtl 0 0 then
    let port : Port := finOf 1024 (32 * d + rel / 8)
    if s.portWidth port.val = 0 then s
    else
      let s := s.writeFlds off [F.PtdPortCtl.holddownMs, F.PtdPortCtl.retrainLimit, F.PtdPortCtl.sparePath] (clampWrite r value)
      let down : Bool := F.PtdPortCtl.adminDown.get value = 1
      let was : Bool := s.fld off F.PtdPortCtl.adminDown = 1
      let s := if down = was then s else afterCmd (execAdminDownWrite w port down s) s
      match cmd with
      | 1 => afterCmd (execRetrain w port s) s
      | 2 => afterCmd (execUprate w port s) s
      | 3 => afterCmd (execRestoreWidth w port s) s
      | 4 => afterCmd (execPortRestart w port s) s
      | _ => s.setFld (pStat port.val) F.PtdPortStat.cmdRefused 1
  else if r.base = R.ptdSpare 0 then
    let s := s.writeFlds off [F.PtdSpare.cmdRefused] value
    let b : Bool := F.PtdSpare.spare.get value = 1
    match cmd with
    | 1 => afterCmd (execTake w die (finOf 32 (F.PtdSpare.lane.get value)) b s) s
    | 2 => afterCmd (execSpareRelease w die b s) s
    | _ => s.setFld off F.PtdSpare.cmdRefused 1
  else if r.base = R.ptdPolProfA 0 0 then afterCmd (execPolicerProfileWrite w die (finOf 64 (rel / 16)) false value s) s
  else if r.base = R.ptdPolProfB 0 0 then afterCmd (execPolicerProfileWrite w die (finOf 64 (rel / 16)) true value s) s
  else if r.base = R.ptdPolCfg 0 0 then afterCmd (execPolicerBindWrite w die (finOf 2048 (rel / 16)) value s) s
  else if s.noPortAt r off then s
  else s.writeFlds off r.flds (clampWrite r value)

/-- A write to a register of lathe die d, whose fence has passed it. -/
def State.writeLtd (s : State) (w : Writer) (d off : Nat) (r : RegDesc) (value : W64) : State :=
  let rel := (off - r.base) % 0x20000
  let die : LDie := finOf 24 d
  let lathe : Lathe := finOf 120 (5 * d + rel / 0x4000)
  let cmd := value.toNat % 16
  if r.base = R.ltCtl 0 0 then
    let c : Ctx := finOf 16384 (F.LtCtl.ctx.get value)
    let slot : Fin 16 := finOf 16 (F.LtCtl.slot.get value)
    match cmd with
    | 1 => afterCmd (execEvict w lathe c s) s
    | 2 => afterCmd (execReside w lathe c slot s) s
    | 3 => afterCmd (execMigrate w lathe c slot (finOf 256 (F.LtCtl.target.get value)) s) s
    | 4 => afterCmd (execEngineReset (.fw w) lathe s) s
    | 5 => afterCmd (execTakeover w lathe s) s
    | _ => s.ltRefuse lathe.val
  else if r.base = R.ltSlot 0 0 0 then afterCmd (execLtSlotWrite w lathe (finOf 16 (rel % 0x4000 / 8)) value s) s
  else if r.base = R.ltdCtxCmd 0 then
    let c : Ctx := finOf 16384 (F.LtdCtxCmd.ctx.get value)
    match cmd with
    | 1 => afterCmd (execCreate w die c s) s
    | 2 => afterCmd (execStart w die c (finOf 32 (F.LtdCtxCmd.slot.get value)) (finOf 8 (F.LtdCtxCmd.phys.get value)) s) s
    | 3 => afterCmd (execStop w die c s) s
    | 4 => afterCmd (execResume w die c s) s
    | 5 => afterCmd (execReplay w die c s) s
    | 6 => afterCmd (execRelease w die c s) s
    | _ => s.ctxCommand w d c.val cmd (fun _ => 5) (fun s => s)
  else s.writeFlds off r.flds value

/-- A write to a register of bench die d, whose fence has passed it: pool, reclaim and ring registers stand in dies 0 and 8 only
(R161). -/
def State.writeBch (s : State) (w : Writer) (d off : Nat) (r : RegDesc) (value : W64) : State :=
  if r.base = R.bchReclaim 0 then
    if d % 8 ≠ 0 then s
    else
      let s := s.writeFlds off r.flds value
      if value.toNat % 16 = 1 then afterCmd (execReclaim w (finOf 16 d) (finOf 2048 (F.BchReclaim.req.get value)) s) s
      else s.setFld off F.BchReclaim.cmdRefused 1
  else if r.base = R.bchShavCtl 0 && d % 8 ≠ 0 then s
  else s.writeFlds off r.flds (clampWrite r value)

/-- A write to a register of the SV block. The lease register is written by supervisors alone and passes no fence (R362, R366). -/
def State.writeSv (s : State) (w : Writer) (off : Nat) (r : RegDesc) (value : W64) : State :=
  let d := writerDie w
  let cmd := value.toNat % 16
  let job : Job := finOf 65536 (F.SvJobCtl.job.get value)
  if r.base = R.svLeaseCtl then
    match w with
    | .host _ => s
    | .fw v _ =>
      let t := F.SvLeaseCtl.term.get value
      match cmd with
      | 1 => afterCmd (execCampaign v t s) s
      | 2 => afterCmd (execRenew v t s) s
      | 4 => afterCmd (execResign v t s) s
      | _ => s.setFld R.svLeaseLog F.SvLeaseLog.cmdRefused 1
  else s.fenced w d off (fun s =>
    let term := match w with
      | .fw _ t => t.getD 0
      | .host _ => 0
    let target := F.SvImgCtl.targetTurn.get value
    let keep (s : State) : State := s.setFld R.svImgCtl F.SvImgCtl.targetTurn target
    if r.base = R.svImgCtl then
      match cmd with
      | 1 => (keep s).imgCheck
      | 2 => s.imgArm target term
      | 3 => (keep s).imgCancel
      | 4 => (keep s).imgDiscard
      | _ => s.imgRefuse
    else if r.base = R.svJobBase then afterCmd (execSvJobBaseWrite w value s) s
    else if r.base = R.svJobCtl then
      match cmd with
      | 1 => afterCmd (execAdmitJob w job s) s
      | 2 => afterCmd (execModify w job s) s
      | 3 => afterCmd (execRemove w job s) s
      | 4 => afterCmd (execJobCancel w job s) s
      | _ => s.setFld R.svJobStat F.SvJobStat.cmdRefused 1
    else if r.base = R.svEvt || r.base = R.svHealth then s.storeFlds off r.flds value
    else if r.base = R.svErrqCtl 0 then
      if value.toNat % 2 = 1 then afterCmd (execErrqPop w (finOf 100 (dSup ((off - r.base) / 0x40))) s) s else s
    else s.writeFlds off r.flds value)

/-- A write to a register of GLB, TB or ERR, whose fence has passed it. The reserved SERVO refuses a write of TB_STAT with no change (R15, R90). -/
def State.writeGlb (s : State) (w : Writer) (off : Nat) (r : RegDesc) (value : W64) : State :=
  let cmd := value.toNat % 16
  let i := (off - r.base) / 8
  if r.base = R.glbPd 0 then afterCmd (execPdWrite w (finOf 536 i) value s) s
  else if r.base = R.glbSvCtl then
    let s := s.writeFlds off r.flds value
    let sv := F.GlbSvCtl.sv.get value
    match cmd with
    | 1 => afterCmd (execSvRestart w sv (F.GlbSvCtl.copy.get value = 1) s) s
    | 2 => afterCmd (execHandover w sv (F.GlbSvCtl.turn.get value) s) s
    | 3 => afterCmd (execCancelHandover w s) s
    | _ => s.svRefuse
  else if r.base = R.glbEscCtl then
    match cmd with
    | 1 => afterCmd (execPartReset w (finOf 16 (F.GlbEscCtl.partition.get value)) s) s
    | 2 => afterCmd (execWarmRestart w s) s
    | 3 => afterCmd (execPowerCycle w s) s
    | _ => s.setFld R.glbEscStat F.GlbEscStat.cmdRefused 1
  else if r.base = R.glbBoot then
    if F.GlbBoot.confirmed.get value = 1 then afterCmd (execBootConfirm w s) s else s
  else if r.base = R.tbFreq then afterCmd (execTbFreqWrite w value s) s
  else if r.base = R.tbStep then afterCmd (execTbStepWrite w value s) s
  else if r.base = R.tbPtpCtl then afterCmd (execTbPtpCtlWrite w value s) s
  else if r.base = R.glbErrqCtl 0 then
    if value.toNat % 2 = 1 then afterCmd (execErrqPop w (finOf 100 (dKeeper ((off - r.base) / 0x40))) s) s else s
  else if r.base = R.tbStat && F.TbStat.servo.get value = 3 then s
  else s.writeFlds off r.flds value

/-- A write to a register of one of several dies, through that die's fence (R364). -/
def State.writeDie (s : State) (w : Writer) (d off : Nat) (r : RegDesc) (value : W64) : State :=
  s.fenced w d off (fun s =>
    if off = errqReg d + 0x28 then
      if value.toNat % 2 = 1 then afterCmd (execErrqPop w (finOf 100 d) s) s else s
    else if d < 32 then s.writePtd w d off r value
    else if d < 56 then s.writeLtd w (d - 32) off r value
    else if d < 72 then s.writeBch w (d - 56) off r value
    else s.writeFlds off r.flds value)

/-- A write of CON_CFG: DIV below 4 stores 4, and the reserved PARITY is ignored (R355). -/
def State.writeCon (s : State) (off : Nat) (r : RegDesc) (value : W64) : State :=
  let fs := if F.ConCfg.parity.get value = 3 then [F.ConCfg.div, F.ConCfg.stop2, F.ConCfg.hostIn] else r.flds
  s.writeFlds off fs (clampWrite r value)

/-- A host write to its own function's HIF, MBX or HCF block, or to CON (R336, R347, R349, R355). -/
def State.hostLocal (s : State) (fn : Sv) (off : Nat) (r : RegDesc) (value : W64) : State :=
  let i := (off - r.base) / 8
  if r.base = R.hcfData then afterCmd (execHcfDataWrite fn value true s) s
  else if r.base = R.hcfDataEnd then afterCmd (execHcfDataEndWrite fn value true s) s
  else if r.base = R.hcfCtl then (if value.toNat % 2 = 1 then afterCmd (execFlush fn s) s else s)
  else if r.base = R.mbxH2f 0 then afterCmd (execMbxH2fWrite fn (finOf 32 i) value s) s
  else if r.base = R.mbxFull then afterCmd (execMbxFullRelease fn value s) s
  else if r.base = R.conCfg 0 then s.writeCon off r value
  else if r.base = R.conTxd 0 then afterCmd (execConTxdWrite fn (finOf 2 ((off - r.base) / 0x100)) value s) s
  else s.writeFlds (fnKey fn.val off) r.flds value

/-- A write of firmware to the HIF, MBX, HCF or CON block of its own supervisor. What it prints it writes to CON_CAP (DESIGN CHOICE, log 22). -/
def State.fwLocal (s : State) (w : Writer) (sv : Sv) (off : Nat) (r : RegDesc) (value : W64) : State :=
  let i := (off - r.base) / 8
  if r.base = R.hifOvr || r.base = R.hifWin then s.fenced w (dSup sv.val) off (fun s => s.storeFlds (fnKey sv.val off) r.flds value)
  else if r.base = R.mbxF2h 0 then afterCmd (execMbxF2hWrite sv (finOf 32 i) value s) s
  else if r.base = R.mbxAck 0 then afterCmd (execMbxAck sv (finOf 32 i) (F.MbxAck.code.get value) s) s
  else if r.base = R.conCfg 0 then s.writeCon off r value
  else if r.base = R.conCap 0 then s.conPrint ((off - r.base) / 0x100) (value.toNat % 256)
  else s.writeFlds (fnKey sv.val off) r.flds value

/-- A host write to the MSI-X area (R336): 4 or 8 bytes, aligned; a vector that is unmasked while pending is sent. -/
def State.msixWrite (s : State) (fn off size : Nat) (value : W64) : State :=
  let i := (off - 0x00208000) / 4
  let put (s : State) (j v : Nat) : State :=
    let tbl := s.host.msixTable.set (fun i => if i % 4 = 3 then 1 else 0) (12 * fn + j) (if j % 4 = 3 then v % 2 else v)
    if 12 ≤ j then s else { s with host := { s.host with msixTable := tbl } }
  let s := if 0x00208800 ≤ off then s
    else if size = 4 && off % 4 = 0 then put s i (value.toNat % 2 ^ 32)
    else if size = 8 && off % 8 = 0 then put (put s i (value.toNat % 2 ^ 32)) (i + 1) (value.toNat / 2 ^ 32)
    else s
  [0, 1, 2].foldl (fun (s : State) v =>
    let pend := s.host.msixPend.get (fun _ => 0) fn
    if bitOf pend v && s.msixWord (12 * fn + 4 * v + 3) % 2 = 0 && s.fld (fnReg fn R.hifStat) F.HifStat.bme = 1 then
      ({ s with host := { s.host with msixPend := s.host.msixPend.set (fun _ => 0) fn (pend - 2 ^ v) } } : State).msix fn v
    else s) s

/-- A host write, judged by the rows of R337 in their order. -/
def State.hostWrite (s : State) (fn : Sv) (off size : Nat) (value : W64) : State :=
  let n := fn.val
  if !s.hostIn n then s
  else if msixArea off then s.msixWrite n off size value
  else if size ≠ 8 || off % 8 ≠ 0 then s.hostDrop n 2 0 off F.HifDrop.wrSize
  else
    let deny := s.hostDrop n 1 0 off F.HifDrop.wrDeny
    match regAt off with
    | none => deny
    | some r =>
      match r.block with
      | .glb => s.fenced (.host fn) s.glbDie off (fun s => s.writeGlb (.host fn) off r value)
      | .hif => if r.base = R.hifOvr || r.base = R.hifWin then deny else s.hostLocal fn off r value
      | .mbx | .hcf | .con => s.hostLocal fn off r value
      | _ => deny

/-- A write of firmware: 8 bytes, aligned, to a register. -/
def State.fwWrite (s : State) (w : Writer) (sv : Sv) (off size : Nat) (value : W64) : State :=
  if size ≠ 8 || off % 8 ≠ 0 then s
  else match regAt off with
    | none => s
    | some r =>
      match r.block with
      | .glb | .tb | .err => s.fenced w s.glbDie off (fun s => s.writeGlb w off r value)
      | .sv => s.writeSv w off r value
      | .hif | .mbx | .hcf | .con => s.fwLocal w sv off r value
      | _ => match dieAt off with
        | some d => s.writeDie w d off r value
        | none => s

/-- REGISTER_WRITE (R14, R336, R337, R364): applied or dropped by size, block and fence. A register with rows of its own acts as they
do, and refuses its reserved commands. -/
def execRegisterWrite (w : Writer) (off size : Nat) (value : W64) (s : State) : Host.Outcome State Fault Refusal :=
  match w with
  | .host fn => .next (s.hostWrite fn off size value)
  | .fw sv _ => .next (s.fwWrite w sv off size value)

end Sys2Proof.Machine
end

