-- ==== Sys2Proof/Machine/Dispatch.lean ====
section
/-! DEFINITION. The dispatch of a command to its meaning. -/

namespace Sys2Proof.Machine

/-- The effect of a command on everything but the queue. -/
def exec (i : Instr) (s : State) : Host.Outcome State Fault Refusal :=
  match i with
  | .coldRstNRelease => Sys2Proof.Machine.execColdRstNRelease s
  | .coldRstNAssert widthNs => Sys2Proof.Machine.execColdRstNAssert widthNs s
  | .perstAssert fn kind widthNs => Sys2Proof.Machine.execPerstAssert fn kind widthNs s
  | .functionLevelReset fn => Sys2Proof.Machine.execFunctionLevelReset fn s
  | .vinPkgLow mv => Sys2Proof.Machine.execVinPkgLow mv s
  | .vinPkgRecover mv => Sys2Proof.Machine.execVinPkgRecover mv s
  | .vinPkgDip mv ns => Sys2Proof.Machine.execVinPkgDip mv ns s
  | .vinPkgHigh mv ns => Sys2Proof.Machine.execVinPkgHigh mv ns s
  | .powerFault mv ns => Sys2Proof.Machine.execPowerFault mv ns s
  | .vaux1v8Drop mv ns removed => Sys2Proof.Machine.execVaux1v8Drop mv ns removed s
  | .referenceLost => Sys2Proof.Machine.execReferenceLost s
  | .referenceRecovered => Sys2Proof.Machine.execReferenceRecovered s
  | .timebaseSourceFail => Sys2Proof.Machine.execTimebaseSourceFail s
  | .thermalSample readings => Sys2Proof.Machine.execThermalSample readings s
  | .limitVoltageStep die => Sys2Proof.Machine.execLimitVoltageStep die s
  | .dutyStep die => Sys2Proof.Machine.execDutyStep die s
  | .thermalTrip die => Sys2Proof.Machine.execThermalTrip die s
  | .tripHoldEnd => Sys2Proof.Machine.execTripHoldEnd s
  | .turnBoundary => Sys2Proof.Machine.execTurnBoundary s
  | .internalAlignmentDone => Sys2Proof.Machine.execInternalAlignmentDone s
  | .skewMeasure offsets => Sys2Proof.Machine.execSkewMeasure offsets s
  | .heartbeatMiss die missed => Sys2Proof.Machine.execHeartbeatMiss die missed s
  | .dieFailed die => Sys2Proof.Machine.execDieFailed die s
  | .tbFreqWrite w value => Sys2Proof.Machine.execTbFreqWrite w value s
  | .tbStepWrite w value => Sys2Proof.Machine.execTbStepWrite w value s
  | .tbPtpCtlWrite w value => Sys2Proof.Machine.execTbPtpCtlWrite w value s
  | .ptpMessage port form hdr fcsOk => Sys2Proof.Machine.execPtpMessage port form hdr fcsOk s
  | .imageDmaLoad imageLen data => Sys2Proof.Machine.execImageDmaLoad imageLen data s
  | .check w => Sys2Proof.Machine.execCheck w s
  | .checkComplete => Sys2Proof.Machine.execCheckComplete s
  | .arm w target => Sys2Proof.Machine.execArm w target s
  | .cancel w => Sys2Proof.Machine.execCancel w s
  | .discard w => Sys2Proof.Machine.execDiscard w s
  | .stagingReady die => Sys2Proof.Machine.execStagingReady die s
  | .commit sv term => Sys2Proof.Machine.execCommit sv term s
  | .retireReport die => Sys2Proof.Machine.execRetireReport die s
  | .retireTimeout => Sys2Proof.Machine.execRetireTimeout s
  | .pdWrite w n value => Sys2Proof.Machine.execPdWrite w n value s
  | .wakeGroupStart => Sys2Proof.Machine.execWakeGroupStart s
  | .domainWakeReady n selfTest => Sys2Proof.Machine.execDomainWakeReady n selfTest s
  | .wakeTimeout n => Sys2Proof.Machine.execWakeTimeout n s
  | .domainDrainComplete n => Sys2Proof.Machine.execDomainDrainComplete n s
  | .lossOfSignal loss => Sys2Proof.Machine.execLossOfSignal loss s
  | .signalDetect port => Sys2Proof.Machine.execSignalDetect port s
  | .trainingComplete port rate100 => Sys2Proof.Machine.execTrainingComplete port rate100 s
  | .warmTrainingTimeout port => Sys2Proof.Machine.execWarmTrainingTimeout port s
  | .trainingBackoffExpiry port => Sys2Proof.Machine.execTrainingBackoffExpiry port s
  | .capabilityWord port heard => Sys2Proof.Machine.execCapabilityWord port heard s
  | .capabilityResendTimeout port => Sys2Proof.Machine.execCapabilityResendTimeout port s
  | .linkFrameReceive port number check => Sys2Proof.Machine.execLinkFrameReceive port number check s
  | .ackReceive port number => Sys2Proof.Machine.execAckReceive port number s
  | .nakReceive port lastGood => Sys2Proof.Machine.execNakReceive port lastGood s
  | .creditReturn port tc grains => Sys2Proof.Machine.execCreditReturn port tc grains s
  | .retrainLimitExpiry port => Sys2Proof.Machine.execRetrainLimitExpiry port s
  | .pcsAlignmentLoss port ns => Sys2Proof.Machine.execPcsAlignmentLoss port ns s
  | .holddownExpiry port => Sys2Proof.Machine.execHolddownExpiry port s
  | .faultRetryExpiry port => Sys2Proof.Machine.execFaultRetryExpiry port s
  | .laneFail die lane cause => Sys2Proof.Machine.execLaneFail die lane cause s
  | .peerChangeRequest port width mode lanes => Sys2Proof.Machine.execPeerChangeRequest port width mode lanes s
  | .spareTrainingDone die spareB ok => Sys2Proof.Machine.execSpareTrainingDone die spareB ok s
  | .synthLock die lane => Sys2Proof.Machine.execSynthLock die lane s
  | .synthLockTimeout die lane => Sys2Proof.Machine.execSynthLockTimeout die lane s
  | .txEnable w die lane => Sys2Proof.Machine.execTxEnable w die lane s
  | .txIdle w die lane => Sys2Proof.Machine.execTxIdle w die lane s
  | .prbs31 w die lane => Sys2Proof.Machine.execPrbs31 w die lane s
  | .relock w die lane => Sys2Proof.Machine.execRelock w die lane s
  | .retrain w port => Sys2Proof.Machine.execRetrain w port s
  | .uprate w port => Sys2Proof.Machine.execUprate w port s
  | .restoreWidth w port => Sys2Proof.Machine.execRestoreWidth w port s
  | .portRestart w port => Sys2Proof.Machine.execPortRestart w port s
  | .adminDownWrite w port down => Sys2Proof.Machine.execAdminDownWrite w port down s
  | .take w die lane spareB => Sys2Proof.Machine.execTake w die lane spareB s
  | .spareRelease w die spareB => Sys2Proof.Machine.execSpareRelease w die spareB s
  | .packetIngress port frameTc frameGrains raw => Sys2Proof.Machine.execPacketIngress port frameTc frameGrains raw s
  | .rankLookupReturn port tc burred => Sys2Proof.Machine.execRankLookupReturn port tc burred s
  | .grainIngress port tc tag data last => Sys2Proof.Machine.execGrainIngress port tc tag data last s
  | .ethernetFrameIngress port etherType fcsOk frame => Sys2Proof.Machine.execEthernetFrameIngress port etherType fcsOk frame s
  | .egressSchedule port => Sys2Proof.Machine.execEgressSchedule port s
  | .tc7Insertion port => Sys2Proof.Machine.execTc7Insertion port s
  | .gateEntryAdvance port => Sys2Proof.Machine.execGateEntryAdvance port s
  | .reorderArrival port tc => Sys2Proof.Machine.execReorderArrival port tc s
  | .reorderTimeout port slot => Sys2Proof.Machine.execReorderTimeout port slot s
  | .reorderSlotFree port slot => Sys2Proof.Machine.execReorderSlotFree port slot s
  | .spindleTransferReceive die waiting => Sys2Proof.Machine.execSpindleTransferReceive die waiting s
  | .grainAlloc die req epoch count => Sys2Proof.Machine.execGrainAlloc die req epoch count s
  | .allocWaitGranted lathe => Sys2Proof.Machine.execAllocWaitGranted lathe s
  | .grainReturn die req epoch pointer => Sys2Proof.Machine.execGrainReturn die req epoch pointer s
  | .poolLevelSum => Sys2Proof.Machine.execPoolLevelSum s
  | .reclaim w die req => Sys2Proof.Machine.execReclaim w die req s
  | .reclaimComplete die req => Sys2Proof.Machine.execReclaimComplete die req s
  | .retrainAgeScan port => Sys2Proof.Machine.execRetrainAgeScan port s
  | .spillWrite what => Sys2Proof.Machine.execSpillWrite what s
  | .spillReadback what => Sys2Proof.Machine.execSpillReadback what s
  | .archiveSegmentCopy die => Sys2Proof.Machine.execArchiveSegmentCopy die s
  | .policerProfileWrite w die k isB value => Sys2Proof.Machine.execPolicerProfileWrite w die k isB value s
  | .policerBindWrite w die entry value => Sys2Proof.Machine.execPolicerBindWrite w die entry value s
  | .bundleExecute lathe residue => Sys2Proof.Machine.execBundleExecute lathe residue s
  | .grainBoundary done => Sys2Proof.Machine.execGrainBoundary done s
  | .arrivalNotice ctx => Sys2Proof.Machine.execArrivalNotice ctx s
  | .windowOperandArrive ctx => Sys2Proof.Machine.execWindowOperandArrive ctx s
  | .watchdogBite lathe => Sys2Proof.Machine.execWatchdogBite lathe s
  | .pipelineDrainTimeout lathe => Sys2Proof.Machine.execPipelineDrainTimeout lathe s
  | .pacedReleaseTick ctx => Sys2Proof.Machine.execPacedReleaseTick ctx s
  | .ltSlotWrite w lathe slot value => Sys2Proof.Machine.execLtSlotWrite w lathe slot value s
  | .evict w lathe ctx => Sys2Proof.Machine.execEvict w lathe ctx s
  | .reside w lathe ctx slot => Sys2Proof.Machine.execReside w lathe ctx slot s
  | .migrate w lathe ctx slot target => Sys2Proof.Machine.execMigrate w lathe ctx slot target s
  | .contextSaveComplete ctx => Sys2Proof.Machine.execContextSaveComplete ctx s
  | .contextRestoreComplete ctx => Sys2Proof.Machine.execContextRestoreComplete ctx s
  | .engineReset cause lathe => Sys2Proof.Machine.execEngineReset cause lathe s
  | .engineResetBoundaryTimeout lathe => Sys2Proof.Machine.execEngineResetBoundaryTimeout lathe s
  | .selfTestComplete lathe ok => Sys2Proof.Machine.execSelfTestComplete lathe ok s
  | .quadEngineReset cause die quad => Sys2Proof.Machine.execQuadEngineReset cause die quad s
  | .takeover w lathe => Sys2Proof.Machine.execTakeover w lathe s
  | .create w die ctx => Sys2Proof.Machine.execCreate w die ctx s
  | .start w die ctx slot phys => Sys2Proof.Machine.execStart w die ctx slot phys s
  | .programLoadComplete ctx => Sys2Proof.Machine.execProgramLoadComplete ctx s
  | .stop w die ctx => Sys2Proof.Machine.execStop w die ctx s
  | .resume w die ctx => Sys2Proof.Machine.execResume w die ctx s
  | .replay w die ctx => Sys2Proof.Machine.execReplay w die ctx s
  | .release w die ctx => Sys2Proof.Machine.execRelease w die ctx s
  | .collectiveArrival ctx => Sys2Proof.Machine.execCollectiveArrival ctx s
  | .query ctx rank call => Sys2Proof.Machine.execQuery ctx rank call s
  | .arrive ctx rank call => Sys2Proof.Machine.execArrive ctx rank call s
  | .vote ctx rank call digest => Sys2Proof.Machine.execVote ctx rank call digest s
  | .parentCompleteNotice ctx call status nflags resultK nextK => Sys2Proof.Machine.execParentCompleteNotice ctx call status nflags resultK nextK s
  | .narrowNotice ctx down call format => Sys2Proof.Machine.execNarrowNotice ctx down call format s
  | .partialArrival ctx from_ => Sys2Proof.Machine.execPartialArrival ctx from_ s
  | .callTimeout ctx => Sys2Proof.Machine.execCallTimeout ctx s
  | .admitJob w job => Sys2Proof.Machine.execAdmitJob w job s
  | .modify w job => Sys2Proof.Machine.execModify w job s
  | .remove w job => Sys2Proof.Machine.execRemove w job s
  | .jobCancel w job => Sys2Proof.Machine.execJobCancel w job s
  | .jobChecksComplete => Sys2Proof.Machine.execJobChecksComplete s
  | .svJobBaseWrite w value => Sys2Proof.Machine.execSvJobBaseWrite w value s
  | .jobDrainEnd job => Sys2Proof.Machine.execJobDrainEnd job s
  | .registerWrite w off size value => Sys2Proof.Machine.execRegisterWrite w off size value s
  | .bar0BadRead fn off size silent => Sys2Proof.Machine.execBar0BadRead fn off size silent s
  | .rcRead fn off => Sys2Proof.Machine.execRcRead fn off s
  | .bar2Read fn off len => Sys2Proof.Machine.execBar2Read fn off len s
  | .bar2Write fn off data => Sys2Proof.Machine.execBar2Write fn off data s
  | .dmaCompletion ch data => Sys2Proof.Machine.execDmaCompletion ch data s
  | .dmaReadTimeout ch cause => Sys2Proof.Machine.execDmaReadTimeout ch cause s
  | .bmeClear fn bme mse => Sys2Proof.Machine.execBmeClear fn bme mse s
  | .dmaChannelDone ch => Sys2Proof.Machine.execDmaChannelDone ch s
  | .hcfDataWrite fn word parityOk => Sys2Proof.Machine.execHcfDataWrite fn word parityOk s
  | .hcfDataEndWrite fn word parityOk => Sys2Proof.Machine.execHcfDataEndWrite fn word parityOk s
  | .flush fn => Sys2Proof.Machine.execFlush fn s
  | .hcfTake fn => Sys2Proof.Machine.execHcfTake fn s
  | .imageLoad fn => Sys2Proof.Machine.execImageLoad fn s
  | .imageCheck fn => Sys2Proof.Machine.execImageCheck fn s
  | .imageArm fn => Sys2Proof.Machine.execImageArm fn s
  | .imageCancel fn => Sys2Proof.Machine.execImageCancel fn s
  | .imageDiscard fn => Sys2Proof.Machine.execImageDiscard fn s
  | .window fn => Sys2Proof.Machine.execWindow fn s
  | .dumpFetch fn => Sys2Proof.Machine.execDumpFetch fn s
  | .override fn => Sys2Proof.Machine.execOverride fn s
  | .flashWrite fn => Sys2Proof.Machine.execFlashWrite fn s
  | .eventRead fn => Sys2Proof.Machine.execEventRead fn s
  | .mbxH2fWrite fn box value => Sys2Proof.Machine.execMbxH2fWrite fn box value s
  | .mbxAck fn box code => Sys2Proof.Machine.execMbxAck fn box code s
  | .mbxF2hWrite fn box value => Sys2Proof.Machine.execMbxF2hWrite fn box value s
  | .mbxFullRelease fn value => Sys2Proof.Machine.execMbxFullRelease fn value s
  | .uartFrameReceive sv t7 t8 t9 parityBit stop => Sys2Proof.Machine.execUartFrameReceive sv t7 t8 t9 parityBit stop s
  | .conTxdWrite fn sv value => Sys2Proof.Machine.execConTxdWrite fn sv value s
  | .conCapRead fn sv => Sys2Proof.Machine.execConCapRead fn sv s
  | .i3cPrivateWrite data => Sys2Proof.Machine.execI3cPrivateWrite data s
  | .i3cPrivateRead count => Sys2Proof.Machine.execI3cPrivateRead count s
  | .enec ibi => Sys2Proof.Machine.execEnec ibi s
  | .disec ibi => Sys2Proof.Machine.execDisec ibi s
  | .rstdaa => Sys2Proof.Machine.execRstdaa s
  | .entdaa address => Sys2Proof.Machine.execEntdaa address s
  | .setdasa static address => Sys2Proof.Machine.execSetdasa static address s
  | .setnewda address => Sys2Proof.Machine.execSetnewda address s
  | .getpid => Sys2Proof.Machine.execGetpid s
  | .getbcr => Sys2Proof.Machine.execGetbcr s
  | .getdcr => Sys2Proof.Machine.execGetdcr s
  | .getstatus => Sys2Proof.Machine.execGetstatus s
  | .getmwl => Sys2Proof.Machine.execGetmwl s
  | .setmwl value => Sys2Proof.Machine.execSetmwl value s
  | .getmrl => Sys2Proof.Machine.execGetmrl s
  | .setmrl value => Sys2Proof.Machine.execSetmrl value s
  | .rstact action => Sys2Proof.Machine.execRstact action s
  | .tapReset => Sys2Proof.Machine.execTapReset s
  | .idcode => Sys2Proof.Machine.execIdcode s
  | .samplePreload preload => Sys2Proof.Machine.execSamplePreload preload s
  | .extest flash => Sys2Proof.Machine.execExtest flash s
  | .clamp => Sys2Proof.Machine.execClamp s
  | .highz => Sys2Proof.Machine.execHighz s
  | .ijtag data => Sys2Proof.Machine.execIjtag data s
  | .bypass code => Sys2Proof.Machine.execBypass code s
  | .campaign sv term => Sys2Proof.Machine.execCampaign sv term s
  | .renew sv term => Sys2Proof.Machine.execRenew sv term s
  | .resign sv term => Sys2Proof.Machine.execResign sv term s
  | .handover w sv turn => Sys2Proof.Machine.execHandover w sv turn s
  | .cancelHandover w => Sys2Proof.Machine.execCancelHandover w s
  | .svRestart w sv copyB => Sys2Proof.Machine.execSvRestart w sv copyB s
  | .supervisorReady sv ok => Sys2Proof.Machine.execSupervisorReady sv ok s
  | .termNotice die voter => Sys2Proof.Machine.execTermNotice die voter s
  | .leaseExpiry => Sys2Proof.Machine.execLeaseExpiry s
  | .campaignBackoffExpiry sv => Sys2Proof.Machine.execCampaignBackoffExpiry sv s
  | .seamCut lost => Sys2Proof.Machine.execSeamCut lost s
  | .seamHeal => Sys2Proof.Machine.execSeamHeal s
  | .errqPop w die => Sys2Proof.Machine.execErrqPop w die s
  | .scrub die addr hit => Sys2Proof.Machine.execScrub die addr hit s
  | .hangDetect die unit => Sys2Proof.Machine.execHangDetect die unit s
  | .noLeaderTimeout => Sys2Proof.Machine.execNoLeaderTimeout s
  | .partReset w part => Sys2Proof.Machine.execPartReset w part s
  | .warmRestart w => Sys2Proof.Machine.execWarmRestart w s
  | .powerCycle w => Sys2Proof.Machine.execPowerCycle w s
  | .healthUpdate => Sys2Proof.Machine.execHealthUpdate s
  | .bootConfirm w => Sys2Proof.Machine.execBootConfirm w s
  | .bootConfirmTimeout => Sys2Proof.Machine.execBootConfirmTimeout s
  | .nearTierTrained ok => Sys2Proof.Machine.execNearTierTrained ok s
  | .farTierTrained ok => Sys2Proof.Machine.execFarTierTrained ok s
  | .mainFirmwareLoaded => Sys2Proof.Machine.execMainFirmwareLoaded s
  | .pcieLinkDown fn trained => Sys2Proof.Machine.execPcieLinkDown fn trained s
  | .d3hotEntry fn d3 => Sys2Proof.Machine.execD3hotEntry fn d3 s
  | .childAbortNotice ctx call status => Sys2Proof.Machine.execChildAbortNotice ctx call status s
  | .resizePauseEnd port => Sys2Proof.Machine.execResizePauseEnd port s
  | .coldTrainingTimeout port => Sys2Proof.Machine.execColdTrainingTimeout port s
  | .vaux1v8Recover mv => Sys2Proof.Machine.execVaux1v8Recover mv s
  | .bootStageLoaded => Sys2Proof.Machine.execBootStageLoaded s
  | .windowWriteAccepted ctx => Sys2Proof.Machine.execWindowWriteAccepted ctx s
  | .dumpWritten => Sys2Proof.Machine.execDumpWritten s

end Sys2Proof.Machine
end

