-- ==== Sys2Proof/Machine/Step.lean ====
section
/-! DEFINITION. One step: the command at the front of the queue acts on the state with the queue's rest; on an empty queue one
tick passes. -/

namespace Sys2Proof.Machine

/-- One step. With a command waiting, it is taken and acts; with none, one tick of the timebase passes (DESIGN CHOICE, log
1). -/
def step (s : State) : Host.Outcome State Fault Refusal :=
  match s.pending with
  | [] => .next s.idle
  | c :: rest => exec c { s with pending := rest }

/-- s with the command that a word of the table spells at the front of its queue: s itself, since no word spells one. -/
def State.withFetchWord (s : State) (nbits w : Nat) : State :=
  match Sys2Proof.decodeTableWord nbits w with
  | some c => { s with pending := c :: s.pending }
  | none => s

end Sys2Proof.Machine
end

