-- ==== Sys2Proof/Safety.lean ====
section
/-! DEFINITION. What counts as safe, in the terms that claims use: steps that do not stop, memory in its canonical form, and the trust
that the fuses hold. -/

namespace Sys2Proof.Machine

/-- A step that does not stop. -/
def goesOn (o : Host.Outcome State Fault Refusal) : Bool :=
  match o with
  | .next _ => true
  | _ => false

/-- Both tiers of memory are in their canonical form. -/
def State.memoryOk (s : State) : Bool := Memory.wf s.near && Memory.wf s.far

/-- What the fuses say that nothing changes: grade, stepping, disabled units and key hashes (R6, R7, R24, R67). -/
def Fuses.identity (f : Fuses) : Fuses := { f with minSec := 0, revoked := 0, trips := [] }

/-- The fuses' trust does not fall from old to new: the identity is the same, MIN_SEC is no lower, and no key slot is revoked no
longer (R67, R68). -/
def Fuses.trustKept (old new : Fuses) : Prop :=
  new.identity = old.identity ∧ old.minSec ≤ new.minSec ∧ ∀ k, bitOf old.revoked k = true → bitOf new.revoked k = true

/-- The pieces of the state, one for each field of State. -/
inductive Piece where
  | fuses | pins | tb | regs | dies | pdPend | wakes | img | sup | err | side | boot | host | bench | ports | lanes
  | spares | head | jobs | ctxs | lathes | near | far | nearBurr | farBurr | freeCtr | outs | pending
  deriving DecidableEq, Repr

/-- A piece of the state is the same in s and t. -/
def Piece.same (s t : State) : Piece → Prop
  | .fuses => t.fuses = s.fuses
  | .pins => t.pins = s.pins
  | .tb => t.tb = s.tb
  | .regs => t.regs = s.regs
  | .dies => t.dies = s.dies
  | .pdPend => t.pdPend = s.pdPend
  | .wakes => t.wakes = s.wakes
  | .img => t.img = s.img
  | .sup => t.sup = s.sup
  | .err => t.err = s.err
  | .side => t.side = s.side
  | .boot => t.boot = s.boot
  | .host => t.host = s.host
  | .bench => t.bench = s.bench
  | .ports => t.ports = s.ports
  | .lanes => t.lanes = s.lanes
  | .spares => t.spares = s.spares
  | .head => t.head = s.head
  | .jobs => t.jobs = s.jobs
  | .ctxs => t.ctxs = s.ctxs
  | .lathes => t.lathes = s.lathes
  | .near => t.near = s.near
  | .far => t.far = s.far
  | .nearBurr => t.nearBurr = s.nearBurr
  | .farBurr => t.farBurr = s.farBurr
  | .freeCtr => t.freeCtr = s.freeCtr
  | .outs => t.outs = s.outs
  | .pending => t.pending = s.pending

/-- Every piece that is not listed is the same in s and t. -/
def State.keeps (s t : State) (changed : List Piece) : Prop := ∀ p, p ∉ changed → p.same s t

/-- Every register that is not listed reads the same in s and t. -/
def State.keepsRegs (s t : State) (changed : List Nat) : Prop := ∀ off, off ∉ changed → t.rd off = s.rd off

/-- What a command can reach: the pieces of the state that it may change. Most commands that reach far do so because an error
record or a step of the escalation that they raise does. -/
def reach : Instr → List Piece
  | .coldRstNRelease .. =>
      [.pins, .tb, .regs, .dies, .pdPend, .wakes, .img, .sup, .err, .side, .boot, .host, .bench, .ports, .lanes, .spares,
       .head, .jobs, .ctxs, .lathes, .near, .far, .nearBurr, .farBurr, .outs]
  | .coldRstNAssert .. =>
      [.pins, .tb, .regs, .dies, .pdPend, .wakes, .img, .sup, .err, .side, .boot, .host, .bench, .ports, .lanes, .spares,
       .head, .jobs, .ctxs, .lathes, .near, .far, .nearBurr, .farBurr, .freeCtr]
  | .perstAssert .. | .functionLevelReset .. | .bmeClear .. | .dumpFetch .. | .flashWrite .. | .pcieLinkDown .. |
    .d3hotEntry .. => [.regs, .host, .bench, .freeCtr, .outs]
  | .vinPkgLow .. | .referenceLost .. => [.pins, .regs, .err, .side, .host, .outs]
  | .vinPkgRecover .. | .tripHoldEnd .. => [.pins]
  | .vinPkgDip .. | .timebaseSourceFail .. | .bar2Read .. | .errqPop .. => [.regs, .err, .host, .outs]
  | .vinPkgHigh .. | .vaux1v8Recover .. => [.pins, .regs, .err, .host, .outs]
  | .powerFault .. =>
      [.pins, .tb, .regs, .pdPend, .wakes, .img, .sup, .err, .side, .boot, .host, .bench, .ports, .lanes, .spares, .head,
       .jobs, .ctxs, .lathes, .near, .far, .nearBurr, .farBurr, .outs]
  | .vaux1v8Drop .. =>
      [.pins, .tb, .regs, .dies, .pdPend, .wakes, .img, .sup, .err, .side, .boot, .host, .bench, .ports, .lanes, .spares,
       .head, .jobs, .ctxs, .lathes, .near, .far, .nearBurr, .farBurr]
  | .referenceRecovered .. => [.pins, .regs]
  | .thermalSample .. => [.pins, .regs, .dies, .err, .side, .host, .ctxs, .outs]
  | .limitVoltageStep .. => [.dies]
  | .dutyStep .. | .create .. => [.regs, .ctxs]
  | .thermalTrip .. =>
      [.fuses, .pins, .tb, .regs, .pdPend, .wakes, .img, .sup, .err, .side, .boot, .host, .bench, .ports, .lanes, .spares,
       .head, .jobs, .ctxs, .lathes, .near, .far, .nearBurr, .farBurr, .outs]
  | .turnBoundary .. =>
      [.fuses, .tb, .regs, .dies, .pdPend, .wakes, .img, .sup, .err, .side, .boot, .host, .bench, .ports, .lanes, .spares,
       .head, .jobs, .ctxs, .lathes, .near, .far, .nearBurr, .outs]
  | .internalAlignmentDone .. | .tbFreqWrite .. | .tbPtpCtlWrite .. | .check .. | .cancel .. | .gateEntryAdvance .. |
    .ltSlotWrite .. | .svJobBaseWrite .. | .mbxAck .. | .leaseExpiry .. | .bootConfirm .. => [.regs]
  | .skewMeasure .. | .heartbeatMiss .. | .dieFailed .. | .scrub .. =>
      [.regs, .dies, .wakes, .sup, .err, .side, .host, .bench, .ports, .jobs, .ctxs, .lathes, .near, .far, .nearBurr,
       .farBurr, .freeCtr, .outs]
  | .tbStepWrite .. => [.tb, .regs]
  | .ptpMessage .. | .packetIngress .. | .rankLookupReturn .. | .ethernetFrameIngress .. =>
      [.regs, .dies, .err, .side, .bench, .ports, .head, .jobs, .ctxs, .lathes, .near, .nearBurr, .outs]
  | .imageDmaLoad .. | .arm .. | .discard .. | .retireReport .. | .retireTimeout .. => [.regs, .img]
  | .checkComplete .. => [.regs, .img, .err, .boot, .host, .outs]
  | .stagingReady .. => [.img, .sup]
  | .commit .. => [.tb, .regs, .img]
  | .pdWrite .. => [.regs, .pdPend]
  | .wakeGroupStart .. => [.regs, .wakes]
  | .domainWakeReady .. =>
      [.regs, .dies, .wakes, .sup, .err, .side, .host, .bench, .ports, .lanes, .spares, .head, .jobs, .ctxs, .lathes,
       .near, .far, .nearBurr, .farBurr, .freeCtr, .outs]
  | .wakeTimeout .. | .domainDrainComplete .. =>
      [.regs, .wakes, .sup, .err, .side, .host, .bench, .ports, .lanes, .spares, .head, .jobs, .ctxs, .lathes, .near, .far,
       .nearBurr, .outs]
  | .lossOfSignal .. | .linkFrameReceive .. | .retrain .. => [.regs, .ports, .outs]
  | .signalDetect .. | .holddownExpiry .. | .faultRetryExpiry .. | .portRestart .. => [.regs, .ports, .lanes]
  | .trainingComplete .. => [.regs, .dies, .err, .side, .bench, .ports, .lanes, .near, .nearBurr, .freeCtr, .outs]
  | .warmTrainingTimeout .. | .creditReturn .. | .reorderSlotFree .. => [.ports]
  | .trainingBackoffExpiry .. => [.regs, .ports]
  | .capabilityWord .. => [.regs, .dies, .err, .side, .bench, .ports, .lanes, .near, .nearBurr, .outs]
  | .capabilityResendTimeout .. | .coldTrainingTimeout .. => [.regs, .err, .bench, .ports, .lanes, .outs]
  | .ackReceive .. => [.bench, .ports]
  | .nakReceive .. | .egressSchedule .. | .tc7Insertion .. => [.regs, .dies, .bench, .ports, .outs]
  | .retrainLimitExpiry .. | .pcsAlignmentLoss .. =>
      [.regs, .err, .side, .bench, .ports, .jobs, .ctxs, .lathes, .near, .nearBurr, .outs]
  | .laneFail .. | .synthLockTimeout .. =>
      [.regs, .err, .side, .bench, .ports, .lanes, .spares, .jobs, .ctxs, .lathes, .near, .nearBurr, .outs]
  | .peerChangeRequest .. | .uprate .. | .restoreWidth .. => [.regs, .err, .ports, .lanes, .outs]
  | .spareTrainingDone .. => [.regs, .err, .ports, .lanes, .spares, .outs]
  | .synthLock .. | .txEnable .. | .txIdle .. | .prbs31 .. | .relock .. => [.regs, .lanes]
  | .adminDownWrite .. | .quadEngineReset .. =>
      [.regs, .err, .side, .bench, .ports, .lanes, .jobs, .ctxs, .lathes, .near, .nearBurr, .outs]
  | .take .. => [.regs, .lanes, .spares]
  | .spareRelease .. => [.regs, .spares]
  | .grainIngress .. => [.regs, .dies, .err, .bench, .ports, .ctxs, .outs]
  | .reorderArrival .. | .reorderTimeout .. | .grainAlloc .. => [.regs, .bench, .ports]
  | .spindleTransferReceive .. => [.regs, .dies, .err, .ports, .head, .ctxs, .near, .far, .nearBurr, .farBurr, .outs]
  | .allocWaitGranted .. | .collectiveArrival .. | .arrive .. | .vote .. =>
      [.regs, .dies, .err, .side, .bench, .ports, .jobs, .ctxs, .lathes, .near, .nearBurr, .outs]
  | .grainReturn .. => [.regs, .err, .bench, .ports, .ctxs]
  | .poolLevelSum .. => [.regs, .bench, .ports, .outs]
  | .reclaim .. | .reclaimComplete .. | .retrainAgeScan .. => [.regs, .bench]
  | .spillWrite .. => [.bench, .ctxs, .near, .nearBurr]
  | .spillReadback .. => [.regs, .bench, .ports, .ctxs]
  | .archiveSegmentCopy .. => [.bench, .far, .farBurr]
  | .policerProfileWrite .. | .policerBindWrite .. => [.regs, .head]
  | .bundleExecute .. | .grainBoundary .. | .arrivalNotice .. | .windowOperandArrive .. | .partialArrival .. =>
      [.regs, .dies, .err, .side, .bench, .ports, .jobs, .ctxs, .lathes, .near, .far, .nearBurr, .farBurr, .freeCtr, .outs]
  | .watchdogBite .. | .engineReset .. | .engineResetBoundaryTimeout .. =>
      [.regs, .err, .side, .bench, .jobs, .ctxs, .lathes, .near, .nearBurr, .farBurr, .freeCtr, .outs]
  | .pipelineDrainTimeout .. => [.regs, .err, .lathes]
  | .pacedReleaseTick .. => [.regs, .dies, .err, .side, .bench, .jobs, .ctxs, .lathes, .near, .nearBurr, .outs]
  | .evict .. | .migrate .. | .stop .. | .release .. => [.regs, .bench, .jobs, .ctxs, .lathes]
  | .reside .. | .start .. => [.regs, .err, .bench, .ctxs, .outs]
  | .contextSaveComplete .. => [.regs, .ctxs, .near, .nearBurr, .farBurr, .freeCtr]
  | .contextRestoreComplete .. | .programLoadComplete .. | .resume .. | .replay .. | .parentCompleteNotice .. |
    .callTimeout .. | .childAbortNotice .. | .windowWriteAccepted .. =>
      [.regs, .err, .side, .bench, .jobs, .ctxs, .lathes, .near, .nearBurr, .outs]
  | .selfTestComplete .. =>
      [.regs, .wakes, .err, .side, .bench, .ports, .lanes, .head, .jobs, .ctxs, .lathes, .near, .nearBurr, .outs]
  | .takeover .. => [.regs, .wakes, .lathes]
  | .query .. => [.regs, .bench, .outs]
  | .narrowNotice .. => [.regs, .err, .side, .bench, .ctxs, .near, .nearBurr, .outs]
  | .admitJob .. | .modify .. | .remove .. => [.regs, .jobs]
  | .jobCancel .. | .jobChecksComplete .. => [.regs, .jobs, .near, .nearBurr]
  | .jobDrainEnd .. => [.regs, .bench, .ports, .head, .jobs, .near, .nearBurr]
  | .registerWrite .. =>
      [.tb, .regs, .pdPend, .wakes, .img, .sup, .err, .side, .host, .bench, .ports, .lanes, .spares, .head, .jobs, .ctxs,
       .lathes, .near, .nearBurr, .farBurr, .freeCtr, .outs]
  | .bar0BadRead .. => [.regs, .side, .jobs, .ctxs, .lathes, .freeCtr, .outs]
  | .rcRead .. => [.regs, .side, .jobs, .ctxs, .lathes, .outs]
  | .bar2Write .. => [.regs, .near, .far, .nearBurr, .farBurr, .outs]
  | .dmaCompletion .. | .imageLoad .. => [.regs, .img, .host, .bench, .freeCtr, .outs]
  | .dmaReadTimeout .. => [.regs, .err, .host, .bench, .freeCtr, .outs]
  | .dmaChannelDone .. => [.regs, .side, .host, .freeCtr, .outs]
  | .hcfDataWrite .. | .hcfDataEndWrite .. | .mbxFullRelease .. => [.regs, .host]
  | .flush .. => [.host, .outs]
  | .hcfTake .. => [.regs, .err, .host, .freeCtr, .outs]
  | .imageCheck .. | .imageCancel .. | .window .. | .override .. => [.regs, .host, .freeCtr]
  | .imageArm .. | .imageDiscard .. => [.regs, .img, .host, .freeCtr]
  | .eventRead .. => [.regs, .err, .host, .freeCtr]
  | .mbxH2fWrite .. => [.regs, .host, .outs]
  | .mbxF2hWrite .. => [.regs, .outs]
  | .uartFrameReceive .. | .conTxdWrite .. => [.regs, .side]
  | .conCapRead .. | .i3cPrivateWrite .. | .entdaa .. | .setdasa .. | .setnewda .. | .rstact .. | .idcode .. | .ijtag .. =>
      [.side, .outs]
  | .i3cPrivateRead .. | .samplePreload .. => [.side, .freeCtr, .outs]
  | .enec .. | .disec .. | .rstdaa .. | .setmwl .. | .setmrl .. | .tapReset .. | .bypass .. => [.side]
  | .getpid .. | .getbcr .. | .getdcr .. | .getmwl .. | .getmrl .. => [.outs]
  | .getstatus .. => [.freeCtr, .outs]
  | .extest .. | .clamp .. | .highz .. => [.regs, .err, .side, .host, .outs]
  | .campaign .. | .campaignBackoffExpiry .. => [.regs, .img, .sup, .err, .host, .freeCtr, .outs]
  | .renew .. | .resign .. => [.regs, .sup, .outs]
  | .handover .. | .cancelHandover .. | .svRestart .. => [.regs, .sup]
  | .supervisorReady .. => [.regs, .sup, .err, .host, .outs]
  | .termNotice .. => [.sup]
  | .seamCut .. => [.regs, .sup, .err, .side, .host, .jobs, .near, .nearBurr, .outs]
  | .seamHeal .. => [.regs, .sup, .err, .side, .host, .near, .nearBurr, .outs]
  | .hangDetect .. => [.regs, .err]
  | .noLeaderTimeout .. | .warmRestart .. => [.regs, .sup, .err, .side, .near, .nearBurr, .outs]
  | .partReset .. => [.regs, .err, .side, .bench, .ports, .lanes, .head, .jobs, .ctxs, .lathes, .near, .nearBurr, .outs]
  | .powerCycle .. => [.regs, .err, .side, .near, .nearBurr, .outs]
  | .healthUpdate .. => [.regs, .err, .side, .lanes, .spares, .near, .nearBurr, .outs]
  | .bootConfirmTimeout .. => [.regs, .sup, .err, .boot, .host, .outs]
  | .nearTierTrained .. => [.regs, .wakes, .err, .boot, .host, .outs]
  | .farTierTrained .. => [.regs, .wakes, .img, .err, .boot, .host, .outs]
  | .mainFirmwareLoaded .. => [.regs, .sup, .err, .boot, .host, .near, .nearBurr, .outs]
  | .resizePauseEnd .. => [.regs, .dies, .err, .side, .ports, .near, .nearBurr, .outs]
  | .bootStageLoaded .. => [.regs, .err, .boot, .host, .outs]
  | .dumpWritten .. => [.regs, .err, .side, .near, .nearBurr, .freeCtr, .outs]

/-- The command runs on s and answers a next state of which P holds. -/
def completes (c : Instr) (s : State) (P : State → Prop) : Prop := ∃ t, exec c s = .next t ∧ P t

end Sys2Proof.Machine
end

