-- ==== Sys2Proof/Certificates/Slice0/Obligations.lean ====
section
/-! DEFINITION. The statements for the provers. completes c s P says that the command c runs on s and answers a next state of which P
holds; s.keeps t ps that every piece of the state but those in ps is the same, s.keepsRegs t l that every register but those in l
reads the same. -/

open Sys2Proof Sys2Proof.Machine

/-! ## The machine as a whole -/

/-- A step takes the command at the front of the queue and runs it with the queue's rest (the block's form; log 1). -/
def Obligations.StepRunsFront : Prop :=
  ∀ (c : Instr) (q : List Instr) (s : State), step { s with pending := c :: q } = exec c { s with pending := q }

/-- With no command waiting, a part that is held in reset stays as it is, and in one that runs one tick passes; away from a turn boundary
nothing else changes (the model's choice, log 1). -/
def Obligations.StepIdle : Prop :=
  (∀ s : State, s.pending = [] → s.running = false → step s = .next s)
    ∧ (∀ s : State, s.pending = [] → s.running = true → s.nextBoundary ≠ s.tb.tick + 1 →
      step s = .next { s with tb := { s.tb with tick := s.tb.tick + 1 } })
    ∧ (∀ s : State, s.pending = [] → s.running = true → s.nextBoundary = s.tb.tick + 1 → step s = exec .turnBoundary s)

/-- A command changes only the pieces of the state that its reach lists: all 225 commands, on every state. -/
def Obligations.CommandReach : Prop :=
  ∀ (c : Instr) (s t : State), exec c s = .next t → s.keeps t (reach c)

/-- No command is refused, and a command stops exactly on a supply beyond its absolute maximum rating (R409), where the spec does not specify
the behaviour: VAUX_1V8 that comes back above 2.10 V. Every other command goes on, on every state. -/
def Obligations.OnlyRatingsStop : Prop :=
  (∀ (c : Instr) (s : State),
    (∃ t, exec c s = .next t)
      ∨ (exec c s = .fault .beyondRatings ∧ ∃ mv, c = .vaux1v8Recover mv ∧ 2100 < mv))
    ∧ (∀ (mv : Nat) (s : State), 2100 < mv → exec (.vaux1v8Recover mv) s = .fault .beyondRatings)

/-- Both tiers of memory keep their canonical form: from every state that has it, every step leads to a state that has it. -/
def Obligations.MemoryFormKept : Prop :=
  ∀ s t : State, s.memoryOk = true → step s = .next t → t.memoryOk = true

/-- No step lowers the fuses' trust: grade, stepping, disabled units and key hashes stay, MIN_SEC does not fall, a revoked key slot stays
revoked (R67, R68); and only a turn boundary, whose activation with COMMIT_SEC blows them, and a thermal trip, which counts itself (R53), change
them at all. -/
def Obligations.FuseTrustKept : Prop :=
  (∀ s t : State, step s = .next t → Fuses.trustKept s.fuses t.fuses)
    ∧ ∀ (c : Instr) (s t : State), exec c s = .next t → c ≠ .turnBoundary → (∀ d, c ≠ .thermalTrip d) → t.fuses = s.fuses

/-! ## Reset and the start -/

/-- What the spec says reset leaves: COLD_RST_N asserted, tick and turn 0 counted from tick 0 in turns of 100,000 ticks (R84, R90), no
plane active and the shadow plane EMPTY (R73), every voter with PROMISED 0 and no holder and the seam joined (R405), no job, no
context, no command waiting; and both tiers of memory are in their canonical form. -/
def Obligations.ResetState : Prop :=
  State.reset.pins.coldRst = true ∧ State.reset.tb.tick = 0 ∧ State.reset.tb.turn = 0 ∧ State.reset.tb.origin = 0
    ∧ State.reset.tb.ticks = 100000 ∧ State.reset.fld R.tbTurnLen F.TbTurnLen.ticks = 100000
    ∧ State.reset.fld R.tbStat F.TbStat.stepAllowed = 1 ∧ State.reset.img.active = none ∧ State.reset.imgState = 0
    ∧ (∀ v, State.reset.voter v = ⟨0, 0xF, 0⟩) ∧ State.reset.sup.seam = .joined ∧ State.reset.leader = none
    ∧ (∀ j, State.reset.job j = JobSt.none_) ∧ (∀ c, State.reset.ctx c = CtxSt.free) ∧ State.reset.stage = 0
    ∧ State.reset.pending = [] ∧ State.reset.memoryOk = true

/-- COLD_RST_N_ASSERT (R402, R414): a pulse of at least 10 µs, of a part that nothing holds, resets everything but what survives: the
fuses, the boot flash, the ERR log, the dumps, and the attempts of both copies; a pulse under 1 µs is ignored; while a trip or a lost
VAUX_1V8 holds the part only the pin changes. -/
def Obligations.ColdResetAsserts : Prop :=
  (∀ (ns : Nat) (s : State), 10000 ≤ ns → s.pins.hold ≠ .trip → s.pins.hold ≠ .vaux →
    completes (.coldRstNAssert ns) s fun t =>
      t.pins.coldRst = true ∧ t.pins.hold = .none ∧ t.tb = State.reset.tb ∧ t.img = State.reset.img ∧ t.sup = State.reset.sup
        ∧ t.bench = State.reset.bench ∧ t.ports = [] ∧ t.jobs = State.reset.jobs ∧ t.ctxs = [] ∧ t.lathes = [] ∧ t.near = []
        ∧ t.far = [] ∧ t.host = State.reset.host ∧ t.fuses = s.fuses ∧ t.side.flashA = s.side.flashA ∧ t.side.flashB = s.side.flashB
        ∧ t.err.log = s.err.log ∧ t.err.dumps = s.err.dumps ∧ t.rd R.errStat = s.rd R.errStat ∧ t.rd R.errDump = s.rd R.errDump
        ∧ t.fld R.glbBoot F.GlbBoot.attemptsA = s.fld R.glbBoot F.GlbBoot.attemptsA
        ∧ t.fld R.glbBoot F.GlbBoot.attemptsB = s.fld R.glbBoot F.GlbBoot.attemptsB ∧ t.stage = 0)
    ∧ (∀ (ns : Nat) (s : State), ns < 1000 → exec (.coldRstNAssert ns) s = .next s)
    ∧ (∀ (ns : Nat) (s : State), 10000 ≤ ns → s.pins.hold = .trip ∨ s.pins.hold = .vaux →
      completes (.coldRstNAssert ns) s fun t => t.pins = { s.pins with coldRst := true } ∧ s.keeps t [.pins])

/-- COLD_RST_N_RELEASE (R84, R402, R405): with both supplies in range the part starts, its tick and turn counters at 0, its fuses, boot
flash and dumps as before, and STAGE is STAGE_LOAD with the copy that keeper West selects, or SELECT where no copy has a
valid record; with a supply out of range it deasserts nothing further and waits for COLD_RST_N again. -/
def Obligations.ColdResetReleases : Prop :=
  (∀ s : State, s.pins.coldRst = true → s.pins.hold = .none → s.suppliesOk = true →
    completes .coldRstNRelease s fun t =>
      t.pins = { s.pins with coldRst := false, pwrFault := false, thermAlert := false, tripped := false } ∧ t.running = true
        ∧ t.tb = State.reset.tb ∧ t.img = State.reset.img ∧ t.sup = State.reset.sup ∧ t.ctxs = [] ∧ t.ports = [] ∧ t.fuses = s.fuses
        ∧ t.side.flashA = s.side.flashA ∧ t.side.flashB = s.side.flashB ∧ t.err.dumps = s.err.dumps
        ∧ (∀ c, s.selectCopy = some c → t.stage = 2 ∧ t.boot.copy = c ∧ t.boot.tried = [c] ∧ t.fld R.glbBoot F.GlbBoot.copy = c)
        ∧ (s.selectCopy = none → t.stage = 1 ∧ t.fld R.glbBoot F.GlbBoot.fail = 3))
    ∧ (∀ s : State, s.pins.coldRst = true → s.pins.hold = .none → s.suppliesOk = false →
      completes .coldRstNRelease s fun t =>
        t.pins.coldRst = false ∧ t.pins.hold = .await ∧ t.running = false ∧ t.fld R.glbBoot F.GlbBoot.fail = 1)
    ∧ (∀ s : State, s.pins.coldRst = true → s.pins.hold ≠ .none →
      completes .coldRstNRelease s fun t => t.pins = { s.pins with coldRst := false } ∧ s.keeps t [.pins])
    ∧ (∀ s : State, s.pins.coldRst = false → exec .coldRstNRelease s = .next s)

/-- The steps of the start (R404, R405): the boot stage that matches its hash stands in the supervisors' SRAM and moves STAGE on; the
near tier that trained at least one stack, and the far tier, are marked done, with the stacks and channels that did not train FAILED; the main
firmware that matches its hash is copied into the lowest trained stack and STAGE becomes LEASE. -/
def Obligations.StartSteps : Prop :=
  (∀ s : State, s.stage = 2 →
    sha384 (s.flashRead s.boot.copy ((s.bootRec s.boot.copy).le 16 4) ((s.bootRec s.boot.copy).le 20 4)).bytes
      = ((s.bootRec s.boot.copy).slice 40 48).bytes →
    completes .bootStageLoaded s fun t =>
      t.stage = (if s.boot.nearDone then 4 else 3)
        ∧ t.boot = { s.boot with sram := s.flashRead s.boot.copy ((s.bootRec s.boot.copy).le 16 4) ((s.bootRec s.boot.copy).le 20 4) }
        ∧ s.keeps t [.boot, .regs])
    ∧ (∀ (s : State) (ok : BitVec 8) (n : Nat), s.stage = 3 → s.boot.nearDone = false →
      (s.stacks.filter (fun i => bitOf ok.toNat i)).head? = some n →
      completes (.nearTierTrained ok) s fun t =>
        t.boot.nearDone = true ∧ t.boot.mainStack = some n ∧ t.stage = 4
          ∧ (∀ i, i ∈ s.stacks → bitOf ok.toNat i = false → t.domState (domNear i) = 5))
    ∧ (∀ (s : State) (ok : BitVec 12), 3 ≤ s.stage → s.stage ≠ 6 → s.boot.farDone = false →
      completes (.farTierTrained ok) s fun t =>
        t.boot = { s.boot with farDone := true } ∧ t.stage = s.stage
          ∧ (∀ i, i < 12 → bitOf ok.toNat i = false → t.domState (domFar (i / 3) (i % 3)) = 5))
    ∧ (∀ (s : State) (ok : BitVec 12), s.stage = 6 → s.boot.farDone = false →
      completes (.farTierTrained ok) s fun t => t.boot.farDone = true)
    ∧ (∀ (s : State) (n : Nat), s.stage = 4 → s.boot.mainStack = some n →
      sha384 (s.flashRead s.boot.copy ((s.bootRec s.boot.copy).le 24 4) ((s.bootRec s.boot.copy).le 28 4)).bytes
        = ((s.bootRec s.boot.copy).slice 88 48).bytes →
      completes .mainFirmwareLoaded s fun t =>
        t.stage = 5 ∧ t.boot = { s.boot with mainDone := true }
          ∧ t.near = memWrite s.near ((s.stacks.filter (fun i => decide (i < n))).length * 2 ^ 36) ((s.bootRec s.boot.copy).le 28 4)
            (s.flashRead s.boot.copy ((s.bootRec s.boot.copy).le 24 4) ((s.bootRec s.boot.copy).le 28 4)).val
          ∧ s.keeps t [.near, .nearBurr, .boot, .regs])

/-- The confirmation of a boot (R404, R407, R408): firmware whose write the keepers' fence applies sets CONFIRMED and clears the attempts
of the running copy, and no other register changes; a start that is not confirmed 2 s after t0 counts an attempt of its copy, and with no copy
left it is HALTED.
Which of the two FAIL codes is the model's reading (log 35). -/
def Obligations.BootConfirmation : Prop :=
  (∀ (sv : Sv) (term : Option Nat) (s : State), s.judge (.fw sv term) s.glbDie = .applied →
    completes (.bootConfirm (.fw sv term)) s fun t =>
      t.fld R.glbBoot F.GlbBoot.confirmed = 1 ∧ t.fld R.glbBoot (attemptsF (s.fld R.glbBoot F.GlbBoot.copy)) = 0
        ∧ t.fld R.glbBoot (attemptsF (1 - s.fld R.glbBoot F.GlbBoot.copy))
          = s.fld R.glbBoot (attemptsF (1 - s.fld R.glbBoot F.GlbBoot.copy))
        ∧ s.keepsRegs t [R.glbBoot] ∧ s.keeps t [.regs])
    ∧ (∀ s : State, s.running = true → s.fld R.glbBoot F.GlbBoot.confirmed = 0 → 2000000000 ≤ s.tb.tick - s.boot.stepped → 2 ≤ s.stage →
      s.stage < 8 → s.boot.fallback = true →
      completes .bootConfirmTimeout s fun t =>
        t.stage = 9 ∧ t.fld R.glbBoot (attemptsF s.boot.copy) = min 15 (s.fld R.glbBoot (attemptsF s.boot.copy) + 1)
          ∧ (t.fld R.glbBoot F.GlbBoot.fail = 7 ∨ t.fld R.glbBoot F.GlbBoot.fail = 9))
    ∧ (∀ s : State, s.running = true → s.fld R.glbBoot F.GlbBoot.confirmed = 0 →
      2000000000 ≤ s.tb.tick - s.boot.stepped → 2 ≤ s.stage → s.stage < 8 → s.boot.fallback = false →
      completes .bootConfirmTimeout s fun t =>
        (∀ o, s.otherCopy = some o →
          t.stage = 2 ∧ t.boot.copy = o ∧ t.boot.fallback = true ∧ t.fld R.glbBoot F.GlbBoot.copy = o)
          ∧ (s.otherCopy = none → t.stage = 9))

/-! ## Supplies, temperature, domains -/

/-- A supply event is in the ERR log at the place that NEXT_SEQ names: a keeper's record with the supply in mV (R58, R376, R381). -/
abbrev supplyLogged (s t : State) (sev mv : Nat) : Prop :=
  t.err.log.get (fun _ => none) (s.fld R.errStat F.ErrStat.nextSeq % 1024)
    = some { plainRec 0x13 0 sev 0xFF s.tb.tick with detail := mv }

/-- VIN_PKG out of its range but survivable (R58): a low supply caps the setpoints at VIN_PKG less 50 mV and tells the tray controller with
event 0x21; its recovery, and a supply above its range, lift the cap; a short dip, and a high supply that is no power fault, are logged
and the part runs on. -/
def Obligations.SupplyRidesThrough : Prop :=
  (∀ (mv : Nat) (s : State), 770 ≤ mv → mv < 850 →
    completes (.vinPkgLow mv) s fun t =>
      t.pins = { s.pins with vinMv := mv, vinCap := some ((mv - 770) / 5) }
        ∧ t.side.i3cQueue = i3cPush s.side.i3cQueue ⟨0x21, 0xFF, s.tb.tick % 2 ^ 48⟩ ∧ supplyLogged s t 0 mv
        ∧ s.keepsRegs t [R.errStat] ∧ s.keeps t [.pins, .regs, .err, .side, .host, .outs])
    ∧ (∀ (mv : Nat) (s : State), 850 ≤ mv →
      completes (.vinPkgRecover mv) s fun t => t.pins = { s.pins with vinMv := mv, vinCap := none } ∧ s.keeps t [.pins])
    ∧ (∀ (mv ns : Nat) (s : State), mv < 770 → ns ≤ 5000 →
      completes (.vinPkgDip mv ns) s fun t =>
        supplyLogged s t 0 mv ∧ s.keepsRegs t [R.errStat] ∧ s.keeps t [.regs, .err, .host, .outs])
    ∧ (∀ (mv ns : Nat) (s : State), 950 < mv → mv ≤ 1000 ∨ ns ≤ 5000 →
      completes (.vinPkgHigh mv ns) s fun t =>
        t.pins = (if mv ≤ 1000 then { s.pins with vinMv := mv, vinCap := none } else s.pins) ∧ supplyLogged s t 0 mv
          ∧ s.keepsRegs t [R.errStat] ∧ s.keeps t [.pins, .regs, .err, .host, .outs])

/-- A supply that stops the part (R58, R420): a power fault asserts PWR_FAULT_N, stops the part until COLD_RST_N, loses all state outside
the keepers and tells the tray controller with event 0x20, and a trip that holds the part holds it still; a lost VAUX_1V8 holds it, and
only where the supply is removed is the ERR log cleared; once VAUX_1V8 is back in range the part waits for COLD_RST_N, after a trip for
its end first.
The order of the records is the model's reading (log 36, 40). -/
def Obligations.SupplyStops : Prop :=
  (∀ (mv ns : Nat) (s : State), mv < 770 ∨ 1000 < mv → 5000 < ns →
    completes (.powerFault mv ns) s fun t =>
      t.pins = { s.pins with
          vinMv := mv, pwrFault := true, hold := if s.pins.hold = .trip ∨ s.pins.hold = .vaux then s.pins.hold else .await } ∧ t.running = false ∧ t.ctxs = [] ∧ t.near = [] ∧ t.far = []
        ∧ t.jobs = State.reset.jobs ∧ t.ports = [] ∧ t.fuses = s.fuses ∧ t.side.flashA = s.side.flashA ∧ t.side.flashB = s.side.flashB
        ∧ t.tb.tick = s.tb.tick ∧ t.side.i3cQueue = i3cPush s.side.i3cQueue ⟨0x20, 0xFF, s.tb.tick % 2 ^ 48⟩)
    ∧ (∀ (mv ns : Nat) (removed : Bool) (s : State), mv < 1620 → 1000 < ns →
      completes (.vaux1v8Drop mv ns removed) s fun t =>
        t.pins.hold = .vaux ∧ t.pins.pwrFault = true ∧ t.pins.vauxMv = mv ∧ t.pins.removed = removed ∧ t.running = false ∧ t.ctxs = []
          ∧ t.near = [] ∧ t.far = [] ∧ t.fuses = s.fuses ∧ t.side.flashA = s.side.flashA ∧ t.side.flashB = s.side.flashB
          ∧ t.err.log = (if removed then [] else s.err.log) ∧ t.err.dumps = (if removed then [] else s.err.dumps))
    ∧ (∀ (mv : Nat) (s : State), 1710 ≤ mv → mv ≤ 1890 → s.pins.hold = .vaux → s.pins.removed = false →
      completes (.vaux1v8Recover mv) s fun t =>
        t.pins = { s.pins with vauxMv := mv, hold := if s.pins.thermTrip then .trip else .await } ∧ supplyLogged s t 2 mv ∧ s.keeps t [.pins, .regs, .err, .host, .outs])
    ∧ (∀ (mv : Nat) (s : State), 1710 ≤ mv → mv ≤ 1890 → s.pins.hold = .vaux → s.pins.removed = true →
      completes (.vaux1v8Recover mv) s fun t =>
        t.pins.hold = (if s.pins.coldRst then .none else .await) ∧ t.pins.pwrFault = false ∧ s.keeps t [.pins])

/-- Temperature (R53, R54): a sample of a die, one reading for each of its 9, 6, 4 or 2 sensors, gives the largest reading of those that pass
their self-check in TNOW, the number of the others in SENS_BAD, and enters the zone of that reading; with no
sensor that passes the zone is SENSOR_BAD. In the limit zone, and in SENSOR_BAD, the die's cap steps one code down, and a lathe die
that is at 0.72 V already steps its DUTY. -/
def Obligations.ThermalControl : Prop :=
  (∀ (d : Die) (l : List (Option Int)) (x : Int) (s : State), l.length = sensorsOf d.val → x ∈ l.filterMap id →
    (∀ y, y ∈ l.filterMap id → -32768 ≤ y ∧ y ≤ x) → x < 32768 →
    completes (.thermalSample [(d, l)]) s fun t =>
      t.tnow d.val = x ∧ t.fld (R.glbTherm d.val) F.GlbTherm.sensBad = (l.filter (fun y => y.isNone)).length
        ∧ t.fld (R.glbTherm d.val) F.GlbTherm.zone = s.zoneOf (s.fld (R.glbTherm d.val) F.GlbTherm.zone) x
        ∧ (t.die d.val).over115 = (if 1840 ≤ x then (s.die d.val).over115 + 1 else 0))
    ∧ (∀ (d : Die) (l : List (Option Int)) (s : State), l.length = sensorsOf d.val → (∀ y, y ∈ l → y = none) →
      completes (.thermalSample [(d, l)]) s fun t =>
        t.fld (R.glbTherm d.val) F.GlbTherm.zone = 4 ∧ t.fld (R.glbTherm d.val) F.GlbTherm.sensBad = sensorsOf d.val ∧ (t.die d.val).over115 = 0)
    ∧ (∀ (d : Die) (s : State) (c : Nat), 2 ≤ s.fld (R.glbTherm d.val) F.GlbTherm.zone → (s.die d.val).capCode = some c →
      completes (.limitVoltageStep d) s fun t =>
        (t.die d.val).capCode = some (c - 1) ∧ (∀ e, e ≠ d.val → t.die e = s.die e) ∧ s.keeps t [.dies])
    ∧ (∀ (d : LDie) (s : State),
      s.fld (R.glbTherm (dLathe d.val)) F.GlbTherm.zone = 2 ∨ s.fld (R.glbTherm (dLathe d.val)) F.GlbTherm.zone = 4 → s.fld (R.glbTherm (dLathe d.val)) F.GlbTherm.duty < 3 → (∀ n, n ∈ dieDomains (dLathe d.val) → s.effSetpoint n = 0) →
      completes (.dutyStep d) s fun t =>
        t.fld (R.glbTherm (dLathe d.val)) F.GlbTherm.duty = s.fld (R.glbTherm (dLathe d.val)) F.GlbTherm.duty + 1
          ∧ s.keepsRegs t [R.glbTherm (dLathe d.val)] ∧ s.keeps t [.regs, .ctxs])

/-- A trip (R55): after two samples at 115 °C the part loses power outside the keepers, asserts THERM_TRIP_N and counts the trip in the
die's fuses and in TRIPS, tells the tray controller with event 0x12, and is held until every healthy sensor reads below 95 °C; then it waits for
COLD_RST_N. -/
def Obligations.ThermalTrips : Prop :=
  (∀ (d : Die) (s : State), 2 ≤ (s.die d.val).over115 → s.pins.hold ≠ .trip →
    completes (.thermalTrip d) s fun t =>
      t.pins = { s.pins with thermTrip := true, tripped := true, hold := .trip } ∧ t.running = false ∧ t.ctxs = [] ∧ t.near = [] ∧ t.far = []
        ∧ t.fuses.trips.get (fun _ => 0) d.val = min 15 (s.fuses.trips.get (fun _ => 0) d.val + 1) ∧ t.fuses.identity = s.fuses.identity
        ∧ t.fld (R.glbTherm d.val) F.GlbTherm.trips = min 15 (s.fuses.trips.get (fun _ => 0) d.val + 1)
        ∧ t.side.i3cQueue = i3cPush s.side.i3cQueue ⟨0x12, d.val, s.tb.tick % 2 ^ 48⟩)
    ∧ (∀ s : State, s.pins.hold = .trip →
      (∀ d, d < 100 → s.fld (R.glbTherm d) F.GlbTherm.zone = 4 ∨ s.tnow d < 1520) →
      completes .tripHoldEnd s fun t =>
        t.pins = { s.pins with thermTrip := false, hold := if s.pins.coldRst then .none else .await } ∧ s.keeps t [.pins])
    ∧ (∀ (s : State) (d : Nat), d < 100 → s.fld (R.glbTherm d) F.GlbTherm.zone ≠ 4 → 1520 ≤ s.tnow d →
      exec .tripHoldEnd s = .next s)

/-- Switched domains (R48, R49, R51, R58): a write that the keepers' fence applies waits for the boundary with
PENDING set, whatever its codes; a wake that is ready records its time in whole µs; one that is not ready 25 µs after its start leaves its domain FAILED with
REFUSED and reason 8; a domain that has drained is OFF, or RET where that was asked. -/
def Obligations.DomainCommands : Prop :=
  (∀ (w : Writer) (n : Dom) (v : W64) (s : State), s.judge w s.glbDie = .applied →
    completes (.pdWrite w n v) s fun t =>
      t.pdPend.get (fun _ => ⟨none, none⟩) n.val = ⟨some (F.GlbPd.req.get v), some (F.GlbPd.vset.get v)⟩
        ∧ t.fld (R.glbPd n.val) F.GlbPd.pending = 1 ∧ t.domState n.val = s.domState n.val
        ∧ s.keepsRegs t [R.glbPd n.val] ∧ s.keeps t [.regs, .pdPend])
    ∧ (∀ (s : State) (n : Nat), s.wakes = [(n, .queued)] → domParent n = none → n < 536 →
      completes .wakeGroupStart s fun t =>
        t.wake n = .started s.tb.tick ∧ t.domState n = 1 ∧ s.keepsRegs t [R.glbPd n] ∧ s.keeps t [.regs, .wakes])
    ∧ (∀ (s : State) (n : Dom) (at_ : Nat), s.wakes = [(n.val, .started at_)] →
      completes (.domainWakeReady n true) s fun t =>
        t.wake n.val = .ready ((s.tb.tick - at_ + 999) / 1000)
          ∧ t.fld (R.glbPd n.val) F.GlbPd.wakeUs = min ((s.tb.tick - at_ + 999) / 1000) 255 ∧ s.keepsRegs t [R.glbPd n.val])
    ∧ (∀ (s : State) (n : Dom) (at_ : Nat), s.wake n.val = .started at_ → at_ + 25000 ≤ s.tb.tick → domLatheOf n.val = none →
      completes (.wakeTimeout n) s fun t =>
        t.domState n.val = 5 ∧ t.wake n.val = .none ∧ t.fld (R.glbPd n.val) F.GlbPd.refused = 1
          ∧ t.fld (R.glbPd n.val) F.GlbPd.reason = 8)
    ∧ (∀ (s : State) (n : Dom), s.domState n.val = 3 → s.fld (R.glbPd n.val) F.GlbPd.req = 1 →
      completes (.domainDrainComplete n) s fun t =>
        t.domState n.val = 4 ∧ s.keepsRegs t [R.glbPd n.val] ∧ s.keeps t [.regs])
    ∧ (∀ (s : State) (n : Dom), 496 ≤ n.val → n.val < 504 → s.domState n.val = 3 → s.fld (R.glbPd n.val) F.GlbPd.req = 0 →
      completes (.domainDrainComplete n) s fun t =>
        t.domState n.val = 0 ∧ t.wake n.val = .none ∧ s.keeps t [.regs, .wakes, .near])

/-! ## The timebase -/

/-- The reference and its sources (R84, R86, R97): a lost reference sets REF_LOST and INTERNAL_OSC and clears REF_OK, and is logged; its
recovery sets REF_OK and clears INTERNAL_OSC; keeper East takes over as MASTER; the tick count is the same through all of them. An offset
of at most 2 ns is trimmed away; a larger one sets SKEW_ERR and is kept with the tick since which it stands. -/
def Obligations.TimebaseSources : Prop :=
  (∀ s : State, completes .referenceLost s fun t =>
      t.fld R.tbStat F.TbStat.refLost = 1 ∧ t.fld R.tbStat F.TbStat.refOk = 0 ∧ t.fld R.tbStat F.TbStat.internalOsc = 1
        ∧ t.pins = { s.pins with refPresent := false } ∧ supplyLogged s t 0 0 ∧ s.keepsRegs t [R.tbStat, R.errStat] ∧ t.tb = s.tb)
    ∧ (∀ s : State, completes .referenceRecovered s fun t =>
      t.fld R.tbStat F.TbStat.refOk = 1 ∧ t.fld R.tbStat F.TbStat.internalOsc = 0
        ∧ t.fld R.tbStat F.TbStat.refLost = s.fld R.tbStat F.TbStat.refLost ∧ t.pins = { s.pins with refPresent := true }
        ∧ s.keepsRegs t [R.tbStat] ∧ s.keeps t [.pins, .regs])
    ∧ (∀ s : State, completes .timebaseSourceFail s fun t =>
      t.fld R.tbStat F.TbStat.master = 1 ∧ t.tb = s.tb ∧ s.keepsRegs t [R.tbStat, R.errStat] ∧ s.keeps t [.regs, .err, .host, .outs])
    ∧ (∀ s : State, completes .internalAlignmentDone s fun t =>
      t.fld R.tbStat F.TbStat.intAligned = 1 ∧ s.keepsRegs t [R.tbStat] ∧ s.keeps t [.regs])
    ∧ (∀ (d : Die) (off : Int) (s : State), off.natAbs ≤ 32 →
      completes (.skewMeasure [(d, off)]) s fun t =>
        (t.die d.val).skew = 0 ∧ (t.die d.val).skewSince = none ∧ t.fld R.tbStat F.TbStat.skewDie = d.val
          ∧ t.fld R.tbStat F.TbStat.skewMax = max (s.fld R.tbStat F.TbStat.skewMax) off.natAbs
          ∧ t.fld R.tbStat F.TbStat.skewErr = s.fld R.tbStat F.TbStat.skewErr ∧ s.keepsRegs t [R.tbStat] ∧ s.keeps t [.regs, .dies])
    ∧ (∀ (d : Die) (off : Int) (s : State), 32 < off.natAbs → (s.die d.val).skewSince = none →
      completes (.skewMeasure [(d, off)]) s fun t =>
        (t.die d.val).skew = off ∧ (t.die d.val).skewSince = some s.tb.tick ∧ t.fld R.tbStat F.TbStat.skewErr = 1)

/-- Firmware's writes to the TB block that the keepers' fence applies (R89, R90): a frequency within ±100,000 ppb is stored, and one outside
is not and sets ADJ_REFUSED; a step that is allowed waits for the next boundary with STEP_PENDING; one that is not sets STEP_REFUSED;
a PTP_CTL write with domain 0 to 127 is stored whole, and one with a reserved domain changes nothing. The tick count does not change. -/
def Obligations.TimebaseWrites : Prop :=
  (∀ (sv : Sv) (tm : Option Nat) (v : W64) (s : State), s.judge (.fw sv tm) s.glbDie = .applied →
    (signedOf (F.TbFreq.ppb.get v) 32).natAbs ≤ 100000 →
    completes (.tbFreqWrite (.fw sv tm) v) s fun t =>
      t.fld R.tbFreq F.TbFreq.ppb = F.TbFreq.ppb.get v ∧ s.keepsRegs t [R.tbFreq] ∧ s.keeps t [.regs])
    ∧ (∀ (sv : Sv) (tm : Option Nat) (v : W64) (s : State), s.judge (.fw sv tm) s.glbDie = .applied →
      100000 < (signedOf (F.TbFreq.ppb.get v) 32).natAbs →
      completes (.tbFreqWrite (.fw sv tm) v) s fun t =>
        t.fld R.tbStat F.TbStat.adjRefused = 1 ∧ s.keepsRegs t [R.tbStat] ∧ s.keeps t [.regs])
    ∧ (∀ (sv : Sv) (tm : Option Nat) (v : W64) (s : State), s.judge (.fw sv tm) s.glbDie = .applied →
      s.fld R.tbStat F.TbStat.stepAllowed = 1 → v ≠ 0 → v.toNat ≤ 2 ^ 62 →
      completes (.tbStepWrite (.fw sv tm) v) s fun t =>
        t.tb = { s.tb with stepPend := some v.toNat } ∧ t.fld R.tbStat F.TbStat.stepPending = 1
          ∧ t.fld R.tbStat F.TbStat.stepAllowed = 0 ∧ s.keepsRegs t [R.tbStat] ∧ s.keeps t [.regs, .tb])
    ∧ (∀ (sv : Sv) (tm : Option Nat) (v : W64) (s : State), s.judge (.fw sv tm) s.glbDie = .applied →
      s.fld R.tbStat F.TbStat.stepAllowed = 0 →
      completes (.tbStepWrite (.fw sv tm) v) s fun t =>
        t.fld R.tbStat F.TbStat.stepRefused = 1 ∧ s.keepsRegs t [R.tbStat] ∧ s.keeps t [.regs])
    ∧ (∀ (sv : Sv) (tm : Option Nat) (v : W64) (s : State), s.judge (.fw sv tm) s.glbDie = .applied → F.TbPtpCtl.domain.get v < 128 →
      completes (.tbPtpCtlWrite (.fw sv tm) v) s fun t =>
        t.fld R.tbPtpCtl F.TbPtpCtl.port = F.TbPtpCtl.port.get v ∧ t.fld R.tbPtpCtl F.TbPtpCtl.domain = F.TbPtpCtl.domain.get v
          ∧ t.fld R.tbPtpCtl F.TbPtpCtl.en = F.TbPtpCtl.en.get v ∧ s.keepsRegs t [R.tbPtpCtl] ∧ s.keeps t [.regs])
    ∧ (∀ (sv : Sv) (tm : Option Nat) (v : W64) (s : State), s.judge (.fw sv tm) s.glbDie = .applied → 128 ≤ F.TbPtpCtl.domain.get v →
      exec (.tbPtpCtlWrite (.fw sv tm) v) s = .next s)

/-- A PTP message on the port that TB_PTP_CTL names, up and enabled, goes to firmware with its ingress stamp where it is Sync or
Delay_Req: a frame of EtherType 0x88F7 on an Ethernet port, and on a Druvo port a packet of OPCODE 0x41 that passes steps 1, 2, 4, 5 and 6
of R138, a TC7 control packet or a TC6 data packet of one grain. On another port it is dropped as OPCODE, or as ETH_OTHER on an Ethernet port;
a message that firmware sends leaves on the named port with the egress stamp of a Sync or Delay_Req; a port that is not up does nothing
(R88, R138).
That what is sent passes beside the queues is the model's choice (log 47). -/
def Obligations.PtpMessages : Prop :=
  (∀ (p : Port) (f : Blob) (h : BitVec 256) (s : State), s.portUp p.val = true → s.isEthernet p.val = true → s.ptpPort p.val = true → 64 ≤ f.len →
    f.len ≤ 9216 →
    completes (.ptpMessage p (.ether f) h true) s fun t =>
      t.outs = s.outs ++ [.toFirmware p.val 0x88F7
          (ptpStamp (f.byte (if frameBe f 12 2 = 0x88F7 then 14 else 18)) (s.dieNow (dPort (p.val / 32)))) f] ∧ s.keeps t [.outs])
    ∧ (∀ (p : Port) (f : Blob) (h : BitVec 256) (s : State), s.portUp p.val = true → s.isEthernet p.val = true → s.ptpPort p.val = false → 64 ≤ f.len →
      f.len ≤ 9216 → s.fld (R.bchShavCtl (8 * portHalf p.val)) F.BchShavCtl.captureDrops = 0 →
      completes (.ptpMessage p (.ether f) h true) s fun t =>
        t.fld (R.ptdPktCnt2 (p.val / 32) (p.val % 32)) F.PtdPktCnt2.ethOther
            = min (2 ^ F.PtdPktCnt2.ethOther.wid - 1) (s.fld (R.ptdPktCnt2 (p.val / 32) (p.val % 32)) F.PtdPktCnt2.ethOther + 1)
          ∧ t.outs = s.outs)
    ∧ (∀ (p : Port) (h : BitVec 128) (m : BitVec 384) (ok : Bool) (s : State), s.portUp p.val = true → s.isEthernet p.val = false →
      s.ptpPort p.val = true → hdrTc false h.toNat = 7 → hdrOpcode false h.toNat = 0x41 → hcrcOk false h.toNat = true →
      pcrcOk h.toNat m.toNat = true → ctlFormatOk h.toNat = true → 1 ≤ nth (s.port p.val).given 7 →
      s.policersFor p.val 7 (hdrJob false h.toNat) = [] →
      completes (.ptpMessage p (.ctl m) (h.setWidth 256) ok) s fun t =>
        Out.toFirmware p.val 0x41 (ptpStamp (Blob.ofBytes (beBytes 48 m.toNat)).val (s.dieNow (dPort (p.val / 32))))
            (Blob.ofBytes (beBytes 48 m.toNat)) ∈ t.outs ∧ t.bench.queues = s.bench.queues ∧ t.ctxs = s.ctxs)
    ∧ (∀ (p : Port) (h : BitVec 128) (m : BitVec 384) (ok : Bool) (s : State), s.portUp p.val = true → s.isEthernet p.val = false →
      s.ptpPort p.val = false → hdrOpcode false h.toNat = 0x41 → hcrcOk false h.toNat = true → pcrcOk h.toNat m.toNat = true →
      ctlFormatOk h.toNat = true → 1 ≤ nth (s.port p.val).given (hdrTc false h.toNat) →
      s.policersFor p.val (hdrTc false h.toNat) (hdrJob false h.toNat) = [] →
      completes (.ptpMessage p (.ctl m) (h.setWidth 256) ok) s fun t =>
        t.fld (R.ptdPktCnt0 (p.val / 32) (p.val % 32)) F.PtdPktCnt0.opcode
            = min (2 ^ F.PtdPktCnt0.opcode.wid - 1) (s.fld (R.ptdPktCnt0 (p.val / 32) (p.val % 32)) F.PtdPktCnt0.opcode + 1)
          ∧ t.bench.queues = s.bench.queues ∧ t.ctxs = s.ctxs)
    ∧ (∀ (p : Port) (h : BitVec 256) (tag : BitVec 128) (g : Grain) (n : Nat) (ok : Bool) (s : State), s.portUp p.val = true →
      s.isEthernet p.val = false → s.ptpPort p.val = true → hdrTc true h.toNat = 6 → hdrOpcode true h.toNat = 0x41 → hdrGrainCount h.toNat = 1 →
      hcrcOk true h.toNat = true → dataFormatOk h.toNat (s.facesEndpoint p.val) = true → 1 ≤ nth (s.port p.val).given 6 →
      s.policersFor p.val 6 (hdrJob true h.toNat) = [] → s.arrivals (qKey p.val 6) = [] → n = lastBytes (hdrLastLen h.toNat) →
      gwFormat (tag.toNat / 2 ^ 64) ≠ 3 →
      grainCrc (tag.toNat / 2 ^ 64) (BitVec.ofNat 2048 (g.toNat % 2 ^ (8 * n))) n = tag.toNat % 2 ^ 64 →
      completes (.ptpMessage p (.data tag g) h ok) s fun t =>
        Out.toFirmware p.val 0x41 (ptpStamp (g.toNat % 2 ^ (8 * n)) (s.dieNow (dPort (p.val / 32)))) ⟨n, g.toNat % 2 ^ (8 * n)⟩ ∈ t.outs
          ∧ t.bench.queues = s.bench.queues ∧ t.ctxs = s.ctxs)
    ∧ (∀ (p : Port) (m : Blob) (h : BitVec 256) (ok : Bool) (s : State), s.portUp p.val = true → s.ptpPort p.val = true →
      completes (.ptpMessage p (.sent m) h ok) s fun t =>
        t.outs = s.outs ++ [.ptpSent p.val (ptpStamp m.val (s.dieNow (dPort (p.val / 32)))) m] ∧ s.keeps t [.outs])
    ∧ (∀ (p : Port) (m : Blob) (h : BitVec 256) (ok : Bool) (s : State), s.portUp p.val = false ∨ s.ptpPort p.val = false →
      exec (.ptpMessage p (.sent m) h ok) s = .next s)
    ∧ (∀ (p : Port) (f : PtpForm) (h : BitVec 256) (ok : Bool) (s : State), s.portUp p.val = false →
      exec (.ptpMessage p f h ok) s = .next s)

/-- A turn boundary (R91): the turn number rises by one, and with no step pending the tick is the next one at which boundaries of the
current length fall; a pending step moves the boundary, and the origin, by itself (R89). A part that is held does nothing. -/
def Obligations.TurnBoundaryAdvances : Prop :=
  (∀ s : State, s.running = true → s.tb.stepPend = none →
    completes .turnBoundary s fun t => t.tb.turn = s.tb.turn + 1 ∧ t.tb.tick = s.nextBoundary ∧ t.tb.stepPend = none)
    ∧ (∀ (s : State) (n : Nat), s.running = true → s.tb.stepPend = some n →
      completes .turnBoundary s fun t =>
        t.tb.turn = s.tb.turn + 1 ∧ t.tb.tick = s.nextBoundary + n ∧ t.tb.stepPend = none)
    ∧ (∀ s : State, s.running = false → exec .turnBoundary s = .next s)

/-- The next boundary is the first tick after now at which (t - ORIGIN) mod TICKS = 0 (R91). -/
def Obligations.NextBoundaryIsFirst : Prop :=
  ∀ s : State, s.tb.origin ≤ s.tb.tick → 10000 ≤ s.tb.ticks →
    s.tb.tick < s.nextBoundary ∧ (s.nextBoundary - s.tb.origin) % s.tb.ticks = 0
      ∧ ∀ x, s.tb.tick < x → x < s.nextBoundary → (x - s.tb.origin) % s.tb.ticks ≠ 0

/-! ## Dies, errors, recovery -/

/-- The record that a hang raises (R376, R386). -/
def hangRecord (s : State) (d unit : Nat) : ErrRec :=
  { plainRec 0x11 2 2 d (s.dieNow d) with unit := unit, part := ((s.planeOn d).partOfDie d).getD 0x1F }

/-- Dies that fail (R386, R395): a die that is enabled and has not failed is marked failed by its failure and by ten missed heartbeats,
and a DIE_LOST record stands in the ERR log; fewer missed heartbeats change nothing.
The record's way into the log is the model's reading (log 39). -/
def Obligations.DiesFail : Prop :=
  (∀ (d : Die) (s : State), s.dieEnabled d.val = true → (s.die d.val).failed = false →
    completes (.dieFailed d) s fun t =>
      (t.die d.val).failed = true
        ∧ (∀ e, e ≠ d.val → (t.die e).failed = (s.die e).failed))
    ∧ (∀ (d : Die) (s : State), 72 ≤ d.val → d.val < 84 → s.dieEnabled d.val = true → (s.die d.val).failed = false →
      completes (.dieFailed d) s fun t =>
        t.err.log.get (fun _ => none) (s.fld R.errStat F.ErrStat.nextSeq % 1024)
          = some { plainRec 0x15 0 3 d.val s.tb.tick with part := 0x1F })
    ∧ (∀ (d : Die) (n : Nat) (s : State), 10 ≤ n → exec (.heartbeatMiss d n) s = exec (.dieFailed d) s)
    ∧ (∀ (d : Die) (n : Nat) (s : State), s.dieEnabled d.val = true → (s.die d.val).failed = false → 10 ≤ n →
      completes (.heartbeatMiss d n) s fun t => (t.die d.val).failed = true)
    ∧ (∀ (d : Die) (n : Nat) (s : State), n < 10 → exec (.heartbeatMiss d n) s = .next s)

/-- Hangs and scrubbing (R378, R384, R386) where the die's record queue is empty: a port with work and credits that makes no progress
raises a hang record; a corrected error raises a record of SEV 1 and an uncorrectable one of SEV 2, and marks the
sector of a near-tier die burred; a clean scrub changes nothing. -/
def Obligations.HangsAndScrubs : Prop :=
  (∀ (d : Die) (u : Nat) (s : State), d.val < 32 → u < 32 → s.portUp (32 * d.val + u) = true → s.portBusy (32 * d.val + u) = true →
    s.errq d.val = [] →
    completes (.hangDetect d u) s fun t =>
      t.errq d.val = [hangRecord s d.val u] ∧ ⟨2, d.val, u⟩ ∈ t.err.escal ∧ s.keeps t [.err])
    ∧ (∀ (d : Die) (u : Nat) (s : State), 32 ≤ d.val → s.dieEnabled d.val = true → (s.die d.val).failed = false → s.errq d.val = [] →
      completes (.hangDetect d u) s fun t =>
        t.errq d.val = [hangRecord s d.val u] ∧ (4, ((s.planeOn d.val).partOfDie d.val).getD 0x1F) ∈ t.err.asked)
    ∧ (∀ (d : Die) (a : Nat) (s : State), exec (.scrub d a .clean) s = .next s)
    ∧ (∀ (d : Die) (a syn : Nat) (s : State), s.dieEnabled d.val = true → (s.die d.val).failed = false → s.errq d.val = [] →
      completes (.scrub d a (.corrected syn)) s fun t =>
        (∃ r, t.errq d.val = [r] ∧ r.sev = 1 ∧ r.source = eccSource d.val false ∧ r.addr = a ∧ r.detail = syn)
          ∧ s.keeps t [.err])
    ∧ (∀ (d : Die) (a syn : Nat) (s : State), 72 ≤ d.val → d.val < 80 → s.dieEnabled d.val = true → (s.die d.val).failed = false →
      s.errq d.val = [] →
      completes (.scrub d a (.data syn)) s fun t =>
        (∃ r, t.errq d.val = [r] ∧ r.sev = 2 ∧ r.source = 6 ∧ r.addr = a)
          ∧ t.nearBurr.get (fun _ => false) (a / 32) = true ∧ s.keeps t [.err, .nearBurr])
    ∧ (∀ (d : Die) (a c win off syn : Nat) (s : State), s.dieEnabled d.val = true → (s.die d.val).failed = false →
      completes (.scrub d a (.window c win off syn)) s fun t =>
        (t.ctx c).burr.get (fun _ => false) (winKey win (off / 8 * 8)) = true ∧ (t.ctx c).record = (s.ctx c).record)

/-- Firmware pops an error record (R378, R379): the record goes to the ERR log and leaves its queue; a pop of an empty queue changes
nothing; one that the die's fence drops changes neither. -/
def Obligations.RecordsArePopped : Prop :=
  (∀ (w : Writer) (d : Die) (r : ErrRec) (q : List ErrRec) (s : State), s.judge w d.val = .applied → s.errq d.val = r :: q →
    completes (.errqPop w d) s fun t =>
      t.errq d.val = q ∧ t.err.log.get (fun _ => none) (s.fld R.errStat F.ErrStat.nextSeq % 1024) = some r
        ∧ (∀ e, e ≠ d.val → t.errq e = s.errq e) ∧ s.keepsRegs t [R.errStat] ∧ s.keeps t [.regs, .err, .host, .outs])
    ∧ (∀ (w : Writer) (d : Die) (s : State), s.judge w d.val = .applied → s.errq d.val = [] → exec (.errqPop w d) s = .next s)
    ∧ (∀ (w : Writer) (d : Die) (s : State), s.judge w d.val ≠ .applied →
      completes (.errqPop w d) s fun t => t.err = s.err ∧ s.keeps t [.regs])

/-- The escalation commands and what follows them (R388, R390, R393, R397): a partition reset of a partition that the plane does not define
is refused with CMD_REFUSED, and one that it defines and that is not resetting is reset; a power cycle is asked of the tray controller with event 0x40, and the part
forwards on; a dump that the leader has written takes the captures and the next number; the health of every unit is judged on the
records up to NEXT_SEQ.
That a partition reset does its steps at once is the model's choice (log 28). -/
def Obligations.RecoveryCommands : Prop :=
  (∀ (w : Writer) (p : Part) (s : State), s.judge w s.glbDie = .applied → s.plane.partDefined p.val = false →
    completes (.partReset w p) s fun t =>
      t.fld R.glbEscStat F.GlbEscStat.cmdRefused = 1 ∧ s.keepsRegs t [R.glbEscStat] ∧ s.keeps t [.regs])
    ∧ (∀ (w : Writer) (p : Part) (s : State), s.judge w s.glbDie = .applied → s.plane.partDefined p.val = true → s.partBusy p.val = false →
      exec (.partReset w p) s = .next ((s.partReset p.val).finishPartReset p.val))
    ∧ (∀ (w : Writer) (p : Part) (k : Nat) (s : State), s.judge w s.glbDie = .applied → s.plane.partDefined p.val = true →
      s.partBusy p.val = false → k < 120 → (s.planeOn (dLathe (k / 5))).partOfLathe (k / 5) = some p.val → s.role k = 0 ∨ s.role k = 2 →
      completes (.partReset w p) s fun t =>
        t.role k = 4 ∧ t.fld (ltStat k) F.LtStat.busy = 1 ∧ t.lathe k = { LatheSt.fresh with selfTest := some (s.role k) }
          ∧ t.partBusy p.val = true
          ∧ t.fld R.glbEscStat F.GlbEscStat.partResets
            = min (2 ^ F.GlbEscStat.partResets.wid - 1) (s.fld R.glbEscStat F.GlbEscStat.partResets + 1)
          ∧ ∀ c, s.ctxState c ≠ csFree → recPart (s.ctx c).record = p.val → t.ctxState c = csFaulted ∧ (t.ctx c).phys = none)
    ∧ (∀ (w : Writer) (s : State), s.judge w s.glbDie = .applied →
      completes (.powerCycle w) s fun t =>
        t.side.i3cQueue = i3cPush s.side.i3cQueue ⟨0x40, 0xFF, s.tb.tick % 2 ^ 48⟩ ∧ t.err.evtSeq = s.err.evtSeq + 1
          ∧ (∀ e, e ∈ t.err.asked → e.1 ≠ 5) ∧ t.ports = s.ports ∧ t.ctxs = s.ctxs ∧ t.jobs = s.jobs ∧ t.pins = s.pins)
    ∧ (∀ (s : State) (v : Nat), s.err.captured.isSome = true → s.leader = some v →
      completes .dumpWritten s fun t =>
        t.err.captured = none ∧ t.err.samples = [] ∧ bitOf (t.fld R.errDump F.ErrDump.held) (s.fld R.errDump F.ErrDump.next % 8) = true
          ∧ (∃ x, t.err.dumps.get (fun _ => none) (s.fld R.errDump F.ErrDump.next % 8) = some x
            ∧ x.number = s.fld R.errDump F.ErrDump.next ∧ x.captured = s.err.captured ∧ x.samples = s.err.samples)
          ∧ t.side.i3cQueue = i3cPush s.side.i3cQueue ⟨0x41, 0xFF, s.tb.tick % 2 ^ 48⟩)
    ∧ (∀ s : State, completes .healthUpdate s fun t =>
      t.err.healthSeen.get (fun _ => 0) 8192 = t.fld R.errStat F.ErrStat.nextSeq)

/-! ## Structure images -/

/-- Loading and checking an image (R76, R77, R78): a load is accepted while the shadow plane is EMPTY, LOADED, CHECKED or FAILED, and the
image is LOADED once IMAGE_LEN bytes have arrived, LOADING until then; CHECK takes LOADED to CHECKING; the check ends in CHECKED with
the composed plane in the shadow, or in FAILED with the code, section and entry of the first check that fails. -/
def Obligations.ImageIsLoadedAndChecked : Prop :=
  (∀ (b : Blob) (s : State), s.mayLoad = true →
    completes (.imageDmaLoad b.len b) s fun t =>
      t.imgState = 2 ∧ t.img.loadLen = b.len ∧ t.img.loadSrc = 3 ∧ t.img.shadow = none ∧ t.img.active = s.img.active
        ∧ s.keepsRegs t [R.svImgStat] ∧ s.keeps t [.regs, .img])
    ∧ (∀ (n : Nat) (b : Blob) (s : State), s.mayLoad = true → b.len < n →
      completes (.imageDmaLoad n b) s fun t => t.imgState = 1 ∧ t.img.loadLen = n ∧ t.img.loaded.len = b.len)
    ∧ (∀ (n : Nat) (b : Blob) (s : State), s.imgState = 1 → s.img.loaded.len + b.len = s.img.loadLen →
      completes (.imageDmaLoad n b) s fun t => t.imgState = 2 ∧ t.img.loadLen = s.img.loadLen ∧ s.keepsRegs t [R.svImgStat])
    ∧ (∀ (w : Writer) (s : State), s.judge w (writerDie w) = .applied → s.imgState = 2 →
      completes (.check w) s fun t => t.imgState = 3 ∧ s.keepsRegs t [R.svImgStat] ∧ s.keeps t [.regs])
    ∧ (∀ (s : State) (f : ImgFail), s.imgState = 3 → checkImage s s.runningMajor s.img.loaded = some f → s.stage ≠ 6 →
      f.code < 256 → f.sect < 65536 → f.entry < 65536 →
      completes .checkComplete s fun t =>
        t.imgState = 8 ∧ t.fld R.svImgStat F.SvImgStat.fail = f.code ∧ t.fld R.svImgStat F.SvImgStat.failSect = f.sect
          ∧ t.fld R.svImgStat F.SvImgStat.failEntry = f.entry ∧ s.keepsRegs t [R.svImgStat] ∧ s.keeps t [.regs])
    ∧ (∀ (s : State) (f : ImgFail), s.imgState = 3 → checkImage s s.runningMajor s.img.loaded = some f → s.stage = 6 → s.img.loadSrc < 3 →
      s.boot.imgTried = true →
      completes .checkComplete s fun t => t.imgState = 8 ∧ t.stage = 7 ∧ t.fld R.glbBoot F.GlbBoot.fail = 8)
    ∧ (∀ s : State, s.imgState = 3 →
      completes .checkComplete s fun t => checkImage s s.runningMajor s.img.loaded = none →
        t.imgState = 4 ∧ t.img.shadow = some (composePlane s.img.active s.img.loadSrc s.img.loaded) ∧ t.img.active = s.img.active
          ∧ s.keepsRegs t [R.svImgStat] ∧ s.keeps t [.regs, .img])

/-- The plane commands (R72, R76): an ARM in CHECKED for a turn 3 to 2^20 turns ahead whose live checks pass, TARGET_TURN being stored, arms the plane with its target and
the writer's term; CANCEL takes ARMED back to CHECKED; DISCARD empties the shadow plane; the active plane is the same. A load while CHECKING, ARMED, COMMITTING or RETIRING,
CHECK but in LOADED, ARM but in CHECKED, CANCEL but in ARMED, DISCARD but in LOADED, CHECKED or FAILED, set CMD_REFUSED and leave the state of the
shadow plane as it is. -/
def Obligations.PlaneCommands : Prop :=
  (∀ (sv : Sv) (tm : Nat) (x : Nat) (p : Plane) (s : State), s.judge (.fw sv (some tm)) (writerDie (.fw sv (some tm))) = .applied →
    s.imgState = 4 → s.img.shadow = some p → s.tb.turn + 3 ≤ s.turnNamed (x % 2 ^ 32) → s.turnNamed (x % 2 ^ 32) ≤ s.tb.turn + 2 ^ 20 →
    (s.setFld R.svImgCtl F.SvImgCtl.targetTurn (x % 2 ^ 32)).liveOk p (s.turnNamed (x % 2 ^ 32)) = true →
    completes (.arm (.fw sv (some tm)) x) s fun t =>
      t.imgState = 5 ∧ t.img.target = x % 2 ^ 32 ∧ t.img.armTerm = tm ∧ t.img.ready = [] ∧ t.img.commits = []
        ∧ t.img.shadow = some p ∧ t.img.active = s.img.active ∧ t.fld R.svImgCtl F.SvImgCtl.targetTurn = x % 2 ^ 32
        ∧ s.keepsRegs t [R.svImgCtl, R.svImgStat] ∧ s.keeps t [.regs, .img])
    ∧ (∀ (w : Writer) (s : State), s.judge w (writerDie w) = .applied → s.imgState = 5 →
      completes (.cancel w) s fun t =>
        t.imgState = 4 ∧ t.fld R.svImgStat F.SvImgStat.fail = s.fld R.svImgStat F.SvImgStat.fail ∧ s.keepsRegs t [R.svImgStat]
          ∧ s.keeps t [.regs])
    ∧ (∀ (w : Writer) (s : State), s.judge w (writerDie w) = .applied → s.imgState = 2 ∨ s.imgState = 4 ∨ s.imgState = 8 →
      completes (.discard w) s fun t =>
        t.imgState = 0 ∧ t.img.shadow = none ∧ t.img.loaded = Blob.empty ∧ t.img.active = s.img.active
          ∧ s.keepsRegs t [R.svImgStat] ∧ s.keeps t [.regs, .img])
    ∧ (∀ (n : Nat) (b : Blob) (s : State), s.imgState = 3 ∨ s.imgState = 5 ∨ s.imgState = 6 ∨ s.imgState = 7 →
    completes (.imageDmaLoad n b) s fun t =>
      t.fld R.svImgStat F.SvImgStat.cmdRefused = 1 ∧ t.imgState = s.imgState ∧ s.keeps t [.regs])
    ∧ (∀ (w : Writer) (s : State), s.judge w (writerDie w) = .applied → s.imgState ≠ 2 →
    completes (.check w) s fun t => t.fld R.svImgStat F.SvImgStat.cmdRefused = 1 ∧ t.imgState = s.imgState ∧ s.keeps t [.regs])
    ∧ (∀ (w : Writer) (x : Nat) (s : State), s.judge w (writerDie w) = .applied → s.imgState ≠ 4 →
      completes (.arm w x) s fun t => t.fld R.svImgStat F.SvImgStat.cmdRefused = 1 ∧ t.imgState = s.imgState ∧ s.keeps t [.regs])
    ∧ (∀ (w : Writer) (s : State), s.judge w (writerDie w) = .applied → s.imgState ≠ 5 →
      completes (.cancel w) s fun t => t.fld R.svImgStat F.SvImgStat.cmdRefused = 1 ∧ t.imgState = s.imgState ∧ s.keeps t [.regs])
    ∧ (∀ (w : Writer) (s : State), s.judge w (writerDie w) = .applied → s.imgState ≠ 2 → s.imgState ≠ 4 → s.imgState ≠ 8 →
      completes (.discard w) s fun t => t.fld R.svImgStat F.SvImgStat.cmdRefused = 1 ∧ t.imgState = s.imgState ∧ s.keeps t [.regs])

/-- An activation (R81, R83): a die that is enabled reports its slice staged; a COMMIT in time, of the term of the ARM, that a die's fence
applies takes STATE to STAGED; one of another term ends the activation with FAIL 0x13 in CHECKED; the retiring plane's last report, or
its time, ends RETIRING in CHECKED; at the swap each die that holds such a COMMIT has the new plane, and every other keeps its own. -/
def Obligations.ActivationSteps : Prop :=
  (∀ (d : Die) (s : State), s.imgState = 5 → s.dieEnabled d.val = true → d.val ∉ s.img.ready → s.sup.seam ≠ .healing →
    completes (.stagingReady d) s fun t => t.img = { s.img with ready := s.img.ready ++ [d.val] } ∧ s.keeps t [.img])
    ∧ (∀ (sv : Sv) (tm : Nat) (d : Nat) (s : State), s.imgState = 5 → s.tb.turn + 1 = s.turnNamed s.img.target →
      s.tb.tick + 5000 ≤ s.turnTick (s.turnNamed s.img.target) → tm = s.img.armTerm → s.sup.seam ≠ .cut → d ∈ s.stagers →
      (s.fence d).judge (s.dieNow d) (some tm) = .applied →
      completes (.commit sv tm) s fun t => t.imgState = 6 ∧ (d, tm, causedStamp (s.dieNow d) (s.dieNow (dSup sv.val))) ∈ t.img.commits ∧ t.img.active = s.img.active)
    ∧ (∀ (sv : Sv) (tm : Nat) (s : State), s.imgState = 5 → s.tb.turn + 1 = s.turnNamed s.img.target →
      s.tb.tick + 5000 ≤ s.turnTick (s.turnNamed s.img.target) → tm ≠ s.img.armTerm →
      completes (.commit sv tm) s fun t =>
        t.imgState = 4 ∧ t.fld R.svImgStat F.SvImgStat.fail = 0x13 ∧ s.keepsRegs t [R.svImgStat] ∧ s.keeps t [.regs])
    ∧ (∀ (d : Die) (s : State) (r : Retire), s.img.retire = some r → r.left = [d.val] →
      completes (.retireReport d) s fun t =>
        t.img.retire = none ∧ t.imgState = 4 ∧ s.keepsRegs t [R.svImgStat] ∧ s.keeps t [.regs, .img])
    ∧ (∀ (s : State) (r : Retire), s.img.retire = some r → r.swapTick + 1000000 * r.maxResMs ≤ s.tb.tick →
      completes .retireTimeout s fun t =>
        t.img.retire = none ∧ t.imgState = 4 ∧ s.keepsRegs t [R.svImgStat] ∧ s.keeps t [.regs, .img])
    ∧ (∀ (s : State) (p : Plane) (d : Nat), d ∈ s.stagers →
      ((s.swapPlanes p).planeOn d) = if s.swappers.contains d then p else s.planeOn d)

/-! ## Lanes, ports and Druvo links -/

/-- A port comes up (R103, R108, R109): the signal takes DETECT to TRAIN, training takes a Druvo port to NEGOTIATE with a capability word
sent, and the peer's word, when the two settle, to UP on the settled lanes with the link sequence at 0; a word that cannot be settled
fails the attempt, the eighth in a row in FAULT. -/
def Obligations.LinkComesUp : Prop :=
  (∀ (p : Port) (s : State), s.portWidth p.val ≠ 0 → s.portState p.val = 1 →
    completes (.signalDetect p) s fun t => t.portState p.val = 2 ∧ (t.port p.val).waiting = false ∧ s.keeps t [.regs, .ports])
    ∧ (∀ (p : Port) (r : Bool) (s : State), s.portState p.val = 2 → (s.port p.val).waiting = false → s.isEthernet p.val = false →
      completes (.trainingComplete p r) s fun t =>
        t.portState p.val = 3 ∧ (t.port p.val).pendLanes = s.cleanBlock p.val ∧ Out.capability p.val (t.ownWord p.val) ∈ t.outs
          ∧ (t.ownWord p.val).identity = s.ownIdentity p.val ∧ (t.ownWord p.val).lanes = s.cleanBlock p.val
          ∧ s.keeps t [.regs, .ports, .bench, .freeCtr, .outs])
    ∧ (∀ (p : Port) (w : CapWord) (ps : Nat) (e : List (Nat × Nat)) (s : State), s.portState p.val = 3 → s.wordOk p.val w = true →
      completes (.capabilityWord p ⟨w, ps, e⟩) s fun t =>
        t.portState p.val = 4
          ∧ t.fld (pStat p.val) F.PtdPortStat.lanesActive = s.settledLanes p.val w.width (s.wordLanes p.val w) % 256
          ∧ t.fld (pStat p.val) F.PtdPortStat.rateNow = b2n ((s.port p.val).pend100 || w.rate100)
          ∧ t.fld (pStat p.val) F.PtdPortStat.fec = b2n ((s.planeOn (p.val / 32)).bypassAllowed (p.val / 32) (p.val % 32) && w.fecBypass
            && !(s.port p.val).noBypass && channelPermits (s.portWidth p.val) ps e)
          ∧ (t.port p.val).identity = w.identity % 2 ^ 64 ∧ (t.port p.val).window = min 4095 w.window ∧ (t.port p.val).txSeq = 0
          ∧ (t.port p.val).rxSeq = 0 ∧ (t.port p.val).unacked = [] ∧ (t.port p.val).attempts = 0)
    ∧ (∀ (p : Port) (w : CapWord) (ps : Nat) (e : List (Nat × Nat)) (s : State), s.portState p.val = 3 → s.wordOk p.val w = false →
      (s.port p.val).attempts < 7 →
      completes (.capabilityWord p ⟨w, ps, e⟩) s fun t =>
        t.portState p.val = 2 ∧ (t.port p.val).waiting = true ∧ (t.port p.val).attempts = (s.port p.val).attempts + 1)
    ∧ (∀ (p : Port) (w : CapWord) (ps : Nat) (e : List (Nat × Nat)) (s : State), s.portState p.val = 3 → s.wordOk p.val w = false →
      7 ≤ (s.port p.val).attempts →
      completes (.capabilityWord p ⟨w, ps, e⟩) s fun t => t.portState p.val = 8)
    ∧ (∀ (p : Port) (w : CapWord) (ps : Nat) (e : List (Nat × Nat)) (s : State), s.portState p.val ≠ 3 →
      exec (.capabilityWord p ⟨w, ps, e⟩) s = .next s)

/-- The timers of a port that is coming up (R109, R114): a word unanswered is resent, and after three resends the attempt fails; the
back-off ends in a new training; warm training falls back to cold, and cold training that has not converged fails the attempt; a port in
FAULT tries DETECT again after 1 s; a hold-down that is over lets a port with a signal out of DOWN_HOLD; before its time none of the three
timers does anything. -/
def Obligations.PortTimers : Prop :=
  (∀ (p : Port) (s : State), s.portState p.val = 3 → (s.port p.val).resends < 3 →
    completes (.capabilityResendTimeout p) s fun t =>
      (t.port p.val).resends = (s.port p.val).resends + 1 ∧ t.outs = s.outs ++ [.capability p.val (s.ownWord p.val)] ∧ s.keeps t [.ports, .outs])
    ∧ (∀ (p : Port) (s : State), s.portState p.val = 3 → 3 ≤ (s.port p.val).resends →
      exec (.capabilityResendTimeout p) s = .next (s.failAttempt p.val false))
    ∧ (∀ (p : Port) (s : State), s.portState p.val = 2 → (s.port p.val).waiting = true →
      (s.port p.val).since + 1000000 * (s.port p.val).backoffMs ≤ s.tb.tick →
      completes (.trainingBackoffExpiry p) s fun t =>
        t.portState p.val = 2 ∧ (t.port p.val).waiting = false ∧ (t.port p.val).warm = (s.port p.val).prevIdentity.isSome)
    ∧ (∀ (p : Port) (s : State), s.portState p.val = 5 ∨ s.portState p.val = 6 ∨ (s.portState p.val = 2 ∧ (s.port p.val).waiting = false) →
      exec (.warmTrainingTimeout p) s = .next (s.setPort p.val (fun x => { x with warm := false })))
    ∧ (∀ (p : Port) (s : State), s.portState p.val = 2 → (s.port p.val).waiting = false → (s.port p.val).warm = false →
      (s.port p.val).attempts < 7 →
      completes (.coldTrainingTimeout p) s fun t =>
        t.portState p.val = 2 ∧ (t.port p.val).waiting = true ∧ (t.port p.val).attempts = (s.port p.val).attempts + 1)
    ∧ (∀ (p : Port) (s : State), s.portState p.val = 2 → (s.port p.val).waiting = false → (s.port p.val).warm = false →
      7 ≤ (s.port p.val).attempts →
      completes (.coldTrainingTimeout p) s fun t => t.portState p.val = 8)
    ∧ (∀ (p : Port) (s : State), s.portState p.val = 8 → (s.port p.val).since + 1000000000 ≤ s.tb.tick →
      completes (.faultRetryExpiry p) s fun t =>
        (t.portState p.val = 1 ∨ t.portState p.val = 2) ∧ (t.port p.val).waiting = false ∧ (t.port p.val).attempts = 0)
    ∧ (∀ (p : Port) (s : State), s.portState p.val = 7 →
      (s.port p.val).since + 1000000 * s.fld (pCtl p.val) F.PtdPortCtl.holddownMs ≤ s.tb.tick →
      s.signalAll p.val = false ∨ s.shouldRun p.val = false →
      exec (.holddownExpiry p) s = .next (s.setPort p.val (fun x => { x with waiting := false })))
    ∧ (∀ (p : Port) (s : State), s.portState p.val = 7 →
      (s.port p.val).since + 1000000 * s.fld (pCtl p.val) F.PtdPortCtl.holddownMs ≤ s.tb.tick → s.signalAll p.val = true →
      s.shouldRun p.val = true →
      completes (.holddownExpiry p) s fun t => t.portState p.val = 2 ∧ (t.port p.val).waiting = false ∧ s.keeps t [.regs, .ports])
    ∧ (∀ (p : Port) (s : State),
      (s.tb.tick < (s.port p.val).since + 1000000 * (s.port p.val).backoffMs → exec (.trainingBackoffExpiry p) s = .next s)
        ∧ (s.tb.tick < (s.port p.val).since + 1000000000 → exec (.faultRetryExpiry p) s = .next s)
        ∧ (s.tb.tick < (s.port p.val).since + 1000000 * s.fld (pCtl p.val) F.PtdPortCtl.holddownMs →
          exec (.holddownExpiry p) s = .next s))

/-- A port is in DOWN_HOLD: its hold-down starts now, no lane is active, its queues and its replay window are empty, and FLAPS counts it. -/
abbrev wentDown (s t : State) (p : Nat) : Prop :=
  t.portState p = 7 ∧ (t.port p).waiting = true ∧ (t.port p).since = s.tb.tick ∧ t.fld (pStat p) F.PtdPortStat.lanesActive = 0
    ∧ (∀ c, c < 8 → t.queue (qKey p c) = []) ∧ (t.port p).unacked = []
    ∧ t.fld (pStat p) F.PtdPortStat.flaps = min (2 ^ F.PtdPortStat.flaps.wid - 1) (s.fld (pStat p) F.PtdPortStat.flaps + 1)

/-- A port that is UP leaves it (R108, R113, R115): the loss of the signal or of lock on one lane takes it to RETRAIN with its queues,
credits and replay window held, as a RETRAIN of the peer does on a Druvo port, with FEC where the peer asks for it; RETRAIN or RESIZE
beyond RETRAIN_LIMIT, and on an Ethernet port the loss of PCS alignment for 10 µs, to DOWN_HOLD, which empties its queues; the end of a pause, or of a retraining, returns it to UP on what is left of its lanes. -/
def Obligations.LinkLeavesAndReturns : Prop :=
  (∀ (p : Port) (a b : Fin 256) (s : State), s.portState p.val = 4 → (a.val ||| b.val) % 2 ^ s.portWidth p.val ≠ 0 →
    completes (.lossOfSignal ⟨p, a, b⟩) s fun t =>
      t.portState p.val = 5 ∧ (t.port p.val).since = s.tb.tick ∧ (t.port p.val).credits = (s.port p.val).credits
        ∧ (t.port p.val).unacked = (s.port p.val).unacked ∧ t.fld (pStat p.val) F.PtdPortStat.lanesActive = 0
        ∧ (∀ i, i < s.portWidth p.val → bitOf a.val i = true →
          t.fld (laneStat (p.val / 32) (s.physOf (p.val / 32) (p.val % 32 + i))) F.PtdLaneStat.sigDet = 0)
        ∧ s.keeps t [.regs, .ports, .outs])
    ∧ (∀ (p : Port) (a b : Fin 256) (s : State), s.portState p.val ≠ 4 ∨ (a.val ||| b.val) % 2 ^ s.portWidth p.val = 0 →
      completes (.lossOfSignal ⟨p, a, b⟩) s fun t =>
        t.portState p.val = s.portState p.val
          ∧ (∀ i, i < s.portWidth p.val → bitOf a.val i = true →
            t.fld (laneStat (p.val / 32) (s.physOf (p.val / 32) (p.val % 32 + i))) F.PtdLaneStat.sigDet = 0)
          ∧ s.keepsRegs t ((s.portLanes p.val).map (laneStat (p.val / 32))) ∧ s.keeps t [.regs])
    ∧ (∀ (p : Port) (s : State), s.portState p.val = 5 ∨ s.portState p.val = 6 →
      (s.port p.val).since + 250000 * s.fld (pCtl p.val) F.PtdPortCtl.retrainLimit ≤ s.tb.tick →
      completes (.retrainLimitExpiry p) s fun t => wentDown s t p.val)
    ∧ (∀ (p : Port) (s : State), (s.portState p.val ≠ 5 ∧ s.portState p.val ≠ 6)
        ∨ s.tb.tick < (s.port p.val).since + 250000 * s.fld (pCtl p.val) F.PtdPortCtl.retrainLimit →
      exec (.retrainLimitExpiry p) s = .next s)
    ∧ (∀ (p : Port) (ns : Nat) (s : State), s.isEthernet p.val = true → s.portState p.val ∈ [4, 5, 6] → 10000 ≤ ns →
      completes (.pcsAlignmentLoss p ns) s fun t => wentDown s t p.val)
    ∧ (∀ (p : Port) (ns : Nat) (s : State), ns < 10000 ∨ s.isEthernet p.val = false → exec (.pcsAlignmentLoss p ns) s = .next s)
    ∧ (∀ (p : Port) (w : Nat) (r : Bool) (l : Nat) (f : Bool) (s : State), s.isEthernet p.val = false → s.portState p.val = 4 →
      completes (.peerChangeRequest p w ⟨r, f⟩ l) s fun t =>
        (t.portState p.val = 5 ∨ t.portState p.val = 6) ∧ (t.port p.val).localReq = false
          ∧ (f = true → (t.port p.val).pendFec = true)
          ∧ (t.port p.val).unacked = (s.port p.val).unacked ∧ t.bench = s.bench)
    ∧ (∀ (p : Port) (s : State), s.portState p.val = 6 → (s.port p.val).rateChange = false → s.isEthernet p.val = false →
      alignedBlock (s.portWidth p.val) (s.portWidth p.val) ((s.port p.val).pendLanes &&& s.cleanMask p.val) ≠ 0 →
      completes (.resizePauseEnd p) s fun t =>
        t.portState p.val = 4 ∧ t.fld (pStat p.val) F.PtdPortStat.lanesActive
            = alignedBlock (s.portWidth p.val) (s.portWidth p.val) ((s.port p.val).pendLanes &&& s.cleanMask p.val) % 256
          ∧ (t.port p.val).unacked.map Prod.fst = (s.port p.val).unacked.map Prod.fst)

/-- Link replay and credits (R99, R105, R106, R107, R120, R136): a good frame in order is delivered and acknowledged, one delivered before
is acknowledged again; a gap, a bad CRC and an uncorrectable codeword, which its lane counts, are answered with a
NAK of the last good one; an acknowledgement takes the frames it covers out of the replay window; a NAK resends the frames after the last
good one and counts a replay; after eight failed replays of one frame in a row the port retrains, and after more than four replays in 1 ms
one in FEC bypass retrains with FEC and may not propose bypass again; returned credits are added to their class.
How far ahead a number is a gap is the model's reading (log 41). -/
def Obligations.LinkReplay : Prop :=
  (∀ (p : Port) (n : Nat) (s : State), s.portState p.val = 4 → s.isEthernet p.val = false → n % 4096 = (s.port p.val).rxSeq →
    completes (.linkFrameReceive p n ⟨.none, []⟩) s fun t =>
      (t.port p.val).rxSeq = (n + 1) % 4096 ∧ t.outs = s.outs ++ [.ack p.val (n % 4096)] ∧ s.keeps t [.ports, .outs])
    ∧ (∀ (p : Port) (n k : Nat) (s : State), s.portState p.val = 4 → s.isEthernet p.val = false →
      (n % 4096 + 4096 - (s.port p.val).rxSeq) % 4096 = k → k ≠ 0 →
      completes (.linkFrameReceive p n ⟨.none, []⟩) s fun t =>
        t.outs = s.outs ++ [if k < (s.port p.val).window then .nak p.val (((s.port p.val).rxSeq + 4095) % 4096)
          else .ack p.val (((s.port p.val).rxSeq + 4095) % 4096)] ∧ s.keeps t [.outs])
    ∧ (∀ (p : Port) (n : Nat) (s : State), s.portState p.val = 4 → s.isEthernet p.val = false →
      completes (.linkFrameReceive p n ⟨.crc, []⟩) s fun t =>
        t.outs = s.outs ++ [.nak p.val (((s.port p.val).rxSeq + 4095) % 4096)] ∧ s.keeps t [.outs])
    ∧ (∀ (p : Port) (n : Nat) (i : Fin 8) (s : State), s.portState p.val = 4 → s.isEthernet p.val = false → i.val < s.portWidth p.val →
      s.fld (pStat p.val) F.PtdPortStat.fec = 0 → (s.port p.val).badTicks.length < 1000 →
      completes (.linkFrameReceive p n ⟨.codeword i, []⟩) s fun t =>
        t.outs = s.outs ++ [.nak p.val (((s.port p.val).rxSeq + 4095) % 4096)] ∧ (t.port p.val).rxSeq = (s.port p.val).rxSeq
          ∧ t.fld (laneStat (p.val / 32) (s.physOf (p.val / 32) (p.val % 32 + i.val))) F.PtdLaneStat.cwUncorr
            = min (2 ^ F.PtdLaneStat.cwUncorr.wid - 1)
              (s.fld (laneStat (p.val / 32) (s.physOf (p.val / 32) (p.val % 32 + i.val))) F.PtdLaneStat.cwUncorr + 1)
          ∧ s.keepsRegs t [laneStat (p.val / 32) (s.physOf (p.val / 32) (p.val % 32 + i.val))] ∧ s.keeps t [.regs, .ports, .outs])
    ∧ (∀ (p : Port) (i : Fin 8) (k n : Nat) (s : State), s.portState p.val = 4 → s.isEthernet p.val = false → i.val < s.portWidth p.val →
      s.fld (pStat p.val) F.PtdPortStat.fec = 0 →
      completes (.linkFrameReceive p n ⟨.none, [(i, k)]⟩) s fun t =>
        t.fld (laneStat (p.val / 32) (s.physOf (p.val / 32) (p.val % 32 + i.val))) F.PtdLaneStat.cwCorr
            = min (2 ^ F.PtdLaneStat.cwCorr.wid - 1)
              (s.fld (laneStat (p.val / 32) (s.physOf (p.val / 32) (p.val % 32 + i.val))) F.PtdLaneStat.cwCorr + k)
          ∧ t.portState p.val = 4)
    ∧ (∀ (p : Port) (n : Nat) (k : Pkt) (l : List (Nat × Pkt)) (s : State), s.portState p.val = 4 →
      (s.port p.val).unacked = (n % 4096, k) :: l →
      completes (.ackReceive p n) s fun t => (t.port p.val).unacked = l ∧ (t.port p.val).replayFails = 0 ∧ t.regs = s.regs)
    ∧ (∀ (p : Port) (n : Nat) (k : Pkt) (l : List (Nat × Pkt)) (s : State), s.portState p.val = 4 →
      (s.port p.val).unacked = ((n + 1) % 4096, k) :: l → (s.port p.val).replayFails < 8 → s.fld (pStat p.val) F.PtdPortStat.fec ≠ 1 →
      completes (.nakReceive p n) s fun t =>
        (t.port p.val).unacked.map Prod.fst = (s.port p.val).unacked.map Prod.fst ∧ (t.port p.val).replayFails = (s.port p.val).replayFails + 1
          ∧ t.fld (pStat p.val) F.PtdPortStat.replays = min 65535 (s.fld (pStat p.val) F.PtdPortStat.replays + 1)
          ∧ t.portState p.val = 4 ∧ s.keepsRegs t [pStat p.val, R.ptdGateStat (p.val / 32) (p.val % 32)])
    ∧ (∀ (p : Port) (n : Nat) (k : Pkt) (l : List (Nat × Pkt)) (s : State), s.portState p.val = 4 →
      (s.port p.val).unacked = ((n + 1) % 4096, k) :: l → 8 ≤ (s.port p.val).replayFails →
      completes (.nakReceive p n) s fun t => t.portState p.val = 5)
    ∧ (∀ (p : Port) (n : Nat) (k : Pkt) (l : List (Nat × Pkt)) (s : State), s.portState p.val = 4 →
      (s.port p.val).unacked = ((n + 1) % 4096, k) :: l → s.fld (pStat p.val) F.PtdPortStat.fec = 1 →
      4 ≤ ((s.port p.val).replayTicks.filter (fun x => decide (s.tb.tick < x + 1000000))).length →
      completes (.nakReceive p n) s fun t =>
        t.portState p.val = 5 ∧ (t.port p.val).pendFec = true ∧ (t.port p.val).noBypass = true)
    ∧ (∀ (p : Port) (c : Tc) (n : Nat) (s : State), s.portState p.val = 4 → s.isEthernet p.val = false →
      exec (.creditReturn p c n) s = .next (s.setPort p.val (fun x =>
        { x with credits := setNth x.credits c.val (nth x.credits c.val + n) })))

/-- A physical lane that is there and has not failed reads FAILED once it fails (R112); one that carries no logical lane takes nothing else
with it; one that is not there or FAILED already stays as it is. -/
def Obligations.LanesFail : Prop :=
  (∀ (d : PDie) (n : Lane) (c : LaneFailCause) (s : State), s.laneAbsent d.val n.val = false → s.laneFailed d.val n.val = false →
    s.logicalOf d.val n.val = none →
    completes (.laneFail d n c) s fun t =>
      t.lstate d.val n.val = 5 ∧ t.lockTry d.val n.val = 0 ∧ s.keepsRegs t [laneStat d.val n.val, R.ptdSpare d.val]
        ∧ s.keeps t [.regs, .lanes])
    ∧ (∀ (d : PDie) (n : Lane) (c : LaneFailCause) (s : State), s.laneAbsent d.val n.val = false → s.laneFailed d.val n.val = false →
      exec (.laneFail d n c) s = .next (s.failLane d.val n.val))
    ∧ (∀ (d : PDie) (n : Lane) (c : LaneFailCause) (s : State), s.laneAbsent d.val n.val = true ∨ s.laneFailed d.val n.val = true →
      exec (.laneFail d n c) s = .next s)

/-- Lane commands through the die's fence (R119, R120): on a locked lane that is open to them TX_ENABLE and PRBS31 send and TX_IDLE idles,
at once; on one that is not locked the command waits in PEND_CMD; on one that serves a running port it is refused. RELOCK starts the
synthesiser again; its lock makes the lane IDLE, and a lock that does not come is tried once more and then fails the lane.
The LSTATE codes are the model's reading (log 15). -/
def Obligations.LaneCommands : Prop :=
  (∀ (w : Writer) (d : PDie) (n : Lane) (s : State), s.judge w d.val = .applied → s.laneAbsent d.val n.val = false →
    s.laneFailed d.val n.val = false → s.laneCmdOpen d.val n.val = true → s.fld (laneStat d.val n.val) F.PtdLaneStat.synthLock = 1 →
    (completes (.txEnable w d n) s fun t => t.lstate d.val n.val = 4 ∧ t.txMode d.val n.val = 1 ∧ s.keepsRegs t [laneStat d.val n.val] ∧ s.keeps t [.regs, .lanes])
      ∧ (completes (.txIdle w d n) s fun t => t.lstate d.val n.val = 1 ∧ t.txMode d.val n.val = 0 ∧ s.keepsRegs t [laneStat d.val n.val] ∧ s.keeps t [.regs, .lanes])
      ∧ (completes (.prbs31 w d n) s fun t => t.lstate d.val n.val = 4 ∧ t.txMode d.val n.val = 3 ∧ s.keepsRegs t [laneStat d.val n.val] ∧ s.keeps t [.regs, .lanes]))
    ∧ (∀ (w : Writer) (d : PDie) (n : Lane) (s : State), s.judge w d.val = .applied → s.laneAbsent d.val n.val = false →
      s.laneCmdOpen d.val n.val = true → s.fld (laneStat d.val n.val) F.PtdLaneStat.synthLock = 0 →
      (completes (.txEnable w d n) s fun t => t.fld (laneStat d.val n.val) F.PtdLaneStat.pendCmd = 1 ∧ t.lstate d.val n.val = s.lstate d.val n.val)
        ∧ (completes (.txIdle w d n) s fun t => t.fld (laneStat d.val n.val) F.PtdLaneStat.pendCmd = 2 ∧ t.lstate d.val n.val = s.lstate d.val n.val)
        ∧ (completes (.prbs31 w d n) s fun t => t.fld (laneStat d.val n.val) F.PtdLaneStat.pendCmd = 3 ∧ t.lstate d.val n.val = s.lstate d.val n.val))
    ∧ (∀ (w : Writer) (d : PDie) (n : Lane) (s : State), s.judge w d.val = .applied → s.laneCmdOpen d.val n.val = false →
      ∀ c, c = .txEnable w d n ∨ c = .txIdle w d n ∨ c = .prbs31 w d n ∨ c = .relock w d n →
        completes c s fun t => t.fld (laneStat d.val n.val) F.PtdLaneStat.cmdRefused = 1 ∧ t.lstate d.val n.val = s.lstate d.val n.val
          ∧ s.keepsRegs t [laneStat d.val n.val] ∧ s.keeps t [.regs])
    ∧ (∀ (w : Writer) (d : PDie) (n : Lane) (s : State), s.judge w d.val = .applied → s.laneAbsent d.val n.val = false →
      s.laneFailed d.val n.val = false → s.laneCmdOpen d.val n.val = true → s.lockTry d.val n.val = 0 →
      completes (.relock w d n) s fun t =>
        t.lstate d.val n.val = 2 ∧ t.lockTry d.val n.val = 1 ∧ t.fld (laneStat d.val n.val) F.PtdLaneStat.synthLock = 0
          ∧ s.keepsRegs t [laneStat d.val n.val] ∧ s.keeps t [.regs, .lanes])
    ∧ (∀ (d : PDie) (n : Lane) (s : State), s.laneAbsent d.val n.val = false → s.fld (laneStat d.val n.val) F.PtdLaneStat.synthLock = 0 →
      s.fld (laneStat d.val n.val) F.PtdLaneStat.pendCmd = 0 → s.lstate d.val n.val = 2 →
      completes (.synthLock d n) s fun t =>
        t.lstate d.val n.val = 1 ∧ t.lockTry d.val n.val = 0 ∧ t.fld (laneStat d.val n.val) F.PtdLaneStat.synthLock = 1
          ∧ s.keepsRegs t [laneStat d.val n.val] ∧ s.keeps t [.regs, .lanes])
    ∧ (∀ (d : PDie) (n : Lane) (s : State), s.laneAbsent d.val n.val = false → s.fld (laneStat d.val n.val) F.PtdLaneStat.synthLock = 0 →
      s.lockTry d.val n.val < 2 →
      completes (.synthLockTimeout d n) s fun t => t.lockTry d.val n.val = 2 ∧ s.keeps t [.lanes])
    ∧ (∀ (d : PDie) (n : Lane) (s : State), s.laneAbsent d.val n.val = false → s.fld (laneStat d.val n.val) F.PtdLaneStat.synthLock = 0 →
      2 ≤ s.lockTry d.val n.val → exec (.synthLockTimeout d n) s = .next (s.failLane d.val n.val))

/-- Port commands through the die's fence (R114, R120): RETRAIN takes a port that is UP to RETRAIN; UPRATE one that runs at 100 Gb/s to RESIZE with a change of
rate, unless RATE fixes it; RESTORE_WIDTH to RESIZE toward the clean lanes that its peer has; RESTART takes a port in FAULT to DETECT; each is refused with CMD_REFUSED in
any other state; ADMIN_DOWN is stored, and the port follows. -/
def Obligations.PortCommands : Prop :=
  (∀ (w : Writer) (p : Port) (s : State), s.judge w (p.val / 32) = .applied → s.portWidth p.val ≠ 0 → s.portState p.val = 4 →
    (completes (.retrain w p) s fun t =>
      t.portState p.val = 5 ∧ (t.port p.val).localReq = true ∧ (t.port p.val).noBypass = false ∧ s.keeps t [.regs, .ports, .outs])
      ∧ ((s.planeOn (p.val / 32)).rate100 (p.val / 32) (p.val % 32) = false →
        s.fld (pStat p.val) F.PtdPortStat.rateNow = 1 →
        completes (.uprate w p) s fun t =>
          t.portState p.val = 6 ∧ (t.port p.val).rateChange = true ∧ (t.port p.val).next100 = false ∧ (t.port p.val).pend100 = false)
      ∧ ((s.planeOn (p.val / 32)).rate100 (p.val / 32) (p.val % 32) = false →
        s.fld (pStat p.val) F.PtdPortStat.rateNow = 0 →
        completes (.uprate w p) s fun t => t.portState p.val = 4 ∧ (t.port p.val).next100 = false ∧ s.keeps t [.ports])
      ∧ ((s.planeOn (p.val / 32)).rate100 (p.val / 32) (p.val % 32) = true →
        completes (.uprate w p) s fun t =>
          t.fld (pStat p.val) F.PtdPortStat.cmdRefused = 1 ∧ s.keepsRegs t [pStat p.val] ∧ s.keeps t [.regs])
      ∧ (s.resizeBlock p.val ≠ s.fld (pStat p.val) F.PtdPortStat.lanesActive → s.resizeBlock p.val ≠ 0 →
        completes (.restoreWidth w p) s fun t =>
          t.portState p.val = 6 ∧ (t.port p.val).pendLanes = s.resizeBlock p.val ∧ (t.port p.val).localReq = true))
    ∧ (∀ (w : Writer) (p : Port) (s : State), s.judge w (p.val / 32) = .applied → s.portWidth p.val ≠ 0 → s.portState p.val = 8 →
      completes (.portRestart w p) s fun t =>
        (t.portState p.val = 1 ∨ t.portState p.val = 2) ∧ (t.port p.val).waiting = false ∧ (t.port p.val).attempts = 0)
    ∧ (∀ (w : Writer) (p : Port) (s : State), s.judge w (p.val / 32) = .applied → s.portWidth p.val ≠ 0 →
      ∀ c, (s.portState p.val ≠ 4 ∧ (c = .retrain w p ∨ c = .uprate w p ∨ c = .restoreWidth w p))
          ∨ (s.portState p.val ≠ 8 ∧ c = .portRestart w p) →
        completes c s fun t => t.fld (pStat p.val) F.PtdPortStat.cmdRefused = 1 ∧ t.portState p.val = s.portState p.val
          ∧ s.keepsRegs t [pStat p.val] ∧ s.keeps t [.regs])
    ∧ (∀ (w : Writer) (p : Port) (s : State), s.judge w (p.val / 32) = .applied → s.portWidth p.val ≠ 0 → s.portState p.val = 0 →
      completes (.adminDownWrite w p true) s fun t =>
        t.fld (pCtl p.val) F.PtdPortCtl.adminDown = 1 ∧ t.portState p.val = 0 ∧ s.keepsRegs t [pCtl p.val] ∧ s.keeps t [.regs])
    ∧ (∀ (w : Writer) (p : Port) (down : Bool) (s : State), s.judge w (p.val / 32) = .applied → s.portWidth p.val ≠ 0 →
      exec (.adminDownWrite w p down) s = .next ((s.setFld (pCtl p.val) F.PtdPortCtl.adminDown (b2n down)).refreshPort p.val))

/-- Sparing (R116, R118, R120) and the engine reset of a quad (R387): TAKE of a free spare whose path is there, for a lane that is bad,
starts its training; a training that ends well puts the spare in service for its lane, one that ends badly leaves it FAILED; RELEASE
starts the training of the lane that comes back; a quad is reset by firmware's command, and by the part only when a record asked for it. -/
def Obligations.SparesAndQuads : Prop :=
  (∀ (w : Writer) (d : PDie) (l : Fin 32) (b : Bool) (p : Nat) (s : State), s.judge w d.val = .applied → s.spareFree d.val (b2n b) = true →
    s.portOfLane d.val l.val = some p → s.sparePath p (b2n b) = true → s.laneBad d.val (s.physOf d.val l.val) = true →
    completes (.take w d l b) s fun t =>
      t.spState d.val (b2n b) = 1 ∧ t.spareJob d.val (b2n b) = 1 + l.val ∧ t.lstate d.val (32 + b2n b) = 3
        ∧ s.keepsRegs t [R.ptdSpare d.val, laneStat d.val (32 + b2n b)] ∧ s.keeps t [.regs, .lanes, .spares])
    ∧ (∀ (w : Writer) (d : PDie) (l : Fin 32) (b : Bool) (s : State), s.judge w d.val = .applied → s.spareFree d.val (b2n b) = false →
      completes (.take w d l b) s fun t => t.fld (R.ptdSpare d.val) F.PtdSpare.cmdRefused = 1 ∧ s.keepsRegs t [R.ptdSpare d.val] ∧ s.keeps t [.regs])
    ∧ (∀ (w : Writer) (d : PDie) (b : Bool) (s : State), s.judge w d.val = .applied → s.spState d.val (b2n b) = 2 →
      s.spareJob d.val (b2n b) = 0 → s.laneAbsent d.val (s.spFor d.val (b2n b)) = false →
      completes (.spareRelease w d b) s fun t =>
        t.spareJob d.val (b2n b) = 65 + s.spFor d.val (b2n b) ∧ t.lstate d.val (s.spFor d.val (b2n b)) = 3
          ∧ t.spState d.val (b2n b) = 2 ∧ s.keeps t [.regs, .spares])
    ∧ (∀ (w : Writer) (d : PDie) (b : Bool) (s : State), s.judge w d.val = .applied → s.spState d.val (b2n b) ≠ 2 →
      completes (.spareRelease w d b) s fun t => t.fld (R.ptdSpare d.val) F.PtdSpare.cmdRefused = 1 ∧ s.keepsRegs t [R.ptdSpare d.val] ∧ s.keeps t [.regs])
    ∧ (∀ (d : PDie) (b : Bool) (l : Nat) (s : State), l < 32 → s.spareJob d.val (b2n b) = 1 + l → s.portOfLane d.val l = none →
      completes (.spareTrainingDone d b true) s fun t =>
        t.spState d.val (b2n b) = 2 ∧ t.spFor d.val (b2n b) = l ∧ t.spareJob d.val (b2n b) = 0 ∧ s.keeps t [.regs, .spares])
    ∧ (∀ (d : PDie) (b : Bool) (l p : Nat) (s : State), l < 32 → s.spareJob d.val (b2n b) = 1 + l → s.portOfLane d.val l = some p →
      completes (.spareTrainingDone d b true) s fun t =>
        t.spState d.val (b2n b) = 2 ∧ t.spFor d.val (b2n b) = l ∧ t.spareJob d.val (b2n b) = 0)
    ∧ (∀ (d : PDie) (b : Bool) (l : Nat) (s : State), l < 32 → s.spareJob d.val (b2n b) = 1 + l → s.portOfLane d.val l = none →
      completes (.spareTrainingDone d b false) s fun t =>
        t.spState d.val (b2n b) = 3 ∧ t.lstate d.val (32 + b2n b) = 5 ∧ t.spareJob d.val (b2n b) = 0 ∧ s.keeps t [.regs, .spares])
    ∧ (∀ (w : Writer) (d : PDie) (q : Fin 8) (s : State), s.judge w d.val = .applied →
      exec (.quadEngineReset (.fw w) d q) s = .next (s.resetQuad d.val q.val))
    ∧ (∀ (w : Writer) (d : PDie) (q : Fin 8) (s : State), s.judge w d.val = .applied →
      completes (.quadEngineReset (.fw w) d q) s fun t =>
        (∀ p, p ∈ s.quadPorts d.val q.val →
          (t.portState p = 0 ∨ t.portState p = 1 ∨ t.portState p = 2)
            ∧ (s.portState p ≠ 0 → (∀ c, c < 8 → t.queue (qKey p c) = []) ∧ (t.port p).unacked = []))
          ∧ (∀ e, e ∈ t.err.escal → ¬(e.step = 2 ∧ e.die = d.val ∧ e.unit / 4 = q.val)))
    ∧ (∀ (d : PDie) (q : Fin 8) (e : Escal) (s : State), e ∈ s.err.escal → e.step = 2 ∧ e.die = d.val ∧ e.unit / 4 = q.val →
      completes (.quadEngineReset .part d q) s fun t =>
        (∀ p, p ∈ s.quadPorts d.val q.val → t.portState p = 0 ∨ t.portState p = 1 ∨ t.portState p = 2)
          ∧ ∀ x, x ∈ t.err.escal → ¬(x.step = 2 ∧ x.die = d.val ∧ x.unit / 4 = q.val))
    ∧ (∀ (d : PDie) (q : Fin 8) (s : State), (∀ e, e ∈ s.err.escal → ¬(e.step = 2 ∧ e.die = d.val ∧ e.unit / 4 = q.val)) →
      exec (.quadEngineReset .part d q) s = .next s)

/-! ## Packets in, the bench, packets out -/

/-- The state in which the header of a packet that passes steps 1 to 6 of R138 is routed: its frame's n credits are the part's again, its
descriptor has a number, no rank entry is missing. -/
def headerIn (s : State) (p c n : Nat) : State :=
  (((s.setPort p (fun x => { x with given := setNth x.given c (nth (s.port p).given c - n) })).withBench
    (fun b => { b with nextUid := b.nextUid + 1 })).countBy (R.ptdRtcStat (p / 32)) F.PtdRtcStat.misses 0).unreserve p c n

/-- Packets arrive (R122, R136, R138, R152): a port that is not UP takes none; on a Druvo port each goes through the headstock with the
credits that its frame uses; a data packet that passes steps 1 to 6, whose rank entries are at hand, is linked at the tail of the queue to
which steps 7 to 10 route it, with the grains that admission gives it; one whose header CRC fails is counted as HCRC and reaches no queue
and no context. -/
def Obligations.PacketsArrive : Prop :=
  (∀ (p : Port) (c : Tc) (n : Fin 64) (raw : RawPacket) (s : State), s.portState p.val ≠ 4 ∨ s.isEthernet p.val = true →
    exec (.packetIngress p c n raw) s = .next s)
    ∧ (∀ (p : Port) (c : Tc) (n : Fin 64) (h : BitVec 256) (s : State), s.portState p.val = 4 → s.isEthernet p.val = false → n.val ≠ 0 →
      exec (.packetIngress p c n (.data h)) s = .next
        ((s.setPort p.val (fun x => { x with
            given := setNth x.given c.val (nth (s.port p.val).given c.val - min n.val (nth (s.port p.val).given c.val)) })).receivePkt
          (s.rxPkt p.val true h.toNat 0) c.val (min n.val (nth (s.port p.val).given c.val))
          (decide (n.val ≤ nth (s.port p.val).given c.val)) (s.rxPkt p.val true h.toNat 0).length))
    ∧ (∀ (p : Port) (c : Tc) (n : Fin 64) (h : BitVec 256) (x : Pkt) (out : Nat) (id : Option Nat) (l : List Nat) (s r : State),
      s.portState p.val = 4 → s.isEthernet p.val = false → n.val ≠ 0 → n.val ≤ nth (s.port p.val).given c.val →
      s.arrivals (qKey p.val c.val) = [] → x = s.rxPkt p.val true h.toNat 0 → hcrcOk true h.toNat = true →
      dataFormatOk h.toNat (s.facesEndpoint p.val) = true → hdrOpcode true h.toNat ≠ 0x41 → s.jobPasses x.job p.val x.stamp = true →
      s.policersFor p.val x.tc x.job = [] → s.opcodeOk p.val true h.toNat = true → s.ranksMissing x = [] →
      s.fld (R.bchShavCtl (8 * portHalf p.val)) F.BchShavCtl.sampleLog2 = 0 →
      s.fld (R.bchShavCtl (8 * portHalf p.val)) F.BchShavCtl.mirrorEn = 0 →
      (headerIn s p.val c.val n.val).routePkt x = (.egress out id, r) → r.descFree (portHalf out) ≠ 0 →
      (r.admitGrains x (portHalf out) ((r.benchPlaneAt (portHalf out) x.stamp).queuePool (qKey out x.tc)) (hdrGrainCount h.toNat)
        ((r.planeOf (out / 32) x.stamp).lossless (((r.planeOf (out / 32) x.stamp).partOfPort (out / 32)).getD 0) x.tc)).1 = some l →
      completes (.packetIngress p c n (.data h)) s fun t =>
        t.queue (qKey out x.tc) = (r.admitGrains x (portHalf out) ((r.benchPlaneAt (portHalf out) x.stamp).queuePool (qKey out x.tc))
            (hdrGrainCount h.toNat)
            ((r.planeOf (out / 32) x.stamp).lossless (((r.planeOf (out / 32) x.stamp).partOfPort (out / 32)).getD 0) x.tc)).2.queue
              (qKey out x.tc)
            ++ [{ x with outPort := out, epid := id, grains := l, arrived := 0, linkTick := s.tb.tick }]
          ∧ t.ctxs = s.ctxs)
    ∧ (∀ (p : Port) (c : Tc) (n : Fin 64) (h : BitVec 256) (s : State), s.portState p.val = 4 → s.isEthernet p.val = false →
      hcrcOk true h.toNat = false →
      completes (.packetIngress p c n (.data h)) s fun t =>
        t.bench.queues = s.bench.queues ∧ t.ctxs = s.ctxs ∧ t.outs = s.outs ∧ t.bench.nextUid = s.bench.nextUid + 1
          ∧ t.fld (R.ptdPktCnt0 (p.val / 32) (p.val % 32)) F.PtdPktCnt0.hcrc
            = min (2 ^ F.PtdPktCnt0.hcrc.wid - 1) (s.fld (R.ptdPktCnt0 (p.val / 32) (p.val % 32)) F.PtdPktCnt0.hcrc + 1))

/-- Rank entries and grains (R101, R126, R127, R132, R137, R139): a lookup that returns with no packet held changes nothing; one that returns leaves only
packets that are still held or still arriving at the headstock; a grain with no packet arriving changes nothing, one of a held packet waits
with it, and one of a packet on its way to a port stands in the bench grain that the packet has for it; an Ethernet frame whose check fails is discarded, LLDP goes to firmware, and one of another EtherType is counted and dropped. -/
def Obligations.GrainsAndFramesArrive : Prop :=
  (∀ (p : Port) (c : Tc) (b : Bool) (s : State), (∀ a, a ∈ s.arrivals (qKey p.val c.val) → a.held = false) →
    exec (.rankLookupReturn p c b) s = .next s)
    ∧ (∀ (p : Port) (c : Tc) (b : Bool) (a : Arriving) (s : State), a ∈ s.arrivals (qKey p.val c.val) → a.held = true →
      completes (.rankLookupReturn p c b) s fun t => ∀ x, x ∈ t.arrivals (qKey p.val c.val) → x.held = true ∨ x.ended = false)
    ∧ (∀ (p : Port) (c : Tc) (tag : BitVec 128) (g : Grain) (l : Bool) (s : State), (∀ a, a ∈ s.arrivals (qKey p.val c.val) → a.ended = true) →
      exec (.grainIngress p c tag g l) s = .next s)
    ∧ (∀ (p : Port) (c : Tc) (tag : BitVec 128) (g : Grain) (l : Bool) (a : Arriving) (s : State), s.portState p.val = 4 →
      s.isEthernet p.val = false → s.arrivals (qKey p.val c.val) = [a] → a.ended = false → a.held = true →
      completes (.grainIngress p c tag g l) s fun t =>
        t.arrivals (qKey p.val c.val) = [{ a with raw := a.raw ++ [(some (tag.toNat, g.toNat), l)], ended := l }] ∧ s.keeps t [.bench])
    ∧ (∀ (p : Port) (c : Tc) (tag : BitVec 128) (g : Grain) (a : Arriving) (k : Nat) (s : State), s.portState p.val = 4 →
      s.isEthernet p.val = false → s.arrivals (qKey p.val c.val) = [a] → a.ended = false → a.held = false → a.dropped = false →
      a.mode = 0 → a.grains[a.next]? = some k → a.next + 1 < hdrGrainCount a.pkt.hdr → gwFormat (tag.toNat / 2 ^ 64) ≠ 3 →
      grainCrc (tag.toNat / 2 ^ 64) g 256 = tag.toNat % 2 ^ 64 →
      completes (.grainIngress p c tag g false) s fun t =>
        (t.grain k).st = .linked ∧ (t.grain k).data = g ∧ (t.grain k).len = 256 ∧ (t.grain k).word = tag.toNat / 2 ^ 64
          ∧ t.arrivals (qKey p.val c.val) = [{ a with next := a.next + 1, owed := a.owed - 1 }] ∧ t.ctxs = s.ctxs)
    ∧ (∀ (p : Port) (e : Nat) (f : Blob) (s : State), exec (.ethernetFrameIngress p e false f) s = .next s)
    ∧ (∀ (p : Port) (f : Blob) (s : State), s.portState p.val = 4 → s.isEthernet p.val = true → 64 ≤ f.len → f.len ≤ 9216 →
      exec (.ethernetFrameIngress p 0x88CC true f) s = .next (s.emit (.toFirmware p.val 0x88CC (s.dieNow (p.val / 32)) f)))
    ∧ (∀ (p : Port) (e : Nat) (f : Blob) (s : State), s.portState p.val = 4 → s.isEthernet p.val = true → 64 ≤ f.len → f.len ≤ 9216 →
      e ≠ 0x88CC → e ≠ 0x88F7 → e ≠ 0x8808 → e ≠ (s.planeOn (p.val / 32)).etherType →
      completes (.ethernetFrameIngress p e true f) s fun t => s.keeps t [.regs, .bench] ∧ t.bench.queues = s.bench.queues)

/-- A transfer passes the parting fence of a die. -/
abbrev passesFence (s : State) (d : Nat) (x : Xfer) : Prop :=
  x.sys = true ∨ (s.entitled d x = some x.part ∧ s.partBusy x.part = false)

/-- The bridges that a transfer crosses show it in their arbiters' registers. -/
def hopRegs (x : Xfer) : List Nat := x.hops.map (fun h => R.brgArbStat h.bridge)

/-- Spindle transfers (R174, R331, R382): a write to a tier that passes its fence stores exactly its bytes, every other byte reads as before; a
read that passes answers the tier's bytes and changes no memory; of two that wait a grain of TC7 is served before one that is not; one
without SYS from a partition that does not own its target, or that is resetting, is dropped at the fence with no memory changed. -/
def Obligations.SpindleTransfers : Prop :=
  (∀ (d : Die) (x : Xfer) (a : Nat) (b : Blob) (s : State), x.op = .write 0 a b → a + b.len ≤ s.nearBytes → x.src < 100 →
    passesFence s d.val x →
    completes (.spindleTransferReceive d [x]) s fun t =>
      (∀ i, i < b.len → t.near.get (fun _ => 0) (a + i) = BitVec.ofNat 8 (b.val / 256 ^ i))
        ∧ (∀ j, j < a ∨ a + b.len ≤ j → t.near.get (fun _ => 0) j = s.near.get (fun _ => 0) j)
        ∧ s.keepsRegs t (hopRegs x) ∧ s.keeps t [.regs, .dies, .near, .nearBurr])
    ∧ (∀ (d : Die) (x : Xfer) (a : Nat) (b : Blob) (s : State), x.op = .write 1 a b → a + b.len ≤ farBytes → x.src < 100 →
      passesFence s d.val x →
      completes (.spindleTransferReceive d [x]) s fun t =>
        (∀ i, i < b.len → t.far.get (fun _ => 0) (a + i) = BitVec.ofNat 8 (b.val / 256 ^ i))
          ∧ (∀ j, j < a ∨ a + b.len ≤ j → t.far.get (fun _ => 0) j = s.far.get (fun _ => 0) j)
          ∧ s.keepsRegs t (hopRegs x) ∧ s.keeps t [.regs, .dies, .far, .farBurr])
    ∧ (∀ (d : Die) (x : Xfer) (k a n : Nat) (s : State), x.op = .read k a n → a + n ≤ s.tierSize k → x.src < 100 →
      passesFence s d.val x →
      completes (.spindleTransferReceive d [x]) s fun t =>
        t.outs = s.outs ++ [.readReply (s.tierRead k a n)] ∧ s.keepsRegs t (hopRegs x) ∧ s.keeps t [.regs, .dies, .outs])
    ∧ (∀ (d : Die) (x y : Xfer) (k a n j b m : Nat) (s : State), x.op = .read k a n → a + n ≤ s.tierSize k → y.op = .read j b m →
      b + m ≤ s.tierSize j → y.src < 100 → x.sys = true → y.sys = true → x.tc = 7 → y.tc ≠ 7 →
      completes (.spindleTransferReceive d [y, x]) s fun t =>
        t.outs = s.outs ++ [.readReply (s.tierRead k a n), .readReply (s.tierRead j b m)])
    ∧ (∀ (d : Die) (x : Xfer) (s : State), x.src < 100 → x.sys = false →
      s.entitled d.val x ≠ some x.part ∨ s.partBusy x.part = true →
      completes (.spindleTransferReceive d [x]) s fun t => s.keeps t [.regs, .dies, .err])

/-- Grains of a requester (R144, R145, R150): an ALLOC in the requester's epoch, within its quota and at a pool level below 3 gets its grains,
HELD for it; a return of a HELD grain by its holder frees it and nothing else; a return at an address that is not 256-byte aligned, or in another
epoch, is refused with its cause and changes no grain. -/
def Obligations.GrainsAllocatedAndReturned : Prop :=
  (∀ (d : BDie) (r : Req) (n : Nat) (l : List Nat) (t : State) (s : State), reqReserved r.val = false → s.quotaOk r.val n = true →
    s.poolLevel ((s.reqPlane r.val).reqPool r.val) ≤ 2 → s.allocN (s.reqHalf r.val) r.val ((s.reqPlane r.val).reqPool r.val) none n = some (l, t) →
    s.epoch r.val < 16 →
    exec (.grainAlloc d r (s.epoch r.val) n) s = .next t ∧ l.length = n ∧ ∀ g, g ∈ l → (t.grain g).st = .held ∧ (t.grain g).req = r.val)
    ∧ (∀ (d : BDie) (r : Req) (e n : Nat) (s : State), reqReserved r.val = false → e % 16 ≠ s.epoch r.val →
      completes (.grainAlloc d r e n) s fun t =>
        t.fld (R.bchPmLast d.val) F.BchPmLast.cause = 5 ∧ t.fld (R.bchPmLast d.val) F.BchPmLast.req = r.val
          ∧ s.keepsRegs t [R.bchPmChk d.val, R.bchPmLast d.val] ∧ s.keeps t [.regs])
    ∧ (∀ (d : BDie) (r : Req) (ptr : Nat) (s : State), ptrInPool ptr = true → reqReserved r.val = false → s.epoch r.val < 16 →
      (s.grain ptr).st = .held → (s.grain ptr).req = r.val →
      completes (.grainReturn d r (s.epoch r.val) (256 * ptr)) s fun t =>
        t.grain ptr = GrainSt.empty ∧ (∀ q, q ≠ ptr → t.grain q = s.grain q) ∧ s.keeps t [.bench])
    ∧ (∀ (d : BDie) (r : Req) (e a : Nat) (s : State), a % 256 ≠ 0 →
      completes (.grainReturn d r e a) s fun t =>
        t.fld (R.bchPmLast d.val) F.BchPmLast.cause = 1 ∧ t.bench = s.bench ∧ s.keeps t [.regs, .err])

/-- Reclaims, levels, aging (R147, R154, R155): RECLAIM on a pool leader raises the requester's epoch and sets BUSY, and is refused while
BUSY; its completion leaves the requester no HELD grain and reports how many it had; the level sum leaves each pool's registers
of pools that no partition has as they are; the age scan of a port in RETRAIN or RESIZE leaves no aged packet at the head of a queue. -/
def Obligations.ReclaimsAndAging : Prop :=
  (∀ (w : Writer) (d : BDie) (r : Req) (s : State), s.judge w (dBench d.val) = .applied → d.val = 0 ∨ d.val = 8 → reqReserved r.val = false →
    s.fld (R.bchReclaim d.val) F.BchReclaim.busy = 0 →
    completes (.reclaim w d r) s fun t =>
      t.epoch r.val = (s.epoch r.val + 1) % 16 ∧ t.fld (R.bchReclaim d.val) F.BchReclaim.busy = 1
        ∧ t.fld (R.bchReclaim d.val) F.BchReclaim.lastReq = r.val ∧ (∀ q, q ≠ r.val → t.epoch q = s.epoch q)
        ∧ s.keepsRegs t [R.bchReclaim d.val] ∧ s.keeps t [.regs, .bench])
    ∧ (∀ (w : Writer) (d : BDie) (r : Req) (s : State), s.judge w (dBench d.val) = .applied → d.val = 0 ∨ d.val = 8 →
      s.fld (R.bchReclaim d.val) F.BchReclaim.busy = 1 →
      completes (.reclaim w d r) s fun t =>
        t.fld (R.bchReclaim d.val) F.BchReclaim.cmdRefused = 1 ∧ s.keepsRegs t [R.bchReclaim d.val] ∧ s.keeps t [.regs])
    ∧ (∀ (d : BDie) (r : Req) (s : State), s.fld (R.bchReclaim d.val) F.BchReclaim.busy = 1 →
      s.fld (R.bchReclaim d.val) F.BchReclaim.lastReq = r.val →
      completes (.reclaimComplete d r) s fun t =>
        t.reqHeld r.val = 0 ∧ t.fld (R.bchReclaim d.val) F.BchReclaim.busy = 0
          ∧ t.fld (R.bchReclaim d.val) F.BchReclaim.grains = min (s.reqHeld r.val) 0xFFFF
          ∧ s.keepsRegs t [R.bchReclaim d.val] ∧ s.keeps t [.regs, .bench])
    ∧ (∀ s : State, (∀ k, k < 64 → (s.poolPlane k).poolPart k = 0xFF) → (∀ e, e ∈ s.ports → ∀ n, n ∈ e.2.waitCredits → n = 0) →
      (∀ e, e ∈ s.ports → s.isEthernet e.1 = false) → s.bench.waits = [] → s.bench.descWait = [] → s.bench.since = [] →
      exec .poolLevelSum s = .next s)
    ∧ (∀ (s : State) (k : Nat), k < 64 → (s.poolPlane k).poolPart k ≠ 0xFF → 1024 ≤ s.descFree (k / 32) →
      (∀ e, e ∈ s.ports → ∀ n, n ∈ e.2.waitCredits → n = 0) → (∀ e, e ∈ s.ports → s.isEthernet e.1 = false) → s.bench.waits = [] →
      s.bench.descWait = [] → (∀ j, j < 64 → j ≠ k → (s.poolPlane j).poolPart j = 0xFF) →
      completes .poolLevelSum s fun t =>
        t.bench.levels.get (fun _ => 0) k = nextLevel (s.poolPlane k) k (s.poolOcc k) (s.bench.levels.get (fun _ => 0) k)
          ∧ t.fld (poolReg k) F.BchPoolStat.level
            = nextLevel (s.poolPlane k) k (s.poolOcc k) (s.bench.levels.get (fun _ => 0) k) % 2 ^ F.BchPoolStat.level.wid
          ∧ t.fld (poolReg k) F.BchPoolStat.occ = s.poolOcc k % 2 ^ F.BchPoolStat.occ.wid ∧ t.bench.since = []
          ∧ s.keepsRegs t [poolReg k] ∧ s.keeps t [.regs, .bench, .outs])
    ∧ (∀ (p : Port) (s : State), s.portState p.val = 5 ∨ s.portState p.val = 6 →
      completes (.retrainAgeScan p) s fun t => ∀ c, c < 8 → (t.queue (qKey p.val c)).head?.any s.aged = false)
    ∧ (∀ (p : Port) (s : State), s.portState p.val ≠ 5 → s.portState p.val ≠ 6 → exec (.retrainAgeScan p) s = .next s)

/-- SPILL_KEEP of the pool of an egress queue. -/
def keepOf (s : State) (q : Nat) : Nat :=
  (s.benchPlane (portHalf (q / 8))).spillKeep ((s.benchPlane (portHalf (q / 8))).queuePool q)

/-- A packet's grains may be allocated to the spill engine of a half: within its quota, at a level of its pool below PUSHOUT. -/
abbrev spillRoom (s : State) (half n : Nat) : Prop :=
  s.quotaOk (0x480 + half) n = true ∧ s.poolLevel ((s.reqPlane (0x480 + half)).reqPool (0x480 + half)) ≤ 2

/-- Spilling and the shavings archive (R157, R158, R160): the one packet of a queue that may spill, when the region has room, keeps its place in
the queue and gives its grains back; a queue that does not spill is left alone; a queue with spilled packets whose head is short gets them
back into grains of the spill engine, with the bytes that stand in the region, and one whose head is long enough does not; a contribution
that waits for a context on no lathe spills, and comes back once it is on one; a full segment of the ring goes to the archive and counts once.
Where a packet lies in the region, and the archive, are the model's (log 17, 18). -/
def Obligations.SpillAndArchive : Prop :=
  (∀ (q : Fin 8192) (part o : Nat) (y : Pkt) (s : State), s.portPart (q.val / 8) = some part → s.maySpill q.val = true →
    keepOf s q.val < benchGrains (s.queue q.val) → s.readbackFirst (portHalf (q.val / 8)) = false →
    ((grainsBefore 0 (s.queue q.val)).filter (fun x => decide (keepOf s q.val ≤ x.1) && x.2.spillAt.isNone
      && decide (x.2.arrived = x.2.creditCost))).map Prod.snd = [y] →
    s.spillPlace (portHalf (q.val / 8)) part (288 * y.creditCost) = some o →
    completes (.spillWrite (.queue q)) s fun t =>
      t.queue q.val = (s.queue q.val).map (fun x => if x.uid = y.uid then { x with spillAt := some o, grains := [] } else x)
        ∧ s.keeps t [.bench, .near, .nearBurr])
    ∧ (∀ (q : Fin 8192) (s : State), s.maySpill q.val = false → exec (.spillWrite (.queue q)) s = .next s)
    ∧ (∀ (q : Fin 8192) (part o : Nat) (y : Pkt) (l : List Nat) (t' : State) (s : State), s.portPart (q.val / 8) = some part →
      s.queue q.val = [y] → y.spillAt = some o → 2 ≤ keepOf s q.val →
      (s.benchPlane (portHalf (q.val / 8))).spillShare (portHalf (q.val / 8)) ≠ 0 → s.aged y = false →
      spillRoom s (portHalf (q.val / 8)) y.creditCost →
      s.allocN (portHalf (q.val / 8)) (0x480 + portHalf (q.val / 8))
        ((s.reqPlane (0x480 + portHalf (q.val / 8))).reqPool (0x480 + portHalf (q.val / 8))) (some y.job) y.creditCost = some (l, t') →
      completes (.spillReadback (.queue q)) s fun t =>
        t.queue q.val = [{ y with spillAt := none, grains := l }]
          ∧ (∀ i g, l[i]? = some g → (t.grain g).st = .linked
            ∧ (t.grain g).data = BitVec.ofNat 2048
              (s.nearRead ((s.benchPlane (portHalf (q.val / 8))).spillBase part + o + 288 * i) 288).val)
          ∧ s.keeps t [.bench])
    ∧ (∀ (q : Fin 8192) (s : State), keepOf s q.val / 2 ≤ headGrains (s.queue q.val) → exec (.spillReadback (.queue q)) s = .next s)
    ∧ (∀ (c : Ctx) (o : Nat) (n : Notice) (g : Nat) (s : State), (s.ctx c.val).phys = none → (s.ctx c.val).coll.pend = [n] →
      n.ptr = some g → n.spillAt = none → 2 ≤ s.poolLevel (s.grain g).pool →
      (s.benchPlane ((s.ctx c.val).home / 12)).spillShare ((s.ctx c.val).home / 12) ≠ 0 →
      s.readbackFirst ((s.ctx c.val).home / 12) = false →
      s.spillPlace ((s.ctx c.val).home / 12) (recPart (s.ctx c.val).record) 288 = some o →
      completes (.spillWrite (.ctx c)) s fun t =>
        (t.ctx c.val).coll.pend = [{ n with ptr := none, spillAt := some o }] ∧ (t.ctx c.val).record = (s.ctx c.val).record
          ∧ s.keeps t [.bench, .ctxs, .near, .nearBurr])
    ∧ (∀ (c : Ctx) (o k g : Nat) (n : Notice) (t' : State) (s : State), (s.ctx c.val).phys = some k → (s.ctx c.val).coll.pend = [n] →
      n.spillAt = some o → (s.benchPlane ((s.ctx c.val).home / 12)).spillShare ((s.ctx c.val).home / 12) ≠ 0 →
      spillRoom s ((s.ctx c.val).home / 12) 1 →
      s.allocOne ((s.ctx c.val).home / 12) (0x480 + (s.ctx c.val).home / 12)
        ((s.reqPlane (0x480 + (s.ctx c.val).home / 12)).reqPool (0x480 + (s.ctx c.val).home / 12)) (some (recJob (s.ctx c.val).record))
        = some (g, t') →
      completes (.spillReadback (.ctx c)) s fun t =>
        (t.ctx c.val).coll.pend = [{ n with ptr := some g, spillAt := none }] ∧ (t.grain g).st = .linked
          ∧ (t.grain g).data = BitVec.ofNat 2048
            (s.nearRead ((s.benchPlane ((s.ctx c.val).home / 12)).spillBase (recPart (s.ctx c.val).record) + o) 288).val
          ∧ s.keeps t [.bench, .ctxs])
    ∧ (∀ (d : BDie) (s : State), d.val = 0 ∨ d.val = 8 → s.fld (R.bchShavCtl d.val) F.BchShavCtl.archGib ≠ 0 →
      max (s.bench.archived.get (fun _ => 0) (d.val / 8)) (s.bench.taken.get (fun _ => 0) (d.val / 8) / 4096 - 128)
        < s.bench.taken.get (fun _ => 0) (d.val / 8) / 4096 →
      completes (.archiveSegmentCopy d) s fun t =>
        t.bench.archived.get (fun _ => 0) (d.val / 8)
            = max (s.bench.archived.get (fun _ => 0) (d.val / 8)) (s.bench.taken.get (fun _ => 0) (d.val / 8) / 4096 - 128) + 1
          ∧ s.keeps t [.bench, .far, .farBurr])

/-- Policers (R166, R176, R177): rates above POL_RATE_MAX are stored as it, with CLAMPED; burst sizes are stored and buckets never stand above
them; a policer that is bound starts with full buckets; one beyond its job's quota is stored with EN = 0 and counted. -/
def Obligations.PolicerWrites : Prop :=
  (∀ (w : Writer) (d : PDie) (k : Fin 64) (v : W64) (s : State), s.judge w d.val = .applied → (s.planeOn d.val).polRateMax < 2 ^ F.PtdPolProfA.cir.wid →
    (s.planeOn d.val).polRateMax < F.PtdPolProfA.cir.get v →
    completes (.policerProfileWrite w d k false v) s fun t =>
      t.fld (R.ptdPolProfA d.val k.val) F.PtdPolProfA.cir = (s.planeOn d.val).polRateMax
        ∧ t.fld (R.ptdPolProfB d.val k.val) F.PtdPolProfB.clamped = 1
        ∧ s.keepsRegs t [R.ptdPolProfA d.val k.val, R.ptdPolProfB d.val k.val] ∧ s.keeps t [.regs])
    ∧ (∀ (w : Writer) (d : PDie) (k : Fin 64) (v : W64) (s : State), s.judge w d.val = .applied →
      F.PtdPolProfA.cir.get v ≤ (s.planeOn d.val).polRateMax → F.PtdPolProfA.pir.get v ≤ (s.planeOn d.val).polRateMax →
      -64 ≤ signedOf (F.PtdPolProfA.overhead.get v) 9 →
      completes (.policerProfileWrite w d k false v) s fun t =>
        t.fld (R.ptdPolProfA d.val k.val) F.PtdPolProfA.cir = F.PtdPolProfA.cir.get v
          ∧ t.fld (R.ptdPolProfA d.val k.val) F.PtdPolProfA.pir = F.PtdPolProfA.pir.get v
          ∧ s.keepsRegs t [R.ptdPolProfA d.val k.val] ∧ s.keeps t [.regs])
    ∧ (∀ (w : Writer) (d : PDie) (k : Fin 64) (v : W64) (s : State), s.judge w d.val = .applied →
      completes (.policerProfileWrite w d k true v) s fun t =>
        t.fld (R.ptdPolProfB d.val k.val) F.PtdPolProfB.cbs = F.PtdPolProfB.cbs.get v
          ∧ t.fld (R.ptdPolProfB d.val k.val) F.PtdPolProfB.pbs = F.PtdPolProfB.pbs.get v
          ∧ s.keepsRegs t [R.ptdPolProfB d.val k.val] ∧ s.keeps t [.regs, .head])
    ∧ (∀ (w : Writer) (d : PDie) (i : Fin 2048) (v : W64) (s : State), s.judge w d.val = .applied → F.PtdPolCfg.en.get v = 0 →
      completes (.policerBindWrite w d i v) s fun t =>
        t.rd (R.ptdPolCfg d.val i.val) = v &&& ~~~ (0x3FFFFFF#64) ∧ t.pol (2048 * d.val + i.val) = ⟨true, 0, 0, 0⟩
          ∧ s.keepsRegs t [R.ptdPolCfg d.val i.val] ∧ s.keeps t [.regs, .head])
    ∧ (∀ (w : Writer) (d : PDie) (i : Fin 2048) (v : W64) (s : State), s.judge w d.val = .applied → F.PtdPolCfg.en.get v = 1 →
      F.PtdPolCfg.jobAny.get v = 0 →
      (s.job (F.PtdPolCfg.job.get v)).rec_.le 52 4 ≤ s.jobPolicers (F.PtdPolCfg.job.get v) (R.ptdPolCfg d.val i.val) →
      completes (.policerBindWrite w d i v) s fun t =>
        t.fld (R.ptdPolCfg d.val i.val) F.PtdPolCfg.en = 0 ∧ t.pol (2048 * d.val + i.val) = ⟨true, 0, 0, 0⟩)

/-- The egress side (R126, R127, R162, R163, R172): a TC7 control packet that is eligible starts at once and goes whole, its credits and its place in the replay
window taken; the next grain of a packet in progress follows, with its word and its CRC anew; a port that is not UP, or has nothing, sends nothing; TC7 that is
eligible goes in at a grain boundary of another packet, which stays in progress; a gate list goes on to its next entry. -/
def Obligations.PacketsLeave : Prop :=
  (∀ (p : Port) (x : Pkt) (s : State), s.portState p.val = 4 → s.isEthernet p.val = false → (s.port p.val).inProg = none →
    s.queue (qKey p.val 7) = [x] → (∀ c, c < 7 → s.presented p.val c = []) → x.tc = 7 → x.data = false → x.spillAt = none →
    s.aged x = false → x.creditCost ≤ nth (s.port p.val).credits 7 → (s.port p.val).unacked.length < (s.port p.val).window →
    completes (.egressSchedule p) s fun t =>
      (∃ h, t.outs = s.outs ++ [.header p.val false h x.payload (s.port p.val).txSeq false]) ∧ t.queue (qKey p.val 7) = []
        ∧ (t.port p.val).txSeq = ((s.port p.val).txSeq + 1) % 4096 ∧ (t.port p.val).inProg = none
        ∧ (t.port p.val).unacked = (s.port p.val).unacked ++ [((s.port p.val).txSeq, { x with began := true })])
    ∧ (∀ (p : Port) (i : InProgress) (g : Nat) (s : State), s.portState p.val = 4 → (s.port p.val).inProg = some i → i.pkt.data = true →
      i.sent < i.pkt.arrived → i.pkt.grains[i.sent]? = some g → i.sent + 1 ≠ i.pkt.grainCount →
      completes (.egressSchedule p) s fun t =>
        (t.port p.val).inProg = some { i with sent := i.sent + 1 }
          ∧ t.outs = s.outs ++ [.grain p.val (s.grain g).word (BitVec.ofNat 2048 ((s.grain g).linkData % 2 ^ (8 * (s.grain g).len)))
              (s.grain g).len (grainCrc (s.grain g).word (BitVec.ofNat 2048 ((s.grain g).linkData % 2 ^ (8 * (s.grain g).len)))
                (s.grain g).len) (s.port p.val).under.isSome] ∧ s.keeps t [.dies, .ports, .outs])
    ∧ (∀ (p : Port) (s : State), s.portState p.val ≠ 4 → exec (.egressSchedule p) s = .next s)
    ∧ (∀ (p : Port) (s : State), (s.port p.val).inProg = none → (∀ c, c < 8 → s.presented p.val c = []) →
      exec (.egressSchedule p) s = .next s)
    ∧ (∀ (p : Port) (i : InProgress) (x : Pkt) (s : State), s.portState p.val = 4 → s.isEthernet p.val = false →
      (s.port p.val).inProg = some i → i.pkt.tc ≠ 7 → s.queue (qKey p.val 7) = [x] → x.tc = 7 → x.data = false → x.spillAt = none →
      s.aged x = false → x.creditCost ≤ nth (s.port p.val).credits 7 → (s.port p.val).unacked.length < (s.port p.val).window →
      completes (.tc7Insertion p) s fun t =>
        (∃ h, t.outs = s.outs ++ [.header p.val false h x.payload (s.port p.val).txSeq true]) ∧ t.queue (qKey p.val 7) = []
          ∧ (t.port p.val).inProg = some { i with endTick := i.endTick + s.linkTime p.val x })
    ∧ (∀ (p : Port) (g : GateEntry) (s : State),
      ((s.planeOn (p.val / 32)).gateList (p.val / 32) (p.val % 32))[s.fld (R.ptdGateStat (p.val / 32) (p.val % 32)) F.PtdGateStat.entry + 1]? = some g →
      completes (.gateEntryAdvance p) s fun t =>
        t.fld (R.ptdGateStat (p.val / 32) (p.val % 32)) F.PtdGateStat.openBits = g.openSet % 2 ^ F.PtdGateStat.openBits.wid
          ∧ t.fld (R.ptdGateStat (p.val / 32) (p.val % 32)) F.PtdGateStat.entry
            = (s.fld (R.ptdGateStat (p.val / 32) (p.val % 32)) F.PtdGateStat.entry + 1) % 2 ^ F.PtdGateStat.entry.wid
          ∧ s.keepsRegs t [R.ptdGateStat (p.val / 32) (p.val % 32)] ∧ s.keeps t [.regs])

/-- The tailstock puts flows in order (R134): the first packet of a flow opens a slot that expects the next SEQ, and is released; the packet
that a slot has held longest, once it has waited TIMEOUT_US, moves the slot on, and before that nothing happens; an idle slot is freed.
That an Ethernet port is a final port is the model's reading (log 16). -/
def Obligations.FlowsInOrder : Prop :=
  (∀ (p : Port) (c : Fin 5) (x : Pkt) (rest : List Pkt) (s : State), s.finalPort p.val = true → s.portQueues p.val = true →
    s.queue (qKey p.val c.val) = x :: rest → x.tc = c.val → x.spillAt = none → s.aged x = false → (s.port p.val).slots = [] →
    completes (.reorderArrival p c) s fun t =>
      t.queue (qKey p.val c.val) = rest ∧ t.releasedQ (qKey p.val c.val) = s.releasedQ (qKey p.val c.val) ++ [x]
        ∧ ∃ r, (t.port p.val).slots = [r] ∧ r.job = x.job ∧ r.src = hdrSrc true x.hdr ∧ r.flow = hdrFlow x.hdr
          ∧ r.expected = (hdrSeq x.hdr + 1) % 2 ^ 24 ∧ r.held = [])
    ∧ (∀ (p : Port) (i : Nat) (r : ReorderSlot) (x : Pkt) (s : State), (s.port p.val).slots[i]? = some r → r.held = [x] →
      x.heldTick + s.reordTimeout (p.val / 32) ≤ s.dieNow (p.val / 32) →
      exec (.reorderTimeout p i) s
        = .next (((s.countReord p.val F.PtdPktCnt3.reordTimeout).jump p.val i (hdrSeq x.hdr)).showHeld (p.val / 32)))
    ∧ (∀ (p : Port) (i : Nat) (r : ReorderSlot) (x : Pkt) (s : State), (s.port p.val).slots[i]? = some r → r.held = [x] →
      x.heldTick + s.reordTimeout (p.val / 32) ≤ s.dieNow (p.val / 32) → r.expected < 2 ^ 24 → r.expected ≠ hdrSeq x.hdr →
      s.aged x = false →
      completes (.reorderTimeout p i) s fun t =>
        t.releasedQ (qKey p.val x.tc) = s.releasedQ (qKey p.val x.tc) ++ [x]
          ∧ (∃ z, (t.port p.val).slots[i]? = some z ∧ z.held = [] ∧ z.expected = (hdrSeq x.hdr + 1) % 2 ^ 24)
          ∧ t.fld (R.ptdPktCnt3 (p.val / 32) (p.val % 32)) F.PtdPktCnt3.reordTimeout
            = min (2 ^ F.PtdPktCnt3.reordTimeout.wid - 1) (s.fld (R.ptdPktCnt3 (p.val / 32) (p.val % 32)) F.PtdPktCnt3.reordTimeout + 1))
    ∧ (∀ (p : Port) (i : Nat) (r : ReorderSlot) (x : Pkt) (s : State), (s.port p.val).slots[i]? = some r → r.held = [x] →
      s.dieNow (p.val / 32) < x.heldTick + s.reordTimeout (p.val / 32) → exec (.reorderTimeout p i) s = .next s)
    ∧ (∀ (p : Port) (i : Nat) (r : ReorderSlot) (s : State), (s.port p.val).slots[i]? = some r → s.slotIdle (p.val / 32) r = true →
      completes (.reorderSlotFree p i) s fun t => (t.port p.val).slots = (s.port p.val).slots.eraseIdx i ∧ s.keeps t [.ports])


/-! ## Lathes and contexts -/

/-- Work on a lathe (R199, R202, R206 to R209, R214, R223, R230, R239): BUNDLE_EXECUTE issues the next ready thread, and with none, or on a lathe that is
not in service, changes nothing; a bundle of count 0 only moves the program counter on; a pipeline bundle waits while another context holds the
grant; an access that fails its window check faults with WINDOW; at a grain boundary a higher pending slot takes the grant; arrivals,
operands and accepted stores wake the threads that wait for them, and a load ends with its data; an allocation that was waited for goes to its
context; partials move to the home; a PACED result leaves for its parent at its release tick, not before. -/
def Obligations.LatheWork : Prop :=
  (∀ (k : Lathe) (r : Residue) (s : State), s.latheServes k.val = false ∨ s.nextThread k.val = none →
    exec (.bundleExecute k r) s = .next s)
    ∧ (∀ (k : Lathe) (r : Residue) (c : Nat) (s : State), s.latheServes k.val = true → s.nextThread k.val = some c →
      exec (.bundleExecute k r) s
        = .next (((if s.isStock c
            then (s.setLathe k.val (fun l => { l with lastIssue := s.threadKey k.val c + 1 })).issueStock c k.val r
            else (s.setLathe k.val (fun l => { l with lastIssue := s.threadKey k.val c + 1 })).issue c k.val r)).resumeReset k.val))
    ∧ (∀ (k : Lathe) (r : Residue) (c : Nat) (b : Bundle) (s : State), s.latheServes k.val = true → s.nextThread k.val = some c →
      s.isStock c = false → (s.lathe k.val).resetting = false → b = decodeBundle (s.ctx c).program (s.ctx c).regs.pc →
      (s.ctx c).regs.pc + b.len < recProgLen (s.ctx c).live → (s.ctx c).regs.repN.getD (b.count (s.ctx c).regs) = 0 →
      completes (.bundleExecute k r) s fun t =>
        (t.ctx c).regs.pc = (s.ctx c).regs.pc + b.len ∧ (t.ctx c).regs.wait = .ready ∧ (t.ctx c).regs.s = (s.ctx c).regs.s
          ∧ (t.ctx c).regs.v = (s.ctx c).regs.v ∧ (t.ctx c).regs.a = (s.ctx c).regs.a ∧ s.keeps t [.ctxs, .lathes])
    ∧ (∀ (k : Lathe) (r : Residue) (c h n : Nat) (b : Bundle) (s : State), s.latheServes k.val = true → s.nextThread k.val = some c →
      s.isStock c = false → (s.lathe k.val).holder = some h → h ≠ c → b = decodeBundle (s.ctx c).program (s.ctx c).regs.pc →
      (s.ctx c).regs.pc + b.len ≤ recProgLen (s.ctx c).live → (s.ctx c).regs.repN.getD (b.count (s.ctx c).regs) = n → n ≠ 0 →
      b.noReg (s.ctx c).live = none → s.badRing c b = false → b.pipe = true →
      completes (.bundleExecute k r) s fun t =>
        (t.ctx c).regs.wait = .grant ∧ (t.ctx c).regs.pc = (s.ctx c).regs.pc ∧ c ∈ (t.lathe k.val).pending
          ∧ (t.lathe k.val).holder = some h ∧ s.keeps t [.ctxs, .lathes])
    ∧ (∀ (k : Lathe) (r : Residue) (c n : Nat) (b : Bundle) (a : Access) (s : State), s.latheServes k.val = true →
      s.nextThread k.val = some c → s.isStock c = false → b = decodeBundle (s.ctx c).program (s.ctx c).regs.pc →
      (s.ctx c).regs.pc + b.len ≤ recProgLen (s.ctx c).live → (s.ctx c).regs.repN.getD (b.count (s.ctx c).regs) = n → n ≠ 0 →
      b.noReg (s.ctx c).live = none → s.badRing c b = false → b.pipe = false → b.m.access (s.ctx c).regs = some a →
      winPasses (recWin (s.ctx c).live a.win) a.off a.len a.wr = false →
      exec (.bundleExecute k r) s
        = .next ((((s.setLathe k.val (fun l => { l with lastIssue := s.threadKey k.val c + 1 })).setRegs c (fun x => { x with repN := some n })).fault
            c 2 ⟨5, a.wr, a.win, a.len, a.off⟩).resumeReset k.val))
    ∧ (∀ (k : Lathe) (r : Residue) (s : State), (s.lathe k.val).holder = none →
      exec (.grainBoundary ⟨k, r⟩) s = .next ((s.grantNext k.val).resumeReset k.val))
    ∧ (∀ (k : Lathe) (r : Residue) (c : Nat) (st : Stream) (ok : Bool) (s s1 : State), (s.lathe k.val).holder = some c →
      (s.ctx c).regs.wait ≠ .operand → (s.ctx c).regs.stream = some st → s.residue c k.val r = (ok, s1) →
      exec (.grainBoundary ⟨k, r⟩) s = .next ((if ok then s1.grainStep c k.val st else s1).resumeReset k.val))
    ∧ (∀ (k : Lathe) (r : Residue) (c d i b : Nat) (s : State), (s.lathe k.val).holder = some c → (s.lathe k.val).granted = s.tb.tick →
      (s.lathe k.val).resetting = false → (s.ctx c).stopping = 0 → (s.ctx c).regs.stream = none → s.nextUse c = .pipe →
      s.latheServes k.val = true → s.slotOf k.val c = some i → s.bestPending k.val = some (b, d) → i < b →
      completes (.grainBoundary ⟨k, r⟩) s fun t =>
        (t.lathe k.val).holder = some d ∧ c ∈ (t.lathe k.val).pending
          ∧ t.fld (R.ltWdogStat (k.val / 5) (k.val % 5)) F.LtWdogStat.revokes
            = min (2 ^ F.LtWdogStat.revokes.wid - 1) (s.fld (R.ltWdogStat (k.val / 5) (k.val % 5)) F.LtWdogStat.revokes + 1))
    ∧ (∀ (x : Ctx) (s : State), (s.ctx x.val).phys = none → exec (.arrivalNotice x) s = .next s)
    ∧ (∀ (x : Ctx) (k : Nat) (s : State), (s.ctx x.val).phys = some k →
      exec (.arrivalNotice x) s = .next ((s.noticed x.val k).resumeReset k))
    ∧ (∀ (x : Ctx) (k : Nat) (s : State), (s.ctx x.val).phys = some k → (s.lathe k).resetting = false → s.ctxState x.val = csRunning →
      (s.ctx x.val).regs.wait = .stream → (s.ctx x.val).regs.stream = none → (s.ctx x.val).coll.accepted ≠ [] →
      completes (.arrivalNotice x) s fun t => (t.ctx x.val).regs.wait = .ready ∧ s.keeps t [.ctxs])
    ∧ (∀ (x : Ctx) (k : Nat) (s : State), (s.ctx x.val).phys = some k → s.ctxState x.val = csRunning → (s.ctx x.val).regs.wait = .operand →
      exec (.windowOperandArrive x) s = .next ((s.operandsIn x.val k).resumeReset k))
    ∧ (∀ (x : Ctx) (k n len rep d w a : Nat) (i : Int) (o : Access) (b : Bundle) (s : State), (s.ctx x.val).phys = some k →
      s.ctxState x.val = csRunning → (s.ctx x.val).regs.wait = .operand → (s.ctx x.val).regs.stream = none →
      (s.ctx x.val).stopping = 0 → (s.lathe k).holder = none → (s.lathe k).resetting = false →
      b = ⟨len, false, rep, .nop, .nop, .nop, .nop, .lds d w a i, .nop, false⟩ →
      decodeBundle (s.ctx x.val).program (s.ctx x.val).regs.pc = b → b.m.access (s.ctx x.val).regs = some o →
      s.winReaches x.val w o.off 4 = true → s.winBurred x.val w o.off 4 = false → (s.ctx x.val).regs.repN = some n →
      n ≤ (s.ctx x.val).regs.rep + 1 → (s.ctx x.val).regs.pc + len < recProgLen (s.ctx x.val).live →
      completes (.windowOperandArrive x) s fun t =>
        (t.ctx x.val).regs.pc = (s.ctx x.val).regs.pc + len ∧ (t.ctx x.val).regs.wait = .ready
          ∧ (t.ctx x.val).regs.s = ((s.ctx x.val).regs.setS d (s.winRead x.val w o.off 4)).s ∧ (t.ctx x.val).regs.v = (s.ctx x.val).regs.v
          ∧ (t.ctx x.val).regs.a = (s.ctx x.val).regs.a ∧ s.keeps t [.ctxs])
    ∧ (∀ (x : Ctx) (s : State), (s.ctx x.val).regs.wait ≠ .operand → exec (.windowOperandArrive x) s = .next s)
    ∧ (∀ (x : Ctx) (s : State), (s.ctx x.val).regs.wait ≠ .fence →
      completes (.windowWriteAccepted x) s fun t =>
        (t.ctx x.val).regs = { (s.ctx x.val).regs with stores := (s.ctx x.val).regs.stores - 1 } ∧ s.keeps t [.ctxs])
    ∧ (∀ (x : Ctx) (n : Nat) (s : State), s.ctxState x.val = csRunning → (s.ctx x.val).regs.wait = .fence → (s.ctx x.val).regs.stores = 1 →
      (s.ctx x.val).regs.after = some ⟨n, false, 1, 0⟩ → (s.ctx x.val).stopping = 0 →
      (s.ctx x.val).coll.formed = [] → n < recProgLen (s.ctx x.val).live →
      completes (.windowWriteAccepted x) s fun t =>
        (t.ctx x.val).regs.pc = n ∧ (t.ctx x.val).regs.wait = .ready ∧ (t.ctx x.val).regs.stores = 0 ∧ s.keeps t [.ctxs])
    ∧ (∀ (k : Lathe) (s : State), (∀ w ∈ s.bench.waits, w.req ≠ latheReq k.val) → exec (.allocWaitGranted k) s = .next s)
    ∧ (∀ (k : Lathe) (w : AllocWait) (rest : List AllocWait) (c p : Nat) (s s1 : State), s.bench.waits = w :: rest → w.ctx = some c →
      w.req = latheReq k.val → w.epoch = s.epoch w.req → s.tryAlloc c k.val = (some p, s1) →
      exec (.allocWaitGranted k) s
        = .next ((s1.withBench (fun b => { b with got := b.got ++ [(c, p)], waits := b.waits.erase w })).allocGranted k.val c))
    ∧ (∀ (k : Lathe) (w : AllocWait) (rest : List AllocWait) (c p : Nat) (s s1 : State), s.bench.waits = w :: rest → w.ctx = some c →
      w.req = latheReq k.val → w.epoch = s.epoch w.req → s.tryAlloc c k.val = (some p, s1) → (s.ctx c).regs.wait = .alloc →
      (s.ctx c).regs.stream.isSome = true → (s.lathe k.val).holder = none → (s.lathe k.val).pending = [] → s.latheServes k.val = true →
      s.mayHold k.val c = true →
      completes (.allocWaitGranted k) s fun t =>
        (t.ctx c).regs = { (s.ctx c).regs with wait := .stream } ∧ t.bench.waits = rest ∧ (c, p) ∈ t.bench.got
          ∧ (t.lathe k.val).holder = some c)
    ∧ (∀ (h f : Ctx) (p : Partial) (rest : List Partial) (s : State), h ≠ f → s.hasColl h.val = true →
      (s.group h.val).contains f.val = true → (s.ctx f.val).coll.partials = p :: rest → (s.ctx h.val).phys = none →
      completes (.partialArrival h f) s fun t =>
        (t.ctx f.val).coll.partials = rest ∧ (t.ctx h.val).coll.partials = (s.ctx h.val).coll.partials ++ [p] ∧ s.keeps t [.ctxs])
    ∧ (∀ (h f : Ctx) (s : State), (s.ctx f.val).coll.partials = [] → exec (.partialArrival h f) s = .next s)
    ∧ (∀ (x : Ctx) (s : State), (s.ctx x.val).coll.formed = [] → exec (.pacedReleaseTick x) s = .next s)
    ∧ (∀ (x : Ctx) (f : Formed) (rest : List Formed) (s : State), (s.ctx x.val).coll.formed = f :: rest → s.tb.tick < f.release →
      exec (.pacedReleaseTick x) s = .next s)
    ∧ (∀ (x : Ctx) (f : Formed) (rest : List Formed) (s : State), (s.ctx x.val).coll.formed = f :: rest → f.release ≤ s.tb.tick →
      exec (.pacedReleaseTick x) s
        = .next (((((s.setColl x.val (fun q => { q with formed := rest })).emitResult x.val f.seg f.index f.last true f.ptr f.word f.len
          (max f.release f.stamp) f.from_).unref f.ptr).fenceDone x.val).maybeEnd x.val))
    ∧ (∀ (x : Ctx) (f : Formed) (rest : List Formed) (s : State), (s.ctx x.val).coll.formed = f :: rest → f.release ≤ s.tb.tick →
      s.hasColl x.val = true → recHome (s.ctx x.val).live = false → recTop (s.ctx x.val).live = false →
      dProgram (s.ctx x.val).coll.desc = 1 → dParentPort (s.ctx x.val).coll.desc = 0x3FF →
      dParentCtx (s.ctx x.val).coll.desc ≠ x.val → (s.ctx x.val).regs.wait ≠ .fence → (s.grain f.ptr).refs ≠ 0 →
      completes (.pacedReleaseTick x) s fun t =>
        (t.ctx x.val).coll.formed = rest ∧ (t.grain f.ptr).refs = (s.grain f.ptr).refs
          ∧ ((t.ctx (dParentCtx (s.ctx x.val).coll.desc)).coll.pend.map (fun n => (n.kind, n.segment, n.ptr, n.stamp)))
            = ((s.ctx (dParentCtx (s.ctx x.val).coll.desc)).coll.pend.map (fun n => (n.kind, n.segment, n.ptr, n.stamp)))
              ++ [(0x11, f.seg, some f.ptr, max f.release f.stamp)]
          ∧ s.keeps t [.ctxs, .bench, .dies])

/-- The watchdog, engine resets, spares and the slot plan (R205, R210, R217, R218, R220, R264, R387): the watchdog bites a holder that has held the grant for longer than its WDOG_US, faults it with WATCHDOG and frees the lathe, and a
drain that does not end in 10 µs raises a DRAIN record that asks for the engine reset; an engine reset waits for the holder's boundary, and after 2 µs
faults the holder with RESET and leaves the lathe fresh; a self-test that passes gives the lathe its ROLE back; TAKEOVER
is for an idle spare; LT_SLOT names a context for the next boundary where it may stand. -/
def Obligations.LatheControl : Prop :=
  (∀ (k : Lathe) (s : State), (s.lathe k.val).holder = none → exec (.watchdogBite k) s = .next s)
    ∧ (∀ (k : Lathe) (c : Nat) (s : State), (s.lathe k.val).holder = some c → s.tb.tick ≤ (s.lathe k.val).since + s.wdogTicks k.val c →
      exec (.watchdogBite k) s = .next s)
    ∧ (∀ (k : Lathe) (c : Nat) (s : State), (s.lathe k.val).holder = some c → (s.lathe k.val).since + s.wdogTicks k.val c < s.tb.tick →
      exec (.watchdogBite k) s
        = .next ((((((s.count (R.ltWdogStat (k.val / 5) (k.val % 5)) F.LtWdogStat.bites).setFld (R.ltWdogStat (k.val / 5) (k.val % 5))
          F.LtWdogStat.lastCtx c).setFld (R.ltWdogStat (k.val / 5) (k.val % 5)) F.LtWdogStat.lastStamp (s.dieNow (dLathe (k.val / 5)))).fault c 3
          FaultAt.none_).setLathe k.val (fun l => { l with bitten := some s.tb.tick })).resumeReset k.val))
    ∧ (∀ (k : Lathe) (c : Nat) (s : State), (s.lathe k.val).holder = some c → (s.lathe k.val).since + s.wdogTicks k.val c < s.tb.tick →
      s.ctxState c = csRunning → s.hasColl c = false → (s.lathe k.val).pending = [] → (s.lathe k.val).resetting = false →
      (s.ctx c).phys = some k.val →
      completes (.watchdogBite k) s fun t =>
        t.ctxState c = csFaulted ∧ recFault (t.ctx c).record = 3 ∧ (t.lathe k.val).holder = none
          ∧ (t.lathe k.val).bitten = some s.tb.tick
          ∧ t.fld (R.ltWdogStat (k.val / 5) (k.val % 5)) F.LtWdogStat.lastCtx = c % 2 ^ F.LtWdogStat.lastCtx.wid
          ∧ t.fld (R.ltWdogStat (k.val / 5) (k.val % 5)) F.LtWdogStat.bites
            = min (2 ^ F.LtWdogStat.bites.wid - 1) (s.fld (R.ltWdogStat (k.val / 5) (k.val % 5)) F.LtWdogStat.bites + 1))
    ∧ (∀ (k : Lathe) (n : Nat) (s : State), (s.lathe k.val).bitten = some n → n + 10000 ≤ s.tb.tick → s.errq (dLathe (k.val / 5)) = [] →
      completes (.pipelineDrainTimeout k) s fun t =>
        (t.lathe k.val).bitten = none
          ∧ t.errq (dLathe (k.val / 5)) = [{ plainRec 0x0D 2 2 (dLathe (k.val / 5)) (s.dieNow (dLathe (k.val / 5))) with
              unit := k.val % 5, part := ((s.planeOn (dLathe (k.val / 5))).partOfLathe (k.val / 5)).getD 0x1F }]
          ∧ t.err.escal.contains ⟨2, dLathe (k.val / 5), k.val % 5⟩ = true)
    ∧ (∀ (k : Lathe) (s : State), (∀ n, (s.lathe k.val).bitten = some n → s.tb.tick < n + 10000) →
      exec (.pipelineDrainTimeout k) s = .next s)
    ∧ (∀ (w : Writer) (k : Lathe) (s : State), s.judge w (dLathe (k.val / 5)) = .applied → s.role k.val ≠ 0xF →
      s.fld (ltStat k.val) F.LtStat.busy = 0 → exec (.engineReset (.fw w) k) s = .next (s.beginReset k.val))
    ∧ (∀ (w : Writer) (k : Lathe) (c : Nat) (s : State), s.judge w (dLathe (k.val / 5)) = .applied → s.role k.val ≠ 0xF →
      s.fld (ltStat k.val) F.LtStat.busy = 0 → (s.lathe k.val).holder = some c → (s.ctx c).stopping = 0 →
      completes (.engineReset (.fw w) k) s fun t =>
        t.role k.val = 4 ∧ t.fld (ltStat k.val) F.LtStat.busy = 1 ∧ (t.lathe k.val).resetting = true ∧ (t.ctx c).stopping = 3
          ∧ s.keepsRegs t [ltStat k.val] ∧ s.keeps t [.regs, .ctxs, .lathes])
    ∧ (∀ (w : Writer) (k : Lathe) (s : State), s.judge w (dLathe (k.val / 5)) = .applied →
      s.role k.val = 0xF ∨ s.fld (ltStat k.val) F.LtStat.busy = 1 →
      completes (.engineReset (.fw w) k) s fun t =>
        t.fld (ltStat k.val) F.LtStat.cmdRefused = 1 ∧ s.keepsRegs t [ltStat k.val] ∧ s.keeps t [.regs])
    ∧ (∀ (k : Lathe) (s : State),
      s.err.escal.any (fun e => e.step = 2 && e.die = dLathe (k.val / 5) && e.unit = k.val % 5) = true → s.role k.val ≠ 0xF →
      exec (.engineReset .part k) s = .next (s.beginReset k.val))
    ∧ (∀ (k : Lathe) (s : State), (s.lathe k.val).resetting = false ∨ s.tb.tick < (s.lathe k.val).resetAt + 2000 →
      exec (.engineResetBoundaryTimeout k) s = .next s)
    ∧ (∀ (k : Lathe) (c : Nat) (s : State), (s.lathe k.val).resetting = true → (s.lathe k.val).resetAt + 2000 ≤ s.tb.tick →
      (s.lathe k.val).holder = some c → s.residents k.val = [c] → s.ctxState c = csRunning → s.hasColl c = false → (s.ctx c).move = .none →
      completes (.engineResetBoundaryTimeout k) s fun t =>
        t.ctxState c = csFaulted ∧ recFault (t.ctx c).record = 4 ∧ (t.ctx c).phys = none
          ∧ t.lathe k.val = { LatheSt.fresh with selfTest := (s.lathe k.val).selfTest } ∧ t.fld (ltStat k.val) F.LtStat.busy = 1
          ∧ t.epoch (latheReq k.val) = (s.epoch (latheReq k.val) + 1) % 16 ∧ t.reqHeld (latheReq k.val) = 0)
    ∧ (∀ (k : Lathe) (c : Nat) (s : State), (s.lathe k.val).resetting = true → (s.lathe k.val).resetAt + 2000 ≤ s.tb.tick →
      (s.lathe k.val).holder = some c →
      exec (.engineResetBoundaryTimeout k) s
        = .next (((s.fault c 4 FaultAt.none_).setLathe k.val (fun l => { l with holder := none })).resetLathe k.val))
    ∧ (∀ (k : Lathe) (back : Nat) (s : State), (s.lathe k.val).selfTest = some back → (s.lathe k.val).resetting = false → back < 16 →
      s.partBusy (((s.planeOn (dLathe (k.val / 5))).partOfLathe (k.val / 5)).getD 0xFF) = false →
      completes (.selfTestComplete k true) s fun t =>
        t.role k.val = back ∧ t.fld (ltStat k.val) F.LtStat.busy = 0 ∧ (t.lathe k.val).selfTest = none)
    ∧ (∀ (k : Lathe) (back : Nat) (s : State), (s.lathe k.val).selfTest = some back → (s.lathe k.val).resetting = false →
      s.partBusy (((s.planeOn (dLathe (k.val / 5))).partOfLathe (k.val / 5)).getD 0xFF) = false →
      (∀ p, p < 5 → p ≠ k.val % 5 → s.role (5 * (k.val / 5) + p) ≠ 1) →
      completes (.selfTestComplete k false) s fun t => t.role k.val = 3 ∧ t.lathe k.val = LatheSt.fresh)
    ∧ (∀ (k : Lathe) (ok : Bool) (s : State), (s.lathe k.val).selfTest = none → exec (.selfTestComplete k ok) s = .next s)
    ∧ (∀ (w : Writer) (k : Lathe) (s : State), s.judge w (dLathe (k.val / 5)) = .applied → s.role k.val = 1 →
      s.fld (ltStat k.val) F.LtStat.busy = 0 → s.domState (domLathe k.val) = 2 →
      completes (.takeover w k) s fun t =>
        (t.lathe k.val).takeover = true ∧ t.fld (ltStat k.val) F.LtStat.busy = 1 ∧ t.role k.val = 1 ∧ s.keepsRegs t [ltStat k.val]
          ∧ s.keeps t [.regs, .lathes])
    ∧ (∀ (w : Writer) (k : Lathe) (s : State), s.judge w (dLathe (k.val / 5)) = .applied → s.role k.val ≠ 1 →
      completes (.takeover w k) s fun t =>
        t.fld (ltStat k.val) F.LtStat.cmdRefused = 1 ∧ s.keepsRegs t [ltStat k.val] ∧ s.keeps t [.regs])
    ∧ (∀ (w : Writer) (k : Lathe) (i : Fin 16) (v : W64) (s : State), s.judge w (dLathe (k.val / 5)) = .applied → s.role k.val ≠ 0xF →
      F.LtSlot.validNext.get v = 0 →
      completes (.ltSlotWrite w k i v) s fun t =>
        t.fld (ltSlot k.val i.val) F.LtSlot.validNext = 0 ∧ t.fld (ltSlot k.val i.val) F.LtSlot.ctxNext = F.LtSlot.ctxNext.get v
          ∧ t.fld (ltSlot k.val i.val) F.LtSlot.validNow = s.fld (ltSlot k.val i.val) F.LtSlot.validNow
          ∧ s.keepsRegs t [ltSlot k.val i.val] ∧ s.keeps t [.regs])
    ∧ (∀ (w : Writer) (k : Lathe) (i : Fin 16) (v : W64) (s : State), s.judge w (dLathe (k.val / 5)) = .applied → s.role k.val ≠ 0xF →
      F.LtSlot.validNext.get v = 1 → (s.ctx (F.LtSlot.ctxNext.get v)).phys = some k.val →
      s.slotAllowed i.val (F.LtSlot.ctxNext.get v) = true →
      (∀ j, j < 16 → j ≠ i.val → s.fld (ltSlot k.val j) F.LtSlot.validNext = 1 →
        s.fld (ltSlot k.val j) F.LtSlot.ctxNext ≠ F.LtSlot.ctxNext.get v) →
      completes (.ltSlotWrite w k i v) s fun t =>
        t.fld (ltSlot k.val i.val) F.LtSlot.validNext = 1 ∧ t.fld (ltSlot k.val i.val) F.LtSlot.ctxNext = F.LtSlot.ctxNext.get v
          ∧ s.keepsRegs t [ltSlot k.val i.val] ∧ s.keeps t [.regs])
    ∧ (∀ (w : Writer) (k : Lathe) (i : Fin 16) (v : W64) (s : State), s.judge w (dLathe (k.val / 5)) = .applied →
      F.LtSlot.validNext.get v = 1 → (s.ctx (F.LtSlot.ctxNext.get v)).phys ≠ some k.val →
      completes (.ltSlotWrite w k i v) s fun t =>
        t.fld (ltStat k.val) F.LtStat.cmdRefused = 1 ∧ s.keepsRegs t [ltStat k.val] ∧ s.keeps t [.regs])

/-- The six context commands on a context, with the CMD that names each and the states in which R246 accepts it. -/
def ctxCommands (w : Writer) (d : LDie) (c : Ctx) (slot : Fin 32) (phys : Fin 8) : List (Instr × Nat × List Nat) :=
  [(.create w d c, 1, [csFree]), (.start w d c slot phys, 2, [csIdle]), (.stop w d c, 3, [csParked, csRunning, csIdle, csSaved]),
   (.resume w d c, 4, [csStopped]), (.replay w d c, 5, [csDone, csStopped, csFaulted]),
   (.release w d c, 6, [csIdle, csDone, csFaulted, csStopped, csSaved])]

/-- LTD_CTX_STAT after a command: LAST_CTX, LAST_CMD and RESULT. -/
def ctxStat (s : State) (d c cmd result : Nat) : State :=
  ((s.setFld (R.ltdCtxStat d) F.LtdCtxStat.lastCtx c).setFld (R.ltdCtxStat d) F.LtdCtxStat.lastCmd cmd).setFld (R.ltdCtxStat d)
    F.LtdCtxStat.result result

/-- The command ends with a RESULT that refuses it: LTD_CTX_STAT says so, and nothing else changes. -/
abbrev ctxRefused (i : Instr) (d c cmd result : Nat) (s : State) : Prop :=
  completes i s fun t =>
    t.fld (R.ltdCtxStat d) F.LtdCtxStat.result = result ∧ t.fld (R.ltdCtxStat d) F.LtdCtxStat.cmdRefused = 1
      ∧ t.fld (R.ltdCtxStat d) F.LtdCtxStat.lastCtx = c ∧ t.fld (R.ltdCtxStat d) F.LtdCtxStat.lastCmd = cmd
      ∧ s.keepsRegs t [R.ltdCtxStat d] ∧ s.keeps t [.regs]

/-- The context commands (R246): in every state but those of the table a command is refused with RESULT 0x1, RESUME and REPLAY too of a context that is
not resident, REPLAY of one whose FAULT is STATE_LOST; one in MOVING refuses every command with RESULT 0x4. START checks the partition, the
lathe and the slot, in this order, with RESULT 0x6, 0x7 and 0x3. Accepted, with RESULT 0: CREATE makes the context IDLE, clears FAULT, PROG, NFLAGS, GRANT_TICKS
and CALL and sets LATHE to 0xFFFF and SLOT to 0xFF, its other bytes as they were; START begins the load (R247); STOP
stops it, at its next grain boundary if it holds the grant, after its bundle if it waits for an operand or in a FENCE (R253); RESUME runs it again,
or leaves it PARKED while its load or its boundary is outstanding (R253); REPLAY runs it from its entry with fresh registers (R254); RELEASE frees it (R255). -/
def Obligations.ContextCommands : Prop :=
  (∀ (w : Writer) (d : LDie) (c : Ctx) (slot : Fin 32) (phys : Fin 8) (i : Instr) (cmd : Nat) (states : List Nat) (s : State),
    (i, cmd, states) ∈ ctxCommands w d c slot phys → s.judge w (dLathe d.val) = .applied →
    s.fld (R.ltdCtxStat d.val) F.LtdCtxStat.busy = 0 → s.ctxState c.val ≠ csMoving →
    s.ctxState c.val ∉ states → ctxRefused i d.val c.val cmd 1 s)
    ∧ (∀ (w : Writer) (d : LDie) (c : Ctx) (slot : Fin 32) (phys : Fin 8) (i : Instr) (cmd : Nat) (states : List Nat) (s : State),
      (i, cmd, states) ∈ ctxCommands w d c slot phys → s.judge w (dLathe d.val) = .applied →
      s.fld (R.ltdCtxStat d.val) F.LtdCtxStat.busy = 1 ∨ s.ctxState c.val = csMoving → ctxRefused i d.val c.val cmd 4 s)
    ∧ (∀ (w : Writer) (d : LDie) (c : Ctx) (s : State), s.judge w (dLathe d.val) = .applied →
      s.fld (R.ltdCtxStat d.val) F.LtdCtxStat.busy = 0 → s.ctxState c.val ≠ csMoving →
      (s.ctx c.val).phys = none → ctxRefused (.resume w d c) d.val c.val 4 1 s ∧ ctxRefused (.replay w d c) d.val c.val 5 1 s)
    ∧ (∀ (w : Writer) (d : LDie) (c : Ctx) (s : State), s.judge w (dLathe d.val) = .applied →
      s.fld (R.ltdCtxStat d.val) F.LtdCtxStat.busy = 0 → s.ctxState c.val = csFaulted →
      recFault (s.ctx c.val).record = 4 → ctxRefused (.replay w d c) d.val c.val 5 1 s)
    ∧ (∀ (w : Writer) (d : LDie) (c : Ctx) (slot : Fin 32) (phys : Fin 8) (s : State), s.judge w (dLathe d.val) = .applied →
      s.fld (R.ltdCtxStat d.val) F.LtdCtxStat.busy = 0 → s.ctxState c.val = csIdle → phys.val < 5 →
      slot.val < 16 ∨ slot.val = 0x1F →
      (s.dieOfCtx d.val c.val = false → ctxRefused (.start w d c slot phys) d.val c.val 2 6 s)
        ∧ (s.dieOfCtx d.val c.val = true → s.latheServes (5 * d.val + phys.val) = false →
          ctxRefused (.start w d c slot phys) d.val c.val 2 7 s)
        ∧ (s.dieOfCtx d.val c.val = true → s.latheServes (5 * d.val + phys.val) = true → slot.val ≠ 0x1F →
          s.slotTaken (5 * d.val + phys.val) slot.val c.val = true ∨ s.slotAllowed slot.val c.val = false →
          ctxRefused (.start w d c slot phys) d.val c.val 2 3 s)
        ∧ (s.dieOfCtx d.val c.val = true → s.latheServes (5 * d.val + phys.val) = true →
          slot.val = 0x1F ∨ (s.slotTaken (5 * d.val + phys.val) slot.val c.val = false ∧ s.slotAllowed slot.val c.val = true) →
          s.fitsLathe (5 * d.val + phys.val) (s.ctx c.val).record = true →
          ((ctxStat s d.val c.val 2 0).latch (5 * d.val + phys.val) c.val).1 = true →
          completes (.start w d c slot phys) s fun t =>
            t = (((ctxStat s d.val c.val 2 0).latch (5 * d.val + phys.val) c.val).2).beginLoad d.val (5 * d.val + phys.val) c.val slot.val
              ∧ t.ctxState c.val = csParked ∧ (t.ctx c.val).phys = some (5 * d.val + phys.val) ∧ (t.ctx c.val).move = .load slot.val
              ∧ t.fld (R.ltdCtxStat d.val) F.LtdCtxStat.busy = 1))
    ∧ (∀ (w : Writer) (d : LDie) (c : Ctx) (s : State), s.judge w (dLathe d.val) = .applied →
      s.fld (R.ltdCtxStat d.val) F.LtdCtxStat.busy = 0 → s.ctxState c.val = csFree →
      s.dieOfCtx d.val c.val = true →
      s.jobContexts (recJob (s.ctx c.val).record) < s.qContexts (recJob (s.ctx c.val).record) →
      s.err.retiredCtxs.contains c.val = false →
      completes (.create w d c) s fun t =>
        t.ctxState c.val = csIdle ∧ recFault (t.ctx c.val).record = 0 ∧ recF (t.ctx c.val).record 484 2 = 0xFFFF
          ∧ recF (t.ctx c.val).record 486 1 = 0xFF ∧ recF (t.ctx c.val).record 472 8 = 0 ∧ recF (t.ctx c.val).record 480 4 = 0
          ∧ recF (t.ctx c.val).record 488 8 = 0 ∧ recCall (t.ctx c.val).record = 0
          ∧ (∀ b, b < 512 → b ≠ 2 → (b < 472 ∨ 496 ≤ b) → (b < 504 ∨ 508 ≤ b) →
            recF (t.ctx c.val).record b 1 = recF (s.ctx c.val).record b 1)
          ∧ t.fld (R.ltdCtxStat d.val) F.LtdCtxStat.result = 0 ∧ s.keepsRegs t [R.ltdCtxStat d.val] ∧ s.keeps t [.regs, .ctxs])
    ∧ (∀ (w : Writer) (d : LDie) (c : Ctx) (s : State), s.judge w (dLathe d.val) = .applied →
      s.fld (R.ltdCtxStat d.val) F.LtdCtxStat.busy = 0 →
      s.ctxState c.val = csParked ∨ s.ctxState c.val = csRunning ∨ s.ctxState c.val = csIdle ∨ s.ctxState c.val = csSaved →
      s.dieOfCtx d.val c.val = true → (s.ctx c.val).stopping ≠ 2 →
      ((s.ctx c.val).phys = none ∨ ((s.ctx c.val).regs.wait ≠ .operand ∧ (s.ctx c.val).regs.wait ≠ .fence) →
        (∀ k, (s.ctx c.val).phys = some k → (s.lathe k).holder ≠ some c.val) →
        completes (.stop w d c) s fun t =>
          t.ctxState c.val = csStopped ∧ (t.ctx c.val).stopping = 0 ∧ t.fld (R.ltdCtxStat d.val) F.LtdCtxStat.result = 0)
        ∧ (∀ k, (s.ctx c.val).phys = some k →
          (s.lathe k).holder = some c.val ∨ (s.ctx c.val).regs.wait = .operand ∨ (s.ctx c.val).regs.wait = .fence →
          completes (.stop w d c) s fun t =>
            t.ctxState c.val = s.ctxState c.val ∧ (t.ctx c.val).stopping = 1 ∧ (t.lathe k).holder = (s.lathe k).holder
              ∧ t.fld (R.ltdCtxStat d.val) F.LtdCtxStat.result = 0))
    ∧ (∀ (w : Writer) (d : LDie) (c : Ctx) (k : Nat) (s : State), s.judge w (dLathe d.val) = .applied →
      s.fld (R.ltdCtxStat d.val) F.LtdCtxStat.busy = 0 → s.ctxState c.val = csStopped →
      (s.ctx c.val).phys = some k → s.dieOfCtx d.val c.val = true →
      ((s.ctx c.val).move.loading = false → (s.ctx c.val).startPend = false → (s.ctx c.val).regs.wait ≠ .fence →
        completes (.resume w d c) s fun t =>
          t.ctxState c.val = csRunning ∧ t.fld (R.ltdCtxStat d.val) F.LtdCtxStat.result = 0 ∧ s.keepsRegs t [R.ltdCtxStat d.val]
            ∧ s.keeps t [.regs, .ctxs, .lathes])
        ∧ ((s.ctx c.val).move.loading = true ∨ (s.ctx c.val).startPend = true →
          completes (.resume w d c) s fun t =>
            t.ctxState c.val = csParked ∧ t.fld (R.ltdCtxStat d.val) F.LtdCtxStat.result = 0 ∧ s.keepsRegs t [R.ltdCtxStat d.val]
              ∧ s.keeps t [.regs, .ctxs]))
    ∧ (∀ (w : Writer) (d : LDie) (c : Ctx) (s : State), s.judge w (dLathe d.val) = .applied →
      s.fld (R.ltdCtxStat d.val) F.LtdCtxStat.busy = 0 →
      s.ctxState c.val = csDone ∨ s.ctxState c.val = csStopped ∨ (s.ctxState c.val = csFaulted ∧ recFault (s.ctx c.val).record ≠ 4) →
      (s.ctx c.val).phys.isSome = true → s.dieOfCtx d.val c.val = true →
      exec (.replay w d c) s = .next (((ctxStat s d.val c.val 5 0).dropAllocs c.val).replay c.val))
    ∧ (∀ (w : Writer) (d : LDie) (c : Ctx) (s : State), s.judge w (dLathe d.val) = .applied →
      s.fld (R.ltdCtxStat d.val) F.LtdCtxStat.busy = 0 →
      s.ctxState c.val = csDone ∨ s.ctxState c.val = csStopped ∨ (s.ctxState c.val = csFaulted ∧ recFault (s.ctx c.val).record ≠ 4) →
      (s.ctx c.val).phys.isSome = true → s.dieOfCtx d.val c.val = true → recordOk (s.ctx c.val).record = true →
      s.windowsAllowed (s.ctx c.val).record = true → replayKey (s.ctx c.val).record = replayKey (s.ctx c.val).live →
      s.hasColl c.val = false → (s.ctx c.val).move.loading = false → recMode (mergeWindows (s.ctx c.val).record (s.ctx c.val).live) ≠ 2 →
      completes (.replay w d c) s fun t =>
        t.ctxState c.val = csRunning ∧ recFault (t.ctx c.val).record = 0 ∧ (t.ctx c.val).startPend = false
          ∧ (t.ctx c.val).regs = freshRegs (mergeWindows (s.ctx c.val).record (s.ctx c.val).live)
          ∧ (t.ctx c.val).mem = (s.ctx c.val).mem ∧ t.fld (R.ltdCtxStat d.val) F.LtdCtxStat.result = 0)
    ∧ (∀ (w : Writer) (d : LDie) (c : Ctx) (s : State), s.judge w (dLathe d.val) = .applied →
      s.fld (R.ltdCtxStat d.val) F.LtdCtxStat.busy = 0 →
      s.ctxState c.val ∈ [csIdle, csDone, csFaulted, csStopped, csSaved] → s.dieOfCtx d.val c.val = true →
      completes (.release w d c) s fun t =>
        t = (ctxStat s d.val c.val 6 0).freeCtx c.val ∧ t.ctxState c.val = csFree ∧ (t.ctx c.val).phys = none
          ∧ (t.ctx c.val).mem = [] ∧ (t.ctx c.val).regs = Regs.zero ∧ (t.ctx c.val).coll = Coll.empty
          ∧ recF (t.ctx c.val).record 484 2 = 0xFFFF ∧ recF (t.ctx c.val).record 486 1 = 0xFF)

/-- Contexts move (R219, R247, R249, R250): EVICT and MIGRATE take a context that is PARKED or RUNNING on the lathe to MOVING, at once unless it holds the
grant; RESIDE begins the reload of a SAVED one; a save ends in SAVED, or in the reload on the other lathe; a reload whose program matches PROG_DIGEST plans its slot for the
next boundary; a START's load ends in RUNNING with fresh registers, or waiting for its boundary when PACED; a load that reads burred or does not match faults with LOAD or DIGEST and leaves the
context non-resident. -/
def Obligations.ContextsMove : Prop :=
  (∀ (w : Writer) (k : Lathe) (c : Ctx) (s : State), s.judge w (dLathe (k.val / 5)) = .applied → s.role k.val ≠ 0xF →
    s.fld (ltStat k.val) F.LtStat.busy = 0 → s.canEvict k.val c.val = true →
    ((s.lathe k.val).holder ≠ some c.val → completes (.evict w k c) s fun t =>
      t.ctxState c.val = csMoving ∧ (t.ctx c.val).move = .evict
        ∧ ((s.ctx c.val).stopping = 0 → (s.ctx c.val).move = .none → (t.ctx c.val).prev = s.ctxState c.val)
        ∧ ((s.ctx c.val).stopping = 1 → (t.ctx c.val).prev = csStopped)
        ∧ (t.ctx c.val).phys = some k.val ∧ t.fld (ltStat k.val) F.LtStat.busy = 1)
      ∧ ((s.lathe k.val).holder = some c.val → completes (.evict w k c) s fun t =>
        t.ctxState c.val = s.ctxState c.val ∧ (t.ctx c.val).stopping = 2 ∧ (t.ctx c.val).move = .evict
          ∧ (t.lathe k.val).holder = some c.val ∧ t.fld (ltStat k.val) F.LtStat.busy = 1))
    ∧ (∀ (w : Writer) (k : Lathe) (c : Ctx) (s : State), s.judge w (dLathe (k.val / 5)) = .applied → s.canEvict k.val c.val = false →
      completes (.evict w k c) s fun t =>
        t.fld (ltStat k.val) F.LtStat.cmdRefused = 1 ∧ s.keepsRegs t [ltStat k.val] ∧ s.keeps t [.regs])
    ∧ (∀ (w : Writer) (k : Lathe) (c : Ctx) (i : Fin 16) (n : Fin 256) (x : Nat) (s : State),
      s.judge w (dLathe (k.val / 5)) = .applied → s.role k.val ≠ 0xF → s.fld (ltStat k.val) F.LtStat.busy = 0 →
      s.latheOf n.val = some x → s.canEvict k.val c.val = true → s.latheOfCtx x c.val = true → s.slotAllowed i.val c.val = true → s.slotTaken x i.val c.val = false →
      (s.lathe k.val).holder ≠ some c.val → (s.ctx c.val).stopping = 0 → (s.ctx c.val).move = .none →
      completes (.migrate w k c i n) s fun t =>
        t.ctxState c.val = csMoving ∧ (t.ctx c.val).move = .migrate x i.val ∧ (t.ctx c.val).prev = s.ctxState c.val
          ∧ t.fld (ltStat k.val) F.LtStat.busy = 1)
    ∧ (∀ (w : Writer) (k : Lathe) (c : Ctx) (i : Fin 16) (n : Fin 256) (s : State), s.judge w (dLathe (k.val / 5)) = .applied →
      s.latheOf n.val = none →
      completes (.migrate w k c i n) s fun t =>
        t.fld (ltStat k.val) F.LtStat.cmdRefused = 1 ∧ s.keepsRegs t [ltStat k.val] ∧ s.keeps t [.regs])
    ∧ (∀ (w : Writer) (k : Lathe) (c : Ctx) (i : Fin 16) (s : State), s.judge w (dLathe (k.val / 5)) = .applied → s.role k.val ≠ 0xF →
      s.fld (ltStat k.val) F.LtStat.busy = 0 → s.ctxState c.val = csSaved → (s.ctx c.val).move = .none → s.latheServes k.val = true →
      s.latheOfCtx k.val c.val = true → s.fitsLathe k.val (s.ctx c.val).live = true → s.slotAllowed i.val c.val = true → s.slotTaken k.val i.val c.val = false →
      completes (.reside w k c i) s fun t =>
        t.ctxState c.val = csMoving ∧ (t.ctx c.val).phys = some k.val ∧ (t.ctx c.val).move = .restore k.val i.val
          ∧ t.fld (ltStat k.val) F.LtStat.busy = 1 ∧ s.keepsRegs t [ltStat k.val, R.ltFaultStat (k.val / 5) (k.val % 5)]
          ∧ s.keeps t [.regs, .ctxs])
    ∧ (∀ (c : Ctx) (s : State), s.ctxState c.val ≠ csMoving → exec (.contextSaveComplete c) s = .next s)
    ∧ (∀ (c : Ctx) (s : State), s.ctxState c.val = csMoving → (s.ctx c.val).move = .evict →
      completes (.contextSaveComplete c) s fun t =>
        t.ctxState c.val = csSaved ∧ (t.ctx c.val).phys = none ∧ (t.ctx c.val).move = .none
          ∧ recF (t.ctx c.val).record 484 2 = 0xFFFF ∧ (t.ctx c.val).regs = (s.ctx c.val).regs
          ∧ (∀ b, (s.ctx c.val).moveTo = some b → t.fld (ltStat b) F.LtStat.busy = 0)
          ∧ s.keeps t [.regs, .ctxs, .near, .nearBurr, .freeCtr])
    ∧ (∀ (c : Ctx) (x i : Nat) (s : State), s.ctxState c.val = csMoving → (s.ctx c.val).move = .migrate x i → s.latheServes x = true →
      (((s.saveArea c.val).unseat c.val).setCtxState c.val csSaved).fitsLathe x (s.ctx c.val).live = true →
      completes (.contextSaveComplete c) s fun t =>
        t.ctxState c.val = csMoving ∧ (t.ctx c.val).phys = some x ∧ (t.ctx c.val).move = .restore x i
          ∧ s.keeps t [.regs, .ctxs, .near, .nearBurr, .freeCtr])
    ∧ (∀ (c : Ctx) (k i : Nat) (s : State), (s.ctx c.val).move = .restore k i → i < 16 →
      s.tierBurred 0 (recProgBase (s.ctx c.val).live) (recProgLen (s.ctx c.val).live) = false →
      sha256 (s.nearRead (recProgBase (s.ctx c.val).live) (recProgLen (s.ctx c.val).live)).bytes = recDigest (s.ctx c.val).live →
      s.slotTaken k i c.val = false →
      completes (.contextRestoreComplete c) s fun t =>
        (t.ctx c.val).move = .placed i ∧ t.fld (ltSlot k i) F.LtSlot.validNext = 1 ∧ t.fld (ltSlot k i) F.LtSlot.ctxNext = c.val
          ∧ (t.ctx c.val).program = s.nearRead (recProgBase (s.ctx c.val).live) (recProgLen (s.ctx c.val).live)
          ∧ s.keepsRegs t [ltSlot k i] ∧ s.keeps t [.regs, .ctxs, .freeCtr])
    ∧ (∀ (c : Ctx) (k i : Nat) (s : State), (s.ctx c.val).move = .restore k i →
      s.tierBurred 0 (recProgBase (s.ctx c.val).live) (recProgLen (s.ctx c.val).live) = false →
      sha256 (s.nearRead (recProgBase (s.ctx c.val).live) (recProgLen (s.ctx c.val).live)).bytes ≠ recDigest (s.ctx c.val).live →
      exec (.contextRestoreComplete c) s = .next (((s.loadFail k).fault c.val 5 FaultAt.none_).unseat c.val))
    ∧ (∀ (c : Ctx) (k i : Nat) (s : State), (s.ctx c.val).move = .restore k i →
      s.tierBurred 0 (recProgBase (s.ctx c.val).live) (recProgLen (s.ctx c.val).live) = true →
      exec (.contextRestoreComplete c) s = .next (((s.loadFail k).fault c.val 6 FaultAt.none_).unseat c.val))
    ∧ (∀ (c : Ctx) (k i : Nat) (s : State), (s.ctx c.val).move = .load i → (s.ctx c.val).phys = some k → (s.ctx c.val).home < 24 →
      s.ctxState c.val = csParked → recMode (s.ctx c.val).live ≠ 2 →
      s.tierBurred 0 (recProgBase (s.ctx c.val).live) (recProgLen (s.ctx c.val).live) = false →
      sha256 (s.nearRead (recProgBase (s.ctx c.val).live) (recProgLen (s.ctx c.val).live)).bytes = recDigest (s.ctx c.val).live →
      completes (.programLoadComplete c) s fun t =>
        t.ctxState c.val = csRunning ∧ (t.ctx c.val).regs = freshRegs (s.ctx c.val).live ∧ (t.ctx c.val).move = .none
          ∧ (t.ctx c.val).program = s.nearRead (recProgBase (s.ctx c.val).live) (recProgLen (s.ctx c.val).live)
          ∧ t.fld (R.ltdCtxStat (s.ctx c.val).home) F.LtdCtxStat.busy = 0
          ∧ t.fld (R.ltdCtxStat (s.ctx c.val).home) F.LtdCtxStat.starts
            = min (2 ^ F.LtdCtxStat.starts.wid - 1) (s.fld (R.ltdCtxStat (s.ctx c.val).home) F.LtdCtxStat.starts + 1)
          ∧ s.keepsRegs t [R.ltdCtxStat (s.ctx c.val).home] ∧ s.keeps t [.regs, .ctxs])
    ∧ (∀ (c : Ctx) (k i : Nat) (s : State), (s.ctx c.val).move = .load i → (s.ctx c.val).phys = some k →
      s.ctxState c.val = csParked → recMode (s.ctx c.val).live = 2 →
      s.tierBurred 0 (recProgBase (s.ctx c.val).live) (recProgLen (s.ctx c.val).live) = false →
      sha256 (s.nearRead (recProgBase (s.ctx c.val).live) (recProgLen (s.ctx c.val).live)).bytes = recDigest (s.ctx c.val).live →
      completes (.programLoadComplete c) s fun t =>
        t.ctxState c.val = csParked ∧ (t.ctx c.val).startPend = true ∧ (t.ctx c.val).move = .none)
    ∧ (∀ (c : Ctx) (k i : Nat) (s : State), (s.ctx c.val).move = .load i → (s.ctx c.val).phys = some k →
      s.tierBurred 0 (recProgBase (s.ctx c.val).live) (recProgLen (s.ctx c.val).live) = false →
      sha256 (s.nearRead (recProgBase (s.ctx c.val).live) (recProgLen (s.ctx c.val).live)).bytes ≠ recDigest (s.ctx c.val).live →
      exec (.programLoadComplete c) s
        = .next ((((s.ltdIdle (s.ctx c.val).home).loadFail k).fault c.val 5 FaultAt.none_).unseat c.val))

/-! ## Collectives and jobs -/

/-- A context is the home of a collective of its own, in a state in which its open call can end: one that stands still, or one whose record,
as it is now, may run again (R254, R273). -/
abbrev callOf (s : State) (c : Nat) : Prop :=
  s.hasColl c = true ∧ recHome (s.ctx c).live = true ∧ s.group c = [] ∧ (s.ctx c).home < 24
    ∧ (s.ctxState c = csStopped ∨ ((s.ctxState c = csRunning ∨ s.ctxState c = csParked ∨ s.ctxState c = csDone)
      ∧ recordOk (s.ctx c).record = true ∧ s.windowsAllowed (s.ctx c).record = true
      ∧ replayKey (s.ctx c).record = replayKey (s.ctx c).live))

/-- The open call of a context has ended: the next call is open, and nothing of the old one is kept. -/
abbrev callEnded (s t : State) (c : Nat) : Prop :=
  recCall (t.ctx c).record = (recCall (s.ctx c).record + 1) % 2 ^ 32 ∧ (t.ctx c).coll.accepted = [] ∧ (t.ctx c).coll.firstAcc = none
    ∧ (t.ctx c).coll.formed = []

/-- Calls and what ends them (R273, R276, R277, R283 to R286): the oldest arrival is tracked, or goes to the program of a context with no collective; an ARRIVE or VOTE of a
context with no collective changes nothing, one that the context does not handle now, or that comes before its START, waits, one that it handles is tracked; a QUERY of a rank that is no member, or of a call that no record answers, is counted as
REFUSED, one that is answered goes back as an event; the parent's notice, a child's abort and a timeout end the open call with the
status the rules give and open the next; a NARROW notice for a call ahead is kept for it.
That DESC_BASE 0 means no collective is the model's choice (log 7). -/
def Obligations.Calls : Prop :=
  (∀ (x : Ctx) (s : State), (s.ctx x.val).coll.pend = [] → exec (.collectiveArrival x) s = .next s)
    ∧ (∀ (x : Ctx) (n : Notice) (rest : List Notice) (s : State), (s.ctx x.val).coll.pend = n :: rest → s.handles x.val = true → n.spillAt = none →
      exec (.collectiveArrival x) s = .next ((s.setColl x.val (fun q => { q with pend := rest })).arrive x.val n))
    ∧ (∀ (x : Ctx) (n : Notice) (rest : List Notice) (s : State), (s.ctx x.val).coll.pend = n :: rest → n.spillAt = none →
      s.ctxState x.val = csRunning ∨ s.ctxState x.val = csParked → s.hasColl x.val = false →
      completes (.collectiveArrival x) s fun t =>
        (t.ctx x.val).coll = { (s.ctx x.val).coll with pend := rest, accepted := (s.ctx x.val).coll.accepted ++ [{ n with who := n.src }] }
          ∧ s.keeps t [.ctxs])
    ∧ (∀ (x : Ctx) (s : State), s.handles x.val = false ∨ (∀ n ∈ (s.ctx x.val).coll.pend, n.spillAt.isSome = true) →
      exec (.collectiveArrival x) s = .next s)
    ∧ (∀ (x : Ctx) (rank call : Nat) (g : BitVec 256) (s : State), s.hasColl x.val = false →
      (s.ctxState x.val ≠ csIdle → exec (.arrive x rank call) s = .next s ∧ exec (.vote x rank call g) s = .next s)
        ∧ exec (.query x rank call) s = .next s)
    ∧ (∀ (x : Ctx) (rank call : Nat) (g : BitVec 256) (s : State), s.hasColl x.val = true ∨ s.ctxState x.val = csIdle →
      s.ctxState x.val ≠ csFree → s.handles x.val = false →
      (completes (.arrive x rank call) s fun t =>
          (t.ctx x.val).coll = { (s.ctx x.val).coll with pend := (s.ctx x.val).coll.pend ++ [postNotice 2 rank call 0] } ∧ s.keeps t [.ctxs])
        ∧ completes (.vote x rank call g) s fun t =>
          (t.ctx x.val).coll = { (s.ctx x.val).coll with pend := (s.ctx x.val).coll.pend ++ [postNotice 3 rank call g.toNat] }
            ∧ s.keeps t [.ctxs])
    ∧ (∀ (x : Ctx) (rank call : Nat) (g : BitVec 256) (s : State), s.hasColl x.val = true → s.handles x.val = true →
      exec (.arrive x rank call) s = .next (s.arrive x.val (postNotice 2 rank call 0))
        ∧ exec (.vote x rank call g) s = .next (s.arrive x.val (postNotice 3 rank call g.toNat)))
    ∧ (∀ (x : Ctx) (rank call : Nat) (s : State), s.hasColl x.val = true →
      (∀ i, i < dMembers (s.ctx x.val).coll.desc → eId (dEntry (s.ctx x.val).coll.desc i) ≠ rank) →
      completes (.query x rank call) s fun t =>
        t.fld (R.ltdCollStat (s.ctx x.val).home) F.LtdCollStat.refused
          = min (2 ^ F.LtdCollStat.refused.wid - 1) (s.fld (R.ltdCollStat (s.ctx x.val).home) F.LtdCollStat.refused + 1)
          ∧ s.keepsRegs t [R.ltdCollStat (s.ctx x.val).home] ∧ s.keeps t [.regs])
    ∧ (∀ (x : Ctx) (rank call i p : Nat) (dst : Dest) (s : State), s.hasColl x.val = true →
      (List.range (dMembers (s.ctx x.val).coll.desc)).find? (fun i => eId (dEntry (s.ctx x.val).coll.desc i) = rank) = some i →
      s.queryReply x.val call = some p → s.destOf x.val i = some dst →
      exec (.query x rank call) s = .next (s.sendEvent x.val dst p))
    ∧ (∀ (x : Ctx) (rank call i p e no cx : Nat) (s : State), s.hasColl x.val = true →
      (List.range (dMembers (s.ctx x.val).coll.desc)).find? (fun i => eId (dEntry (s.ctx x.val).coll.desc i) = rank) = some i →
      s.queryReply x.val call = some p → s.destOf x.val i = some (.child e no 0x3FF cx) →
      completes (.query x rank call) s fun t => t.outs = s.outs ++ [.localEvent cx true p] ∧ s.keeps t [.outs])
    ∧ (∀ (x : Ctx) (call st nf rk nk : Nat) (s : State), call % 2 ^ 32 ≠ recCall (s.ctx x.val).record →
      exec (.parentCompleteNotice x call st nf rk nk) s = .next s ∧ exec (.childAbortNotice x call st) s = .next s)
    ∧ (∀ (x : Ctx) (call st nf : Nat) (s : State), s.hasColl x.val = true → recTop (s.ctx x.val).live = false → s.ctxState x.val ≠ csFree →
      s.ctxState x.val ≠ csIdle → s.ctxState x.val ≠ csFaulted → call % 2 ^ 32 = recCall (s.ctx x.val).record → st ≠ 0 →
      exec (.parentCompleteNotice x call st nf 0x80 0x80) s
        = .next ((s.setColl x.val (fun q => { q with parent := some (st, nf % 2 ^ 32, 0x80), resultK := none })).endAndReopen
            (s.homeOf x.val) (st % 4) (nf % 2 ^ 32)))
    ∧ (∀ (x : Ctx) (call nf : Nat) (s : State), s.hasColl x.val = true → recTop (s.ctx x.val).live = false → s.ctxState x.val ≠ csFree →
      s.ctxState x.val ≠ csIdle → s.ctxState x.val ≠ csFaulted → call % 2 ^ 32 = recCall (s.ctx x.val).record →
      recHome (s.ctx x.val).live = false →
      completes (.parentCompleteNotice x call 0 nf 0x80 0x80) s fun t =>
        (t.ctx x.val).coll = { (s.ctx x.val).coll with parent := some (0, nf % 2 ^ 32, 0x80), resultK := none } ∧ s.keeps t [.ctxs])
    ∧ (∀ (x : Ctx) (call st : Nat) (s : State), s.hasColl x.val = true → s.ctxState x.val ≠ csFree → s.ctxState x.val ≠ csIdle →
      s.ctxState x.val ≠ csFaulted → call % 2 ^ 32 = recCall (s.ctx x.val).record → st % 4 ≠ 0 →
      exec (.childAbortNotice x call st) s = .next (s.endAndReopen (s.homeOf x.val) (st % 4) 0))
    ∧ (∀ (x : Ctx) (call st : Nat) (s : State), callOf s x.val → call % 2 ^ 32 = recCall (s.ctx x.val).record → st % 4 ≠ 0 →
      completes (.childAbortNotice x call st) s fun t => callEnded s t x.val)
    ∧ (∀ (x : Ctx) (call f : Nat) (s : State), s.hasColl x.val = true → dNarrowOk (s.ctx x.val).coll.desc = true →
      s.ctxState x.val ≠ csFree → s.ctxState x.val ≠ csFaulted → recTop (s.ctx x.val).live = false →
      f = dNarrowFmt (s.ctx x.val).coll.desc → 0 < callsAhead call (s.ctx x.val).record → callsAhead call (s.ctx x.val).record < 2 ^ 31 →
      completes (.narrowNotice x false call f) s fun t =>
        (t.ctx x.val).coll = { (s.ctx x.val).coll with narrowUp := some (f, call % 2 ^ 32) } ∧ s.keeps t [.ctxs])
    ∧ (∀ (x : Ctx) (down : Bool) (call f : Nat) (s : State), dNarrowOk (s.ctx x.val).coll.desc = false →
      exec (.narrowNotice x down call f) s = .next s)
    ∧ (∀ (x : Ctx) (s : State), (s.ctx x.val).timedOut s.tb.tick = false → exec (.callTimeout x) s = .next s)
    ∧ (∀ (x : Ctx) (s : State), s.hasColl x.val = true → s.ctxState x.val ≠ csFree → s.ctxState x.val ≠ csIdle →
      s.ctxState x.val ≠ csFaulted →
      (s.ctx x.val).timedOut s.tb.tick = true → dProgram (s.ctx x.val).coll.desc ≠ pgVote →
      exec (.callTimeout x) s = .next (s.endAndReopen (s.homeOf x.val) 2 0))
    ∧ (∀ (x : Ctx) (s : State), callOf s x.val → (s.ctx x.val).timedOut s.tb.tick = true → dProgram (s.ctx x.val).coll.desc ≠ pgVote →
      completes (.callTimeout x) s fun t => callEnded s t x.val
        ∧ t.fld (R.ltdCollStat (s.ctx x.val).home) F.LtdCollStat.aborts
          = min (2 ^ F.LtdCollStat.aborts.wid - 1) (s.fld (R.ltdCollStat (s.ctx x.val).home) F.LtdCollStat.aborts + 1))

/-- The result of a job command that is turned away: SV_JOB_STAT says so, and nothing else changes. -/
abbrev jobRefused (i : Instr) (j cmd result : Nat) (s : State) : Prop :=
  completes i s fun t =>
    t.fld R.svJobStat F.SvJobStat.result = result ∧ t.fld R.svJobStat F.SvJobStat.cmdRefused = 1
      ∧ t.fld R.svJobStat F.SvJobStat.lastJob = j ∧ t.fld R.svJobStat F.SvJobStat.lastCmd = cmd ∧ s.keepsRegs t [R.svJobStat]
      ∧ s.keeps t [.regs]

/-- Job commands (R325 to R328): ADMIT needs FREE, MODIFY and REMOVE need ADMITTED, and another state gives RESULT 0x1, checks in progress 0x8;
accepted, the record is read and its checks begin; checks that pass move the job to ADMITTING, MODIFYING or REMOVING for the boundary two turns on, checks that fail give their RESULT
and leave the job's state; CANCEL gives the job its earlier state back; SV_JOB_BASE changes only while every job is FREE; a job whose draining has ended
is FREE, with nothing of it kept.
What clashes with a draining job is the model's reading (log 27). -/
def Obligations.JobCommands : Prop :=
  (∀ (w : Writer) (j : Job) (s : State), s.judge w (writerDie w) = .applied → s.jobs.checking = none →
    ((s.job j.val).state ≠ .free → jobRefused (.admitJob w j) j.val 1 1 s)
      ∧ ((s.job j.val).state ≠ .admitted → jobRefused (.modify w j) j.val 2 1 s ∧ jobRefused (.remove w j) j.val 3 1 s)
      ∧ ((∀ x ∈ s.jobs.waiting, x.job ≠ j.val) → jobRefused (.jobCancel w j) j.val 4 1 s))
    ∧ (∀ (w : Writer) (j : Job) (s : State), s.judge w (writerDie w) = .applied → s.jobs.checking.isSome = true →
      jobRefused (.admitJob w j) j.val 1 8 s ∧ jobRefused (.modify w j) j.val 2 8 s ∧ jobRefused (.remove w j) j.val 3 8 s
        ∧ jobRefused (.jobCancel w j) j.val 4 8 s)
    ∧ (∀ (w : Writer) (j : Job) (s : State), s.judge w (writerDie w) = .applied → s.jobs.checking = none → (s.job j.val).state = .free →
      completes (.admitJob w j) s fun t =>
        t.jobs.checking = some (j.val, 1) ∧ t.fld R.svJobStat F.SvJobStat.busy = 1 ∧ t.fld R.svJobStat F.SvJobStat.result = 0
          ∧ t.job j.val = { s.job j.val with nextRec := s.nearRead (s.jobAddr j.val) 256 } ∧ t.jobs.waiting = s.jobs.waiting
          ∧ s.keepsRegs t [R.svJobStat] ∧ s.keeps t [.regs, .jobs])
    ∧ (∀ (w : Writer) (j : Job) (s : State), s.judge w (writerDie w) = .applied → s.jobs.checking = none →
      (s.job j.val).state = .admitted →
      (completes (.modify w j) s fun t =>
          t.jobs.checking = some (j.val, 2) ∧ t.fld R.svJobStat F.SvJobStat.busy = 1
            ∧ t.job j.val = { s.job j.val with nextRec := s.nearRead (s.jobAddr j.val) 256 } ∧ s.keepsRegs t [R.svJobStat]
            ∧ s.keeps t [.regs, .jobs])
        ∧ completes (.remove w j) s fun t =>
          t.jobs.checking = some (j.val, 3) ∧ t.fld R.svJobStat F.SvJobStat.busy = 1 ∧ t.job j.val = s.job j.val
            ∧ s.keepsRegs t [R.svJobStat] ∧ s.keeps t [.regs, .jobs])
    ∧ (∀ s : State, s.jobs.checking = none → exec .jobChecksComplete s = .next s)
    ∧ (∀ (s : State) (j cmd e : Nat), s.jobs.checking = some (j, cmd) → j < 65536 → cmd < 4 →
      cmd = 3 ∨ s.tierBurred 0 (s.jobAddr j) 256 = false →
      s.jobCmdCheck (s.planeFor (s.tb.turn + 2)) j cmd (s.job j).nextRec = e → e ≠ 0 → e < 16 →
      completes .jobChecksComplete s fun t =>
        t.jobs.checking = none ∧ t.fld R.svJobStat F.SvJobStat.result = e ∧ t.fld R.svJobStat F.SvJobStat.cmdRefused = 1
          ∧ t.fld R.svJobStat F.SvJobStat.busy = 0 ∧ (t.job j).state = (s.job j).state ∧ (t.job j).rec_ = (s.job j).rec_
          ∧ t.jobs.waiting = s.jobs.waiting ∧ s.keepsRegs t [R.svJobStat] ∧ s.keeps t [.regs, .jobs])
    ∧ (∀ (s : State) (j cmd : Nat), s.jobs.checking = some (j, cmd) → 1 ≤ cmd → cmd < 4 →
      cmd = 3 ∨ s.tierBurred 0 (s.jobAddr j) 256 = false →
      s.jobCmdCheck (s.planeFor (s.tb.turn + 2)) j cmd (s.job j).nextRec = 0 →
      completes .jobChecksComplete s fun t =>
        t.jobs.checking = none ∧ t.fld R.svJobStat F.SvJobStat.result = 0 ∧ t.fld R.svJobStat F.SvJobStat.busy = 0
          ∧ (t.job j).state = (if cmd = 1 then .admitting else if cmd = 2 then .modifying else .removing)
          ∧ t.jobs.waiting = s.jobs.waiting ++ [⟨j, cmd, (s.job j).state, s.tb.turn + 2⟩] ∧ (t.job j).rec_ = (s.job j).rec_
          ∧ s.keepsRegs t [R.svJobStat] ∧ s.keeps t [.regs, .jobs, .near, .nearBurr])
    ∧ (∀ (w : Writer) (j : Job) (x : JobCmd) (s : State), s.judge w (writerDie w) = .applied → s.jobs.checking = none →
      s.jobs.waiting.find? (fun y => decide (y.job = j.val)) = some x →
      completes (.jobCancel w j) s fun t =>
        (t.job j.val).state = x.prev ∧ t.jobs.waiting = s.jobs.waiting.filter (fun y => decide (y.job ≠ j.val))
          ∧ (t.job j.val).rec_ = (s.job j.val).rec_ ∧ t.fld R.svJobStat F.SvJobStat.result = 0 ∧ s.keepsRegs t [R.svJobStat]
          ∧ s.keeps t [.regs, .jobs, .near, .nearBurr])
    ∧ (∀ (w : Writer) (v : W64) (s : State), s.judge w (writerDie w) = .applied →
      (v.toNat % 2 ^ 24 ≠ 0 ∨ s.liveJobs ≠ [] → completes (.svJobBaseWrite w v) s fun t =>
          t.fld R.svJobStat F.SvJobStat.cmdRefused = 1 ∧ s.keepsRegs t [R.svJobStat] ∧ s.keeps t [.regs])
        ∧ (v.toNat % 2 ^ 24 = 0 → s.liveJobs = [] → completes (.svJobBaseWrite w v) s fun t =>
          t.fld R.svJobBase F.SvJobBase.base = v.toNat % 2 ^ 48 ∧ s.keepsRegs t [R.svJobBase] ∧ s.keeps t [.regs]))
    ∧ (∀ (j : Job) (s : State), (s.job j.val).state = .draining →
      s.jobInside j.val = false ∨ (s.job j.val).endTick.getD 0 + 1000000 * (s.job j.val).drainMs ≤ s.tb.tick →
      completes (.jobDrainEnd j) s fun t => t.job j.val = JobSt.none_ ∧ t.rd (R.svJobHit j.val) = 0)
    ∧ (∀ (j : Job) (s : State), (s.job j.val).state ≠ .draining → exec (.jobDrainEnd j) s = .next s)

/-! ## Registers and fences -/

/-- The configuration fences (R364, R365): a write of the fence's own term, stamped at or before EXPIRY, is applied; a lower term, no term, or an
expired one is dropped and counted in OLD, a higher term in AHEAD, and a dropped write changes nothing else; firmware is judged by
the term that its write carries; a host's write to GLB without a grant is discarded as WR_DENY; the fences lie where R365 says. -/
def Obligations.FencesJudge : Prop :=
  (∀ (f : Fence) (now t : Nat), (t = f.term → now ≤ f.expiry → f.judge now (some t) = .applied)
      ∧ (t = f.term → f.expiry < now → f.judge now (some t) = .old) ∧ (t < f.term → f.judge now (some t) = .old)
      ∧ (f.term < t → f.judge now (some t) = .ahead) ∧ f.judge now none = .old)
    ∧ (∀ (sv : Sv) (term : Option Nat) (d : Nat) (s : State), s.judge (.fw sv term) d = (s.fence d).judge (s.dieNow d) term)
    ∧ (∀ (sv : Sv) (term : Option Nat) (off d : Nat) (v : W64) (r : RegDesc) (s : State), off % 8 = 0 → regAt off = some r →
      r.block ∈ [.ptd, .bch, .nt, .ft, .ltd, .lt, .brg] → dieAt off = some d → s.judge (.fw sv term) d = .old →
      completes (.registerWrite (.fw sv term) off 8 v) s fun t =>
        t.fld (cfgFenceReg d) F.PtdCfgFence.old = min (2 ^ F.PtdCfgFence.old.wid - 1) (s.fld (cfgFenceReg d) F.PtdCfgFence.old + 1)
          ∧ t.fld (cfgFenceReg d) F.PtdCfgFence.ahead = s.fld (cfgFenceReg d) F.PtdCfgFence.ahead
          ∧ s.keepsRegs t [cfgFenceReg d] ∧ s.keeps t [.regs])
    ∧ (∀ (sv : Sv) (term : Option Nat) (off d : Nat) (v : W64) (r : RegDesc) (s : State), off % 8 = 0 → regAt off = some r →
      r.block ∈ [.ptd, .bch, .nt, .ft, .ltd, .lt, .brg] → dieAt off = some d → s.judge (.fw sv term) d = .ahead →
      completes (.registerWrite (.fw sv term) off 8 v) s fun t =>
        t.fld (cfgFenceReg d) F.PtdCfgFence.ahead
            = min (2 ^ F.PtdCfgFence.ahead.wid - 1) (s.fld (cfgFenceReg d) F.PtdCfgFence.ahead + 1)
          ∧ t.fld (cfgFenceReg d) F.PtdCfgFence.old = s.fld (cfgFenceReg d) F.PtdCfgFence.old
          ∧ s.keepsRegs t [cfgFenceReg d] ∧ s.keeps t [.regs])
    ∧ (∀ (fn : Sv) (off : Nat) (v : W64) (r : RegDesc) (s : State), s.hostIn fn.val = true → msixArea off = false → off % 8 = 0 →
      regAt off = some r → r.block = .glb → s.fld (fnReg fn.val R.hifOvr) F.HifOvr.grant = 0 →
      completes (.registerWrite (.host fn) off 8 v) s fun t =>
        t.fld (fnReg fn.val R.hifDrop) F.HifDrop.lastKind = 1 ∧ s.keepsRegs t [fnReg fn.val R.hifDrop] ∧ s.keeps t [.regs])
    ∧ (∀ d : Nat, (d < 32 → cfgFenceReg d = 0x01000000 + 0x10000 * d + 0xFE00)
      ∧ (32 ≤ d → d < 56 → cfgFenceReg d = 0x01400000 + 0x20000 * (d - 32) + 0x1FE00)
      ∧ (56 ≤ d → d < 72 → cfgFenceReg d = 0x01800000 + 0x10000 * (d - 56) + 0xFE00)
      ∧ (72 ≤ d → d < 80 → cfgFenceReg d = 0x01A00000 + 0x10000 * (d - 72) + 0xFE00)
      ∧ (80 ≤ d → d < 84 → cfgFenceReg d = 0x01C00000 + 0x10000 * (d - 80) + 0xFE00)
      ∧ (84 ≤ d → d < 96 → cfgFenceReg d = 0x01E00000 + 0x4000 * (d - 84) + 0x3E00))

/-- Register accesses (R14, R336, R337): RW stores the field, W1C clears and W1S sets the bits written 1, the other types ignore a write; a firmware write
whose fence applies it to a plain register writes its fields; the host's write of another size or alignment is counted as WR_SIZE, to a block it
may not write or to no register as WR_DENY, and discarded; a whole read returns the register and clears its RC fields; half of one clears nothing; another
size, or a die that is silent, reads all ones and is counted as RD_BAD.
Which counter a read with two faults raises is the model's reading (log 44). -/
def Obligations.RegisterAccesses : Prop :=
  (∀ (key : Nat) (f : Fld) (v : W64) (s : State), f.lo ≤ f.hi → f.hi < 64 →
    (f.acc = .rw → (s.writeFlds key [f] v).fld key f = f.get v)
      ∧ (f.acc = .w1c → ∀ i, i < f.wid →
        bitOf ((s.writeFlds key [f] v).fld key f) i = (bitOf (s.fld key f) i && !bitOf (f.get v) i))
      ∧ (f.acc = .w1s → ∀ i, i < f.wid →
        bitOf ((s.writeFlds key [f] v).fld key f) i = (bitOf (s.fld key f) i || bitOf (f.get v) i))
      ∧ (f.acc = .ro ∨ f.acc = .rc ∨ f.acc = .wo → s.writeFlds key [f] v = s))
    ∧ (∀ (sv : Sv) (term : Option Nat) (off d : Nat) (v : W64) (r : RegDesc) (s : State), off % 8 = 0 → regAt off = some r →
      r.block ∈ [.ptd, .bch, .nt, .ft, .ltd, .lt, .brg] → dieAt off = some d → 72 ≤ d → off ≠ errqReg d + 0x28 → s.judge (.fw sv term) d = .applied →
      exec (.registerWrite (.fw sv term) off 8 v) s = .next (s.writeFlds off r.flds v))
    ∧ (∀ (sv : Sv) (term : Option Nat) (off size : Nat) (v : W64) (s : State), size ≠ 8 ∨ off % 8 ≠ 0 ∨ regAt off = none →
      exec (.registerWrite (.fw sv term) off size v) s = .next s)
    ∧ (∀ (fn : Sv) (off size : Nat) (v : W64) (s : State), s.hostIn fn.val = true → msixArea off = false → size ≠ 8 ∨ off % 8 ≠ 0 →
      completes (.registerWrite (.host fn) off size v) s fun t =>
        t.fld (fnReg fn.val R.hifDrop) F.HifDrop.wrSize
            = min (2 ^ F.HifDrop.wrSize.wid - 1) (s.fld (fnReg fn.val R.hifDrop) F.HifDrop.wrSize + 1)
          ∧ t.fld (fnReg fn.val R.hifDrop) F.HifDrop.lastKind = 2 ∧ s.keepsRegs t [fnReg fn.val R.hifDrop] ∧ s.keeps t [.regs])
    ∧ (∀ (fn : Sv) (off : Nat) (v : W64) (s : State), s.hostIn fn.val = true → msixArea off = false → off % 8 = 0 →
      (regAt off = none ∨ ∃ r, regAt off = some r
        ∧ r.block ∈ [.sv, .tb, .ptd, .bch, .nt, .ft, .ltd, .lt, .brg, .err]) →
      completes (.registerWrite (.host fn) off 8 v) s fun t =>
        t.fld (fnReg fn.val R.hifDrop) F.HifDrop.wrDeny
            = min (2 ^ F.HifDrop.wrDeny.wid - 1) (s.fld (fnReg fn.val R.hifDrop) F.HifDrop.wrDeny + 1)
          ∧ t.fld (fnReg fn.val R.hifDrop) F.HifDrop.lastKind = 1 ∧ s.keepsRegs t [fnReg fn.val R.hifDrop] ∧ s.keeps t [.regs])
    ∧ (∀ (fn : Sv) (off : Nat) (s : State), s.hostIn fn.val = true → off % 8 = 0 → dieAt off = none → off ≠ R.conCap 0 → off ≠ R.conCap 1 →
      completes (.rcRead fn off) s fun t =>
        t.outs = s.outs ++ [.readReply ⟨8, (s.view fn.val off).toNat⟩]
          ∧ (∀ r, regAt off = some r → ∀ f ∈ r.fldsOf .rc, t.fld (fnKey fn.val off) f = 0)
          ∧ s.keepsRegs t [fnKey fn.val off] ∧ s.keeps t [.regs, .outs])
    ∧ (∀ (fn : Sv) (off d : Nat) (s : State), s.hostIn fn.val = true → off % 8 = 0 → dieAt off = some d → s.dieSilent off = false →
      exec (.rcRead fn off) s = .next (s.goodRead fn.val off))
    ∧ (∀ (fn : Sv) (off : Nat) (s : State), s.hostIn fn.val = true → off % 8 ≠ 0 ∨ s.dieSilent off = true →
      completes (.rcRead fn off) s fun t =>
        t.outs = s.outs ++ [.readReply ⟨8, 2 ^ 64 - 1⟩]
          ∧ t.fld (fnReg fn.val R.hifDrop) F.HifDrop.rdBad
            = min (2 ^ F.HifDrop.rdBad.wid - 1) (s.fld (fnReg fn.val R.hifDrop) F.HifDrop.rdBad + 1)
          ∧ t.fld (fnReg fn.val R.hifDrop) F.HifDrop.lastKind = 3 ∧ s.keepsRegs t [fnReg fn.val R.hifDrop]
          ∧ s.keeps t [.regs, .outs])
    ∧ (∀ (fn : Sv) (off size : Nat) (silent : Bool) (s : State), s.hostIn fn.val = true → msixArea off = false →
      ¬ (size = 8 ∧ off % 8 = 0) → ¬ (size = 4 ∧ off % 4 = 0) →
      completes (.bar0BadRead fn off size silent) s fun t =>
        t.outs = s.outs ++ [.readReply ⟨size, 2 ^ (8 * size) - 1⟩]
          ∧ t.fld (fnReg fn.val R.hifDrop) F.HifDrop.lastKind = 3 ∧ s.keepsRegs t [fnReg fn.val R.hifDrop] ∧ s.keeps t [.regs, .outs])
    ∧ (∀ (fn : Sv) (off d : Nat) (s : State), s.hostIn fn.val = true → off % 8 = 0 → dieAt off = some d →
      completes (.bar0BadRead fn off 8 true) s fun t =>
        t.outs = s.outs ++ [.readReply ⟨8, 2 ^ 64 - 1⟩] ∧ s.keepsRegs t [fnReg fn.val R.hifDrop] ∧ s.keeps t [.regs, .outs])
    ∧ (∀ (fn : Sv) (off : Nat) (s : State), s.hostIn fn.val = true → off % 4 = 0 → s.dieSilent off = false →
      completes (.bar0BadRead fn off 4 false) s fun t =>
        t.outs = s.outs ++ [.readReply ⟨4, bitsOf (s.view fn.val (off / 8 * 8)).toNat (8 * (off % 8)) 32⟩] ∧ s.keeps t [.outs])

/-! ## The host interface -/

/-- The commands that firmware executes from the host command FIFO, with the code and the number of argument words of each (R346). -/
def hostCommands (fn : Sv) : List (Instr × Nat × Nat) :=
  [(.imageLoad fn, 0x01, 2), (.imageCheck fn, 0x02, 0), (.imageArm fn, 0x03, 1), (.imageCancel fn, 0x04, 0), (.imageDiscard fn, 0x05, 0),
   (.window fn, 0x06, 1), (.dumpFetch fn, 0x07, 2), (.override fn, 0x08, 1), (.flashWrite fn, 0x09, 3), (.eventRead fn, 0x0A, 0)]

/-- Firmware of function n, which leads, has in hand the command c, with these arguments. -/
abbrev inHand (s : State) (n : Nat) (c : HcfCmd) (code : Nat) (args : List Nat) : Prop :=
  (s.fn n).taken = some c ∧ c.code = code ∧ c.args.map (fun a => a.toNat) = args ∧ s.fnLeads n = true

/-- The state from which a command in hand acts: it is in hand no longer. -/
def handed (s : State) (n : Nat) : State := s.setFn n (fun x => { x with taken := none })

/-- The host command FIFO (R345 to R348): a word is queued while there is room, and one beyond is ignored, counted as an overrun, and breaks its command; the end mark
closes a command; FLUSH discards every word; firmware takes one whole command at a time, and a broken command, one of bad parity, of another length, for
the standby, or of an unknown code is discarded with its return code; with no leader the words wait.
What is left of a broken command is the model's reading (log 32). -/
def Obligations.HostFifo : Prop :=
  (∀ (fn : Sv) (w : W64) (p : Bool) (s : State), s.hostIn fn.val = true → (s.fn fn.val).fifo.length < 512 →
    (completes (.hcfDataWrite fn w p) s fun t =>
        t.fn fn.val = { s.fn fn.val with fifo := (s.fn fn.val).fifo ++ [⟨w, p, false, false⟩], opened := true } ∧ s.keeps t [.host])
      ∧ completes (.hcfDataEndWrite fn w p) s fun t =>
        t.fn fn.val = { s.fn fn.val with fifo := (s.fn fn.val).fifo ++ [⟨w, p, true, (s.fn fn.val).broken⟩], opened := false, broken := false }
          ∧ s.keeps t [.host])
    ∧ (∀ (fn : Sv) (w : W64) (p : Bool) (s : State), s.hostIn fn.val = true → 512 ≤ (s.fn fn.val).fifo.length →
      completes (.hcfDataWrite fn w p) s fun t =>
        t.fld (fnReg fn.val R.hcfStat) F.HcfStat.overrun = 1
          ∧ t.fld (fnReg fn.val R.hcfStat) F.HcfStat.overruns
            = min (2 ^ F.HcfStat.overruns.wid - 1) (s.fld (fnReg fn.val R.hcfStat) F.HcfStat.overruns + 1)
          ∧ t.fn fn.val = { s.fn fn.val with opened := true, broken := true } ∧ s.keepsRegs t [fnReg fn.val R.hcfStat]
          ∧ s.keeps t [.regs, .host])
    ∧ (∀ (fn : Sv) (s : State), s.hostIn fn.val = true →
      completes (.flush fn) s fun t =>
        t.fn fn.val = { s.fn fn.val with fifo := [], opened := false, broken := false } ∧ s.keeps t [.host, .outs])
    ∧ (∀ (fn : Sv) (s : State), (s.fn fn.val).taken.isSome = true ∨ splitCmd (s.fn fn.val).fifo = none ∨ s.leader = none →
      exec (.hcfTake fn) s = .next s)
    ∧ (∀ (fn : Sv) (ws rest : List HcfWord) (h : W64) (c : HcfCmd) (s : State), (s.fn fn.val).taken = none → s.leader.isSome = true →
      splitCmd (s.fn fn.val).fifo = some (ws, rest) → h = (ws.map (fun w => w.word)).headD 0 → c = hcfHeader h → c.reply.isSome = true →
      (ws.any (fun w => w.broken) = true → exec (.hcfTake fn) s = .next ((s.hcfRest fn.val rest).hcfReply fn.val c 6 none))
        ∧ (ws.any (fun w => w.broken) = false → ws.any (fun w => !w.parityOk) = true →
          exec (.hcfTake fn) s
            = .next (((s.hcfRest fn.val rest).count (fnReg fn.val R.hcfStat) F.HcfStat.parity).hcfReply fn.val c 7 none))
        ∧ (ws.any (fun w => w.broken) = false → ws.any (fun w => !w.parityOk) = false → bitsOf h.toNat 0 10 ≠ ws.length →
          exec (.hcfTake fn) s = .next ((s.hcfRest fn.val rest).hcfReply fn.val c 5 none))
        ∧ (ws.any (fun w => w.broken) = false → ws.any (fun w => !w.parityOk) = false → bitsOf h.toNat 0 10 = ws.length →
          s.fnLeads fn.val = false → exec (.hcfTake fn) s = .next ((s.hcfRest fn.val rest).hcfReply fn.val c 8 none))
        ∧ (ws.any (fun w => w.broken) = false → ws.any (fun w => !w.parityOk) = false → bitsOf h.toNat 0 10 = ws.length →
          s.fnLeads fn.val = true → c.code = 0 ∨ 0x0A < c.code →
          exec (.hcfTake fn) s = .next ((s.hcfRest fn.val rest).hcfReply fn.val c 2 none))
        ∧ (ws.any (fun w => w.broken) = false → ws.any (fun w => !w.parityOk) = false → bitsOf h.toNat 0 10 = ws.length →
          s.fnLeads fn.val = true → 1 ≤ c.code → c.code ≤ 0x0A →
          completes (.hcfTake fn) s fun t =>
            t.fn fn.val = { s.fn fn.val with fifo := rest, taken := some { c with args := (ws.drop 1).map (fun w => w.word) } }
              ∧ s.keeps t [.host, .outs]))

/-- The host's commands (R341, R342, R346, R359, R394): one that is not in hand, or while nobody leads, changes nothing, one that a function in standby has in hand is
answered NOT_ACTIVE, one with another number of arguments BAD_ARG; IMAGE_LOAD
starts LOADING and channel IN, IMAGE_CHECK, IMAGE_ARM, IMAGE_CANCEL and IMAGE_DISCARD act on the shadow plane under the leader's term; WINDOW places or closes HIF_WIN; DUMP_FETCH
starts channel OUT for a dump that is held; OVERRIDE grants and releases writes to GLB; FLASH_WRITE is REFUSED for the copy that
booted; EVENT_READ answers the next unread event.
That WINDOW may open a whole tier is the model's choice (log 21). -/
def Obligations.HostCommands : Prop :=
  (∀ (fn : Sv) (i : Instr) (code nargs : Nat) (s : State), (i, code, nargs) ∈ hostCommands fn →
    ((s.fn fn.val).taken = none → exec i s = .next s)
      ∧ (∀ c, (s.fn fn.val).taken = some c → c.code ≠ code ∨ s.leader = none → exec i s = .next s)
      ∧ (∀ c, (s.fn fn.val).taken = some c → c.code = code → s.leader.isSome = true → s.fnLeads fn.val = false →
        exec i s = .next ((handed s fn.val).hcfReply fn.val c 8 none))
      ∧ (∀ c args, inHand s fn.val c code args → args.length ≠ nargs → exec i s = .next ((handed s fn.val).hcfReply fn.val c 3 none)))
    ∧ (∀ (fn : Sv) (c : HcfCmd) (list len : Nat) (s : State), inHand s fn.val c 1 [list, len] → list % 64 = 0 → len % 256 = 0 →
      8192 ≤ len → len ≤ 2 ^ 28 → s.chanBusy 0 = false → s.mayLoad = true → s.hif fn.val F.HifStat.bme = 1 →
      s.hif fn.val F.HifStat.dState = 0 →
      completes (.imageLoad fn) s fun t =>
        t.imgState = 1 ∧ t.img.loadLen = len ∧ t.img.loadSrc = 3 ∧ t.img.active = s.img.active
          ∧ t.fld (R.svDmaStat 0) F.SvDmaStat.state = 1 ∧ (∃ x, t.chan 0 = some x ∧ x.use = .image ∧ x.live = true ∧ x.wait = 16)
          ∧ t.outs = s.outs ++ [.dmaRead 0 list 16] ∧ (t.fn fn.val).taken = none)
    ∧ (∀ (fn : Sv) (c : HcfCmd) (list len : Nat) (s : State), inHand s fn.val c 1 [list, len] →
      list % 64 ≠ 0 ∨ len % 256 ≠ 0 ∨ len < 8192 ∨ 2 ^ 28 < len →
      exec (.imageLoad fn) s = .next ((handed s fn.val).hcfReply fn.val c 3 (some s.imgResult)))
    ∧ (∀ (fn : Sv) (c : HcfCmd) (s : State), inHand s fn.val c 2 [] → s.judge s.leaderWriter (writerDie s.leaderWriter) = .applied →
      s.imgState = 2 → completes (.imageCheck fn) s fun t => t.imgState = 3 ∧ (t.fn fn.val).taken = none ∧ t.img = s.img)
    ∧ (∀ (fn : Sv) (c : HcfCmd) (x tm : Nat) (s : State), inHand s fn.val c 3 [x] → x < 2 ^ 32 → (s.majority.map (fun m => m.1)).getD 0 = tm →
      exec (.imageArm fn) s
        = .next ((handed s fn.val).hcfImage fn.val c (fun s => s.imgCommand s.leaderWriter (fun s => s.imgArm x tm))))
    ∧ (∀ (fn : Sv) (c : HcfCmd) (x tm : Nat) (p : Plane) (s : State), inHand s fn.val c 3 [x] → x < 2 ^ 32 →
      (s.majority.map (fun m => m.1)).getD 0 = tm → s.judge s.leaderWriter (writerDie s.leaderWriter) = .applied → s.imgState = 4 →
      s.img.shadow = some p → s.tb.turn + 3 ≤ s.turnNamed x → s.turnNamed x ≤ s.tb.turn + 2 ^ 20 →
      (((handed s fn.val).setFld R.svImgStat F.SvImgStat.cmdRefused 0).setFld R.svImgCtl F.SvImgCtl.targetTurn x).liveOk p (s.turnNamed x)
        = true →
      completes (.imageArm fn) s fun t =>
        t.imgState = 5 ∧ t.img.target = x ∧ t.img.armTerm = tm ∧ t.img.shadow = some p ∧ t.img.active = s.img.active
          ∧ (t.fn fn.val).taken = none)
    ∧ (∀ (fn : Sv) (c : HcfCmd) (s : State), inHand s fn.val c 4 [] → s.judge s.leaderWriter (writerDie s.leaderWriter) = .applied →
      s.imgState = 5 → completes (.imageCancel fn) s fun t => t.imgState = 4 ∧ (t.fn fn.val).taken = none)
    ∧ (∀ (fn : Sv) (c : HcfCmd) (s : State), inHand s fn.val c 5 [] → s.judge s.leaderWriter (writerDie s.leaderWriter) = .applied →
      s.imgState = 2 ∨ s.imgState = 4 ∨ s.imgState = 8 →
      completes (.imageDiscard fn) s fun t =>
        t.imgState = 0 ∧ t.img.shadow = none ∧ t.img.active = s.img.active ∧ (t.fn fn.val).taken = none)
    ∧ (∀ (fn : Sv) (c : HcfCmd) (a : Nat) (s : State), inHand s fn.val c 6 [a] →
      F.HifWin.tier.get (BitVec.ofNat 64 a) = 1 ∨ F.HifWin.tier.get (BitVec.ofNat 64 a) = 2 →
      BitVec.ofNat 64 a &&& ~~~ (F.HifWin.wr.mask ||| F.HifWin.tier.mask ||| F.HifWin.lenMib.mask ||| F.HifWin.base.mask) = 0 →
      1 ≤ F.HifWin.lenMib.get (BitVec.ofNat 64 a) → F.HifWin.lenMib.get (BitVec.ofNat 64 a) ≤ 1024 →
      (F.HifWin.base.get (BitVec.ofNat 64 a) + F.HifWin.lenMib.get (BitVec.ofNat 64 a)) * 2 ^ 20
        ≤ s.tierBytes (F.HifWin.tier.get (BitVec.ofNat 64 a)) →
      completes (.window fn) s fun t => t.rd (fnReg fn.val R.hifWin) = BitVec.ofNat 64 a ∧ (t.fn fn.val).taken = none)
    ∧ (∀ (fn : Sv) (c : HcfCmd) (a : Nat) (s : State), inHand s fn.val c 6 [a] → F.HifWin.tier.get (BitVec.ofNat 64 a) = 3 →
      exec (.window fn) s = .next ((handed s fn.val).hcfReply fn.val c 3 none))
    ∧ (∀ (fn : Sv) (c : HcfCmd) (n list : Nat) (d : Dump) (s : State), inHand s fn.val c 7 [n, list] →
      s.err.dumps.get (fun _ => none) (n % 8) = some d → d.number = n → list % 64 = 0 → s.chanBusy 1 = false →
      s.hif fn.val F.HifStat.bme = 1 → s.hif fn.val F.HifStat.dState = 0 →
      completes (.dumpFetch fn) s fun t =>
        t.fld (R.svDmaStat 1) F.SvDmaStat.state = 1 ∧ (∃ x, t.chan 1 = some x ∧ x.use = .dump n ∧ x.live = true ∧ x.total = d.len)
          ∧ t.outs = s.outs ++ [.dmaRead 1 list 16] ∧ s.keepsRegs t [R.svDmaStat 1])
    ∧ (∀ (fn : Sv) (c : HcfCmd) (n list : Nat) (s : State), inHand s fn.val c 7 [n, list] →
      s.err.dumps.get (fun _ => none) (n % 8) = none → exec (.dumpFetch fn) s = .next ((handed s fn.val).hcfReply fn.val c 3 none))
    ∧ (∀ (fn : Sv) (c : HcfCmd) (s : State), inHand s fn.val c 8 [1] →
      completes (.override fn) s fun t =>
        t.fld (fnReg fn.val R.hifOvr) F.HifOvr.grant = 1
          ∧ t.fld (fnReg fn.val R.hifOvr) F.HifOvr.term = ((s.majority.map (fun m => m.1)).getD 0) % 2 ^ F.HifOvr.term.wid)
    ∧ (∀ (fn : Sv) (c : HcfCmd) (s : State), inHand s fn.val c 8 [0] →
      completes (.override fn) s fun t => t.rd (fnReg fn.val R.hifOvr) = 0)
    ∧ (∀ (fn : Sv) (c : HcfCmd) (copy list len : Nat) (s : State), inHand s fn.val c 9 [copy, list, len] → copy < 2 → list % 64 = 0 →
      len % 64 = 0 → 0 < len → len ≤ flashBytes → s.fld R.glbBoot F.GlbBoot.copy = copy →
      exec (.flashWrite fn) s = .next ((handed s fn.val).hcfReply fn.val c 4 none))
    ∧ (∀ (fn : Sv) (c : HcfCmd) (copy list len : Nat) (s : State), inHand s fn.val c 9 [copy, list, len] → copy < 2 → list % 64 = 0 →
      len % 64 = 0 → 0 < len → len ≤ flashBytes → s.fld R.glbBoot F.GlbBoot.copy ≠ copy → s.chanBusy 0 = false →
      s.hif fn.val F.HifStat.bme = 1 → s.hif fn.val F.HifStat.dState = 0 →
      completes (.flashWrite fn) s fun t =>
        t.fld (R.svDmaStat 0) F.SvDmaStat.state = 1 ∧ (∃ x, t.chan 0 = some x ∧ x.use = .flash copy ∧ x.live = true ∧ x.total = len)
          ∧ t.outs = s.outs ++ [.dmaRead 0 list 16] ∧ t.side.flashA = s.side.flashA ∧ t.side.flashB = s.side.flashB)
    ∧ (∀ (fn : Sv) (c : HcfCmd) (s : State), inHand s fn.val c 10 [] →
      completes (.eventRead fn) s fun t =>
        t.err.evtRead = (if s.err.evtRead < s.err.evtSeq then s.err.evtRead + 1 else s.err.evtRead) ∧ (t.fn fn.val).taken = none)

/-- The tier window, the DMA master and the resets of a function (R334, R339, R340, R342, R343, R352): reads and writes through BAR2 inside the
window reach the tier, others return zeros or are discarded and counted; completions feed the channel that asked; a failed read stops the channel and is recorded; a
channel that is done says DONE; clearing Bus Master Enable, D3hot, the loss of the link, PERST# and a function level reset stop the DMA
master, and the two resets close the window and withdraw the grant.
Requests of at most 512 bytes are the model's reading (log 30, 31). -/
def Obligations.WindowAndDma : Prop :=
  (∀ (fn : Sv) (off len tier a : Nat) (s : State), s.hostIn fn.val = true → len ≤ 512 → s.bar2At fn.val off len = some (tier, a) →
    s.tierBurred tier a len = false →
    completes (.bar2Read fn off len) s fun t => t.outs = s.outs ++ [.readReply (s.tierRead tier a len)] ∧ s.keeps t [.outs])
    ∧ (∀ (fn : Sv) (off len : Nat) (s : State), s.hostIn fn.val = true → len ≤ 512 → s.bar2At fn.val off len = none →
      completes (.bar2Read fn off len) s fun t =>
        t.outs = s.outs ++ [.readReply ⟨len, 0⟩] ∧ t.fld (fnReg fn.val R.hifDrop) F.HifDrop.lastKind = 4
          ∧ t.fld (fnReg fn.val R.hifDrop) F.HifDrop.rdBad
            = min (2 ^ F.HifDrop.rdBad.wid - 1) (s.fld (fnReg fn.val R.hifDrop) F.HifDrop.rdBad + 1)
          ∧ s.keepsRegs t [fnReg fn.val R.hifDrop] ∧ s.keeps t [.regs, .outs])
    ∧ (∀ (fn : Sv) (off tier a : Nat) (b : Blob) (s : State), s.hostIn fn.val = true → b.len ≤ 512 →
      s.bar2At fn.val off b.len = some (tier, a) → s.fld (fnReg fn.val R.hifWin) F.HifWin.wr = 1 →
      exec (.bar2Write fn off b) s = .next (s.tierWrite tier a b))
    ∧ (∀ (fn : Sv) (off : Nat) (b : Blob) (s : State), s.hostIn fn.val = true → b.len ≤ 512 →
      s.bar2At fn.val off b.len = none ∨ s.fld (fnReg fn.val R.hifWin) F.HifWin.wr = 0 →
      completes (.bar2Write fn off b) s fun t =>
        t.fld (fnReg fn.val R.hifDrop) F.HifDrop.wrDeny
            = min (2 ^ F.HifDrop.wrDeny.wid - 1) (s.fld (fnReg fn.val R.hifDrop) F.HifDrop.wrDeny + 1)
          ∧ t.fld (fnReg fn.val R.hifDrop) F.HifDrop.lastKind = 4 ∧ s.keepsRegs t [fnReg fn.val R.hifDrop] ∧ s.keeps t [.regs])
    ∧ (∀ (ch : Fin 2) (b : Blob) (cause : DmaFail) (s : State), s.chan ch.val = none →
      exec (.dmaCompletion ch b) s = .next s ∧ exec (.dmaReadTimeout ch cause) s = .next s ∧ exec (.dmaChannelDone ch) s = .next s)
    ∧ (∀ (ch : Fin 2) (b : Blob) (x : DmaChan) (s : State), s.chan ch.val = some x → x.live = true → x.deaf = false → x.inList = true →
      0 < b.len → b.len < x.wait →
      completes (.dmaCompletion ch b) s fun t =>
        t.chan ch.val = some { x with wait := x.wait - b.len, part := x.part.append (b.slice 0 b.len) }
          ∧ s.keepsRegs t [R.svDmaStat ch.val] ∧ s.keeps t [.regs, .host])
    ∧ (∀ (ch : Fin 2) (b : Blob) (x : DmaChan) (s : State), s.chan ch.val = some x → x.live = true → x.deaf = false → x.inList = false →
      0 < b.len → b.len ≤ x.wait → exec (.dmaCompletion ch b) s = .next (s.takeData ch.val x (b.slice 0 b.len)))
    ∧ (∀ (ch : Fin 2) (cause : DmaFail) (x : DmaChan) (s : State), s.chan ch.val = some x → x.live = true → x.wait ≠ 0 →
      exec (.dmaReadTimeout ch cause) s = .next ((s.dmaStop ch.val (dmaErr cause)).fwRec (dSup x.fn) x.list))
    ∧ (∀ (ch : Fin 2) (cause : DmaFail) (x : DmaChan) (s : State), s.chan ch.val = some x → x.live = true → x.wait ≠ 0 →
      completes (.dmaReadTimeout ch cause) s fun t =>
        t.chan ch.val = some { x with live := false, done := false, deaf := false } ∧ t.fld (R.svDmaStat ch.val) F.SvDmaStat.state = 2
          ∧ t.fld (R.svDmaStat ch.val) F.SvDmaStat.err = dmaErr cause)
    ∧ (∀ (ch : Fin 2) (cause : DmaFail) (x : DmaChan) (s : State), s.chan ch.val = some x → x.live = false → x.wait ≠ 0 →
      completes (.dmaReadTimeout ch cause) s fun t =>
        t.chan ch.val = some { x with wait := 0 } ∧ t.epoch dmaReq = (s.epoch dmaReq + 1) % 16 ∧ t.reqHeld dmaReq = 0)
    ∧ (∀ (ch : Fin 2) (x : DmaChan) (s : State), s.chan ch.val = some x → x.live = true → x.done = true →
      completes (.dmaChannelDone ch) s fun t =>
        t.fld (R.svDmaStat ch.val) F.SvDmaStat.state = 3 ∧ t.chan ch.val = some { x with live := false })
    ∧ (∀ (fn : Sv) (mse : Bool) (s : State),
      completes (.bmeClear fn true mse) s fun t =>
        t.hif fn.val F.HifStat.bme = 1 ∧ t.hif fn.val F.HifStat.mse = b2n mse ∧ s.keepsRegs t [fnReg fn.val R.hifStat] ∧ s.keeps t [.regs])
    ∧ (∀ (fn : Sv) (mse : Bool) (s : State),
      exec (.bmeClear fn false mse) s
        = .next (((s.setHif fn.val F.HifStat.bme 0).setHif fn.val F.HifStat.mse (b2n mse)).stopFn fn.val 1))
    ∧ (∀ (fn : Sv) (s : State),
      (completes (.d3hotEntry fn false) s fun t =>
          t.hif fn.val F.HifStat.dState = 0 ∧ s.keepsRegs t [fnReg fn.val R.hifStat] ∧ s.keeps t [.regs])
        ∧ exec (.d3hotEntry fn true) s = .next ((s.setHif fn.val F.HifStat.dState 3).stopFn fn.val 1))
    ∧ (∀ (fn : Sv) (v : Fin 6) (w : Fin 9) (s : State), v.val ≠ 0 → w.val ∈ [1, 2, 4, 8] →
      completes (.pcieLinkDown fn (some (v, w))) s fun t =>
        t.hif fn.val F.HifStat.speed = v.val ∧ t.hif fn.val F.HifStat.width = w.val ∧ s.keepsRegs t [fnReg fn.val R.hifStat]
          ∧ s.keeps t [.regs])
    ∧ (∀ (fn : Sv) (s : State), (∀ c, c < 2 → s.chan c = none) →
      completes (.pcieLinkDown fn none) s fun t =>
        t.hif fn.val F.HifStat.speed = 0 ∧ t.hif fn.val F.HifStat.width = 0
          ∧ t.hif fn.val F.HifStat.persts = min (2 ^ F.HifStat.persts.wid - 1) (s.hif fn.val F.HifStat.persts + 1)
          ∧ s.keepsRegs t [fnReg fn.val R.hifStat] ∧ s.keeps t [.regs])
    ∧ (∀ (fn : Sv) (k : PerstKind) (ns : Nat) (s : State), k ≠ .pin ∨ 100000 ≤ ns →
      completes (.perstAssert fn k ns) s fun t =>
        t.hif fn.val F.HifStat.bme = 0 ∧ t.hif fn.val F.HifStat.mse = 0 ∧ t.hif fn.val F.HifStat.dState = 0
          ∧ t.hif fn.val F.HifStat.speed = 0 ∧ t.hif fn.val F.HifStat.width = 0 ∧ t.rd (fnReg fn.val R.hifOvr) = 0
          ∧ t.rd (fnReg fn.val R.hifWin) = 0 ∧ t.rd (fnReg fn.val R.hifDrop) = 0 ∧ (t.fn fn.val).fifo = (s.fn fn.val).fifo)
    ∧ (∀ (fn : Sv) (s : State),
      completes (.functionLevelReset fn) s fun t =>
        t.hif fn.val F.HifStat.bme = 0 ∧ t.hif fn.val F.HifStat.mse = 0 ∧ t.hif fn.val F.HifStat.dState = 0
          ∧ t.rd (fnReg fn.val R.hifOvr) = 0 ∧ t.rd (fnReg fn.val R.hifWin) = 0 ∧ t.rd (fnReg fn.val R.hifDrop) = 0
          ∧ t.hif fn.val F.HifStat.flrs = min (2 ^ F.HifStat.flrs.wid - 1) (s.hif fn.val F.HifStat.flrs + 1)
          ∧ (t.fn fn.val).fifo = (s.fn fn.val).fifo)

/-- Mailboxes (R350): a host's word is stored while its mailbox is free, and sets H2F_FULL and clears ACKED; while it is full it is discarded, recorded in MBX_LOG
and in AER and answered as an Unsupported Request; an acknowledgement empties the mailbox and gives its code, and before a write in the same step it lets the
write be stored; firmware's word is stored while the F2H mailbox is free and is a bus error while it is full; a 1 written to an F2H_FULL bit releases it, before a write of
firmware in the same step, a 0 does nothing; reading a mailbox changes nothing. (MBX_LOG.DISCARDS is RC by R349, log 33; the owed replies of R346 go out
at a release.) -/
def Obligations.Mailboxes : Prop :=
  (∀ (fn : Sv) (i : Fin 32) (v : W64) (s : State), s.hostIn fn.val = true →
    bitOf (s.fld (fnReg fn.val R.mbxFull) F.MbxFull.h2fFull) i.val = false →
    completes (.mbxH2fWrite fn i v) s fun t =>
      t.rd (fnReg fn.val (R.mbxH2f i.val)) = v
        ∧ t.fld (fnReg fn.val R.mbxFull) F.MbxFull.h2fFull = s.fld (fnReg fn.val R.mbxFull) F.MbxFull.h2fFull ||| 2 ^ i.val
        ∧ t.fld (fnReg fn.val R.mbxFull) F.MbxFull.f2hFull = s.fld (fnReg fn.val R.mbxFull) F.MbxFull.f2hFull
        ∧ t.fld (fnReg fn.val (R.mbxAck i.val)) F.MbxAck.acked = 0
        ∧ s.keepsRegs t [fnReg fn.val (R.mbxH2f i.val), fnReg fn.val R.mbxFull, fnReg fn.val (R.mbxAck i.val)] ∧ s.keeps t [.regs])
    ∧ (∀ (fn : Sv) (i : Fin 32) (v : W64) (s : State), s.hostIn fn.val = true →
      bitOf (s.fld (fnReg fn.val R.mbxFull) F.MbxFull.h2fFull) i.val = true →
      completes (.mbxH2fWrite fn i v) s fun t =>
        t.fld (fnReg fn.val R.mbxLog) F.MbxLog.discards
            = min (2 ^ F.MbxLog.discards.wid - 1) (s.fld (fnReg fn.val R.mbxLog) F.MbxLog.discards + 1)
          ∧ t.fld (fnReg fn.val R.mbxLog) F.MbxLog.lastIdx = i.val ∧ t.fld (fnReg fn.val R.mbxLog) F.MbxLog.lastLo = v.toNat % 2 ^ 32
          ∧ t.fn fn.val = { s.fn fn.val with unsupported := some (R.mbxH2f i.val, v) }
          ∧ t.outs = s.outs ++ [.unsupported fn.val 0 (R.mbxH2f i.val)] ∧ s.keepsRegs t [fnReg fn.val R.mbxLog]
          ∧ s.keeps t [.regs, .host, .outs])
    ∧ (∀ (fn : Sv) (i : Fin 32) (code : Nat) (s : State),
      completes (.mbxAck fn i code) s fun t =>
        bitOf (t.fld (fnReg fn.val R.mbxFull) F.MbxFull.h2fFull) i.val = false
          ∧ (∀ j, j < 32 → j ≠ i.val → bitOf (t.fld (fnReg fn.val R.mbxFull) F.MbxFull.h2fFull) j
            = bitOf (s.fld (fnReg fn.val R.mbxFull) F.MbxFull.h2fFull) j)
          ∧ t.fld (fnReg fn.val R.mbxFull) F.MbxFull.f2hFull = s.fld (fnReg fn.val R.mbxFull) F.MbxFull.f2hFull
          ∧ t.fld (fnReg fn.val (R.mbxAck i.val)) F.MbxAck.acked = 1
          ∧ t.fld (fnReg fn.val (R.mbxAck i.val)) F.MbxAck.code = code % 2 ^ 16
          ∧ s.keepsRegs t [fnReg fn.val R.mbxFull, fnReg fn.val (R.mbxAck i.val)] ∧ s.keeps t [.regs])
    ∧ (∀ (fn : Sv) (i : Fin 32) (code : Nat) (v : W64) (s : State), s.hostIn fn.val = true →
      completes (.mbxAck fn i code) s fun t => completes (.mbxH2fWrite fn i v) t fun u =>
        u.rd (fnReg fn.val (R.mbxH2f i.val)) = v ∧ bitOf (u.fld (fnReg fn.val R.mbxFull) F.MbxFull.h2fFull) i.val = true)
    ∧ (∀ (fn : Sv) (i : Fin 32) (v : W64) (s : State), s.f2hFull fn.val i.val = true →
      completes (.mbxF2hWrite fn i v) s fun t => t.outs = s.outs ++ [.fwBusError fn.val (R.mbxF2h i.val)] ∧ s.keeps t [.outs])
    ∧ (∀ (fn : Sv) (i : Fin 32) (v : W64) (s : State), s.f2hFull fn.val i.val = false →
      completes (.mbxF2hWrite fn i v) s fun t =>
        t.rd (fnReg fn.val (R.mbxF2h i.val)) = v ∧ t.f2hFull fn.val i.val = true
          ∧ t.fld (fnReg fn.val R.mbxFull) F.MbxFull.h2fFull = s.fld (fnReg fn.val R.mbxFull) F.MbxFull.h2fFull
          ∧ s.keepsRegs t [fnReg fn.val (R.mbxF2h i.val), fnReg fn.val R.mbxFull] ∧ s.keeps t [.regs])
    ∧ (∀ (fn : Sv) (v : W64) (s : State), s.hostIn fn.val = true → (s.fn fn.val).owed = [] →
      completes (.mbxFullRelease fn v) s fun t =>
        (∀ j, j < 32 → t.f2hFull fn.val j = (s.f2hFull fn.val j && !bitOf (F.MbxFull.f2hFull.get v) j))
          ∧ t.fld (fnReg fn.val R.mbxFull) F.MbxFull.h2fFull = s.fld (fnReg fn.val R.mbxFull) F.MbxFull.h2fFull
          ∧ s.keepsRegs t [fnReg fn.val R.mbxFull])
    ∧ (∀ (fn : Sv) (i : Fin 32) (v x : W64) (s : State), s.hostIn fn.val = true → (s.fn fn.val).owed = [] →
      bitOf (F.MbxFull.f2hFull.get v) i.val = true →
      completes (.mbxFullRelease fn v) s fun t => completes (.mbxF2hWrite fn i x) t fun u =>
        u.rd (fnReg fn.val (R.mbxF2h i.val)) = x ∧ u.f2hFull fn.val i.val = true)
    ∧ (∀ (fn : Sv) (i : Fin 32) (off : Nat) (s : State), s.hostIn fn.val = true →
      off = R.mbxH2f i.val ∨ off = R.mbxF2h i.val ∨ off = R.mbxAck i.val ∨ off = R.mbxFull →
      completes (.rcRead fn off) s fun t => t.outs = s.outs ++ [.readReply ⟨8, (s.rd (fnReg fn.val off)).toNat⟩] ∧ s.keeps t [.outs])

/-! ## The sideband -/

/-- The sideband (R353 to R358): a byte received on the console, or written to CON_TXD while HOST_IN is 1, joins the input unless 64 wait, when OVR counts it; a low stop bit counts FE, a bad
parity bit PE, a break sets BREAK alone; a read of CON_CAP gives the oldest captured byte and removes it. The I3C target answers at its dynamic
address, which ENTDAA, SETDASA and SETNEWDA give and RSTDAA takes away; reading the queued event removes it; ENEC and DISEC turn IBIs on and off. The TAP shows IDCODE and
the instrument network; EXTEST, CLAMP and HIGHZ act only under COLD_RST_N, and without it BYPASS is selected and the attempt recorded. (The lengths of R356's
commands are the MIPI ones, log 23.) -/
def Obligations.Sideband : Prop :=
  (∀ (sv : Sv) (a : BitVec 8) (pb : Bool) (stop : StopLine) (s : State), stop = .high ∨ stop = .edgeAt9 →
    parityOk (s.fld (R.conCfg sv.val) F.ConCfg.parity) a pb = true → (s.conInput sv.val).length < 64 →
    completes (.uartFrameReceive sv a a a pb stop) s fun t =>
      t.conInput sv.val = s.conInput sv.val ++ [a.toNat] ∧ s.keeps t [.side])
    ∧ (∀ (sv : Sv) (a b : BitVec 8) (pb : Bool) (stop : StopLine) (s : State),
      exec (.uartFrameReceive sv a a b pb stop) s = exec (.uartFrameReceive sv a a a pb stop) s)
    ∧ (∀ (sv : Sv) (a : BitVec 8) (pb : Bool) (stop : StopLine) (s : State), stop = .low ∨ stop = .edgeAt8 →
      parityOk (s.fld (R.conCfg sv.val) F.ConCfg.parity) a pb = true → (s.conInput sv.val).length < 64 →
      completes (.uartFrameReceive sv a a a pb stop) s fun t =>
        t.conInput sv.val = s.conInput sv.val ++ [a.toNat]
          ∧ t.fld (R.conStat sv.val) F.ConStat.fe = min (2 ^ F.ConStat.fe.wid - 1) (s.fld (R.conStat sv.val) F.ConStat.fe + 1)
          ∧ s.keepsRegs t [R.conStat sv.val] ∧ s.keeps t [.regs, .side])
    ∧ (∀ (sv : Sv) (a b c : BitVec 8) (pb : Bool) (s : State),
      completes (.uartFrameReceive sv a b c pb .breakLow) s fun t =>
        t.fld (R.conStat sv.val) F.ConStat.break = 1 ∧ s.keepsRegs t [R.conStat sv.val] ∧ s.keeps t [.regs])
    ∧ (∀ (fn sv : Sv) (v : W64) (s : State), s.hostIn fn.val = true → s.fld (R.conCfg sv.val) F.ConCfg.hostIn = 1 →
      ((s.conInput sv.val).length < 64 → completes (.conTxdWrite fn sv v) s fun t =>
          t.conInput sv.val = s.conInput sv.val ++ [v.toNat % 256] ∧ s.keeps t [.side])
        ∧ (64 ≤ (s.conInput sv.val).length → completes (.conTxdWrite fn sv v) s fun t =>
          t.fld (R.conStat sv.val) F.ConStat.ovr = min (2 ^ F.ConStat.ovr.wid - 1) (s.fld (R.conStat sv.val) F.ConStat.ovr + 1)
            ∧ s.keepsRegs t [R.conStat sv.val] ∧ s.keeps t [.regs]))
    ∧ (∀ (fn sv : Sv) (v : W64) (s : State), s.fld (R.conCfg sv.val) F.ConCfg.hostIn = 0 → exec (.conTxdWrite fn sv v) s = .next s)
    ∧ (∀ (fn sv : Sv) (s : State), s.hostIn fn.val = true →
      (s.conCaptured sv.val = [] → completes (.conCapRead fn sv) s fun t => t.outs = s.outs ++ [.readReply ⟨8, 0⟩] ∧ s.keeps t [.outs])
        ∧ ∀ b rest, s.conCaptured sv.val = b :: rest → completes (.conCapRead fn sv) s fun t =>
          t.outs = s.outs ++ [.readReply ⟨8, 256 + b % 256⟩] ∧ t.conCaptured sv.val = rest ∧ s.keeps t [.side, .outs])
    ∧ (∀ (o : BitVec 8) (n : Nat) (s : State), s.side.i3cAddr.isSome = true →
      (completes (.i3cPrivateWrite [o]) s fun t => t.side = { s.side with i3cOffset := o.toNat } ∧ s.keeps t [.side])
        ∧ completes (.i3cPrivateRead n) s fun t =>
          t.side.i3cQueue = (if s.side.i3cOffset ≤ 0x20 ∧ 0x20 < s.side.i3cOffset + min n s.side.i3cMrl then s.side.i3cQueue.drop 1
              else s.side.i3cQueue)
            ∧ (∃ w, t.outs = s.outs ++ [.readReply (Blob.ofBytes ((List.range (min n s.side.i3cMrl)).map (fun i =>
              s.i3cByte w (s.side.i3cOffset + i))))]) ∧ s.keeps t [.side, .freeCtr, .outs])
    ∧ (∀ (l : List (BitVec 8)) (n : Nat) (a : BitVec 7) (s : State), s.side.i3cAddr = none →
      ∀ i, i ∈ [.i3cPrivateWrite l, .i3cPrivateRead n, .setnewda a, .getpid, .getbcr, .getdcr, .getstatus, .getmwl, .getmrl] →
        completes i s fun t => t.outs = s.outs ++ [.nack] ∧ s.keeps t [.outs])
    ∧ (∀ s : State, completes (.enec true) s fun t => t.side = { s.side with i3cIbi := true } ∧ s.keeps t [.side])
    ∧ (∀ s : State, completes (.disec true) s fun t => t.side = { s.side with i3cIbi := false } ∧ s.keeps t [.side])
    ∧ (∀ s : State, exec (.enec false) s = .next s ∧ exec (.disec false) s = .next s)
    ∧ (∀ s : State, completes .rstdaa s fun t => t.side = { s.side with i3cAddr := none } ∧ s.keeps t [.side])
    ∧ (∀ (a : BitVec 7) (s : State), s.side.i3cAddr = none →
      (completes (.entdaa a) s fun t => t.side = { s.side with i3cAddr := some a.toNat } ∧ s.keeps t [.side, .outs])
        ∧ completes (.setdasa 0x5A a) s fun t => t.side = { s.side with i3cAddr := some a.toNat } ∧ s.keeps t [.side])
    ∧ (∀ (a : BitVec 7) (s : State), s.side.i3cAddr.isSome = true →
      (completes (.setnewda a) s fun t => t.side = { s.side with i3cAddr := some a.toNat } ∧ s.keeps t [.side])
        ∧ exec (.entdaa a) s = .next s)
    ∧ (∀ s : State, s.side.i3cAddr.isSome = true →
      (completes .getpid s fun t =>
          t.outs = s.outs ++ [.readReply (Blob.ofBytes [0x0B, 0xE6, 0x0A, 0x10, 0x00, 0x00])] ∧ s.keeps t [.outs])
        ∧ (completes .getbcr s fun t => t.outs = s.outs ++ [.readReply ⟨1, 0x06⟩] ∧ s.keeps t [.outs])
        ∧ (completes .getdcr s fun t => t.outs = s.outs ++ [.readReply ⟨1, 0x00⟩] ∧ s.keeps t [.outs])
        ∧ (completes .getstatus s fun t => (∃ b, b < 65536 ∧ t.outs = s.outs ++ [.readReply ⟨2, b⟩]) ∧ s.keeps t [.freeCtr, .outs])
        ∧ (completes .getmwl s fun t =>
          t.outs = s.outs ++ [.readReply (Blob.ofBytes [s.side.i3cMwl / 256, s.side.i3cMwl % 256])] ∧ s.keeps t [.outs])
        ∧ completes .getmrl s fun t =>
          t.outs = s.outs ++ [.readReply (Blob.ofBytes [s.side.i3cMrl / 256, s.side.i3cMrl % 256, 8])] ∧ s.keeps t [.outs])
    ∧ (∀ (n : BitVec 16) (s : State),
      (completes (.setmwl n) s fun t => t.side = { s.side with i3cMwl := n.toNat } ∧ s.keeps t [.side])
        ∧ completes (.setmrl n) s fun t => t.side = { s.side with i3cMrl := n.toNat } ∧ s.keeps t [.side])
    ∧ (∀ s : State, exec (.rstact 0) s = .next s
      ∧ (completes (.rstact 1) s fun t => t.side.i3cAddr = none ∧ t.side.i3cOffset = 0 ∧ t.side.i3cQueue = s.side.i3cQueue ∧ s.keeps t [.side])
      ∧ ∀ a, a ≠ 0 → a ≠ 1 → completes (.rstact a) s fun t => t.outs = s.outs ++ [.nack] ∧ s.keeps t [.outs])
    ∧ (∀ s : State, completes .tapReset s fun t => t.side = { s.side with jtagIr := 0x01 } ∧ s.keeps t [.side])
    ∧ (∀ s : State, completes .idcode s fun t =>
      t.outs = s.outs ++ [.tdo (if s.fuses.stepLetter = 0xA then 0x10A1058B else 0x20A1058B) 32]
        ∧ t.side = { s.side with jtagIr := 0x01 } ∧ s.keeps t [.side, .outs])
    ∧ (∀ (n : Nat) (s : State), completes (.samplePreload n) s fun t =>
      t.side = { s.side with jtagIr := 0x02, jtagBoundary := n } ∧ s.keeps t [.side, .freeCtr, .outs])
    ∧ (∀ (a : Nat) (b : Blob) (s : State), s.pins.coldRst = true → a + b.len ≤ flashBytes →
      (completes (.extest (some (false, a, b))) s fun t =>
          t.side = { s.side with jtagIr := 0x03, flashA := memWrite s.side.flashA a b.len b.val } ∧ s.keeps t [.side])
        ∧ (completes .clamp s fun t => t.side = { s.side with jtagIr := 0x04 } ∧ s.keeps t [.side])
        ∧ completes .highz s fun t => t.side = { s.side with jtagIr := 0x05 } ∧ s.keeps t [.side])
    ∧ (∀ (f : Option (Bool × Nat × Blob)) (s : State), s.pins.coldRst = false →
      exec (.extest f) s = .next ((s.selectIr irBypass).keeperRec 0 (dKeeper 0) 0x03)
        ∧ exec .clamp s = .next ((s.selectIr irBypass).keeperRec 0 (dKeeper 0) 0x04)
        ∧ exec .highz s = .next ((s.selectIr irBypass).keeperRec 0 (dKeeper 0) 0x05))
    ∧ (∀ (n : Nat) (s : State), completes (.ijtag n) s fun t =>
      t.outs = s.outs ++ [.tdo s.side.jtagNet 64]
        ∧ t.side = { s.side with jtagIr := 0x10, jtagNet := if s.side.jtagUnlocked then n else s.side.jtagNet } ∧ s.keeps t [.side, .outs])
    ∧ (∀ (n : Nat) (s : State), completes (.bypass n) s fun t => t.side = { s.side with jtagIr := 0xFF } ∧ s.keeps t [.side])

/-! ## Supervision -/

/-- A voter's new state after a CAMPAIGN that reaches it (R362). -/
def campaigned (s : State) (sv term v : Nat) : Voter :=
  if (s.voter v).promised < term
      ∧ ((s.voter v).expiry + 10000 < s.dieNow (s.voterDie v) ∨ (s.voter v).holder = sv)
    then ⟨term, sv, s.dieNow (s.voterDie v) + 2000000⟩ else s.voter v

/-- Leases (R361 to R364, R366): every voter that a supervisor reaches answers its CAMPAIGN, RENEW or RESIGN, and changes exactly when the rule grants it; a voter
that it does not reach keeps its vote; two grants of a CAMPAIGN, after the start, make it the LEADER and name the boundary at which the fences adopt the term, fewer
make it back off for 20 to 50 µs; a renewal gives the fences of its term that two granting voters reach the new expiry at once; a term
notice is kept for its boundary; when the lease runs out nobody is LEADER.
That a renewal moves the fences at once is the model's reading (log 34). -/
def Obligations.Leases : Prop :=
  (∀ (sv : Sv) (term : Nat) (s : State),
    completes (.campaign sv term) s fun t =>
      (∀ v, v ∈ s.votersOf (dSup sv.val) → t.voter v = campaigned s sv.val term v)
        ∧ ∀ v, v ∉ s.votersOf (dSup sv.val) → t.voter v = s.voter v)
    ∧ (∀ (sv : Sv) (term : Nat) (s : State), s.stage ≠ 5 →
      2 ≤ ((s.votersOf (dSup sv.val)).filter (fun v => decide (campaigned s sv.val term v ≠ s.voter v))).length →
      completes (.campaign sv term) s fun t =>
        t.svState sv.val = 4 ∧ t.svState (1 - sv.val) ≠ 4 ∧ t.sup.adoptTurn = s.noticeTurn ∧ t.sup.backoff.get (fun _ => none) sv.val = none
          ∧ t.outs = s.outs ++ (s.votersOf (dSup sv.val)).map (fun v =>
            .voteReply v sv.val term (decide (campaigned s sv.val term v ≠ s.voter v)))
          ∧ t.sup.fences = s.sup.fences ∧ s.keepsRegs t [R.svLeaseLog, R.glbSvStat 0, R.glbSvStat 1] ∧ s.keeps t [.regs, .sup, .outs])
    ∧ (∀ (sv : Sv) (term : Nat) (s : State),
      ((s.votersOf (dSup sv.val)).filter (fun v => decide (campaigned s sv.val term v ≠ s.voter v))).length < 2 →
      completes (.campaign sv term) s fun t =>
        (∃ b, t.sup.backoff.get (fun _ => none) sv.val = some b ∧ s.tb.tick + 20000 ≤ b ∧ b ≤ s.tb.tick + 50000)
          ∧ t.sup.fences = s.sup.fences ∧ s.keepsRegs t [R.svLeaseLog] ∧ s.keeps t [.regs, .sup, .freeCtr, .outs])
    ∧ (∀ (sv : Sv) (term : Nat) (s : State),
      completes (.renew sv term) s fun t =>
        (∀ v, v ∈ s.votersOf (dSup sv.val) → t.voter v
            = (if (s.voter v).promised = term ∧ (s.voter v).holder = sv.val
              then { s.voter v with expiry := s.dieNow (s.voterDie v) + 2000000 } else s.voter v))
          ∧ (∀ v, v ∉ s.votersOf (dSup sv.val) → t.voter v = s.voter v)
          ∧ (∀ d, d < 100 → (s.fence d).term ≠ term → t.fence d = s.fence d)
          ∧ (∀ d, d < 100 → (s.fence d).term = term →
            2 ≤ (((s.votersOf (dSup sv.val)).filter (fun v => decide ((s.voter v).promised = term) && decide ((s.voter v).holder = sv.val))).filter
              (fun v => s.reaches d (s.voterDie v))).length → t.fence d = { s.fence d with expiry := s.tb.tick + 2000000 })
          ∧ s.keepsRegs t [R.svLeaseLog])
    ∧ (∀ (sv : Sv) (term : Nat) (s : State),
      completes (.resign sv term) s fun t =>
        (∀ v, v ∈ s.votersOf (dSup sv.val) → t.voter v
            = (if (s.voter v).promised = term ∧ (s.voter v).holder = sv.val
              then { s.voter v with expiry := s.dieNow (s.voterDie v) } else s.voter v))
          ∧ (∀ v, v ∉ s.votersOf (dSup sv.val) → t.voter v = s.voter v)
          ∧ (2 ≤ ((s.votersOf (dSup sv.val)).filter (fun v =>
              decide ((s.voter v).promised = term) && decide ((s.voter v).holder = sv.val))).length → s.svState sv.val = 4 →
            t.svState sv.val = 3)
          ∧ s.keepsRegs t [R.svLeaseLog, R.glbSvStat sv.val])
    ∧ (∀ (d : Die) (v : Fin 3) (s : State), (s.voter v.val).promised = 0 ∨ s.reaches (s.voterDie v.val) d.val = false →
      exec (.termNotice d v) s = .next s)
    ∧ (∀ (d : Die) (v : Fin 3) (s : State), (s.fence d.val).term < (s.voter v.val).promised →
      s.reaches (s.voterDie v.val) d.val = true →
      completes (.termNotice d v) s fun t =>
        (t.fence d.val).term = (s.fence d.val).term
          ∧ (v.val, (s.voter v.val).promised, (s.voter v.val).expiry, s.sup.adoptTurn) ∈ (t.fence d.val).notices ∧ s.keeps t [.sup])
    ∧ (∀ s : State, s.leader.isSome = true → exec .leaseExpiry s = .next s)
    ∧ (∀ s : State, s.leader = none →
      completes .leaseExpiry s fun t =>
        t.svState 0 ≠ 4 ∧ t.svState 1 ≠ 4 ∧ s.keepsRegs t [R.glbSvStat 0, R.glbSvStat 1] ∧ s.keeps t [.regs])
    ∧ (∀ (sv : Sv) (s : State), s.sup.backoff.get (fun _ => none) sv.val = none → exec (.campaignBackoffExpiry sv) s = .next s)
    ∧ (∀ (sv : Sv) (b : Nat) (s : State), s.sup.backoff.get (fun _ => none) sv.val = some b → s.leader = none →
      exec (.campaignBackoffExpiry sv) s
        = .next ((s.withSup (fun u => { u with backoff := u.backoff.set (fun _ => none) sv.val none })).campaign sv.val
            (1 + (s.votersOf (dSup sv.val)).foldl (fun m u => max m (s.voter u).promised) 0)))
    ∧ (∀ (sv : Sv) (b : Nat) (s : State), s.sup.backoff.get (fun _ => none) sv.val = some b → s.leader.isSome = true →
      completes (.campaignBackoffExpiry sv) s fun t =>
        t.sup = { s.sup with backoff := s.sup.backoff.set (fun _ => none) sv.val none } ∧ s.keeps t [.sup])

/-- Handover, restarts and the seam (R368 to R371, R374, R386, R389): HANDOVER to a READY successor for a turn 3 to 2^20 ahead waits for that turn with the voters that take part; CANCEL_HANDOVER
withdraws it; RESTART boots a supervisor that holds no term; one that is READY reports its version; a cut truncates every fence's expiry and drops the notices it holds; a seam that heals names a
catch-up boundary; a warm restart boots both supervisors and restores what was retired until one, and the keepers start it when the part is confirmed and nobody leads.
a cut also keeps for the half with one voter the jobs as they stand (the model's form, log 48). SOURCE of the seam's record is the model's (log 40). -/
def Obligations.HandoverAndSeam : Prop :=
  (∀ (w : Writer) (n x term h e : Nat) (s : State), s.judge w s.glbDie = .applied → n < 2 → s.svState n = 3 →
    s.tb.turn + 3 ≤ s.turnNamed (x % 2 ^ 32) → s.turnNamed (x % 2 ^ 32) ≤ s.tb.turn + 2 ^ 20 → s.img.active = none → s.imgState ≠ 5 →
    s.imgState ≠ 6 → s.majority = some (term, h, e) →
    2 ≤ ((s.votersOf (dSup h)).filter (fun v => decide ((s.voter v).promised = term) && decide ((s.voter v).holder = h)
      && decide (s.tb.tick + 10000 < s.turnTick (s.turnNamed (x % 2 ^ 32))))).length →
    completes (.handover w n x) s fun t =>
      (∃ vs, t.sup = { s.sup with handover := some ⟨n, s.turnNamed (x % 2 ^ 32), term, vs⟩ }) ∧ s.keeps t [.sup])
    ∧ (∀ (w : Writer) (n x : Nat) (s : State), s.judge w s.glbDie = .applied →
      2 ≤ n ∨ s.svState n ≠ 3 ∨ s.turnNamed (x % 2 ^ 32) < s.tb.turn + 3 ∨ s.imgState = 5 ∨ s.imgState = 6 →
      completes (.handover w n x) s fun t =>
        t.fld R.glbSvCtl F.GlbSvCtl.cmdRefused = 1 ∧ s.keepsRegs t [R.glbSvCtl] ∧ s.keeps t [.regs])
    ∧ (∀ (w : Writer) (h : Handover) (s : State), s.judge w s.glbDie = .applied → s.sup.handover = some h →
      (s.tb.tick + 10000 ≤ s.turnTick h.turn →
        completes (.cancelHandover w) s fun t => t.sup = { s.sup with handover := none } ∧ s.keeps t [.sup])
        ∧ (s.turnTick h.turn < s.tb.tick + 10000 → completes (.cancelHandover w) s fun t =>
          t.fld R.glbSvCtl F.GlbSvCtl.cmdRefused = 1 ∧ s.keeps t [.regs]))
    ∧ (∀ (w : Writer) (n : Nat) (b : Bool) (s : State), s.judge w s.glbDie = .applied → n < 2 →
      s.majority.any (fun m => decide (m.2.1 = n)) = false → (s.die (dSup n)).failed = false →
      completes (.svRestart w n b) s fun t =>
        t.svState n = 1 ∧ t.fld (R.glbSvStat n) F.GlbSvStat.copy = b2n b
          ∧ t.fld (R.glbSvStat n) F.GlbSvStat.restarts
            = min (2 ^ F.GlbSvStat.restarts.wid - 1) (s.fld (R.glbSvStat n) F.GlbSvStat.restarts + 1)
          ∧ t.sup.backoff.get (fun _ => none) n = none ∧ s.keepsRegs t [R.glbSvStat n] ∧ s.keeps t [.regs, .sup])
    ∧ (∀ (w : Writer) (n : Nat) (b : Bool) (s : State), s.judge w s.glbDie = .applied →
      2 ≤ n ∨ s.majority.any (fun m => decide (m.2.1 = n)) = true →
      completes (.svRestart w n b) s fun t =>
        t.fld R.glbSvCtl F.GlbSvCtl.cmdRefused = 1 ∧ s.keepsRegs t [R.glbSvCtl] ∧ s.keeps t [.regs])
    ∧ (∀ (sv : Sv) (s : State), s.svState sv.val = 1 ∨ s.svState sv.val = 2 → s.boot.mainDone = true →
      (completes (.supervisorReady sv true) s fun t =>
          t.svState sv.val = 3
            ∧ t.fld (R.glbSvStat sv.val) F.GlbSvStat.major = (s.bootRec (s.fld (R.glbSvStat sv.val) F.GlbSvStat.copy)).byte 12
            ∧ s.keepsRegs t [R.glbSvStat sv.val] ∧ s.keeps t [.regs])
        ∧ exec (.supervisorReady sv false) s = .next (s.svFailed sv.val))
    ∧ (∀ (sv : Sv) (ok : Bool) (s : State), s.svState sv.val ≠ 1 → s.svState sv.val ≠ 2 → exec (.supervisorReady sv ok) s = .next s)
    ∧ (∀ (l : List (Fin 12 × Nat)) (s : State), s.sup.seam ≠ .cut →
      completes (.seamCut l) s fun t =>
        t.sup.seam = .cut ∧ t.sup.healTurn = none
          ∧ (∀ d, d < 100 → s.fence d ≠ ⟨0, 0, []⟩ →
            t.fence d = { s.fence d with expiry := min (s.fence d).expiry (s.dieNow d), notices := [] })
          ∧ t.sup.voters = s.sup.voters
          ∧ (s.jobs.frozen = none → t.jobs = { s.jobs with frozen := some (1 - dieHalf (dBridge s.sup.vbridge), s.jobs.jobs) }))
    ∧ (∀ s : State, s.sup.seam ≠ .cut → exec .seamHeal s = .next s)
    ∧ (∀ (s : State) (b : Nat), s.sup.seam = .cut → b ∈ [5, 6] → (s.die (dBridge b)).failed = false →
      completes .seamHeal s fun t =>
        t.sup.seam = .healing ∧ t.sup.healTurn = some s.catchUpTurn
          ∧ (∀ d, d < 100 → (t.fence d).term = (s.fence d).term))
    ∧ (∀ s : State, s.fld R.glbBoot F.GlbBoot.confirmed = 0 ∨ s.leader.isSome = true ∨ s.tb.tick < s.lastLease + 100000000 →
      exec .noLeaderTimeout s = .next s)
    ∧ (∀ s : State, s.fld R.glbBoot F.GlbBoot.confirmed = 1 → s.leader = none → s.lastLease + 100000000 ≤ s.tb.tick →
      exec .noLeaderTimeout s = .next s.capture.warmRestart)
    ∧ (∀ s : State, s.fld R.glbBoot F.GlbBoot.confirmed = 1 → s.leader = none → s.lastLease + 100000000 ≤ s.tb.tick →
      completes .noLeaderTimeout s fun t =>
        (∀ v, v < 2 → (s.die (dSup v)).failed = false → t.svState v = 1) ∧ t.err.captured.isSome = true ∧ t.err.retiredGrains = []
          ∧ t.err.retiredCtxs = [] ∧ t.sup.handover = none
          ∧ t.fld R.glbEscStat F.GlbEscStat.warmRestarts
            = min (2 ^ F.GlbEscStat.warmRestarts.wid - 1) (s.fld R.glbEscStat F.GlbEscStat.warmRestarts + 1)
          ∧ t.jobs = s.jobs ∧ t.ctxs = s.ctxs ∧ t.ports = s.ports)
    ∧ (∀ (w : Writer) (s : State), s.judge w s.glbDie = .applied →
      completes (.warmRestart w) s fun t =>
        (∀ v, v < 2 → (s.die (dSup v)).failed = false →
          t.svState v = 1 ∧ t.fld (R.glbSvStat v) F.GlbSvStat.copy = s.fld (R.glbSvStat v) F.GlbSvStat.copy)
          ∧ t.sup.handover = none ∧ t.err.retiredGrains = [] ∧ t.err.retiredCtxs = [] ∧ t.jobs = s.jobs ∧ t.ctxs = s.ctxs ∧ t.ports = s.ports)
end

