-- ==== Sys2Proof/Laws/Crc.lean ====
section
/-! SUPPORT. Laws of the CRCs: the CRC-64 of a grain (R126) is a word of 64 bits. -/

namespace Sys2Proof

theorem crcLsbBits_lt {w poly : Nat} (hp : poly < 2 ^ w) (n : Nat) : ∀ r, r < 2 ^ w → crcLsbBits poly n r < 2 ^ w := by
  induction n with
  | zero => exact fun r hr => hr
  | succ n ih =>
    intro r hr
    have hs : r >>> 1 < 2 ^ w := Nat.lt_of_le_of_lt (Nat.shiftRight_le r 1) hr
    rw [crcLsbBits]
    exact ih _ (by split <;> [exact Nat.xor_lt_two_pow hs hp; exact hs])

theorem crcLsb_lt {w poly : Nat} (hp : poly < 2 ^ w) (m : List Nat) :
    ∀ init, init < 2 ^ w → (∀ b, b ∈ m → b < 2 ^ w) → crcLsb poly init m < 2 ^ w := by
  unfold crcLsb
  induction m with
  | nil => exact fun init hi _ => hi
  | cons b m ih =>
    intro init hi hm
    exact ih _ (crcLsbBits_lt hp 8 _ (Nat.xor_lt_two_pow hi (hm b (by simp)))) (fun c hc => hm c (by simp [hc]))

theorem beBytes_lt (n v : Nat) : ∀ b, b ∈ beBytes n v → b < 256 := by
  induction n with
  | zero => simp [beBytes]
  | succ n ih =>
    intro b h
    simp only [beBytes, List.mem_cons] at h
    rcases h with h | h
    · omega
    · exact ih b h

theorem Blob.bytesFrom_lt (v : Blob) (n : Nat) : ∀ i b, b ∈ v.bytesFrom i n → b < 256 := by
  induction n with
  | zero => simp [Blob.bytesFrom]
  | succ n ih =>
    intro i b h
    simp only [Blob.bytesFrom, List.mem_cons] at h
    rcases h with h | h
    · rw [h, Blob.byte, bitsOf]
      exact Nat.mod_lt _ (by decide)
    · exact ih _ b h

end Sys2Proof

namespace Sys2Proof.Machine

theorem crc64_lt {m : List Nat} (h : ∀ b, b ∈ m → b < 256) : crc64 m < 2 ^ 64 :=
  Nat.xor_lt_two_pow (crcLsb_lt (by decide) m _ (by decide) (fun b hb => Nat.lt_trans (h b hb) (by decide))) (by decide)

theorem grainCrc_lt (word : Nat) (d : Grain) (len : Nat) : grainCrc word d len < 2 ^ 64 :=
  crc64_lt fun b hb => (List.mem_append.mp hb).elim (beBytes_lt 8 word b) (Blob.bytesFrom_lt _ _ _ b)

/-- A tag word made of a grain word of 0 and a CRC holds that CRC. -/
theorem tag_of_crc (d : Grain) (len : Nat) :
    (BitVec.ofNat 128 (grainCrc 0 d len)).toNat / 2 ^ 64 = 0
      ∧ grainCrc ((BitVec.ofNat 128 (grainCrc 0 d len)).toNat / 2 ^ 64) d len = (BitVec.ofNat 128 (grainCrc 0 d len)).toNat % 2 ^ 64 := by
  have h := grainCrc_lt 0 d len
  have e : (BitVec.ofNat 128 (grainCrc 0 d len)).toNat = grainCrc 0 d len :=
    (BitVec.toNat_ofNat _ _).trans (Nat.mod_eq_of_lt (Nat.lt_trans h (by decide)))
  rw [e, Nat.div_eq_of_lt h, Nat.mod_eq_of_lt h]
  exact ⟨rfl, rfl⟩

end Sys2Proof.Machine
end

