-- ==== Sys2Proof/Laws/Field.lean ====
section
/-! SUPPORT. Laws of register fields: what a field reads after itself, or another field of the word, has been written. -/

namespace Sys2Proof.Machine

/-- A field that lies within the 64 bits of its register. -/
def Fld.ok (f : Fld) : Bool := decide (f.lo ≤ f.hi) && decide (f.hi < 64)

/-- Two fields that share no bit. -/
def Fld.apart (f g : Fld) : Bool := decide (f.hi < g.lo) || decide (g.hi < f.lo)

theorem bitsOf_testBit (n lo wid i : Nat) : (bitsOf n lo wid).testBit i = (decide (i < wid) && n.testBit (lo + i)) := by
  simp [bitsOf, Nat.testBit_mod_two_pow, Nat.testBit_shiftRight]

theorem Fld.mask_bit (f : Fld) (i : Nat) (h : i < 64) :
    f.mask.getLsbD i = (decide (f.lo ≤ i) && decide (i - f.lo < f.wid)) := by
  simp only [Fld.mask, BitVec.getLsbD_shiftLeft, h, BitVec.getLsbD_ofNat, decide_true, Bool.true_and]
  by_cases hl : i < f.lo
  · simp [hl, Nat.not_le.mpr hl]
  · have : i - f.lo < 64 := by omega
    simp [hl, Nat.not_lt.mp hl, this, Nat.testBit_two_pow_sub_one]

theorem Fld.put_bit (f : Fld) (v : W64) (x i : Nat) (h : i < 64) :
    (f.put v x).getLsbD i = if f.lo ≤ i ∧ i - f.lo < f.wid then x.testBit (i - f.lo) else v.getLsbD i := by
  simp only [Fld.put, BitVec.getLsbD_or, BitVec.getLsbD_and, BitVec.getLsbD_not, Fld.mask_bit f i h, BitVec.getLsbD_shiftLeft,
    BitVec.getLsbD_ofNat, h, decide_true, Bool.true_and]
  by_cases h1 : f.lo ≤ i
  · by_cases h2 : i - f.lo < f.wid
    · have : i - f.lo < 64 := by omega
      simp [h1, h2, this, Nat.not_lt.mpr h1]
    · simp [h1, h2]
  · simp [h1]

/-- A field reads what was written to it, modulo its width. -/
theorem Fld.get_put (f : Fld) (v : W64) (x : Nat) (h : f.ok = true) : f.get (f.put v x) = x % 2 ^ f.wid := by
  simp only [Fld.ok, Bool.and_eq_true, decide_eq_true_eq] at h
  apply Nat.eq_of_testBit_eq
  intro i
  simp only [Fld.get, bitsOf_testBit, Nat.testBit_mod_two_pow, BitVec.testBit_toNat]
  by_cases hi : i < f.wid
  · have h64 : f.lo + i < 64 := by simp only [Fld.wid] at hi; omega
    rw [Fld.put_bit f v x _ h64]
    simp [hi]
  · simp [hi]

/-- A field reads as before after a write of a field that it shares no bit with. -/
theorem Fld.get_put_apart (f g : Fld) (v : W64) (x : Nat) (h : f.apart g = true) : f.get (g.put v x) = f.get v := by
  simp only [Fld.apart, Bool.or_eq_true, decide_eq_true_eq] at h
  apply Nat.eq_of_testBit_eq
  intro i
  simp only [Fld.get, bitsOf_testBit, BitVec.testBit_toNat]
  by_cases hi : i < f.wid
  · by_cases h64 : f.lo + i < 64
    · rw [Fld.put_bit g v x _ h64]
      have : ¬ (g.lo ≤ f.lo + i ∧ f.lo + i - g.lo < g.wid) := by
        simp only [Fld.wid] at hi ⊢
        omega
      simp [this]
    · simp [BitVec.getLsbD_of_ge _ _ (Nat.not_lt.mp h64)]
  · simp [hi]

/-- A field holds less than 2 to the power of its width. -/
theorem Fld.get_lt (f : Fld) (v : W64) : f.get v < 2 ^ f.wid := Nat.mod_lt _ (Nat.two_pow_pos _)

end Sys2Proof.Machine
end

