-- ==== Sys2Proof/Laws/Table.lean ====
section
/-! SUPPORT. Laws of sparse tables: reading after writing, and the canonical form that every write keeps. -/

namespace Sys2Proof

variable {α : Type}

theorem Tbl.get_del (d : Nat → α) (t : Tbl α) (k j : Nat) :
    (t.del k).get d j = if j = k then d k else t.get d j := by
  induction t with
  | nil => by_cases h : j = k <;> simp [Tbl.del, Tbl.get, h]
  | cons e t ih =>
    obtain ⟨i, v⟩ := e
    simp only [Tbl.del]
    split
    · next h => subst h; rw [ih]; by_cases hj : j = k <;> simp [Tbl.get, hj]
    · next h =>
      simp only [Tbl.get, ih]
      by_cases hj : j = i
      · subst hj; simp [Ne.symm h]
      · simp [hj]

theorem Tbl.get_put (d : Nat → α) (t : Tbl α) (k j : Nat) (v : α) :
    (t.put k v).get d j = if j = k then v else t.get d j := by
  induction t with
  | nil => simp [Tbl.put, Tbl.get]
  | cons e t ih =>
    obtain ⟨i, w⟩ := e
    simp only [Tbl.put]
    split
    · next h => subst h; by_cases hj : j = k <;> simp [Tbl.get, hj]
    · split
      · simp [Tbl.get]
      · next h _ =>
        simp only [Tbl.get, ih]
        by_cases hj : j = i
        · subst hj; simp [Ne.symm h]
        · simp [hj]

/-- Reading a table after writing one entry. -/
theorem Tbl.get_set [DecidableEq α] (d : Nat → α) (t : Tbl α) (k j : Nat) (v : α) :
    (t.set d k v).get d j = if j = k then v else t.get d j := by
  simp only [Tbl.set]
  split
  · next h => rw [Tbl.get_del, h]
  · rw [Tbl.get_put]

@[simp] theorem Tbl.get_set_same [DecidableEq α] (d : Nat → α) (t : Tbl α) (k : Nat) (v : α) :
    (t.set d k v).get d k = v := by simp [Tbl.get_set]

theorem Tbl.get_set_ne [DecidableEq α] (d : Nat → α) (t : Tbl α) (k j : Nat) (v : α) (h : j ≠ k) :
    (t.set d k v).get d j = t.get d j := by simp [Tbl.get_set, h]

@[simp] theorem Tbl.get_nil (d : Nat → α) (k : Nat) : Tbl.get d [] k = d k := rfl

/-- Reading a table after changing one entry. -/
theorem Tbl.get_modify [DecidableEq α] (d : Nat → α) (t : Tbl α) (k j : Nat) (f : α → α) :
    (t.modify d k f).get d j = if j = k then f (t.get d k) else t.get d j := by
  rw [Tbl.modify, Tbl.get_set]

@[simp] theorem Tbl.get_modify_same [DecidableEq α] (d : Nat → α) (t : Tbl α) (k : Nat) (f : α → α) :
    (t.modify d k f).get d k = f (t.get d k) := by simp [Tbl.get_modify]

/-! ## The canonical form -/

theorem Tbl.risesFrom_mono {a b : Nat} (h : a ≤ b) : ∀ {t : Tbl α}, Tbl.risesFrom b t = true → Tbl.risesFrom a t = true
  | [], _ => rfl
  | (j, _) :: t, hr => by
    simp only [Tbl.risesFrom, Bool.and_eq_true, decide_eq_true_eq] at hr ⊢
    exact ⟨by omega, hr.2⟩

theorem Tbl.risesFrom_del (k : Nat) : ∀ {t : Tbl α} {a : Nat}, Tbl.risesFrom a t = true → Tbl.risesFrom a (t.del k) = true
  | [], _, _ => rfl
  | (j, v) :: t, a, hr => by
    simp only [Tbl.risesFrom, Bool.and_eq_true, decide_eq_true_eq] at hr
    simp only [Tbl.del]
    split
    · exact Tbl.risesFrom_mono (Nat.le_of_lt hr.1) (Tbl.risesFrom_del k hr.2)
    · simp only [Tbl.risesFrom, Bool.and_eq_true, decide_eq_true_eq]
      exact ⟨hr.1, Tbl.risesFrom_del k hr.2⟩

theorem Tbl.risesFrom_put (k : Nat) (v : α) :
    ∀ {t : Tbl α} {a : Nat}, a < k → Tbl.risesFrom a t = true → Tbl.risesFrom a (t.put k v) = true
  | [], a, h, _ => by simp [Tbl.put, Tbl.risesFrom, h]
  | (j, w) :: t, a, h, hr => by
    simp only [Tbl.risesFrom, Bool.and_eq_true, decide_eq_true_eq] at hr
    simp only [Tbl.put]
    split
    · next hk => subst hk; simp [Tbl.risesFrom, h, hr.2]
    · split
      · next hlt => simp [Tbl.risesFrom, h, hlt, hr.2]
      · next hk hlt =>
        simp only [Tbl.risesFrom, Bool.and_eq_true, decide_eq_true_eq]
        exact ⟨hr.1, Tbl.risesFrom_put k v (by omega) hr.2⟩

theorem Tbl.rises_del (k : Nat) (t : Tbl α) (h : t.rises = true) : (t.del k).rises = true := by
  cases t with
  | nil => rfl
  | cons e t =>
    obtain ⟨j, v⟩ := e
    simp only [Tbl.rises] at h
    simp only [Tbl.del]
    split
    · have h1 := Tbl.risesFrom_del k h
      cases hd : Tbl.del t k with
      | nil => rfl
      | cons e' t' =>
        rw [hd] at h1
        simp only [Tbl.risesFrom, Bool.and_eq_true, decide_eq_true_eq] at h1
        exact h1.2
    · exact Tbl.risesFrom_del k h

theorem Tbl.rises_put (k : Nat) (v : α) (t : Tbl α) (h : t.rises = true) : (t.put k v).rises = true := by
  cases t with
  | nil => rfl
  | cons e t =>
    obtain ⟨j, w⟩ := e
    simp only [Tbl.rises] at h
    simp only [Tbl.put]
    split
    · next hk => subst hk; exact h
    · split
      · next hlt => simp [Tbl.rises, Tbl.risesFrom, hlt, h]
      · next hk hlt => exact Tbl.risesFrom_put k v (by omega) h

theorem Tbl.mem_del {k : Nat} {e : Nat × α} : ∀ {t : Tbl α}, e ∈ t.del k → e ∈ t
  | [], h => h
  | (j, v) :: t, h => by
    simp only [Tbl.del] at h
    split at h
    · exact List.mem_cons_of_mem _ (Tbl.mem_del h)
    · rcases List.mem_cons.mp h with rfl | h
      · exact List.mem_cons_self
      · exact List.mem_cons_of_mem _ (Tbl.mem_del h)

theorem Tbl.mem_put {k : Nat} {v : α} {e : Nat × α} : ∀ {t : Tbl α}, e ∈ t.put k v → e = (k, v) ∨ e ∈ t
  | [], h => by simpa [Tbl.put] using h
  | (j, w) :: t, h => by
    simp only [Tbl.put] at h
    split at h
    · rcases List.mem_cons.mp h with rfl | h
      · exact .inl rfl
      · exact .inr (List.mem_cons_of_mem _ h)
    · split at h
      · rcases List.mem_cons.mp h with rfl | h
        · exact .inl rfl
        · exact .inr h
      · rcases List.mem_cons.mp h with rfl | h
        · exact .inr List.mem_cons_self
        · rcases Tbl.mem_put h with rfl | h
          · exact .inl rfl
          · exact .inr (List.mem_cons_of_mem _ h)

/-- A write keeps the canonical form. -/
theorem Tbl.wf_set [DecidableEq α] (d : Nat → α) (t : Tbl α) (k : Nat) (v : α) (h : t.wf d = true) :
    (t.set d k v).wf d = true := by
  simp only [Tbl.wf, Bool.and_eq_true, List.all_eq_true, decide_eq_true_eq] at h ⊢
  simp only [Tbl.set]
  split
  · exact ⟨Tbl.rises_del k t h.1, fun e he => h.2 e (Tbl.mem_del he)⟩
  · next hv =>
    refine ⟨Tbl.rises_put k v t h.1, fun e he => ?_⟩
    rcases Tbl.mem_put he with rfl | he
    · exact hv
    · exact h.2 e he

theorem Tbl.risesFrom_filter (p : Nat × α → Bool) :
    ∀ {t : Tbl α} {a : Nat}, Tbl.risesFrom a t = true → Tbl.risesFrom a (t.filter p) = true
  | [], _, _ => rfl
  | (j, v) :: t, a, hr => by
    simp only [Tbl.risesFrom, Bool.and_eq_true, decide_eq_true_eq] at hr
    rw [List.filter_cons]
    split
    · simp only [Tbl.risesFrom, Bool.and_eq_true, decide_eq_true_eq]
      exact ⟨hr.1, Tbl.risesFrom_filter p hr.2⟩
    · exact Tbl.risesFrom_mono (Nat.le_of_lt hr.1) (Tbl.risesFrom_filter p hr.2)

/-- Taking entries away keeps the canonical form. -/
theorem Tbl.wf_filter [DecidableEq α] (d : Nat → α) (t : Tbl α) (p : Nat × α → Bool) (h : t.wf d = true) :
    Tbl.wf d (t.filter p) = true := by
  simp only [Tbl.wf, Bool.and_eq_true, List.all_eq_true, decide_eq_true_eq] at h ⊢
  refine ⟨?_, fun e he => h.2 e (List.mem_filter.mp he).1⟩
  cases t with
  | nil => rfl
  | cons e t =>
    obtain ⟨j, v⟩ := e
    have hr := h.1
    simp only [Tbl.rises] at hr
    rw [List.filter_cons]
    split
    · exact Tbl.risesFrom_filter p hr
    · have h1 := Tbl.risesFrom_filter p hr
      cases hf : t.filter p with
      | nil => rfl
      | cons e' t' =>
        rw [hf] at h1
        simp only [Tbl.risesFrom, Bool.and_eq_true, decide_eq_true_eq] at h1
        exact h1.2

end Sys2Proof
end

