-- ==== Sys2Proof/Laws/State.lean ====
section
/-! SUPPORT. Laws of the state: what each named update leaves unchanged, field by field, and what is read after it. -/

namespace Sys2Proof.Machine

variable (s : State)

/-! ## wr -/

@[simp] theorem State.wr_fuses (off : Nat) (v : W64) : (s.wr off v).fuses = s.fuses := rfl
@[simp] theorem State.wr_pins (off : Nat) (v : W64) : (s.wr off v).pins = s.pins := rfl
@[simp] theorem State.wr_tb (off : Nat) (v : W64) : (s.wr off v).tb = s.tb := rfl
@[simp] theorem State.wr_dies (off : Nat) (v : W64) : (s.wr off v).dies = s.dies := rfl
@[simp] theorem State.wr_pdPend (off : Nat) (v : W64) : (s.wr off v).pdPend = s.pdPend := rfl
@[simp] theorem State.wr_wakes (off : Nat) (v : W64) : (s.wr off v).wakes = s.wakes := rfl
@[simp] theorem State.wr_img (off : Nat) (v : W64) : (s.wr off v).img = s.img := rfl
@[simp] theorem State.wr_sup (off : Nat) (v : W64) : (s.wr off v).sup = s.sup := rfl
@[simp] theorem State.wr_err (off : Nat) (v : W64) : (s.wr off v).err = s.err := rfl
@[simp] theorem State.wr_side (off : Nat) (v : W64) : (s.wr off v).side = s.side := rfl
@[simp] theorem State.wr_boot (off : Nat) (v : W64) : (s.wr off v).boot = s.boot := rfl
@[simp] theorem State.wr_host (off : Nat) (v : W64) : (s.wr off v).host = s.host := rfl
@[simp] theorem State.wr_bench (off : Nat) (v : W64) : (s.wr off v).bench = s.bench := rfl
@[simp] theorem State.wr_ports (off : Nat) (v : W64) : (s.wr off v).ports = s.ports := rfl
@[simp] theorem State.wr_lanes (off : Nat) (v : W64) : (s.wr off v).lanes = s.lanes := rfl
@[simp] theorem State.wr_spares (off : Nat) (v : W64) : (s.wr off v).spares = s.spares := rfl
@[simp] theorem State.wr_head (off : Nat) (v : W64) : (s.wr off v).head = s.head := rfl
@[simp] theorem State.wr_jobs (off : Nat) (v : W64) : (s.wr off v).jobs = s.jobs := rfl
@[simp] theorem State.wr_ctxs (off : Nat) (v : W64) : (s.wr off v).ctxs = s.ctxs := rfl
@[simp] theorem State.wr_lathes (off : Nat) (v : W64) : (s.wr off v).lathes = s.lathes := rfl
@[simp] theorem State.wr_near (off : Nat) (v : W64) : (s.wr off v).near = s.near := rfl
@[simp] theorem State.wr_far (off : Nat) (v : W64) : (s.wr off v).far = s.far := rfl
@[simp] theorem State.wr_nearBurr (off : Nat) (v : W64) : (s.wr off v).nearBurr = s.nearBurr := rfl
@[simp] theorem State.wr_farBurr (off : Nat) (v : W64) : (s.wr off v).farBurr = s.farBurr := rfl
@[simp] theorem State.wr_freeCtr (off : Nat) (v : W64) : (s.wr off v).freeCtr = s.freeCtr := rfl
@[simp] theorem State.wr_outs (off : Nat) (v : W64) : (s.wr off v).outs = s.outs := rfl
@[simp] theorem State.wr_pending (off : Nat) (v : W64) : (s.wr off v).pending = s.pending := rfl

/-! ## setFld -/

@[simp] theorem State.setFld_fuses (off : Nat) (f : Fld) (x : Nat) : (s.setFld off f x).fuses = s.fuses := rfl
@[simp] theorem State.setFld_pins (off : Nat) (f : Fld) (x : Nat) : (s.setFld off f x).pins = s.pins := rfl
@[simp] theorem State.setFld_tb (off : Nat) (f : Fld) (x : Nat) : (s.setFld off f x).tb = s.tb := rfl
@[simp] theorem State.setFld_dies (off : Nat) (f : Fld) (x : Nat) : (s.setFld off f x).dies = s.dies := rfl
@[simp] theorem State.setFld_pdPend (off : Nat) (f : Fld) (x : Nat) : (s.setFld off f x).pdPend = s.pdPend := rfl
@[simp] theorem State.setFld_wakes (off : Nat) (f : Fld) (x : Nat) : (s.setFld off f x).wakes = s.wakes := rfl
@[simp] theorem State.setFld_img (off : Nat) (f : Fld) (x : Nat) : (s.setFld off f x).img = s.img := rfl
@[simp] theorem State.setFld_sup (off : Nat) (f : Fld) (x : Nat) : (s.setFld off f x).sup = s.sup := rfl
@[simp] theorem State.setFld_err (off : Nat) (f : Fld) (x : Nat) : (s.setFld off f x).err = s.err := rfl
@[simp] theorem State.setFld_side (off : Nat) (f : Fld) (x : Nat) : (s.setFld off f x).side = s.side := rfl
@[simp] theorem State.setFld_boot (off : Nat) (f : Fld) (x : Nat) : (s.setFld off f x).boot = s.boot := rfl
@[simp] theorem State.setFld_host (off : Nat) (f : Fld) (x : Nat) : (s.setFld off f x).host = s.host := rfl
@[simp] theorem State.setFld_bench (off : Nat) (f : Fld) (x : Nat) : (s.setFld off f x).bench = s.bench := rfl
@[simp] theorem State.setFld_ports (off : Nat) (f : Fld) (x : Nat) : (s.setFld off f x).ports = s.ports := rfl
@[simp] theorem State.setFld_lanes (off : Nat) (f : Fld) (x : Nat) : (s.setFld off f x).lanes = s.lanes := rfl
@[simp] theorem State.setFld_spares (off : Nat) (f : Fld) (x : Nat) : (s.setFld off f x).spares = s.spares := rfl
@[simp] theorem State.setFld_head (off : Nat) (f : Fld) (x : Nat) : (s.setFld off f x).head = s.head := rfl
@[simp] theorem State.setFld_jobs (off : Nat) (f : Fld) (x : Nat) : (s.setFld off f x).jobs = s.jobs := rfl
@[simp] theorem State.setFld_ctxs (off : Nat) (f : Fld) (x : Nat) : (s.setFld off f x).ctxs = s.ctxs := rfl
@[simp] theorem State.setFld_lathes (off : Nat) (f : Fld) (x : Nat) : (s.setFld off f x).lathes = s.lathes := rfl
@[simp] theorem State.setFld_near (off : Nat) (f : Fld) (x : Nat) : (s.setFld off f x).near = s.near := rfl
@[simp] theorem State.setFld_far (off : Nat) (f : Fld) (x : Nat) : (s.setFld off f x).far = s.far := rfl
@[simp] theorem State.setFld_nearBurr (off : Nat) (f : Fld) (x : Nat) : (s.setFld off f x).nearBurr = s.nearBurr := rfl
@[simp] theorem State.setFld_farBurr (off : Nat) (f : Fld) (x : Nat) : (s.setFld off f x).farBurr = s.farBurr := rfl
@[simp] theorem State.setFld_freeCtr (off : Nat) (f : Fld) (x : Nat) : (s.setFld off f x).freeCtr = s.freeCtr := rfl
@[simp] theorem State.setFld_outs (off : Nat) (f : Fld) (x : Nat) : (s.setFld off f x).outs = s.outs := rfl
@[simp] theorem State.setFld_pending (off : Nat) (f : Fld) (x : Nat) : (s.setFld off f x).pending = s.pending := rfl

/-! ## countBy -/

@[simp] theorem State.countBy_fuses (off : Nat) (f : Fld) (n : Nat) : (s.countBy off f n).fuses = s.fuses := rfl
@[simp] theorem State.countBy_pins (off : Nat) (f : Fld) (n : Nat) : (s.countBy off f n).pins = s.pins := rfl
@[simp] theorem State.countBy_tb (off : Nat) (f : Fld) (n : Nat) : (s.countBy off f n).tb = s.tb := rfl
@[simp] theorem State.countBy_dies (off : Nat) (f : Fld) (n : Nat) : (s.countBy off f n).dies = s.dies := rfl
@[simp] theorem State.countBy_pdPend (off : Nat) (f : Fld) (n : Nat) : (s.countBy off f n).pdPend = s.pdPend := rfl
@[simp] theorem State.countBy_wakes (off : Nat) (f : Fld) (n : Nat) : (s.countBy off f n).wakes = s.wakes := rfl
@[simp] theorem State.countBy_img (off : Nat) (f : Fld) (n : Nat) : (s.countBy off f n).img = s.img := rfl
@[simp] theorem State.countBy_sup (off : Nat) (f : Fld) (n : Nat) : (s.countBy off f n).sup = s.sup := rfl
@[simp] theorem State.countBy_err (off : Nat) (f : Fld) (n : Nat) : (s.countBy off f n).err = s.err := rfl
@[simp] theorem State.countBy_side (off : Nat) (f : Fld) (n : Nat) : (s.countBy off f n).side = s.side := rfl
@[simp] theorem State.countBy_boot (off : Nat) (f : Fld) (n : Nat) : (s.countBy off f n).boot = s.boot := rfl
@[simp] theorem State.countBy_host (off : Nat) (f : Fld) (n : Nat) : (s.countBy off f n).host = s.host := rfl
@[simp] theorem State.countBy_bench (off : Nat) (f : Fld) (n : Nat) : (s.countBy off f n).bench = s.bench := rfl
@[simp] theorem State.countBy_ports (off : Nat) (f : Fld) (n : Nat) : (s.countBy off f n).ports = s.ports := rfl
@[simp] theorem State.countBy_lanes (off : Nat) (f : Fld) (n : Nat) : (s.countBy off f n).lanes = s.lanes := rfl
@[simp] theorem State.countBy_spares (off : Nat) (f : Fld) (n : Nat) : (s.countBy off f n).spares = s.spares := rfl
@[simp] theorem State.countBy_head (off : Nat) (f : Fld) (n : Nat) : (s.countBy off f n).head = s.head := rfl
@[simp] theorem State.countBy_jobs (off : Nat) (f : Fld) (n : Nat) : (s.countBy off f n).jobs = s.jobs := rfl
@[simp] theorem State.countBy_ctxs (off : Nat) (f : Fld) (n : Nat) : (s.countBy off f n).ctxs = s.ctxs := rfl
@[simp] theorem State.countBy_lathes (off : Nat) (f : Fld) (n : Nat) : (s.countBy off f n).lathes = s.lathes := rfl
@[simp] theorem State.countBy_near (off : Nat) (f : Fld) (n : Nat) : (s.countBy off f n).near = s.near := rfl
@[simp] theorem State.countBy_far (off : Nat) (f : Fld) (n : Nat) : (s.countBy off f n).far = s.far := rfl
@[simp] theorem State.countBy_nearBurr (off : Nat) (f : Fld) (n : Nat) : (s.countBy off f n).nearBurr = s.nearBurr := rfl
@[simp] theorem State.countBy_farBurr (off : Nat) (f : Fld) (n : Nat) : (s.countBy off f n).farBurr = s.farBurr := rfl
@[simp] theorem State.countBy_freeCtr (off : Nat) (f : Fld) (n : Nat) : (s.countBy off f n).freeCtr = s.freeCtr := rfl
@[simp] theorem State.countBy_outs (off : Nat) (f : Fld) (n : Nat) : (s.countBy off f n).outs = s.outs := rfl
@[simp] theorem State.countBy_pending (off : Nat) (f : Fld) (n : Nat) : (s.countBy off f n).pending = s.pending := rfl

/-! ## count -/

@[simp] theorem State.count_fuses (off : Nat) (f : Fld) : (s.count off f).fuses = s.fuses := rfl
@[simp] theorem State.count_pins (off : Nat) (f : Fld) : (s.count off f).pins = s.pins := rfl
@[simp] theorem State.count_tb (off : Nat) (f : Fld) : (s.count off f).tb = s.tb := rfl
@[simp] theorem State.count_dies (off : Nat) (f : Fld) : (s.count off f).dies = s.dies := rfl
@[simp] theorem State.count_pdPend (off : Nat) (f : Fld) : (s.count off f).pdPend = s.pdPend := rfl
@[simp] theorem State.count_wakes (off : Nat) (f : Fld) : (s.count off f).wakes = s.wakes := rfl
@[simp] theorem State.count_img (off : Nat) (f : Fld) : (s.count off f).img = s.img := rfl
@[simp] theorem State.count_sup (off : Nat) (f : Fld) : (s.count off f).sup = s.sup := rfl
@[simp] theorem State.count_err (off : Nat) (f : Fld) : (s.count off f).err = s.err := rfl
@[simp] theorem State.count_side (off : Nat) (f : Fld) : (s.count off f).side = s.side := rfl
@[simp] theorem State.count_boot (off : Nat) (f : Fld) : (s.count off f).boot = s.boot := rfl
@[simp] theorem State.count_host (off : Nat) (f : Fld) : (s.count off f).host = s.host := rfl
@[simp] theorem State.count_bench (off : Nat) (f : Fld) : (s.count off f).bench = s.bench := rfl
@[simp] theorem State.count_ports (off : Nat) (f : Fld) : (s.count off f).ports = s.ports := rfl
@[simp] theorem State.count_lanes (off : Nat) (f : Fld) : (s.count off f).lanes = s.lanes := rfl
@[simp] theorem State.count_spares (off : Nat) (f : Fld) : (s.count off f).spares = s.spares := rfl
@[simp] theorem State.count_head (off : Nat) (f : Fld) : (s.count off f).head = s.head := rfl
@[simp] theorem State.count_jobs (off : Nat) (f : Fld) : (s.count off f).jobs = s.jobs := rfl
@[simp] theorem State.count_ctxs (off : Nat) (f : Fld) : (s.count off f).ctxs = s.ctxs := rfl
@[simp] theorem State.count_lathes (off : Nat) (f : Fld) : (s.count off f).lathes = s.lathes := rfl
@[simp] theorem State.count_near (off : Nat) (f : Fld) : (s.count off f).near = s.near := rfl
@[simp] theorem State.count_far (off : Nat) (f : Fld) : (s.count off f).far = s.far := rfl
@[simp] theorem State.count_nearBurr (off : Nat) (f : Fld) : (s.count off f).nearBurr = s.nearBurr := rfl
@[simp] theorem State.count_farBurr (off : Nat) (f : Fld) : (s.count off f).farBurr = s.farBurr := rfl
@[simp] theorem State.count_freeCtr (off : Nat) (f : Fld) : (s.count off f).freeCtr = s.freeCtr := rfl
@[simp] theorem State.count_outs (off : Nat) (f : Fld) : (s.count off f).outs = s.outs := rfl
@[simp] theorem State.count_pending (off : Nat) (f : Fld) : (s.count off f).pending = s.pending := rfl

/-! ## raiseMax -/

@[simp] theorem State.raiseMax_fuses (off : Nat) (f : Fld) (x : Nat) : (s.raiseMax off f x).fuses = s.fuses := rfl
@[simp] theorem State.raiseMax_pins (off : Nat) (f : Fld) (x : Nat) : (s.raiseMax off f x).pins = s.pins := rfl
@[simp] theorem State.raiseMax_tb (off : Nat) (f : Fld) (x : Nat) : (s.raiseMax off f x).tb = s.tb := rfl
@[simp] theorem State.raiseMax_dies (off : Nat) (f : Fld) (x : Nat) : (s.raiseMax off f x).dies = s.dies := rfl
@[simp] theorem State.raiseMax_pdPend (off : Nat) (f : Fld) (x : Nat) : (s.raiseMax off f x).pdPend = s.pdPend := rfl
@[simp] theorem State.raiseMax_wakes (off : Nat) (f : Fld) (x : Nat) : (s.raiseMax off f x).wakes = s.wakes := rfl
@[simp] theorem State.raiseMax_img (off : Nat) (f : Fld) (x : Nat) : (s.raiseMax off f x).img = s.img := rfl
@[simp] theorem State.raiseMax_sup (off : Nat) (f : Fld) (x : Nat) : (s.raiseMax off f x).sup = s.sup := rfl
@[simp] theorem State.raiseMax_err (off : Nat) (f : Fld) (x : Nat) : (s.raiseMax off f x).err = s.err := rfl
@[simp] theorem State.raiseMax_side (off : Nat) (f : Fld) (x : Nat) : (s.raiseMax off f x).side = s.side := rfl
@[simp] theorem State.raiseMax_boot (off : Nat) (f : Fld) (x : Nat) : (s.raiseMax off f x).boot = s.boot := rfl
@[simp] theorem State.raiseMax_host (off : Nat) (f : Fld) (x : Nat) : (s.raiseMax off f x).host = s.host := rfl
@[simp] theorem State.raiseMax_bench (off : Nat) (f : Fld) (x : Nat) : (s.raiseMax off f x).bench = s.bench := rfl
@[simp] theorem State.raiseMax_ports (off : Nat) (f : Fld) (x : Nat) : (s.raiseMax off f x).ports = s.ports := rfl
@[simp] theorem State.raiseMax_lanes (off : Nat) (f : Fld) (x : Nat) : (s.raiseMax off f x).lanes = s.lanes := rfl
@[simp] theorem State.raiseMax_spares (off : Nat) (f : Fld) (x : Nat) : (s.raiseMax off f x).spares = s.spares := rfl
@[simp] theorem State.raiseMax_head (off : Nat) (f : Fld) (x : Nat) : (s.raiseMax off f x).head = s.head := rfl
@[simp] theorem State.raiseMax_jobs (off : Nat) (f : Fld) (x : Nat) : (s.raiseMax off f x).jobs = s.jobs := rfl
@[simp] theorem State.raiseMax_ctxs (off : Nat) (f : Fld) (x : Nat) : (s.raiseMax off f x).ctxs = s.ctxs := rfl
@[simp] theorem State.raiseMax_lathes (off : Nat) (f : Fld) (x : Nat) : (s.raiseMax off f x).lathes = s.lathes := rfl
@[simp] theorem State.raiseMax_near (off : Nat) (f : Fld) (x : Nat) : (s.raiseMax off f x).near = s.near := rfl
@[simp] theorem State.raiseMax_far (off : Nat) (f : Fld) (x : Nat) : (s.raiseMax off f x).far = s.far := rfl
@[simp] theorem State.raiseMax_nearBurr (off : Nat) (f : Fld) (x : Nat) : (s.raiseMax off f x).nearBurr = s.nearBurr := rfl
@[simp] theorem State.raiseMax_farBurr (off : Nat) (f : Fld) (x : Nat) : (s.raiseMax off f x).farBurr = s.farBurr := rfl
@[simp] theorem State.raiseMax_freeCtr (off : Nat) (f : Fld) (x : Nat) : (s.raiseMax off f x).freeCtr = s.freeCtr := rfl
@[simp] theorem State.raiseMax_outs (off : Nat) (f : Fld) (x : Nat) : (s.raiseMax off f x).outs = s.outs := rfl
@[simp] theorem State.raiseMax_pending (off : Nat) (f : Fld) (x : Nat) : (s.raiseMax off f x).pending = s.pending := rfl

/-! ## emit -/

@[simp] theorem State.emit_fuses (o : Out) : (s.emit o).fuses = s.fuses := rfl
@[simp] theorem State.emit_pins (o : Out) : (s.emit o).pins = s.pins := rfl
@[simp] theorem State.emit_tb (o : Out) : (s.emit o).tb = s.tb := rfl
@[simp] theorem State.emit_regs (o : Out) : (s.emit o).regs = s.regs := rfl
@[simp] theorem State.emit_dies (o : Out) : (s.emit o).dies = s.dies := rfl
@[simp] theorem State.emit_pdPend (o : Out) : (s.emit o).pdPend = s.pdPend := rfl
@[simp] theorem State.emit_wakes (o : Out) : (s.emit o).wakes = s.wakes := rfl
@[simp] theorem State.emit_img (o : Out) : (s.emit o).img = s.img := rfl
@[simp] theorem State.emit_sup (o : Out) : (s.emit o).sup = s.sup := rfl
@[simp] theorem State.emit_err (o : Out) : (s.emit o).err = s.err := rfl
@[simp] theorem State.emit_side (o : Out) : (s.emit o).side = s.side := rfl
@[simp] theorem State.emit_boot (o : Out) : (s.emit o).boot = s.boot := rfl
@[simp] theorem State.emit_host (o : Out) : (s.emit o).host = s.host := rfl
@[simp] theorem State.emit_bench (o : Out) : (s.emit o).bench = s.bench := rfl
@[simp] theorem State.emit_ports (o : Out) : (s.emit o).ports = s.ports := rfl
@[simp] theorem State.emit_lanes (o : Out) : (s.emit o).lanes = s.lanes := rfl
@[simp] theorem State.emit_spares (o : Out) : (s.emit o).spares = s.spares := rfl
@[simp] theorem State.emit_head (o : Out) : (s.emit o).head = s.head := rfl
@[simp] theorem State.emit_jobs (o : Out) : (s.emit o).jobs = s.jobs := rfl
@[simp] theorem State.emit_ctxs (o : Out) : (s.emit o).ctxs = s.ctxs := rfl
@[simp] theorem State.emit_lathes (o : Out) : (s.emit o).lathes = s.lathes := rfl
@[simp] theorem State.emit_near (o : Out) : (s.emit o).near = s.near := rfl
@[simp] theorem State.emit_far (o : Out) : (s.emit o).far = s.far := rfl
@[simp] theorem State.emit_nearBurr (o : Out) : (s.emit o).nearBurr = s.nearBurr := rfl
@[simp] theorem State.emit_farBurr (o : Out) : (s.emit o).farBurr = s.farBurr := rfl
@[simp] theorem State.emit_freeCtr (o : Out) : (s.emit o).freeCtr = s.freeCtr := rfl
@[simp] theorem State.emit_pending (o : Out) : (s.emit o).pending = s.pending := rfl

/-! ## setDie -/

@[simp] theorem State.setDie_fuses (d : Nat) (f : DieSt → DieSt) : (s.setDie d f).fuses = s.fuses := rfl
@[simp] theorem State.setDie_pins (d : Nat) (f : DieSt → DieSt) : (s.setDie d f).pins = s.pins := rfl
@[simp] theorem State.setDie_tb (d : Nat) (f : DieSt → DieSt) : (s.setDie d f).tb = s.tb := rfl
@[simp] theorem State.setDie_regs (d : Nat) (f : DieSt → DieSt) : (s.setDie d f).regs = s.regs := rfl
@[simp] theorem State.setDie_pdPend (d : Nat) (f : DieSt → DieSt) : (s.setDie d f).pdPend = s.pdPend := rfl
@[simp] theorem State.setDie_wakes (d : Nat) (f : DieSt → DieSt) : (s.setDie d f).wakes = s.wakes := rfl
@[simp] theorem State.setDie_img (d : Nat) (f : DieSt → DieSt) : (s.setDie d f).img = s.img := rfl
@[simp] theorem State.setDie_sup (d : Nat) (f : DieSt → DieSt) : (s.setDie d f).sup = s.sup := rfl
@[simp] theorem State.setDie_err (d : Nat) (f : DieSt → DieSt) : (s.setDie d f).err = s.err := rfl
@[simp] theorem State.setDie_side (d : Nat) (f : DieSt → DieSt) : (s.setDie d f).side = s.side := rfl
@[simp] theorem State.setDie_boot (d : Nat) (f : DieSt → DieSt) : (s.setDie d f).boot = s.boot := rfl
@[simp] theorem State.setDie_host (d : Nat) (f : DieSt → DieSt) : (s.setDie d f).host = s.host := rfl
@[simp] theorem State.setDie_bench (d : Nat) (f : DieSt → DieSt) : (s.setDie d f).bench = s.bench := rfl
@[simp] theorem State.setDie_ports (d : Nat) (f : DieSt → DieSt) : (s.setDie d f).ports = s.ports := rfl
@[simp] theorem State.setDie_lanes (d : Nat) (f : DieSt → DieSt) : (s.setDie d f).lanes = s.lanes := rfl
@[simp] theorem State.setDie_spares (d : Nat) (f : DieSt → DieSt) : (s.setDie d f).spares = s.spares := rfl
@[simp] theorem State.setDie_head (d : Nat) (f : DieSt → DieSt) : (s.setDie d f).head = s.head := rfl
@[simp] theorem State.setDie_jobs (d : Nat) (f : DieSt → DieSt) : (s.setDie d f).jobs = s.jobs := rfl
@[simp] theorem State.setDie_ctxs (d : Nat) (f : DieSt → DieSt) : (s.setDie d f).ctxs = s.ctxs := rfl
@[simp] theorem State.setDie_lathes (d : Nat) (f : DieSt → DieSt) : (s.setDie d f).lathes = s.lathes := rfl
@[simp] theorem State.setDie_near (d : Nat) (f : DieSt → DieSt) : (s.setDie d f).near = s.near := rfl
@[simp] theorem State.setDie_far (d : Nat) (f : DieSt → DieSt) : (s.setDie d f).far = s.far := rfl
@[simp] theorem State.setDie_nearBurr (d : Nat) (f : DieSt → DieSt) : (s.setDie d f).nearBurr = s.nearBurr := rfl
@[simp] theorem State.setDie_farBurr (d : Nat) (f : DieSt → DieSt) : (s.setDie d f).farBurr = s.farBurr := rfl
@[simp] theorem State.setDie_freeCtr (d : Nat) (f : DieSt → DieSt) : (s.setDie d f).freeCtr = s.freeCtr := rfl
@[simp] theorem State.setDie_outs (d : Nat) (f : DieSt → DieSt) : (s.setDie d f).outs = s.outs := rfl
@[simp] theorem State.setDie_pending (d : Nat) (f : DieSt → DieSt) : (s.setDie d f).pending = s.pending := rfl

/-! ## setDom -/

@[simp] theorem State.setDom_fuses (n st : Nat) : (s.setDom n st).fuses = s.fuses := rfl
@[simp] theorem State.setDom_pins (n st : Nat) : (s.setDom n st).pins = s.pins := rfl
@[simp] theorem State.setDom_tb (n st : Nat) : (s.setDom n st).tb = s.tb := rfl
@[simp] theorem State.setDom_dies (n st : Nat) : (s.setDom n st).dies = s.dies := rfl
@[simp] theorem State.setDom_pdPend (n st : Nat) : (s.setDom n st).pdPend = s.pdPend := rfl
@[simp] theorem State.setDom_wakes (n st : Nat) : (s.setDom n st).wakes = s.wakes := rfl
@[simp] theorem State.setDom_img (n st : Nat) : (s.setDom n st).img = s.img := rfl
@[simp] theorem State.setDom_sup (n st : Nat) : (s.setDom n st).sup = s.sup := rfl
@[simp] theorem State.setDom_err (n st : Nat) : (s.setDom n st).err = s.err := rfl
@[simp] theorem State.setDom_side (n st : Nat) : (s.setDom n st).side = s.side := rfl
@[simp] theorem State.setDom_boot (n st : Nat) : (s.setDom n st).boot = s.boot := rfl
@[simp] theorem State.setDom_host (n st : Nat) : (s.setDom n st).host = s.host := rfl
@[simp] theorem State.setDom_bench (n st : Nat) : (s.setDom n st).bench = s.bench := rfl
@[simp] theorem State.setDom_ports (n st : Nat) : (s.setDom n st).ports = s.ports := rfl
@[simp] theorem State.setDom_lanes (n st : Nat) : (s.setDom n st).lanes = s.lanes := rfl
@[simp] theorem State.setDom_spares (n st : Nat) : (s.setDom n st).spares = s.spares := rfl
@[simp] theorem State.setDom_head (n st : Nat) : (s.setDom n st).head = s.head := rfl
@[simp] theorem State.setDom_jobs (n st : Nat) : (s.setDom n st).jobs = s.jobs := rfl
@[simp] theorem State.setDom_ctxs (n st : Nat) : (s.setDom n st).ctxs = s.ctxs := rfl
@[simp] theorem State.setDom_lathes (n st : Nat) : (s.setDom n st).lathes = s.lathes := rfl
@[simp] theorem State.setDom_near (n st : Nat) : (s.setDom n st).near = s.near := rfl
@[simp] theorem State.setDom_far (n st : Nat) : (s.setDom n st).far = s.far := rfl
@[simp] theorem State.setDom_nearBurr (n st : Nat) : (s.setDom n st).nearBurr = s.nearBurr := rfl
@[simp] theorem State.setDom_farBurr (n st : Nat) : (s.setDom n st).farBurr = s.farBurr := rfl
@[simp] theorem State.setDom_freeCtr (n st : Nat) : (s.setDom n st).freeCtr = s.freeCtr := rfl
@[simp] theorem State.setDom_outs (n st : Nat) : (s.setDom n st).outs = s.outs := rfl
@[simp] theorem State.setDom_pending (n st : Nat) : (s.setDom n st).pending = s.pending := rfl

/-! ## setWake -/

@[simp] theorem State.setWake_fuses (n : Nat) (w : Wake) : (s.setWake n w).fuses = s.fuses := rfl
@[simp] theorem State.setWake_pins (n : Nat) (w : Wake) : (s.setWake n w).pins = s.pins := rfl
@[simp] theorem State.setWake_tb (n : Nat) (w : Wake) : (s.setWake n w).tb = s.tb := rfl
@[simp] theorem State.setWake_regs (n : Nat) (w : Wake) : (s.setWake n w).regs = s.regs := rfl
@[simp] theorem State.setWake_dies (n : Nat) (w : Wake) : (s.setWake n w).dies = s.dies := rfl
@[simp] theorem State.setWake_pdPend (n : Nat) (w : Wake) : (s.setWake n w).pdPend = s.pdPend := rfl
@[simp] theorem State.setWake_img (n : Nat) (w : Wake) : (s.setWake n w).img = s.img := rfl
@[simp] theorem State.setWake_sup (n : Nat) (w : Wake) : (s.setWake n w).sup = s.sup := rfl
@[simp] theorem State.setWake_err (n : Nat) (w : Wake) : (s.setWake n w).err = s.err := rfl
@[simp] theorem State.setWake_side (n : Nat) (w : Wake) : (s.setWake n w).side = s.side := rfl
@[simp] theorem State.setWake_boot (n : Nat) (w : Wake) : (s.setWake n w).boot = s.boot := rfl
@[simp] theorem State.setWake_host (n : Nat) (w : Wake) : (s.setWake n w).host = s.host := rfl
@[simp] theorem State.setWake_bench (n : Nat) (w : Wake) : (s.setWake n w).bench = s.bench := rfl
@[simp] theorem State.setWake_ports (n : Nat) (w : Wake) : (s.setWake n w).ports = s.ports := rfl
@[simp] theorem State.setWake_lanes (n : Nat) (w : Wake) : (s.setWake n w).lanes = s.lanes := rfl
@[simp] theorem State.setWake_spares (n : Nat) (w : Wake) : (s.setWake n w).spares = s.spares := rfl
@[simp] theorem State.setWake_head (n : Nat) (w : Wake) : (s.setWake n w).head = s.head := rfl
@[simp] theorem State.setWake_jobs (n : Nat) (w : Wake) : (s.setWake n w).jobs = s.jobs := rfl
@[simp] theorem State.setWake_ctxs (n : Nat) (w : Wake) : (s.setWake n w).ctxs = s.ctxs := rfl
@[simp] theorem State.setWake_lathes (n : Nat) (w : Wake) : (s.setWake n w).lathes = s.lathes := rfl
@[simp] theorem State.setWake_near (n : Nat) (w : Wake) : (s.setWake n w).near = s.near := rfl
@[simp] theorem State.setWake_far (n : Nat) (w : Wake) : (s.setWake n w).far = s.far := rfl
@[simp] theorem State.setWake_nearBurr (n : Nat) (w : Wake) : (s.setWake n w).nearBurr = s.nearBurr := rfl
@[simp] theorem State.setWake_farBurr (n : Nat) (w : Wake) : (s.setWake n w).farBurr = s.farBurr := rfl
@[simp] theorem State.setWake_freeCtr (n : Nat) (w : Wake) : (s.setWake n w).freeCtr = s.freeCtr := rfl
@[simp] theorem State.setWake_outs (n : Nat) (w : Wake) : (s.setWake n w).outs = s.outs := rfl
@[simp] theorem State.setWake_pending (n : Nat) (w : Wake) : (s.setWake n w).pending = s.pending := rfl

/-! ## nearWrite -/

@[simp] theorem State.nearWrite_fuses (a : Nat) (b : Blob) : (s.nearWrite a b).fuses = s.fuses := rfl
@[simp] theorem State.nearWrite_pins (a : Nat) (b : Blob) : (s.nearWrite a b).pins = s.pins := rfl
@[simp] theorem State.nearWrite_tb (a : Nat) (b : Blob) : (s.nearWrite a b).tb = s.tb := rfl
@[simp] theorem State.nearWrite_regs (a : Nat) (b : Blob) : (s.nearWrite a b).regs = s.regs := rfl
@[simp] theorem State.nearWrite_dies (a : Nat) (b : Blob) : (s.nearWrite a b).dies = s.dies := rfl
@[simp] theorem State.nearWrite_pdPend (a : Nat) (b : Blob) : (s.nearWrite a b).pdPend = s.pdPend := rfl
@[simp] theorem State.nearWrite_wakes (a : Nat) (b : Blob) : (s.nearWrite a b).wakes = s.wakes := rfl
@[simp] theorem State.nearWrite_img (a : Nat) (b : Blob) : (s.nearWrite a b).img = s.img := rfl
@[simp] theorem State.nearWrite_sup (a : Nat) (b : Blob) : (s.nearWrite a b).sup = s.sup := rfl
@[simp] theorem State.nearWrite_err (a : Nat) (b : Blob) : (s.nearWrite a b).err = s.err := rfl
@[simp] theorem State.nearWrite_side (a : Nat) (b : Blob) : (s.nearWrite a b).side = s.side := rfl
@[simp] theorem State.nearWrite_boot (a : Nat) (b : Blob) : (s.nearWrite a b).boot = s.boot := rfl
@[simp] theorem State.nearWrite_host (a : Nat) (b : Blob) : (s.nearWrite a b).host = s.host := rfl
@[simp] theorem State.nearWrite_bench (a : Nat) (b : Blob) : (s.nearWrite a b).bench = s.bench := rfl
@[simp] theorem State.nearWrite_ports (a : Nat) (b : Blob) : (s.nearWrite a b).ports = s.ports := rfl
@[simp] theorem State.nearWrite_lanes (a : Nat) (b : Blob) : (s.nearWrite a b).lanes = s.lanes := rfl
@[simp] theorem State.nearWrite_spares (a : Nat) (b : Blob) : (s.nearWrite a b).spares = s.spares := rfl
@[simp] theorem State.nearWrite_head (a : Nat) (b : Blob) : (s.nearWrite a b).head = s.head := rfl
@[simp] theorem State.nearWrite_jobs (a : Nat) (b : Blob) : (s.nearWrite a b).jobs = s.jobs := rfl
@[simp] theorem State.nearWrite_ctxs (a : Nat) (b : Blob) : (s.nearWrite a b).ctxs = s.ctxs := rfl
@[simp] theorem State.nearWrite_lathes (a : Nat) (b : Blob) : (s.nearWrite a b).lathes = s.lathes := rfl
@[simp] theorem State.nearWrite_far (a : Nat) (b : Blob) : (s.nearWrite a b).far = s.far := rfl
@[simp] theorem State.nearWrite_farBurr (a : Nat) (b : Blob) : (s.nearWrite a b).farBurr = s.farBurr := rfl
@[simp] theorem State.nearWrite_freeCtr (a : Nat) (b : Blob) : (s.nearWrite a b).freeCtr = s.freeCtr := rfl
@[simp] theorem State.nearWrite_outs (a : Nat) (b : Blob) : (s.nearWrite a b).outs = s.outs := rfl
@[simp] theorem State.nearWrite_pending (a : Nat) (b : Blob) : (s.nearWrite a b).pending = s.pending := rfl

/-! ## farWrite -/

@[simp] theorem State.farWrite_fuses (a : Nat) (b : Blob) : (s.farWrite a b).fuses = s.fuses := rfl
@[simp] theorem State.farWrite_pins (a : Nat) (b : Blob) : (s.farWrite a b).pins = s.pins := rfl
@[simp] theorem State.farWrite_tb (a : Nat) (b : Blob) : (s.farWrite a b).tb = s.tb := rfl
@[simp] theorem State.farWrite_regs (a : Nat) (b : Blob) : (s.farWrite a b).regs = s.regs := rfl
@[simp] theorem State.farWrite_dies (a : Nat) (b : Blob) : (s.farWrite a b).dies = s.dies := rfl
@[simp] theorem State.farWrite_pdPend (a : Nat) (b : Blob) : (s.farWrite a b).pdPend = s.pdPend := rfl
@[simp] theorem State.farWrite_wakes (a : Nat) (b : Blob) : (s.farWrite a b).wakes = s.wakes := rfl
@[simp] theorem State.farWrite_img (a : Nat) (b : Blob) : (s.farWrite a b).img = s.img := rfl
@[simp] theorem State.farWrite_sup (a : Nat) (b : Blob) : (s.farWrite a b).sup = s.sup := rfl
@[simp] theorem State.farWrite_err (a : Nat) (b : Blob) : (s.farWrite a b).err = s.err := rfl
@[simp] theorem State.farWrite_side (a : Nat) (b : Blob) : (s.farWrite a b).side = s.side := rfl
@[simp] theorem State.farWrite_boot (a : Nat) (b : Blob) : (s.farWrite a b).boot = s.boot := rfl
@[simp] theorem State.farWrite_host (a : Nat) (b : Blob) : (s.farWrite a b).host = s.host := rfl
@[simp] theorem State.farWrite_bench (a : Nat) (b : Blob) : (s.farWrite a b).bench = s.bench := rfl
@[simp] theorem State.farWrite_ports (a : Nat) (b : Blob) : (s.farWrite a b).ports = s.ports := rfl
@[simp] theorem State.farWrite_lanes (a : Nat) (b : Blob) : (s.farWrite a b).lanes = s.lanes := rfl
@[simp] theorem State.farWrite_spares (a : Nat) (b : Blob) : (s.farWrite a b).spares = s.spares := rfl
@[simp] theorem State.farWrite_head (a : Nat) (b : Blob) : (s.farWrite a b).head = s.head := rfl
@[simp] theorem State.farWrite_jobs (a : Nat) (b : Blob) : (s.farWrite a b).jobs = s.jobs := rfl
@[simp] theorem State.farWrite_ctxs (a : Nat) (b : Blob) : (s.farWrite a b).ctxs = s.ctxs := rfl
@[simp] theorem State.farWrite_lathes (a : Nat) (b : Blob) : (s.farWrite a b).lathes = s.lathes := rfl
@[simp] theorem State.farWrite_near (a : Nat) (b : Blob) : (s.farWrite a b).near = s.near := rfl
@[simp] theorem State.farWrite_nearBurr (a : Nat) (b : Blob) : (s.farWrite a b).nearBurr = s.nearBurr := rfl
@[simp] theorem State.farWrite_freeCtr (a : Nat) (b : Blob) : (s.farWrite a b).freeCtr = s.freeCtr := rfl
@[simp] theorem State.farWrite_outs (a : Nat) (b : Blob) : (s.farWrite a b).outs = s.outs := rfl
@[simp] theorem State.farWrite_pending (a : Nat) (b : Blob) : (s.farWrite a b).pending = s.pending := rfl

/-! ## setErrq -/

@[simp] theorem State.setErrq_fuses (d : Nat) (q : List ErrRec) : (s.setErrq d q).fuses = s.fuses := rfl
@[simp] theorem State.setErrq_pins (d : Nat) (q : List ErrRec) : (s.setErrq d q).pins = s.pins := rfl
@[simp] theorem State.setErrq_tb (d : Nat) (q : List ErrRec) : (s.setErrq d q).tb = s.tb := rfl
@[simp] theorem State.setErrq_regs (d : Nat) (q : List ErrRec) : (s.setErrq d q).regs = s.regs := rfl
@[simp] theorem State.setErrq_dies (d : Nat) (q : List ErrRec) : (s.setErrq d q).dies = s.dies := rfl
@[simp] theorem State.setErrq_pdPend (d : Nat) (q : List ErrRec) : (s.setErrq d q).pdPend = s.pdPend := rfl
@[simp] theorem State.setErrq_wakes (d : Nat) (q : List ErrRec) : (s.setErrq d q).wakes = s.wakes := rfl
@[simp] theorem State.setErrq_img (d : Nat) (q : List ErrRec) : (s.setErrq d q).img = s.img := rfl
@[simp] theorem State.setErrq_sup (d : Nat) (q : List ErrRec) : (s.setErrq d q).sup = s.sup := rfl
@[simp] theorem State.setErrq_side (d : Nat) (q : List ErrRec) : (s.setErrq d q).side = s.side := rfl
@[simp] theorem State.setErrq_boot (d : Nat) (q : List ErrRec) : (s.setErrq d q).boot = s.boot := rfl
@[simp] theorem State.setErrq_host (d : Nat) (q : List ErrRec) : (s.setErrq d q).host = s.host := rfl
@[simp] theorem State.setErrq_bench (d : Nat) (q : List ErrRec) : (s.setErrq d q).bench = s.bench := rfl
@[simp] theorem State.setErrq_ports (d : Nat) (q : List ErrRec) : (s.setErrq d q).ports = s.ports := rfl
@[simp] theorem State.setErrq_lanes (d : Nat) (q : List ErrRec) : (s.setErrq d q).lanes = s.lanes := rfl
@[simp] theorem State.setErrq_spares (d : Nat) (q : List ErrRec) : (s.setErrq d q).spares = s.spares := rfl
@[simp] theorem State.setErrq_head (d : Nat) (q : List ErrRec) : (s.setErrq d q).head = s.head := rfl
@[simp] theorem State.setErrq_jobs (d : Nat) (q : List ErrRec) : (s.setErrq d q).jobs = s.jobs := rfl
@[simp] theorem State.setErrq_ctxs (d : Nat) (q : List ErrRec) : (s.setErrq d q).ctxs = s.ctxs := rfl
@[simp] theorem State.setErrq_lathes (d : Nat) (q : List ErrRec) : (s.setErrq d q).lathes = s.lathes := rfl
@[simp] theorem State.setErrq_near (d : Nat) (q : List ErrRec) : (s.setErrq d q).near = s.near := rfl
@[simp] theorem State.setErrq_far (d : Nat) (q : List ErrRec) : (s.setErrq d q).far = s.far := rfl
@[simp] theorem State.setErrq_nearBurr (d : Nat) (q : List ErrRec) : (s.setErrq d q).nearBurr = s.nearBurr := rfl
@[simp] theorem State.setErrq_farBurr (d : Nat) (q : List ErrRec) : (s.setErrq d q).farBurr = s.farBurr := rfl
@[simp] theorem State.setErrq_freeCtr (d : Nat) (q : List ErrRec) : (s.setErrq d q).freeCtr = s.freeCtr := rfl
@[simp] theorem State.setErrq_outs (d : Nat) (q : List ErrRec) : (s.setErrq d q).outs = s.outs := rfl
@[simp] theorem State.setErrq_pending (d : Nat) (q : List ErrRec) : (s.setErrq d q).pending = s.pending := rfl

/-! ## setFence -/

@[simp] theorem State.setFence_fuses (d : Nat) (f : Fence → Fence) : (s.setFence d f).fuses = s.fuses := rfl
@[simp] theorem State.setFence_pins (d : Nat) (f : Fence → Fence) : (s.setFence d f).pins = s.pins := rfl
@[simp] theorem State.setFence_tb (d : Nat) (f : Fence → Fence) : (s.setFence d f).tb = s.tb := rfl
@[simp] theorem State.setFence_regs (d : Nat) (f : Fence → Fence) : (s.setFence d f).regs = s.regs := rfl
@[simp] theorem State.setFence_dies (d : Nat) (f : Fence → Fence) : (s.setFence d f).dies = s.dies := rfl
@[simp] theorem State.setFence_pdPend (d : Nat) (f : Fence → Fence) : (s.setFence d f).pdPend = s.pdPend := rfl
@[simp] theorem State.setFence_wakes (d : Nat) (f : Fence → Fence) : (s.setFence d f).wakes = s.wakes := rfl
@[simp] theorem State.setFence_img (d : Nat) (f : Fence → Fence) : (s.setFence d f).img = s.img := rfl
@[simp] theorem State.setFence_err (d : Nat) (f : Fence → Fence) : (s.setFence d f).err = s.err := rfl
@[simp] theorem State.setFence_side (d : Nat) (f : Fence → Fence) : (s.setFence d f).side = s.side := rfl
@[simp] theorem State.setFence_boot (d : Nat) (f : Fence → Fence) : (s.setFence d f).boot = s.boot := rfl
@[simp] theorem State.setFence_host (d : Nat) (f : Fence → Fence) : (s.setFence d f).host = s.host := rfl
@[simp] theorem State.setFence_bench (d : Nat) (f : Fence → Fence) : (s.setFence d f).bench = s.bench := rfl
@[simp] theorem State.setFence_ports (d : Nat) (f : Fence → Fence) : (s.setFence d f).ports = s.ports := rfl
@[simp] theorem State.setFence_lanes (d : Nat) (f : Fence → Fence) : (s.setFence d f).lanes = s.lanes := rfl
@[simp] theorem State.setFence_spares (d : Nat) (f : Fence → Fence) : (s.setFence d f).spares = s.spares := rfl
@[simp] theorem State.setFence_head (d : Nat) (f : Fence → Fence) : (s.setFence d f).head = s.head := rfl
@[simp] theorem State.setFence_jobs (d : Nat) (f : Fence → Fence) : (s.setFence d f).jobs = s.jobs := rfl
@[simp] theorem State.setFence_ctxs (d : Nat) (f : Fence → Fence) : (s.setFence d f).ctxs = s.ctxs := rfl
@[simp] theorem State.setFence_lathes (d : Nat) (f : Fence → Fence) : (s.setFence d f).lathes = s.lathes := rfl
@[simp] theorem State.setFence_near (d : Nat) (f : Fence → Fence) : (s.setFence d f).near = s.near := rfl
@[simp] theorem State.setFence_far (d : Nat) (f : Fence → Fence) : (s.setFence d f).far = s.far := rfl
@[simp] theorem State.setFence_nearBurr (d : Nat) (f : Fence → Fence) : (s.setFence d f).nearBurr = s.nearBurr := rfl
@[simp] theorem State.setFence_farBurr (d : Nat) (f : Fence → Fence) : (s.setFence d f).farBurr = s.farBurr := rfl
@[simp] theorem State.setFence_freeCtr (d : Nat) (f : Fence → Fence) : (s.setFence d f).freeCtr = s.freeCtr := rfl
@[simp] theorem State.setFence_outs (d : Nat) (f : Fence → Fence) : (s.setFence d f).outs = s.outs := rfl
@[simp] theorem State.setFence_pending (d : Nat) (f : Fence → Fence) : (s.setFence d f).pending = s.pending := rfl

/-! ## withBench -/

@[simp] theorem State.withBench_fuses (f : BenchSt → BenchSt) : (s.withBench f).fuses = s.fuses := rfl
@[simp] theorem State.withBench_pins (f : BenchSt → BenchSt) : (s.withBench f).pins = s.pins := rfl
@[simp] theorem State.withBench_tb (f : BenchSt → BenchSt) : (s.withBench f).tb = s.tb := rfl
@[simp] theorem State.withBench_regs (f : BenchSt → BenchSt) : (s.withBench f).regs = s.regs := rfl
@[simp] theorem State.withBench_dies (f : BenchSt → BenchSt) : (s.withBench f).dies = s.dies := rfl
@[simp] theorem State.withBench_pdPend (f : BenchSt → BenchSt) : (s.withBench f).pdPend = s.pdPend := rfl
@[simp] theorem State.withBench_wakes (f : BenchSt → BenchSt) : (s.withBench f).wakes = s.wakes := rfl
@[simp] theorem State.withBench_img (f : BenchSt → BenchSt) : (s.withBench f).img = s.img := rfl
@[simp] theorem State.withBench_sup (f : BenchSt → BenchSt) : (s.withBench f).sup = s.sup := rfl
@[simp] theorem State.withBench_err (f : BenchSt → BenchSt) : (s.withBench f).err = s.err := rfl
@[simp] theorem State.withBench_side (f : BenchSt → BenchSt) : (s.withBench f).side = s.side := rfl
@[simp] theorem State.withBench_boot (f : BenchSt → BenchSt) : (s.withBench f).boot = s.boot := rfl
@[simp] theorem State.withBench_host (f : BenchSt → BenchSt) : (s.withBench f).host = s.host := rfl
@[simp] theorem State.withBench_ports (f : BenchSt → BenchSt) : (s.withBench f).ports = s.ports := rfl
@[simp] theorem State.withBench_lanes (f : BenchSt → BenchSt) : (s.withBench f).lanes = s.lanes := rfl
@[simp] theorem State.withBench_spares (f : BenchSt → BenchSt) : (s.withBench f).spares = s.spares := rfl
@[simp] theorem State.withBench_head (f : BenchSt → BenchSt) : (s.withBench f).head = s.head := rfl
@[simp] theorem State.withBench_jobs (f : BenchSt → BenchSt) : (s.withBench f).jobs = s.jobs := rfl
@[simp] theorem State.withBench_ctxs (f : BenchSt → BenchSt) : (s.withBench f).ctxs = s.ctxs := rfl
@[simp] theorem State.withBench_lathes (f : BenchSt → BenchSt) : (s.withBench f).lathes = s.lathes := rfl
@[simp] theorem State.withBench_near (f : BenchSt → BenchSt) : (s.withBench f).near = s.near := rfl
@[simp] theorem State.withBench_far (f : BenchSt → BenchSt) : (s.withBench f).far = s.far := rfl
@[simp] theorem State.withBench_nearBurr (f : BenchSt → BenchSt) : (s.withBench f).nearBurr = s.nearBurr := rfl
@[simp] theorem State.withBench_farBurr (f : BenchSt → BenchSt) : (s.withBench f).farBurr = s.farBurr := rfl
@[simp] theorem State.withBench_freeCtr (f : BenchSt → BenchSt) : (s.withBench f).freeCtr = s.freeCtr := rfl
@[simp] theorem State.withBench_outs (f : BenchSt → BenchSt) : (s.withBench f).outs = s.outs := rfl
@[simp] theorem State.withBench_pending (f : BenchSt → BenchSt) : (s.withBench f).pending = s.pending := rfl

/-! ## setGrain -/

@[simp] theorem State.setGrain_fuses (p : Nat) (g : GrainSt) : (s.setGrain p g).fuses = s.fuses := rfl
@[simp] theorem State.setGrain_pins (p : Nat) (g : GrainSt) : (s.setGrain p g).pins = s.pins := rfl
@[simp] theorem State.setGrain_tb (p : Nat) (g : GrainSt) : (s.setGrain p g).tb = s.tb := rfl
@[simp] theorem State.setGrain_regs (p : Nat) (g : GrainSt) : (s.setGrain p g).regs = s.regs := rfl
@[simp] theorem State.setGrain_dies (p : Nat) (g : GrainSt) : (s.setGrain p g).dies = s.dies := rfl
@[simp] theorem State.setGrain_pdPend (p : Nat) (g : GrainSt) : (s.setGrain p g).pdPend = s.pdPend := rfl
@[simp] theorem State.setGrain_wakes (p : Nat) (g : GrainSt) : (s.setGrain p g).wakes = s.wakes := rfl
@[simp] theorem State.setGrain_img (p : Nat) (g : GrainSt) : (s.setGrain p g).img = s.img := rfl
@[simp] theorem State.setGrain_sup (p : Nat) (g : GrainSt) : (s.setGrain p g).sup = s.sup := rfl
@[simp] theorem State.setGrain_err (p : Nat) (g : GrainSt) : (s.setGrain p g).err = s.err := rfl
@[simp] theorem State.setGrain_side (p : Nat) (g : GrainSt) : (s.setGrain p g).side = s.side := rfl
@[simp] theorem State.setGrain_boot (p : Nat) (g : GrainSt) : (s.setGrain p g).boot = s.boot := rfl
@[simp] theorem State.setGrain_host (p : Nat) (g : GrainSt) : (s.setGrain p g).host = s.host := rfl
@[simp] theorem State.setGrain_ports (p : Nat) (g : GrainSt) : (s.setGrain p g).ports = s.ports := rfl
@[simp] theorem State.setGrain_lanes (p : Nat) (g : GrainSt) : (s.setGrain p g).lanes = s.lanes := rfl
@[simp] theorem State.setGrain_spares (p : Nat) (g : GrainSt) : (s.setGrain p g).spares = s.spares := rfl
@[simp] theorem State.setGrain_head (p : Nat) (g : GrainSt) : (s.setGrain p g).head = s.head := rfl
@[simp] theorem State.setGrain_jobs (p : Nat) (g : GrainSt) : (s.setGrain p g).jobs = s.jobs := rfl
@[simp] theorem State.setGrain_ctxs (p : Nat) (g : GrainSt) : (s.setGrain p g).ctxs = s.ctxs := rfl
@[simp] theorem State.setGrain_lathes (p : Nat) (g : GrainSt) : (s.setGrain p g).lathes = s.lathes := rfl
@[simp] theorem State.setGrain_near (p : Nat) (g : GrainSt) : (s.setGrain p g).near = s.near := rfl
@[simp] theorem State.setGrain_far (p : Nat) (g : GrainSt) : (s.setGrain p g).far = s.far := rfl
@[simp] theorem State.setGrain_nearBurr (p : Nat) (g : GrainSt) : (s.setGrain p g).nearBurr = s.nearBurr := rfl
@[simp] theorem State.setGrain_farBurr (p : Nat) (g : GrainSt) : (s.setGrain p g).farBurr = s.farBurr := rfl
@[simp] theorem State.setGrain_freeCtr (p : Nat) (g : GrainSt) : (s.setGrain p g).freeCtr = s.freeCtr := rfl
@[simp] theorem State.setGrain_outs (p : Nat) (g : GrainSt) : (s.setGrain p g).outs = s.outs := rfl
@[simp] theorem State.setGrain_pending (p : Nat) (g : GrainSt) : (s.setGrain p g).pending = s.pending := rfl

/-! ## setQueue -/

@[simp] theorem State.setQueue_fuses (q : Nat) (l : List Pkt) : (s.setQueue q l).fuses = s.fuses := rfl
@[simp] theorem State.setQueue_pins (q : Nat) (l : List Pkt) : (s.setQueue q l).pins = s.pins := rfl
@[simp] theorem State.setQueue_tb (q : Nat) (l : List Pkt) : (s.setQueue q l).tb = s.tb := rfl
@[simp] theorem State.setQueue_regs (q : Nat) (l : List Pkt) : (s.setQueue q l).regs = s.regs := rfl
@[simp] theorem State.setQueue_dies (q : Nat) (l : List Pkt) : (s.setQueue q l).dies = s.dies := rfl
@[simp] theorem State.setQueue_pdPend (q : Nat) (l : List Pkt) : (s.setQueue q l).pdPend = s.pdPend := rfl
@[simp] theorem State.setQueue_wakes (q : Nat) (l : List Pkt) : (s.setQueue q l).wakes = s.wakes := rfl
@[simp] theorem State.setQueue_img (q : Nat) (l : List Pkt) : (s.setQueue q l).img = s.img := rfl
@[simp] theorem State.setQueue_sup (q : Nat) (l : List Pkt) : (s.setQueue q l).sup = s.sup := rfl
@[simp] theorem State.setQueue_err (q : Nat) (l : List Pkt) : (s.setQueue q l).err = s.err := rfl
@[simp] theorem State.setQueue_side (q : Nat) (l : List Pkt) : (s.setQueue q l).side = s.side := rfl
@[simp] theorem State.setQueue_boot (q : Nat) (l : List Pkt) : (s.setQueue q l).boot = s.boot := rfl
@[simp] theorem State.setQueue_host (q : Nat) (l : List Pkt) : (s.setQueue q l).host = s.host := rfl
@[simp] theorem State.setQueue_ports (q : Nat) (l : List Pkt) : (s.setQueue q l).ports = s.ports := rfl
@[simp] theorem State.setQueue_lanes (q : Nat) (l : List Pkt) : (s.setQueue q l).lanes = s.lanes := rfl
@[simp] theorem State.setQueue_spares (q : Nat) (l : List Pkt) : (s.setQueue q l).spares = s.spares := rfl
@[simp] theorem State.setQueue_head (q : Nat) (l : List Pkt) : (s.setQueue q l).head = s.head := rfl
@[simp] theorem State.setQueue_jobs (q : Nat) (l : List Pkt) : (s.setQueue q l).jobs = s.jobs := rfl
@[simp] theorem State.setQueue_ctxs (q : Nat) (l : List Pkt) : (s.setQueue q l).ctxs = s.ctxs := rfl
@[simp] theorem State.setQueue_lathes (q : Nat) (l : List Pkt) : (s.setQueue q l).lathes = s.lathes := rfl
@[simp] theorem State.setQueue_near (q : Nat) (l : List Pkt) : (s.setQueue q l).near = s.near := rfl
@[simp] theorem State.setQueue_far (q : Nat) (l : List Pkt) : (s.setQueue q l).far = s.far := rfl
@[simp] theorem State.setQueue_nearBurr (q : Nat) (l : List Pkt) : (s.setQueue q l).nearBurr = s.nearBurr := rfl
@[simp] theorem State.setQueue_farBurr (q : Nat) (l : List Pkt) : (s.setQueue q l).farBurr = s.farBurr := rfl
@[simp] theorem State.setQueue_freeCtr (q : Nat) (l : List Pkt) : (s.setQueue q l).freeCtr = s.freeCtr := rfl
@[simp] theorem State.setQueue_outs (q : Nat) (l : List Pkt) : (s.setQueue q l).outs = s.outs := rfl
@[simp] theorem State.setQueue_pending (q : Nat) (l : List Pkt) : (s.setQueue q l).pending = s.pending := rfl

/-! ## setPort -/

@[simp] theorem State.setPort_fuses (p : Nat) (f : PortSt → PortSt) : (s.setPort p f).fuses = s.fuses := rfl
@[simp] theorem State.setPort_pins (p : Nat) (f : PortSt → PortSt) : (s.setPort p f).pins = s.pins := rfl
@[simp] theorem State.setPort_tb (p : Nat) (f : PortSt → PortSt) : (s.setPort p f).tb = s.tb := rfl
@[simp] theorem State.setPort_regs (p : Nat) (f : PortSt → PortSt) : (s.setPort p f).regs = s.regs := rfl
@[simp] theorem State.setPort_dies (p : Nat) (f : PortSt → PortSt) : (s.setPort p f).dies = s.dies := rfl
@[simp] theorem State.setPort_pdPend (p : Nat) (f : PortSt → PortSt) : (s.setPort p f).pdPend = s.pdPend := rfl
@[simp] theorem State.setPort_wakes (p : Nat) (f : PortSt → PortSt) : (s.setPort p f).wakes = s.wakes := rfl
@[simp] theorem State.setPort_img (p : Nat) (f : PortSt → PortSt) : (s.setPort p f).img = s.img := rfl
@[simp] theorem State.setPort_sup (p : Nat) (f : PortSt → PortSt) : (s.setPort p f).sup = s.sup := rfl
@[simp] theorem State.setPort_err (p : Nat) (f : PortSt → PortSt) : (s.setPort p f).err = s.err := rfl
@[simp] theorem State.setPort_side (p : Nat) (f : PortSt → PortSt) : (s.setPort p f).side = s.side := rfl
@[simp] theorem State.setPort_boot (p : Nat) (f : PortSt → PortSt) : (s.setPort p f).boot = s.boot := rfl
@[simp] theorem State.setPort_host (p : Nat) (f : PortSt → PortSt) : (s.setPort p f).host = s.host := rfl
@[simp] theorem State.setPort_bench (p : Nat) (f : PortSt → PortSt) : (s.setPort p f).bench = s.bench := rfl
@[simp] theorem State.setPort_lanes (p : Nat) (f : PortSt → PortSt) : (s.setPort p f).lanes = s.lanes := rfl
@[simp] theorem State.setPort_spares (p : Nat) (f : PortSt → PortSt) : (s.setPort p f).spares = s.spares := rfl
@[simp] theorem State.setPort_head (p : Nat) (f : PortSt → PortSt) : (s.setPort p f).head = s.head := rfl
@[simp] theorem State.setPort_jobs (p : Nat) (f : PortSt → PortSt) : (s.setPort p f).jobs = s.jobs := rfl
@[simp] theorem State.setPort_ctxs (p : Nat) (f : PortSt → PortSt) : (s.setPort p f).ctxs = s.ctxs := rfl
@[simp] theorem State.setPort_lathes (p : Nat) (f : PortSt → PortSt) : (s.setPort p f).lathes = s.lathes := rfl
@[simp] theorem State.setPort_near (p : Nat) (f : PortSt → PortSt) : (s.setPort p f).near = s.near := rfl
@[simp] theorem State.setPort_far (p : Nat) (f : PortSt → PortSt) : (s.setPort p f).far = s.far := rfl
@[simp] theorem State.setPort_nearBurr (p : Nat) (f : PortSt → PortSt) : (s.setPort p f).nearBurr = s.nearBurr := rfl
@[simp] theorem State.setPort_farBurr (p : Nat) (f : PortSt → PortSt) : (s.setPort p f).farBurr = s.farBurr := rfl
@[simp] theorem State.setPort_freeCtr (p : Nat) (f : PortSt → PortSt) : (s.setPort p f).freeCtr = s.freeCtr := rfl
@[simp] theorem State.setPort_outs (p : Nat) (f : PortSt → PortSt) : (s.setPort p f).outs = s.outs := rfl
@[simp] theorem State.setPort_pending (p : Nat) (f : PortSt → PortSt) : (s.setPort p f).pending = s.pending := rfl

/-! ## setCtx -/

@[simp] theorem State.setCtx_fuses (c : Nat) (f : CtxSt → CtxSt) : (s.setCtx c f).fuses = s.fuses := rfl
@[simp] theorem State.setCtx_pins (c : Nat) (f : CtxSt → CtxSt) : (s.setCtx c f).pins = s.pins := rfl
@[simp] theorem State.setCtx_tb (c : Nat) (f : CtxSt → CtxSt) : (s.setCtx c f).tb = s.tb := rfl
@[simp] theorem State.setCtx_regs (c : Nat) (f : CtxSt → CtxSt) : (s.setCtx c f).regs = s.regs := rfl
@[simp] theorem State.setCtx_dies (c : Nat) (f : CtxSt → CtxSt) : (s.setCtx c f).dies = s.dies := rfl
@[simp] theorem State.setCtx_pdPend (c : Nat) (f : CtxSt → CtxSt) : (s.setCtx c f).pdPend = s.pdPend := rfl
@[simp] theorem State.setCtx_wakes (c : Nat) (f : CtxSt → CtxSt) : (s.setCtx c f).wakes = s.wakes := rfl
@[simp] theorem State.setCtx_img (c : Nat) (f : CtxSt → CtxSt) : (s.setCtx c f).img = s.img := rfl
@[simp] theorem State.setCtx_sup (c : Nat) (f : CtxSt → CtxSt) : (s.setCtx c f).sup = s.sup := rfl
@[simp] theorem State.setCtx_err (c : Nat) (f : CtxSt → CtxSt) : (s.setCtx c f).err = s.err := rfl
@[simp] theorem State.setCtx_side (c : Nat) (f : CtxSt → CtxSt) : (s.setCtx c f).side = s.side := rfl
@[simp] theorem State.setCtx_boot (c : Nat) (f : CtxSt → CtxSt) : (s.setCtx c f).boot = s.boot := rfl
@[simp] theorem State.setCtx_host (c : Nat) (f : CtxSt → CtxSt) : (s.setCtx c f).host = s.host := rfl
@[simp] theorem State.setCtx_bench (c : Nat) (f : CtxSt → CtxSt) : (s.setCtx c f).bench = s.bench := rfl
@[simp] theorem State.setCtx_ports (c : Nat) (f : CtxSt → CtxSt) : (s.setCtx c f).ports = s.ports := rfl
@[simp] theorem State.setCtx_lanes (c : Nat) (f : CtxSt → CtxSt) : (s.setCtx c f).lanes = s.lanes := rfl
@[simp] theorem State.setCtx_spares (c : Nat) (f : CtxSt → CtxSt) : (s.setCtx c f).spares = s.spares := rfl
@[simp] theorem State.setCtx_head (c : Nat) (f : CtxSt → CtxSt) : (s.setCtx c f).head = s.head := rfl
@[simp] theorem State.setCtx_jobs (c : Nat) (f : CtxSt → CtxSt) : (s.setCtx c f).jobs = s.jobs := rfl
@[simp] theorem State.setCtx_lathes (c : Nat) (f : CtxSt → CtxSt) : (s.setCtx c f).lathes = s.lathes := rfl
@[simp] theorem State.setCtx_near (c : Nat) (f : CtxSt → CtxSt) : (s.setCtx c f).near = s.near := rfl
@[simp] theorem State.setCtx_far (c : Nat) (f : CtxSt → CtxSt) : (s.setCtx c f).far = s.far := rfl
@[simp] theorem State.setCtx_nearBurr (c : Nat) (f : CtxSt → CtxSt) : (s.setCtx c f).nearBurr = s.nearBurr := rfl
@[simp] theorem State.setCtx_farBurr (c : Nat) (f : CtxSt → CtxSt) : (s.setCtx c f).farBurr = s.farBurr := rfl
@[simp] theorem State.setCtx_freeCtr (c : Nat) (f : CtxSt → CtxSt) : (s.setCtx c f).freeCtr = s.freeCtr := rfl
@[simp] theorem State.setCtx_outs (c : Nat) (f : CtxSt → CtxSt) : (s.setCtx c f).outs = s.outs := rfl
@[simp] theorem State.setCtx_pending (c : Nat) (f : CtxSt → CtxSt) : (s.setCtx c f).pending = s.pending := rfl

/-! ## setLathe -/

@[simp] theorem State.setLathe_fuses (k : Nat) (f : LatheSt → LatheSt) : (s.setLathe k f).fuses = s.fuses := rfl
@[simp] theorem State.setLathe_pins (k : Nat) (f : LatheSt → LatheSt) : (s.setLathe k f).pins = s.pins := rfl
@[simp] theorem State.setLathe_tb (k : Nat) (f : LatheSt → LatheSt) : (s.setLathe k f).tb = s.tb := rfl
@[simp] theorem State.setLathe_regs (k : Nat) (f : LatheSt → LatheSt) : (s.setLathe k f).regs = s.regs := rfl
@[simp] theorem State.setLathe_dies (k : Nat) (f : LatheSt → LatheSt) : (s.setLathe k f).dies = s.dies := rfl
@[simp] theorem State.setLathe_pdPend (k : Nat) (f : LatheSt → LatheSt) : (s.setLathe k f).pdPend = s.pdPend := rfl
@[simp] theorem State.setLathe_wakes (k : Nat) (f : LatheSt → LatheSt) : (s.setLathe k f).wakes = s.wakes := rfl
@[simp] theorem State.setLathe_img (k : Nat) (f : LatheSt → LatheSt) : (s.setLathe k f).img = s.img := rfl
@[simp] theorem State.setLathe_sup (k : Nat) (f : LatheSt → LatheSt) : (s.setLathe k f).sup = s.sup := rfl
@[simp] theorem State.setLathe_err (k : Nat) (f : LatheSt → LatheSt) : (s.setLathe k f).err = s.err := rfl
@[simp] theorem State.setLathe_side (k : Nat) (f : LatheSt → LatheSt) : (s.setLathe k f).side = s.side := rfl
@[simp] theorem State.setLathe_boot (k : Nat) (f : LatheSt → LatheSt) : (s.setLathe k f).boot = s.boot := rfl
@[simp] theorem State.setLathe_host (k : Nat) (f : LatheSt → LatheSt) : (s.setLathe k f).host = s.host := rfl
@[simp] theorem State.setLathe_bench (k : Nat) (f : LatheSt → LatheSt) : (s.setLathe k f).bench = s.bench := rfl
@[simp] theorem State.setLathe_ports (k : Nat) (f : LatheSt → LatheSt) : (s.setLathe k f).ports = s.ports := rfl
@[simp] theorem State.setLathe_lanes (k : Nat) (f : LatheSt → LatheSt) : (s.setLathe k f).lanes = s.lanes := rfl
@[simp] theorem State.setLathe_spares (k : Nat) (f : LatheSt → LatheSt) : (s.setLathe k f).spares = s.spares := rfl
@[simp] theorem State.setLathe_head (k : Nat) (f : LatheSt → LatheSt) : (s.setLathe k f).head = s.head := rfl
@[simp] theorem State.setLathe_jobs (k : Nat) (f : LatheSt → LatheSt) : (s.setLathe k f).jobs = s.jobs := rfl
@[simp] theorem State.setLathe_ctxs (k : Nat) (f : LatheSt → LatheSt) : (s.setLathe k f).ctxs = s.ctxs := rfl
@[simp] theorem State.setLathe_near (k : Nat) (f : LatheSt → LatheSt) : (s.setLathe k f).near = s.near := rfl
@[simp] theorem State.setLathe_far (k : Nat) (f : LatheSt → LatheSt) : (s.setLathe k f).far = s.far := rfl
@[simp] theorem State.setLathe_nearBurr (k : Nat) (f : LatheSt → LatheSt) : (s.setLathe k f).nearBurr = s.nearBurr := rfl
@[simp] theorem State.setLathe_farBurr (k : Nat) (f : LatheSt → LatheSt) : (s.setLathe k f).farBurr = s.farBurr := rfl
@[simp] theorem State.setLathe_freeCtr (k : Nat) (f : LatheSt → LatheSt) : (s.setLathe k f).freeCtr = s.freeCtr := rfl
@[simp] theorem State.setLathe_outs (k : Nat) (f : LatheSt → LatheSt) : (s.setLathe k f).outs = s.outs := rfl
@[simp] theorem State.setLathe_pending (k : Nat) (f : LatheSt → LatheSt) : (s.setLathe k f).pending = s.pending := rfl

/-! ## setJob -/

@[simp] theorem State.setJob_fuses (j : Nat) (f : JobSt → JobSt) : (s.setJob j f).fuses = s.fuses := rfl
@[simp] theorem State.setJob_pins (j : Nat) (f : JobSt → JobSt) : (s.setJob j f).pins = s.pins := rfl
@[simp] theorem State.setJob_tb (j : Nat) (f : JobSt → JobSt) : (s.setJob j f).tb = s.tb := rfl
@[simp] theorem State.setJob_regs (j : Nat) (f : JobSt → JobSt) : (s.setJob j f).regs = s.regs := rfl
@[simp] theorem State.setJob_dies (j : Nat) (f : JobSt → JobSt) : (s.setJob j f).dies = s.dies := rfl
@[simp] theorem State.setJob_pdPend (j : Nat) (f : JobSt → JobSt) : (s.setJob j f).pdPend = s.pdPend := rfl
@[simp] theorem State.setJob_wakes (j : Nat) (f : JobSt → JobSt) : (s.setJob j f).wakes = s.wakes := rfl
@[simp] theorem State.setJob_img (j : Nat) (f : JobSt → JobSt) : (s.setJob j f).img = s.img := rfl
@[simp] theorem State.setJob_sup (j : Nat) (f : JobSt → JobSt) : (s.setJob j f).sup = s.sup := rfl
@[simp] theorem State.setJob_err (j : Nat) (f : JobSt → JobSt) : (s.setJob j f).err = s.err := rfl
@[simp] theorem State.setJob_side (j : Nat) (f : JobSt → JobSt) : (s.setJob j f).side = s.side := rfl
@[simp] theorem State.setJob_boot (j : Nat) (f : JobSt → JobSt) : (s.setJob j f).boot = s.boot := rfl
@[simp] theorem State.setJob_host (j : Nat) (f : JobSt → JobSt) : (s.setJob j f).host = s.host := rfl
@[simp] theorem State.setJob_bench (j : Nat) (f : JobSt → JobSt) : (s.setJob j f).bench = s.bench := rfl
@[simp] theorem State.setJob_ports (j : Nat) (f : JobSt → JobSt) : (s.setJob j f).ports = s.ports := rfl
@[simp] theorem State.setJob_lanes (j : Nat) (f : JobSt → JobSt) : (s.setJob j f).lanes = s.lanes := rfl
@[simp] theorem State.setJob_spares (j : Nat) (f : JobSt → JobSt) : (s.setJob j f).spares = s.spares := rfl
@[simp] theorem State.setJob_head (j : Nat) (f : JobSt → JobSt) : (s.setJob j f).head = s.head := rfl
@[simp] theorem State.setJob_ctxs (j : Nat) (f : JobSt → JobSt) : (s.setJob j f).ctxs = s.ctxs := rfl
@[simp] theorem State.setJob_lathes (j : Nat) (f : JobSt → JobSt) : (s.setJob j f).lathes = s.lathes := rfl
@[simp] theorem State.setJob_near (j : Nat) (f : JobSt → JobSt) : (s.setJob j f).near = s.near := rfl
@[simp] theorem State.setJob_far (j : Nat) (f : JobSt → JobSt) : (s.setJob j f).far = s.far := rfl
@[simp] theorem State.setJob_nearBurr (j : Nat) (f : JobSt → JobSt) : (s.setJob j f).nearBurr = s.nearBurr := rfl
@[simp] theorem State.setJob_farBurr (j : Nat) (f : JobSt → JobSt) : (s.setJob j f).farBurr = s.farBurr := rfl
@[simp] theorem State.setJob_freeCtr (j : Nat) (f : JobSt → JobSt) : (s.setJob j f).freeCtr = s.freeCtr := rfl
@[simp] theorem State.setJob_outs (j : Nat) (f : JobSt → JobSt) : (s.setJob j f).outs = s.outs := rfl
@[simp] theorem State.setJob_pending (j : Nat) (f : JobSt → JobSt) : (s.setJob j f).pending = s.pending := rfl

/-! ## setFn -/

@[simp] theorem State.setFn_fuses (n : Nat) (f : FnSt → FnSt) : (s.setFn n f).fuses = s.fuses := rfl
@[simp] theorem State.setFn_pins (n : Nat) (f : FnSt → FnSt) : (s.setFn n f).pins = s.pins := rfl
@[simp] theorem State.setFn_tb (n : Nat) (f : FnSt → FnSt) : (s.setFn n f).tb = s.tb := rfl
@[simp] theorem State.setFn_regs (n : Nat) (f : FnSt → FnSt) : (s.setFn n f).regs = s.regs := rfl
@[simp] theorem State.setFn_dies (n : Nat) (f : FnSt → FnSt) : (s.setFn n f).dies = s.dies := rfl
@[simp] theorem State.setFn_pdPend (n : Nat) (f : FnSt → FnSt) : (s.setFn n f).pdPend = s.pdPend := rfl
@[simp] theorem State.setFn_wakes (n : Nat) (f : FnSt → FnSt) : (s.setFn n f).wakes = s.wakes := rfl
@[simp] theorem State.setFn_img (n : Nat) (f : FnSt → FnSt) : (s.setFn n f).img = s.img := rfl
@[simp] theorem State.setFn_sup (n : Nat) (f : FnSt → FnSt) : (s.setFn n f).sup = s.sup := rfl
@[simp] theorem State.setFn_err (n : Nat) (f : FnSt → FnSt) : (s.setFn n f).err = s.err := rfl
@[simp] theorem State.setFn_side (n : Nat) (f : FnSt → FnSt) : (s.setFn n f).side = s.side := rfl
@[simp] theorem State.setFn_boot (n : Nat) (f : FnSt → FnSt) : (s.setFn n f).boot = s.boot := rfl
@[simp] theorem State.setFn_bench (n : Nat) (f : FnSt → FnSt) : (s.setFn n f).bench = s.bench := rfl
@[simp] theorem State.setFn_ports (n : Nat) (f : FnSt → FnSt) : (s.setFn n f).ports = s.ports := rfl
@[simp] theorem State.setFn_lanes (n : Nat) (f : FnSt → FnSt) : (s.setFn n f).lanes = s.lanes := rfl
@[simp] theorem State.setFn_spares (n : Nat) (f : FnSt → FnSt) : (s.setFn n f).spares = s.spares := rfl
@[simp] theorem State.setFn_head (n : Nat) (f : FnSt → FnSt) : (s.setFn n f).head = s.head := rfl
@[simp] theorem State.setFn_jobs (n : Nat) (f : FnSt → FnSt) : (s.setFn n f).jobs = s.jobs := rfl
@[simp] theorem State.setFn_ctxs (n : Nat) (f : FnSt → FnSt) : (s.setFn n f).ctxs = s.ctxs := rfl
@[simp] theorem State.setFn_lathes (n : Nat) (f : FnSt → FnSt) : (s.setFn n f).lathes = s.lathes := rfl
@[simp] theorem State.setFn_near (n : Nat) (f : FnSt → FnSt) : (s.setFn n f).near = s.near := rfl
@[simp] theorem State.setFn_far (n : Nat) (f : FnSt → FnSt) : (s.setFn n f).far = s.far := rfl
@[simp] theorem State.setFn_nearBurr (n : Nat) (f : FnSt → FnSt) : (s.setFn n f).nearBurr = s.nearBurr := rfl
@[simp] theorem State.setFn_farBurr (n : Nat) (f : FnSt → FnSt) : (s.setFn n f).farBurr = s.farBurr := rfl
@[simp] theorem State.setFn_freeCtr (n : Nat) (f : FnSt → FnSt) : (s.setFn n f).freeCtr = s.freeCtr := rfl
@[simp] theorem State.setFn_outs (n : Nat) (f : FnSt → FnSt) : (s.setFn n f).outs = s.outs := rfl
@[simp] theorem State.setFn_pending (n : Nat) (f : FnSt → FnSt) : (s.setFn n f).pending = s.pending := rfl

/-! ## withImg -/

@[simp] theorem State.withImg_fuses (f : ImgSt → ImgSt) : (s.withImg f).fuses = s.fuses := rfl
@[simp] theorem State.withImg_pins (f : ImgSt → ImgSt) : (s.withImg f).pins = s.pins := rfl
@[simp] theorem State.withImg_tb (f : ImgSt → ImgSt) : (s.withImg f).tb = s.tb := rfl
@[simp] theorem State.withImg_regs (f : ImgSt → ImgSt) : (s.withImg f).regs = s.regs := rfl
@[simp] theorem State.withImg_dies (f : ImgSt → ImgSt) : (s.withImg f).dies = s.dies := rfl
@[simp] theorem State.withImg_pdPend (f : ImgSt → ImgSt) : (s.withImg f).pdPend = s.pdPend := rfl
@[simp] theorem State.withImg_wakes (f : ImgSt → ImgSt) : (s.withImg f).wakes = s.wakes := rfl
@[simp] theorem State.withImg_sup (f : ImgSt → ImgSt) : (s.withImg f).sup = s.sup := rfl
@[simp] theorem State.withImg_err (f : ImgSt → ImgSt) : (s.withImg f).err = s.err := rfl
@[simp] theorem State.withImg_side (f : ImgSt → ImgSt) : (s.withImg f).side = s.side := rfl
@[simp] theorem State.withImg_boot (f : ImgSt → ImgSt) : (s.withImg f).boot = s.boot := rfl
@[simp] theorem State.withImg_host (f : ImgSt → ImgSt) : (s.withImg f).host = s.host := rfl
@[simp] theorem State.withImg_bench (f : ImgSt → ImgSt) : (s.withImg f).bench = s.bench := rfl
@[simp] theorem State.withImg_ports (f : ImgSt → ImgSt) : (s.withImg f).ports = s.ports := rfl
@[simp] theorem State.withImg_lanes (f : ImgSt → ImgSt) : (s.withImg f).lanes = s.lanes := rfl
@[simp] theorem State.withImg_spares (f : ImgSt → ImgSt) : (s.withImg f).spares = s.spares := rfl
@[simp] theorem State.withImg_head (f : ImgSt → ImgSt) : (s.withImg f).head = s.head := rfl
@[simp] theorem State.withImg_jobs (f : ImgSt → ImgSt) : (s.withImg f).jobs = s.jobs := rfl
@[simp] theorem State.withImg_ctxs (f : ImgSt → ImgSt) : (s.withImg f).ctxs = s.ctxs := rfl
@[simp] theorem State.withImg_lathes (f : ImgSt → ImgSt) : (s.withImg f).lathes = s.lathes := rfl
@[simp] theorem State.withImg_near (f : ImgSt → ImgSt) : (s.withImg f).near = s.near := rfl
@[simp] theorem State.withImg_far (f : ImgSt → ImgSt) : (s.withImg f).far = s.far := rfl
@[simp] theorem State.withImg_nearBurr (f : ImgSt → ImgSt) : (s.withImg f).nearBurr = s.nearBurr := rfl
@[simp] theorem State.withImg_farBurr (f : ImgSt → ImgSt) : (s.withImg f).farBurr = s.farBurr := rfl
@[simp] theorem State.withImg_freeCtr (f : ImgSt → ImgSt) : (s.withImg f).freeCtr = s.freeCtr := rfl
@[simp] theorem State.withImg_outs (f : ImgSt → ImgSt) : (s.withImg f).outs = s.outs := rfl
@[simp] theorem State.withImg_pending (f : ImgSt → ImgSt) : (s.withImg f).pending = s.pending := rfl

/-! ## withSide -/

@[simp] theorem State.withSide_fuses (f : SideSt → SideSt) : (s.withSide f).fuses = s.fuses := rfl
@[simp] theorem State.withSide_pins (f : SideSt → SideSt) : (s.withSide f).pins = s.pins := rfl
@[simp] theorem State.withSide_tb (f : SideSt → SideSt) : (s.withSide f).tb = s.tb := rfl
@[simp] theorem State.withSide_regs (f : SideSt → SideSt) : (s.withSide f).regs = s.regs := rfl
@[simp] theorem State.withSide_dies (f : SideSt → SideSt) : (s.withSide f).dies = s.dies := rfl
@[simp] theorem State.withSide_pdPend (f : SideSt → SideSt) : (s.withSide f).pdPend = s.pdPend := rfl
@[simp] theorem State.withSide_wakes (f : SideSt → SideSt) : (s.withSide f).wakes = s.wakes := rfl
@[simp] theorem State.withSide_img (f : SideSt → SideSt) : (s.withSide f).img = s.img := rfl
@[simp] theorem State.withSide_sup (f : SideSt → SideSt) : (s.withSide f).sup = s.sup := rfl
@[simp] theorem State.withSide_err (f : SideSt → SideSt) : (s.withSide f).err = s.err := rfl
@[simp] theorem State.withSide_boot (f : SideSt → SideSt) : (s.withSide f).boot = s.boot := rfl
@[simp] theorem State.withSide_host (f : SideSt → SideSt) : (s.withSide f).host = s.host := rfl
@[simp] theorem State.withSide_bench (f : SideSt → SideSt) : (s.withSide f).bench = s.bench := rfl
@[simp] theorem State.withSide_ports (f : SideSt → SideSt) : (s.withSide f).ports = s.ports := rfl
@[simp] theorem State.withSide_lanes (f : SideSt → SideSt) : (s.withSide f).lanes = s.lanes := rfl
@[simp] theorem State.withSide_spares (f : SideSt → SideSt) : (s.withSide f).spares = s.spares := rfl
@[simp] theorem State.withSide_head (f : SideSt → SideSt) : (s.withSide f).head = s.head := rfl
@[simp] theorem State.withSide_jobs (f : SideSt → SideSt) : (s.withSide f).jobs = s.jobs := rfl
@[simp] theorem State.withSide_ctxs (f : SideSt → SideSt) : (s.withSide f).ctxs = s.ctxs := rfl
@[simp] theorem State.withSide_lathes (f : SideSt → SideSt) : (s.withSide f).lathes = s.lathes := rfl
@[simp] theorem State.withSide_near (f : SideSt → SideSt) : (s.withSide f).near = s.near := rfl
@[simp] theorem State.withSide_far (f : SideSt → SideSt) : (s.withSide f).far = s.far := rfl
@[simp] theorem State.withSide_nearBurr (f : SideSt → SideSt) : (s.withSide f).nearBurr = s.nearBurr := rfl
@[simp] theorem State.withSide_farBurr (f : SideSt → SideSt) : (s.withSide f).farBurr = s.farBurr := rfl
@[simp] theorem State.withSide_freeCtr (f : SideSt → SideSt) : (s.withSide f).freeCtr = s.freeCtr := rfl
@[simp] theorem State.withSide_outs (f : SideSt → SideSt) : (s.withSide f).outs = s.outs := rfl
@[simp] theorem State.withSide_pending (f : SideSt → SideSt) : (s.withSide f).pending = s.pending := rfl

/-! ## withSup -/

@[simp] theorem State.withSup_fuses (f : SupSt → SupSt) : (s.withSup f).fuses = s.fuses := rfl
@[simp] theorem State.withSup_pins (f : SupSt → SupSt) : (s.withSup f).pins = s.pins := rfl
@[simp] theorem State.withSup_tb (f : SupSt → SupSt) : (s.withSup f).tb = s.tb := rfl
@[simp] theorem State.withSup_regs (f : SupSt → SupSt) : (s.withSup f).regs = s.regs := rfl
@[simp] theorem State.withSup_dies (f : SupSt → SupSt) : (s.withSup f).dies = s.dies := rfl
@[simp] theorem State.withSup_pdPend (f : SupSt → SupSt) : (s.withSup f).pdPend = s.pdPend := rfl
@[simp] theorem State.withSup_wakes (f : SupSt → SupSt) : (s.withSup f).wakes = s.wakes := rfl
@[simp] theorem State.withSup_img (f : SupSt → SupSt) : (s.withSup f).img = s.img := rfl
@[simp] theorem State.withSup_err (f : SupSt → SupSt) : (s.withSup f).err = s.err := rfl
@[simp] theorem State.withSup_side (f : SupSt → SupSt) : (s.withSup f).side = s.side := rfl
@[simp] theorem State.withSup_boot (f : SupSt → SupSt) : (s.withSup f).boot = s.boot := rfl
@[simp] theorem State.withSup_host (f : SupSt → SupSt) : (s.withSup f).host = s.host := rfl
@[simp] theorem State.withSup_bench (f : SupSt → SupSt) : (s.withSup f).bench = s.bench := rfl
@[simp] theorem State.withSup_ports (f : SupSt → SupSt) : (s.withSup f).ports = s.ports := rfl
@[simp] theorem State.withSup_lanes (f : SupSt → SupSt) : (s.withSup f).lanes = s.lanes := rfl
@[simp] theorem State.withSup_spares (f : SupSt → SupSt) : (s.withSup f).spares = s.spares := rfl
@[simp] theorem State.withSup_head (f : SupSt → SupSt) : (s.withSup f).head = s.head := rfl
@[simp] theorem State.withSup_jobs (f : SupSt → SupSt) : (s.withSup f).jobs = s.jobs := rfl
@[simp] theorem State.withSup_ctxs (f : SupSt → SupSt) : (s.withSup f).ctxs = s.ctxs := rfl
@[simp] theorem State.withSup_lathes (f : SupSt → SupSt) : (s.withSup f).lathes = s.lathes := rfl
@[simp] theorem State.withSup_near (f : SupSt → SupSt) : (s.withSup f).near = s.near := rfl
@[simp] theorem State.withSup_far (f : SupSt → SupSt) : (s.withSup f).far = s.far := rfl
@[simp] theorem State.withSup_nearBurr (f : SupSt → SupSt) : (s.withSup f).nearBurr = s.nearBurr := rfl
@[simp] theorem State.withSup_farBurr (f : SupSt → SupSt) : (s.withSup f).farBurr = s.farBurr := rfl
@[simp] theorem State.withSup_freeCtr (f : SupSt → SupSt) : (s.withSup f).freeCtr = s.freeCtr := rfl
@[simp] theorem State.withSup_outs (f : SupSt → SupSt) : (s.withSup f).outs = s.outs := rfl
@[simp] theorem State.withSup_pending (f : SupSt → SupSt) : (s.withSup f).pending = s.pending := rfl

/-! ## Reading after writing -/

@[simp] theorem State.rd_wr_same (off : Nat) (v : W64) : (s.wr off v).rd off = v := by simp [State.rd, State.wr]

theorem State.rd_wr_ne (off off' : Nat) (v : W64) (h : off' ≠ off) : (s.wr off v).rd off' = s.rd off' :=
  Tbl.get_set_ne _ _ _ _ _ h

/-- A field reads what was written to it, modulo its width. -/
theorem State.fld_setFld_same (off : Nat) (f : Fld) (x : Nat) (h : f.ok = true) :
    (s.setFld off f x).fld off f = x % 2 ^ f.wid := by
  simp [State.fld, State.setFld, Fld.get_put f _ x h]

/-- A write of a field leaves every field of the register that it shares no bit with. -/
theorem State.fld_setFld_apart (off : Nat) (f g : Fld) (x : Nat) (h : f.apart g = true) :
    (s.setFld off g x).fld off f = s.fld off f := by
  simp [State.fld, State.setFld, Fld.get_put_apart f g _ x h]

/-- A write of a field leaves every other register. -/
theorem State.fld_setFld_ne (off off' : Nat) (f g : Fld) (x : Nat) (h : off' ≠ off) :
    (s.setFld off g x).fld off' f = s.fld off' f := by
  simp [State.fld, State.setFld, State.rd_wr_ne _ _ _ _ h]

theorem State.rd_setFld_ne (off off' : Nat) (g : Fld) (x : Nat) (h : off' ≠ off) : (s.setFld off g x).rd off' = s.rd off' :=
  State.rd_wr_ne _ _ _ _ h

theorem State.fld_lt (off : Nat) (f : Fld) : s.fld off f < 2 ^ f.wid := Fld.get_lt f _

/-- Registers are read from the register file alone. -/
theorem State.fld_of_regs {s t : State} (h : t.regs = s.regs) (off : Nat) (f : Fld) : t.fld off f = s.fld off f := by
  simp only [State.fld, State.rd, h]

theorem State.rd_of_regs {s t : State} (h : t.regs = s.regs) (off : Nat) : t.rd off = s.rd off := by
  simp only [State.rd, h]

/-- A counter rises by one, and holds at its top. -/
theorem State.fld_count_same (off : Nat) (f : Fld) (h : f.ok = true) :
    (s.count off f).fld off f = min (s.fld off f + 1) (2 ^ f.wid - 1) := by
  have hp : 0 < 2 ^ f.wid := Nat.two_pow_pos _
  rw [State.count, State.countBy, State.fld_setFld_same _ _ _ _ h, satAdd]
  exact Nat.mod_eq_of_lt (by omega)

theorem State.fld_count_apart (off : Nat) (f g : Fld) (h : f.apart g = true) : (s.count off g).fld off f = s.fld off f :=
  State.fld_setFld_apart _ _ _ _ _ h

theorem State.fld_count_ne (off off' : Nat) (f g : Fld) (h : off' ≠ off) : (s.count off g).fld off' f = s.fld off' f :=
  State.fld_setFld_ne _ _ _ _ _ _ h

@[simp] theorem State.die_setDie_same (d : Nat) (f : DieSt → DieSt) : (s.setDie d f).die d = f (s.die d) := by
  simp [State.die, State.setDie]

theorem State.die_setDie_ne (d d' : Nat) (f : DieSt → DieSt) (h : d' ≠ d) : (s.setDie d f).die d' = s.die d' := by
  simp [State.die, State.setDie, Tbl.get_modify, h]

@[simp] theorem State.wake_setWake_same (n : Nat) (w : Wake) : (s.setWake n w).wake n = w := by
  simp [State.wake, State.setWake]

@[simp] theorem State.errq_setErrq_same (d : Nat) (q : List ErrRec) : (s.setErrq d q).errq d = q := by
  simp [State.errq, State.setErrq]

theorem State.errq_setErrq_ne (d d' : Nat) (q : List ErrRec) (h : d' ≠ d) : (s.setErrq d q).errq d' = s.errq d' := by
  simp [State.errq, State.setErrq, Tbl.get_set, h]

@[simp] theorem State.fence_setFence_same (d : Nat) (f : Fence → Fence) : (s.setFence d f).fence d = f (s.fence d) := by
  simp [State.fence, State.setFence]

@[simp] theorem State.grain_setGrain_same (p : Nat) (g : GrainSt) : (s.setGrain p g).grain p = g := by
  simp [State.grain, State.setGrain, State.withBench]

theorem State.grain_setGrain_ne (p p' : Nat) (g : GrainSt) (h : p' ≠ p) : (s.setGrain p g).grain p' = s.grain p' := by
  simp [State.grain, State.setGrain, State.withBench, Tbl.get_set, h]

@[simp] theorem State.port_setPort_same (p : Nat) (f : PortSt → PortSt) : (s.setPort p f).port p = f (s.port p) := by
  simp [State.port, State.setPort]

theorem State.port_setPort_ne (p p' : Nat) (f : PortSt → PortSt) (h : p' ≠ p) : (s.setPort p f).port p' = s.port p' := by
  simp [State.port, State.setPort, Tbl.get_modify, h]

@[simp] theorem State.ctx_setCtx_same (c : Nat) (f : CtxSt → CtxSt) : (s.setCtx c f).ctx c = f (s.ctx c) := by
  simp [State.ctx, State.setCtx]

theorem State.ctx_setCtx_ne (c c' : Nat) (f : CtxSt → CtxSt) (h : c' ≠ c) : (s.setCtx c f).ctx c' = s.ctx c' := by
  simp [State.ctx, State.setCtx, Tbl.get_modify, h]

@[simp] theorem State.lathe_setLathe_same (k : Nat) (f : LatheSt → LatheSt) : (s.setLathe k f).lathe k = f (s.lathe k) := by
  simp [State.lathe, State.setLathe]

@[simp] theorem State.job_setJob_same (j : Nat) (f : JobSt → JobSt) : (s.setJob j f).job j = f (s.job j) := by
  simp [State.job, State.setJob]

theorem State.job_setJob_ne (j j' : Nat) (f : JobSt → JobSt) (h : j' ≠ j) : (s.setJob j f).job j' = s.job j' := by
  simp [State.job, State.setJob, Tbl.get_modify, h]

@[simp] theorem State.fn_setFn_same (n : Nat) (f : FnSt → FnSt) : (s.setFn n f).fn n = f (s.fn n) := by
  simp [State.fn, State.setFn]

/-! ## Memory -/

/-- A write of a tier keeps its canonical form. -/
theorem memWrite_wf : ∀ (n : Nat) (t : Tbl Byte) (a v : Nat), Memory.wf t = true → Memory.wf (memWrite t a n v) = true
  | 0, _, _, _, h => h
  | n + 1, t, a, v, h => memWrite_wf n _ (a + 1) (v / 256) (Tbl.wf_set _ t a _ h)

/-- A byte outside the written ones reads as before. -/
theorem memWrite_get_outside : ∀ (n : Nat) (t : Tbl Byte) (a v b : Nat), b < a ∨ a + n ≤ b →
    (memWrite t a n v).get (fun _ => 0) b = t.get (fun _ => 0) b
  | 0, _, _, _, _, _ => rfl
  | n + 1, t, a, v, b, h => by
    rw [memWrite, memWrite_get_outside n _ _ _ _ (by omega), Tbl.get_set_ne _ _ _ _ _ (by omega)]

/-- A written byte reads as the byte of the number that was written. -/
theorem memWrite_get_inside : ∀ (n : Nat) (t : Tbl Byte) (a v i : Nat), i < n →
    (memWrite t a n v).get (fun _ => 0) (a + i) = BitVec.ofNat 8 (v / 256 ^ i)
  | 0, _, _, _, i, h => by omega
  | n + 1, t, a, v, 0, _ => by
    rw [memWrite, memWrite_get_outside n _ _ _ _ (by omega), Nat.add_zero, Tbl.get_set_same]; simp
  | n + 1, t, a, v, i + 1, h => by
    have e : a + (i + 1) = a + 1 + i := by omega
    rw [memWrite, e, memWrite_get_inside n _ _ _ i (by omega), Nat.pow_succ, Nat.mul_comm, Nat.div_div_eq_div_mul]

theorem memRead_outside : ∀ (m n : Nat) (t : Tbl Byte) (a v b : Nat), b + m ≤ a ∨ a + n ≤ b →
    memRead (memWrite t a n v) b m = memRead t b m
  | 0, _, _, _, _, _, _ => rfl
  | m + 1, n, t, a, v, b, h => by
    rw [memRead, memRead, memWrite_get_outside _ _ _ _ _ (by omega), memRead_outside m n t a v (b + 1) (by omega)]

theorem memRead_written (n : Nat) : ∀ (t : Tbl Byte) (a v m : Nat), m ≤ n →
    memRead (memWrite t a n v) (a + (n - m)) m = v / 256 ^ (n - m) % 256 ^ m
  | _, _, _, 0, _ => by simp [memRead, Nat.mod_one]
  | t, a, v, m + 1, h => by
    have e : a + (n - (m + 1)) + 1 = a + (n - m) := by omega
    rw [memRead, memWrite_get_inside _ _ _ _ _ (by omega), e, memRead_written n t a v m (by omega)]
    have h2 : n - m = n - (m + 1) + 1 := by omega
    rw [BitVec.toNat_ofNat, h2, Nat.pow_succ 256 (n - (m + 1)), ← Nat.div_div_eq_div_mul, Nat.pow_succ 256 m, Nat.mul_comm (256 ^ m) 256,
      Nat.mod_mul]

/-- Reading what was just written gives the written number, as many bytes of it as were written. -/
theorem memRead_memWrite (t : Tbl Byte) (a n v : Nat) : memRead (memWrite t a n v) a n = v % 256 ^ n := by
  have h := memRead_written n t a v n (Nat.le_refl n)
  simpa using h

theorem State.reset_near_wf : Memory.wf State.reset.near = true := rfl
theorem State.reset_far_wf : Memory.wf State.reset.far = true := rfl


end Sys2Proof.Machine
end

