-- ==== Sys2Proof/Laws/Frame.lean ====
section
/-! SUPPORT. What an operation can do, said once: Touches m s t says that from s to t only the fields of the state named in the mask m
may differ (bit i is the i-th field of State), that memory in its canonical form stays so, and that the fuses' trust does not fall. -/

namespace Sys2Proof.Machine

/-- Field i of the state is the same. -/
def State.sameAt (s t : State) : Nat → Prop
  | 0 => t.fuses = s.fuses
  | 1 => t.pins = s.pins
  | 2 => t.tb = s.tb
  | 3 => t.regs = s.regs
  | 4 => t.dies = s.dies
  | 5 => t.pdPend = s.pdPend
  | 6 => t.wakes = s.wakes
  | 7 => t.img = s.img
  | 8 => t.sup = s.sup
  | 9 => t.err = s.err
  | 10 => t.side = s.side
  | 11 => t.boot = s.boot
  | 12 => t.host = s.host
  | 13 => t.bench = s.bench
  | 14 => t.ports = s.ports
  | 15 => t.lanes = s.lanes
  | 16 => t.spares = s.spares
  | 17 => t.head = s.head
  | 18 => t.jobs = s.jobs
  | 19 => t.ctxs = s.ctxs
  | 20 => t.lathes = s.lathes
  | 21 => t.near = s.near
  | 22 => t.far = s.far
  | 23 => t.nearBurr = s.nearBurr
  | 24 => t.farBurr = s.farBurr
  | 25 => t.freeCtr = s.freeCtr
  | 26 => t.outs = s.outs
  | 27 => t.pending = s.pending
  | _ => True

theorem State.sameAt_refl (s : State) (i : Nat) : s.sameAt s i := by
  unfold State.sameAt; split <;> trivial

theorem State.sameAt_trans {s t u : State} {i : Nat} (h : s.sameAt t i) (h' : t.sameAt u i) : s.sameAt u i := by
  revert h h'; unfold State.sameAt; split <;> intro h h' <;> first | exact h'.trans h | trivial

/-- Only the fields in the mask m differ; memory stays canonical; trust does not fall. -/
structure Touches (m : Nat) (s t : State) : Prop where
  same : ∀ i, m.testBit i = false → s.sameAt t i
  mem : s.memoryOk = true → t.memoryOk = true
  trust : Fuses.trustKept s.fuses t.fuses

theorem Fuses.trustKept_refl (f : Fuses) : Fuses.trustKept f f := ⟨rfl, Nat.le_refl _, fun _ h => h⟩

theorem Fuses.trustKept_trans {f g h : Fuses} (a : Fuses.trustKept f g) (b : Fuses.trustKept g h) : Fuses.trustKept f h :=
  ⟨b.1.trans a.1, Nat.le_trans a.2.1 b.2.1, fun k hk => b.2.2 k (a.2.2 k hk)⟩

theorem Touches.refl (m : Nat) (s : State) : Touches m s s :=
  ⟨fun i _ => s.sameAt_refl i, id, Fuses.trustKept_refl _⟩

/-- One operation after what came before, where the mask covers what it touches. -/
theorem Touches.step {m k : Nat} {s t u : State} (h' : Touches k t u) (hm : k ||| m = m) (h : Touches m s t) : Touches m s u := by
  refine ⟨fun i hi => State.sameAt_trans (h.same i hi) (h'.same i ?_), fun w => h'.mem (h.mem w), Fuses.trustKept_trans h.trust h'.trust⟩
  rw [← hm, Nat.testBit_or] at hi
  simp only [Bool.or_eq_false_iff] at hi
  exact hi.1

theorem Touches.mono {m k : Nat} {s t : State} (h : Touches k s t) (hm : k ||| m = m) : Touches m s t :=
  Touches.step h hm (Touches.refl m s)

/-- A pair's state. -/
def Touches2 {α : Type} (m : Nat) (s : State) (x : α × State) : Prop := Touches m s x.2
/-- A state that may be absent. -/
def TouchesO (m : Nat) (s : State) (x : Option State) : Prop := ∀ t, x = some t → Touches m s t
/-- A pair that may be absent. -/
def TouchesO2 {α : Type} (m : Nat) (s : State) (x : Option (α × State)) : Prop := ∀ y, x = some y → Touches m s y.2
/-- A command's outcome. -/
def TouchesX (m : Nat) (s : State) (x : Host.Outcome State Fault Refusal) : Prop := ∀ t, x = .next t → Touches m s t

theorem Touches2.mk {α : Type} {m : Nat} {s t : State} {a : α} (h : Touches m s t) : Touches2 m s (a, t) := h
theorem Touches2.of {α : Type} {m : Nat} {s t : State} {a : α} {x : α × State} (e : x = (a, t)) (h : Touches2 m s x) : Touches m s t := by
  subst e; exact h
theorem Touches2.snd {α : Type} {m : Nat} {s : State} {x : α × State} (h : Touches2 m s x) : Touches m s x.2 := h
theorem Touches2.step {α : Type} {m k : Nat} {s t : State} {x : α × State} (h' : Touches2 k t x) (hm : k ||| m = m)
    (h : Touches m s t) : Touches2 m s x := Touches.step h' hm h
theorem TouchesO.some_ {m : Nat} {s t : State} (h : Touches m s t) : TouchesO m s (some t) := fun _ e => by cases e; exact h
theorem TouchesO.none_ {m : Nat} {s : State} : TouchesO m s none := fun _ e => by cases e
theorem TouchesO.of {m : Nat} {s t : State} {x : Option State} (e : x = some t) (h : TouchesO m s x) : Touches m s t := h t e
theorem TouchesO.step {m k : Nat} {s t : State} {x : Option State} (h' : TouchesO k t x) (hm : k ||| m = m) (h : Touches m s t) :
    TouchesO m s x := fun u e => Touches.step (h' u e) hm h
theorem TouchesO2.some_ {α : Type} {m : Nat} {s t : State} {a : α} (h : Touches m s t) : TouchesO2 m s (some (a, t)) :=
  fun _ e => by cases e; exact h
theorem TouchesO2.none_ {α : Type} {m : Nat} {s : State} : TouchesO2 (α := α) m s none := fun _ e => by cases e
theorem TouchesO2.of {α : Type} {m : Nat} {s t : State} {a : α} {x : Option (α × State)} (e : x = some (a, t)) (h : TouchesO2 m s x) :
    Touches m s t := h (a, t) e
theorem TouchesO2.step {α : Type} {m k : Nat} {s t : State} {x : Option (α × State)} (h' : TouchesO2 k t x) (hm : k ||| m = m)
    (h : Touches m s t) : TouchesO2 m s x := fun u e => Touches.step (h' u e) hm h
theorem TouchesX.next_ {m : Nat} {s t : State} (h : Touches m s t) : TouchesX m s (.next t) := fun _ e => by cases e; exact h
theorem TouchesX.fault_ {m : Nat} {s : State} {r : Fault} : TouchesX m s (.fault r) := fun _ e => by cases e
theorem TouchesX.step {m k : Nat} {s t : State} {x : Host.Outcome State Fault Refusal} (h' : TouchesX k t x) (hm : k ||| m = m)
    (h : Touches m s t) : TouchesX m s x := fun u e => Touches.step (h' u e) hm h

/-- A fold of an operation. -/
theorem Touches.foldl {α : Type} {m : Nat} {s i : State} {f : State → α → State} {l : List α} (hf : ∀ s x, Touches m s (f s x))
    (h : Touches m s i) : Touches m s (l.foldl f i) := by
  induction l generalizing i with
  | nil => exact h
  | cons x l ih => exact ih (Touches.step (hf i x) (Nat.or_self m) h)

/-- A fold that carries a value beside the state. -/
theorem Touches2.foldl {α β : Type} {m : Nat} {s : State} {f : β × State → α → β × State} {l : List α} {i : β × State}
    (hf : ∀ y x, Touches2 m y.2 (f y x)) (h : Touches2 m s i) : Touches2 m s (l.foldl f i) := by
  induction l generalizing i with
  | nil => exact h
  | cons x l ih => exact ih (Touches.step (hf i x) (Nat.or_self m) h)

/-! ## One field changed -/

theorem Touches.set_pins (s : State) (x : Pins) : Touches 0x2 s { s with pins := x } := by
  refine ⟨fun i hi => ?_, fun h => h, Fuses.trustKept_refl _⟩
  unfold State.sameAt; split <;> first | rfl | trivial

theorem Touches.set_tb (s : State) (x : Timebase) : Touches 0x4 s { s with tb := x } := by
  refine ⟨fun i hi => ?_, fun h => h, Fuses.trustKept_refl _⟩
  unfold State.sameAt; split <;> first | rfl | trivial

theorem Touches.set_regs (s : State) (x : Tbl W64) : Touches 0x8 s { s with regs := x } := by
  refine ⟨fun i hi => ?_, fun h => h, Fuses.trustKept_refl _⟩
  unfold State.sameAt; split <;> first | rfl | trivial

theorem Touches.set_dies (s : State) (x : Tbl DieSt) : Touches 0x10 s { s with dies := x } := by
  refine ⟨fun i hi => ?_, fun h => h, Fuses.trustKept_refl _⟩
  unfold State.sameAt; split <;> first | rfl | trivial

theorem Touches.set_pdPend (s : State) (x : Tbl PdPend) : Touches 0x20 s { s with pdPend := x } := by
  refine ⟨fun i hi => ?_, fun h => h, Fuses.trustKept_refl _⟩
  unfold State.sameAt; split <;> first | rfl | trivial

theorem Touches.set_wakes (s : State) (x : Tbl Wake) : Touches 0x40 s { s with wakes := x } := by
  refine ⟨fun i hi => ?_, fun h => h, Fuses.trustKept_refl _⟩
  unfold State.sameAt; split <;> first | rfl | trivial

theorem Touches.set_img (s : State) (x : ImgSt) : Touches 0x80 s { s with img := x } := by
  refine ⟨fun i hi => ?_, fun h => h, Fuses.trustKept_refl _⟩
  unfold State.sameAt; split <;> first | rfl | trivial

theorem Touches.set_sup (s : State) (x : SupSt) : Touches 0x100 s { s with sup := x } := by
  refine ⟨fun i hi => ?_, fun h => h, Fuses.trustKept_refl _⟩
  unfold State.sameAt; split <;> first | rfl | trivial

theorem Touches.set_err (s : State) (x : ErrSt) : Touches 0x200 s { s with err := x } := by
  refine ⟨fun i hi => ?_, fun h => h, Fuses.trustKept_refl _⟩
  unfold State.sameAt; split <;> first | rfl | trivial

theorem Touches.set_side (s : State) (x : SideSt) : Touches 0x400 s { s with side := x } := by
  refine ⟨fun i hi => ?_, fun h => h, Fuses.trustKept_refl _⟩
  unfold State.sameAt; split <;> first | rfl | trivial

theorem Touches.set_boot (s : State) (x : BootSt) : Touches 0x800 s { s with boot := x } := by
  refine ⟨fun i hi => ?_, fun h => h, Fuses.trustKept_refl _⟩
  unfold State.sameAt; split <;> first | rfl | trivial

theorem Touches.set_host (s : State) (x : HostSt) : Touches 0x1000 s { s with host := x } := by
  refine ⟨fun i hi => ?_, fun h => h, Fuses.trustKept_refl _⟩
  unfold State.sameAt; split <;> first | rfl | trivial

theorem Touches.set_bench (s : State) (x : BenchSt) : Touches 0x2000 s { s with bench := x } := by
  refine ⟨fun i hi => ?_, fun h => h, Fuses.trustKept_refl _⟩
  unfold State.sameAt; split <;> first | rfl | trivial

theorem Touches.set_ports (s : State) (x : Tbl PortSt) : Touches 0x4000 s { s with ports := x } := by
  refine ⟨fun i hi => ?_, fun h => h, Fuses.trustKept_refl _⟩
  unfold State.sameAt; split <;> first | rfl | trivial

theorem Touches.set_lanes (s : State) (x : Tbl Nat) : Touches 0x8000 s { s with lanes := x } := by
  refine ⟨fun i hi => ?_, fun h => h, Fuses.trustKept_refl _⟩
  unfold State.sameAt; split <;> first | rfl | trivial

theorem Touches.set_spares (s : State) (x : Tbl Nat) : Touches 0x10000 s { s with spares := x } := by
  refine ⟨fun i hi => ?_, fun h => h, Fuses.trustKept_refl _⟩
  unfold State.sameAt; split <;> first | rfl | trivial

theorem Touches.set_head (s : State) (x : HeadSt) : Touches 0x20000 s { s with head := x } := by
  refine ⟨fun i hi => ?_, fun h => h, Fuses.trustKept_refl _⟩
  unfold State.sameAt; split <;> first | rfl | trivial

theorem Touches.set_jobs (s : State) (x : JobsSt) : Touches 0x40000 s { s with jobs := x } := by
  refine ⟨fun i hi => ?_, fun h => h, Fuses.trustKept_refl _⟩
  unfold State.sameAt; split <;> first | rfl | trivial

theorem Touches.set_ctxs (s : State) (x : Tbl CtxSt) : Touches 0x80000 s { s with ctxs := x } := by
  refine ⟨fun i hi => ?_, fun h => h, Fuses.trustKept_refl _⟩
  unfold State.sameAt; split <;> first | rfl | trivial

theorem Touches.set_lathes (s : State) (x : Tbl LatheSt) : Touches 0x100000 s { s with lathes := x } := by
  refine ⟨fun i hi => ?_, fun h => h, Fuses.trustKept_refl _⟩
  unfold State.sameAt; split <;> first | rfl | trivial

theorem Touches.set_nearBurr (s : State) (x : Tbl Bool) : Touches 0x800000 s { s with nearBurr := x } := by
  refine ⟨fun i hi => ?_, fun h => h, Fuses.trustKept_refl _⟩
  unfold State.sameAt; split <;> first | rfl | trivial

theorem Touches.set_farBurr (s : State) (x : Tbl Bool) : Touches 0x1000000 s { s with farBurr := x } := by
  refine ⟨fun i hi => ?_, fun h => h, Fuses.trustKept_refl _⟩
  unfold State.sameAt; split <;> first | rfl | trivial

theorem Touches.set_freeCtr (s : State) (x : Nat) : Touches 0x2000000 s { s with freeCtr := x } := by
  refine ⟨fun i hi => ?_, fun h => h, Fuses.trustKept_refl _⟩
  unfold State.sameAt; split <;> first | rfl | trivial

theorem Touches.set_outs (s : State) (x : List Out) : Touches 0x4000000 s { s with outs := x } := by
  refine ⟨fun i hi => ?_, fun h => h, Fuses.trustKept_refl _⟩
  unfold State.sameAt; split <;> first | rfl | trivial

theorem Touches.set_pending (s : State) (x : List Instr) : Touches 0x8000000 s { s with pending := x } := by
  refine ⟨fun i hi => ?_, fun h => h, Fuses.trustKept_refl _⟩
  unfold State.sameAt; split <;> first | rfl | trivial

theorem Touches.set_near (s : State) (x : Tbl Byte) (hx : Memory.wf s.near = true → Memory.wf x = true) :
    Touches 0x200000 s { s with near := x } := by
  refine ⟨fun i hi => ?_, fun h => ?_, Fuses.trustKept_refl _⟩
  · unfold State.sameAt; split <;> first | rfl | trivial
  · simp only [State.memoryOk, Bool.and_eq_true] at h ⊢; exact ⟨hx h.1, h.2⟩

theorem Touches.set_far (s : State) (x : Tbl Byte) (hx : Memory.wf s.far = true → Memory.wf x = true) :
    Touches 0x400000 s { s with far := x } := by
  refine ⟨fun i hi => ?_, fun h => ?_, Fuses.trustKept_refl _⟩
  · unfold State.sameAt; split <;> first | rfl | trivial
  · simp only [State.memoryOk, Bool.and_eq_true] at h ⊢; exact ⟨h.1, hx h.2⟩

theorem Touches.set_fuses (s : State) (x : Fuses) (hx : Fuses.trustKept s.fuses x) :
    Touches 0x1 s { s with fuses := x } := by
  refine ⟨fun i hi => ?_, fun h => h, hx⟩
  unfold State.sameAt; split <;> first | rfl | trivial

end Sys2Proof.Machine
end

