-- ==== Sys2Proof/Laws/FrameOps.lean ====
section
/-! SUPPORT. What each operation of Machine/Ops.lean can touch: its mask, memory's canonical form, the fuses' trust. -/

namespace Sys2Proof.Machine

theorem State.wr_touches (s : State) (a1 : Nat) (a2 : W64) :
    Touches 0x8 s (State.wr s a1 a2) := by
  unfold State.wr
  exact (Touches.set_regs s _).mono (by decide)

theorem State.setFld_touches (s : State) (a1 : Nat) (a2 : Fld) (a3 : Nat) :
    Touches 0x8 s (State.setFld s a1 a2 a3) := by
  unfold State.setFld
  exact (State.wr_touches _ _ _).mono (by decide)

theorem State.countBy_touches (s : State) (a1 : Nat) (a2 : Fld) (a3 : Nat) :
    Touches 0x8 s (State.countBy s a1 a2 a3) := by
  unfold State.countBy
  exact (State.setFld_touches _ _ _ _).mono (by decide)

theorem State.count_touches (s : State) (a1 : Nat) (a2 : Fld) :
    Touches 0x8 s (State.count s a1 a2) := by
  unfold State.count
  exact (State.countBy_touches _ _ _ _).mono (by decide)

theorem State.raiseMax_touches (s : State) (a1 : Nat) (a2 : Fld) (a3 : Nat) :
    Touches 0x8 s (State.raiseMax s a1 a2 a3) := by
  unfold State.raiseMax
  exact (State.setFld_touches _ _ _ _).mono (by decide)

theorem State.emit_touches (s : State) (a1 : Out) :
    Touches 0x4000000 s (State.emit s a1) := by
  unfold State.emit
  exact (Touches.set_outs s _).mono (by decide)

theorem State.free_touches (s : State) :
    Touches2 0x2000000 s (State.free s) := by
  unfold State.free
  refine Touches2.mk ?_
  exact (Touches.set_freeCtr s _).mono (by decide)

theorem State.setDie_touches (s : State) (a1 : Nat) (a2 : DieSt → DieSt) :
    Touches 0x10 s (State.setDie s a1 a2) := by
  unfold State.setDie
  exact (Touches.set_dies s _).mono (by decide)

theorem State.useInput_touches (s : State) (a1 : Nat) (a2 : Nat) (a3 : Nat) :
    Touches 0x10 s (State.useInput s a1 a2 a3) := by
  unfold State.useInput
  split
  · exact Touches.refl _ _
  · exact (State.setDie_touches _ _ _).mono (by decide)

theorem State.setDom_touches (s : State) (a1 : Nat) (a2 : Nat) :
    Touches 0x8 s (State.setDom s a1 a2) := by
  unfold State.setDom
  exact (State.setFld_touches _ _ _ _).mono (by decide)

theorem State.setWake_touches (s : State) (a1 : Nat) (a2 : Wake) :
    Touches 0x40 s (State.setWake s a1 a2) := by
  unfold State.setWake
  exact (Touches.set_wakes s _).mono (by decide)

theorem State.domWake_touches (s : State) (a1 : Nat) :
    Touches 0x48 s (State.domWake s a1) := by
  unfold State.domWake
  refine Touches.step (State.setWake_touches _ _ _) (by decide) ?_
  refine Touches.step (State.setDom_touches _ _ _) (by decide) ?_
  exact Touches.refl _ _

theorem State.startWake_touches (s : State) (a1 : Nat) :
    Touches 0x48 s (State.startWake s a1) := by
  unfold State.startWake
  refine Touches.step (State.setWake_touches _ _ _) (by decide) ?_
  exact (State.setDom_touches _ _ _).mono (by decide)

theorem State.nearWrite_touches (s : State) (a1 : Nat) (a2 : Blob) :
    Touches 0xa00000 s (State.nearWrite s a1 a2) := by
  unfold State.nearWrite
  exact (Touches.set_nearBurr { s with near := memWrite s.near a1 a2.len a2.val } _).step (by decide)
    ((Touches.set_near s _ (memWrite_wf _ _ _ _)).mono (by decide))

theorem State.farWrite_touches (s : State) (a1 : Nat) (a2 : Blob) :
    Touches 0x1400000 s (State.farWrite s a1 a2) := by
  unfold State.farWrite
  exact (Touches.set_farBurr { s with far := memWrite s.far a1 a2.len a2.val } _).step (by decide)
    ((Touches.set_far s _ (memWrite_wf _ _ _ _)).mono (by decide))

theorem State.tierWrite_touches (s : State) (a1 : Nat) (a2 : Nat) (a3 : Blob) :
    Touches 0x1e00000 s (State.tierWrite s a1 a2 a3) := by
  unfold State.tierWrite
  split
  · exact (State.nearWrite_touches _ _ _).mono (by decide)
  · exact (State.farWrite_touches _ _ _).mono (by decide)

theorem State.tierBurr_touches (s : State) (a1 : Nat) (a2 : Nat) :
    Touches 0x1800000 s (State.tierBurr s a1 a2) := by
  unfold State.tierBurr
  split
  · exact (Touches.set_nearBurr s _).mono (by decide)
  · exact (Touches.set_farBurr s _).mono (by decide)

theorem State.msix_touches (s : State) (a1 : Nat) (a2 : Nat) :
    Touches 0x4001000 s (State.msix s a1 a2) := by
  unfold State.msix
  split
  · exact Touches.refl _ _
  · split
    · exact (Touches.set_host s _).mono (by decide)
    · exact (State.emit_touches _ _).mono (by decide)

theorem State.msixAll_touches (s : State) (a1 : Nat) :
    Touches 0x4001000 s (State.msixAll s a1) := by
  unfold State.msixAll
  refine Touches.step (State.msix_touches _ _ _) (by decide) ?_
  exact (State.msix_touches _ _ _).mono (by decide)

theorem State.i3cEvent_touches (s : State) (a1 : Nat) (a2 : Nat) :
    Touches 0x4000400 s (State.i3cEvent s a1 a2) := by
  unfold State.i3cEvent
  extract_lets x0 x1 x2
  clear_value x0 x1
  have h3 : Touches 0x4000400 s x2 := by
    unfold x2
    exact (Touches.set_side s _).mono (by decide)
  clear_value x2
  split
  · exact Touches.step (State.emit_touches _ _) (by decide) (by assumption)
  · assumption

theorem State.setErrq_touches (s : State) (a1 : Nat) (a2 : List ErrRec) :
    Touches 0x200 s (State.setErrq s a1 a2) := by
  unfold State.setErrq
  exact (Touches.set_err s _).mono (by decide)

theorem State.logAppend_touches (s : State) (a1 : ErrRec) :
    Touches 0x4001208 s (State.logAppend s a1) := by
  unfold State.logAppend
  extract_lets x0 x1 x2 x3
  clear_value x0 x1
  have h4 : Touches 0x4001208 s x2 := by
    unfold x2
    exact (Touches.set_err s _).mono (by decide)
  clear_value x2
  have h5 : Touches 0x4001208 s x3 := by
    unfold x3
    exact Touches.step (State.setFld_touches _ _ _ _) (by decide) (by assumption)
  clear_value x3
  split
  · refine Touches.step (State.msixAll_touches _ _) (by decide) ?_
    exact Touches.step (State.count_touches _ _ _) (by decide) (by assumption)
  · assumption

theorem State.showPend_touches (s : State) :
    Touches 0x8 s (State.showPend s) := by
  unfold State.showPend
  extract_lets x0
  have h1 : Touches 0x8 s x0 := by
    unfold x0
    exact (State.setFld_touches _ _ _ _).mono (by decide)
  clear_value x0
  exact Touches.step (State.setFld_touches _ _ _ _) (by decide) (by assumption)

theorem State.taken_touches (s : State) (a1 : Nat) (a2 : Option Nat) :
    Touches 0x208 s (State.taken s a1 a2) := by
  unfold State.taken
  extract_lets x0 x1
  clear_value x0 x1
  refine Touches.step (State.showPend_touches _) (by decide) ?_
  exact (Touches.set_err s _).mono (by decide)

theorem State.escalate_touches (s : State) (a1 : Nat) (a2 : Nat) (a3 : Nat) (a4 : Nat) :
    Touches 0x208 s (State.escalate s a1 a2 a3 a4) := by
  unfold State.escalate
  split
  · exact Touches.refl _ _
  · split
    · split
      · exact Touches.refl _ _
      · exact (Touches.set_err s _).mono (by decide)
    · split
      · exact Touches.refl _ _
      · refine Touches.step (State.showPend_touches _) (by decide) ?_
        exact (Touches.set_err s _).mono (by decide)

theorem State.sampleLathe_touches (s : State) (a1 : Nat) :
    Touches 0x200 s (State.sampleLathe s a1) := by
  unfold State.sampleLathe
  extract_lets x0 x1
  clear_value x0 x1
  exact (Touches.set_err s _).mono (by decide)

theorem State.capture_touches (s : State) :
    Touches 0x200 s (State.capture s) := by
  unfold State.capture
  extract_lets x0 x1
  clear_value x0
  have h2 : Touches 0x200 s x1 := by
    unfold x1
    split
    · exact Touches.refl _ _
    · exact (Touches.set_err s _).mono (by decide)
  clear_value x1
  refine Touches.foldl ?_ ?_
  · intro z3 z4
    exact (State.sampleLathe_touches _ _).mono (by decide)
  · assumption

theorem State.raise_touches (s : State) (a1 : ErrRec) :
    Touches 0x208 s (State.raise s a1) := by
  unfold State.raise
  extract_lets x0 x1 x2 x3 x4 x5 x6 x7 x8
  clear_value x0 x1
  have h9 : Touches 0x208 s x2 := by
    unfold x2
    split
    · exact (Touches.set_err s _).mono (by decide)
    · exact Touches.refl _ _
  clear_value x2
  have h10 : Touches 0x208 s x3 := by
    unfold x3
    split
    · exact Touches.step (State.capture_touches _) (by decide) (by assumption)
    · assumption
  clear_value x3 x4
  have h11 : Touches 0x208 s x5 := by
    unfold x5
    exact Touches.step (State.count_touches _ _ _) (by decide) (by assumption)
  clear_value x5
  have h12 : Touches 0x208 s x6 := by
    unfold x6
    split
    · exact Touches.step (State.capture_touches _) (by decide) (by assumption)
    · assumption
  clear_value x6 x7 x8
  split
  · split
    · exact Touches.step (State.setErrq_touches _ _ _) (by decide) (by assumption)
    · split
      · refine Touches.step (State.escalate_touches _ _ _ _ _) (by decide) ?_
        exact Touches.step (State.setErrq_touches _ _ _) (by decide) (by assumption)
      · split
        · refine Touches.step (State.escalate_touches _ _ _ _ _) (by decide) ?_
          exact Touches.step (State.setErrq_touches _ _ _) (by decide) (by assumption)
        · refine Touches.step (State.escalate_touches _ _ _ _ _) (by decide) ?_
          exact Touches.step (State.setErrq_touches _ _ _) (by decide) (by assumption)
  · refine Touches.step (State.escalate_touches _ _ _ _ _) (by decide) ?_
    exact Touches.step (State.setErrq_touches _ _ _) (by decide) (by assumption)

theorem State.keeperRec_touches (s : State) (a1 : Nat) (a2 : Nat) (a3 : Nat) :
    Touches 0x4001208 s (State.keeperRec s a1 a2 a3) := by
  unfold State.keeperRec
  exact (State.logAppend_touches _ _).mono (by decide)

theorem State.setFence_touches (s : State) (a1 : Nat) (a2 : Fence → Fence) :
    Touches 0x100 s (State.setFence s a1 a2) := by
  unfold State.setFence
  exact (Touches.set_sup s _).mono (by decide)

theorem State.hostDrop_touches (s : State) (a1 : Nat) (a2 : Nat) (a3 : Nat) (a4 : Nat) (a5 : Fld) :
    Touches 0x8 s (State.hostDrop s a1 a2 a3 a4 a5) := by
  unfold State.hostDrop
  extract_lets x0
  clear_value x0
  split
  · exact Touches.refl _ _
  · refine Touches.step (State.setFld_touches _ _ _ _) (by decide) ?_
    refine Touches.step (State.setFld_touches _ _ _ _) (by decide) ?_
    refine Touches.step (State.setFld_touches _ _ _ _) (by decide) ?_
    exact (State.count_touches _ _ _).mono (by decide)

theorem State.dropWrite_touches (s : State) (a1 : Writer) (a2 : Nat) (a3 : Nat) (a4 : FenceVerdict) :
    Touches 0x8 s (State.dropWrite s a1 a2 a3 a4) := by
  unfold State.dropWrite
  split
  · exact Touches.refl _ _
  · exact (State.count_touches _ _ _).mono (by decide)
  · exact (State.count_touches _ _ _).mono (by decide)
  · split
    · exact (State.hostDrop_touches _ _ _ _ _ _).mono (by decide)
    · exact Touches.refl _ _

theorem State.fenced_touches {m : Nat} (s : State) (a1 : Writer) (a2 a3 : Nat) (a4 : State → State) (hm : 0x8 ||| m = m)
    (h : ∀ s, Touches m s (a4 s)) : Touches m s (State.fenced s a1 a2 a3 a4) := by
  unfold State.fenced
  split
  · exact h s
  · exact (State.dropWrite_touches _ _ _ _ _).mono hm

theorem State.f2hPut_touches (s : State) (a1 : Nat) (a2 : Nat) (a3 : W64) :
    Touches 0x8 s (State.f2hPut s a1 a2 a3) := by
  unfold State.f2hPut
  extract_lets x0
  clear_value x0
  refine Touches.step (State.setFld_touches _ _ _ _) (by decide) ?_
  exact (State.wr_touches _ _ _).mono (by decide)

theorem State.post_touches (s : State) (a1 : MgmtEvent) :
    Touches 0x4a00608 s (State.post s a1) := by
  unfold State.post
  extract_lets x0 x1 x2 x3 x4 x5 x6
  clear_value x0 x1 x2 x3
  have h7 : Touches 0x4a00608 s x4 := by
    unfold x4
    exact (Touches.set_err s _).mono (by decide)
  clear_value x4
  have h8 : Touches 0x4a00608 s x5 := by
    unfold x5
    split
    · assumption
    · exact Touches.step (State.nearWrite_touches _ _ _) (by decide) (by assumption)
  clear_value x5
  have h9 : Touches 0x4a00608 s x6 := by
    unfold x6
    split
    · exact Touches.step (State.f2hPut_touches _ _ _ _) (by decide) (by assumption)
    · assumption
  clear_value x6
  split
  · exact Touches.step (State.i3cEvent_touches _ _ _) (by decide) (by assumption)
  · assumption

end Sys2Proof.Machine
end

