-- ==== Sys2Proof/Laws/FrameBench.lean ====
section
/-! SUPPORT. What each operation of Machine/Bench.lean can touch: its mask, memory's canonical form, the fuses' trust. -/

namespace Sys2Proof.Machine

theorem State.withBench_touches (s : State) (a1 : BenchSt → BenchSt) :
    Touches 0x2000 s (State.withBench s a1) := by
  unfold State.withBench
  exact (Touches.set_bench s _).mono (by decide)

theorem State.setGrain_touches (s : State) (a1 : Nat) (a2 : GrainSt) :
    Touches 0x2000 s (State.setGrain s a1 a2) := by
  unfold State.setGrain
  exact (State.withBench_touches _ _).mono (by decide)

theorem State.freeGrain_touches (s : State) (a1 : Nat) :
    Touches 0x2000 s (State.freeGrain s a1) := by
  unfold State.freeGrain
  exact (State.setGrain_touches _ _ _).mono (by decide)

theorem State.unref_touches (s : State) (a1 : Nat) :
    Touches 0x2000 s (State.unref s a1) := by
  unfold State.unref
  extract_lets x0
  clear_value x0
  split
  · exact (State.freeGrain_touches _ _).mono (by decide)
  · exact (State.setGrain_touches _ _ _).mono (by decide)

theorem State.unrefAll_touches (s : State) (a1 : List Nat) :
    Touches 0x2000 s (State.unrefAll s a1) := by
  unfold State.unrefAll
  refine Touches.foldl ?_ ?_
  · intro z0 z1
    exact (State.unref_touches _ _).mono (by decide)
  · exact Touches.refl _ _

theorem State.linkGrain_touches (s : State) (a1 : Nat) :
    Touches 0x2000 s (State.linkGrain s a1) := by
  unfold State.linkGrain
  extract_lets x0
  clear_value x0
  exact (State.setGrain_touches _ _ _).mono (by decide)

theorem State.allocOne_touches (s : State) (a1 : Nat) (a2 : Nat) (a3 : Nat) (a4 : Option Nat) :
    TouchesO2 0x2000 s (State.allocOne s a1 a2 a3 a4) := by
  unfold State.allocOne
  split
  · exact TouchesO2.none_
  · extract_lets x0 x1
    have h2 : Touches 0x2000 s x0 := by
      unfold x0
      exact (State.withBench_touches _ _).mono (by decide)
    clear_value x0 x1
    refine TouchesO2.some_ ?_
    exact Touches.step (State.setGrain_touches _ _ _) (by decide) (by assumption)

theorem State.allocN_touches (s : State) (a1 : Nat) (a2 : Nat) (a3 : Nat) (a4 : Option Nat) (a5 : Nat) :
    TouchesO2 0x2000 s (State.allocN s a1 a2 a3 a4 a5) := by
  unfold State.allocN
  split
  · refine TouchesO2.some_ ?_
    exact Touches.refl _ _
  · split
    · exact TouchesO2.none_
    · rename_i w0 w1 w2 w3
      have h4 : Touches 0x2000 s w2 := by
        refine TouchesO2.of w3 ?_
        exact TouchesO2.step (State.allocOne_touches _ _ _ _ _) (by decide) (Touches.refl _ _)
      split
      · exact TouchesO2.none_
      · rename_i w5 w6 w7 w8
        have h9 : Touches 0x2000 s w7 := by
          refine TouchesO2.of w8 ?_
          exact TouchesO2.step (State.allocN_touches _ _ _ _ _ _) (by decide) (by assumption)
        refine TouchesO2.some_ ?_
        assumption

theorem State.setQueue_touches (s : State) (a1 : Nat) (a2 : List Pkt) :
    Touches 0x2000 s (State.setQueue s a1 a2) := by
  unfold State.setQueue
  exact (State.withBench_touches _ _).mono (by decide)

theorem State.setReleased_touches (s : State) (a1 : Nat) (a2 : List Pkt) :
    Touches 0x2000 s (State.setReleased s a1 a2) := by
  unfold State.setReleased
  exact (State.withBench_touches _ _).mono (by decide)

theorem State.setPort_touches (s : State) (a1 : Nat) (a2 : PortSt → PortSt) :
    Touches 0x4000 s (State.setPort s a1 a2) := by
  unfold State.setPort
  exact (Touches.set_ports s _).mono (by decide)

theorem State.capturePkt_touches (s : State) (a1 : Pkt) (a2 : Nat) (a3 : Nat) (a4 : Option Nat) :
    Touches 0x2008 s (State.capturePkt s a1 a2 a3 a4) := by
  unfold State.capturePkt
  extract_lets x0 x1 x2 x3 x4 x5 x6 x7 x8 x9 x10 x11 x12
  clear_value x0 x1 x2 x3 x4 x5 x6 x8 x9 x10
  have h13 : Touches 0x2008 s x7 := by
    unfold x7
    refine Touches.step (State.withBench_touches _ _) (by decide) ?_
    exact Touches.refl _ _
  clear_value x7
  have h14 : Touches 0x2008 s x11 := by
    unfold x11
    refine Touches.step (State.withBench_touches _ _) (by decide) ?_
    assumption
  clear_value x11
  have h15 : Touches 0x2008 s x12 := by
    unfold x12
    refine Touches.step (State.withBench_touches _ _) (by decide) ?_
    assumption
  clear_value x12
  split
  · refine Touches.step (State.count_touches _ _ _) (by decide) ?_
    exact Touches.refl _ _
  · split
    · refine Touches.step (State.count_touches _ _ _) (by decide) ?_
      assumption
    · refine Touches.step (State.setFld_touches _ _ _ _) (by decide) ?_
      assumption

theorem State.captureDrop_touches (s : State) (a1 : Pkt) (a2 : Nat) (a3 : Nat) (a4 : Option Nat) :
    Touches 0x2008 s (State.captureDrop s a1 a2 a3 a4) := by
  unfold State.captureDrop
  split
  · exact (State.capturePkt_touches _ _ _ _ _).mono (by decide)
  · exact Touches.refl _ _

theorem State.dropArriving_touches (s : State) (a1 : Nat) :
    Touches 0x2000 s (State.dropArriving s a1) := by
  unfold State.dropArriving
  exact (State.withBench_touches _ _).mono (by decide)

theorem State.releasePkt_touches (s : State) (a1 : Pkt) :
    Touches 0x2000 s (State.releasePkt s a1) := by
  unfold State.releasePkt
  refine Touches.step (State.dropArriving_touches _ _) (by decide) ?_
  exact (State.unrefAll_touches _ _).mono (by decide)

theorem State.dropQueued_touches (s : State) (a1 : Nat) (a2 : Pkt) (a3 : Fld) (a4 : Nat) :
    Touches 0x2008 s (State.dropQueued s a1 a2 a3 a4) := by
  unfold State.dropQueued
  refine Touches.step (State.count_touches _ _ _) (by decide) ?_
  refine Touches.step (State.releasePkt_touches _ _) (by decide) ?_
  exact (State.captureDrop_touches _ _ _ _ _).mono (by decide)

theorem State.dropAged_touches (s : State) (a1 : Nat) (a2 : Pkt) :
    Touches 0x2008 s (State.dropAged s a1 a2) := by
  unfold State.dropAged
  exact (State.dropQueued_touches _ _ _ _ _).mono (by decide)

theorem State.pktLast_touches (s : State) (a1 : Nat) (a2 : Pkt) (a3 : Nat) :
    Touches 0x8 s (State.pktLast s a1 a2 a3) := by
  unfold State.pktLast
  extract_lets x0 x1 x2 x3 x4
  clear_value x0
  have h5 : Touches 0x8 s x1 := by
    unfold x1
    exact (State.setFld_touches _ _ _ _).mono (by decide)
  clear_value x1
  have h6 : Touches 0x8 s x2 := by
    unfold x2
    exact Touches.step (State.setFld_touches _ _ _ _) (by decide) (by assumption)
  clear_value x2
  have h7 : Touches 0x8 s x3 := by
    unfold x3
    exact Touches.step (State.setFld_touches _ _ _ _) (by decide) (by assumption)
  clear_value x3
  have h8 : Touches 0x8 s x4 := by
    unfold x4
    exact Touches.step (State.setFld_touches _ _ _ _) (by decide) (by assumption)
  clear_value x4
  exact Touches.step (State.setFld_touches _ _ _ _) (by decide) (by assumption)

theorem State.dropCount_touches (s : State) (a1 : Nat) (a2 : Pkt) (a3 : Nat) (a4 : Option Nat) :
    Touches 0x2008 s (State.dropCount s a1 a2 a3 a4) := by
  unfold State.dropCount
  extract_lets x0
  have h1 : Touches 0x2008 s x0 := by
    unfold x0
    split
    · exact (State.count_touches _ _ _).mono (by decide)
    · exact Touches.refl _ _
  clear_value x0
  refine Touches.step (State.captureDrop_touches _ _ _ _ _) (by decide) ?_
  exact Touches.step (State.pktLast_touches _ _ _ _) (by decide) (by assumption)

theorem State.unlinkPkt_touches (s : State) (a1 : Nat) (a2 : Nat) :
    Touches 0x6000 s (State.unlinkPkt s a1 a2) := by
  unfold State.unlinkPkt
  extract_lets x0 x1
  clear_value x0
  have h2 : Touches 0x6000 s x1 := by
    unfold x1
    refine Touches.step (State.setReleased_touches _ _ _) (by decide) ?_
    refine Touches.step (State.setQueue_touches _ _ _) (by decide) ?_
    exact Touches.refl _ _
  clear_value x1
  refine Touches.step (State.setPort_touches _ _ _) (by decide) ?_
  assumption

theorem PushOut.run_touches (s : State) (a1 a2 a3 : ℕ) : ∀ (n : ℕ) (w : PushOut), Touches 0x6008 s w.st →
    Touches 0x6008 s (PushOut.run a1 a2 a3 n w).2.st
  | 0, w, h => h
  | n + 1, w, h => by
    unfold PushOut.run
    split
    · exact h
    · split
      · exact h
      · split
        · exact h
        · extract_lets x0
          split
          · refine PushOut.run_touches s a1 a2 a3 n _ ?_
            exact (State.dropAged_touches _ _ _).step (by decide) ((State.unlinkPkt_touches _ _ _).step (by decide) h)
          · split
            · exact h
            · exact PushOut.run_touches s a1 a2 a3 n _ h

theorem State.pushOut_touches (s : State) (a1 a2 a3 : Nat) :
    Touches2 0x6008 s (State.pushOut s a1 a2 a3) := by
  unfold State.pushOut
  extract_lets x0
  have h := PushOut.run_touches s a1 a2 a3 (x0 + 5) ⟨s, [], 0⟩ (Touches.refl _ _)
  split
  rename_i ok w e
  rw [e] at h
  split
  · refine Touches2.mk (Touches.step (Touches.foldl (m := 0x6008) ?_ (Touches.refl _ _)) (by decide) h)
    intro s x
    exact (State.dropQueued_touches _ _ _ _ _).step (by decide) ((State.unlinkPkt_touches _ _ _).mono (by decide))
  · exact Touches2.mk h

theorem State.admitLossy_touches (s : State) (a1 : Plane) (a2 : Nat) (a3 : Nat) (a4 : Nat) (a5 : Nat) :
    Touches2 0x6008 s (State.admitLossy s a1 a2 a3 a4 a5) := by
  unfold State.admitLossy
  split
  · refine Touches2.mk ?_
    exact Touches.refl _ _
  · refine Touches2.mk ?_
    exact Touches.refl _ _
  · refine Touches2.mk ?_
    exact Touches.refl _ _
  · refine Touches2.step (State.pushOut_touches _ _ _ _) (by decide) ?_
    exact Touches.refl _ _
  · refine Touches2.mk ?_
    exact Touches.refl _ _

theorem State.admitAlloc_touches (s : State) (a1 : Nat) (a2 : Nat) :
    Touches2 0x6008 s (State.admitAlloc s a1 a2) := by
  unfold State.admitAlloc
  extract_lets x0 x1
  clear_value x0 x1
  split
  · refine Touches2.mk ?_
    exact Touches.refl _ _
  · refine Touches2.mk ?_
    exact Touches.refl _ _
  · refine Touches2.mk ?_
    exact Touches.refl _ _
  · split
    · refine Touches2.mk ?_
      exact Touches.refl _ _
    · refine Touches2.step (State.pushOut_touches _ _ _ _) (by decide) ?_
      exact Touches.refl _ _
  · split
    · refine Touches2.mk ?_
      exact Touches.refl _ _
    · split
      · refine Touches2.step (State.pushOut_touches _ _ _ _) (by decide) ?_
        exact Touches.refl _ _
      · refine Touches2.mk ?_
        exact Touches.refl _ _

theorem State.giveCredits_touches (s : State) (a1 : Nat) (a2 : Nat) (a3 : Nat) :
    Touches 0x4004000 s (State.giveCredits s a1 a2 a3) := by
  unfold State.giveCredits
  split
  · exact Touches.refl _ _
  · extract_lets x0
    have h1 : Touches 0x4004000 s x0 := by
      unfold x0
      refine Touches.step (State.setPort_touches _ _ _) (by decide) ?_
      exact Touches.refl _ _
    clear_value x0
    split
    · refine Touches.step (State.emit_touches _ _) (by decide) ?_
      assumption
    · assumption

theorem State.reserveOne_touches (s : State) (a1 : Nat) :
    Touches2 0x6008 s (State.reserveOne s a1) := by
  unfold State.reserveOne
  extract_lets x0
  clear_value x0
  split
  · refine Touches2.mk ?_
    exact Touches.refl _ _
  · split
    · refine Touches2.mk ?_
      exact Touches.refl _ _
    · split
      · rename_i w1 w2 w3 w4 w5 w6
        have h7 : Touches 0x6008 s w5 := by
          refine Touches2.of w6 ?_
          refine Touches2.step (State.admitAlloc_touches _ _ _) (by decide) ?_
          exact Touches.refl _ _
        split
        · refine Touches2.mk ?_
          refine Touches.step (State.withBench_touches _ _) (by decide) ?_
          assumption
        · refine Touches2.mk ?_
          assumption

theorem State.reserveCredits_touches (s : State) (a1 : Nat) (a2 : Nat) (a3 : Nat) :
    Touches 0x4006008 s (State.reserveCredits s a1 a2 a3) := by
  unfold State.reserveCredits
  split
  · exact Touches.refl _ _
  · split
    · rename_i w0 w1 w2 w3
      have h4 : Touches 0x4006008 s w2 := by
        refine Touches2.of w3 ?_
        exact Touches2.step (State.reserveOne_touches _ _) (by decide) (Touches.refl _ _)
      split
      · refine Touches.step (State.reserveCredits_touches _ _ _ _) (by decide) ?_
        refine Touches.step (State.giveCredits_touches _ _ _ _) (by decide) ?_
        exact Touches.step (State.setPort_touches _ _ _) (by decide) (by assumption)
      · assumption

theorem State.tryCredits_touches (s : State) (a1 : Nat) :
    Touches 0x4006008 s (State.tryCredits s a1) := by
  unfold State.tryCredits
  refine Touches.foldl ?_ ?_
  · intro z0
    intro z1
    refine Touches.step (State.reserveCredits_touches _ _ _ _) (by decide) ?_
    exact Touches.refl _ _
  · exact Touches.refl _ _

theorem State.returnCredits_touches (s : State) (a1 : Nat) (a2 : Nat) (a3 : Nat) :
    Touches 0x4006008 s (State.returnCredits s a1 a2 a3) := by
  unfold State.returnCredits
  split
  · refine Touches.step (State.reserveCredits_touches _ _ _ _) (by decide) ?_
    refine Touches.step (State.setPort_touches _ _ _) (by decide) ?_
    exact Touches.refl _ _
  · refine Touches.step (State.giveCredits_touches _ _ _ _) (by decide) ?_
    exact Touches.refl _ _

theorem State.unreserve_touches (s : State) (a1 : Nat) (a2 : Nat) (a3 : Nat) :
    Touches 0x2000 s (State.unreserve s a1 a2 a3) := by
  unfold State.unreserve
  split
  · exact (State.withBench_touches _ _).mono (by decide)
  · exact Touches.refl _ _

theorem State.flushList_touches (s : State) (a1 : Nat) (a2 : List Pkt) :
    Touches 0x2008 s (State.flushList s a1 a2) := by
  unfold State.flushList
  refine Touches.foldl ?_ ?_
  · intro z0 z1
    exact (State.dropQueued_touches _ _ _ _ _).mono (by decide)
  · exact Touches.refl _ _

theorem State.flushQueue_touches (s : State) (a1 : Nat) :
    Touches 0x2008 s (State.flushQueue s a1) := by
  unfold State.flushQueue
  extract_lets x0
  clear_value x0
  refine Touches.step (State.flushList_touches _ _ _) (by decide) ?_
  refine Touches.step (State.setReleased_touches _ _ _) (by decide) ?_
  exact (State.setQueue_touches _ _ _).mono (by decide)

theorem State.showHeld_touches (s : State) (a1 : Nat) :
    Touches 0x8 s (State.showHeld s a1) := by
  unfold State.showHeld
  extract_lets x0
  clear_value x0
  refine Touches.step (State.raiseMax_touches _ _ _ _) (by decide) ?_
  refine Touches.step (State.setFld_touches _ _ _ _) (by decide) ?_
  exact Touches.refl _ _

theorem State.flushPort_touches (s : State) (a1 : Nat) :
    Touches 0x6008 s (State.flushPort s a1) := by
  unfold State.flushPort
  extract_lets x0 x1 x2 x3
  clear_value x0
  have h4 : Touches 0x6008 s x1 := by
    unfold x1
    refine Touches.foldl ?_ ?_
    · intro z5
      intro z6
      refine Touches.step (State.flushQueue_touches _ _) (by decide) ?_
      exact Touches.refl _ _
    · exact Touches.refl _ _
  clear_value x1
  have h7 : Touches 0x6008 s x2 := by
    unfold x2
    refine Touches.foldl ?_ ?_
    · intro z8
      intro z9
      refine Touches.step (State.dropQueued_touches _ _ _ _ _) (by decide) ?_
      exact Touches.refl _ _
    · assumption
  clear_value x2
  have h10 : Touches 0x6008 s x3 := by
    unfold x3
    refine Touches.foldl ?_ ?_
    · intro z11
      intro z12
      refine Touches.step (State.unreserve_touches _ _ _ _) (by decide) ?_
      exact Touches.refl _ _
    · assumption
  clear_value x3
  refine Touches.step (State.showHeld_touches _ _) (by decide) ?_
  refine Touches.step (State.setPort_touches _ _ _) (by decide) ?_
  assumption

theorem State.reclaimHeld_touches (s : State) (a1 : Nat) :
    Touches2 0x2000 s (State.reclaimHeld s a1) := by
  unfold State.reclaimHeld
  extract_lets x0 x1
  clear_value x0
  have h2 : Touches 0x2000 s x1 := by
    unfold x1
    exact (State.withBench_touches _ _).mono (by decide)
  clear_value x1
  refine Touches2.mk ?_
  refine Touches.foldl ?_ ?_
  · intro z3 z4
    exact (State.freeGrain_touches _ _).mono (by decide)
  · assumption

theorem State.raiseEpoch_touches (s : State) (a1 : Nat) :
    Touches 0x2000 s (State.raiseEpoch s a1) := by
  unfold State.raiseEpoch
  exact (State.withBench_touches _ _).mono (by decide)

theorem State.reclaimNow_touches (s : State) (a1 : Nat) :
    Touches 0x2008 s (State.reclaimNow s a1) := by
  unfold State.reclaimNow
  extract_lets x0
  clear_value x0
  split
  · rename_i w1 w2 w3 w4
    have h5 : Touches 0x2008 s w3 := by
      refine Touches2.of w4 ?_
      refine Touches2.step (State.reclaimHeld_touches _ _) (by decide) ?_
      refine Touches.step (State.raiseEpoch_touches _ _) (by decide) ?_
      exact Touches.refl _ _
    extract_lets x6
    have h7 : Touches 0x2008 s x6 := by
      unfold x6
      refine Touches.step (State.setFld_touches _ _ _ _) (by decide) ?_
      refine Touches.step (State.setFld_touches _ _ _ _) (by decide) ?_
      assumption
    clear_value x6
    refine Touches.step (State.setFld_touches _ _ _ _) (by decide) ?_
    assumption

end Sys2Proof.Machine
end

