-- ==== Sys2Proof/Laws/FrameContext.lean ====
section
/-! SUPPORT. What each operation of Machine/Context.lean can touch: its mask, memory's canonical form, the fuses' trust. -/

namespace Sys2Proof.Machine

theorem State.setCtx_touches (s : State) (a1 : Nat) (a2 : CtxSt → CtxSt) :
    Touches 0x80000 s (State.setCtx s a1 a2) := by
  unfold State.setCtx
  exact (Touches.set_ctxs s _).mono (by decide)

theorem State.setCtxState_touches (s : State) (a1 : Nat) (a2 : Nat) :
    Touches 0x80000 s (State.setCtxState s a1 a2) := by
  unfold State.setCtxState
  exact (State.setCtx_touches _ _ _).mono (by decide)

theorem State.putRec_touches (s : State) (a1 : Nat) (a2 : Nat) (a3 : Nat) (a4 : Nat) :
    Touches 0x80000 s (State.putRec s a1 a2 a3 a4) := by
  unfold State.putRec
  exact (State.setCtx_touches _ _ _).mono (by decide)

theorem State.setRegs_touches (s : State) (a1 : Nat) (a2 : Regs → Regs) :
    Touches 0x80000 s (State.setRegs s a1 a2) := by
  unfold State.setRegs
  exact (State.setCtx_touches _ _ _).mono (by decide)

theorem State.setColl_touches (s : State) (a1 : Nat) (a2 : Coll → Coll) :
    Touches 0x80000 s (State.setColl s a1 a2) := by
  unfold State.setColl
  exact (State.setCtx_touches _ _ _).mono (by decide)

theorem State.setWait_touches (s : State) (a1 : Nat) (a2 : Wait) :
    Touches 0x80000 s (State.setWait s a1 a2) := by
  unfold State.setWait
  exact (State.setRegs_touches _ _ _).mono (by decide)

theorem State.setFlags_touches (s : State) (a1 : Nat) (a2 : Nat) :
    Touches 0x80000 s (State.setFlags s a1 a2) := by
  unfold State.setFlags
  split
  · exact Touches.refl _ _
  · exact (State.setRegs_touches _ _ _).mono (by decide)

theorem State.setLathe_touches (s : State) (a1 : Nat) (a2 : LatheSt → LatheSt) :
    Touches 0x100000 s (State.setLathe s a1 a2) := by
  unfold State.setLathe
  exact (Touches.set_lathes s _).mono (by decide)

theorem State.placeWindows_touches (s : State) (a1 : Nat) (a2 : Nat) :
    Touches 0x80000 s (State.placeWindows s a1 a2) := by
  unfold State.placeWindows
  refine Touches.foldl ?_ ?_
  · intro z0
    intro z1
    extract_lets x2 x3
    clear_value x2 x3
    split
    · refine Touches.step (State.setCtx_touches _ _ _) (by decide) ?_
      exact Touches.refl _ _
    · exact Touches.refl _ _
  · exact Touches.refl _ _

theorem State.setJob_touches (s : State) (a1 : Nat) (a2 : JobSt → JobSt) :
    Touches 0x40000 s (State.setJob s a1 a2) := by
  unfold State.setJob
  exact (Touches.set_jobs s _).mono (by decide)

theorem State.chargeGrant_touches (s : State) (a1 : Nat) :
    Touches 0x1c0008 s (State.chargeGrant s a1) := by
  unfold State.chargeGrant
  split
  · exact Touches.refl _ _
  · extract_lets x0 x1 x2 x3 x4 x5 x6
    clear_value x0
    have h7 : Touches 0x1c0008 s x1 := by
      unfold x1
      exact (State.setLathe_touches _ _ _).mono (by decide)
    clear_value x1
    have h8 : Touches 0x1c0008 s x2 := by
      unfold x2
      split
      · exact Touches.step (State.countBy_touches _ _ _ _) (by decide) (by assumption)
      · assumption
    clear_value x2
    have h9 : Touches 0x1c0008 s x3 := by
      unfold x3
      exact Touches.step (State.putRec_touches _ _ _ _ _) (by decide) (by assumption)
    clear_value x3 x4 x5
    have h10 : Touches 0x1c0008 s x6 := by
      unfold x6
      exact Touches.step (State.setJob_touches _ _ _) (by decide) (by assumption)
    clear_value x6
    split
    · refine Touches.step (State.count_touches _ _ _) (by decide) ?_
      exact Touches.step (State.setJob_touches _ _ _) (by decide) (by assumption)
    · assumption

theorem State.grantNext_touches (s : State) (a1 : Nat) :
    Touches 0x180000 s (State.grantNext s a1) := by
  unfold State.grantNext
  split
  · exact Touches.refl _ _
  · split
    · exact Touches.refl _ _
    · extract_lets x0
      have h1 : Touches 0x180000 s x0 := by
        unfold x0
        exact (State.setLathe_touches _ _ _).mono (by decide)
      clear_value x0
      split
      · exact Touches.step (State.setWait_touches _ _ _) (by decide) (by assumption)
      · assumption

theorem State.dropGrant_touches (s : State) (a1 : Nat) :
    Touches 0x1c0008 s (State.dropGrant s a1) := by
  unfold State.dropGrant
  refine Touches.step (State.setLathe_touches _ _ _) (by decide) ?_
  exact (State.chargeGrant_touches _ _).mono (by decide)

theorem State.requestPipe_touches (s : State) (a1 : Nat) (a2 : Nat) :
    Touches 0x180000 s (State.requestPipe s a1 a2) := by
  unfold State.requestPipe
  extract_lets x0
  clear_value x0
  split
  · exact Touches.refl _ _
  · refine Touches.step (State.grantNext_touches _ _) (by decide) ?_
    exact (State.setLathe_touches _ _ _).mono (by decide)

theorem State.leavePipe_touches (s : State) (a1 : Nat) (a2 : Nat) :
    Touches 0x1c0008 s (State.leavePipe s a1 a2) := by
  unfold State.leavePipe
  extract_lets x0
  have h1 : Touches 0x1c0008 s x0 := by
    unfold x0
    exact (State.setLathe_touches _ _ _).mono (by decide)
  clear_value x0
  split
  · refine Touches.step (State.grantNext_touches _ _) (by decide) ?_
    exact Touches.step (State.dropGrant_touches _ _) (by decide) (by assumption)
  · assumption

theorem State.boundary_touches (s : State) (a1 : Nat) (a2 : Next) :
    Touches 0x1c0008 s (State.boundary s a1 a2) := by
  unfold State.boundary
  split
  · exact (State.grantNext_touches _ _).mono (by decide)
  · extract_lets x0 x1 x2 x3 x4
    have h5 : Touches 0x1c0008 s x0 := by
      unfold x0
      refine Touches.step (State.setLathe_touches _ _ _) (by decide) ?_
      exact (State.chargeGrant_touches _ _).mono (by decide)
    clear_value x0 x1
    have h6 : Touches 0x1c0008 s x2 := by
      unfold x2
      refine Touches.step (State.count_touches _ _ _) (by decide) ?_
      exact Touches.step (State.dropGrant_touches _ _) (by decide) (by assumption)
    clear_value x2
    have h7 : Touches 0x1c0008 s x3 := by
      unfold x3
      exact Touches.step (State.setLathe_touches _ _ _) (by decide) (by assumption)
    clear_value x3
    have h8 : Touches 0x1c0008 s x4 := by
      unfold x4
      split
      · exact Touches.step (State.setWait_touches _ _ _) (by decide) (by assumption)
      · assumption
    clear_value x4
    split
    · refine Touches.step (State.grantNext_touches _ _) (by decide) ?_
      exact Touches.step (State.dropGrant_touches _ _) (by decide) (by assumption)
    · split
      · refine Touches.step (State.grantNext_touches _ _) (by decide) ?_
        exact Touches.step (State.dropGrant_touches _ _) (by decide) (by assumption)
      · assumption
    · split
      · exact Touches.step (State.grantNext_touches _ _) (by decide) (by assumption)
      · assumption

theorem State.fenceDropOf_touches (s : State) (a1 : Nat) (a2 : Nat) (a3 : Nat) (a4 : Nat) (a5 : Nat) (a6 : Nat) :
    Touches 0x208 s (State.fenceDropOf s a1 a2 a3 a4 a5 a6) := by
  unfold State.fenceDropOf
  extract_lets x0 x1
  clear_value x1
  have h2 : Touches 0x208 s x0 := by
    unfold x0
    split
    · extract_lets x3 x4 x5 x6
      have h7 : Touches 0x208 s x3 := by
        unfold x3
        refine Touches.step (State.count_touches _ _ _) (by decide) ?_
        exact Touches.refl _ _
      clear_value x3
      have h8 : Touches 0x208 s x4 := by
        unfold x4
        refine Touches.step (State.setFld_touches _ _ _ _) (by decide) ?_
        assumption
      clear_value x4
      have h9 : Touches 0x208 s x5 := by
        unfold x5
        refine Touches.step (State.setFld_touches _ _ _ _) (by decide) ?_
        assumption
      clear_value x5
      have h10 : Touches 0x208 s x6 := by
        unfold x6
        refine Touches.step (State.setFld_touches _ _ _ _) (by decide) ?_
        assumption
      clear_value x6
      refine Touches.step (State.setFld_touches _ _ _ _) (by decide) ?_
      assumption
    · exact Touches.refl _ _
  clear_value x0
  refine Touches.step (State.raise_touches _ _) (by decide) ?_
  assumption

theorem State.fenceDrop_touches (s : State) (a1 : Nat) (a2 : Xfer) :
    Touches 0x208 s (State.fenceDrop s a1 a2) := by
  unfold State.fenceDrop
  refine Touches.step (State.fenceDropOf_touches _ _ _ _ _ _ _) (by decide) ?_
  exact Touches.refl _ _

theorem State.tierDrop_touches (s : State) (a1 : Nat) (a2 : Nat) (a3 : Nat) :
    Touches 0x208 s (State.tierDrop s a1 a2 a3) := by
  unfold State.tierDrop
  refine Touches.step (State.fenceDropOf_touches _ _ _ _ _ _ _) (by decide) ?_
  exact Touches.refl _ _

theorem State.winDrop_touches (s : State) (a1 : Nat) (a2 : Nat) (a3 : Nat) :
    Touches 0x208 s (State.winDrop s a1 a2 a3) := by
  unfold State.winDrop
  extract_lets x0
  clear_value x0
  refine Touches.step (State.tierDrop_touches _ _ _ _) (by decide) ?_
  exact Touches.refl _ _

theorem State.winWrite_touches (s : State) (a1 : Nat) (a2 : Nat) (a3 : Nat) (a4 : Nat) (a5 : Nat) :
    Touches 0x1e80208 s (State.winWrite s a1 a2 a3 a4 a5) := by
  unfold State.winWrite
  extract_lets x0
  clear_value x0
  split
  · split
    · refine Touches.step (State.nearWrite_touches _ _ _) (by decide) ?_
      exact Touches.refl _ _
    · refine Touches.step (State.winDrop_touches _ _ _ _) (by decide) ?_
      exact Touches.refl _ _
  · split
    · refine Touches.step (State.farWrite_touches _ _ _) (by decide) ?_
      exact Touches.refl _ _
    · refine Touches.step (State.winDrop_touches _ _ _ _) (by decide) ?_
      exact Touches.refl _ _
  · refine Touches.step (State.setCtx_touches _ _ _) (by decide) ?_
    exact Touches.refl _ _

theorem State.saveArea_touches (s : State) (a1 : Nat) :
    Touches 0x3a00000 s (State.saveArea s a1) := by
  unfold State.saveArea
  extract_lets x0 x1 x2
  clear_value x0 x1 x2
  split
  · rename_i w3 w4 w5 w6
    have h7 : Touches 0x3a00000 s w5 := by
      refine Touches2.of w6 ?_
      refine Touches2.step (State.free_touches _) (by decide) ?_
      exact Touches.refl _ _
    extract_lets x8
    have h9 : Touches 0x3a00000 s x8 := by
      unfold x8
      refine Touches.step (State.nearWrite_touches _ _ _) (by decide) ?_
      assumption
    clear_value x8
    refine Touches.foldl ?_ ?_
    · intro z10
      intro z11
      extract_lets x12 x13
      clear_value x12
      have h14 : Touches 0x3a00000 z10 x13 := by
        unfold x13
        refine Touches.step (State.nearWrite_touches _ _ _) (by decide) ?_
        exact Touches.refl _ _
      clear_value x13
      refine Touches.foldl ?_ ?_
      · intro z15
        intro z16
        refine Touches.step (State.tierBurr_touches _ _ _) (by decide) ?_
        exact Touches.refl _ _
      · assumption
    · refine Touches.foldl ?_ ?_
      · intro z17
        intro z18
        refine Touches.step (State.tierBurr_touches _ _ _) (by decide) ?_
        exact Touches.refl _ _
      · assumption

theorem State.loadArea_touches (s : State) (a1 : Nat) :
    Touches 0x80000 s (State.loadArea s a1) := by
  unfold State.loadArea
  extract_lets x0 x1 x2 x3 x4 x5
  clear_value x0 x1 x2 x3 x4 x5
  refine Touches.step (State.setCtx_touches _ _ _) (by decide) ?_
  exact Touches.refl _ _

theorem State.ltdIdle_touches (s : State) (a1 : Nat) :
    Touches 0x8 s (State.ltdIdle s a1) := by
  unfold State.ltdIdle
  refine Touches.step (State.setFld_touches _ _ _ _) (by decide) ?_
  exact Touches.refl _ _

theorem State.ltBusy_touches (s : State) (a1 : Nat) (a2 : Bool) :
    Touches 0x8 s (State.ltBusy s a1 a2) := by
  unfold State.ltBusy
  refine Touches.step (State.setFld_touches _ _ _ _) (by decide) ?_
  exact Touches.refl _ _

theorem State.ltRefuse_touches (s : State) (a1 : Nat) :
    Touches 0x8 s (State.ltRefuse s a1) := by
  unfold State.ltRefuse
  refine Touches.step (State.setFld_touches _ _ _ _) (by decide) ?_
  exact Touches.refl _ _

theorem State.endMove_touches (s : State) (a1 : Nat) :
    Touches 0x80008 s (State.endMove s a1) := by
  unfold State.endMove
  extract_lets x0
  have h1 : Touches 0x80008 s x0 := by
    unfold x0
    split
    · refine Touches.step (State.ltBusy_touches _ _ _) (by decide) ?_
      exact Touches.refl _ _
    · exact Touches.refl _ _
  clear_value x0
  refine Touches.step (State.setCtx_touches _ _ _) (by decide) ?_
  assumption

theorem State.dropMove_touches (s : State) (a1 : Nat) :
    Touches 0x80008 s (State.dropMove s a1) := by
  unfold State.dropMove
  extract_lets x0
  have h1 : Touches 0x80008 s x0 := by
    unfold x0
    split
    · refine Touches.step (State.ltdIdle_touches _ _) (by decide) ?_
      exact Touches.refl _ _
    · exact Touches.refl _ _
  clear_value x0
  refine Touches.step (State.endMove_touches _ _) (by decide) ?_
  assumption

theorem State.linkHeld_touches (s : State) (a1 : Pkt) :
    Touches 0x2008 s (State.linkHeld s a1) := by
  unfold State.linkHeld
  extract_lets x0 x1
  clear_value x0
  have h2 : Touches 0x2008 s x1 := by
    unfold x1
    refine Touches.step (State.setQueue_touches _ _ _) (by decide) ?_
    exact Touches.refl _ _
  clear_value x1
  split
  · refine Touches.step (State.count_touches _ _ _) (by decide) ?_
    refine Touches.step (State.unrefAll_touches _ _) (by decide) ?_
    refine Touches.step (State.captureDrop_touches _ _ _ _ _) (by decide) ?_
    exact Touches.refl _ _
  · split
    · refine Touches.step (State.withBench_touches _ _) (by decide) ?_
      exact Touches.refl _ _
    · refine Touches.step (State.withBench_touches _ _) (by decide) ?_
      assumption

theorem State.linkGenerated_touches (s : State) (a1 : Pkt) :
    Touches 0x2008 s (State.linkGenerated s a1) := by
  unfold State.linkGenerated
  extract_lets x0
  clear_value x0
  split
  · refine Touches.step (State.count_touches _ _ _) (by decide) ?_
    refine Touches.step (State.captureDrop_touches _ _ _ _ _) (by decide) ?_
    exact Touches.refl _ _
  · refine Touches.step (State.linkHeld_touches _ _) (by decide) ?_
    refine Touches.foldl ?_ ?_
    · intro z1
      intro z2
      refine Touches.step (State.linkGrain_touches _ _) (by decide) ?_
      exact Touches.refl _ _
    · exact Touches.refl _ _

theorem State.linkWaiting_touches (s : State) :
    Touches 0x2008 s (State.linkWaiting s) := by
  unfold State.linkWaiting
  refine Touches.foldl ?_ ?_
  · intro z0
    intro z1
    refine Touches.step (State.linkHeld_touches _ _) (by decide) ?_
    exact Touches.refl _ _
  · refine Touches.step (State.withBench_touches _ _) (by decide) ?_
    exact Touches.refl _ _

theorem State.collCount_touches (s : State) (a1 : Nat) (a2 : Fld) :
    Touches 0x8 s (State.collCount s a1 a2) := by
  unfold State.collCount
  exact (State.count_touches _ _ _).mono (by decide)

end Sys2Proof.Machine
end

