-- ==== Sys2Proof/Laws/FrameCollective.lean ====
section
/-! SUPPORT. What each operation of Machine/Collective.lean can touch: its mask, memory's canonical form, the fuses' trust. -/

namespace Sys2Proof.Machine

theorem State.sendGrain_touches (s : State) (a1 : Nat) (a2 : Dest) (a3 : Bool) (a4 : Bool) (a5 : Nat) (a6 : Nat) (a7 : Bool) (a8 : Nat) (a9 : Nat) (a10 : Nat) (a11 : Nat) :
    Touches 0x82018 s (State.sendGrain s a1 a2 a3 a4 a5 a6 a7 a8 a9 a10 a11) := by
  unfold State.sendGrain
  extract_lets x0 x1 x2 x3 x4 x5 x6 x7 x8 x9 x10 x11
  clear_value x0 x2 x3 x4 x6 x7 x8 x10
  have h12 : Touches 0x82018 s x1 := by
    unfold x1
    split
    · refine Touches.step (State.useInput_touches _ _ _ _) (by decide) ?_
      exact Touches.refl _ _
    · exact Touches.refl _ _
  clear_value x1
  have h13 : Touches 0x82018 s x5 := by
    unfold x5
    refine Touches.step (State.setColl_touches _ _ _) (by decide) ?_
    assumption
  clear_value x5
  have h14 : ∀ z15 z16 z17, Touches 0x82018 s (x9 z15 z16 z17) := by
    intro z15 z16 z17
    unfold x9
    beta_reduce
    refine Touches.step (State.linkGenerated_touches _ _) (by decide) ?_
    assumption
  clear_value x9
  have h18 : ∀ z19 z20, Touches 0x82018 s (x11 z19 z20) := by
    intro z19 z20
    unfold x11
    beta_reduce
    extract_lets x21 x22 x23
    clear_value x21 x22 x23
    refine Touches.step (State.setColl_touches _ _ _) (by decide) ?_
    refine Touches.step (State.linkGrain_touches _ _) (by decide) ?_
    assumption
  clear_value x11
  split
  · exact h14 _ _ _
  · split
    · exact h18 _ _
    · exact h14 _ _ _
  · split
    · exact h18 _ _
    · exact h14 _ _ _

theorem State.settleGrain_touches (s : State) (a1 : Nat) :
    Touches 0x2000 s (State.settleGrain s a1) := by
  unfold State.settleGrain
  split
  · exact (State.freeGrain_touches _ _).mono (by decide)
  · exact Touches.refl _ _

theorem State.emitResult_touches (s : State) (a1 : Nat) (a2 : Nat) (a3 : Nat) (a4 : Bool) (a5 : Bool) (a6 : Nat) (a7 : Nat) (a8 : Nat) (a9 : Nat) (a10 : Option Nat) :
    Touches 0x82018 s (State.emitResult s a1 a2 a3 a4 a5 a6 a7 a8 a9 a10) := by
  unfold State.emitResult
  extract_lets x0 x1 x2 x3 x4
  clear_value x0 x1 x2
  have h5 : Touches 0x82018 s x3 := by
    unfold x3
    split
    · exact Touches.refl _ _
    · exact (State.sendGrain_touches _ _ _ _ _ _ _ _ _ _ _ _).mono (by decide)
  clear_value x3
  have h6 : Touches 0x82018 s x4 := by
    unfold x4
    split
    · refine Touches.foldl ?_ ?_
      · intro z7 z8
        exact (State.sendGrain_touches _ _ _ _ _ _ _ _ _ _ _ _).mono (by decide)
      · assumption
    · assumption
  clear_value x4
  exact Touches.step (State.settleGrain_touches _ _) (by decide) (by assumption)

theorem State.sendEvent_touches (s : State) (a1 : Nat) (a2 : Dest) (a3 : Nat) :
    Touches 0x4002008 s (State.sendEvent s a1 a2 a3) := by
  unfold State.sendEvent
  extract_lets x0 x1 x2 x3
  clear_value x0 x1 x2
  have h4 : ∀ z5 z6 z7 z8 z9, Touches 0x4002008 s (x3 z5 z6 z7 z8 z9) := by
    intro z5 z6 z7 z8 z9
    unfold x3
    beta_reduce
    refine Touches.step (State.linkGenerated_touches _ _) (by decide) ?_
    exact Touches.refl _ _
  clear_value x3
  split
  · exact h4 _ _ _ _ _
  · split
    · refine Touches.step (State.emit_touches _ _) (by decide) ?_
      exact Touches.refl _ _
    · exact h4 _ _ _ _ _
  · split
    · refine Touches.step (State.emit_touches _ _) (by decide) ?_
      exact Touches.refl _ _
    · exact h4 _ _ _ _ _

theorem State.releaseNotice_touches (s : State) (a1 : Notice) :
    Touches 0x2000 s (State.releaseNotice s a1) := by
  unfold State.releaseNotice
  split
  · exact (State.unref_touches _ _).mono (by decide)
  · exact Touches.refl _ _

theorem State.releaseNotices_touches (s : State) (a1 : List Notice) :
    Touches 0x2000 s (State.releaseNotices s a1) := by
  unfold State.releaseNotices
  refine Touches.foldl ?_ ?_
  · intro z0 z1
    exact (State.releaseNotice_touches _ _).mono (by decide)
  · exact Touches.refl _ _

theorem State.clearCall_touches (s : State) (a1 : Nat) :
    Touches 0x82000 s (State.clearCall s a1) := by
  unfold State.clearCall
  extract_lets x0 x1 x2 x3 x4
  clear_value x0 x1
  have h5 : Touches 0x82000 s x2 := by
    unfold x2
    exact (State.releaseNotices_touches _ _).mono (by decide)
  clear_value x2
  have h6 : Touches 0x82000 s x3 := by
    unfold x3
    refine Touches.foldl ?_ ?_
    · intro z7 z8
      exact (State.unref_touches _ _).mono (by decide)
    · assumption
  clear_value x3 x4
  exact Touches.step (State.setColl_touches _ _ _) (by decide) (by assumption)

theorem State.endCall_touches (s : State) (a1 : Nat) (a2 : Nat) (a3 : Nat) :
    Touches 0x4a82608 s (State.endCall s a1 a2 a3) := by
  unfold State.endCall
  split
  · exact Touches.refl _ _
  · split
    · refine Touches.step (State.clearCall_touches _ _) (by decide) ?_
      exact (State.putRec_touches _ _ _ _ _).mono (by decide)
    · extract_lets x0 x1 x2 x3 x4 x5 x6 x7 x8 x9 x10 x11 x12 x13 x14 x15 x16 x17
      clear_value x0 x1 x2 x3 x4 x5 x6 x7 x8 x9 x10 x11 x12
      have h18 : Touches 0x4a82608 s x13 := by
        unfold x13
        exact (State.nearWrite_touches _ _ _).mono (by decide)
      clear_value x13
      have h19 : Touches 0x4a82608 s x14 := by
        unfold x14
        split
        · exact Touches.step (State.collCount_touches _ _ _) (by decide) (by assumption)
        · assumption
      clear_value x14 x15 x16 x17
      split
      · extract_lets x20 x21 x22 x23 x24 x25 x26 x27 x28
        have h29 : Touches 0x4a82608 s x20 := by
          unfold x20
          exact Touches.step (State.nearWrite_touches _ _ _) (by decide) (by assumption)
        clear_value x20
        have h30 : Touches 0x4a82608 s x21 := by
          unfold x21
          split
          · exact Touches.step (State.post_touches _ _) (by decide) (by assumption)
          · assumption
        clear_value x21 x22
        have h31 : Touches 0x4a82608 s x23 := by
          unfold x23
          refine Touches.foldl ?_ ?_
          · intro z32 z33
            extract_lets x34
            have h35 : Touches 0x4a82608 z32 x34 := by
              unfold x34
              exact (State.sendEvent_touches _ _ _ _).mono (by decide)
            clear_value x34
            split
            · exact Touches.step (State.sendEvent_touches _ _ _ _) (by decide) (by assumption)
            · assumption
          · assumption
        clear_value x23
        have h36 : Touches 0x4a82608 s x24 := by
          unfold x24
          refine Touches.foldl ?_ ?_
          · intro z37 z38
            exact (State.sendEvent_touches _ _ _ _).mono (by decide)
          · assumption
        clear_value x24
        have h39 : Touches 0x4a82608 s x25 := by
          unfold x25
          split
          · refine Touches.foldl ?_ ?_
            · intro z40 z41
              exact (State.sendEvent_touches _ _ _ _).mono (by decide)
            · assumption
          · assumption
        clear_value x25
        have h42 : Touches 0x4a82608 s x26 := by
          unfold x26
          split
          · exact Touches.step (State.sendEvent_touches _ _ _ _) (by decide) (by assumption)
          · assumption
        clear_value x26
        have h43 : Touches 0x4a82608 s x27 := by
          unfold x27
          exact Touches.step (State.setColl_touches _ _ _) (by decide) (by assumption)
        clear_value x27
        have h44 : Touches 0x4a82608 s x28 := by
          unfold x28
          exact Touches.step (State.putRec_touches _ _ _ _ _) (by decide) (by assumption)
        clear_value x28
        exact Touches.step (State.clearCall_touches _ _) (by decide) (by assumption)

theorem State.dropAllocs_touches (s : State) (a1 : Nat) :
    Touches 0x2000 s (State.dropAllocs s a1) := by
  unfold State.dropAllocs
  extract_lets x0 x1
  clear_value x0
  have h2 : Touches 0x2000 s x1 := by
    unfold x1
    refine Touches.foldl ?_ ?_
    · intro z3 z4
      exact (State.freeGrain_touches _ _).mono (by decide)
    · exact Touches.refl _ _
  clear_value x1
  exact Touches.step (State.withBench_touches _ _) (by decide) (by assumption)

theorem State.faultRegs_touches (s : State) (a1 : Nat) (a2 : Nat) (a3 : Nat) (a4 : Nat) (a5 : Nat) (a6 : FaultAt) :
    Touches 0x8 s (State.faultRegs s a1 a2 a3 a4 a5 a6) := by
  unfold State.faultRegs
  split
  · exact Touches.refl _ _
  · extract_lets x0 x1 x2 x3 x4 x5 x6 x7 x8 x9 x10
    clear_value x0 x6
    have h11 : Touches 0x8 s x1 := by
      unfold x1
      refine Touches.step (State.setFld_touches _ _ _ _) (by decide) ?_
      exact Touches.refl _ _
    clear_value x1
    have h12 : Touches 0x8 s x2 := by
      unfold x2
      refine Touches.step (State.setFld_touches _ _ _ _) (by decide) ?_
      assumption
    clear_value x2
    have h13 : Touches 0x8 s x3 := by
      unfold x3
      refine Touches.step (State.setFld_touches _ _ _ _) (by decide) ?_
      assumption
    clear_value x3
    have h14 : Touches 0x8 s x4 := by
      unfold x4
      refine Touches.step (State.setFld_touches _ _ _ _) (by decide) ?_
      assumption
    clear_value x4
    have h15 : Touches 0x8 s x5 := by
      unfold x5
      refine Touches.step (State.setFld_touches _ _ _ _) (by decide) ?_
      assumption
    clear_value x5
    have h16 : Touches 0x8 s x7 := by
      unfold x7
      refine Touches.step (State.setFld_touches _ _ _ _) (by decide) ?_
      assumption
    clear_value x7
    have h17 : Touches 0x8 s x8 := by
      unfold x8
      refine Touches.step (State.setFld_touches _ _ _ _) (by decide) ?_
      assumption
    clear_value x8
    have h18 : Touches 0x8 s x9 := by
      unfold x9
      refine Touches.step (State.setFld_touches _ _ _ _) (by decide) ?_
      assumption
    clear_value x9
    have h19 : Touches 0x8 s x10 := by
      unfold x10
      refine Touches.step (State.setFld_touches _ _ _ _) (by decide) ?_
      assumption
    clear_value x10
    split
    · refine Touches.step (State.setFld_touches _ _ _ _) (by decide) ?_
      assumption
    · assumption

theorem State.faultReport_touches (s : State) (a1 : Nat) (a2 : Nat) (a3 : FaultAt) (a4 : Option Nat) :
    Touches 0x4002208 s (State.faultReport s a1 a2 a3 a4) := by
  unfold State.faultReport
  extract_lets x0 x1 x2 x3
  clear_value x0 x1 x3
  have h4 : Touches 0x4002208 s x2 := by
    unfold x2
    split
    · exact Touches.refl _ _
    · extract_lets x5
      have h6 : Touches 0x4002208 s x5 := by
        unfold x5
        refine Touches.step (State.count_touches _ _ _) (by decide) ?_
        refine Touches.step (State.faultRegs_touches _ _ _ _ _ _ _) (by decide) ?_
        exact Touches.refl _ _
      clear_value x5
      refine Touches.step (State.raise_touches _ _) (by decide) ?_
      assumption
  clear_value x2
  refine Touches.foldl ?_ ?_
  · intro z7
    intro z8
    refine Touches.step (State.sendEvent_touches _ _ _ _) (by decide) ?_
    exact Touches.refl _ _
  · assumption

theorem State.faultOne_touches (s : State) (a1 : Nat) (a2 : Nat) (a3 : FaultAt) :
    Touches 0x4bc2608 s (State.faultOne s a1 a2 a3) := by
  unfold State.faultOne
  extract_lets x0 x1 x2 x3 x4 x5 x6 x7 x8 x9 x10
  clear_value x0 x1
  have h11 : Touches 0x4bc2608 s x2 := by
    unfold x2
    split
    · refine Touches.step (State.leavePipe_touches _ _ _) (by decide) ?_
      exact Touches.refl _ _
    · exact Touches.refl _ _
  clear_value x2
  have h12 : Touches 0x4bc2608 s x3 := by
    unfold x3
    refine Touches.foldl ?_ ?_
    · intro z13
      intro z14
      refine Touches.step (State.unref_touches _ _) (by decide) ?_
      exact Touches.refl _ _
    · assumption
  clear_value x3
  have h15 : Touches 0x4bc2608 s x4 := by
    unfold x4
    refine Touches.step (State.setColl_touches _ _ _) (by decide) ?_
    assumption
  clear_value x4
  have h16 : Touches 0x4bc2608 s x5 := by
    unfold x5
    refine Touches.step (State.setCtx_touches _ _ _) (by decide) ?_
    refine Touches.step (State.dropMove_touches _ _) (by decide) ?_
    refine Touches.step (State.dropAllocs_touches _ _) (by decide) ?_
    assumption
  clear_value x5
  have h17 : Touches 0x4bc2608 s x6 := by
    unfold x6
    refine Touches.step (State.putRec_touches _ _ _ _ _) (by decide) ?_
    refine Touches.step (State.setCtxState_touches _ _ _) (by decide) ?_
    assumption
  clear_value x6
  have h18 : Touches 0x4bc2608 s x7 := by
    unfold x7
    split
    · assumption
    · refine Touches.step (State.putRec_touches _ _ _ _ _) (by decide) ?_
      refine Touches.step (State.putRec_touches _ _ _ _ _) (by decide) ?_
      assumption
  clear_value x7
  have h19 : Touches 0x4bc2608 s x8 := by
    unfold x8
    refine Touches.step (State.faultReport_touches _ _ _ _ _) (by decide) ?_
    assumption
  clear_value x8
  have h20 : Touches 0x4bc2608 s x9 := by
    unfold x9
    refine Touches.step (State.releaseNotices_touches _ _) (by decide) ?_
    assumption
  clear_value x9
  have h21 : Touches 0x4bc2608 s x10 := by
    unfold x10
    refine Touches.step (State.setColl_touches _ _ _) (by decide) ?_
    assumption
  clear_value x10
  split
  · exact Touches.refl _ _
  · refine Touches.step (State.endCall_touches _ _ _ _) (by decide) ?_
    assumption

theorem State.containJob_touches (s : State) (a1 : Nat) (a2 : Nat) (a3 : Nat) (a4 : Nat) :
    Touches 0x4bc2608 s (State.containJob s a1 a2 a3 a4) := by
  unfold State.containJob
  extract_lets x0 x1 x2
  clear_value x0
  have h3 : Touches 0x4bc2608 s x1 := by
    unfold x1
    refine Touches.foldl ?_ ?_
    · intro z4 z5
      exact (State.faultOne_touches _ _ _ _).mono (by decide)
    · exact Touches.refl _ _
  clear_value x1
  have h6 : Touches 0x4bc2608 s x2 := by
    unfold x2
    exact Touches.step (State.post_touches _ _) (by decide) (by assumption)
  clear_value x2
  split
  · exact Touches.step (State.escalate_touches _ _ _ _ _) (by decide) (by assumption)
  · assumption

theorem State.fault_touches (s : State) (a1 : Nat) (a2 : Nat) (a3 : FaultAt) :
    Touches 0x4bc2608 s (State.fault s a1 a2 a3) := by
  unfold State.fault
  extract_lets x0 x1 x2 x3 x4
  clear_value x0 x1 x2
  have h5 : Touches 0x4bc2608 s x3 := by
    unfold x3
    exact (State.faultOne_touches _ _ _ _).mono (by decide)
  clear_value x3
  have h6 : Touches 0x4bc2608 s x4 := by
    unfold x4
    refine Touches.foldl ?_ ?_
    · intro z7 z8
      exact (State.faultOne_touches _ _ _ _).mono (by decide)
    · assumption
  clear_value x4
  split
  · exact Touches.refl _ _
  · split
    · assumption
    · exact Touches.step (State.containJob_touches _ _ _ _ _) (by decide) (by assumption)

theorem State.openCall_touches (s : State) (a1 : Nat) (a2 : Bool) :
    Touches 0x80000 s (State.openCall s a1 a2) := by
  unfold State.openCall
  extract_lets x0 x1 x2 x3 x4 x5 x6 x7 x8
  clear_value x0 x1 x2 x3 x4 x5 x6 x7 x8
  exact (State.setColl_touches _ _ _).mono (by decide)

theorem State.startFault_touches (s : State) (a1 : Nat) (a2 : Nat) (a3 : Nat) :
    Touches 0x4082208 s (State.startFault s a1 a2 a3) := by
  unfold State.startFault
  extract_lets x0 x1 x2 x3 x4 x5
  clear_value x0 x1 x2 x3
  have h6 : Touches 0x4082208 s x4 := by
    unfold x4
    refine Touches.step (State.setCtx_touches _ _ _) (by decide) ?_
    refine Touches.step (State.releaseNotices_touches _ _) (by decide) ?_
    exact Touches.refl _ _
  clear_value x4
  have h7 : Touches 0x4082208 s x5 := by
    unfold x5
    refine Touches.step (State.putRec_touches _ _ _ _ _) (by decide) ?_
    refine Touches.step (State.setCtxState_touches _ _ _) (by decide) ?_
    assumption
  clear_value x5
  refine Touches.step (State.setColl_touches _ _ _) (by decide) ?_
  refine Touches.step (State.faultReport_touches _ _ _ _ _) (by decide) ?_
  assumption

theorem State.replay_touches (s : State) (a1 : Nat) :
    Touches 0x4bc2608 s (State.replay s a1) := by
  unfold State.replay
  extract_lets x0 x1 x2 x3 x4 x5 x6
  clear_value x0 x2 x3
  have h7 : Touches 0x4bc2608 s x1 := by
    unfold x1
    split
    · refine Touches.step (State.leavePipe_touches _ _ _) (by decide) ?_
      exact Touches.refl _ _
    · exact Touches.refl _ _
  clear_value x1
  have h8 : Touches 0x4bc2608 s x4 := by
    unfold x4
    refine Touches.step (State.setCtx_touches _ _ _) (by decide) ?_
    assumption
  clear_value x4
  have h9 : Touches 0x4bc2608 s x5 := by
    unfold x5
    refine Touches.step (State.setColl_touches _ _ _) (by decide) ?_
    assumption
  clear_value x5
  have h10 : Touches 0x4bc2608 s x6 := by
    unfold x6
    split
    · refine Touches.step (State.openCall_touches _ _ _) (by decide) ?_
      assumption
    · assumption
  clear_value x6
  split
  · refine Touches.step (State.fault_touches _ _ _ _) (by decide) ?_
    split
    · refine Touches.step (State.setCtxState_touches _ _ _) (by decide) ?_
      assumption
    · assumption
  · refine Touches.step (State.setCtxState_touches _ _ _) (by decide) ?_
    assumption

theorem State.reopen_touches (s : State) (a1 : Nat) :
    Touches 0x4bc2608 s (State.reopen s a1) := by
  unfold State.reopen
  extract_lets x0
  clear_value x0
  split
  · exact (State.replay_touches _ _).mono (by decide)
  · exact Touches.refl _ _

theorem State.endAndReopen_touches (s : State) (a1 : Nat) (a2 : Nat) (a3 : Nat) :
    Touches 0x4bc2608 s (State.endAndReopen s a1 a2 a3) := by
  unfold State.endAndReopen
  extract_lets x0 x1 x2
  clear_value x0
  have h3 : Touches 0x4bc2608 s x1 := by
    unfold x1
    exact (State.endCall_touches _ _ _ _).mono (by decide)
  clear_value x1
  have h4 : Touches 0x4bc2608 s x2 := by
    unfold x2
    refine Touches.foldl ?_ ?_
    · intro z5 z6
      exact (State.endCall_touches _ _ _ _).mono (by decide)
    · assumption
  clear_value x2
  refine Touches.foldl ?_ ?_
  · intro z7 z8
    exact (State.reopen_touches _ _).mono (by decide)
  · exact Touches.step (State.reopen_touches _ _) (by decide) (by assumption)

end Sys2Proof.Machine
end

