-- ==== Sys2Proof/Laws/FrameTracking.lean ====
section
/-! SUPPORT. What each operation of Machine/Tracking.lean can touch: its mask, memory's canonical form, the fuses' trust. -/

namespace Sys2Proof.Machine

theorem State.tryAlloc_touches (s : State) (a1 : Nat) (a2 : Nat) :
    Touches2 0x6008 s (State.tryAlloc s a1 a2) := by
  unfold State.tryAlloc
  split
  · refine Touches2.mk ?_
    refine Touches.step (State.withBench_touches _ _) (by decide) ?_
    exact Touches.refl _ _
  · extract_lets x0 x1 x2
    clear_value x0 x1 x2
    split
    · refine Touches2.mk ?_
      refine Touches.step (State.count_touches _ _ _) (by decide) ?_
      exact Touches.refl _ _
    · split
      · refine Touches2.mk ?_
        exact Touches.refl _ _
      · split
        · rename_i w3 w4 w5 w6 w7 w8 w9 w10
          have h11 : Touches 0x6008 s w9 := by
            refine Touches2.of w10 ?_
            refine Touches2.step (State.admitAlloc_touches _ _ _) (by decide) ?_
            exact Touches.refl _ _
          split
          · refine Touches2.mk ?_
            assumption
          · split
            · rename_i w12 w13 w14
              refine Touches2.mk ?_
              assumption
            · rename_i w15 w16 w17 w18 w19
              have h20 : Touches 0x6008 s w18 := by
                refine TouchesO2.of w19 ?_
                refine TouchesO2.step (State.allocOne_touches _ _ _ _ _) (by decide) ?_
                assumption
              refine Touches2.mk ?_
              assumption

theorem State.waitAlloc_touches (s : State) (a1 : Nat) (a2 : Nat) :
    Touches 0x1c2008 s (State.waitAlloc s a1 a2) := by
  unfold State.waitAlloc
  extract_lets x0 x1
  clear_value x0
  have h2 : Touches 0x1c2008 s x1 := by
    unfold x1
    split
    · exact Touches.refl _ _
    · exact (State.withBench_touches _ _).mono (by decide)
  clear_value x1
  refine Touches.step (State.leavePipe_touches _ _ _) (by decide) ?_
  exact Touches.step (State.setWait_touches _ _ _) (by decide) (by assumption)

theorem State.fillGrain_touches (s : State) (a1 : Nat) (a2 : Nat) (a3 : Nat) (a4 : Nat) :
    Touches 0x2000 s (State.fillGrain s a1 a2 a3 a4) := by
  unfold State.fillGrain
  exact (State.setGrain_touches _ _ _).mono (by decide)

theorem State.dropNotice_touches (s : State) (a1 : Nat) (a2 : Notice) (a3 : Fld) :
    Touches 0x2008 s (State.dropNotice s a1 a2 a3) := by
  unfold State.dropNotice
  refine Touches.step (State.releaseNotice_touches _ _) (by decide) ?_
  exact (State.collCount_touches _ _ _).mono (by decide)

theorem State.markUsed_touches (s : State) (a1 : Nat) (a2 : Nat) (a3 : Nat) (a4 : Nat) :
    Touches 0x80000 s (State.markUsed s a1 a2 a3 a4) := by
  unfold State.markUsed
  exact (State.setColl_touches _ _ _).mono (by decide)

theorem State.countGrain_touches (s : State) (a1 : Nat) (a2 : Nat) (a3 : Notice) :
    Touches 0x80000 s (State.countGrain s a1 a2 a3) := by
  unfold State.countGrain
  extract_lets x0
  clear_value x0
  exact (State.setColl_touches _ _ _).mono (by decide)

theorem State.countPost_touches (s : State) (a1 : Nat) :
    Touches 0x80000 s (State.countPost s a1) := by
  unfold State.countPost
  exact (State.setColl_touches _ _ _).mono (by decide)

theorem State.maybeEnd_touches (s : State) (a1 : Nat) :
    Touches 0x4bc2608 s (State.maybeEnd s a1) := by
  unfold State.maybeEnd
  extract_lets x0
  clear_value x0
  split
  · exact Touches.refl _ _
  · split
    · exact (State.endAndReopen_touches _ _ _ _).mono (by decide)
    · split
      · split
        · exact (State.endAndReopen_touches _ _ _ _).mono (by decide)
        · exact Touches.refl _ _
      · exact Touches.refl _ _

theorem State.sendUp_touches (s : State) (a1 : Nat) (a2 : Nat) (a3 : Bool) (a4 : Nat) :
    TouchesO 0x86018 s (State.sendUp s a1 a2 a3 a4) := by
  unfold State.sendUp
  split
  · exact TouchesO.none_
  · split
    · rename_i w0 w1 w2 w3 w4 w5
      have h6 : Touches 0x86018 s w4 := by
        refine Touches2.of w5 ?_
        refine Touches2.step (State.tryAlloc_touches _ _ _) (by decide) ?_
        exact Touches.refl _ _
      extract_lets x7
      clear_value x7
      refine TouchesO.some_ ?_
      split
      · assumption
      · refine Touches.step (State.withBench_touches _ _) (by decide) ?_
        assumption
    · rename_i w8 w9 w10 w11 w12 w13 w14
      have h15 : Touches 0x86018 s w13 := by
        refine Touches2.of w14 ?_
        refine Touches2.step (State.tryAlloc_touches _ _ _) (by decide) ?_
        exact Touches.refl _ _
      extract_lets x16 x17
      have h18 : Touches 0x86018 s x16 := by
        unfold x16
        refine Touches.step (State.fillGrain_touches _ _ _ _ _) (by decide) ?_
        assumption
      clear_value x16
      have h19 : Touches 0x86018 s x17 := by
        unfold x17
        refine Touches.step (State.sendGrain_touches _ _ _ _ _ _ _ _ _ _ _ _) (by decide) ?_
        assumption
      clear_value x17
      refine TouchesO.some_ ?_
      refine Touches.step (State.setColl_touches _ _ _) (by decide) ?_
      refine Touches.step (State.settleGrain_touches _ _) (by decide) ?_
      assumption

theorem State.layerAdvance_touches (s : State) (a1 : Nat) :
    Touches 0x4bc6618 s (State.layerAdvance s a1) := by
  unfold State.layerAdvance
  extract_lets x0 x1 x2 x3 x4 x5 x6
  clear_value x0 x1 x2 x3 x4
  have h7 : ∀ z8 z9, Touches 0x4bc6618 z8 (x5 z8 z9) := by
    intro z8 z9
    unfold x5
    beta_reduce
    split
    · exact Touches.refl _ _
    · split
      · rename_i w10 w11 w12 w13
        have h14 : Touches 0x4bc6618 z8 w12 := by
          refine TouchesO.of w13 ?_
          refine TouchesO.step (State.sendUp_touches _ _ _ _ _) (by decide) ?_
          exact Touches.refl _ _
        assumption
      · rename_i w15 w16 w17
        exact Touches.refl _ _
  clear_value x5
  have h18 : Touches 0x4bc6618 s x6 := by
    unfold x6
    refine Touches.foldl ?_ ?_
    · intro z19
      intro z20
      refine Touches.step (h7 _ _) (by decide) ?_
      exact Touches.refl _ _
    · exact Touches.refl _ _
  clear_value x6
  split
  · exact Touches.refl _ _
  · split
    · exact Touches.refl _ _
    · split
      · refine Touches.step (State.maybeEnd_touches _ _) (by decide) ?_
        refine Touches.step (State.setColl_touches _ _ _) (by decide) ?_
        exact Touches.refl _ _
      · split
        · refine Touches.step (State.maybeEnd_touches _ _) (by decide) ?_
          refine Touches.step (State.setColl_touches _ _ _) (by decide) ?_
          assumption
        · assumption

theorem State.deliver_touches (s : State) (a1 : Nat) (a2 : Nat) (a3 : Notice) :
    Touches 0x4bc6618 s (State.deliver s a1 a2 a3) := by
  unfold State.deliver
  extract_lets x0 x1 x2 x3 x4 x5 x6 x7 x8
  clear_value x0 x1 x2 x4 x5 x8
  have h9 : Touches 0x4bc6618 s x3 := by
    unfold x3
    refine Touches.step (State.countGrain_touches _ _ _ _) (by decide) ?_
    exact Touches.refl _ _
  clear_value x3
  have h10 : Touches 0x4bc6618 s x6 := by
    unfold x6
    refine Touches.step (State.markUsed_touches _ _ _ _ _) (by decide) ?_
    refine Touches.step (State.releaseNotice_touches _ _) (by decide) ?_
    assumption
  clear_value x6
  have h11 : Touches 0x4bc6618 s x7 := by
    unfold x7
    refine Touches.step (State.setColl_touches _ _ _) (by decide) ?_
    assumption
  clear_value x7
  split
  · split
    · refine Touches.step (State.fault_touches _ _ _ _) (by decide) ?_
      assumption
    · refine Touches.step (State.layerAdvance_touches _ _) (by decide) ?_
      assumption
  · refine Touches.step (State.setColl_touches _ _ _) (by decide) ?_
    assumption

theorem State.takePost_touches (s : State) (a1 : Nat) (a2 : Nat) (a3 : Notice) :
    Touches 0x4bc6618 s (State.takePost s a1 a2 a3) := by
  unfold State.takePost
  extract_lets x0
  clear_value x0
  split
  · split
    · refine Touches.step (State.collCount_touches _ _ _) (by decide) ?_
      exact Touches.refl _ _
    · refine Touches.step (State.layerAdvance_touches _ _) (by decide) ?_
      refine Touches.step (State.setColl_touches _ _ _) (by decide) ?_
      refine Touches.step (State.countPost_touches _ _) (by decide) ?_
      exact Touches.refl _ _
  · split
    · refine Touches.step (State.collCount_touches _ _ _) (by decide) ?_
      exact Touches.refl _ _
    · refine Touches.step (State.layerAdvance_touches _ _) (by decide) ?_
      refine Touches.step (State.setColl_touches _ _ _) (by decide) ?_
      refine Touches.step (State.countPost_touches _ _) (by decide) ?_
      exact Touches.refl _ _

theorem State.trackGrain_touches (s : State) (a1 : Nat) (a2 : Nat) (a3 : Notice) :
    Touches 0x4bc6618 s (State.trackGrain s a1 a2 a3) := by
  unfold State.trackGrain
  extract_lets x0 x1 x2 x3 x4 x5 x6
  clear_value x0 x1 x2 x3 x4 x5 x6
  split
  · refine Touches.step (State.dropNotice_touches _ _ _ _) (by decide) ?_
    exact Touches.refl _ _
  · split
    · refine Touches.step (State.dropNotice_touches _ _ _ _) (by decide) ?_
      exact Touches.refl _ _
    · split
      · refine Touches.step (State.setColl_touches _ _ _) (by decide) ?_
        exact Touches.refl _ _
      · refine Touches.step (State.deliver_touches _ _ _ _) (by decide) ?_
        exact Touches.refl _ _

theorem State.track_touches (s : State) (a1 : Nat) (a2 : Notice) :
    Touches 0x4bc6618 s (State.track s a1 a2) := by
  unfold State.track
  split
  · refine Touches.step (State.dropNotice_touches _ _ _ _) (by decide) ?_
    exact Touches.refl _ _
  · extract_lets x0
    clear_value x0
    split
    · refine Touches.step (State.setColl_touches _ _ _) (by decide) ?_
      exact Touches.refl _ _
    · split
      · refine Touches.step (State.dropNotice_touches _ _ _ _) (by decide) ?_
        exact Touches.refl _ _
      · split
        · refine Touches.step (State.takePost_touches _ _ _ _) (by decide) ?_
          exact Touches.refl _ _
        · refine Touches.step (State.trackGrain_touches _ _ _ _) (by decide) ?_
          exact Touches.refl _ _

theorem State.recheckAbove_touches (s : State) (a1 : Nat) :
    Touches 0x4bc6618 s (State.recheckAbove s a1) := by
  unfold State.recheckAbove
  extract_lets x0
  clear_value x0
  refine Touches.foldl ?_ ?_
  · intro z1
    intro z2
    refine Touches.step (State.trackGrain_touches _ _ _ _) (by decide) ?_
    exact Touches.refl _ _
  · refine Touches.step (State.setColl_touches _ _ _) (by decide) ?_
    exact Touches.refl _ _

theorem State.forwardResult_touches (s : State) (a1 : Nat) (a2 : Notice) :
    Touches 0x4bc2618 s (State.forwardResult s a1 a2) := by
  unfold State.forwardResult
  extract_lets x0 x1 x2 x3 x4 x5
  clear_value x0 x1 x2
  have h6 : Touches 0x4bc2618 s x3 := by
    unfold x3
    split
    · refine Touches.foldl ?_ ?_
      · intro z7 z8
        exact (State.sendGrain_touches _ _ _ _ _ _ _ _ _ _ _ _).mono (by decide)
      · exact Touches.refl _ _
    · exact Touches.refl _ _
  clear_value x3 x4
  have h9 : Touches 0x4bc2618 s x5 := by
    unfold x5
    refine Touches.step (State.setColl_touches _ _ _) (by decide) ?_
    exact Touches.step (State.releaseNotice_touches _ _) (by decide) (by assumption)
  clear_value x5
  split
  · exact (State.setColl_touches _ _ _).mono (by decide)
  · split
    · exact (State.dropNotice_touches _ _ _ _).mono (by decide)
    · split
      · exact (State.dropNotice_touches _ _ _ _).mono (by decide)
      · exact Touches.step (State.maybeEnd_touches _ _) (by decide) (by assumption)

theorem State.arrive_touches (s : State) (a1 : Nat) (a2 : Notice) :
    Touches 0x4bc6618 s (State.arrive s a1 a2) := by
  unfold State.arrive
  split
  · refine Touches.step (State.dropNotice_touches _ _ _ _) (by decide) ?_
    exact Touches.refl _ _
  · split
    · refine Touches.step (State.setColl_touches _ _ _) (by decide) ?_
      exact Touches.refl _ _
    · split
      · refine Touches.step (State.forwardResult_touches _ _ _) (by decide) ?_
        exact Touches.refl _ _
      · refine Touches.step (State.track_touches _ _ _) (by decide) ?_
        exact Touches.refl _ _

theorem execCollectiveArrival_touches (a0 : Ctx) (s : State) :
    TouchesX 0x4bc6618 s (execCollectiveArrival a0 s) := by
  unfold execCollectiveArrival
  extract_lets x0
  clear_value x0
  split
  · refine TouchesX.next_ ?_
    exact Touches.refl _ _
  · split
    · refine TouchesX.next_ ?_
      refine Touches.step (State.arrive_touches _ _ _) (by decide) ?_
      refine Touches.step (State.setColl_touches _ _ _) (by decide) ?_
      exact Touches.refl _ _
    · refine TouchesX.next_ ?_
      exact Touches.refl _ _

theorem State.arrivePost_touches (s : State) (a1 : Nat) (a2 : Notice) :
    Touches 0x4bc6618 s (State.arrivePost s a1 a2) := by
  unfold State.arrivePost
  split
  · exact Touches.refl _ _
  · split
    · refine Touches.step (State.arrive_touches _ _ _) (by decide) ?_
      exact Touches.refl _ _
    · refine Touches.step (State.setColl_touches _ _ _) (by decide) ?_
      exact Touches.refl _ _

theorem execArrive_touches (a0 : Ctx) (a1 : Nat) (a2 : Nat) (s : State) :
    TouchesX 0x4bc6618 s (execArrive a0 a1 a2 s) := by
  unfold execArrive
  refine TouchesX.next_ ?_
  refine Touches.step (State.arrivePost_touches _ _ _) (by decide) ?_
  exact Touches.refl _ _

theorem execVote_touches (a0 : Ctx) (a1 : Nat) (a2 : Nat) (a3 : BitVec 256) (s : State) :
    TouchesX 0x4bc6618 s (execVote a0 a1 a2 a3 s) := by
  unfold execVote
  refine TouchesX.next_ ?_
  refine Touches.step (State.arrivePost_touches _ _ _) (by decide) ?_
  exact Touches.refl _ _

theorem State.answerQuery_touches (s : State) (a1 : Nat) (a2 : Nat) (a3 : Nat) :
    Touches 0x4002008 s (State.answerQuery s a1 a2 a3) := by
  unfold State.answerQuery
  generalize s.queryReply a1 a3 = q
  extract_lets d
  generalize (List.range (dMembers d)).find? (fun i => decide (eId (dEntry d i) = a2)) = o
  clear_value d
  split
  · exact Touches.refl _ _
  · cases o with
    | none => exact (State.collCount_touches _ _ _).mono (by decide)
    | some i => cases q with
      | none => exact (State.collCount_touches _ _ _).mono (by decide)
      | some p =>
        dsimp only
        split
        · exact (State.sendEvent_touches _ _ _ _).mono (by decide)
        · exact Touches.refl _ _

theorem execQuery_touches (a0 : Ctx) (a1 : Nat) (a2 : Nat) (s : State) :
    TouchesX 0x4002008 s (execQuery a0 a1 a2 s) := by
  unfold execQuery
  refine TouchesX.next_ ?_
  exact (State.answerQuery_touches _ _ _ _).mono (by decide)

theorem execParentCompleteNotice_touches (a0 : Ctx) (a1 : Nat) (a2 : Nat) (a3 : Nat) (a4 : Nat) (a5 : Nat) (s : State) :
    TouchesX 0x4bc2608 s (execParentCompleteNotice a0 a1 a2 a3 a4 a5 s) := by
  unfold execParentCompleteNotice
  extract_lets x0 x1 x2 x3
  clear_value x0 x1 x2
  have h4 : Touches 0x4bc2608 s x3 := by
    unfold x3
    refine Touches.step (State.setColl_touches _ _ _) (by decide) ?_
    exact Touches.refl _ _
  clear_value x3
  split
  · refine TouchesX.next_ ?_
    exact Touches.refl _ _
  · split
    · split
      · refine TouchesX.next_ ?_
        refine Touches.step (State.setColl_touches _ _ _) (by decide) ?_
        exact Touches.refl _ _
      · refine TouchesX.next_ ?_
        exact Touches.refl _ _
    · split
      · refine TouchesX.next_ ?_
        refine Touches.step (State.maybeEnd_touches _ _) (by decide) ?_
        assumption
      · refine TouchesX.next_ ?_
        refine Touches.step (State.endAndReopen_touches _ _ _ _) (by decide) ?_
        assumption

theorem execChildAbortNotice_touches (a0 : Ctx) (a1 : Nat) (a2 : Nat) (s : State) :
    TouchesX 0x4bc2608 s (execChildAbortNotice a0 a1 a2 s) := by
  unfold execChildAbortNotice
  extract_lets x0 x1
  clear_value x0 x1
  split
  · refine TouchesX.next_ ?_
    exact Touches.refl _ _
  · refine TouchesX.next_ ?_
    exact (State.endAndReopen_touches _ _ _ _).mono (by decide)

theorem execNarrowNotice_touches (a0 : Ctx) (a1 : Bool) (a2 : Nat) (a3 : Nat) (s : State) :
    TouchesX 0x4a82608 s (execNarrowNotice a0 a1 a2 a3 s) := by
  unfold execNarrowNotice
  extract_lets x0 x1 x2 x3 x4 x5 x6 x7
  clear_value x0 x1 x2 x3
  have h8 : Touches 0x4a82608 s x4 := by
    unfold x4
    exact (State.setColl_touches _ _ _).mono (by decide)
  clear_value x4 x5
  have h9 : Touches 0x4a82608 s x6 := by
    unfold x6
    exact (State.post_touches _ _).mono (by decide)
  clear_value x6
  have h10 : Touches 0x4a82608 s x7 := by
    unfold x7
    exact (State.setColl_touches _ _ _).mono (by decide)
  clear_value x7
  split
  · refine TouchesX.next_ ?_
    exact Touches.refl _ _
  · split
    · split
      · refine TouchesX.next_ ?_
        exact Touches.refl _ _
      · refine TouchesX.next_ ?_
        refine Touches.foldl ?_ ?_
        · intro z11 z12
          exact (State.sendEvent_touches _ _ _ _).mono (by decide)
        · assumption
    · split
      · refine TouchesX.next_ ?_
        exact Touches.refl _ _
      · split
        · split
          · refine TouchesX.next_ ?_
            exact Touches.step (State.setColl_touches _ _ _) (by decide) (by assumption)
          · refine TouchesX.next_ ?_
            assumption
        · refine TouchesX.next_ ?_
          split
          · exact Touches.step (State.setColl_touches _ _ _) (by decide) (by assumption)
          · assumption

theorem execCallTimeout_touches (a0 : Ctx) (s : State) :
    TouchesX 0x4bc2608 s (execCallTimeout a0 s) := by
  unfold execCallTimeout
  extract_lets x0 x1 x2 x3 x4
  clear_value x0 x1 x2 x3 x4
  split
  · refine TouchesX.next_ ?_
    exact Touches.refl _ _
  · refine TouchesX.next_ ?_
    exact (State.endAndReopen_touches _ _ _ _).mono (by decide)

theorem State.portAbort_touches (s : State) (a1 : Nat) :
    Touches 0x4bc2608 s (State.portAbort s a1) := by
  unfold State.portAbort
  extract_lets x0
  clear_value x0
  refine Touches.foldl ?_ ?_
  · intro z1 z2
    split
    · exact (State.endAndReopen_touches _ _ _ _).mono (by decide)
    · exact Touches.refl _ _
  · exact Touches.refl _ _

end Sys2Proof.Machine
end

