-- ==== Sys2Proof/Laws/FrameIngress.lean ====
section
/-! SUPPORT. What each operation of Machine/Ingress.lean can touch: its mask, memory's canonical form, the fuses' trust. -/

namespace Sys2Proof.Machine

theorem State.setArrivals_touches (s : State) (a1 : Nat) (a2 : List Arriving) :
    Touches 0x2000 s (State.setArrivals s a1 a2) := by
  unfold State.setArrivals
  exact (State.withBench_touches _ _).mono (by decide)

theorem State.updatePkt_touches (s : State) (a1 : Nat) (a2 : Nat) (a3 : Nat) (a4 : Pkt → Pkt) :
    Touches 0x6000 s (State.updatePkt s a1 a2 a3 a4) := by
  unfold State.updatePkt
  extract_lets x0 x1 x2 x3
  clear_value x0 x1
  have h4 : Touches 0x6000 s x2 := by
    unfold x2
    exact (State.setQueue_touches _ _ _).mono (by decide)
  clear_value x2
  have h5 : Touches 0x6000 s x3 := by
    unfold x3
    exact Touches.step (State.setReleased_touches _ _ _) (by decide) (by assumption)
  clear_value x3
  exact Touches.step (State.setPort_touches _ _ _) (by decide) (by assumption)

theorem State.payCredit_touches (s : State) (a1 : Nat) (a2 : Nat) (a3 : Arriving) :
    Touches2 0x4006008 s (State.payCredit s a1 a2 a3) := by
  unfold State.payCredit
  split
  · refine Touches2.mk ?_
    exact Touches.refl _ _
  · refine Touches2.mk ?_
    exact (State.returnCredits_touches _ _ _ _).mono (by decide)

theorem State.forwardGrain_touches (s : State) (a1 : Arriving) (a2 : Nat) (a3 : Nat) :
    Touches 0x86000 s (State.forwardGrain s a1 a2 a3) := by
  unfold State.forwardGrain
  extract_lets x0 x1 x2 x3 x4 x5 x6 x7 x8 x9 x10 x11
  clear_value x0 x1 x2 x3 x4 x5 x6 x7 x8 x9 x10 x11
  split
  · exact Touches.refl _ _
  · extract_lets x12 x13 x14 x15
    clear_value x12 x13
    have h16 : Touches 0x86000 s x14 := by
      unfold x14
      refine Touches.step (State.setGrain_touches _ _ _) (by decide) ?_
      exact Touches.refl _ _
    clear_value x14
    have h17 : Touches 0x86000 s x15 := by
      unfold x15
      refine Touches.step (State.setGrain_touches _ _ _) (by decide) ?_
      exact Touches.refl _ _
    clear_value x15
    split
    · refine Touches.step (State.setColl_touches _ _ _) (by decide) ?_
      assumption
    · refine Touches.step (State.updatePkt_touches _ _ _ _ _) (by decide) ?_
      assumption

theorem State.checkGrain_touches (s : State) (a1 : Pkt) (a2 : Nat) (a3 : Nat) (a4 : Nat) (a5 : Nat) :
    Touches2 0x208 s (State.checkGrain s a1 a2 a3 a4 a5) := by
  unfold State.checkGrain
  extract_lets x0 x1 x2 x3 x4
  clear_value x2
  clear_value x3
  clear_value x4
  have h5 : Touches 0x208 s x1 := by
    unfold x1
    split
    · refine Touches.step (State.count_touches _ _ _) (by decide) ?_
      exact Touches.refl _ _
    · exact Touches.refl _ _
  clear_value x1
  split
  · refine Touches2.mk ?_
    assumption
  · refine Touches2.mk ?_
    refine Touches.step (State.raise_touches _ _) (by decide) ?_
    assumption

theorem State.supplyGrains_touches (s : State) (a1 : Arriving) (a2 : Nat) :
    Touches2 0x4086000 s (State.supplyGrains s a1 a2) := by
  unfold State.supplyGrains
  split
  · refine Touches2.mk ?_
    exact Touches.refl _ _
  · extract_lets x0 x1 x2
    clear_value x0 x1
    have h3 : Touches 0x4086000 s x2 := by
      unfold x2
      split
      · exact Touches.refl _ _
      · split
        · refine Touches.step (State.emit_touches _ _) (by decide) ?_
          exact Touches.refl _ _
        · refine Touches.step (State.forwardGrain_touches _ _ _ _) (by decide) ?_
          exact Touches.refl _ _
    clear_value x2
    refine Touches2.step (State.supplyGrains_touches _ _ _) (by decide) ?_
    assumption

theorem State.payAll_touches (s : State) (a1 : Nat) (a2 : Nat) (a3 : Arriving) :
    Touches2 0x4006008 s (State.payAll s a1 a2 a3) := by
  unfold State.payAll
  refine Touches2.mk ?_
  exact (State.returnCredits_touches _ _ _ _).mono (by decide)

theorem State.endFrame_touches (s : State) (a1 : Nat) (a2 : Nat) (a3 : Arriving) :
    Touches2 0x4086008 s (State.endFrame s a1 a2 a3) := by
  unfold State.endFrame
  extract_lets x0 x1
  clear_value x0
  have h2 : Touches 0x4086008 s x1 := by
    unfold x1
    split
    · exact Touches.refl _ _
    · exact (State.count_touches _ _ _).mono (by decide)
  clear_value x1
  split
  · rename_i w3 w4 w5 w6
    have h7 : Touches 0x4086008 s w5 := by
      refine Touches2.of w6 ?_
      exact Touches2.step (State.supplyGrains_touches _ _ _) (by decide) (by assumption)
    split
    · rename_i w8 w9 w10 w11
      have h12 : Touches 0x4086008 s w10 := by
        refine Touches2.of w11 ?_
        exact Touches2.step (State.payAll_touches _ _ _ _) (by decide) (by assumption)
      refine Touches2.mk ?_
      assumption

theorem State.acceptGrain_touches (s : State) (a1 : Nat) (a2 : Nat) (a3 : Arriving) (a4 : Nat) (a5 : Nat) (a6 : Bool) :
    Touches2 0x4086218 s (State.acceptGrain s a1 a2 a3 a4 a5 a6) := by
  unfold State.acceptGrain
  extract_lets x0
  clear_value x0
  split
  · rename_i w1 w2 w3 w4
    have h5 : Touches 0x4086218 s w3 := by
      refine Touches2.of w4 ?_
      refine Touches2.step (State.payCredit_touches _ _ _ _) (by decide) ?_
      exact Touches.refl _ _
    split
    · rename_i w6 w7 w8 w9
      have h10 : Touches 0x4086218 s w8 := by
        refine Touches2.of w9 ?_
        split
        · extract_lets x11 x12
          clear_value x11 x12
          split
          · rename_i w13 w14 w15 w16 w17
            have h18 : Touches 0x4086218 s w16 := by
              refine Touches2.of w17 ?_
              refine Touches2.step (State.checkGrain_touches _ _ _ _ _ _) (by decide) ?_
              assumption
            split
            · refine Touches2.mk ?_
              refine Touches.step (State.emit_touches _ _) (by decide) ?_
              assumption
            · split
              · refine Touches2.mk ?_
                refine Touches.step (State.dropCount_touches _ _ _ _ _) (by decide) ?_
                refine Touches.step (State.unrefAll_touches _ _) (by decide) ?_
                assumption
              · refine Touches2.mk ?_
                refine Touches.step (State.forwardGrain_touches _ _ _ _) (by decide) ?_
                refine Touches.step (State.useInput_touches _ _ _ _) (by decide) ?_
                assumption
        · refine Touches2.mk ?_
          assumption
      split
      · refine Touches2.step (State.endFrame_touches _ _ _ _) (by decide) ?_
        assumption
      · refine Touches2.mk ?_
        assumption

theorem State.takeRaw_touches (s : State) (a1 : Nat) (a2 : Nat) (a3 : Arriving) (a4 : List (Option (Nat × Nat) × Bool)) :
    Touches2 0x4086218 s (State.takeRaw s a1 a2 a3 a4) := by
  unfold State.takeRaw
  split
  · refine Touches2.mk ?_
    exact Touches.refl _ _
  · split
    · rename_i w0 w1 w2 w3
      have h4 : Touches 0x4086218 s w2 := by
        refine Touches2.of w3 ?_
        split
        · exact Touches2.step (State.acceptGrain_touches _ _ _ _ _ _ _) (by decide) (Touches.refl _ _)
        · exact Touches2.step (State.endFrame_touches _ _ _ _) (by decide) (Touches.refl _ _)
      exact Touches2.step (State.takeRaw_touches _ _ _ _ _) (by decide) (by assumption)

theorem State.police_touches (s : State) (a1 : Nat) (a2 : Nat) (a3 : Nat) (a4 : Nat) (a5 : Nat) :
    Touches2 0x20008 s (State.police s a1 a2 a3 a4 a5) := by
  unfold State.police
  extract_lets x0 x1 x2
  clear_value x0 x1 x2
  refine Touches2.mk ?_
  refine Touches.foldl ?_ ?_
  · intro z3
    intro z4
    split
    · extract_lets x5 x6 x7
      clear_value x5 x6
      have h8 : Touches 0x20008 z3 x7 := by
        unfold x7
        refine Touches.step (Touches.set_head z3 _) (by decide) ?_
        exact Touches.refl _ _
      clear_value x7
      split
      · split
        · refine Touches.step (State.count_touches _ _ _) (by decide) ?_
          assumption
        · assumption
      · split
        · refine Touches.step (State.count_touches _ _ _) (by decide) ?_
          assumption
        · refine Touches.step (State.count_touches _ _ _) (by decide) ?_
          assumption
  · exact Touches.refl _ _

theorem State.setRankCache_touches (s : State) (a1 : Nat) (a2 : List RankEntry) :
    Touches 0x20000 s (State.setRankCache s a1 a2) := by
  unfold State.setRankCache
  exact (Touches.set_head s _).mono (by decide)

theorem State.touchRank_touches (s : State) (a1 : Nat) (a2 : Nat) (a3 : Nat) (a4 : Nat) :
    Touches 0x20000 s (State.touchRank s a1 a2 a3 a4) := by
  unfold State.touchRank
  split
  · exact Touches.refl _ _
  · exact (State.setRankCache_touches _ _ _).mono (by decide)

theorem State.loadRank_touches (s : State) (a1 : Nat) (a2 : RankEntry) :
    Touches 0x20000 s (State.loadRank s a1 a2) := by
  unfold State.loadRank
  extract_lets x0 x1
  clear_value x0 x1
  exact (State.setRankCache_touches _ _ _).mono (by decide)

theorem State.mapRanks_touches (s : State) (a1 : RankEntry → Option RankEntry) :
    Touches 0x20008 s (State.mapRanks s a1) := by
  unfold State.mapRanks
  extract_lets x0 x1 x2
  clear_value x0 x1
  have h3 : Touches 0x20008 s x2 := by
    unfold x2
    refine Touches.step (Touches.set_head s _) (by decide) ?_
    exact Touches.refl _ _
  clear_value x2
  refine Touches.foldl ?_ ?_
  · intro z4
    intro z5
    refine Touches.step (State.setFld_touches _ _ _ _) (by decide) ?_
    exact Touches.refl _ _
  · assumption

theorem State.loadRanks_touches (s : State) (a1 : Pkt) :
    Touches 0x20000 s (State.loadRanks s a1) := by
  unfold State.loadRanks
  extract_lets x0
  clear_value x0
  refine Touches.foldl ?_ ?_
  · intro z1 z2
    exact (State.loadRank_touches _ _ _).mono (by decide)
  · exact Touches.refl _ _

theorem State.pickUplink_touches (s : State) (a1 : Pkt) (a2 : Nat) (a3 : Nat) :
    Touches2 0x20000 s (State.pickUplink s a1 a2 a3) := by
  unfold State.pickUplink
  extract_lets x0 x1 x2 x3 x4 x5 x6 x7 x8 x9 x10
  clear_value x0 x1 x2 x3 x4 x5 x6 x7 x8 x9 x10
  split
  · refine Touches2.mk ?_
    exact Touches.refl _ _
  · split
    · refine Touches2.mk ?_
      exact Touches.refl _ _
    · split
      · refine Touches2.mk ?_
        exact Touches.refl _ _
      · split
        · refine Touches2.mk ?_
          exact Touches.refl _ _
        · refine Touches2.mk ?_
          exact (Touches.set_head s _).mono (by decide)

theorem State.routeTables_touches (s : State) (a1 : Pkt) :
    Touches2 0x20000 s (State.routeTables s a1) := by
  unfold State.routeTables
  extract_lets x0 x1 x2 x3 x4 x5 x6 x7 x8
  clear_value x0 x1 x2 x3
  have h9 : Touches 0x20000 s x4 := by
    unfold x4
    refine Touches.foldl ?_ ?_
    · intro z10 z11
      exact (State.touchRank_touches _ _ _ _ _).mono (by decide)
    · exact Touches.refl _ _
  clear_value x4 x5 x6 x7 x8
  split
  · refine Touches2.mk ?_
    assumption
  · split
    · refine Touches2.mk ?_
      assumption
    · split
      · split
        · refine Touches2.mk ?_
          assumption
        · extract_lets x12
          clear_value x12
          split
          · refine Touches2.mk ?_
            assumption
          · split
            · refine Touches2.mk ?_
              assumption
            · split
              · refine Touches2.mk ?_
                assumption
              · refine Touches2.mk ?_
                assumption
      · split
        · refine Touches2.mk ?_
          assumption
        · split
          · refine Touches2.mk ?_
            assumption
          · split
            · split
              · refine Touches2.mk ?_
                assumption
              · split
                · rename_i w13 w14 w15 w16
                  have h17 : Touches 0x20000 s w15 := by
                    refine Touches2.of w16 ?_
                    exact Touches2.step (State.pickUplink_touches _ _ _ _) (by decide) (by assumption)
                  split
                  · refine Touches2.mk ?_
                    assumption
                  · refine Touches2.mk ?_
                    assumption
            · split
              · refine Touches2.mk ?_
                assumption
              · split
                · refine Touches2.mk ?_
                  assumption
                · refine Touches2.mk ?_
                  assumption

theorem State.routePkt_touches (s : State) (a1 : Pkt) :
    Touches2 0x20000 s (State.routePkt s a1) := by
  unfold State.routePkt
  split
  · rename_i w0 w1 w2 w3 w4
    have h5 : Touches 0x20000 s w3 := by
      refine Touches2.of w4 ?_
      exact Touches2.step (State.routeTables_touches _ _) (by decide) (Touches.refl _ _)
    refine Touches2.mk ?_
    assumption
  · exact Touches2.step (State.routeTables_touches _ _) (by decide) (Touches.refl _ _)

theorem State.dropTail_touches (s : State) (a1 : Pkt) (a2 : Nat) :
    Touches 0x2008 s (State.dropTail s a1 a2) := by
  unfold State.dropTail
  refine Touches.step (State.count_touches _ _ _) (by decide) ?_
  exact (State.captureDrop_touches _ _ _ _ _).mono (by decide)

theorem State.admitGrains_touches (s : State) (a1 : Pkt) (a2 : Nat) (a3 : Nat) (a4 : Nat) (a5 : Bool) :
    Touches2 0x6008 s (State.admitGrains s a1 a2 a3 a4 a5) := by
  unfold State.admitGrains
  extract_lets x0 x1 x2 x3 x4
  clear_value x0 x1 x2 x3
  have h5 : Touches 0x6008 s x4 := by
    unfold x4
    split
    · refine Touches2.snd ?_
      refine Touches2.step (State.pushOut_touches _ _ _ _) (by decide) ?_
      exact Touches.refl _ _
    · exact Touches.refl _ _
  clear_value x4
  split
  · split
    · rename_i w6 w7 w8 w9 w10
      have h11 : Touches 0x6008 s w9 := by
        refine TouchesO2.of w10 ?_
        refine TouchesO2.step (State.allocN_touches _ _ _ _ _ _) (by decide) ?_
        assumption
      refine Touches2.mk ?_
      assumption
    · rename_i w12 w13 w14
      refine Touches2.mk ?_
      assumption
  · split
    · refine Touches2.mk ?_
      exact Touches.refl _ _
    · split
      · refine Touches2.mk ?_
        refine Touches.step (State.count_touches _ _ _) (by decide) ?_
        exact Touches.refl _ _
      · split
        · rename_i w15 w16 w17 w18 w19 w20 w21
          have h22 : Touches 0x6008 s w20 := by
            refine Touches2.of w21 ?_
            refine Touches2.step (State.admitLossy_touches _ _ _ _ _ _) (by decide) ?_
            exact Touches.refl _ _
          split
          · refine Touches2.mk ?_
            assumption
          · split
            · rename_i w23 w24 w25 w26 w27
              have h28 : Touches 0x6008 s w26 := by
                refine TouchesO2.of w27 ?_
                refine TouchesO2.step (State.allocN_touches _ _ _ _ _ _) (by decide) ?_
                assumption
              refine Touches2.mk ?_
              assumption
            · rename_i w29 w30 w31
              refine Touches2.mk ?_
              assumption

theorem State.admitEgress_touches (s : State) (a1 : Arriving) (a2 : Nat) (a3 : Option Nat) :
    Touches2 0x4006008 s (State.admitEgress s a1 a2 a3) := by
  unfold State.admitEgress
  extract_lets x0 x1 x2 x3 x4 x5
  clear_value x0 x1 x2 x3 x4 x5
  split
  · refine Touches2.mk ?_
    refine Touches.step (State.emit_touches _ _) (by decide) ?_
    refine Touches.step (State.dropTail_touches _ _ _) (by decide) ?_
    exact Touches.refl _ _
  · split
    · rename_i w6 w7 w8 w9 w10
      have h11 : Touches 0x4006008 s w9 := by
        refine Touches2.of w10 ?_
        refine Touches2.step (State.admitGrains_touches _ _ _ _ _ _) (by decide) ?_
        exact Touches.refl _ _
      split
      · refine Touches2.mk ?_
        split
        · refine Touches.step (State.emit_touches _ _) (by decide) ?_
          refine Touches.step (State.dropTail_touches _ _ _) (by decide) ?_
          assumption
        · refine Touches.step (State.dropTail_touches _ _ _) (by decide) ?_
          assumption
      · extract_lets x12 x13
        clear_value x13
        have h14 : Touches 0x4006008 s x12 := by
          unfold x12
          split
          · assumption
          · refine Touches.foldl ?_ ?_
            · intro z15
              intro z16
              refine Touches.step (State.setGrain_touches _ _ _) (by decide) ?_
              exact Touches.refl _ _
            · assumption
        clear_value x12
        refine Touches2.mk ?_
        refine Touches.step (State.setQueue_touches _ _ _) (by decide) ?_
        assumption

theorem State.ctlToContext_touches (s : State) (a1 : Pkt) (a2 : Nat) :
    Touches 0x4bc6618 s (State.ctlToContext s a1 a2) := by
  unfold State.ctlToContext
  extract_lets x0 x1
  clear_value x0 x1
  split
  · refine Touches.step (State.emit_touches _ _) (by decide) ?_
    exact Touches.refl _ _
  · split
    · refine Touches.step (State.answerQuery_touches _ _ _ _) (by decide) ?_
      exact Touches.refl _ _
    · refine Touches.step (State.arrivePost_touches _ _ _) (by decide) ?_
      exact Touches.refl _ _
    · refine Touches.step (State.arrivePost_touches _ _ _) (by decide) ?_
      exact Touches.refl _ _
    · refine Touches.step (State.collCount_touches _ _ _) (by decide) ?_
      exact Touches.refl _ _

theorem State.admitContext_touches (s : State) (a1 : Arriving) (a2 : Nat) :
    Touches2 0x4bc6618 s (State.admitContext s a1 a2) := by
  unfold State.admitContext
  extract_lets x0 x1 x2 x3 x4 x5
  clear_value x0 x1 x2 x3 x4 x5
  split
  · refine Touches2.mk ?_
    refine Touches.step (State.ctlToContext_touches _ _ _) (by decide) ?_
    exact Touches.refl _ _
  · split
    · rename_i w6 w7 w8 w9 w10
      have h11 : Touches 0x4bc6618 s w9 := by
        refine Touches2.of w10 ?_
        refine Touches2.step (State.admitGrains_touches _ _ _ _ _ _) (by decide) ?_
        exact Touches.refl _ _
      split
      · extract_lets x12
        have h13 : Touches 0x4bc6618 s x12 := by
          unfold x12
          refine Touches.step (State.captureDrop_touches _ _ _ _ _) (by decide) ?_
          assumption
        clear_value x12
        refine Touches2.mk ?_
        split
        · refine Touches.step (State.emit_touches _ _) (by decide) ?_
          assumption
        · assumption
      · refine Touches2.mk ?_
        assumption

theorem State.resumePkt_touches (s : State) (a1 : Arriving) :
    Touches2 0x4be6618 s (State.resumePkt s a1) := by
  unfold State.resumePkt
  split
  · rename_i w0 w1 w2 w3
    have h4 : Touches 0x4be6618 s w2 := by
      refine Touches2.of w3 ?_
      refine Touches2.step (State.routePkt_touches _ _) (by decide) ?_
      exact Touches.refl _ _
    split
    · refine Touches2.mk ?_
      refine Touches.step (State.dropCount_touches _ _ _ _ _) (by decide) ?_
      assumption
    · refine Touches2.step (State.admitContext_touches _ _ _) (by decide) ?_
      assumption
    · refine Touches2.step (State.admitEgress_touches _ _ _ _) (by decide) ?_
      assumption

theorem State.endResv_touches (s : State) (a1 : Nat) (a2 : Nat) (a3 : Arriving) :
    Touches2 0x2000 s (State.endResv s a1 a2 a3) := by
  unfold State.endResv
  refine Touches2.mk ?_
  refine Touches.step (State.unreserve_touches _ _ _ _) (by decide) ?_
  exact Touches.refl _ _

theorem State.resumeArrival_touches (s : State) (a1 : Nat) (a2 : Nat) (a3 : Arriving) :
    Touches2 0x4be6618 s (State.resumeArrival s a1 a2 a3) := by
  unfold State.resumeArrival
  split
  · rename_i w0 w1 w2 w3
    have h4 : Touches 0x4be6618 s w2 := by
      refine Touches2.of w3 ?_
      refine Touches2.step (State.endResv_touches _ _ _ _) (by decide) ?_
      exact Touches.refl _ _
    split
    · rename_i w5 w6 w7 w8
      have h9 : Touches 0x4be6618 s w7 := by
        refine Touches2.of w8 ?_
        refine Touches2.step (State.resumePkt_touches _ _) (by decide) ?_
        assumption
      extract_lets x10
      clear_value x10
      split
      · rename_i w11 w12 w13 w14
        have h15 : Touches 0x4be6618 s w13 := by
          refine Touches2.of w14 ?_
          refine Touches2.step (State.takeRaw_touches _ _ _ _ _) (by decide) ?_
          assumption
        split
        · refine Touches2.mk ?_
          assumption
        · refine Touches2.step (State.payAll_touches _ _ _ _) (by decide) ?_
          assumption

theorem State.dropFinished_touches (s : State) (a1 : Nat) :
    Touches 0x2000 s (State.dropFinished s a1) := by
  unfold State.dropFinished
  exact (State.setArrivals_touches _ _ _).mono (by decide)

theorem State.setArrival_touches (s : State) (a1 : Nat) (a2 : Arriving) :
    Touches 0x2000 s (State.setArrival s a1 a2) := by
  unfold State.setArrival
  refine Touches.step (State.dropFinished_touches _ _) (by decide) ?_
  exact (State.setArrivals_touches _ _ _).mono (by decide)

theorem State.resumeHeld_touches (s : State) (a1 : Nat) (a2 : Nat) (a3 : List Arriving) (a4 : List Arriving) :
    Touches2 0x4be6618 s (State.resumeHeld s a1 a2 a3 a4) := by
  unfold State.resumeHeld
  split
  · refine Touches2.mk ?_
    exact Touches.refl _ _
  · split
    · exact Touches2.step (State.resumeHeld_touches _ _ _ _ _) (by decide) (Touches.refl _ _)
    · split
      · split
        · rename_i w0 w1 w2 w3
          have h4 : Touches 0x4be6618 s w2 := by
            refine Touches2.of w3 ?_
            exact Touches2.step (State.resumeArrival_touches _ _ _ _) (by decide) (Touches.refl _ _)
          exact Touches2.step (State.resumeHeld_touches _ _ _ _ _) (by decide) (by assumption)
      · refine Touches2.mk ?_
        exact Touches.refl _ _

theorem State.firstSteps_touches (s : State) (a1 : Pkt) (a2 : Bool) (a3 : Nat) :
    Touches2 0x20008 s (State.firstSteps s a1 a2 a3) := by
  unfold State.firstSteps
  extract_lets x0 x1
  clear_value x0
  split
  · refine Touches2.mk ?_
    exact Touches.refl _ _
  · split
    · split
      · refine Touches2.mk ?_
        exact Touches.refl _ _
      · split
        · refine Touches2.mk ?_
          exact Touches.refl _ _
        · split
          · refine Touches2.mk ?_
            exact Touches.refl _ _
          · split
            · rename_i w2 w3 w4 w5
              have h6 : Touches 0x20008 s w4 := by
                refine Touches2.of w5 ?_
                exact Touches2.step (State.police_touches _ _ _ _ _ _) (by decide) (Touches.refl _ _)
              split
              · refine Touches2.mk ?_
                assumption
              · split
                · refine Touches2.mk ?_
                  assumption
                · split
                  · refine Touches2.mk ?_
                    assumption
                  · refine Touches2.mk ?_
                    assumption
    · split
      · refine Touches2.mk ?_
        exact Touches.refl _ _
      · split
        · refine Touches2.mk ?_
          exact Touches.refl _ _
        · split
          · refine Touches2.mk ?_
            exact Touches.refl _ _
          · split
            · rename_i w7 w8 w9 w10
              have h11 : Touches 0x20008 s w9 := by
                refine Touches2.of w10 ?_
                exact Touches2.step (State.police_touches _ _ _ _ _ _) (by decide) (Touches.refl _ _)
              split
              · refine Touches2.mk ?_
                assumption
              · split
                · refine Touches2.mk ?_
                  assumption
                · split
                  · refine Touches2.mk ?_
                    assumption
                  · refine Touches2.mk ?_
                    assumption

theorem State.sampleCapture_touches (s : State) (a1 : Pkt) (a2 : Option Nat) :
    Touches 0x2008 s (State.sampleCapture s a1 a2) := by
  unfold State.sampleCapture
  extract_lets x0 x1 x2 x3
  clear_value x0 x1 x2
  have h4 : Touches 0x2008 s x3 := by
    unfold x3
    exact (State.withBench_touches _ _).mono (by decide)
  clear_value x3
  split
  · exact Touches.step (State.capturePkt_touches _ _ _ _ _) (by decide) (by assumption)
  · split
    · exact Touches.step (State.capturePkt_touches _ _ _ _ _) (by decide) (by assumption)
    · assumption

theorem State.receivePkt_touches (s : State) (a1 : Pkt) (a2 : Nat) (a3 : Nat) (a4 : Bool) (a5 : Nat) :
    Touches 0x4be6618 s (State.receivePkt s a1 a2 a3 a4 a5) := by
  unfold State.receivePkt
  extract_lets x0 x1 x2 x3 x4 x5 x6
  clear_value x0 x1 x3 x5 x6
  have h7 : Touches 0x4be6618 s x2 := by
    unfold x2
    refine Touches.step (State.withBench_touches _ _) (by decide) ?_
    exact Touches.refl _ _
  clear_value x2
  have h8 : ∀ z9, Touches2 0x4be6618 z9 (x4 z9) := by
    intro z9
    unfold x4
    beta_reduce
    refine Touches2.step (State.endResv_touches _ _ _ _) (by decide) ?_
    exact Touches.refl _ _
  clear_value x4
  split
  · rename_i w10 w11 w12 w13
    have h14 : Touches 0x4be6618 s w12 := by
      refine Touches2.of w13 ?_
      refine Touches2.step (State.firstSteps_touches _ _ _ _) (by decide) ?_
      assumption
    split
    · rename_i w15 w16 w17 w18
      have h19 : Touches 0x4be6618 s w17 := by
        refine Touches2.of w18 ?_
        split
        · split
          · rename_i w20 w21 w22 w23 w24 w25
            have h26 : Touches 0x4be6618 s w24 := by
              refine Touches2.of w25 ?_
              refine Touches2.step (h8 _) (by decide) ?_
              assumption
            refine Touches2.mk ?_
            refine Touches.step (State.dropCount_touches _ _ _ _ _) (by decide) ?_
            assumption
        · split
          · rename_i w27 w28 w29 w30 w31
            have h32 : Touches 0x4be6618 s w30 := by
              refine Touches2.of w31 ?_
              refine Touches2.step (h8 _) (by decide) ?_
              assumption
            refine Touches2.mk ?_
            refine Touches.step (State.captureDrop_touches _ _ _ _ _) (by decide) ?_
            assumption
        · split
          · rename_i w33 w34 w35 w36 w37
            have h38 : Touches 0x4be6618 s w36 := by
              refine Touches2.of w37 ?_
              refine Touches2.step (h8 _) (by decide) ?_
              assumption
            split
            · refine Touches2.mk ?_
              assumption
            · refine Touches2.mk ?_
              refine Touches.step (State.emit_touches _ _) (by decide) ?_
              assumption
        · extract_lets x39 x40 x41
          clear_value x39
          have h42 : Touches 0x4be6618 s x40 := by
            unfold x40
            refine Touches.step (State.countBy_touches _ _ _ _) (by decide) ?_
            assumption
          clear_value x40
          have h43 : Touches 0x4be6618 s x41 := by
            unfold x41
            split
            · refine Touches.step (State.count_touches _ _ _) (by decide) ?_
              assumption
            · assumption
          clear_value x41
          split
          · refine Touches2.mk ?_
            assumption
          · split
            · rename_i w44 w45 w46 w47 w48 w49
              have h50 : Touches 0x4be6618 s w48 := by
                refine Touches2.of w49 ?_
                refine Touches2.step (h8 _) (by decide) ?_
                assumption
              refine Touches2.step (State.resumePkt_touches _ _) (by decide) ?_
              assumption
      split
      · rename_i w51 w52 w53 w54
        have h55 : Touches 0x4be6618 s w53 := by
          refine Touches2.of w54 ?_
          split
          · refine Touches2.mk ?_
            assumption
          · refine Touches2.step (State.payAll_touches _ _ _ _) (by decide) ?_
            assumption
        extract_lets x56
        have h57 : Touches 0x4be6618 s x56 := by
          unfold x56
          refine Touches.step (State.sampleCapture_touches _ _ _) (by decide) ?_
          assumption
        clear_value x56
        refine Touches.step (State.dropFinished_touches _ _) (by decide) ?_
        refine Touches.step (State.setArrivals_touches _ _ _) (by decide) ?_
        assumption

theorem execRankLookupReturn_touches (a0 : Port) (a1 : Tc) (a2 : Bool) (s : State) :
    TouchesX 0x4be6618 s (execRankLookupReturn a0 a1 a2 s) := by
  unfold execRankLookupReturn
  extract_lets x0 x1 x2 x3
  clear_value x0 x1 x2 x3
  split
  · refine TouchesX.next_ ?_
    exact Touches.refl _ _
  · split
    · extract_lets x4 x5 x6
      clear_value x4 x6
      have h7 : Touches 0x4be6618 s x5 := by
        unfold x5
        refine Touches.step (State.dropCount_touches _ _ _ _ _) (by decide) ?_
        refine Touches.step (State.raise_touches _ _) (by decide) ?_
        exact Touches.refl _ _
      clear_value x5
      split
      · rename_i w8 w9 w10 w11 w12 w13 w14 w15
        have h16 : Touches 0x4be6618 s w14 := by
          refine Touches2.of w15 ?_
          refine Touches2.step (State.endResv_touches _ _ _ _) (by decide) ?_
          assumption
        split
        · rename_i w17 w18 w19 w20
          have h21 : Touches 0x4be6618 s w19 := by
            refine Touches2.of w20 ?_
            refine Touches2.step (State.takeRaw_touches _ _ _ _ _) (by decide) ?_
            assumption
          split
          · rename_i w22 w23 w24 w25
            have h26 : Touches 0x4be6618 s w24 := by
              refine Touches2.of w25 ?_
              split
              · refine Touches2.mk ?_
                assumption
              · refine Touches2.step (State.payAll_touches _ _ _ _) (by decide) ?_
                assumption
            extract_lets x27
            have h28 : Touches 0x4be6618 s x27 := by
              unfold x27
              refine Touches.step (State.setArrival_touches _ _ _) (by decide) ?_
              assumption
            clear_value x27
            split
            · rename_i w29 w30 w31 w32
              have h33 : Touches 0x4be6618 s w31 := by
                refine Touches2.of w32 ?_
                refine Touches2.step (State.resumeHeld_touches _ _ _ _ _) (by decide) ?_
                assumption
              refine TouchesX.next_ ?_
              refine Touches.step (State.dropFinished_touches _ _) (by decide) ?_
              refine Touches.step (State.setArrivals_touches _ _ _) (by decide) ?_
              assumption
    · extract_lets x34
      have h35 : Touches 0x4be6618 s x34 := by
        unfold x34
        refine Touches.step (State.loadRanks_touches _ _) (by decide) ?_
        exact Touches.refl _ _
      clear_value x34
      split
      · rename_i w36 w37 w38 w39 w40 w41 w42 w43
        have h44 : Touches 0x4be6618 s w42 := by
          refine Touches2.of w43 ?_
          refine Touches2.step (State.resumeHeld_touches _ _ _ _ _) (by decide) ?_
          assumption
        refine TouchesX.next_ ?_
        refine Touches.step (State.dropFinished_touches _ _) (by decide) ?_
        refine Touches.step (State.setArrivals_touches _ _ _) (by decide) ?_
        assumption

theorem State.grainArrives_touches (s : State) (a1 : Nat) (a2 : Nat) (a3 : Nat) (a4 : Nat) (a5 : Bool) :
    Touches 0x4086218 s (State.grainArrives s a1 a2 a3 a4 a5) := by
  unfold State.grainArrives
  extract_lets x0
  clear_value x0
  split
  · exact Touches.refl _ _
  · split
    · rename_i w1 w2 w3 w4
      have h5 : Touches 0x4086218 s w3 := by
        refine Touches2.of w4 ?_
        split
        · refine Touches2.mk ?_
          exact Touches.refl _ _
        · exact Touches2.step (State.acceptGrain_touches _ _ _ _ _ _ _) (by decide) (Touches.refl _ _)
      exact Touches.step (State.setArrival_touches _ _ _) (by decide) (by assumption)

theorem State.frameEnds_touches (s : State) (a1 : Nat) (a2 : Nat) :
    Touches 0x4086008 s (State.frameEnds s a1 a2) := by
  unfold State.frameEnds
  extract_lets x0
  clear_value x0
  split
  · exact Touches.refl _ _
  · split
    · exact (State.setArrival_touches _ _ _).mono (by decide)
    · split
      · rename_i w1 w2 w3 w4
        have h5 : Touches 0x4086008 s w3 := by
          refine Touches2.of w4 ?_
          exact Touches2.step (State.endFrame_touches _ _ _ _) (by decide) (Touches.refl _ _)
        exact Touches.step (State.setArrival_touches _ _ _) (by decide) (by assumption)

theorem State.packetIn_touches (s : State) (a1 : Nat) (a2 : Nat) (a3 : Nat) (a4 : RawPacket) :
    Touches 0x4be6618 s (State.packetIn s a1 a2 a3 a4) := by
  unfold State.packetIn
  split
  · exact Touches.refl _ _
  · split
    · extract_lets x0 x1 x2 x3 x4 x5
      clear_value x0 x1 x2 x3
      have h6 : Touches 0x4be6618 s x4 := by
        unfold x4
        refine Touches.step (State.setPort_touches _ _ _) (by decide) ?_
        exact Touches.refl _ _
      clear_value x4
      have h7 : Touches 0x4be6618 s x5 := by
        unfold x5
        refine Touches.step (State.receivePkt_touches _ _ _ _ _ _) (by decide) ?_
        assumption
      clear_value x5
      split
      · refine Touches.step (State.frameEnds_touches _ _ _) (by decide) ?_
        assumption
      · assumption

theorem execPacketIngress_touches (a0 : Port) (a1 : Tc) (a2 : Fin 64) (a3 : RawPacket) (s : State) :
    TouchesX 0x4be6618 s (execPacketIngress a0 a1 a2 a3 s) := by
  unfold execPacketIngress
  refine TouchesX.next_ ?_
  refine Touches.step (State.packetIn_touches _ _ _ _ _) (by decide) ?_
  exact Touches.refl _ _

theorem State.grainIn_touches (s : State) (a1 : Nat) (a2 : Nat) (a3 : Nat) (a4 : Nat) (a5 : Bool) :
    Touches 0x4086218 s (State.grainIn s a1 a2 a3 a4 a5) := by
  unfold State.grainIn
  split
  · exact Touches.refl _ _
  · refine Touches.step (State.grainArrives_touches _ _ _ _ _ _) (by decide) ?_
    exact Touches.refl _ _

theorem execGrainIngress_touches (a0 : Port) (a1 : Tc) (a2 : BitVec 128) (a3 : Grain) (a4 : Bool) (s : State) :
    TouchesX 0x4086218 s (execGrainIngress a0 a1 a2 a3 a4 s) := by
  unfold execGrainIngress
  refine TouchesX.next_ ?_
  refine Touches.step (State.grainIn_touches _ _ _ _ _ _) (by decide) ?_
  exact Touches.refl _ _

theorem State.failArrivals_touches (s : State) (a1 : Nat) :
    Touches 0x4086008 s (State.failArrivals s a1) := by
  unfold State.failArrivals
  refine Touches.foldl ?_ ?_
  · intro z0 z1
    extract_lets x2
    clear_value x2
    refine Touches.foldl ?_ ?_
    · intro z3 z4
      split
      · exact (State.setArrival_touches _ _ _).mono (by decide)
      · refine Touches.step (State.frameEnds_touches _ _ _) (by decide) ?_
        exact (State.setArrival_touches _ _ _).mono (by decide)
    · exact Touches.refl _ _
  · exact Touches.refl _ _

theorem State.pauseIn_touches (s : State) (a1 : Nat) (a2 : Blob) :
    Touches 0x4000 s (State.pauseIn s a1 a2) := by
  unfold State.pauseIn
  extract_lets x0 x1
  clear_value x0 x1
  refine Touches.step (State.setPort_touches _ _ _) (by decide) ?_
  exact Touches.refl _ _

theorem State.frameIn_touches (s : State) (a1 : Nat) (a2 : Nat) (a3 : Bool) (a4 : Blob) :
    Touches 0x4be6618 s (State.frameIn s a1 a2 a3 a4) := by
  unfold State.frameIn
  split
  · exact Touches.refl _ _
  · extract_lets x0 x1 x2 x3 x4 x5 x6 x7
    clear_value x0 x1 x2 x3 x4 x6
    have h8 : Touches 0x4be6618 s x5 := by
      unfold x5
      refine Touches.step (State.receivePkt_touches _ _ _ _ _ _) (by decide) ?_
      exact Touches.refl _ _
    clear_value x5
    have h9 : Touches 0x4be6618 s x7 := by
      unfold x7
      refine Touches.foldl ?_ ?_
      · intro z10
        intro z11
        refine Touches.step (State.grainArrives_touches _ _ _ _ _ _) (by decide) ?_
        exact Touches.refl _ _
      · assumption
    clear_value x7
    split
    · refine Touches.step (State.emit_touches _ _) (by decide) ?_
      exact Touches.refl _ _
    · split
      · refine Touches.step (State.emit_touches _ _) (by decide) ?_
        exact Touches.refl _ _
      · split
        · refine Touches.step (State.pauseIn_touches _ _ _) (by decide) ?_
          exact Touches.refl _ _
        · split
          · refine Touches.step (State.dropCount_touches _ _ _ _ _) (by decide) ?_
            exact Touches.refl _ _
          · split
            · assumption
            · split
              · refine Touches.step (State.frameEnds_touches _ _ _) (by decide) ?_
                assumption
              · assumption

theorem execEthernetFrameIngress_touches (a0 : Port) (a1 : Nat) (a2 : Bool) (a3 : Blob) (s : State) :
    TouchesX 0x4be6618 s (execEthernetFrameIngress a0 a1 a2 a3 s) := by
  unfold execEthernetFrameIngress
  refine TouchesX.next_ ?_
  refine Touches.step (State.frameIn_touches _ _ _ _ _) (by decide) ?_
  exact Touches.refl _ _

theorem execPtpMessage_touches (a0 : Port) (a1 : PtpForm) (a2 : BitVec 256) (a3 : Bool) (s : State) :
    TouchesX 0x4be6618 s (execPtpMessage a0 a1 a2 a3 s) := by
  unfold execPtpMessage
  extract_lets x0 x1 x2
  clear_value x0 x1 x2
  split
  · refine TouchesX.next_ ?_
    refine Touches.step (State.packetIn_touches _ _ _ _ _) (by decide) ?_
    exact Touches.refl _ _
  · refine TouchesX.next_ ?_
    refine Touches.step (State.grainIn_touches _ _ _ _ _ _) (by decide) ?_
    refine Touches.step (State.packetIn_touches _ _ _ _ _) (by decide) ?_
    exact Touches.refl _ _
  · refine TouchesX.next_ ?_
    refine Touches.step (State.frameIn_touches _ _ _ _ _) (by decide) ?_
    exact Touches.refl _ _
  · split
    · refine TouchesX.next_ ?_
      refine Touches.step (State.emit_touches _ _) (by decide) ?_
      exact Touches.refl _ _
    · refine TouchesX.next_ ?_
      exact Touches.refl _ _

end Sys2Proof.Machine
end

