-- ==== Sys2Proof/Laws/FrameLinks.lean ====
section
/-! SUPPORT. What each operation of Machine/Links.lean can touch: its mask, memory's canonical form, the fuses' trust. -/

namespace Sys2Proof.Machine

theorem State.setLstate_touches (s : State) (a1 : Nat) (a2 : Nat) (a3 : Nat) :
    Touches 0x8 s (State.setLstate s a1 a2 a3) := by
  unfold State.setLstate
  exact (State.setFld_touches _ _ _ _).mono (by decide)

theorem State.setLockTry_touches (s : State) (a1 : Nat) (a2 : Nat) (a3 : Nat) :
    Touches 0x8000 s (State.setLockTry s a1 a2 a3) := by
  unfold State.setLockTry
  exact (Touches.set_lanes s _).mono (by decide)

theorem State.setTxMode_touches (s : State) (a1 : Nat) (a2 : Nat) (a3 : Nat) :
    Touches 0x8000 s (State.setTxMode s a1 a2 a3) := by
  unfold State.setTxMode
  refine Touches.step (Touches.set_lanes s _) (by decide) ?_
  exact Touches.refl _ _

theorem State.setSpareJob_touches (s : State) (a1 : Nat) (a2 : Nat) (a3 : Nat) :
    Touches 0x10000 s (State.setSpareJob s a1 a2 a3) := by
  unfold State.setSpareJob
  exact (Touches.set_spares s _).mono (by decide)

theorem State.paintLanes_touches (s : State) (a1 : Nat) :
    Touches 0x8 s (State.paintLanes s a1) := by
  unfold State.paintLanes
  extract_lets x0 x1 x2
  clear_value x0 x1 x2
  refine Touches.foldl ?_ ?_
  · intro z3 z4
    extract_lets x5 x6
    clear_value x5 x6
    split
    · exact Touches.refl _ _
    · split
      · exact (State.setLstate_touches _ _ _ _).mono (by decide)
      · exact (State.setLstate_touches _ _ _ _).mono (by decide)
  · exact Touches.refl _ _

theorem State.portRecord_touches (s : State) (a1 : Nat) (a2 : Nat) :
    Touches 0x208 s (State.portRecord s a1 a2) := by
  unfold State.portRecord
  extract_lets x0 x1 x2
  clear_value x0 x1 x2
  exact (State.raise_touches _ _).mono (by decide)

theorem State.portEvent_touches (s : State) (a1 : Nat) (a2 : Nat) :
    Touches 0x4a00608 s (State.portEvent s a1 a2) := by
  unfold State.portEvent
  exact (State.post_touches _ _).mono (by decide)

theorem State.sendWireGrain_touches (s : State) (a1 : Nat) (a2 : Nat) (a3 : Nat) (a4 : Bool) :
    Touches 0x4000010 s (State.sendWireGrain s a1 a2 a3 a4) := by
  unfold State.sendWireGrain
  extract_lets x0 x1
  clear_value x0 x1
  refine Touches.step (State.emit_touches _ _) (by decide) ?_
  refine Touches.step (State.useInput_touches _ _ _ _) (by decide) ?_
  exact Touches.refl _ _

theorem State.sendFrame_touches (s : State) (a1 : Nat) (a2 : Nat) (a3 : Pkt) (a4 : Bool) :
    Touches 0x4000010 s (State.sendFrame s a1 a2 a3 a4) := by
  unfold State.sendFrame
  refine Touches.foldl ?_ ?_
  · intro z0
    intro z1
    refine Touches.step (State.sendWireGrain_touches _ _ _ _ _) (by decide) ?_
    exact Touches.refl _ _
  · refine Touches.step (State.emit_touches _ _) (by decide) ?_
    exact Touches.refl _ _

theorem State.frameSent_touches (s : State) (a1 : Nat) (a2 : Nat) (a3 : Nat) (a4 : Option Nat) :
    Touches 0x4008 s (State.frameSent s a1 a2 a3 a4) := by
  unfold State.frameSent
  extract_lets x0 x1
  clear_value x0
  have h2 : Touches 0x4008 s x1 := by
    unfold x1
    refine Touches.step (State.setPort_touches _ _ _) (by decide) ?_
    exact Touches.refl _ _
  clear_value x1
  split
  · refine Touches.step (State.count_touches _ _ _) (by decide) ?_
    assumption
  · assumption

theorem State.restartFrame_touches (s : State) (a1 : Nat) (a2 : Nat) (a3 : Nat) :
    Touches 0x4000 s (State.restartFrame s a1 a2 a3) := by
  unfold State.restartFrame
  extract_lets x0
  clear_value x0
  refine Touches.step (State.setPort_touches _ _ _) (by decide) ?_
  exact Touches.refl _ _

theorem State.resendOne_touches (s : State) (a1 : Nat) (a2 : List Nat) (a3 : Nat × Bool) (a4 : Nat × Pkt) :
    Touches2 0x4004018 s (State.resendOne s a1 a2 a3 a4) := by
  unfold State.resendOne
  extract_lets x0 x1
  clear_value x0
  have h2 : Touches 0x4004018 s x1 := by
    unfold x1
    refine Touches.step (State.restartFrame_touches _ _ _ _) (by decide) ?_
    exact Touches.refl _ _
  clear_value x1
  split
  · refine Touches2.mk ?_
    refine Touches.step (State.emit_touches _ _) (by decide) ?_
    assumption
  · refine Touches2.mk ?_
    refine Touches.step (State.frameSent_touches _ _ _ _ _) (by decide) ?_
    refine Touches.step (State.sendFrame_touches _ _ _ _ _) (by decide) ?_
    exact Touches.refl _ _

theorem State.resendAll_touches (s : State) (a1 : Nat) :
    Touches 0x4004018 s (State.resendAll s a1) := by
  unfold State.resendAll
  extract_lets x0
  clear_value x0
  refine Touches2.snd ?_
  refine Touches2.foldl ?_ ?_
  · rintro ⟨z1, z2⟩
    intro z3
    refine Touches2.step (State.resendOne_touches _ _ _ _ _) (by decide) ?_
    exact Touches.refl _ _
  · refine Touches2.mk ?_
    exact Touches.refl _ _

theorem State.releaseSent_touches (s : State) (a1 : List (Nat × Pkt)) :
    Touches 0x2000 s (State.releaseSent s a1) := by
  unfold State.releaseSent
  refine Touches.foldl ?_ ?_
  · intro z0 z1
    exact (State.unrefAll_touches _ _).mono (by decide)
  · exact Touches.refl _ _

theorem State.setPortState_touches (s : State) (a1 : Nat) (a2 : Nat) :
    Touches 0x8 s (State.setPortState s a1 a2) := by
  unfold State.setPortState
  extract_lets x0
  have h1 : Touches 0x8 s x0 := by
    unfold x0
    exact (State.setFld_touches _ _ _ _).mono (by decide)
  clear_value x0
  split
  · assumption
  · refine Touches.step (State.setFld_touches _ _ _ _) (by decide) ?_
    exact Touches.step (State.setFld_touches _ _ _ _) (by decide) (by assumption)

theorem State.keepLink_touches (s : State) (a1 : Nat) :
    Touches 0x4000 s (State.keepLink s a1) := by
  unfold State.keepLink
  extract_lets x0
  clear_value x0
  exact (State.setPort_touches _ _ _).mono (by decide)

theorem State.startLock_touches (s : State) (a1 : Nat) (a2 : Nat) :
    Touches 0x8008 s (State.startLock s a1 a2) := by
  unfold State.startLock
  extract_lets x0
  have h1 : Touches 0x8008 s x0 := by
    unfold x0
    refine Touches.step (State.setLockTry_touches _ _ _ _) (by decide) ?_
    exact (State.setFld_touches _ _ _ _).mono (by decide)
  clear_value x0
  split
  · assumption
  · exact Touches.step (State.setLstate_touches _ _ _ _) (by decide) (by assumption)

theorem State.relockPort_touches (s : State) (a1 : Nat) :
    Touches 0x8008 s (State.relockPort s a1) := by
  unfold State.relockPort
  refine Touches.foldl ?_ ?_
  · intro z0
    intro z1
    split
    · exact Touches.refl _ _
    · refine Touches.step (State.startLock_touches _ _ _) (by decide) ?_
      exact Touches.refl _ _
  · exact Touches.refl _ _

theorem State.dropPending_touches (s : State) (a1 : Nat) :
    Touches 0x8008 s (State.dropPending s a1) := by
  unfold State.dropPending
  refine Touches.foldl ?_ ?_
  · intro z0
    intro z1
    extract_lets x2 x3
    clear_value x3
    have h4 : Touches 0x8008 z0 x2 := by
      unfold x2
      refine Touches.step (State.setTxMode_touches _ _ _ _) (by decide) ?_
      exact Touches.refl _ _
    clear_value x2
    split
    · assumption
    · refine Touches.step (State.setFld_touches _ _ _ _) (by decide) ?_
      refine Touches.step (State.setFld_touches _ _ _ _) (by decide) ?_
      assumption
  · exact Touches.refl _ _

theorem State.enterTrain_touches (s : State) (a1 : Nat) :
    Touches 0x4008 s (State.enterTrain s a1) := by
  unfold State.enterTrain
  refine Touches.step (State.paintLanes_touches _ _) (by decide) ?_
  refine Touches.step (State.setPort_touches _ _ _) (by decide) ?_
  exact (State.setPortState_touches _ _ _).mono (by decide)

theorem State.enterDetect_touches (s : State) (a1 : Nat) :
    Touches 0xc008 s (State.enterDetect s a1) := by
  unfold State.enterDetect
  extract_lets x0 x1 x2
  clear_value x0
  have h3 : Touches 0xc008 s x1 := by
    unfold x1
    split
    · refine Touches.step (State.setPort_touches _ _ _) (by decide) ?_
      refine Touches.step (State.dropPending_touches _ _) (by decide) ?_
      exact Touches.refl _ _
    · exact Touches.refl _ _
  clear_value x1
  have h4 : Touches 0xc008 s x2 := by
    unfold x2
    refine Touches.step (State.paintLanes_touches _ _) (by decide) ?_
    refine Touches.step (State.setPort_touches _ _ _) (by decide) ?_
    refine Touches.step (State.setPortState_touches _ _ _) (by decide) ?_
    assumption
  clear_value x2
  split
  · refine Touches.step (State.enterTrain_touches _ _) (by decide) ?_
    assumption
  · assumption

theorem State.loseLink_touches (s : State) (a1 : Nat) :
    Touches 0x4bc6608 s (State.loseLink s a1) := by
  unfold State.loseLink
  refine Touches.step (State.portAbort_touches _ _) (by decide) ?_
  refine Touches.step (State.flushPort_touches _ _) (by decide) ?_
  exact (State.failArrivals_touches _ _).mono (by decide)

theorem State.enterDisabled_touches (s : State) (a1 : Nat) (a2 : Nat) :
    Touches 0x4bc6608 s (State.enterDisabled s a1 a2) := by
  unfold State.enterDisabled
  split
  · exact Touches.refl _ _
  · extract_lets x0 x1 x2
    clear_value x0
    have h3 : Touches 0x4bc6608 s x1 := by
      unfold x1
      refine Touches.step (State.setPort_touches _ _ _) (by decide) ?_
      exact (State.setPortState_touches _ _ _).mono (by decide)
    clear_value x1
    have h4 : Touches 0x4bc6608 s x2 := by
      unfold x2
      refine Touches.step (State.paintLanes_touches _ _) (by decide) ?_
      exact Touches.step (State.loseLink_touches _ _) (by decide) (by assumption)
    clear_value x2
    split
    · refine Touches.step (State.portEvent_touches _ _ _) (by decide) ?_
      exact Touches.step (State.portRecord_touches _ _ _) (by decide) (by assumption)
    · assumption

theorem State.enterDownHold_touches (s : State) (a1 : Nat) :
    Touches 0x4bc6608 s (State.enterDownHold s a1) := by
  unfold State.enterDownHold
  extract_lets x0 x1
  have h2 : Touches 0x4bc6608 s x0 := by
    unfold x0
    refine Touches.step (State.setPort_touches _ _ _) (by decide) ?_
    exact (State.setPortState_touches _ _ _).mono (by decide)
  clear_value x0
  have h3 : Touches 0x4bc6608 s x1 := by
    unfold x1
    refine Touches.step (State.count_touches _ _ _) (by decide) ?_
    refine Touches.step (State.paintLanes_touches _ _) (by decide) ?_
    exact Touches.step (State.loseLink_touches _ _) (by decide) (by assumption)
  clear_value x1
  refine Touches.step (State.portEvent_touches _ _ _) (by decide) ?_
  exact Touches.step (State.portRecord_touches _ _ _) (by decide) (by assumption)

theorem State.tellPeer_touches (s : State) (a1 : Nat) :
    Touches 0x4000000 s (State.tellPeer s a1) := by
  unfold State.tellPeer
  split
  · exact Touches.refl _ _
  · refine Touches.step (State.emit_touches _ _) (by decide) ?_
    exact Touches.refl _ _

theorem State.enterRetrain_touches (s : State) (a1 : Nat) (a2 : Bool) :
    Touches 0x4004008 s (State.enterRetrain s a1 a2) := by
  unfold State.enterRetrain
  extract_lets x0 x1 x2 x3
  clear_value x0
  have h4 : Touches 0x4004008 s x1 := by
    unfold x1
    refine Touches.step (State.setPortState_touches _ _ _) (by decide) ?_
    split
    · refine Touches.step (State.keepLink_touches _ _) (by decide) ?_
      exact Touches.refl _ _
    · exact Touches.refl _ _
  clear_value x1
  have h5 : Touches 0x4004008 s x2 := by
    unfold x2
    refine Touches.step (State.setPort_touches _ _ _) (by decide) ?_
    assumption
  clear_value x2
  have h6 : Touches 0x4004008 s x3 := by
    unfold x3
    split
    · refine Touches.step (State.tellPeer_touches _ _) (by decide) ?_
      assumption
    · assumption
  clear_value x3
  split
  · exact Touches.refl _ _
  · refine Touches.step (State.paintLanes_touches _ _) (by decide) ?_
    refine Touches.step (State.count_touches _ _ _) (by decide) ?_
    assumption

theorem State.enterResize_touches (s : State) (a1 : Nat) (a2 : Nat) (a3 : Bool) (a4 : Bool) :
    Touches 0x400c208 s (State.enterResize s a1 a2 a3 a4) := by
  unfold State.enterResize
  extract_lets x0 x1 x2 x3 x4 x5
  clear_value x0 x2
  have h6 : Touches 0x400c208 s x1 := by
    unfold x1
    refine Touches.step (State.setPortState_touches _ _ _) (by decide) ?_
    split
    · refine Touches.step (State.keepLink_touches _ _) (by decide) ?_
      exact Touches.refl _ _
    · exact Touches.refl _ _
  clear_value x1
  have h7 : Touches 0x400c208 s x3 := by
    unfold x3
    refine Touches.step (State.setPort_touches _ _ _) (by decide) ?_
    assumption
  clear_value x3
  have h8 : Touches 0x400c208 s x4 := by
    unfold x4
    split
    · refine Touches.step (State.relockPort_touches _ _) (by decide) ?_
      assumption
    · assumption
  clear_value x4
  have h9 : Touches 0x400c208 s x5 := by
    unfold x5
    refine Touches.step (State.paintLanes_touches _ _) (by decide) ?_
    split
    · refine Touches.step (State.tellPeer_touches _ _) (by decide) ?_
      assumption
    · assumption
  clear_value x5
  split
  · exact Touches.refl _ _
  · split
    · assumption
    · refine Touches.step (State.portRecord_touches _ _ _) (by decide) ?_
      assumption

theorem State.rateFall_touches (s : State) (a1 : Nat) :
    Touches 0x400c208 s (State.rateFall s a1) := by
  unfold State.rateFall
  split
  · exact Touches.refl _ _
  · refine Touches.step (State.enterResize_touches _ _ _ _ _) (by decide) ?_
    refine Touches.step (State.setPort_touches _ _ _) (by decide) ?_
    exact Touches.refl _ _

theorem State.dropGiven_touches (s : State) (a1 : Nat) :
    Touches 0x6000 s (State.dropGiven s a1) := by
  unfold State.dropGiven
  extract_lets x0 x1
  clear_value x0
  have h2 : Touches 0x6000 s x1 := by
    unfold x1
    refine Touches.foldl ?_ ?_
    · intro z3
      intro z4
      refine Touches.step (State.unreserve_touches _ _ _ _) (by decide) ?_
      exact Touches.refl _ _
    · exact Touches.refl _ _
  clear_value x1
  refine Touches.step (State.setPort_touches _ _ _) (by decide) ?_
  assumption

theorem State.failAttempt_touches (s : State) (a1 : Nat) (a2 : Bool) :
    Touches 0xe208 s (State.failAttempt s a1 a2) := by
  unfold State.failAttempt
  extract_lets x0 x1 x2 x3 x4 x5
  clear_value x0 x1 x2
  have h6 : Touches 0xe208 s x3 := by
    unfold x3
    refine Touches.step (State.setPort_touches _ _ _) (by decide) ?_
    refine Touches.step (State.dropGiven_touches _ _) (by decide) ?_
    exact Touches.refl _ _
  clear_value x3
  have h7 : Touches 0xe208 s x4 := by
    unfold x4
    split
    · refine Touches.step (State.relockPort_touches _ _) (by decide) ?_
      assumption
    · assumption
  clear_value x4
  have h8 : Touches 0xe208 s x5 := by
    unfold x5
    refine Touches.step (State.setPort_touches _ _ _) (by decide) ?_
    refine Touches.step (State.setPortState_touches _ _ _) (by decide) ?_
    assumption
  clear_value x5
  split
  · refine Touches.step (State.portRecord_touches _ _ _) (by decide) ?_
    refine Touches.step (State.paintLanes_touches _ _) (by decide) ?_
    assumption
  · refine Touches.step (State.paintLanes_touches _ _) (by decide) ?_
    refine Touches.step (State.setPort_touches _ _ _) (by decide) ?_
    refine Touches.step (State.setPortState_touches _ _ _) (by decide) ?_
    assumption

theorem State.enterUp_touches (s : State) (a1 : Nat) (a2 : Nat) (a3 : Bool) (a4 : Bool) :
    Touches 0x4a04618 s (State.enterUp s a1 a2 a3 a4) := by
  unfold State.enterUp
  extract_lets x0 x1 x2 x3 x4 x5 x6
  clear_value x0 x1
  have h7 : Touches 0x4a04618 s x2 := by
    unfold x2
    exact (State.setPortState_touches _ _ _).mono (by decide)
  clear_value x2
  have h8 : Touches 0x4a04618 s x3 := by
    unfold x3
    refine Touches.step (State.setFld_touches _ _ _ _) (by decide) ?_
    refine Touches.step (State.setFld_touches _ _ _ _) (by decide) ?_
    exact Touches.step (State.setFld_touches _ _ _ _) (by decide) (by assumption)
  clear_value x3
  have h9 : Touches 0x4a04618 s x4 := by
    unfold x4
    refine Touches.step (State.setFld_touches _ _ _ _) (by decide) ?_
    exact Touches.step (State.setFld_touches _ _ _ _) (by decide) (by assumption)
  clear_value x4
  have h10 : Touches 0x4a04618 s x5 := by
    unfold x5
    exact Touches.step (State.setPort_touches _ _ _) (by decide) (by assumption)
  clear_value x5
  have h11 : Touches 0x4a04618 s x6 := by
    unfold x6
    refine Touches.step (State.portEvent_touches _ _ _) (by decide) ?_
    refine Touches.step (State.portRecord_touches _ _ _) (by decide) ?_
    exact Touches.step (State.paintLanes_touches _ _) (by decide) (by assumption)
  clear_value x6
  exact Touches.step (State.resendAll_touches _ _) (by decide) (by assumption)

theorem State.resumeUp_touches (s : State) (a1 : Nat) :
    Touches 0x4a04618 s (State.resumeUp s a1) := by
  unfold State.resumeUp
  extract_lets x0 x1 x2
  clear_value x0 x1 x2
  split
  · exact Touches.refl _ _
  · refine Touches.step (State.enterUp_touches _ _ _ _ _) (by decide) ?_
    exact Touches.refl _ _

theorem State.refreshPort_touches (s : State) (a1 : Nat) :
    Touches 0x4bce608 s (State.refreshPort s a1) := by
  unfold State.refreshPort
  split
  · split
    · refine Touches.step (State.enterDetect_touches _ _) (by decide) ?_
      exact Touches.refl _ _
    · exact Touches.refl _ _
  · refine Touches.step (State.enterDisabled_touches _ _ _) (by decide) ?_
    exact Touches.refl _ _

theorem execLossOfSignal_touches (a0 : LaneLoss) (s : State) :
    TouchesX 0x4004008 s (execLossOfSignal a0 s) := by
  unfold execLossOfSignal
  extract_lets x0 x1 x2
  clear_value x0 x1
  have h3 : Touches 0x4004008 s x2 := by
    unfold x2
    refine Touches.foldl ?_ ?_
    · intro z4
      intro z5
      split
      · refine Touches.step (State.setFld_touches _ _ _ _) (by decide) ?_
        exact Touches.refl _ _
      · exact Touches.refl _ _
    · exact Touches.refl _ _
  clear_value x2
  refine TouchesX.next_ ?_
  split
  · assumption
  · refine Touches.step (State.enterRetrain_touches _ _ _) (by decide) ?_
    assumption

theorem execSignalDetect_touches (a0 : Port) (s : State) :
    TouchesX 0xc008 s (execSignalDetect a0 s) := by
  unfold execSignalDetect
  extract_lets x0 x1
  clear_value x0
  have h2 : Touches 0xc008 s x1 := by
    unfold x1
    refine Touches.foldl ?_ ?_
    · intro z3
      intro z4
      split
      · exact Touches.refl _ _
      · refine Touches.step (State.setFld_touches _ _ _ _) (by decide) ?_
        exact Touches.refl _ _
    · exact Touches.refl _ _
  clear_value x1
  refine TouchesX.next_ ?_
  split
  · assumption
  · split
    · refine Touches.step (State.enterTrain_touches _ _) (by decide) ?_
      assumption
    · split
      · refine Touches.step (State.enterDetect_touches _ _) (by decide) ?_
        assumption
      · assumption

theorem State.advertise_touches (s : State) (a1 : Nat) :
    Touches 0x6006008 s (State.advertise s a1) := by
  unfold State.advertise
  extract_lets x0
  have h1 : Touches 0x6006008 s x0 := by
    unfold x0
    refine Touches.foldl ?_ ?_
    · intro z2
      intro z3
      split
      · rename_i w4 w5 w6 w7
        have h8 : Touches 0x6006008 z2 w6 := by
          refine Touches2.of w7 ?_
          refine Touches2.step (State.free_touches _) (by decide) ?_
          exact Touches.refl _ _
        refine Touches.step (State.returnCredits_touches _ _ _ _) (by decide) ?_
        assumption
    · refine Touches.step (State.dropGiven_touches _ _) (by decide) ?_
      exact Touches.refl _ _
  clear_value x0
  refine Touches.step (State.setPort_touches _ _ _) (by decide) ?_
  assumption

theorem execTrainingComplete_touches (a0 : Port) (a1 : Bool) (s : State) :
    TouchesX 0x6a0e618 s (execTrainingComplete a0 a1 s) := by
  unfold execTrainingComplete
  extract_lets x0 x1 x2 x3 x4 x5 x6 x7
  clear_value x0 x1 x2 x3 x4 x5
  have h8 : Touches 0x6a0e618 s x6 := by
    unfold x6
    refine Touches.step (State.setPort_touches _ _ _) (by decide) ?_
    exact Touches.refl _ _
  clear_value x6
  have h9 : Touches 0x6a0e618 s x7 := by
    unfold x7
    refine Touches.step (State.paintLanes_touches _ _) (by decide) ?_
    refine Touches.step (State.setPort_touches _ _ _) (by decide) ?_
    refine Touches.step (State.setPortState_touches _ _ _) (by decide) ?_
    refine Touches.step (State.advertise_touches _ _) (by decide) ?_
    assumption
  clear_value x7
  split
  · split
    · split
      · refine TouchesX.next_ ?_
        refine Touches.step (State.enterUp_touches _ _ _ _ _) (by decide) ?_
        assumption
      · refine TouchesX.next_ ?_
        refine Touches.step (State.failAttempt_touches _ _ _) (by decide) ?_
        assumption
    · refine TouchesX.next_ ?_
      refine Touches.step (State.emit_touches _ _) (by decide) ?_
      assumption
  · split
    · refine TouchesX.next_ ?_
      split
      · refine Touches.step (State.rateFall_touches _ _) (by decide) ?_
        exact Touches.refl _ _
      · refine Touches.step (State.resumeUp_touches _ _) (by decide) ?_
        exact Touches.refl _ _
    · refine TouchesX.next_ ?_
      exact Touches.refl _ _

theorem execWarmTrainingTimeout_touches (a0 : Port) (s : State) :
    TouchesX 0x4000 s (execWarmTrainingTimeout a0 s) := by
  unfold execWarmTrainingTimeout
  extract_lets x0
  clear_value x0
  split
  · refine TouchesX.next_ ?_
    exact (State.setPort_touches _ _ _).mono (by decide)
  · refine TouchesX.next_ ?_
    exact Touches.refl _ _

theorem execColdTrainingTimeout_touches (a0 : Port) (s : State) :
    TouchesX 0x400e208 s (execColdTrainingTimeout a0 s) := by
  unfold execColdTrainingTimeout
  extract_lets x0 x1 x2
  clear_value x0 x1 x2
  split
  · refine TouchesX.next_ ?_
    exact Touches.refl _ _
  · split
    · refine TouchesX.next_ ?_
      refine Touches.step (State.failAttempt_touches _ _ _) (by decide) ?_
      exact Touches.refl _ _
    · split
      · refine TouchesX.next_ ?_
        refine Touches.step (State.rateFall_touches _ _) (by decide) ?_
        exact Touches.refl _ _
      · refine TouchesX.next_ ?_
        exact Touches.refl _ _

theorem execTrainingBackoffExpiry_touches (a0 : Port) (s : State) :
    TouchesX 0x4008 s (execTrainingBackoffExpiry a0 s) := by
  unfold execTrainingBackoffExpiry
  extract_lets x0
  clear_value x0
  split
  · refine TouchesX.next_ ?_
    refine Touches.step (State.enterTrain_touches _ _) (by decide) ?_
    exact Touches.refl _ _
  · refine TouchesX.next_ ?_
    exact Touches.refl _ _

theorem execCapabilityWord_touches (a0 : Port) (a1 : CapHeard) (s : State) :
    TouchesX 0x4a0e618 s (execCapabilityWord a0 a1 s) := by
  unfold execCapabilityWord
  extract_lets x0 xw x1 x2 x3 x4 x5
  clear_value x0 xw x1 x2 x3 x4
  have h6 : Touches 0x4a0e618 s x5 := by
    unfold x5
    refine Touches.step (State.setPort_touches _ _ _) (by decide) ?_
    exact Touches.refl _ _
  clear_value x5
  split
  · refine TouchesX.next_ ?_
    exact Touches.refl _ _
  · split
    · refine TouchesX.next_ ?_
      refine Touches.step (State.failAttempt_touches _ _ _) (by decide) ?_
      exact Touches.refl _ _
    · refine TouchesX.next_ ?_
      refine Touches.step (State.enterUp_touches _ _ _ _ _) (by decide) ?_
      assumption

theorem execCapabilityResendTimeout_touches (a0 : Port) (s : State) :
    TouchesX 0x400e208 s (execCapabilityResendTimeout a0 s) := by
  unfold execCapabilityResendTimeout
  extract_lets x0
  clear_value x0
  split
  · refine TouchesX.next_ ?_
    exact Touches.refl _ _
  · split
    · refine TouchesX.next_ ?_
      refine Touches.step (State.failAttempt_touches _ _ _) (by decide) ?_
      exact Touches.refl _ _
    · refine TouchesX.next_ ?_
      refine Touches.step (State.emit_touches _ _) (by decide) ?_
      refine Touches.step (State.setPort_touches _ _ _) (by decide) ?_
      exact Touches.refl _ _

theorem State.retrainWithFec_touches (s : State) (a1 : Nat) :
    Touches 0x4004008 s (State.retrainWithFec s a1) := by
  unfold State.retrainWithFec
  refine Touches.step (State.setPort_touches _ _ _) (by decide) ?_
  refine Touches.step (State.enterRetrain_touches _ _ _) (by decide) ?_
  exact Touches.refl _ _

theorem State.countCodewords_touches (s : State) (a1 : Nat) (a2 : FrameErr) (a3 : List (Fin 8 × Nat)) :
    Touches 0x4004008 s (State.countCodewords s a1 a2 a3) := by
  unfold State.countCodewords
  extract_lets x0 x1 x2
  clear_value x0 x2
  have h3 : Touches 0x4004008 s x1 := by
    unfold x1
    refine Touches.foldl ?_ ?_
    · intro z4
      intro z5
      refine Touches.step (State.countBy_touches _ _ _ _) (by decide) ?_
      exact Touches.refl _ _
    · exact Touches.refl _ _
  clear_value x1
  split
  · exact Touches.refl _ _
  · split
    · extract_lets x6
      have h7 : Touches 0x4004008 s x6 := by
        unfold x6
        refine Touches.step (State.setPort_touches _ _ _) (by decide) ?_
        refine Touches.step (State.count_touches _ _ _) (by decide) ?_
        assumption
      clear_value x6
      split
      · refine Touches.step (State.enterRetrain_touches _ _ _) (by decide) ?_
        assumption
      · assumption
    · assumption

theorem execLinkFrameReceive_touches (a0 : Port) (a1 : Nat) (a2 : FrameCheck) (s : State) :
    TouchesX 0x4004008 s (execLinkFrameReceive a0 a1 a2 s) := by
  unfold execLinkFrameReceive
  extract_lets x0 x1 x2 x3 x4
  clear_value x0 x1 x2 x3
  have h5 : Touches 0x4004008 s x4 := by
    unfold x4
    split
    · split
      · refine Touches.step (State.emit_touches _ _) (by decide) ?_
        refine Touches.step (State.setPort_touches _ _ _) (by decide) ?_
        exact Touches.refl _ _
      · split
        · refine Touches.step (State.emit_touches _ _) (by decide) ?_
          exact Touches.refl _ _
        · refine Touches.step (State.emit_touches _ _) (by decide) ?_
          exact Touches.refl _ _
    · refine Touches.step (State.emit_touches _ _) (by decide) ?_
      exact Touches.refl _ _
  clear_value x4
  split
  · refine TouchesX.next_ ?_
    exact Touches.refl _ _
  · split
    · refine TouchesX.next_ ?_
      refine Touches.step (State.countCodewords_touches _ _ _ _) (by decide) ?_
      exact Touches.refl _ _
    · refine TouchesX.next_ ?_
      refine Touches.step (State.countCodewords_touches _ _ _ _) (by decide) ?_
      assumption

theorem execAckReceive_touches (a0 : Port) (a1 : Nat) (s : State) :
    TouchesX 0x6000 s (execAckReceive a0 a1 s) := by
  unfold execAckReceive
  extract_lets x0 x1
  clear_value x0 x1
  split
  · refine TouchesX.next_ ?_
    exact Touches.refl _ _
  · split
    · refine TouchesX.next_ ?_
      exact Touches.refl _ _
    · extract_lets x2
      have h3 : Touches 0x6000 s x2 := by
        unfold x2
        exact (State.releaseSent_touches _ _).mono (by decide)
      clear_value x2
      refine TouchesX.next_ ?_
      exact Touches.step (State.setPort_touches _ _ _) (by decide) (by assumption)

theorem execNakReceive_touches (a0 : Port) (a1 : Nat) (s : State) :
    TouchesX 0x4006018 s (execNakReceive a0 a1 s) := by
  unfold execNakReceive
  extract_lets x0 x1 x2 x3 x4
  clear_value x0 x1 x2 x3 x4
  split
  · refine TouchesX.next_ ?_
    exact Touches.refl _ _
  · split
    · refine TouchesX.next_ ?_
      exact Touches.refl _ _
    · extract_lets x5 x6 x7 x8
      clear_value x5
      have h9 : Touches 0x4006018 s x6 := by
        unfold x6
        refine Touches.step (State.releaseSent_touches _ _) (by decide) ?_
        exact Touches.refl _ _
      clear_value x6
      have h10 : Touches 0x4006018 s x7 := by
        unfold x7
        refine Touches.step (State.setPort_touches _ _ _) (by decide) ?_
        assumption
      clear_value x7
      have h11 : Touches 0x4006018 s x8 := by
        unfold x8
        refine Touches.step (State.count_touches _ _ _) (by decide) ?_
        assumption
      clear_value x8
      split
      · refine TouchesX.next_ ?_
        refine Touches.step (State.retrainWithFec_touches _ _) (by decide) ?_
        assumption
      · split
        · refine TouchesX.next_ ?_
          refine Touches.step (State.enterRetrain_touches _ _ _) (by decide) ?_
          assumption
        · refine TouchesX.next_ ?_
          refine Touches.step (State.resendAll_touches _ _) (by decide) ?_
          assumption

theorem execCreditReturn_touches (a0 : Port) (a1 : Tc) (a2 : Nat) (s : State) :
    TouchesX 0x4000 s (execCreditReturn a0 a1 a2 s) := by
  unfold execCreditReturn
  split
  · refine TouchesX.next_ ?_
    exact Touches.refl _ _
  · refine TouchesX.next_ ?_
    exact (State.setPort_touches _ _ _).mono (by decide)

theorem execRetrainLimitExpiry_touches (a0 : Port) (s : State) :
    TouchesX 0x4bc6608 s (execRetrainLimitExpiry a0 s) := by
  unfold execRetrainLimitExpiry
  split
  · refine TouchesX.next_ ?_
    exact (State.enterDownHold_touches _ _).mono (by decide)
  · refine TouchesX.next_ ?_
    exact Touches.refl _ _

theorem execPcsAlignmentLoss_touches (a0 : Port) (a1 : Nat) (s : State) :
    TouchesX 0x4bc6608 s (execPcsAlignmentLoss a0 a1 s) := by
  unfold execPcsAlignmentLoss
  split
  · refine TouchesX.next_ ?_
    exact (State.enterDownHold_touches _ _).mono (by decide)
  · refine TouchesX.next_ ?_
    exact Touches.refl _ _

theorem execHolddownExpiry_touches (a0 : Port) (s : State) :
    TouchesX 0xc008 s (execHolddownExpiry a0 s) := by
  unfold execHolddownExpiry
  extract_lets x0 x1
  clear_value x0
  have h2 : Touches 0xc008 s x1 := by
    unfold x1
    refine Touches.step (State.setPort_touches _ _ _) (by decide) ?_
    exact Touches.refl _ _
  clear_value x1
  split
  · refine TouchesX.next_ ?_
    exact Touches.refl _ _
  · refine TouchesX.next_ ?_
    split
    · refine Touches.step (State.enterDetect_touches _ _) (by decide) ?_
      assumption
    · assumption

theorem execFaultRetryExpiry_touches (a0 : Port) (s : State) :
    TouchesX 0xc008 s (execFaultRetryExpiry a0 s) := by
  unfold execFaultRetryExpiry
  split
  · refine TouchesX.next_ ?_
    refine Touches.step (State.enterDetect_touches _ _) (by decide) ?_
    exact Touches.refl _ _
  · refine TouchesX.next_ ?_
    exact Touches.refl _ _

theorem execResizePauseEnd_touches (a0 : Port) (s : State) :
    TouchesX 0x4a04618 s (execResizePauseEnd a0 s) := by
  unfold execResizePauseEnd
  extract_lets x0
  clear_value x0
  split
  · refine TouchesX.next_ ?_
    refine Touches.step (State.resumeUp_touches _ _) (by decide) ?_
    exact Touches.refl _ _
  · refine TouchesX.next_ ?_
    exact Touches.refl _ _

theorem State.trainSpare_touches (s : State) (a1 : Nat) (a2 : Nat) (a3 : Nat) :
    Touches 0x18008 s (State.trainSpare s a1 a2 a3) := by
  unfold State.trainSpare
  extract_lets x0
  have h1 : Touches 0x18008 s x0 := by
    unfold x0
    split
    · exact Touches.refl _ _
    · refine Touches.step (State.startLock_touches _ _ _) (by decide) ?_
      exact Touches.refl _ _
  clear_value x0
  refine Touches.step (State.setLstate_touches _ _ _ _) (by decide) ?_
  refine Touches.step (State.setSpareJob_touches _ _ _ _) (by decide) ?_
  refine Touches.step (State.setFld_touches _ _ _ _) (by decide) ?_
  assumption

theorem State.autoSpare_touches (s : State) (a1 : Nat) (a2 : Nat) :
    Touches 0x18008 s (State.autoSpare s a1 a2) := by
  unfold State.autoSpare
  extract_lets x0
  clear_value x0
  split
  · exact Touches.refl _ _
  · split
    · refine Touches.step (State.trainSpare_touches _ _ _ _) (by decide) ?_
      exact Touches.refl _ _
    · exact Touches.refl _ _

theorem State.narrow_touches (s : State) (a1 : Nat) :
    Touches 0x4bce608 s (State.narrow s a1) := by
  unfold State.narrow
  extract_lets x0 x1 x2 x3
  clear_value x0 x1
  have h4 : Touches 0x4bce608 s x2 := by
    unfold x2
    split
    · refine Touches.step (State.setPort_touches _ _ _) (by decide) ?_
      exact Touches.refl _ _
    · exact Touches.refl _ _
  clear_value x2
  have h5 : Touches 0x4bce608 s x3 := by
    unfold x3
    refine Touches.step (State.setPort_touches _ _ _) (by decide) ?_
    exact Touches.refl _ _
  clear_value x3
  split
  · split
    · refine Touches.step (State.enterDownHold_touches _ _) (by decide) ?_
      exact Touches.refl _ _
    · exact Touches.refl _ _
  · split
    · refine Touches.step (State.enterRetrain_touches _ _ _) (by decide) ?_
      assumption
    · split
      · refine Touches.step (State.enterResize_touches _ _ _ _ _) (by decide) ?_
        exact Touches.refl _ _
      · split
        · refine Touches.step (State.enterResize_touches _ _ _ _ _) (by decide) ?_
          exact Touches.refl _ _
        · split
          · refine Touches.step (State.emit_touches _ _) (by decide) ?_
            assumption
          · exact Touches.refl _ _

theorem State.failLane_touches (s : State) (a1 : Nat) (a2 : Nat) :
    Touches 0x4bde608 s (State.failLane s a1 a2) := by
  unfold State.failLane
  split
  · exact Touches.refl _ _
  · extract_lets x0 x1 x2 x3
    clear_value x0
    have h4 : Touches 0x4bde608 s x1 := by
      unfold x1
      refine Touches.step (State.setFld_touches _ _ _ _) (by decide) ?_
      refine Touches.step (State.setLockTry_touches _ _ _ _) (by decide) ?_
      exact (State.setLstate_touches _ _ _ _).mono (by decide)
    clear_value x1
    have h5 : Touches 0x4bde608 s x2 := by
      unfold x2
      split
      · exact Touches.step (State.setFld_touches _ _ _ _) (by decide) (by assumption)
      · assumption
    clear_value x2
    have h6 : Touches 0x4bde608 s x3 := by
      unfold x3
      split
      · exact Touches.step (State.setFld_touches _ _ _ _) (by decide) (by assumption)
      · assumption
    clear_value x3
    split
    · assumption
    · extract_lets x7
      have h8 : Touches 0x4bde608 s x7 := by
        unfold x7
        split
        · exact Touches.step (State.setFld_touches _ _ _ _) (by decide) (by assumption)
        · assumption
      clear_value x7
      split
      · assumption
      · refine Touches.step (State.autoSpare_touches _ _ _) (by decide) ?_
        exact Touches.step (State.narrow_touches _ _) (by decide) (by assumption)

theorem execLaneFail_touches (a0 : PDie) (a1 : Lane) (a2 : LaneFailCause) (s : State) :
    TouchesX 0x4bde608 s (execLaneFail a0 a1 a2 s) := by
  unfold execLaneFail
  refine TouchesX.next_ ?_
  exact (State.failLane_touches _ _ _).mono (by decide)

theorem execPeerChangeRequest_touches (a0 : Port) (a1 : Nat) (a2 : LinkMode) (a3 : Nat) (s : State) :
    TouchesX 0x400c208 s (execPeerChangeRequest a0 a1 a2 a3 s) := by
  unfold execPeerChangeRequest
  extract_lets x0 x1 x2 x3 x4 x5 x6 x7 x8 x9 x10 x11
  clear_value x0 x1 x2 x3 x4 x5 x6 x7 x8 x9
  have h12 : ∀ z13, Touches 0x400c208 z13 (x10 z13) := by
    intro z13
    unfold x10
    beta_reduce
    split
    · refine Touches.step (State.setPort_touches _ _ _) (by decide) ?_
      exact Touches.refl _ _
    · exact Touches.refl _ _
  clear_value x10
  have h14 : Touches 0x400c208 s x11 := by
    unfold x11
    split
    · refine Touches.step (State.setPort_touches _ _ _) (by decide) ?_
      refine Touches.step (State.count_touches _ _ _) (by decide) ?_
      exact Touches.refl _ _
    · exact Touches.refl _ _
  clear_value x11
  split
  · refine TouchesX.next_ ?_
    exact Touches.refl _ _
  · split
    · refine TouchesX.next_ ?_
      refine Touches.step (h12 _) (by decide) ?_
      split
      · refine Touches.step (State.enterRetrain_touches _ _ _) (by decide) ?_
        exact Touches.refl _ _
      · refine Touches.step (State.enterResize_touches _ _ _ _ _) (by decide) ?_
        exact Touches.refl _ _
    · refine TouchesX.next_ ?_
      refine Touches.step (h12 _) (by decide) ?_
      split
      · assumption
      · refine Touches.step (State.enterResize_touches _ _ _ _ _) (by decide) ?_
        assumption

theorem execSpareTrainingDone_touches (a0 : PDie) (a1 : Bool) (a2 : Bool) (s : State) :
    TouchesX 0x401c208 s (execSpareTrainingDone a0 a1 a2 s) := by
  unfold execSpareTrainingDone
  extract_lets x0 x1 x2 x3 x4 x5 x6 x7 x8 x9 x10 x11 x12 x13
  clear_value x0 x1 x2 x3 x6 x7 x11
  have h14 : ∀ z15 z16, Touches 0x401c208 z15 (x4 z15 z16) := by
    intro z15 z16
    unfold x4
    beta_reduce
    split
    · exact Touches.refl _ _
    · extract_lets x17
      clear_value x17
      split
      · exact Touches.refl _ _
      · refine Touches.step (State.enterResize_touches _ _ _ _ _) (by decide) ?_
        exact Touches.refl _ _
  clear_value x4
  have h18 : Touches 0x401c208 s x5 := by
    unfold x5
    refine Touches.step (State.setSpareJob_touches _ _ _ _) (by decide) ?_
    exact Touches.refl _ _
  clear_value x5
  have h19 : Touches 0x401c208 s x8 := by
    unfold x8
    refine Touches.step (State.setFld_touches _ _ _ _) (by decide) ?_
    refine Touches.step (State.setFld_touches _ _ _ _) (by decide) ?_
    assumption
  clear_value x8
  have h20 : Touches 0x401c208 s x9 := by
    unfold x9
    refine Touches.step (State.setFld_touches _ _ _ _) (by decide) ?_
    refine Touches.step (State.setFld_touches _ _ _ _) (by decide) ?_
    assumption
  clear_value x9
  have h21 : Touches 0x401c208 s x10 := by
    unfold x10
    refine Touches.step (State.setLstate_touches _ _ _ _) (by decide) ?_
    refine Touches.step (State.setFld_touches _ _ _ _) (by decide) ?_
    assumption
  clear_value x10
  have h22 : Touches 0x401c208 s x12 := by
    unfold x12
    refine Touches.step (State.setFld_touches _ _ _ _) (by decide) ?_
    refine Touches.step (State.setFld_touches _ _ _ _) (by decide) ?_
    assumption
  clear_value x12
  have h23 : Touches 0x401c208 s x13 := by
    unfold x13
    refine Touches.step (State.setFld_touches _ _ _ _) (by decide) ?_
    refine Touches.step (State.setFld_touches _ _ _ _) (by decide) ?_
    assumption
  clear_value x13
  split
  · refine TouchesX.next_ ?_
    exact Touches.refl _ _
  · split
    · split
      · refine TouchesX.next_ ?_
        refine Touches.step (h14 _ _) (by decide) ?_
        refine Touches.step (State.setFld_touches _ _ _ _) (by decide) ?_
        refine Touches.step (State.setLstate_touches _ _ _ _) (by decide) ?_
        assumption
      · refine TouchesX.next_ ?_
        split
        · refine Touches.step (State.autoSpare_touches _ _ _) (by decide) ?_
          assumption
        · assumption
    · split
      · refine TouchesX.next_ ?_
        refine Touches.step (h14 _ _) (by decide) ?_
        refine Touches.step (State.setFld_touches _ _ _ _) (by decide) ?_
        refine Touches.step (State.setLstate_touches _ _ _ _) (by decide) ?_
        refine Touches.step (State.setLstate_touches _ _ _ _) (by decide) ?_
        assumption
      · refine TouchesX.next_ ?_
        refine Touches.step (State.setFld_touches _ _ _ _) (by decide) ?_
        refine Touches.step (State.setLstate_touches _ _ _ _) (by decide) ?_
        assumption

theorem State.laneAct_touches (s : State) (a1 : Nat) (a2 : Nat) (a3 : Nat) :
    Touches 0x8008 s (State.laneAct s a1 a2 a3) := by
  unfold State.laneAct
  extract_lets x0
  have h1 : Touches 0x8008 s x0 := by
    unfold x0
    refine Touches.step (State.setTxMode_touches _ _ _ _) (by decide) ?_
    exact Touches.refl _ _
  clear_value x0
  split
  · assumption
  · refine Touches.step (State.setLstate_touches _ _ _ _) (by decide) ?_
    assumption

theorem State.laneCmd_touches {m : Nat} (s : State) (a1 : Writer) (a2 a3 : Nat) (a4 : State → State) (hm : 0x8 ||| m = m)
    (h : ∀ s, Touches m s (a4 s)) : Touches m s (State.laneCmd s a1 a2 a3 a4) := by
  unfold State.laneCmd
  refine State.fenced_touches _ _ _ _ _ hm (fun s => ?_)
  split
  · exact (State.setFld_touches _ _ _ _).mono hm
  · exact h _

theorem State.txCmd_touches (s : State) (a1 : Writer) (a2 : Nat) (a3 : Nat) (a4 : Nat) :
    Touches 0x8008 s (State.txCmd s a1 a2 a3 a4) := by
  unfold State.txCmd
  refine Touches.step (State.laneCmd_touches (m := 0x8008) _ _ _ _ _ (by decide) ?_) (by decide) ?_
  · intro z0
    extract_lets x1 x2
    clear_value x1
    have h3 : Touches 0x8008 z0 x2 := by
      unfold x2
      split
      · exact Touches.refl _ _
      · refine Touches.step (State.setFld_touches _ _ _ _) (by decide) ?_
        exact Touches.refl _ _
    clear_value x2
    split
    · refine Touches.step (State.laneAct_touches _ _ _ _) (by decide) ?_
      exact Touches.refl _ _
    · refine Touches.step (State.setFld_touches _ _ _ _) (by decide) ?_
      assumption
  · exact Touches.refl _ _

theorem execTxEnable_touches (a0 : Writer) (a1 : PDie) (a2 : Lane) (s : State) :
    TouchesX 0x8008 s (execTxEnable a0 a1 a2 s) := by
  unfold execTxEnable
  refine TouchesX.next_ ?_
  refine Touches.step (State.txCmd_touches _ _ _ _ _) (by decide) ?_
  exact Touches.refl _ _

theorem execTxIdle_touches (a0 : Writer) (a1 : PDie) (a2 : Lane) (s : State) :
    TouchesX 0x8008 s (execTxIdle a0 a1 a2 s) := by
  unfold execTxIdle
  refine TouchesX.next_ ?_
  refine Touches.step (State.txCmd_touches _ _ _ _ _) (by decide) ?_
  exact Touches.refl _ _

theorem execPrbs31_touches (a0 : Writer) (a1 : PDie) (a2 : Lane) (s : State) :
    TouchesX 0x8008 s (execPrbs31 a0 a1 a2 s) := by
  unfold execPrbs31
  refine TouchesX.next_ ?_
  refine Touches.step (State.txCmd_touches _ _ _ _ _) (by decide) ?_
  exact Touches.refl _ _

theorem execRelock_touches (a0 : Writer) (a1 : PDie) (a2 : Lane) (s : State) :
    TouchesX 0x8008 s (execRelock a0 a1 a2 s) := by
  unfold execRelock
  refine TouchesX.next_ ?_
  refine Touches.step (State.laneCmd_touches (m := 0x8008) _ _ _ _ _ (by decide) ?_) (by decide) ?_
  · intro z0
    split
    · exact Touches.refl _ _
    · exact (State.startLock_touches _ _ _).mono (by decide)
  · exact Touches.refl _ _

theorem execSynthLock_touches (a0 : PDie) (a1 : Lane) (s : State) :
    TouchesX 0x8008 s (execSynthLock a0 a1 s) := by
  unfold execSynthLock
  extract_lets x0 x1 x2 x3 x4 x5
  clear_value x0 x1 x2 x5
  have h6 : Touches 0x8008 s x3 := by
    unfold x3
    refine Touches.step (State.setLockTry_touches _ _ _ _) (by decide) ?_
    refine Touches.step (State.setFld_touches _ _ _ _) (by decide) ?_
    exact Touches.refl _ _
  clear_value x3
  have h7 : Touches 0x8008 s x4 := by
    unfold x4
    split
    · refine Touches.step (State.setLstate_touches _ _ _ _) (by decide) ?_
      assumption
    · assumption
  clear_value x4
  split
  · refine TouchesX.next_ ?_
    exact Touches.refl _ _
  · split
    · refine TouchesX.next_ ?_
      refine Touches.step (State.setFld_touches _ _ _ _) (by decide) ?_
      refine Touches.step (State.laneAct_touches _ _ _ _) (by decide) ?_
      assumption
    · refine TouchesX.next_ ?_
      split
      · split
        · assumption
        · refine Touches.step (State.paintLanes_touches _ _) (by decide) ?_
          assumption
      · assumption

theorem execSynthLockTimeout_touches (a0 : PDie) (a1 : Lane) (s : State) :
    TouchesX 0x4bde608 s (execSynthLockTimeout a0 a1 s) := by
  unfold execSynthLockTimeout
  extract_lets x0 x1
  clear_value x0 x1
  split
  · refine TouchesX.next_ ?_
    exact Touches.refl _ _
  · split
    · refine TouchesX.next_ ?_
      exact (State.setLockTry_touches _ _ _ _).mono (by decide)
    · refine TouchesX.next_ ?_
      exact (State.failLane_touches _ _ _).mono (by decide)

theorem State.portCmd_touches {m : Nat} (s : State) (a1 : Writer) (a2 : Nat) (a3 : State → Bool) (a4 : State → State)
    (hm : 0x8 ||| m = m) (h : ∀ s, Touches m s (a4 s)) : Touches m s (State.portCmd s a1 a2 a3 a4) := by
  unfold State.portCmd
  refine State.fenced_touches _ _ _ _ _ hm (fun s => ?_)
  split
  · exact Touches.refl _ _
  · split
    · exact h _
    · exact (State.setFld_touches _ _ _ _).mono hm

theorem execRetrain_touches (a0 : Writer) (a1 : Port) (s : State) :
    TouchesX 0x4004008 s (execRetrain a0 a1 s) := by
  unfold execRetrain
  refine TouchesX.next_ ?_
  refine Touches.step (State.portCmd_touches (m := 0x4004008) _ _ _ _ _ (by decide) ?_) (by decide) ?_
  · intro z0
    refine Touches.step (State.setPort_touches _ _ _) (by decide) ?_
    refine Touches.step (State.enterRetrain_touches _ _ _) (by decide) ?_
    exact Touches.refl _ _
  · exact Touches.refl _ _

theorem execUprate_touches (a0 : Writer) (a1 : Port) (s : State) :
    TouchesX 0x400c208 s (execUprate a0 a1 s) := by
  unfold execUprate
  extract_lets x0
  clear_value x0
  refine TouchesX.next_ ?_
  refine Touches.step (State.portCmd_touches (m := 0x400c208) _ _ _ _ _ (by decide) ?_) (by decide) ?_
  · intro z1
    extract_lets x2
    have h3 : Touches 0x400c208 z1 x2 := by
      unfold x2
      refine Touches.step (State.setPort_touches _ _ _) (by decide) ?_
      exact Touches.refl _ _
    clear_value x2
    split
    · assumption
    · refine Touches.step (State.enterResize_touches _ _ _ _ _) (by decide) ?_
      assumption
  · exact Touches.refl _ _

theorem execRestoreWidth_touches (a0 : Writer) (a1 : Port) (s : State) :
    TouchesX 0x400c208 s (execRestoreWidth a0 a1 s) := by
  unfold execRestoreWidth
  extract_lets x0
  clear_value x0
  refine TouchesX.next_ ?_
  refine Touches.step (State.portCmd_touches (m := 0x400c208) _ _ _ _ _ (by decide) ?_) (by decide) ?_
  · intro z1
    split
    · exact Touches.refl _ _
    · refine Touches.step (State.enterResize_touches _ _ _ _ _) (by decide) ?_
      exact Touches.refl _ _
  · exact Touches.refl _ _

theorem execPortRestart_touches (a0 : Writer) (a1 : Port) (s : State) :
    TouchesX 0xc008 s (execPortRestart a0 a1 s) := by
  unfold execPortRestart
  refine TouchesX.next_ ?_
  refine Touches.step (State.portCmd_touches (m := 0xc008) _ _ _ _ _ (by decide) ?_) (by decide) ?_
  · intro z0
    refine Touches.step (State.enterDetect_touches _ _) (by decide) ?_
    exact Touches.refl _ _
  · exact Touches.refl _ _

theorem execAdminDownWrite_touches (a0 : Writer) (a1 : Port) (a2 : Bool) (s : State) :
    TouchesX 0x4bce608 s (execAdminDownWrite a0 a1 a2 s) := by
  unfold execAdminDownWrite
  extract_lets x0
  clear_value x0
  refine TouchesX.next_ ?_
  refine Touches.step (State.fenced_touches (m := 0x4bce608) _ _ _ _ _ (by decide) ?_) (by decide) ?_
  · intro z1
    split
    · exact Touches.refl _ _
    · refine Touches.step (State.refreshPort_touches _ _) (by decide) ?_
      refine Touches.step (State.setFld_touches _ _ _ _) (by decide) ?_
      exact Touches.refl _ _
  · exact Touches.refl _ _

theorem execTake_touches (a0 : Writer) (a1 : PDie) (a2 : Fin 32) (a3 : Bool) (s : State) :
    TouchesX 0x18008 s (execTake a0 a1 a2 a3 s) := by
  unfold execTake
  extract_lets x0 x1
  clear_value x0 x1
  refine TouchesX.next_ ?_
  refine Touches.step (State.fenced_touches (m := 0x18008) _ _ _ _ _ (by decide) ?_) (by decide) ?_
  · intro z2
    extract_lets x3
    clear_value x3
    split
    · refine Touches.step (State.trainSpare_touches _ _ _ _) (by decide) ?_
      exact Touches.refl _ _
    · refine Touches.step (State.setFld_touches _ _ _ _) (by decide) ?_
      exact Touches.refl _ _
  · exact Touches.refl _ _

theorem execSpareRelease_touches (a0 : Writer) (a1 : PDie) (a2 : Bool) (s : State) :
    TouchesX 0x10008 s (execSpareRelease a0 a1 a2 s) := by
  unfold execSpareRelease
  extract_lets x0 x1
  clear_value x0 x1
  refine TouchesX.next_ ?_
  refine Touches.step (State.fenced_touches (m := 0x10008) _ _ _ _ _ (by decide) ?_) (by decide) ?_
  · intro z2
    split
    · refine Touches.step (State.setLstate_touches _ _ _ _) (by decide) ?_
      exact (State.setSpareJob_touches _ _ _ _).mono (by decide)
    · exact (State.setFld_touches _ _ _ _).mono (by decide)
  · exact Touches.refl _ _

theorem State.resetQuad_touches (s : State) (a1 : Nat) (a2 : Nat) :
    Touches 0x4bce608 s (State.resetQuad s a1 a2) := by
  unfold State.resetQuad
  extract_lets x0 x1 x2 x3 x4
  clear_value x0 x3
  have h5 : Touches 0x4bce608 s x1 := by
    unfold x1
    refine Touches.foldl ?_ ?_
    · intro z6
      intro z7
      refine Touches.step (State.reclaimNow_touches _ _) (by decide) ?_
      refine Touches.step (State.enterDisabled_touches _ _ _) (by decide) ?_
      exact Touches.refl _ _
    · exact Touches.refl _ _
  clear_value x1
  have h8 : Touches 0x4bce608 s x2 := by
    unfold x2
    refine Touches.foldl ?_ ?_
    · intro z9
      intro z10
      refine Touches.step (State.refreshPort_touches _ _) (by decide) ?_
      exact Touches.refl _ _
    · assumption
  clear_value x2
  have h11 : Touches 0x4bce608 s x4 := by
    unfold x4
    refine Touches.step (Touches.set_err x2 _) (by decide) ?_
    assumption
  clear_value x4
  refine Touches.step (State.post_touches _ _) (by decide) ?_
  assumption

theorem execQuadEngineReset_touches (a0 : ResetCause) (a1 : PDie) (a2 : Fin 8) (s : State) :
    TouchesX 0x4bce608 s (execQuadEngineReset a0 a1 a2 s) := by
  unfold execQuadEngineReset
  extract_lets x0 x1
  clear_value x0 x1
  split
  · refine TouchesX.next_ ?_
    refine Touches.step (State.fenced_touches (m := 0x4bce608) _ _ _ _ _ (by decide) ?_) (by decide) ?_
    · intro z2
      refine Touches.step (State.resetQuad_touches _ _ _) (by decide) ?_
      exact Touches.refl _ _
    · exact Touches.refl _ _
  · split
    · refine TouchesX.next_ ?_
      refine Touches.step (State.resetQuad_touches _ _ _) (by decide) ?_
      exact Touches.refl _ _
    · refine TouchesX.next_ ?_
      exact Touches.refl _ _

end Sys2Proof.Machine
end

