-- ==== Sys2Proof/Laws/FrameEgress.lean ====
section
/-! SUPPORT. What each operation of Machine/Egress.lean can touch: its mask, memory's canonical form, the fuses' trust. -/

namespace Sys2Proof.Machine

theorem execGateEntryAdvance_touches (a0 : Port) (s : State) :
    TouchesX 0x8 s (execGateEntryAdvance a0 s) := by
  unfold execGateEntryAdvance
  extract_lets x0 x1 x2 x3
  clear_value x0 x1 x2 x3
  split
  · refine TouchesX.next_ ?_
    exact Touches.refl _ _
  · refine TouchesX.next_ ?_
    refine Touches.step (State.setFld_touches _ _ _ _) (by decide) ?_
    exact (State.setFld_touches _ _ _ _).mono (by decide)

theorem State.takeOut_touches (s : State) (a1 : Nat) (a2 : Nat) (a3 : Nat) :
    Touches 0x2000 s (State.takeOut s a1 a2 a3) := by
  unfold State.takeOut
  extract_lets x0
  clear_value x0
  split
  · exact (State.setReleased_touches _ _ _).mono (by decide)
  · exact (State.setQueue_touches _ _ _).mono (by decide)

theorem State.purgeHeads_touches (s : State) (a1 : Nat) (a2 : Nat) (a3 : Nat) :
    Touches 0x2008 s (State.purgeHeads s a1 a2 a3) := by
  induction a3 generalizing s with
  | zero => exact Touches.refl _ _
  | succ n ih =>
    unfold State.purgeHeads
    split
    · exact Touches.refl _ _
    · extract_lets x0 x1
      have h2 : Touches 0x2008 s x0 := by
        unfold x0
        exact (State.takeOut_touches _ _ _ _).mono (by decide)
      clear_value x0
      have h3 : Touches 0x2008 s x1 := by
        unfold x1
        split
        · exact Touches.step (State.dropAged_touches _ _ _) (by decide) (by assumption)
        · refine Touches.step (State.count_touches _ _ _) (by decide) ?_
          refine Touches.step (State.releasePkt_touches _ _) (by decide) ?_
          exact Touches.step (State.captureDrop_touches _ _ _ _ _) (by decide) (by assumption)
      clear_value x1
      exact Touches.step (ih _) (by decide) (by assumption)

theorem State.setDeficit_touches (s : State) (a1 : Nat) (a2 : Nat) (a3 : Nat) :
    Touches 0x4000 s (State.setDeficit s a1 a2 a3) := by
  unfold State.setDeficit
  exact (State.setPort_touches _ _ _).mono (by decide)

theorem State.drr_touches (s : State) (a1 : Nat) (a2 : Nat) :
    Touches2 0x6000 s (State.drr s a1 a2) := by
  unfold State.drr
  split
  · refine Touches2.mk ?_
    exact Touches.refl _ _
  · split
    · refine Touches2.mk ?_
      exact Touches.refl _ _
    · extract_lets x0 x1 x2 x3
      clear_value x0 x1
      have h4 : Touches 0x6000 s x2 := by
        unfold x2
        split
        · exact (State.setDeficit_touches _ _ _ _).mono (by decide)
        · split
          · exact (State.setDeficit_touches _ _ _ _).mono (by decide)
          · exact Touches.refl _ _
      clear_value x2
      have h5 : Touches 0x6000 s x3 := by
        unfold x3
        split
        · exact Touches.step (State.setPort_touches _ _ _) (by decide) (by assumption)
        · exact Touches.refl _ _
      clear_value x3
      split
      · split
        · extract_lets x6 x7
          have h8 : Touches 0x6000 s x6 := by
            unfold x6
            exact Touches.step (State.setDeficit_touches _ _ _ _) (by decide) (by assumption)
          clear_value x6 x7
          refine Touches2.mk ?_
          split
          · exact Touches.step (State.setDeficit_touches _ _ _ _) (by decide) (by assumption)
          · assumption
        · refine Touches2.step (State.drr_touches _ _ _) (by decide) ?_
          exact Touches.step (State.setPort_touches _ _ _) (by decide) (by assumption)
      · refine Touches2.step (State.drr_touches _ _ _) (by decide) ?_
        exact Touches.step (State.setPort_touches _ _ _) (by decide) (by assumption)

theorem State.pick_touches (s : State) (a1 : Nat) :
    Touches2 0x6000 s (State.pick s a1) := by
  unfold State.pick
  split
  · refine Touches2.mk ?_
    exact Touches.refl _ _
  · split
    · refine Touches2.mk ?_
      exact Touches.refl _ _
    · split
      · refine Touches2.mk ?_
        exact (State.setPort_touches _ _ _).mono (by decide)
      · exact Touches2.step (State.drr_touches _ _ _) (by decide) (Touches.refl _ _)

theorem State.startFrame_touches (s : State) (a1 : Nat) (a2 : Pkt) (a3 : Bool) :
    Touches2 0x4006000 s (State.startFrame s a1 a2 a3) := by
  unfold State.startFrame
  extract_lets x0 x1 x2
  clear_value x0
  have h3 : Touches 0x4006000 s x1 := by
    unfold x1
    refine Touches.step (State.takeOut_touches _ _ _ _) (by decide) ?_
    exact Touches.refl _ _
  clear_value x1
  have h4 : Touches 0x4006000 s x2 := by
    unfold x2
    refine Touches.step (State.setPort_touches _ _ _) (by decide) ?_
    assumption
  clear_value x2
  refine Touches2.mk ?_
  refine Touches.step (State.emit_touches _ _) (by decide) ?_
  assumption

theorem State.sendOn_touches (s : State) (a1 : Nat) :
    Touches 0x4004018 s (State.sendOn s a1) := by
  unfold State.sendOn
  split
  · exact Touches.refl _ _
  · extract_lets x0 x1
    have h2 : ∀ z3, Touches 0x4004018 z3 (x0 z3) := by
      intro z3
      unfold x0
      beta_reduce
      refine Touches.step (State.frameSent_touches _ _ _ _ _) (by decide) ?_
      refine Touches.step (State.setPort_touches _ _ _) (by decide) ?_
      exact Touches.refl _ _
    clear_value x0
    have h4 : Touches 0x4004018 s x1 := by
      unfold x1
      split
      · refine Touches.step (State.sendWireGrain_touches _ _ _ _ _) (by decide) ?_
        exact Touches.refl _ _
      · exact Touches.refl _ _
    clear_value x1
    split
    · refine Touches.step (h2 _) (by decide) ?_
      exact Touches.refl _ _
    · split
      · exact Touches.refl _ _
      · split
        · refine Touches.step (h2 _) (by decide) ?_
          assumption
        · refine Touches.step (State.setPort_touches _ _ _) (by decide) ?_
          assumption

theorem State.sendEthernet_touches (s : State) (a1 : Nat) (a2 : Pkt) (a3 : Option Nat) :
    Touches 0x4006018 s (State.sendEthernet s a1 a2 a3) := by
  unfold State.sendEthernet
  extract_lets x0 x1 x2 x3 x4
  clear_value x1 x3
  have h5 : Touches 0x4006018 s x0 := by
    unfold x0
    refine Touches.step (State.takeOut_touches _ _ _ _) (by decide) ?_
    exact Touches.refl _ _
  clear_value x0
  have h6 : Touches 0x4006018 s x2 := by
    unfold x2
    refine Touches.foldl ?_ ?_
    · intro z7
      intro z8
      refine Touches.step (State.useInput_touches _ _ _ _) (by decide) ?_
      exact Touches.refl _ _
    · assumption
  clear_value x2
  have h9 : Touches 0x4006018 s x4 := by
    unfold x4
    refine Touches.step (State.emit_touches _ _) (by decide) ?_
    assumption
  clear_value x4
  refine Touches.step (State.frameSent_touches _ _ _ _ _) (by decide) ?_
  refine Touches.step (State.unrefAll_touches _ _) (by decide) ?_
  assumption

theorem execEgressSchedule_touches (a0 : Port) (s : State) :
    TouchesX 0x4006018 s (execEgressSchedule a0 s) := by
  unfold execEgressSchedule
  extract_lets x0 x1
  clear_value x0
  have h2 : Touches 0x4006018 s x1 := by
    unfold x1
    refine Touches.foldl ?_ ?_
    · intro z3
      intro z4
      refine Touches.step (State.purgeHeads_touches _ _ _ _) (by decide) ?_
      exact Touches.refl _ _
    · exact Touches.refl _ _
  clear_value x1
  split
  · refine TouchesX.next_ ?_
    exact Touches.refl _ _
  · split
    · refine TouchesX.next_ ?_
      refine Touches.step (State.sendOn_touches _ _) (by decide) ?_
      exact Touches.refl _ _
    · split
      · rename_i w5 w6 w7 w8 w9
        have h10 : Touches 0x4006018 s w8 := by
          refine Touches2.of w9 ?_
          refine Touches2.step (State.pick_touches _ _) (by decide) ?_
          assumption
        refine TouchesX.next_ ?_
        assumption
      · rename_i w11 w12 w13 w14 w15 w16 w17
        have h18 : Touches 0x4006018 s w16 := by
          refine Touches2.of w17 ?_
          refine Touches2.step (State.pick_touches _ _) (by decide) ?_
          assumption
        split
        · refine TouchesX.next_ ?_
          refine Touches.step (State.sendEthernet_touches _ _ _ _) (by decide) ?_
          assumption
        · extract_lets x19
          clear_value x19
          split
          · rename_i w20 w21 w22 w23 w24
            have h25 : Touches 0x4006018 s w23 := by
              refine Touches2.of w24 ?_
              refine Touches2.step (State.startFrame_touches _ _ _ _) (by decide) ?_
              assumption
            refine TouchesX.next_ ?_
            refine Touches.step (State.sendOn_touches _ _) (by decide) ?_
            refine Touches.step (State.setPort_touches _ _ _) (by decide) ?_
            assumption

theorem State.insertTc7_touches (s : State) (a1 : Nat) (a2 : Nat) :
    Touches 0x4006018 s (State.insertTc7 s a1 a2) := by
  unfold State.insertTc7
  split
  · exact Touches.refl _ _
  · split
    · exact Touches.refl _ _
    · extract_lets x0
      clear_value x0
      split
      · rename_i w1 w2 w3 w4 w5 w6 w7 w8 w9 w10
        have h11 : Touches 0x4006018 s w9 := by
          refine Touches2.of w10 ?_
          refine Touches2.step (State.startFrame_touches _ _ _ _) (by decide) ?_
          exact Touches.refl _ _
        extract_lets x12
        have h13 : Touches 0x4006018 s x12 := by
          unfold x12
          refine Touches.step (State.setPort_touches _ _ _) (by decide) ?_
          assumption
        clear_value x12
        split
        · refine Touches.step (State.sendOn_touches _ _) (by decide) ?_
          refine Touches.step (State.setPort_touches _ _ _) (by decide) ?_
          assumption
        · refine Touches.step (State.insertTc7_touches _ _ _) (by decide) ?_
          refine Touches.foldl ?_ ?_
          · intro z14
            intro z15
            refine Touches.step (State.sendWireGrain_touches _ _ _ _ _) (by decide) ?_
            exact Touches.refl _ _
          · assumption

theorem execTc7Insertion_touches (a0 : Port) (s : State) :
    TouchesX 0x4006018 s (execTc7Insertion a0 s) := by
  unfold execTc7Insertion
  extract_lets x0 x1
  clear_value x0
  have h2 : Touches 0x4006018 s x1 := by
    unfold x1
    exact (State.purgeHeads_touches _ _ _ _).mono (by decide)
  clear_value x1
  split
  · refine TouchesX.next_ ?_
    exact Touches.refl _ _
  · split
    · refine TouchesX.next_ ?_
      exact Touches.refl _ _
    · refine TouchesX.next_ ?_
      exact Touches.step (State.insertTc7_touches _ _ _) (by decide) (by assumption)

theorem State.release_touches (s : State) (a1 : Nat) (a2 : Pkt) :
    Touches 0x2000 s (State.release s a1 a2) := by
  unfold State.release
  extract_lets x0
  clear_value x0
  exact (State.setReleased_touches _ _ _).mono (by decide)

theorem State.releaseHeld_touches (s : State) (a1 : Nat) (a2 : Pkt) :
    Touches 0x2008 s (State.releaseHeld s a1 a2) := by
  unfold State.releaseHeld
  split
  · exact (State.dropAged_touches _ _ _).mono (by decide)
  · exact (State.release_touches _ _ _).mono (by decide)

theorem State.setSlot_touches (s : State) (a1 : Nat) (a2 : Nat) (a3 : ReorderSlot) :
    Touches 0x4000 s (State.setSlot s a1 a2 a3) := by
  unfold State.setSlot
  exact (State.setPort_touches _ _ _).mono (by decide)

theorem State.drain_touches (s : State) (a1 : Nat) (a2 : Nat) (a3 : Nat) :
    Touches 0x6008 s (State.drain s a1 a2 a3) := by
  induction a3 generalizing s with
  | zero => exact Touches.refl _ _
  | succ n ih =>
    unfold State.drain
    split
    · exact Touches.refl _ _
    · split
      · exact Touches.refl _ _
      · extract_lets x0
        have h1 : Touches 0x6008 s x0 := by
          unfold x0
          exact (State.setSlot_touches _ _ _ _).mono (by decide)
        clear_value x0
        refine Touches.step (ih _) (by decide) ?_
        exact Touches.step (State.releaseHeld_touches _ _ _) (by decide) (by assumption)

theorem State.jump_touches (s : State) (a1 : Nat) (a2 : Nat) (a3 : Nat) :
    Touches 0x6008 s (State.jump s a1 a2 a3) := by
  unfold State.jump
  split
  · exact Touches.refl _ _
  · extract_lets x0 x1 x2 x3 x4 x5
    clear_value x0 x1 x2 x3 x4
    have h6 : Touches 0x6008 s x5 := by
      unfold x5
      exact (State.setSlot_touches _ _ _ _).mono (by decide)
    clear_value x5
    refine Touches.step (State.drain_touches _ _ _ _) (by decide) ?_
    refine Touches.foldl ?_ ?_
    · intro z7 z8
      exact (State.releaseHeld_touches _ _ _).mono (by decide)
    · assumption

theorem State.countReord_touches (s : State) (a1 : Nat) (a2 : Fld) :
    Touches 0x8 s (State.countReord s a1 a2) := by
  unfold State.countReord
  exact (State.count_touches _ _ _).mono (by decide)

theorem State.handleSlot_touches (s : State) (a1 : Nat) (a2 : Nat) (a3 : Pkt) (a4 : Nat) :
    Touches 0x6008 s (State.handleSlot s a1 a2 a3 a4) := by
  unfold State.handleSlot
  split
  · exact Touches.refl _ _
  · split
    · exact Touches.refl _ _
    · extract_lets x0 x1 x2 x3 x4 x5 x6
      clear_value x0 x1 x2 x3
      have h7 : ∀ y0, Touches 0x6008 y0 (x4 y0) := by
        intro y0
        unfold x4
        refine Touches.step (State.releasePkt_touches _ _) (by decide) ?_
        exact (State.dropCount_touches _ _ _ _ _).mono (by decide)
      clear_value x4 x5 x6
      split
      · refine Touches.step (State.drain_touches _ _ _ _) (by decide) ?_
        refine Touches.step (State.release_touches _ _ _) (by decide) ?_
        exact (State.setSlot_touches _ _ _ _).mono (by decide)
      · split
        · split
          · exact (h7 _).mono (by decide)
          · split
            · split
              · exact Touches.refl _ _
              · refine Touches.step (State.handleSlot_touches _ _ _ _ _) (by decide) ?_
                refine Touches.step (State.countReord_touches _ _ _) (by decide) ?_
                exact (State.jump_touches _ _ _ _).mono (by decide)
            · exact (State.setSlot_touches _ _ _ _).mono (by decide)
        · split
          · refine Touches.step (State.handleSlot_touches _ _ _ _ _) (by decide) ?_
            refine Touches.step (State.countReord_touches _ _ _) (by decide) ?_
            exact (State.jump_touches _ _ _ _).mono (by decide)
          · split
            · refine Touches.step (State.release_touches _ _ _) (by decide) ?_
              exact (State.setSlot_touches _ _ _ _).mono (by decide)
            · exact (h7 _).mono (by decide)

theorem execReorderArrival_touches (a0 : Port) (a1 : Fin 5) (s : State) :
    TouchesX 0x6008 s (execReorderArrival a0 a1 s) := by
  unfold execReorderArrival
  extract_lets x0 x1 x2
  clear_value x0 x1 x2
  split
  · refine TouchesX.next_ ?_
    exact Touches.refl _ _
  · split
    · refine TouchesX.next_ ?_
      exact Touches.refl _ _
    · split
      · refine TouchesX.next_ ?_
        exact Touches.refl _ _
      · extract_lets x3 x4 x5 x6 x7 x8
        have h9 : Touches 0x6008 s x3 := by
          unfold x3
          exact (State.setQueue_touches _ _ _).mono (by decide)
        clear_value x3 x4
        have h10 : Touches 0x6008 s x5 := by
          unfold x5
          exact Touches.step (State.setPort_touches _ _ _) (by decide) (by assumption)
        clear_value x5 x6 x7 x8
        split
        · refine TouchesX.next_ ?_
          exact Touches.step (State.dropAged_touches _ _ _) (by decide) (by assumption)
        · split
          · extract_lets x11
            have h12 : Touches 0x6008 s x11 := by
              unfold x11
              exact Touches.step (State.setPort_touches _ _ _) (by decide) (by assumption)
            clear_value x11
            refine TouchesX.next_ ?_
            refine Touches.step (State.showHeld_touches _ _) (by decide) ?_
            exact Touches.step (State.handleSlot_touches _ _ _ _ _) (by decide) (by assumption)
          · split
            · refine TouchesX.next_ ?_
              refine Touches.step (State.release_touches _ _ _) (by decide) ?_
              exact Touches.step (State.countReord_touches _ _ _) (by decide) (by assumption)
            · refine TouchesX.next_ ?_
              refine Touches.step (State.showHeld_touches _ _) (by decide) ?_
              refine Touches.step (State.handleSlot_touches _ _ _ _ _) (by decide) ?_
              exact Touches.step (State.setPort_touches _ _ _) (by decide) (by assumption)

theorem execReorderTimeout_touches (a0 : Port) (a1 : Nat) (s : State) :
    TouchesX 0x6008 s (execReorderTimeout a0 a1 s) := by
  unfold execReorderTimeout
  extract_lets x0 x1
  clear_value x0 x1
  split
  · refine TouchesX.next_ ?_
    exact Touches.refl _ _
  · extract_lets x2
    clear_value x2
    split
    · refine TouchesX.next_ ?_
      exact Touches.refl _ _
    · split
      · refine TouchesX.next_ ?_
        exact Touches.refl _ _
      · refine TouchesX.next_ ?_
        refine Touches.step (State.showHeld_touches _ _) (by decide) ?_
        refine Touches.step (State.jump_touches _ _ _ _) (by decide) ?_
        exact (State.countReord_touches _ _ _).mono (by decide)

theorem execReorderSlotFree_touches (a0 : Port) (a1 : Nat) (s : State) :
    TouchesX 0x4000 s (execReorderSlotFree a0 a1 s) := by
  unfold execReorderSlotFree
  extract_lets x0
  clear_value x0
  split
  · refine TouchesX.next_ ?_
    exact Touches.refl _ _
  · split
    · refine TouchesX.next_ ?_
      exact (State.setPort_touches _ _ _).mono (by decide)
    · refine TouchesX.next_ ?_
      exact Touches.refl _ _

end Sys2Proof.Machine
end

