-- ==== Sys2Proof/Laws/FrameBenchOps.lean ====
section
/-! SUPPORT. What each operation of Machine/BenchOps.lean can touch: its mask, memory's canonical form, the fuses' trust. -/

namespace Sys2Proof.Machine

theorem State.pinRank_touches (s : State) (a1 : Nat) (a2 : Nat) (a3 : Nat) :
    Touches 0x20008 s (State.pinRank s a1 a2 a3) := by
  unfold State.pinRank
  extract_lets x0 x1 x2
  clear_value x0 x1
  have h3 : Touches 0x20008 s x2 := by
    unfold x2
    exact (State.loadRank_touches _ _ _).mono (by decide)
  clear_value x2
  split
  · exact Touches.refl _ _
  · exact Touches.step (State.setFld_touches _ _ _ _) (by decide) (by assumption)

theorem State.xferApply_touches (s : State) (a1 : Nat) (a2 : Xfer) :
    Touches 0x5ea4008 s (State.xferApply s a1 a2) := by
  unfold State.xferApply
  split
  · split
    · exact (State.emit_touches _ _).mono (by decide)
    · exact Touches.refl _ _
  · split
    · exact (State.tierWrite_touches _ _ _ _).mono (by decide)
    · exact Touches.refl _ _
  · split
    · exact (State.setCtx_touches _ _ _).mono (by decide)
    · exact Touches.refl _ _
  · split
    · exact (Touches.set_head s _).mono (by decide)
    · exact Touches.refl _ _
  · split
    · exact (Touches.set_head s _).mono (by decide)
    · exact Touches.refl _ _
  · split
    · exact (State.setPort_touches _ _ _).mono (by decide)
    · exact Touches.refl _ _
  · split
    · exact (State.pinRank_touches _ _ _ _).mono (by decide)
    · exact Touches.refl _ _
  · exact Touches.refl _ _

theorem State.xferFence_touches (s : State) (a1 : Nat) (a2 : Xfer) :
    Touches 0x5ea4208 s (State.xferFence s a1 a2) := by
  unfold State.xferFence
  split
  · refine Touches.step (State.xferApply_touches _ _ _) (by decide) ?_
    exact Touches.refl _ _
  · refine Touches.step (State.fenceDrop_touches _ _ _) (by decide) ?_
    exact Touches.refl _ _

theorem State.pickWeighted_touches (s : State) (a1 : Nat) (a2 : List Xfer) :
    TouchesO2 0x10 s (State.pickWeighted s a1 a2) := by
  unfold State.pickWeighted
  extract_lets x0 x1 x2 x3
  clear_value x0 x1 x2 x3
  split
  · exact TouchesO2.none_
  · extract_lets x4 x5
    clear_value x4 x5
    split
    · exact TouchesO2.none_
    · refine TouchesO2.some_ ?_
      refine Touches.step (State.setDie_touches _ _ _) (by decide) ?_
      refine Touches.step (State.setDie_touches _ _ _) (by decide) ?_
      exact Touches.refl _ _

theorem State.crossBridge_touches (s : State) (a1 : Xfer) (a2 : Nat) (a3 : Hop) :
    Touches 0x18 s (State.crossBridge s a1 a2 a3) := by
  unfold State.crossBridge
  extract_lets x0 x1 x2 x3 x4 x5
  clear_value x0 x3 x4
  have h6 : Touches 0x18 s x1 := by
    unfold x1
    refine Touches.step (State.countBy_touches _ _ _ _) (by decide) ?_
    exact Touches.refl _ _
  clear_value x1
  have h7 : Touches 0x18 s x2 := by
    unfold x2
    split
    · refine Touches.step (State.raiseMax_touches _ _ _ _) (by decide) ?_
      assumption
    · assumption
  clear_value x2
  have h8 : Touches 0x18 s x5 := by
    unfold x5
    refine Touches.step (State.setDie_touches _ _ _) (by decide) ?_
    assumption
  clear_value x5
  split
  · assumption
  · split
    · assumption
    · refine Touches.step (State.count_touches _ _ _) (by decide) ?_
      assumption

theorem State.nextXfer_touches (s : State) (a1 : Nat) (a2 : List Xfer) :
    TouchesO2 0x10 s (State.nextXfer s a1 a2) := by
  unfold State.nextXfer
  split
  · refine TouchesO2.some_ ?_
    exact Touches.refl _ _
  · refine TouchesO2.step (State.pickWeighted_touches _ _ _) (by decide) ?_
    exact Touches.refl _ _

theorem State.serveXfers_touches (s : State) (a1 : Nat) (a2 : Nat) (a3 : List Xfer) :
    Touches 0x5ea4218 s (State.serveXfers s a1 a2 a3) := by
  unfold State.serveXfers
  split
  · exact Touches.refl _ _
  · split
    · rename_i w0 w1 w2 w3 w4
      exact Touches.refl _ _
    · rename_i w5 w6 w7 w8 w9 w10 w11
      have h12 : Touches 0x5ea4218 s w10 := by
        refine TouchesO2.of w11 ?_
        refine TouchesO2.step (State.nextXfer_touches _ _ _) (by decide) ?_
        exact Touches.refl _ _
      extract_lets x13
      clear_value x13
      refine Touches.step (State.serveXfers_touches _ _ _ _) (by decide) ?_
      refine Touches.step (State.xferFence_touches _ _ _) (by decide) ?_
      refine Touches.foldl ?_ ?_
      · intro z14
        intro z15
        refine Touches.step (State.crossBridge_touches _ _ _ _) (by decide) ?_
        exact Touches.refl _ _
      · assumption

theorem execSpindleTransferReceive_touches (a0 : Die) (a1 : List Xfer) (s : State) :
    TouchesX 0x5ea4218 s (execSpindleTransferReceive a0 a1 s) := by
  unfold execSpindleTransferReceive
  extract_lets x0
  have h1 : Touches 0x5ea4218 s x0 := by
    unfold x0
    refine Touches.foldl ?_ ?_
    · intro z2
      intro z3
      refine Touches.step (State.useInput_touches _ _ _ _) (by decide) ?_
      exact Touches.refl _ _
    · exact Touches.refl _ _
  clear_value x0
  refine TouchesX.next_ ?_
  refine Touches.step (State.serveXfers_touches _ _ _ _) (by decide) ?_
  assumption

theorem State.pmRefuse_touches (s : State) (a1 : Nat) (a2 : Nat) (a3 : Nat) (a4 : Nat) :
    Touches 0x8 s (State.pmRefuse s a1 a2 a3 a4) := by
  unfold State.pmRefuse
  extract_lets x0 x1 x2 x3 x4 x5
  clear_value x0
  have h6 : Touches 0x8 s x1 := by
    unfold x1
    split
    · exact (State.count_touches _ _ _).mono (by decide)
    · exact (State.count_touches _ _ _).mono (by decide)
    · exact (State.count_touches _ _ _).mono (by decide)
    · exact (State.count_touches _ _ _).mono (by decide)
    · exact (State.count_touches _ _ _).mono (by decide)
  clear_value x1 x2
  have h7 : Touches 0x8 s x3 := by
    unfold x3
    exact Touches.step (State.setFld_touches _ _ _ _) (by decide) (by assumption)
  clear_value x3
  have h8 : Touches 0x8 s x4 := by
    unfold x4
    exact Touches.step (State.setFld_touches _ _ _ _) (by decide) (by assumption)
  clear_value x4
  have h9 : Touches 0x8 s x5 := by
    unfold x5
    exact Touches.step (State.setFld_touches _ _ _ _) (by decide) (by assumption)
  clear_value x5
  exact Touches.step (State.setFld_touches _ _ _ _) (by decide) (by assumption)

theorem execGrainAlloc_touches (a0 : BDie) (a1 : Req) (a2 : Nat) (a3 : Nat) (s : State) :
    TouchesX 0x6008 s (execGrainAlloc a0 a1 a2 a3 s) := by
  unfold execGrainAlloc
  extract_lets x0 x1 x2
  clear_value x0 x2
  have h3 : ∀ z4, Touches 0x6008 z4 (x1 z4) := by
    intro z4
    unfold x1
    beta_reduce
    split
    · refine Touches.step (State.withBench_touches _ _) (by decide) ?_
      exact Touches.refl _ _
    · exact Touches.refl _ _
  clear_value x1
  split
  · refine TouchesX.next_ ?_
    refine Touches.step (State.pmRefuse_touches _ _ _ _ _) (by decide) ?_
    exact Touches.refl _ _
  · split
    · refine TouchesX.next_ ?_
      refine Touches.step (State.pmRefuse_touches _ _ _ _ _) (by decide) ?_
      exact Touches.refl _ _
    · split
      · refine TouchesX.next_ ?_
        refine Touches.step (h3 _) (by decide) ?_
        exact Touches.refl _ _
      · split
        · rename_i w5 w6 w7 w8 w9 w10 w11
          have h12 : Touches 0x6008 s w10 := by
            refine Touches2.of w11 ?_
            refine Touches2.step (State.admitAlloc_touches _ _ _) (by decide) ?_
            exact Touches.refl _ _
          split
          · refine TouchesX.next_ ?_
            refine Touches.step (h3 _) (by decide) ?_
            assumption
          · split
            · rename_i w13 w14 w15 w16 w17
              have h18 : Touches 0x6008 s w16 := by
                refine TouchesO2.of w17 ?_
                refine TouchesO2.step (State.allocN_touches _ _ _ _ _ _) (by decide) ?_
                assumption
              refine TouchesX.next_ ?_
              assumption
            · rename_i w19 w20 w21
              refine TouchesX.next_ ?_
              refine Touches.step (h3 _) (by decide) ?_
              assumption

theorem State.portForgets_touches (s : State) (a1 : Nat) (a2 : Nat) :
    Touches 0x6000 s (State.portForgets s a1 a2) := by
  unfold State.portForgets
  extract_lets x0 x1
  clear_value x0
  have h2 : Touches 0x6000 s x1 := by
    unfold x1
    refine Touches.foldl ?_ ?_
    · intro z3
      intro z4
      extract_lets x5
      clear_value x5
      refine Touches.step (State.setReleased_touches _ _ _) (by decide) ?_
      refine Touches.step (State.setQueue_touches _ _ _) (by decide) ?_
      exact Touches.refl _ _
    · exact Touches.refl _ _
  clear_value x1
  refine Touches.step (State.setPort_touches _ _ _) (by decide) ?_
  assumption

theorem State.releaseLinked_touches (s : State) (a1 : Nat) (a2 : Nat) :
    TouchesO 0x86000 s (State.releaseLinked s a1 a2) := by
  unfold State.releaseLinked
  split
  · split
    · refine TouchesO.some_ ?_
      refine Touches.step (State.unref_touches _ _) (by decide) ?_
      refine Touches.step (State.portForgets_touches _ _ _) (by decide) ?_
      exact Touches.refl _ _
    · exact TouchesO.none_
  · split
    · split
      · exact TouchesO.none_
      · refine TouchesO.some_ ?_
        refine Touches.step (State.unref_touches _ _) (by decide) ?_
        refine Touches.step (State.setColl_touches _ _ _) (by decide) ?_
        exact Touches.refl _ _
    · exact TouchesO.none_

theorem State.returnRefused_touches (s : State) (a1 : Nat) (a2 : Nat) (a3 : Nat) (a4 : Nat) (a5 : Nat) :
    Touches 0x208 s (State.returnRefused s a1 a2 a3 a4 a5) := by
  unfold State.returnRefused
  extract_lets x0 x1 x2 x3 x4 x5
  have h6 : Touches 0x208 s x0 := by
    unfold x0
    exact (State.pmRefuse_touches _ _ _ _ _).mono (by decide)
  clear_value x0 x1 x2
  have h7 : Touches 0x208 s x3 := by
    unfold x3
    exact Touches.step (State.raise_touches _ _) (by decide) (by assumption)
  clear_value x3 x4
  have h8 : Touches 0x208 s x5 := by
    unfold x5
    exact Touches.step (Touches.set_err x3 _) (by decide) (by assumption)
  clear_value x5
  split
  · assumption
  · split
    · exact Touches.step (State.escalate_touches _ _ _ _ _) (by decide) (by assumption)
    · assumption

theorem execGrainReturn_touches (a0 : BDie) (a1 : Req) (a2 : Nat) (a3 : Nat) (s : State) :
    TouchesX 0x86208 s (execGrainReturn a0 a1 a2 a3 s) := by
  unfold execGrainReturn
  extract_lets x0 x1 x2 x3 x4
  clear_value x0 x1 x2 x4
  have h5 : ∀ z6, TouchesX 0x86208 s (x3 z6) := by
    intro z6
    unfold x3
    beta_reduce
    refine TouchesX.next_ ?_
    refine Touches.step (State.returnRefused_touches _ _ _ _ _ _) (by decide) ?_
    exact Touches.refl _ _
  clear_value x3
  split
  · exact h5 _
  · split
    · exact h5 _
    · split
      · exact h5 _
      · split
        · exact h5 _
        · split
          · refine TouchesX.next_ ?_
            refine Touches.step (State.freeGrain_touches _ _) (by decide) ?_
            exact Touches.refl _ _
          · exact h5 _
        · split
          · rename_i w7 w8 w9 w10 w11 w12 w13 w14
            have h15 : Touches 0x86208 s w13 := by
              refine TouchesO.of w14 ?_
              refine TouchesO.step (State.releaseLinked_touches _ _ _) (by decide) ?_
              exact Touches.refl _ _
            refine TouchesX.next_ ?_
            assumption
          · rename_i w16 w17 w18 w19 w20 w21 w22
            exact h5 _

theorem State.sumPool_touches (s : State) (a1 : Nat) :
    Touches 0x4002008 s (State.sumPool s a1) := by
  unfold State.sumPool
  split
  · exact Touches.refl _ _
  · extract_lets x0 x1 x2 x3 x4 x5 x6
    clear_value x0 x1 x2 x3 x5
    have h7 : Touches 0x4002008 s x4 := by
      unfold x4
      refine Touches.step (State.withBench_touches _ _) (by decide) ?_
      exact Touches.refl _ _
    clear_value x4
    have h8 : Touches 0x4002008 s x6 := by
      unfold x6
      refine Touches.step (State.setFld_touches _ _ _ _) (by decide) ?_
      refine Touches.step (State.raiseMax_touches _ _ _ _) (by decide) ?_
      refine Touches.step (State.setFld_touches _ _ _ _) (by decide) ?_
      assumption
    clear_value x6
    split
    · assumption
    · refine Touches.step (State.emit_touches _ _) (by decide) ?_
      assumption

theorem State.grantEngines_touches (s : State) :
    Touches 0x6008 s (State.grantEngines s) := by
  unfold State.grantEngines
  refine Touches.foldl ?_ ?_
  · intro z0
    intro z1
    split
    · exact Touches.refl _ _
    · extract_lets x2
      clear_value x2
      split
      · rename_i w3 w4 w5 w6 w7
        have h8 : Touches 0x6008 z0 w6 := by
          refine Touches2.of w7 ?_
          refine Touches2.step (State.admitAlloc_touches _ _ _) (by decide) ?_
          exact Touches.refl _ _
        split
        · assumption
        · split
          · rename_i w9 w10 w11 w12 w13
            have h14 : Touches 0x6008 z0 w12 := by
              refine TouchesO2.of w13 ?_
              refine TouchesO2.step (State.allocN_touches _ _ _ _ _ _) (by decide) ?_
              assumption
            refine Touches.step (State.withBench_touches _ _) (by decide) ?_
            assumption
          · rename_i w15 w16 w17
            assumption
  · exact Touches.refl _ _

theorem State.askPause_touches (s : State) (a1 : Nat) :
    Touches 0x4004000 s (State.askPause s a1) := by
  unfold State.askPause
  split
  · exact Touches.refl _ _
  · extract_lets x0 x1 x2 x3
    clear_value x0 x1 x2 x3
    split
    · exact Touches.refl _ _
    · refine Touches.step (State.emit_touches _ _) (by decide) ?_
      refine Touches.step (State.setPort_touches _ _ _) (by decide) ?_
      exact Touches.refl _ _

theorem execPoolLevelSum_touches (s : State) :
    TouchesX 0x4006008 s (execPoolLevelSum s) := by
  unfold execPoolLevelSum
  extract_lets x0 x1 x2 x3
  clear_value x3
  have h4 : Touches 0x4006008 s x0 := by
    unfold x0
    refine Touches.foldl ?_ ?_
    · intro z5
      intro z6
      refine Touches.step (State.sumPool_touches _ _) (by decide) ?_
      exact Touches.refl _ _
    · exact Touches.refl _ _
  clear_value x0
  have h7 : Touches 0x4006008 s x1 := by
    unfold x1
    refine Touches.step (State.withBench_touches _ _) (by decide) ?_
    assumption
  clear_value x1
  have h8 : Touches 0x4006008 s x2 := by
    unfold x2
    refine Touches.foldl ?_ ?_
    · intro z9
      intro z10
      refine Touches.step (State.askPause_touches _ _) (by decide) ?_
      exact Touches.refl _ _
    · refine Touches.step (State.linkWaiting_touches _) (by decide) ?_
      assumption
  clear_value x2
  refine TouchesX.next_ ?_
  refine Touches.step (State.grantEngines_touches _) (by decide) ?_
  refine Touches.foldl ?_ ?_
  · intro z11
    intro z12
    refine Touches.step (State.tryCredits_touches _ _) (by decide) ?_
    exact Touches.refl _ _
  · assumption

theorem execReclaim_touches (a0 : Writer) (a1 : BDie) (a2 : Req) (s : State) :
    TouchesX 0x2008 s (execReclaim a0 a1 a2 s) := by
  unfold execReclaim
  extract_lets x0 x1
  clear_value x0 x1
  refine TouchesX.next_ ?_
  refine Touches.step (State.fenced_touches (m := 0x2008) _ _ _ _ _ (by decide) ?_) (by decide) ?_
  · intro z2
    split
    · exact Touches.refl _ _
    · split
      · exact (State.setFld_touches _ _ _ _).mono (by decide)
      · extract_lets x3 x4
        have h5 : Touches 0x2008 z2 x3 := by
          unfold x3
          exact (State.raiseEpoch_touches _ _).mono (by decide)
        clear_value x3
        have h6 : Touches 0x2008 z2 x4 := by
          unfold x4
          refine Touches.step (State.setFld_touches _ _ _ _) (by decide) ?_
          exact Touches.step (State.setFld_touches _ _ _ _) (by decide) (by assumption)
        clear_value x4
        exact Touches.step (State.setFld_touches _ _ _ _) (by decide) (by assumption)
  · exact Touches.refl _ _

theorem execReclaimComplete_touches (a0 : BDie) (a1 : Req) (s : State) :
    TouchesX 0x2008 s (execReclaimComplete a0 a1 s) := by
  unfold execReclaimComplete
  extract_lets x0
  clear_value x0
  split
  · split
    · rename_i w1 w2 w3 w4
      have h5 : Touches 0x2008 s w3 := by
        refine Touches2.of w4 ?_
        exact Touches2.step (State.reclaimHeld_touches _ _) (by decide) (Touches.refl _ _)
      refine TouchesX.next_ ?_
      refine Touches.step (State.setFld_touches _ _ _ _) (by decide) ?_
      exact Touches.step (State.setFld_touches _ _ _ _) (by decide) (by assumption)
  · refine TouchesX.next_ ?_
    exact Touches.refl _ _

theorem State.ageHeads_touches (s : State) (a1 : Nat) (a2 : List Pkt) :
    Touches2 0x2008 s (State.ageHeads s a1 a2) := by
  unfold State.ageHeads
  split
  · refine Touches2.mk ?_
    exact Touches.refl _ _
  · split
    · refine Touches2.step (State.ageHeads_touches _ _ _) (by decide) ?_
      exact (State.dropAged_touches _ _ _).mono (by decide)
    · refine Touches2.mk ?_
      exact Touches.refl _ _

theorem execRetrainAgeScan_touches (a0 : Port) (s : State) :
    TouchesX 0x2008 s (execRetrainAgeScan a0 s) := by
  unfold execRetrainAgeScan
  extract_lets x0
  clear_value x0
  split
  · refine TouchesX.next_ ?_
    exact Touches.refl _ _
  · refine TouchesX.next_ ?_
    refine Touches.foldl ?_ ?_
    · intro z1 z2
      extract_lets x3
      clear_value x3
      split
      · rename_i w4 w5 w6 w7
        have h8 : Touches 0x2008 z1 w6 := by
          refine Touches2.of w7 ?_
          exact Touches2.step (State.ageHeads_touches _ _ _) (by decide) (Touches.refl _ _)
        extract_lets x9
        have h10 : Touches 0x2008 z1 x9 := by
          unfold x9
          exact Touches.step (State.setReleased_touches _ _ _) (by decide) (by assumption)
        clear_value x9
        split
        · rename_i w11 w12 w13 w14
          have h15 : Touches 0x2008 z1 w13 := by
            refine Touches2.of w14 ?_
            exact Touches2.step (State.ageHeads_touches _ _ _) (by decide) (by assumption)
          exact Touches.step (State.setQueue_touches _ _ _) (by decide) (by assumption)
    · exact Touches.refl _ _

theorem State.spillPkt_touches (s : State) (a1 : Nat) (a2 : Nat) (a3 : Pkt) :
    TouchesO 0xa02000 s (State.spillPkt s a1 a2 a3) := by
  unfold State.spillPkt
  split
  · exact TouchesO.none_
  · extract_lets x0 x1 x2
    clear_value x0
    have h3 : Touches 0xa02000 s x1 := by
      unfold x1
      refine Touches.foldl ?_ ?_
      · intro z4
        intro z5
        split
        · refine Touches.step (State.nearWrite_touches _ _ _) (by decide) ?_
          exact Touches.refl _ _
        · exact Touches.refl _ _
      · exact Touches.refl _ _
    clear_value x1
    have h6 : Touches 0xa02000 s x2 := by
      unfold x2
      refine Touches.step (State.unrefAll_touches _ _) (by decide) ?_
      assumption
    clear_value x2
    refine TouchesO.some_ ?_
    refine Touches.step (State.setQueue_touches _ _ _) (by decide) ?_
    assumption

theorem State.spillList_touches (s : State) (a1 : Nat) (a2 : Nat) (a3 : List Pkt) :
    Touches 0xa02000 s (State.spillList s a1 a2 a3) := by
  unfold State.spillList
  split
  · exact Touches.refl _ _
  · split
    · rename_i w0 w1 w2 w3 w4 w5
      have h6 : Touches 0xa02000 s w4 := by
        refine TouchesO.of w5 ?_
        refine TouchesO.step (State.spillPkt_touches _ _ _ _) (by decide) ?_
        exact Touches.refl _ _
      refine Touches.step (State.spillList_touches _ _ _ _) (by decide) ?_
      assumption
    · rename_i w7 w8 w9 w10 w11
      exact Touches.refl _ _

theorem State.spillQueue_touches (s : State) (a1 : Nat) :
    Touches 0xa02000 s (State.spillQueue s a1) := by
  unfold State.spillQueue
  extract_lets x0 x1 x2
  clear_value x0 x1 x2
  split
  · exact Touches.refl _ _
  · split
    · exact Touches.refl _ _
    · refine Touches.step (State.spillList_touches _ _ _ _) (by decide) ?_
      exact Touches.refl _ _

theorem State.spillNote_touches (s : State) (a1 : Nat) (a2 : Nat) :
    TouchesO 0xa82000 s (State.spillNote s a1 a2) := by
  unfold State.spillNote
  extract_lets x0 x1
  clear_value x0 x1
  split
  · extract_lets x2 x3
    clear_value x2
    have h4 : Touches 0xa82000 s x3 := by
      unfold x3
      refine Touches.step (State.unref_touches _ _) (by decide) ?_
      refine Touches.step (State.nearWrite_touches _ _ _) (by decide) ?_
      exact Touches.refl _ _
    clear_value x3
    refine TouchesO.some_ ?_
    refine Touches.step (State.setColl_touches _ _ _) (by decide) ?_
    assumption
  · exact TouchesO.none_

theorem State.spillNotes_touches (s : State) (a1 : Nat) (a2 : Nat) (a3 : Nat) :
    Touches 0xa82000 s (State.spillNotes s a1 a2 a3) := by
  unfold State.spillNotes
  split
  · exact Touches.refl _ _
  · split
    · rename_i w0 w1 w2 w3 w4
      have h5 : Touches 0xa82000 s w3 := by
        refine TouchesO.of w4 ?_
        refine TouchesO.step (State.spillNote_touches _ _ _) (by decide) ?_
        exact Touches.refl _ _
      refine Touches.step (State.spillNotes_touches _ _ _ _) (by decide) ?_
      assumption
    · rename_i w6 w7 w8 w9
      exact Touches.refl _ _

theorem State.spillCtx_touches (s : State) (a1 : Nat) :
    Touches 0xa82000 s (State.spillCtx s a1) := by
  unfold State.spillCtx
  extract_lets x0 x1
  clear_value x0 x1
  split
  · exact Touches.refl _ _
  · refine Touches.step (State.spillNotes_touches _ _ _ _) (by decide) ?_
    exact Touches.refl _ _

theorem execSpillWrite_touches (a0 : SpillOf) (s : State) :
    TouchesX 0xa82000 s (execSpillWrite a0 s) := by
  unfold execSpillWrite
  split
  · refine TouchesX.next_ ?_
    refine Touches.step (State.spillQueue_touches _ _) (by decide) ?_
    exact Touches.refl _ _
  · refine TouchesX.next_ ?_
    refine Touches.step (State.spillCtx_touches _ _) (by decide) ?_
    exact Touches.refl _ _

theorem State.spillRead_touches (s : State) (a1 : Nat) (a2 : Nat) :
    Touches 0x2000 s (State.spillRead s a1 a2) := by
  unfold State.spillRead
  extract_lets x0 x1
  clear_value x0 x1
  refine Touches.step (State.setGrain_touches _ _ _) (by decide) ?_
  exact Touches.refl _ _

theorem State.readBack_touches (s : State) (a1 : Nat) (a2 : Nat) (a3 : Pkt) (a4 : Nat) :
    TouchesO 0x6008 s (State.readBack s a1 a2 a3 a4) := by
  unfold State.readBack
  split
  · refine TouchesO.some_ ?_
    refine Touches.step (State.dropAged_touches _ _ _) (by decide) ?_
    refine Touches.step (State.setQueue_touches _ _ _) (by decide) ?_
    exact Touches.refl _ _
  · extract_lets x0 x1 x2
    clear_value x0 x1 x2
    split
    · exact TouchesO.none_
    · split
      · rename_i w3 w4 w5 w6 w7 w8
        have h9 : Touches 0x6008 s w7 := by
          refine Touches2.of w8 ?_
          refine Touches2.step (State.admitAlloc_touches _ _ _) (by decide) ?_
          exact Touches.refl _ _
        split
        · exact TouchesO.none_
        · split
          · rename_i w10 w11 w12
            exact TouchesO.none_
          · rename_i w13 w14 w15 w16 w17
            have h18 : Touches 0x6008 s w16 := by
              refine TouchesO2.of w17 ?_
              refine TouchesO2.step (State.allocN_touches _ _ _ _ _ _) (by decide) ?_
              assumption
            extract_lets x19 x20
            clear_value x19
            have h21 : Touches 0x6008 s x20 := by
              unfold x20
              refine Touches.foldl ?_ ?_
              · intro z22
                intro z23
                split
                · refine Touches.step (State.spillRead_touches _ _ _) (by decide) ?_
                  exact Touches.refl _ _
                · exact Touches.refl _ _
              · assumption
            clear_value x20
            refine TouchesO.some_ ?_
            refine Touches.step (State.setQueue_touches _ _ _) (by decide) ?_
            assumption

theorem State.readBackAll_touches (s : State) (a1 : Nat) (a2 : Nat) (a3 : Nat) (a4 : Nat) :
    Touches 0x6008 s (State.readBackAll s a1 a2 a3 a4) := by
  unfold State.readBackAll
  split
  · exact Touches.refl _ _
  · split
    · exact Touches.refl _ _
    · split
      · exact Touches.refl _ _
      · split
        · rename_i w0 w1 w2 w3 w4 w5 w6 w7 w8
          have h9 : Touches 0x6008 s w7 := by
            refine TouchesO.of w8 ?_
            refine TouchesO.step (State.readBack_touches _ _ _ _ _) (by decide) ?_
            exact Touches.refl _ _
          refine Touches.step (State.readBackAll_touches _ _ _ _ _) (by decide) ?_
          assumption
        · rename_i w10 w11 w12 w13 w14 w15 w16 w17
          exact Touches.refl _ _

theorem State.readQueue_touches (s : State) (a1 : Nat) :
    Touches 0x6008 s (State.readQueue s a1) := by
  unfold State.readQueue
  extract_lets x0 x1
  clear_value x0 x1
  split
  · exact Touches.refl _ _
  · split
    · exact Touches.refl _ _
    · refine Touches.step (State.readBackAll_touches _ _ _ _ _) (by decide) ?_
      exact Touches.refl _ _

theorem State.readNote_touches (s : State) (a1 : Nat) (a2 : Nat) :
    TouchesO 0x86008 s (State.readNote s a1 a2) := by
  unfold State.readNote
  extract_lets x0 x1 x2
  clear_value x0 x1 x2
  split
  · exact TouchesO.none_
  · split
    · exact TouchesO.none_
    · split
      · rename_i w3 w4 w5 w6 w7 w8 w9 w10
        have h11 : Touches 0x86008 s w9 := by
          refine Touches2.of w10 ?_
          refine Touches2.step (State.admitAlloc_touches _ _ _) (by decide) ?_
          exact Touches.refl _ _
        split
        · exact TouchesO.none_
        · split
          · rename_i w12 w13 w14
            exact TouchesO.none_
          · rename_i w15 w16 w17 w18 w19
            have h20 : Touches 0x86008 s w18 := by
              refine TouchesO2.of w19 ?_
              refine TouchesO2.step (State.allocOne_touches _ _ _ _ _) (by decide) ?_
              assumption
            extract_lets x21
            have h22 : Touches 0x86008 s x21 := by
              unfold x21
              refine Touches.step (State.spillRead_touches _ _ _) (by decide) ?_
              assumption
            clear_value x21
            refine TouchesO.some_ ?_
            refine Touches.step (State.setColl_touches _ _ _) (by decide) ?_
            assumption

theorem State.readNotes_touches (s : State) (a1 : Nat) (a2 : Nat) (a3 : Nat) :
    Touches 0x86008 s (State.readNotes s a1 a2 a3) := by
  unfold State.readNotes
  split
  · exact Touches.refl _ _
  · split
    · rename_i w0 w1 w2 w3 w4
      have h5 : Touches 0x86008 s w3 := by
        refine TouchesO.of w4 ?_
        refine TouchesO.step (State.readNote_touches _ _ _) (by decide) ?_
        exact Touches.refl _ _
      refine Touches.step (State.readNotes_touches _ _ _ _) (by decide) ?_
      assumption
    · rename_i w6 w7 w8 w9
      exact Touches.refl _ _

theorem State.readCtx_touches (s : State) (a1 : Nat) :
    Touches 0x86008 s (State.readCtx s a1) := by
  unfold State.readCtx
  extract_lets x0 x1
  clear_value x0 x1
  split
  · exact Touches.refl _ _
  · refine Touches.step (State.readNotes_touches _ _ _ _) (by decide) ?_
    exact Touches.refl _ _

theorem execSpillReadback_touches (a0 : SpillOf) (s : State) :
    TouchesX 0x86008 s (execSpillReadback a0 s) := by
  unfold execSpillReadback
  split
  · refine TouchesX.next_ ?_
    refine Touches.step (State.readQueue_touches _ _) (by decide) ?_
    exact Touches.refl _ _
  · refine TouchesX.next_ ?_
    refine Touches.step (State.readCtx_touches _ _) (by decide) ?_
    exact Touches.refl _ _

theorem execArchiveSegmentCopy_touches (a0 : BDie) (s : State) :
    TouchesX 0x1402000 s (execArchiveSegmentCopy a0 s) := by
  unfold execArchiveSegmentCopy
  extract_lets x0 x1 x2 x3 x4 x5 x6
  clear_value x0 x1 x2 x3 x4 x5
  have h7 : Touches 0x1402000 s x6 := by
    unfold x6
    refine Touches.foldl ?_ ?_
    · intro z8 z9
      split
      · exact (State.farWrite_touches _ _ _).mono (by decide)
      · exact Touches.refl _ _
    · exact Touches.refl _ _
  clear_value x6
  split
  · refine TouchesX.next_ ?_
    exact Touches.refl _ _
  · refine TouchesX.next_ ?_
    exact Touches.step (State.withBench_touches _ _) (by decide) (by assumption)

theorem execPolicerProfileWrite_touches (a0 : Writer) (a1 : PDie) (a2 : Fin 64) (a3 : Bool) (a4 : W64) (s : State) :
    TouchesX 0x20008 s (execPolicerProfileWrite a0 a1 a2 a3 a4 s) := by
  unfold execPolicerProfileWrite
  extract_lets x0 x1 x2 x3 x4 x5 x6
  clear_value x0 x1 x2 x3 x4 x5 x6
  refine TouchesX.next_ ?_
  refine Touches.step (State.fenced_touches (m := 0x20008) _ _ _ _ _ (by decide) ?_) (by decide) ?_
  · intro z7
    split
    · extract_lets x8 x9 x10 x11 x12
      clear_value x8
      have h13 : Touches 0x20008 z7 x9 := by
        unfold x9
        exact (State.setFld_touches _ _ _ _).mono (by decide)
      clear_value x9
      have h14 : Touches 0x20008 z7 x10 := by
        unfold x10
        refine Touches.step (State.setFld_touches _ _ _ _) (by decide) ?_
        exact Touches.step (State.setFld_touches _ _ _ _) (by decide) (by assumption)
      clear_value x10 x11 x12
      exact Touches.step (Touches.set_head x10 _) (by decide) (by assumption)
    · extract_lets x15
      clear_value x15
      split
      · split
        · extract_lets x16 x17
          have h18 : Touches 0x20008 z7 x16 := by
            unfold x16
            refine Touches.step (State.setFld_touches _ _ _ _) (by decide) ?_
            exact (State.setFld_touches _ _ _ _).mono (by decide)
          clear_value x16
          have h19 : Touches 0x20008 z7 x17 := by
            unfold x17
            exact Touches.step (State.setFld_touches _ _ _ _) (by decide) (by assumption)
          clear_value x17
          split
          · exact Touches.step (State.setFld_touches _ _ _ _) (by decide) (by assumption)
          · assumption
  · exact Touches.refl _ _

theorem execPolicerBindWrite_touches (a0 : Writer) (a1 : PDie) (a2 : Fin 2048) (a3 : W64) (s : State) :
    TouchesX 0x20008 s (execPolicerBindWrite a0 a1 a2 a3 s) := by
  unfold execPolicerBindWrite
  extract_lets x0 x1 x2 x3 x4
  clear_value x0 x1 x2 x3 x4
  refine TouchesX.next_ ?_
  refine Touches.step (State.fenced_touches (m := 0x20008) _ _ _ _ _ (by decide) ?_) (by decide) ?_
  · intro z5
    extract_lets x6 x7 x8 x9
    clear_value x6
    have h10 : Touches 0x20008 z5 x7 := by
      unfold x7
      exact (State.wr_touches _ _ _).mono (by decide)
    clear_value x7 x8
    have h11 : Touches 0x20008 z5 x9 := by
      unfold x9
      exact Touches.step (Touches.set_head x7 _) (by decide) (by assumption)
    clear_value x9
    split
    · exact Touches.step (State.count_touches _ _ _) (by decide) (by assumption)
    · assumption
  · exact Touches.refl _ _

end Sys2Proof.Machine
end

