-- ==== Sys2Proof/Laws/FrameStream.lean ====
section
/-! SUPPORT. What each operation of Machine/Stream.lean can touch: its mask, memory's canonical form, the fuses' trust. -/

namespace Sys2Proof.Machine

theorem State.sparseCount_touches (s : State) (a1 : Nat) (a2 : Nat) (a3 : Nat) (a4 : Nat) (a5 : Nat) (a6 : Nat) :
    Touches 0x8 s (State.sparseCount s a1 a2 a3 a4 a5 a6) := by
  unfold State.sparseCount
  extract_lets x0 x1 x2 x3 x4 x5
  clear_value x0
  have h6 : ∀ y0 y1 y2, Touches 0x8 y0 (x1 y0 y1 y2) := by
    intro y0 y1 y2
    unfold x1
    split
    · exact Touches.refl _ _
    · exact (State.countBy_touches _ _ _ _).mono (by decide)
  clear_value x1
  have h7 : Touches 0x8 s x2 := by
    unfold x2
    exact (h6 _ _ _).mono (by decide)
  clear_value x2
  have h8 : Touches 0x8 s x3 := by
    unfold x3
    exact Touches.step (h6 _ _ _) (by decide) (by assumption)
  clear_value x3
  have h9 : Touches 0x8 s x4 := by
    unfold x4
    exact Touches.step (h6 _ _ _) (by decide) (by assumption)
  clear_value x4
  have h10 : Touches 0x8 s x5 := by
    unfold x5
    exact Touches.step (h6 _ _ _) (by decide) (by assumption)
  clear_value x5
  exact Touches.step (h6 _ _ _) (by decide) (by assumption)

theorem State.finish_touches (s : State) (a1 : Nat) :
    Touches 0x4bc2608 s (State.finish s a1) := by
  unfold State.finish
  extract_lets x0 x1
  clear_value x0
  have h2 : Touches 0x4bc2608 s x1 := by
    unfold x1
    refine Touches.step (State.setRegs_touches _ _ _) (by decide) ?_
    exact Touches.refl _ _
  clear_value x1
  split
  · refine Touches.step (State.setWait_touches _ _ _) (by decide) ?_
    exact Touches.refl _ _
  · split
    · refine Touches.step (State.setWait_touches _ _ _) (by decide) ?_
      exact Touches.refl _ _
    · split
      · extract_lets x3 x4 x5
        have h6 : Touches 0x4bc2608 s x3 := by
          unfold x3
          refine Touches.step (State.setCtxState_touches _ _ _) (by decide) ?_
          refine Touches.step (State.setRegs_touches _ _ _) (by decide) ?_
          assumption
        clear_value x3
        have h7 : Touches 0x4bc2608 s x4 := by
          unfold x4
          split
          · refine Touches.step (State.leavePipe_touches _ _ _) (by decide) ?_
            assumption
          · assumption
        clear_value x4
        have h8 : Touches 0x4bc2608 s x5 := by
          unfold x5
          refine Touches.step (State.setCtx_touches _ _ _) (by decide) ?_
          refine Touches.step (State.dropMove_touches _ _) (by decide) ?_
          assumption
        clear_value x5
        split
        · refine Touches.step (State.maybeEnd_touches _ _) (by decide) ?_
          refine Touches.step (State.setColl_touches _ _ _) (by decide) ?_
          assumption
        · assumption
      · split
        · refine Touches.step (State.setRegs_touches _ _ _) (by decide) ?_
          assumption
        · refine Touches.step (State.fault_touches _ _ _ _) (by decide) ?_
          assumption

theorem State.settleStop_touches (s : State) (a1 : Nat) :
    Touches 0x1c0008 s (State.settleStop s a1) := by
  unfold State.settleStop
  extract_lets x0 x1 x2 x3
  clear_value x0
  have h4 : Touches 0x1c0008 s x1 := by
    unfold x1
    split
    · exact (State.leavePipe_touches _ _ _).mono (by decide)
    · exact Touches.refl _ _
  clear_value x1
  have h5 : Touches 0x1c0008 s x2 := by
    unfold x2
    exact Touches.step (State.setCtx_touches _ _ _) (by decide) (by assumption)
  clear_value x2
  have h6 : Touches 0x1c0008 s x3 := by
    unfold x3
    refine Touches.step (State.putRec_touches _ _ _ _ _) (by decide) ?_
    exact Touches.step (State.putRec_touches _ _ _ _ _) (by decide) (by assumption)
  clear_value x3
  split
  · exact Touches.refl _ _
  · split
    · exact Touches.step (State.setCtxState_touches _ _ _) (by decide) (by assumption)
    · exact Touches.step (State.setCtxState_touches _ _ _) (by decide) (by assumption)
    · assumption

theorem State.reach_touches (s : State) (a1 : Nat) (a2 : Nat) (a3 : Next) :
    Touches 0x1c0008 s (State.reach s a1 a2 a3) := by
  unfold State.reach
  extract_lets x0
  have h1 : Touches 0x1c0008 s x0 := by
    unfold x0
    split
    · exact (State.boundary_touches _ _ _).mono (by decide)
    · exact Touches.refl _ _
  clear_value x0
  exact Touches.step (State.settleStop_touches _ _) (by decide) (by assumption)

theorem State.giveGrain_touches (s : State) (a1 : Nat) (a2 : Nat) (a3 : Nat) (a4 : Nat) (a5 : Bool) (a6 : Nat) (a7 : Nat) (a8 : Nat) (a9 : Option Nat) :
    Touches 0x82018 s (State.giveGrain s a1 a2 a3 a4 a5 a6 a7 a8 a9) := by
  unfold State.giveGrain
  extract_lets x0 x1 x2 x3 x4 x5 x6 x7 x8 x9
  clear_value x0 x1 x2
  have h10 : Touches 0x82018 s x3 := by
    unfold x3
    exact (State.setColl_touches _ _ _).mono (by decide)
  clear_value x3 x4
  have h11 : Touches 0x82018 s x5 := by
    unfold x5
    exact Touches.step (State.setGrain_touches _ _ _) (by decide) (by assumption)
  clear_value x5 x6 x7
  have h12 : Touches 0x82018 s x8 := by
    unfold x8
    refine Touches.step (State.count_touches _ _ _) (by decide) ?_
    exact Touches.step (State.countBy_touches _ _ _ _) (by decide) (by assumption)
  clear_value x8
  have h13 : Touches 0x82018 s x9 := by
    unfold x9
    exact Touches.step (State.setColl_touches _ _ _) (by decide) (by assumption)
  clear_value x9
  split
  · exact (State.emitResult_touches _ _ _ _ _ _ _ _ _ _ _).mono (by decide)
  · split
    · exact Touches.step (State.setColl_touches _ _ _) (by decide) (by assumption)
    · exact Touches.step (State.emitResult_touches _ _ _ _ _ _ _ _ _ _ _) (by decide) (by assumption)

theorem State.dropOut_touches (s : State) (a1 : Stream) (a2 : Nat) :
    Touches 0x2000 s (State.dropOut s a1 a2) := by
  unfold State.dropOut
  split
  · exact Touches.refl _ _
  · refine Touches.step (State.freeGrain_touches _ _) (by decide) ?_
    exact Touches.refl _ _

theorem State.putOut_touches (s : State) (a1 : Nat) (a2 : Nat) (a3 : Stream) (a4 : Nat) (a5 : Bool) (a6 : Nat) (a7 : Nat) (a8 : Nat) (a9 : Nat) (a10 : Nat) :
    TouchesO 0x1e82218 s (State.putOut s a1 a2 a3 a4 a5 a6 a7 a8 a9 a10) := by
  unfold State.putOut
  split
  · extract_lets x0 x1
    clear_value x0
    have h2 : Touches 0x1e82218 s x1 := by
      unfold x1
      refine Touches.step (State.winWrite_touches _ _ _ _ _ _) (by decide) ?_
      exact Touches.refl _ _
    clear_value x1
    split
    · refine TouchesO.some_ ?_
      split
      · refine Touches.step (State.setRegs_touches _ _ _) (by decide) ?_
        assumption
      · assumption
    · exact TouchesO.none_
  · refine TouchesO.some_ ?_
    refine Touches.step (State.giveGrain_touches _ _ _ _ _ _ _ _ _ _) (by decide) ?_
    refine Touches.step (State.fillGrain_touches _ _ _ _ _) (by decide) ?_
    exact Touches.refl _ _

theorem State.endStream_touches (s : State) (a1 : Nat) (a2 : Nat) :
    Touches 0x4bc2608 s (State.endStream s a1 a2) := by
  unfold State.endStream
  extract_lets x0 x1 x2 x3
  clear_value x0 x1
  have h4 : Touches 0x4bc2608 s x2 := by
    unfold x2
    exact (State.setRegs_touches _ _ _).mono (by decide)
  clear_value x2
  have h5 : Touches 0x4bc2608 s x3 := by
    unfold x3
    exact Touches.step (State.setColl_touches _ _ _) (by decide) (by assumption)
  clear_value x3
  split
  · split
    · exact Touches.step (State.setWait_touches _ _ _) (by decide) (by assumption)
    · refine Touches.step (State.maybeEnd_touches _ _) (by decide) ?_
      refine Touches.step (State.setColl_touches _ _ _) (by decide) ?_
      exact Touches.step (State.setWait_touches _ _ _) (by decide) (by assumption)
  · exact Touches.step (State.finish_touches _ _) (by decide) (by assumption)

theorem State.gatherAmax_touches (s : State) (a1 : Nat) (a2 : Stream) (a3 : List Val) :
    Touches 0x80000 s (State.gatherAmax s a1 a2 a3) := by
  unfold State.gatherAmax
  split
  · extract_lets x0
    clear_value x0
    refine Touches.step (State.setFlags_touches _ _ _) (by decide) ?_
    refine Touches.step (State.setColl_touches _ _ _) (by decide) ?_
    exact Touches.refl _ _
  · split
    · exact Touches.refl _ _
    · extract_lets x1
      clear_value x1
      refine Touches.step (State.setFlags_touches _ _ _) (by decide) ?_
      refine Touches.step (State.setRegs_touches _ _ _) (by decide) ?_
      exact Touches.refl _ _

theorem State.roundPos_touches (s : State) (a1 : Nat) (a2 : Stream) (a3 : Nat) (a4 : Nat → Val × Nat) :
    Touches2 0x80000 s (State.roundPos s a1 a2 a3 a4) := by
  unfold State.roundPos
  extract_lets x0 x1 x2 x3 x4 x5 x6 x7 x8
  clear_value x0 x1 x2 x3 x4 x5 x6
  have h9 : Touches 0x80000 s x7 := by
    unfold x7
    refine Touches.step (State.setFlags_touches _ _ _) (by decide) ?_
    exact Touches.refl _ _
  clear_value x7
  have h10 : Touches 0x80000 s x8 := by
    unfold x8
    split
    · assumption
    · refine Touches.step (State.gatherAmax_touches _ _ _ _) (by decide) ?_
      assumption
  clear_value x8
  split
  · refine Touches2.mk ?_
    exact Touches.refl _ _
  · refine Touches2.mk ?_
    assumption

theorem State.clearPos_touches (s : State) (a1 : Nat) (a2 : Nat) :
    Touches 0x80000 s (State.clearPos s a1 a2) := by
  unfold State.clearPos
  extract_lets x0
  clear_value x0
  exact (State.setRegs_touches _ _ _).mono (by decide)

theorem State.stepProg_touches (s : State) (a1 : Nat) (a2 : Nat) :
    Touches 0x4bc2608 s (State.stepProg s a1 a2) := by
  unfold State.stepProg
  extract_lets x0 x1
  clear_value x0
  have h2 : Touches 0x4bc2608 s x1 := by
    unfold x1
    exact (State.setRegs_touches _ _ _).mono (by decide)
  clear_value x1
  split
  · exact Touches.step (State.endStream_touches _ _ _) (by decide) (by assumption)
  · assumption

theorem State.gatherGrain_touches (s : State) (a1 : Nat) (a2 : Nat) (a3 : Stream) (a4 : Nat) (a5 : List Nat) :
    Touches 0x5fc2618 s (State.gatherGrain s a1 a2 a3 a4 a5) := by
  unfold State.gatherGrain
  extract_lets x0 x1 x2 x3 x4 x5 x6 x7 x8 x9 x10 x11 x12 x13 x14
  clear_value x0 x1 x2 x3 x4 x5 x6 x7 x8 x11 x13 x14
  have h15 : Touches 0x5fc2618 s x9 := by
    unfold x9
    refine Touches.step (State.setFlags_touches _ _ _) (by decide) ?_
    exact Touches.refl _ _
  clear_value x9
  have h16 : Touches 0x5fc2618 s x10 := by
    unfold x10
    refine Touches.step (State.gatherAmax_touches _ _ _ _) (by decide) ?_
    assumption
  clear_value x10
  have h17 : Touches 0x5fc2618 s x12 := by
    unfold x12
    refine Touches.step (State.sparseCount_touches _ _ _ _ _ _ _) (by decide) ?_
    assumption
  clear_value x12
  split
  · refine Touches.step (State.fault_touches _ _ _ _) (by decide) ?_
    refine Touches.step (State.dropOut_touches _ _ _) (by decide) ?_
    exact Touches.refl _ _
  · split
    · refine Touches.step (State.fault_touches _ _ _ _) (by decide) ?_
      refine Touches.step (State.dropOut_touches _ _ _) (by decide) ?_
      exact Touches.refl _ _
    · split
      · rename_i w18 w19 w20 w21 w22
        assumption
      · rename_i w23 w24 w25 w26 w27 w28
        have h29 : Touches 0x5fc2618 s w27 := by
          refine TouchesO.of w28 ?_
          refine TouchesO.step (State.putOut_touches _ _ _ _ _ _ _ _ _ _ _) (by decide) ?_
          assumption
        extract_lets x30
        have h31 : Touches 0x5fc2618 s x30 := by
          unfold x30
          split
          · refine Touches.step (State.setRegs_touches _ _ _) (by decide) ?_
            assumption
          · assumption
        clear_value x30
        refine Touches.step (State.stepProg_touches _ _ _) (by decide) ?_
        assumption

theorem State.scatterGrain_touches (s : State) (a1 : Nat) (a2 : Nat) (a3 : Stream) (a4 : Nat) :
    Touches 0x5fc2608 s (State.scatterGrain s a1 a2 a3 a4) := by
  unfold State.scatterGrain
  split
  · extract_lets x0 x1 x2 x3 x4
    clear_value x0 x2
    have h5 : Touches 0x5fc2608 s x1 := by
      unfold x1
      refine Touches.step (State.sparseCount_touches _ _ _ _ _ _ _) (by decide) ?_
      exact Touches.refl _ _
    clear_value x1
    have h6 : Touches 0x5fc2608 s x3 := by
      unfold x3
      refine Touches.step (State.winWrite_touches _ _ _ _ _ _) (by decide) ?_
      assumption
    clear_value x3
    have h7 : Touches 0x5fc2608 s x4 := by
      unfold x4
      split
      · refine Touches.step (State.setRegs_touches _ _ _) (by decide) ?_
        assumption
      · assumption
    clear_value x4
    split
    · refine Touches.step (State.stepProg_touches _ _ _) (by decide) ?_
      assumption
    · refine Touches.step (State.stepProg_touches _ _ _) (by decide) ?_
      assumption

theorem State.setStream_touches (s : State) (a1 : Nat) (a2 : Stream) :
    Touches 0x80000 s (State.setStream s a1 a2) := by
  unfold State.setStream
  exact (State.setRegs_touches _ _ _).mono (by decide)

theorem State.sortCopy_touches (s : State) (a1 : Nat) (a2 : Nat) (a3 : Stream) (a4 : Feed) (a5 : Feed) :
    Touches2 0x1e80208 s (State.sortCopy s a1 a2 a3 a4 a5) := by
  unfold State.sortCopy
  split
  · extract_lets x0 x1 x2 x3 x4
    clear_value x1 x2 x3
    have h5 : Touches 0x1e80208 s x0 := by
      unfold x0
      refine Touches.step (State.sparseCount_touches _ _ _ _ _ _ _) (by decide) ?_
      exact Touches.refl _ _
    clear_value x0
    have h6 : Touches 0x1e80208 s x4 := by
      unfold x4
      refine Touches.step (State.winWrite_touches _ _ _ _ _ _) (by decide) ?_
      assumption
    clear_value x4
    split
    · refine Touches2.mk ?_
      assumption
    · refine Touches2.mk ?_
      split
      · refine Touches.step (State.setRegs_touches _ _ _) (by decide) ?_
        assumption
      · assumption

theorem State.passGrain_touches (s : State) (a1 : Nat) (a2 : Nat) (a3 : Stream) (a4 : Notice) (a5 : Nat) :
    Touches 0x5fc2618 s (State.passGrain s a1 a2 a3 a4 a5) := by
  unfold State.passGrain
  extract_lets x0 x1 x2 x3 x4 x5 x6 x7 x8 x9 x10
  clear_value x0 x1 x2 x3 x4 x5 x8 x9
  have h11 : Touches 0x5fc2618 s x6 := by
    unfold x6
    split
    · extract_lets x12 x13
      clear_value x12
      have h14 : Touches 0x5fc2618 s x13 := by
        unfold x13
        refine Touches.step (State.setGrain_touches _ _ _) (by decide) ?_
        exact Touches.refl _ _
      clear_value x13
      refine Touches.step (State.unref_touches _ _) (by decide) ?_
      refine Touches.step (State.giveGrain_touches _ _ _ _ _ _ _ _ _ _) (by decide) ?_
      assumption
    · exact Touches.refl _ _
  clear_value x6
  have h15 : Touches 0x5fc2618 s x7 := by
    unfold x7
    refine Touches.step (State.setColl_touches _ _ _) (by decide) ?_
    refine Touches.step (State.releaseNotice_touches _ _) (by decide) ?_
    assumption
  clear_value x7
  have h16 : Touches 0x5fc2618 s x10 := by
    unfold x10
    split
    · extract_lets x17 x18
      clear_value x17
      have h19 : Touches 0x5fc2618 s x18 := by
        unfold x18
        refine Touches.step (State.setGrain_touches _ _ _) (by decide) ?_
        exact Touches.refl _ _
      clear_value x18
      refine Touches.step (State.unref_touches _ _) (by decide) ?_
      refine Touches.step (State.giveGrain_touches _ _ _ _ _ _ _ _ _ _) (by decide) ?_
      assumption
    · exact Touches.refl _ _
  clear_value x10
  split
  · refine Touches.step (State.maybeEnd_touches _ _) (by decide) ?_
    assumption
  · split
    · split
      · rename_i w20 w21 w22 w23
        exact Touches.refl _ _
      · rename_i w24 w25 w26 w27 w28
        have h29 : Touches 0x5fc2618 s w27 := by
          refine TouchesO.of w28 ?_
          refine TouchesO.step (State.putOut_touches _ _ _ _ _ _ _ _ _ _ _) (by decide) ?_
          refine Touches.step (State.releaseNotice_touches _ _) (by decide) ?_
          exact Touches.refl _ _
        refine Touches.step (State.stepProg_touches _ _ _) (by decide) ?_
        assumption
    · refine Touches.step (State.stepProg_touches _ _ _) (by decide) ?_
      refine Touches.step (State.releaseNotice_touches _ _) (by decide) ?_
      assumption

theorem State.takeGrain_touches (s : State) (a1 : Nat) (a2 : Nat) (a3 : Stream) (a4 : Notice) :
    Touches 0x5fc6618 s (State.takeGrain s a1 a2 a3 a4) := by
  unfold State.takeGrain
  extract_lets x0 x1 x2 x3 x4 x5 x6 x7 x8 x9 x10 x11 x12 x13 x14
  clear_value x0 x1 x2 x4 x6 x9 x11 x12 x13 x14
  have h15 : Touches 0x5fc6618 s x3 := by
    unfold x3
    refine Touches.step (State.setColl_touches _ _ _) (by decide) ?_
    exact Touches.refl _ _
  clear_value x3
  have h16 : Touches 0x5fc6618 s x5 := by
    unfold x5
    split
    · refine Touches.step (State.recheckAbove_touches _ _) (by decide) ?_
      refine Touches.step (State.markUsed_touches _ _ _ _ _) (by decide) ?_
      assumption
    · assumption
  clear_value x5
  have h17 : Touches 0x5fc6618 s x7 := by
    unfold x7
    split
    · refine Touches.step (State.setFlags_touches _ _ _) (by decide) ?_
      assumption
    · assumption
  clear_value x7
  have h18 : Touches 0x5fc6618 s x8 := by
    unfold x8
    refine Touches.step (State.releaseNotice_touches _ _) (by decide) ?_
    assumption
  clear_value x8
  have h19 : Touches 0x5fc6618 s x10 := by
    unfold x10
    refine Touches.step (State.sparseCount_touches _ _ _ _ _ _ _) (by decide) ?_
    refine Touches.step (State.setFlags_touches _ _ _) (by decide) ?_
    refine Touches.step (State.setStream_touches _ _ _) (by decide) ?_
    assumption
  clear_value x10
  split
  · refine Touches.step (State.fault_touches _ _ _ _) (by decide) ?_
    exact Touches.refl _ _
  · split
    · refine Touches.step (State.fault_touches _ _ _ _) (by decide) ?_
      refine Touches.step (State.releaseNotice_touches _ _) (by decide) ?_
      assumption
    · split
      · refine Touches.step (State.passGrain_touches _ _ _ _ _ _) (by decide) ?_
        assumption
      · split
        · split
          · refine Touches.step (State.setColl_touches _ _ _) (by decide) ?_
            assumption
          · assumption
        · split
          · refine Touches.step (State.setStream_touches _ _ _) (by decide) ?_
            refine Touches.step (State.sparseCount_touches _ _ _ _ _ _ _) (by decide) ?_
            assumption
          · split
            · refine Touches.step (State.scatterGrain_touches _ _ _ _ _) (by decide) ?_
              refine Touches.step (State.sparseCount_touches _ _ _ _ _ _ _) (by decide) ?_
              assumption
            · split
              · extract_lets x20
                have h21 : Touches 0x5fc6618 s x20 := by
                  unfold x20
                  refine Touches.step (State.sparseCount_touches _ _ _ _ _ _ _) (by decide) ?_
                  assumption
                clear_value x20
                split
                · rename_i w22 w23 w24 w25 w26 w27 w28 w29 w30 w31 w32 w33 w34 w35 w36
                  have h37 : Touches 0x5fc6618 s w35 := by
                    refine Touches2.of w36 ?_
                    split
                    · refine Touches2.step (State.sortCopy_touches _ _ _ _ _ _) (by decide) ?_
                      assumption
                    · refine Touches2.mk ?_
                      assumption
                  refine Touches.step (State.setStream_touches _ _ _) (by decide) ?_
                  assumption

theorem State.absorb_touches (s : State) (a1 : Nat) (a2 : Nat) :
    Touches2 0x5fc6618 s (State.absorb s a1 a2) := by
  unfold State.absorb
  split
  · refine Touches2.mk ?_
    exact Touches.refl _ _
  · split
    · refine Touches2.mk ?_
      exact Touches.refl _ _
    · refine Touches2.mk ?_
      refine Touches.step (State.takeGrain_touches _ _ _ _ _) (by decide) ?_
      exact Touches.refl _ _

theorem State.absorbAll_touches (s : State) (a1 : Nat) (a2 : Nat) (a3 : Nat) :
    Touches 0x5fc6618 s (State.absorbAll s a1 a2 a3) := by
  unfold State.absorbAll
  split
  · exact Touches.refl _ _
  · split
    · rename_i w0 w1 w2 w3 w4 w5
      have h6 : Touches 0x5fc6618 s w4 := by
        refine Touches2.of w5 ?_
        refine Touches2.step (State.absorb_touches _ _ _) (by decide) ?_
        exact Touches.refl _ _
      split
      · refine Touches.step (State.absorbAll_touches _ _ _ _) (by decide) ?_
        assumption
      · assumption

theorem State.outPtr_touches (s : State) (a1 : Nat) (a2 : Nat) (a3 : Stream) :
    Touches2 0x6008 s (State.outPtr s a1 a2 a3) := by
  unfold State.outPtr
  split
  · refine Touches2.mk ?_
    exact Touches.refl _ _
  · refine Touches2.step (State.tryAlloc_touches _ _ _) (by decide) ?_
    exact Touches.refl _ _

theorem State.emitPos_touches (s : State) (a1 : Nat) (a2 : Nat) (a3 : Stream) (a4 : Nat) (a5 : Nat) (a6 : Nat) :
    Touches 0x5fc2618 s (State.emitPos s a1 a2 a3 a4 a5 a6) := by
  unfold State.emitPos
  extract_lets x0
  clear_value x0
  split
  · rename_i w1 w2
    exact Touches.refl _ _
  · rename_i w3 w4 w5
    have h6 : Touches 0x5fc2618 s w4 := by
      refine TouchesO.of w5 ?_
      refine TouchesO.step (State.putOut_touches _ _ _ _ _ _ _ _ _ _ _) (by decide) ?_
      exact Touches.refl _ _
    refine Touches.step (State.stepProg_touches _ _ _) (by decide) ?_
    refine Touches.step (State.clearPos_touches _ _ _) (by decide) ?_
    assumption

theorem State.completeReduce_touches (s : State) (a1 : Nat) (a2 : Nat) (a3 : Stream) :
    Touches2 0x5fc6618 s (State.completeReduce s a1 a2 a3) := by
  unfold State.completeReduce
  extract_lets x0 x1 x2 x3 x4 x5 x6 x7 x8 x9 x10 x11 x12 x13
  clear_value x0 x1 x2 x3 x4 x5 x6 x7 x8 x9 x10 x12 x13
  have h14 : Touches 0x5fc6618 s x11 := by
    unfold x11
    split
    · refine Touches.step (State.setColl_touches _ _ _) (by decide) ?_
      exact Touches.refl _ _
    · exact Touches.refl _ _
  clear_value x11
  split
  · refine Touches2.mk ?_
    exact Touches.refl _ _
  · split
    · refine Touches2.mk ?_
      refine Touches.step (State.stepProg_touches _ _ _) (by decide) ?_
      refine Touches.step (State.clearPos_touches _ _ _) (by decide) ?_
      refine Touches.step (State.setColl_touches _ _ _) (by decide) ?_
      exact Touches.refl _ _
    · split
      · refine Touches2.mk ?_
        assumption
      · split
        · refine Touches2.mk ?_
          refine Touches.step (State.fault_touches _ _ _ _) (by decide) ?_
          assumption
        · split
          · rename_i w15 w16 w17 w18 w19 w20 w21 w22
            have h23 : Touches 0x5fc6618 s w21 := by
              refine Touches2.of w22 ?_
              refine Touches2.step (State.outPtr_touches _ _ _ _) (by decide) ?_
              assumption
            refine Touches2.mk ?_
            assumption
          · rename_i w24 w25 w26 w27 w28 w29 w30 w31 w32
            have h33 : Touches 0x5fc6618 s w31 := by
              refine Touches2.of w32 ?_
              refine Touches2.step (State.outPtr_touches _ _ _ _) (by decide) ?_
              assumption
            split
            · rename_i w34 w35 w36 w37
              have h38 : Touches 0x5fc6618 s w36 := by
                refine Touches2.of w37 ?_
                refine Touches2.step (State.roundPos_touches _ _ _ _ _) (by decide) ?_
                assumption
              extract_lets x39
              have h40 : Touches 0x5fc6618 s x39 := by
                unfold x39
                refine Touches.step (State.setColl_touches _ _ _) (by decide) ?_
                assumption
              clear_value x39
              refine Touches2.mk ?_
              refine Touches.step (State.emitPos_touches _ _ _ _ _ _ _) (by decide) ?_
              assumption

theorem State.completeCounted_touches (s : State) (a1 : Nat) (a2 : Nat) (a3 : Stream) :
    Touches2 0x5fc6618 s (State.completeCounted s a1 a2 a3) := by
  unfold State.completeCounted
  extract_lets x0 x1 x2 x3 x4 x5 x6 x7 x8 x9
  clear_value x0 x1 x2 x3 x4 x5 x8 x9
  have h10 : Touches 0x5fc6618 s x6 := by
    unfold x6
    refine Touches.step (State.sparseCount_touches _ _ _ _ _ _ _) (by decide) ?_
    refine Touches.step (State.setFlags_touches _ _ _) (by decide) ?_
    refine Touches.step (State.setStream_touches _ _ _) (by decide) ?_
    exact Touches.refl _ _
  clear_value x6
  have h11 : Touches 0x5fc6618 s x7 := by
    unfold x7
    split
    · assumption
    · refine Touches.step (State.gatherAmax_touches _ _ _ _) (by decide) ?_
      assumption
  clear_value x7
  split
  · refine Touches2.mk ?_
    refine Touches.step (State.fault_touches _ _ _ _) (by decide) ?_
    exact Touches.refl _ _
  · split
    · refine Touches2.mk ?_
      assumption
    · split
      · rename_i w12 w13 w14 w15 w16 w17
        have h18 : Touches 0x5fc6618 s w16 := by
          refine Touches2.of w17 ?_
          refine Touches2.step (State.outPtr_touches _ _ _ _) (by decide) ?_
          assumption
        refine Touches2.mk ?_
        assumption
      · rename_i w19 w20 w21 w22 w23 w24 w25
        have h26 : Touches 0x5fc6618 s w24 := by
          refine Touches2.of w25 ?_
          refine Touches2.step (State.outPtr_touches _ _ _ _) (by decide) ?_
          assumption
        split
        · split
          · rename_i w27 w28 w29
            refine Touches2.mk ?_
            assumption
          · rename_i w30 w31 w32 w33
            have h34 : Touches 0x5fc6618 s w32 := by
              refine TouchesO.of w33 ?_
              refine TouchesO.step (State.putOut_touches _ _ _ _ _ _ _ _ _ _ _) (by decide) ?_
              assumption
            refine Touches2.mk ?_
            refine Touches.step (State.setRegs_touches _ _ _) (by decide) ?_
            refine Touches.step (State.setStream_touches _ _ _) (by decide) ?_
            assumption
        · split
          · rename_i w35 w36 w37
            refine Touches2.mk ?_
            assumption
          · rename_i w38 w39 w40 w41
            have h42 : Touches 0x5fc6618 s w40 := by
              refine TouchesO.of w41 ?_
              refine TouchesO.step (State.putOut_touches _ _ _ _ _ _ _ _ _ _ _) (by decide) ?_
              assumption
            refine Touches2.mk ?_
            refine Touches.step (State.endStream_touches _ _ _) (by decide) ?_
            assumption

theorem State.complete_touches (s : State) (a1 : Nat) (a2 : Nat) :
    Touches2 0x5fc6618 s (State.complete s a1 a2) := by
  unfold State.complete
  split
  · refine Touches2.mk ?_
    exact Touches.refl _ _
  · extract_lets x0
    clear_value x0
    split
    · refine Touches2.step (State.completeReduce_touches _ _ _ _) (by decide) ?_
      exact Touches.refl _ _
    · split
      · refine Touches2.mk ?_
        exact Touches.refl _ _
      · split
        · refine Touches2.mk ?_
          exact Touches.refl _ _
        · split
          · rename_i w1 w2 w3 w4 w5 w6 w7 w8 w9 w10 w11 w12
            have h13 : Touches 0x5fc6618 s w11 := by
              refine Touches2.of w12 ?_
              refine Touches2.step (State.outPtr_touches _ _ _ _) (by decide) ?_
              exact Touches.refl _ _
            refine Touches2.mk ?_
            assumption
          · rename_i w14 w15 w16 w17 w18 w19 w20 w21 w22 w23 w24 w25 w26
            have h27 : Touches 0x5fc6618 s w25 := by
              refine Touches2.of w26 ?_
              refine Touches2.step (State.outPtr_touches _ _ _ _) (by decide) ?_
              exact Touches.refl _ _
            refine Touches2.mk ?_
            refine Touches.step (State.gatherGrain_touches _ _ _ _ _ _) (by decide) ?_
            assumption
    · refine Touches2.step (State.completeCounted_touches _ _ _ _) (by decide) ?_
      exact Touches.refl _ _
    · refine Touches2.step (State.completeCounted_touches _ _ _ _) (by decide) ?_
      exact Touches.refl _ _
    · refine Touches2.step (State.completeCounted_touches _ _ _ _) (by decide) ?_
      exact Touches.refl _ _
    · refine Touches2.mk ?_
      exact Touches.refl _ _

end Sys2Proof.Machine
end

