-- ==== Sys2Proof/Laws/FrameExecute.lean ====
section
/-! SUPPORT. What each operation of Machine/Execute.lean can touch: its mask, memory's canonical form, the fuses' trust. -/

namespace Sys2Proof.Machine

theorem State.storeLanes_touches (s : State) (a1 : Nat) (a2 : Nat) (a3 : Nat) (a4 : Nat) (a5 : Nat) (a6 : Nat) :
    Touches 0x1e80208 s (State.storeLanes s a1 a2 a3 a4 a5 a6) := by
  unfold State.storeLanes
  refine Touches.foldl ?_ ?_
  · intro z0
    intro z1
    split
    · refine Touches.step (State.winWrite_touches _ _ _ _ _ _) (by decide) ?_
      exact Touches.refl _ _
    · exact Touches.refl _ _
  · exact Touches.refl _ _

theorem State.memory_touches (s : State) (a1 : Nat) (a2 : CtxRec) (a3 : Regs) (a4 : Exec) (a5 : MSyl) :
    Touches2 0x1e80208 s (State.memory s a1 a2 a3 a4 a5) := by
  unfold State.memory
  split
  · split
    · refine Touches2.mk ?_
      exact Touches.refl _ _
    · refine Touches2.mk ?_
      exact Touches.refl _ _
  · extract_lets x0 x1
    clear_value x0
    have h2 : ∀ z3, Touches 0x1e80208 z3 (x1 z3) := by
      intro z3
      unfold x1
      beta_reduce
      split
      · refine Touches.step (State.setRegs_touches _ _ _) (by decide) ?_
        exact Touches.refl _ _
      · exact Touches.refl _ _
    clear_value x1
    split
    · extract_lets x4
      clear_value x4
      refine Touches2.mk ?_
      exact Touches.refl _ _
    · refine Touches2.mk ?_
      exact Touches.refl _ _
    · refine Touches2.mk ?_
      exact Touches.refl _ _
    · refine Touches2.mk ?_
      refine Touches.step (h2 _) (by decide) ?_
      refine Touches.step (State.storeLanes_touches _ _ _ _ _ _ _) (by decide) ?_
      exact Touches.refl _ _
    · refine Touches2.mk ?_
      refine Touches.step (h2 _) (by decide) ?_
      refine Touches.step (State.winWrite_touches _ _ _ _ _ _) (by decide) ?_
      exact Touches.refl _ _
    · refine Touches2.mk ?_
      refine Touches.step (h2 _) (by decide) ?_
      refine Touches.step (State.winWrite_touches _ _ _ _ _ _) (by decide) ?_
      exact Touches.refl _ _
    · refine Touches2.mk ?_
      exact Touches.refl _ _

theorem State.perform_touches (s : State) (a1 : Nat) (a2 : Nat) (a3 : Bundle) (a4 : Nat) (a5 : Option Notice) (a6 : Option Stream) (a7 : Bool) :
    Touches 0x5fc6618 s (State.perform s a1 a2 a3 a4 a5 a6 a7) := by
  unfold State.perform
  extract_lets x0 x1 x2 x3 x4 x5 x6 x7 x8 x9
  clear_value x0 x1 x2 x3 x4 x5 x6 x7 x8 x9
  split
  · extract_lets x10 x11
    clear_value x10 x11
    split
    · rename_i w12 w13 w14 w15 w16 w17 w18 w19
      have h20 : Touches 0x5fc6618 s w18 := by
        refine Touches2.of w19 ?_
        refine Touches2.step (State.memory_touches _ _ _ _ _ _) (by decide) ?_
        exact Touches.refl _ _
      extract_lets x21 x22 x23 x24 x25 x26 x27 x28 x29 x30 x31 x32 x33 x34 x35
      clear_value x21 x22 x23 x25 x26 x27 x28 x29 x30 x34
      have h36 : Touches 0x5fc6618 s x24 := by
        unfold x24
        split
        · extract_lets x37
          have h38 : Touches 0x5fc6618 s x37 := by
            unfold x37
            refine Touches.step (State.releaseNotice_touches _ _) (by decide) ?_
            refine Touches.step (State.setColl_touches _ _ _) (by decide) ?_
            assumption
          clear_value x37
          split
          · refine Touches.step (State.recheckAbove_touches _ _) (by decide) ?_
            refine Touches.step (State.markUsed_touches _ _ _ _ _) (by decide) ?_
            assumption
          · assumption
        · assumption
      clear_value x24
      have h39 : Touches 0x5fc6618 s x31 := by
        unfold x31
        refine Touches.step (State.setRegs_touches _ _ _) (by decide) ?_
        assumption
      clear_value x31
      have h40 : Touches 0x5fc6618 s x32 := by
        unfold x32
        refine Touches.step (State.setCtx_touches _ _ _) (by decide) ?_
        assumption
      clear_value x32
      have h41 : Touches 0x5fc6618 s x33 := by
        unfold x33
        split
        · refine Touches.step (State.count_touches _ _ _) (by decide) ?_
          assumption
        · assumption
      clear_value x33
      have h42 : Touches 0x5fc6618 s x35 := by
        unfold x35
        split
        · extract_lets x43 x44 x45
          clear_value x43 x44
          have h46 : Touches 0x5fc6618 s x45 := by
            unfold x45
            refine Touches.step (State.fillGrain_touches _ _ _ _ _) (by decide) ?_
            assumption
          clear_value x45
          refine Touches.step (State.giveGrain_touches _ _ _ _ _ _ _ _ _ _) (by decide) ?_
          assumption
        · assumption
      clear_value x35
      split
      · refine Touches.step (State.setWait_touches _ _ _) (by decide) ?_
        assumption
      · split
        · refine Touches.step (State.finish_touches _ _) (by decide) ?_
          assumption
        · assumption

theorem State.residue_touches (s : State) (a1 : Nat) (a2 : Nat) (a3 : Residue) :
    Touches2 0x4bc2608 s (State.residue s a1 a2 a3) := by
  unfold State.residue
  extract_lets x0 x1
  clear_value x0 x1
  split
  · refine Touches2.mk ?_
    exact Touches.refl _ _
  · split
    · refine Touches2.mk ?_
      exact Touches.refl _ _
    · refine Touches2.mk ?_
      refine Touches.step (State.raise_touches _ _) (by decide) ?_
      exact (State.count_touches _ _ _).mono (by decide)
    · refine Touches2.mk ?_
      refine Touches.step (State.raise_touches _ _) (by decide) ?_
      exact (State.count_touches _ _ _).mono (by decide)
    · refine Touches2.mk ?_
      refine Touches.step (State.fault_touches _ _ _ _) (by decide) ?_
      refine Touches.step (State.raise_touches _ _) (by decide) ?_
      exact (State.count_touches _ _ _).mono (by decide)

theorem State.afterExec_touches (s : State) (a1 : Nat) (a2 : Nat) :
    Touches 0x1c0008 s (State.afterExec s a1 a2) := by
  unfold State.afterExec
  split
  · exact (State.reach_touches _ _ _ _).mono (by decide)
  · exact Touches.refl _ _

theorem State.runBundle_touches (s : State) (a1 : Nat) (a2 : Nat) (a3 : Bundle) :
    Touches 0x5fc6618 s (State.runBundle s a1 a2 a3) := by
  unfold State.runBundle
  extract_lets x0 x1
  clear_value x0 x1
  split
  · split
    · refine Touches.step (State.reach_touches _ _ _ _) (by decide) ?_
      refine Touches.step (State.setWait_touches _ _ _) (by decide) ?_
      exact Touches.refl _ _
    · split
      · refine Touches.step (State.fault_touches _ _ _ _) (by decide) ?_
        exact Touches.refl _ _
      · refine Touches.step (State.afterExec_touches _ _ _) (by decide) ?_
        refine Touches.step (State.perform_touches _ _ _ _ _ _ _ _) (by decide) ?_
        exact Touches.refl _ _
  · split
    · rename_i w2 w3 w4 w5 w6 w7 w8 w9
      have h10 : Touches 0x5fc6618 s w8 := by
        refine Touches2.of w9 ?_
        refine Touches2.step (State.tryAlloc_touches _ _ _) (by decide) ?_
        exact Touches.refl _ _
      refine Touches.step (State.waitAlloc_touches _ _ _) (by decide) ?_
      assumption
    · rename_i w11 w12 w13 w14 w15 w16 w17 w18 w19
      have h20 : Touches 0x5fc6618 s w18 := by
        refine Touches2.of w19 ?_
        refine Touches2.step (State.tryAlloc_touches _ _ _) (by decide) ?_
        exact Touches.refl _ _
      refine Touches.step (State.afterExec_touches _ _ _) (by decide) ?_
      refine Touches.step (State.perform_touches _ _ _ _ _ _ _ _) (by decide) ?_
      assumption
  · refine Touches.step (State.afterExec_touches _ _ _) (by decide) ?_
    refine Touches.step (State.perform_touches _ _ _ _ _ _ _ _) (by decide) ?_
    exact Touches.refl _ _

theorem State.issue_touches (s : State) (a1 : Nat) (a2 : Nat) (a3 : Residue) :
    Touches 0x5fc6618 s (State.issue s a1 a2 a3) := by
  unfold State.issue
  extract_lets x0 x1 x2 x3 x4 x5
  clear_value x0 x1 x2 x3
  have h6 : Touches 0x5fc6618 s x4 := by
    unfold x4
    refine Touches.step (State.setRegs_touches _ _ _) (by decide) ?_
    exact Touches.refl _ _
  clear_value x4
  have h7 : Touches 0x5fc6618 s x5 := by
    unfold x5
    split
    · refine Touches.step (State.requestPipe_touches _ _ _) (by decide) ?_
      assumption
    · assumption
  clear_value x5
  split
  · refine Touches.step (State.fault_touches _ _ _ _) (by decide) ?_
    exact Touches.refl _ _
  · split
    · refine Touches.step (State.finish_touches _ _) (by decide) ?_
      refine Touches.step (State.setRegs_touches _ _ _) (by decide) ?_
      exact Touches.refl _ _
    · split
      · refine Touches.step (State.fault_touches _ _ _ _) (by decide) ?_
        exact Touches.refl _ _
      · split
        · refine Touches.step (State.fault_touches _ _ _ _) (by decide) ?_
          exact Touches.refl _ _
        · split
          · refine Touches.step (State.setWait_touches _ _ _) (by decide) ?_
            assumption
          · split
            · rename_i w8 w9 w10 w11 w12 w13 w14 w15 w16 w17
              have h18 : Touches 0x5fc6618 s w16 := by
                refine Touches2.of w17 ?_
                split
                · refine Touches2.step (State.residue_touches _ _ _ _) (by decide) ?_
                  assumption
                · refine Touches2.mk ?_
                  assumption
              split
              · assumption
              · split
                · refine Touches.step (State.fault_touches _ _ _ _) (by decide) ?_
                  assumption
                · split
                  · refine Touches.step (State.runBundle_touches _ _ _ _) (by decide) ?_
                    assumption
                  · split
                    · refine Touches.step (State.fault_touches _ _ _ _) (by decide) ?_
                      assumption
                    · split
                      · refine Touches.step (State.setWait_touches _ _ _) (by decide) ?_
                        assumption
                      · split
                        · refine Touches.step (State.fault_touches _ _ _ _) (by decide) ?_
                          assumption
                        · refine Touches.step (State.runBundle_touches _ _ _ _) (by decide) ?_
                          assumption

theorem State.issueStock_touches (s : State) (a1 : Nat) (a2 : Nat) (a3 : Residue) :
    Touches 0x4bc6618 s (State.issueStock s a1 a2 a3) := by
  unfold State.issueStock
  extract_lets x0 x1
  clear_value x0
  have h2 : Touches 0x4bc6618 s x1 := by
    unfold x1
    refine Touches.step (State.requestPipe_touches _ _ _) (by decide) ?_
    exact Touches.refl _ _
  clear_value x1
  split
  · refine Touches.step (State.layerAdvance_touches _ _) (by decide) ?_
    refine Touches.step (State.setWait_touches _ _ _) (by decide) ?_
    exact Touches.refl _ _
  · split
    · refine Touches.step (State.setWait_touches _ _ _) (by decide) ?_
      assumption
    · split
      · rename_i w3 w4 w5 w6 w7 w8
        have h9 : Touches 0x4bc6618 s w7 := by
          refine Touches2.of w8 ?_
          refine Touches2.step (State.residue_touches _ _ _ _) (by decide) ?_
          assumption
        split
        · assumption
        · extract_lets x10
          clear_value x10
          refine Touches.step (State.setWait_touches _ _ _) (by decide) ?_
          refine Touches.step (State.setStream_touches _ _ _) (by decide) ?_
          assumption

end Sys2Proof.Machine
end

