-- ==== Sys2Proof/Laws/FrameThreads.lean ====
section
/-! SUPPORT. What each operation of Machine/Threads.lean can touch: its mask, memory's canonical form, the fuses' trust. -/

namespace Sys2Proof.Machine

theorem State.unseat_touches (s : State) (a1 : Nat) :
    Touches 0x80000 s (State.unseat s a1) := by
  unfold State.unseat
  refine Touches.step (State.putRec_touches _ _ _ _ _) (by decide) ?_
  refine Touches.step (State.putRec_touches _ _ _ _ _) (by decide) ?_
  exact (State.setCtx_touches _ _ _).mono (by decide)

theorem State.unwait_touches (s : State) (a1 : Nat) :
    Touches 0x82000 s (State.unwait s a1) := by
  unfold State.unwait
  extract_lets x0
  have h1 : Touches 0x82000 s x0 := by
    unfold x0
    exact (State.dropAllocs_touches _ _).mono (by decide)
  clear_value x0
  split
  · exact Touches.step (State.setWait_touches _ _ _) (by decide) (by assumption)
  · assumption

theorem State.rewake_touches (s : State) (a1 : Nat) (a2 : Nat) :
    Touches 0x4bc2608 s (State.rewake s a1 a2) := by
  unfold State.rewake
  split
  · exact Touches.refl _ _
  · split
    · split
      · refine Touches.step (State.requestPipe_touches _ _ _) (by decide) ?_
        exact Touches.refl _ _
      · exact Touches.refl _ _
    · refine Touches.step (State.finish_touches _ _) (by decide) ?_
      exact Touches.refl _ _
    · exact Touches.refl _ _

theorem State.loadFail_touches (s : State) (a1 : Nat) :
    Touches 0x8 s (State.loadFail s a1) := by
  unfold State.loadFail
  exact (State.count_touches _ _ _).mono (by decide)

theorem State.resetCtx_touches (s : State) (a1 : Nat) (a2 : Nat) :
    Touches 0x7bc2608 s (State.resetCtx s a1 a2) := by
  unfold State.resetCtx
  extract_lets x0 x1 x2 x3 x4 x5 x6 x7 x8
  clear_value x0 x2 x3
  have h9 : Touches 0x7bc2608 s x1 := by
    unfold x1
    refine Touches.step (State.unwait_touches _ _) (by decide) ?_
    refine Touches.step (State.leavePipe_touches _ _ _) (by decide) ?_
    exact Touches.refl _ _
  clear_value x1
  have h10 : Touches 0x7bc2608 s x4 := by
    unfold x4
    refine Touches.step (State.endMove_touches _ _) (by decide) ?_
    assumption
  clear_value x4
  have h11 : Touches 0x7bc2608 s x5 := by
    unfold x5
    split
    · assumption
    · refine Touches.step (State.setCtx_touches _ _ _) (by decide) ?_
      assumption
  clear_value x5
  have h12 : Touches 0x7bc2608 s x6 := by
    unfold x6
    refine Touches.step (State.setRegs_touches _ _ _) (by decide) ?_
    assumption
  clear_value x6
  have h13 : Touches 0x7bc2608 s x7 := by
    unfold x7
    refine Touches.step (State.putRec_touches _ _ _ _ _) (by decide) ?_
    refine Touches.step (State.putRec_touches _ _ _ _ _) (by decide) ?_
    assumption
  clear_value x7
  have h14 : Touches 0x7bc2608 s x8 := by
    unfold x8
    split
    · assumption
    · refine Touches.step (State.saveArea_touches _ _) (by decide) ?_
      assumption
  clear_value x8
  split
  · refine Touches.step (State.ltdIdle_touches _ _) (by decide) ?_
    refine Touches.step (State.setCtxState_touches _ _ _) (by decide) ?_
    refine Touches.step (State.unseat_touches _ _) (by decide) ?_
    refine Touches.step (State.loadFail_touches _ _) (by decide) ?_
    assumption
  · split
    · refine Touches.step (State.unseat_touches _ _) (by decide) ?_
      assumption
    · split
      · refine Touches.step (State.unseat_touches _ _) (by decide) ?_
        refine Touches.step (State.fault_touches _ _ _ _) (by decide) ?_
        assumption
      · refine Touches.step (State.setCtxState_touches _ _ _) (by decide) ?_
        refine Touches.step (State.unseat_touches _ _) (by decide) ?_
        assumption

theorem State.resetLathe_touches (s : State) (a1 : Nat) :
    Touches 0x7bc2608 s (State.resetLathe s a1) := by
  unfold State.resetLathe
  extract_lets x0 x1 x2 x3 x4 x5 x6 x7
  clear_value x0 x5 x7
  have h8 : Touches 0x7bc2608 s x1 := by
    unfold x1
    refine Touches.step (State.sampleLathe_touches _ _) (by decide) ?_
    exact Touches.refl _ _
  clear_value x1
  have h9 : Touches 0x7bc2608 s x2 := by
    unfold x2
    refine Touches.step (State.setLathe_touches _ _ _) (by decide) ?_
    assumption
  clear_value x2
  have h10 : Touches 0x7bc2608 s x3 := by
    unfold x3
    refine Touches.foldl ?_ ?_
    · intro z11
      intro z12
      refine Touches.step (State.resetCtx_touches _ _ _) (by decide) ?_
      exact Touches.refl _ _
    · assumption
  clear_value x3
  have h13 : Touches 0x7bc2608 s x4 := by
    unfold x4
    refine Touches.step (State.reclaimNow_touches _ _) (by decide) ?_
    assumption
  clear_value x4
  have h14 : Touches 0x7bc2608 s x6 := by
    unfold x6
    refine Touches.step (Touches.set_err x4 _) (by decide) ?_
    assumption
  clear_value x6
  refine Touches.step (State.setLathe_touches _ _ _) (by decide) ?_
  refine Touches.step (State.ltBusy_touches _ _ _) (by decide) ?_
  assumption

theorem State.resumeReset_touches (s : State) (a1 : Nat) :
    Touches 0x7bc2608 s (State.resumeReset s a1) := by
  unfold State.resumeReset
  split
  · refine Touches.step (State.resetLathe_touches _ _) (by decide) ?_
    exact Touches.refl _ _
  · exact Touches.refl _ _

theorem execBundleExecute_touches (a0 : Lathe) (a1 : Residue) (s : State) :
    TouchesX 0x7fc6618 s (execBundleExecute a0 a1 s) := by
  unfold execBundleExecute
  extract_lets x0
  clear_value x0
  split
  · refine TouchesX.next_ ?_
    exact Touches.refl _ _
  · split
    · refine TouchesX.next_ ?_
      exact Touches.refl _ _
    · extract_lets x1
      have h2 : Touches 0x7fc6618 s x1 := by
        unfold x1
        refine Touches.step (State.setLathe_touches _ _ _) (by decide) ?_
        exact Touches.refl _ _
      clear_value x1
      refine TouchesX.next_ ?_
      refine Touches.step (State.resumeReset_touches _ _) (by decide) ?_
      split
      · refine Touches.step (State.issueStock_touches _ _ _ _) (by decide) ?_
        assumption
      · refine Touches.step (State.issue_touches _ _ _ _) (by decide) ?_
        assumption

theorem State.grainStep_touches (s : State) (a1 : Nat) (a2 : Nat) (a3 : Stream) :
    Touches 0x5fc6618 s (State.grainStep s a1 a2 a3) := by
  unfold State.grainStep
  extract_lets x0 x1
  clear_value x0
  have h2 : Touches 0x5fc6618 s x1 := by
    unfold x1
    refine Touches.step (State.absorbAll_touches _ _ _ _) (by decide) ?_
    exact Touches.refl _ _
  clear_value x1
  split
  · refine Touches.step (State.reach_touches _ _ _ _) (by decide) ?_
    assumption
  · split
    · refine Touches.step (State.reach_touches _ _ _ _) (by decide) ?_
      assumption
    · split
      · rename_i w3 w4 w5 w6 w7
        have h8 : Touches 0x5fc6618 s w6 := by
          refine Touches2.of w7 ?_
          refine Touches2.step (State.complete_touches _ _ _) (by decide) ?_
          assumption
        refine Touches.step (State.reach_touches _ _ _ _) (by decide) ?_
        assumption
      · rename_i w9 w10 w11 w12 w13
        have h14 : Touches 0x5fc6618 s w12 := by
          refine Touches2.of w13 ?_
          refine Touches2.step (State.complete_touches _ _ _) (by decide) ?_
          assumption
        refine Touches.step (State.reach_touches _ _ _ _) (by decide) ?_
        assumption
      · rename_i w15 w16 w17 w18 w19
        have h20 : Touches 0x5fc6618 s w18 := by
          refine Touches2.of w19 ?_
          refine Touches2.step (State.complete_touches _ _ _) (by decide) ?_
          assumption
        refine Touches.step (State.settleStop_touches _ _) (by decide) ?_
        refine Touches.step (State.waitAlloc_touches _ _ _) (by decide) ?_
        assumption
      · rename_i w21 w22 w23 w24 w25
        have h26 : Touches 0x5fc6618 s w24 := by
          refine Touches2.of w25 ?_
          refine Touches2.step (State.complete_touches _ _ _) (by decide) ?_
          assumption
        refine Touches.step (State.setWait_touches _ _ _) (by decide) ?_
        assumption

theorem execGrainBoundary_touches (a0 : GrainDone) (s : State) :
    TouchesX 0x7fc6618 s (execGrainBoundary a0 s) := by
  unfold execGrainBoundary
  extract_lets x0
  clear_value x0
  split
  · refine TouchesX.next_ ?_
    refine Touches.step (State.resumeReset_touches _ _) (by decide) ?_
    refine Touches.step (State.grantNext_touches _ _) (by decide) ?_
    exact Touches.refl _ _
  · split
    · refine TouchesX.next_ ?_
      exact Touches.refl _ _
    · split
      · split
        · rename_i w1 w2 w3 w4 w5 w6 w7 w8 w9 w10 w11
          have h12 : Touches 0x7fc6618 s w10 := by
            refine Touches2.of w11 ?_
            refine Touches2.step (State.residue_touches _ _ _ _) (by decide) ?_
            exact Touches.refl _ _
          refine TouchesX.next_ ?_
          refine Touches.step (State.resumeReset_touches _ _) (by decide) ?_
          split
          · refine Touches.step (State.grainStep_touches _ _ _ _) (by decide) ?_
            assumption
          · assumption
      · extract_lets x13
        have h14 : Touches 0x7fc6618 s x13 := by
          unfold x13
          split
          · refine Touches.step (State.setWait_touches _ _ _) (by decide) ?_
            exact Touches.refl _ _
          · exact Touches.refl _ _
        clear_value x13
        refine TouchesX.next_ ?_
        refine Touches.step (State.resumeReset_touches _ _) (by decide) ?_
        refine Touches.step (State.reach_touches _ _ _ _) (by decide) ?_
        assumption

theorem State.noticed_touches (s : State) (a1 : Nat) (a2 : Nat) :
    Touches 0x5fc6618 s (State.noticed s a1 a2) := by
  unfold State.noticed
  split
  · exact Touches.refl _ _
  · split
    · split
      · exact Touches.refl _ _
      · refine Touches.step (State.setWait_touches _ _ _) (by decide) ?_
        exact Touches.refl _ _
    · extract_lets x0
      have h1 : Touches 0x5fc6618 s x0 := by
        unfold x0
        refine Touches.step (State.requestPipe_touches _ _ _) (by decide) ?_
        exact Touches.refl _ _
      clear_value x0
      split
      · refine Touches2.snd ?_
        refine Touches2.step (State.absorb_touches _ _ _) (by decide) ?_
        assumption
      · assumption

theorem execArrivalNotice_touches (a0 : Ctx) (s : State) :
    TouchesX 0x7fc6618 s (execArrivalNotice a0 s) := by
  unfold execArrivalNotice
  split
  · refine TouchesX.next_ ?_
    exact Touches.refl _ _
  · refine TouchesX.next_ ?_
    refine Touches.step (State.resumeReset_touches _ _) (by decide) ?_
    refine Touches.step (State.noticed_touches _ _ _) (by decide) ?_
    exact Touches.refl _ _

theorem State.operandsIn_touches (s : State) (a1 : Nat) (a2 : Nat) :
    Touches 0x5fc6618 s (State.operandsIn s a1 a2) := by
  unfold State.operandsIn
  split
  · extract_lets x0 x1
    clear_value x0 x1
    split
    · refine Touches.step (State.runBundle_touches _ _ _ _) (by decide) ?_
      exact Touches.refl _ _
    · split
      · refine Touches.step (State.winDrop_touches _ _ _ _) (by decide) ?_
        exact Touches.refl _ _
      · split
        · refine Touches.step (State.fault_touches _ _ _ _) (by decide) ?_
          exact Touches.refl _ _
        · refine Touches.step (State.runBundle_touches _ _ _ _) (by decide) ?_
          exact Touches.refl _ _
  · split
    · refine Touches.step (State.setWait_touches _ _ _) (by decide) ?_
      exact Touches.refl _ _
    · split
      · refine Touches.step (State.winDrop_touches _ _ _ _) (by decide) ?_
        exact Touches.refl _ _
      · extract_lets x2
        have h3 : Touches 0x5fc6618 s x2 := by
          unfold x2
          refine Touches.step (State.setWait_touches _ _ _) (by decide) ?_
          exact Touches.refl _ _
        clear_value x2
        split
        · rename_i w4 w5 w6 w7 w8 w9 w10 w11 w12 w13 w14
          have h15 : Touches 0x5fc6618 s w13 := by
            refine Touches2.of w14 ?_
            refine Touches2.step (State.outPtr_touches _ _ _ _) (by decide) ?_
            assumption
          refine Touches.step (State.settleStop_touches _ _) (by decide) ?_
          refine Touches.step (State.waitAlloc_touches _ _ _) (by decide) ?_
          assumption
        · rename_i w16 w17 w18 w19 w20 w21 w22 w23 w24 w25 w26 w27
          have h28 : Touches 0x5fc6618 s w26 := by
            refine Touches2.of w27 ?_
            refine Touches2.step (State.outPtr_touches _ _ _ _) (by decide) ?_
            assumption
          extract_lets x29
          have h30 : Touches 0x5fc6618 s x29 := by
            unfold x29
            refine Touches.step (State.gatherGrain_touches _ _ _ _ _ _) (by decide) ?_
            assumption
          clear_value x29
          refine Touches.step (State.reach_touches _ _ _ _) (by decide) ?_
          assumption

theorem execWindowOperandArrive_touches (a0 : Ctx) (s : State) :
    TouchesX 0x7fc6618 s (execWindowOperandArrive a0 s) := by
  unfold execWindowOperandArrive
  extract_lets x0
  clear_value x0
  split
  · refine TouchesX.next_ ?_
    exact Touches.refl _ _
  · split
    · refine TouchesX.next_ ?_
      refine Touches.step (State.resumeReset_touches _ _) (by decide) ?_
      refine Touches.step (State.operandsIn_touches _ _ _) (by decide) ?_
      exact Touches.refl _ _
    · refine TouchesX.next_ ?_
      exact Touches.refl _ _

theorem State.fenceDone_touches (s : State) (a1 : Nat) :
    Touches 0x4bc2608 s (State.fenceDone s a1) := by
  unfold State.fenceDone
  split
  · extract_lets x0
    have h1 : Touches 0x4bc2608 s x0 := by
      unfold x0
      refine Touches.step (State.finish_touches _ _) (by decide) ?_
      exact Touches.refl _ _
    clear_value x0
    split
    · assumption
    · refine Touches.step (State.settleStop_touches _ _) (by decide) ?_
      assumption
  · exact Touches.refl _ _

theorem execWindowWriteAccepted_touches (a0 : Ctx) (s : State) :
    TouchesX 0x4bc2608 s (execWindowWriteAccepted a0 s) := by
  unfold execWindowWriteAccepted
  extract_lets x0 x1
  clear_value x0
  have h2 : Touches 0x4bc2608 s x1 := by
    unfold x1
    refine Touches.step (State.setRegs_touches _ _ _) (by decide) ?_
    exact Touches.refl _ _
  clear_value x1
  refine TouchesX.next_ ?_
  refine Touches.step (State.fenceDone_touches _ _) (by decide) ?_
  assumption

theorem State.allocGranted_touches (s : State) (a1 : Nat) (a2 : Nat) :
    Touches 0x4bc6618 s (State.allocGranted s a1 a2) := by
  unfold State.allocGranted
  split
  · extract_lets x0
    have h1 : Touches 0x4bc6618 s x0 := by
      unfold x0
      refine Touches.step (State.setWait_touches _ _ _) (by decide) ?_
      exact Touches.refl _ _
    clear_value x0
    refine Touches.step (State.requestPipe_touches _ _ _) (by decide) ?_
    assumption
  · refine Touches.step (State.layerAdvance_touches _ _) (by decide) ?_
    exact Touches.refl _ _

theorem State.grantWait_touches (s : State) (a1 : Nat) (a2 : List AllocWait) :
    Touches 0x4bc6618 s (State.grantWait s a1 a2) := by
  unfold State.grantWait
  split
  · exact Touches.refl _ _
  · split
    · split
      · split
        · rename_i w0 w1 w2 w3 w4 w5 w6 w7 w8 w9
          have h10 : Touches 0x4bc6618 s w8 := by
            refine Touches2.of w9 ?_
            refine Touches2.step (State.admitAlloc_touches _ _ _) (by decide) ?_
            exact Touches.refl _ _
          split
          · split
            · rename_i w11 w12 w13 w14 w15
              have h16 : Touches 0x4bc6618 s w14 := by
                refine TouchesO2.of w15 ?_
                refine TouchesO2.step (State.allocN_touches _ _ _ _ _ _) (by decide) ?_
                assumption
              refine Touches.step (State.withBench_touches _ _) (by decide) ?_
              assumption
            · rename_i w17 w18 w19
              refine Touches.step (State.grantWait_touches _ _ _) (by decide) ?_
              assumption
          · refine Touches.step (State.grantWait_touches _ _ _) (by decide) ?_
            assumption
      · refine Touches.step (State.grantWait_touches _ _ _) (by decide) ?_
        exact Touches.refl _ _
    · split
      · split
        · rename_i w20 w21 w22 w23 w24 w25 w26 w27 w28 w29
          have h30 : Touches 0x4bc6618 s w28 := by
            refine Touches2.of w29 ?_
            refine Touches2.step (State.tryAlloc_touches _ _ _) (by decide) ?_
            exact Touches.refl _ _
          refine Touches.step (State.grantWait_touches _ _ _) (by decide) ?_
          assumption
        · rename_i w31 w32 w33 w34 w35 w36 w37 w38 w39 w40 w41
          have h42 : Touches 0x4bc6618 s w40 := by
            refine Touches2.of w41 ?_
            refine Touches2.step (State.tryAlloc_touches _ _ _) (by decide) ?_
            exact Touches.refl _ _
          extract_lets x43
          have h44 : Touches 0x4bc6618 s x43 := by
            unfold x43
            refine Touches.step (State.withBench_touches _ _) (by decide) ?_
            assumption
          clear_value x43
          refine Touches.step (State.allocGranted_touches _ _ _) (by decide) ?_
          assumption
      · refine Touches.step (State.grantWait_touches _ _ _) (by decide) ?_
        exact Touches.refl _ _

theorem execAllocWaitGranted_touches (a0 : Lathe) (s : State) :
    TouchesX 0x4bc6618 s (execAllocWaitGranted a0 s) := by
  unfold execAllocWaitGranted
  refine TouchesX.next_ ?_
  refine Touches.step (State.grantWait_touches _ _ _) (by decide) ?_
  exact Touches.refl _ _

theorem execPartialArrival_touches (a0 : Ctx) (a1 : Ctx) (s : State) :
    TouchesX 0x7fc6618 s (execPartialArrival a0 a1 s) := by
  unfold execPartialArrival
  extract_lets x0 x1
  clear_value x0 x1
  split
  · refine TouchesX.next_ ?_
    exact Touches.refl _ _
  · split
    · refine TouchesX.next_ ?_
      exact Touches.refl _ _
    · extract_lets x2 x3
      have h4 : Touches 0x7fc6618 s x2 := by
        unfold x2
        refine Touches.step (State.setColl_touches _ _ _) (by decide) ?_
        exact Touches.refl _ _
      clear_value x2
      have h5 : Touches 0x7fc6618 s x3 := by
        unfold x3
        refine Touches.step (State.setColl_touches _ _ _) (by decide) ?_
        assumption
      clear_value x3
      split
      · refine TouchesX.next_ ?_
        refine Touches.step (State.resumeReset_touches _ _) (by decide) ?_
        refine Touches.step (State.noticed_touches _ _ _) (by decide) ?_
        assumption
      · refine TouchesX.next_ ?_
        assumption

theorem execWatchdogBite_touches (a0 : Lathe) (s : State) :
    TouchesX 0x7bc2608 s (execWatchdogBite a0 s) := by
  unfold execWatchdogBite
  extract_lets x0 x1 x2
  clear_value x0 x1
  have h3 : Touches 0x7bc2608 s x2 := by
    unfold x2
    refine Touches.step (State.count_touches _ _ _) (by decide) ?_
    exact Touches.refl _ _
  clear_value x2
  split
  · refine TouchesX.next_ ?_
    exact Touches.refl _ _
  · split
    · refine TouchesX.next_ ?_
      exact Touches.refl _ _
    · extract_lets x4 x5
      have h6 : Touches 0x7bc2608 s x4 := by
        unfold x4
        refine Touches.step (State.setFld_touches _ _ _ _) (by decide) ?_
        refine Touches.step (State.setFld_touches _ _ _ _) (by decide) ?_
        assumption
      clear_value x4
      have h7 : Touches 0x7bc2608 s x5 := by
        unfold x5
        refine Touches.step (State.fault_touches _ _ _ _) (by decide) ?_
        assumption
      clear_value x5
      refine TouchesX.next_ ?_
      refine Touches.step (State.resumeReset_touches _ _) (by decide) ?_
      refine Touches.step (State.setLathe_touches _ _ _) (by decide) ?_
      assumption

theorem execPipelineDrainTimeout_touches (a0 : Lathe) (s : State) :
    TouchesX 0x100208 s (execPipelineDrainTimeout a0 s) := by
  unfold execPipelineDrainTimeout
  extract_lets x0 x1 x2
  clear_value x0
  have h3 : Touches 0x100208 s x1 := by
    unfold x1
    exact (State.setLathe_touches _ _ _).mono (by decide)
  clear_value x1 x2
  split
  · refine TouchesX.next_ ?_
    exact Touches.step (State.raise_touches _ _) (by decide) (by assumption)
  · refine TouchesX.next_ ?_
    exact Touches.refl _ _

theorem execPacedReleaseTick_touches (a0 : Ctx) (s : State) :
    TouchesX 0x4bc2618 s (execPacedReleaseTick a0 s) := by
  unfold execPacedReleaseTick
  extract_lets x0
  clear_value x0
  split
  · refine TouchesX.next_ ?_
    exact Touches.refl _ _
  · split
    · refine TouchesX.next_ ?_
      exact Touches.refl _ _
    · extract_lets x1 x2
      have h3 : Touches 0x4bc2618 s x1 := by
        unfold x1
        refine Touches.step (State.setColl_touches _ _ _) (by decide) ?_
        exact Touches.refl _ _
      clear_value x1
      have h4 : Touches 0x4bc2618 s x2 := by
        unfold x2
        refine Touches.step (State.emitResult_touches _ _ _ _ _ _ _ _ _ _ _) (by decide) ?_
        assumption
      clear_value x2
      refine TouchesX.next_ ?_
      refine Touches.step (State.maybeEnd_touches _ _) (by decide) ?_
      refine Touches.step (State.fenceDone_touches _ _) (by decide) ?_
      refine Touches.step (State.unref_touches _ _) (by decide) ?_
      assumption

theorem State.planSlot_touches (s : State) (a1 : Nat) (a2 : Nat) (a3 : Nat) :
    Touches 0x8 s (State.planSlot s a1 a2 a3) := by
  unfold State.planSlot
  refine Touches.step (State.setFld_touches _ _ _ _) (by decide) ?_
  exact (State.setFld_touches _ _ _ _).mono (by decide)

theorem execLtSlotWrite_touches (a0 : Writer) (a1 : Lathe) (a2 : Fin 16) (a3 : W64) (s : State) :
    TouchesX 0x8 s (execLtSlotWrite a0 a1 a2 a3 s) := by
  unfold execLtSlotWrite
  extract_lets x0 x1 x2 x3
  clear_value x0 x1 x2 x3
  refine TouchesX.next_ ?_
  refine Touches.step (State.fenced_touches (m := 0x8) _ _ _ _ _ (by decide) ?_) (by decide) ?_
  · intro z4
    extract_lets x5
    clear_value x5
    split
    · exact (State.ltRefuse_touches _ _).mono (by decide)
    · split
      · exact (State.ltRefuse_touches _ _).mono (by decide)
      · refine Touches.step (State.setFld_touches _ _ _ _) (by decide) ?_
        exact (State.setFld_touches _ _ _ _).mono (by decide)
  · exact Touches.refl _ _

end Sys2Proof.Machine
end

