-- ==== Sys2Proof/Laws/FrameResidency.lean ====
section
/-! SUPPORT. What each operation of Machine/Residency.lean can touch: its mask, memory's canonical form, the fuses' trust. -/

namespace Sys2Proof.Machine

theorem State.beginTakeover_touches (s : State) (a1 : Nat) :
    Touches 0x100048 s (State.beginTakeover s a1) := by
  unfold State.beginTakeover
  extract_lets x0
  have h1 : Touches 0x100048 s x0 := by
    unfold x0
    refine Touches.step (State.ltBusy_touches _ _ _) (by decide) ?_
    refine Touches.step (State.setLathe_touches _ _ _) (by decide) ?_
    exact Touches.refl _ _
  clear_value x0
  split
  · assumption
  · refine Touches.step (State.domWake_touches _ _) (by decide) ?_
    assumption

theorem State.failLathe_touches (s : State) (a1 : Nat) :
    Touches 0x4b00648 s (State.failLathe s a1) := by
  unfold State.failLathe
  extract_lets x0 x1 x2 x3 x4
  clear_value x0
  have h5 : Touches 0x4b00648 s x1 := by
    unfold x1
    refine Touches.step (State.ltBusy_touches _ _ _) (by decide) ?_
    exact (State.setFld_touches _ _ _ _).mono (by decide)
  clear_value x1
  have h6 : Touches 0x4b00648 s x2 := by
    unfold x2
    exact Touches.step (State.setLathe_touches _ _ _) (by decide) (by assumption)
  clear_value x2
  have h7 : Touches 0x4b00648 s x3 := by
    unfold x3
    split
    · assumption
    · refine Touches.step (State.setWake_touches _ _ _) (by decide) ?_
      exact Touches.step (State.setDom_touches _ _ _) (by decide) (by assumption)
  clear_value x3
  have h8 : Touches 0x4b00648 s x4 := by
    unfold x4
    exact Touches.step (State.post_touches _ _) (by decide) (by assumption)
  clear_value x4
  split
  · split
    · exact Touches.step (State.beginTakeover_touches _ _) (by decide) (by assumption)
    · assumption
  · assumption

theorem State.finishTakeover_touches (s : State) (a1 : Nat) :
    Touches 0x100008 s (State.finishTakeover s a1) := by
  unfold State.finishTakeover
  split
  · exact Touches.refl _ _
  · extract_lets x0
    have h1 : Touches 0x100008 s x0 := by
      unfold x0
      refine Touches.step (State.ltBusy_touches _ _ _) (by decide) ?_
      exact (State.setLathe_touches _ _ _).mono (by decide)
    clear_value x0
    split
    · assumption
    · extract_lets x2 x3
      clear_value x2
      have h4 : Touches 0x100008 s x3 := by
        unfold x3
        exact Touches.step (State.setFld_touches _ _ _ _) (by decide) (by assumption)
      clear_value x3
      refine Touches.step (State.setFld_touches _ _ _ _) (by decide) ?_
      exact Touches.step (State.setFld_touches _ _ _ _) (by decide) (by assumption)

theorem State.ltCommand_touches {m : Nat} (s : State) (a1 : Writer) (a2 : Nat) (a3 : State → Bool) (a4 : State → State)
    (hm : 0x8 ||| m = m) (h : ∀ s, Touches m s (a4 s)) : Touches m s (State.ltCommand s a1 a2 a3 a4) := by
  unfold State.ltCommand
  refine State.fenced_touches _ _ _ _ _ hm (fun s => ?_)
  split
  · exact (State.ltRefuse_touches _ _).mono hm
  · exact h _

theorem execTakeover_touches (a0 : Writer) (a1 : Lathe) (s : State) :
    TouchesX 0x100048 s (execTakeover a0 a1 s) := by
  unfold execTakeover
  refine TouchesX.next_ ?_
  refine Touches.step (State.ltCommand_touches (m := 0x100048) _ _ _ _ _ (by decide) ?_) (by decide) ?_
  · intro z0
    exact (State.beginTakeover_touches _ _).mono (by decide)
  · exact Touches.refl _ _

theorem State.loadYields_touches (s : State) (a1 : Nat) :
    Touches 0x80008 s (State.loadYields s a1) := by
  unfold State.loadYields
  extract_lets x0 x1 x2 x3
  clear_value x0 x1
  have h4 : Touches 0x80008 s x2 := by
    unfold x2
    refine Touches.step (State.count_touches _ _ _) (by decide) ?_
    refine Touches.step (State.ltdIdle_touches _ _) (by decide) ?_
    exact Touches.refl _ _
  clear_value x2
  have h5 : Touches 0x80008 s x3 := by
    unfold x3
    refine Touches.step (State.setCtx_touches _ _ _) (by decide) ?_
    assumption
  clear_value x3
  split
  · assumption
  · refine Touches.step (State.setCtxState_touches _ _ _) (by decide) ?_
    assumption

theorem State.beginMove_touches (s : State) (a1 : Nat) (a2 : Nat) (a3 : Move) :
    Touches 0x1c2008 s (State.beginMove s a1 a2 a3) := by
  unfold State.beginMove
  extract_lets x0 x1 x2 x3
  clear_value x1
  have h4 : Touches 0x1c2008 s x0 := by
    unfold x0
    split
    · refine Touches.step (State.loadYields_touches _ _) (by decide) ?_
      exact Touches.refl _ _
    · exact Touches.refl _ _
  clear_value x0
  have h5 : Touches 0x1c2008 s x2 := by
    unfold x2
    refine Touches.step (State.ltBusy_touches _ _ _) (by decide) ?_
    refine Touches.step (State.unwait_touches _ _) (by decide) ?_
    assumption
  clear_value x2
  have h6 : Touches 0x1c2008 s x3 := by
    unfold x3
    refine Touches.step (State.setCtx_touches _ _ _) (by decide) ?_
    assumption
  clear_value x3
  split
  · assumption
  · refine Touches.step (State.settleStop_touches _ _) (by decide) ?_
    assumption

theorem execEvict_touches (a0 : Writer) (a1 : Lathe) (a2 : Ctx) (s : State) :
    TouchesX 0x1c2008 s (execEvict a0 a1 a2 s) := by
  unfold execEvict
  extract_lets x0
  clear_value x0
  refine TouchesX.next_ ?_
  refine Touches.step (State.ltCommand_touches (m := 0x1c2008) _ _ _ _ _ (by decide) ?_) (by decide) ?_
  · intro z1
    exact (State.beginMove_touches _ _ _ _).mono (by decide)
  · exact Touches.refl _ _

theorem execMigrate_touches (a0 : Writer) (a1 : Lathe) (a2 : Ctx) (a3 : Fin 16) (a4 : Fin 256) (s : State) :
    TouchesX 0x1c2008 s (execMigrate a0 a1 a2 a3 a4 s) := by
  unfold execMigrate
  extract_lets x0 x1
  clear_value x0 x1
  refine TouchesX.next_ ?_
  refine Touches.step (State.ltCommand_touches (m := 0x1c2008) _ _ _ _ _ (by decide) ?_) (by decide) ?_
  · intro z2
    split
    · exact (State.beginMove_touches _ _ _ _).mono (by decide)
    · exact Touches.refl _ _
  · exact Touches.refl _ _

theorem State.latchColl_touches (s : State) (a1 : Nat) :
    TouchesO 0x80000 s (State.latchColl s a1) := by
  unfold State.latchColl
  extract_lets x0 x1 x2 x3 x4 x5 x6 x7
  clear_value x0 x1 x2
  have h8 : Touches 0x80000 s x3 := by
    unfold x3
    exact (State.setCtx_touches _ _ _).mono (by decide)
  clear_value x3 x4 x5 x6 x7
  split
  · refine TouchesO.some_ ?_
    exact Touches.step (State.setColl_touches _ _ _) (by decide) (by assumption)
  · split
    · refine TouchesO.some_ ?_
      refine Touches.step (State.openCall_touches _ _ _) (by decide) ?_
      exact Touches.step (State.setColl_touches _ _ _) (by decide) (by assumption)
    · exact TouchesO.none_

theorem State.latch_touches (s : State) (a1 : Nat) (a2 : Nat) :
    Touches2 0x4082208 s (State.latch s a1 a2) := by
  unfold State.latch
  extract_lets x0 x1
  clear_value x0
  have h2 : Touches 0x4082208 s x1 := by
    unfold x1
    refine Touches.step (State.setCtx_touches _ _ _) (by decide) ?_
    exact Touches.refl _ _
  clear_value x1
  split
  · refine Touches2.mk ?_
    refine Touches.step (State.startFault_touches _ _ _ _) (by decide) ?_
    exact Touches.refl _ _
  · split
    · rename_i w3 w4 w5 w6
      have h7 : Touches 0x4082208 s w5 := by
        refine TouchesO.of w6 ?_
        refine TouchesO.step (State.latchColl_touches _ _) (by decide) ?_
        assumption
      refine Touches2.mk ?_
      assumption
    · rename_i w8 w9 w10
      refine Touches2.mk ?_
      refine Touches.step (State.startFault_touches _ _ _ _) (by decide) ?_
      assumption

theorem State.beginRestore_touches (s : State) (a1 : Nat) (a2 : Nat) (a3 : Nat) (a4 : Nat) :
    Touches 0x80008 s (State.beginRestore s a1 a2 a3 a4) := by
  unfold State.beginRestore
  extract_lets x0
  have h1 : Touches 0x80008 s x0 := by
    unfold x0
    exact (State.setCtx_touches _ _ _).mono (by decide)
  clear_value x0
  refine Touches.step (State.count_touches _ _ _) (by decide) ?_
  refine Touches.step (State.ltBusy_touches _ _ _) (by decide) ?_
  exact Touches.step (State.setCtxState_touches _ _ _) (by decide) (by assumption)

theorem execReside_touches (a0 : Writer) (a1 : Lathe) (a2 : Ctx) (a3 : Fin 16) (s : State) :
    TouchesX 0x4082208 s (execReside a0 a1 a2 a3 s) := by
  unfold execReside
  extract_lets x0 x1
  clear_value x0 x1
  refine TouchesX.next_ ?_
  refine Touches.step (State.ltCommand_touches (m := 0x4082208) _ _ _ _ _ (by decide) ?_) (by decide) ?_
  · intro z2
    split
    · split
      · rename_i w3 w4 w5 w6 w7
        have h8 : Touches 0x4082208 z2 w6 := by
          refine Touches2.of w7 ?_
          refine Touches2.step (State.latch_touches _ _ _) (by decide) ?_
          exact Touches.refl _ _
        split
        · refine Touches.step (State.beginRestore_touches _ _ _ _ _) (by decide) ?_
          refine Touches.step (State.setCtx_touches _ _ _) (by decide) ?_
          assumption
        · assumption
    · refine Touches.step (State.beginRestore_touches _ _ _ _ _) (by decide) ?_
      exact Touches.refl _ _
  · exact Touches.refl _ _

theorem execContextSaveComplete_touches (a0 : Ctx) (s : State) :
    TouchesX 0x3a80008 s (execContextSaveComplete a0 s) := by
  unfold execContextSaveComplete
  extract_lets x0 x1 x2
  clear_value x0 x1
  have h3 : Touches 0x3a80008 s x2 := by
    unfold x2
    refine Touches.step (State.setCtxState_touches _ _ _) (by decide) ?_
    refine Touches.step (State.unseat_touches _ _) (by decide) ?_
    refine Touches.step (State.saveArea_touches _ _) (by decide) ?_
    exact Touches.refl _ _
  clear_value x2
  split
  · refine TouchesX.next_ ?_
    exact Touches.refl _ _
  · split
    · refine TouchesX.next_ ?_
      refine Touches.step (State.setCtxState_touches _ _ _) (by decide) ?_
      refine Touches.step (State.unseat_touches _ _) (by decide) ?_
      refine Touches.step (State.endMove_touches _ _) (by decide) ?_
      refine Touches.step (State.saveArea_touches _ _) (by decide) ?_
      exact Touches.refl _ _
    · extract_lets x4
      clear_value x4
      split
      · refine TouchesX.next_ ?_
        refine Touches.step (State.beginRestore_touches _ _ _ _ _) (by decide) ?_
        assumption
      · refine TouchesX.next_ ?_
        refine Touches.step (State.ltRefuse_touches _ _) (by decide) ?_
        refine Touches.step (State.endMove_touches _ _) (by decide) ?_
        refine Touches.step (State.setCtx_touches _ _ _) (by decide) ?_
        assumption
    · refine TouchesX.next_ ?_
      exact Touches.refl _ _

theorem State.loadProgram_touches (s : State) (a1 : Nat) :
    Touches2 0x80000 s (State.loadProgram s a1) := by
  unfold State.loadProgram
  extract_lets x0 x1
  clear_value x0 x1
  split
  · refine Touches2.mk ?_
    exact Touches.refl _ _
  · split
    · refine Touches2.mk ?_
      exact Touches.refl _ _
    · refine Touches2.mk ?_
      exact (State.setCtx_touches _ _ _).mono (by decide)

theorem State.slotLost_touches (s : State) (a1 : Nat) (a2 : Nat) :
    Touches 0x80008 s (State.slotLost s a1 a2) := by
  unfold State.slotLost
  extract_lets x0
  clear_value x0
  refine Touches.step (State.ltRefuse_touches _ _) (by decide) ?_
  refine Touches.step (State.setCtxState_touches _ _ _) (by decide) ?_
  refine Touches.step (State.unseat_touches _ _) (by decide) ?_
  refine Touches.step (State.endMove_touches _ _) (by decide) ?_
  exact Touches.refl _ _

theorem execContextRestoreComplete_touches (a0 : Ctx) (s : State) :
    TouchesX 0x4bc2608 s (execContextRestoreComplete a0 s) := by
  unfold execContextRestoreComplete
  extract_lets x0
  clear_value x0
  split
  · split
    · rename_i w1 w2 w3 w4 w5 w6 w7 w8
      have h9 : Touches 0x4bc2608 s w7 := by
        refine Touches2.of w8 ?_
        refine Touches2.step (State.loadProgram_touches _ _) (by decide) ?_
        exact Touches.refl _ _
      refine TouchesX.next_ ?_
      refine Touches.step (State.unseat_touches _ _) (by decide) ?_
      refine Touches.step (State.fault_touches _ _ _ _) (by decide) ?_
      refine Touches.step (State.loadFail_touches _ _) (by decide) ?_
      assumption
    · rename_i w10 w11 w12 w13 w14 w15 w16
      have h17 : Touches 0x4bc2608 s w15 := by
        refine Touches2.of w16 ?_
        refine Touches2.step (State.loadProgram_touches _ _) (by decide) ?_
        exact Touches.refl _ _
      extract_lets x18 x19
      have h20 : Touches 0x4bc2608 s x18 := by
        unfold x18
        refine Touches.step (State.placeWindows_touches _ _ _) (by decide) ?_
        split
        · refine Touches.step (State.loadArea_touches _ _) (by decide) ?_
          assumption
        · assumption
      clear_value x18
      have h21 : Touches 0x4bc2608 s x19 := by
        unfold x19
        refine Touches.step (State.setCtx_touches _ _ _) (by decide) ?_
        assumption
      clear_value x19
      split
      · refine TouchesX.next_ ?_
        refine Touches.step (State.slotLost_touches _ _ _) (by decide) ?_
        assumption
      · refine TouchesX.next_ ?_
        refine Touches.step (State.planSlot_touches _ _ _ _) (by decide) ?_
        assumption
  · refine TouchesX.next_ ?_
    exact Touches.refl _ _

theorem State.finishPlaced_touches (s : State) (a1 : Nat) :
    Touches 0x4bc2608 s (State.finishPlaced s a1) := by
  unfold State.finishPlaced
  split
  · split
    · refine Touches.step (State.endMove_touches _ _) (by decide) ?_
      exact Touches.refl _ _
    · split
      · refine Touches.step (State.slotLost_touches _ _ _) (by decide) ?_
        exact Touches.refl _ _
      · refine Touches.step (State.rewake_touches _ _ _) (by decide) ?_
        refine Touches.step (State.putRec_touches _ _ _ _ _) (by decide) ?_
        refine Touches.step (State.setCtxState_touches _ _ _) (by decide) ?_
        refine Touches.step (State.endMove_touches _ _) (by decide) ?_
        exact Touches.refl _ _
  · exact Touches.refl _ _

theorem State.beginReset_touches (s : State) (a1 : Nat) :
    Touches 0x7bc2608 s (State.beginReset s a1) := by
  unfold State.beginReset
  extract_lets x0 x1 x2
  clear_value x0
  have h3 : Touches 0x7bc2608 s x1 := by
    unfold x1
    refine Touches.step (State.ltBusy_touches _ _ _) (by decide) ?_
    refine Touches.step (State.setFld_touches _ _ _ _) (by decide) ?_
    exact Touches.refl _ _
  clear_value x1
  have h4 : Touches 0x7bc2608 s x2 := by
    unfold x2
    refine Touches.step (State.setLathe_touches _ _ _) (by decide) ?_
    assumption
  clear_value x2
  split
  · refine Touches.step (State.setCtx_touches _ _ _) (by decide) ?_
    assumption
  · refine Touches.step (State.resetLathe_touches _ _) (by decide) ?_
    assumption

theorem execEngineReset_touches (a0 : ResetCause) (a1 : Lathe) (s : State) :
    TouchesX 0x7bc2608 s (execEngineReset a0 a1 s) := by
  unfold execEngineReset
  extract_lets x0
  clear_value x0
  split
  · refine TouchesX.next_ ?_
    refine Touches.step (State.ltCommand_touches (m := 0x7bc2608) _ _ _ _ _ (by decide) ?_) (by decide) ?_
    · intro z1
      refine Touches.step (State.beginReset_touches _ _) (by decide) ?_
      exact Touches.refl _ _
    · exact Touches.refl _ _
  · split
    · refine TouchesX.next_ ?_
      refine Touches.step (State.beginReset_touches _ _) (by decide) ?_
      exact Touches.refl _ _
    · refine TouchesX.next_ ?_
      exact Touches.refl _ _

theorem execEngineResetBoundaryTimeout_touches (a0 : Lathe) (s : State) :
    TouchesX 0x7bc2608 s (execEngineResetBoundaryTimeout a0 s) := by
  unfold execEngineResetBoundaryTimeout
  extract_lets x0 x1
  clear_value x0
  have h2 : Touches 0x7bc2608 s x1 := by
    unfold x1
    split
    · refine Touches.step (State.fault_touches _ _ _ _) (by decide) ?_
      exact Touches.refl _ _
    · exact Touches.refl _ _
  clear_value x1
  split
  · refine TouchesX.next_ ?_
    exact Touches.refl _ _
  · refine TouchesX.next_ ?_
    refine Touches.step (State.resetLathe_touches _ _) (by decide) ?_
    refine Touches.step (State.setLathe_touches _ _ _) (by decide) ?_
    assumption

theorem State.finishPartReset_touches (s : State) (a1 : Nat) :
    Touches 0x4bee608 s (State.finishPartReset s a1) := by
  unfold State.finishPartReset
  split
  · exact Touches.refl _ _
  · extract_lets x0 x1 x2 x3
    clear_value x0 x2
    have h4 : Touches 0x4bee608 s x1 := by
      unfold x1
      refine Touches.step (State.setFld_touches _ _ _ _) (by decide) ?_
      exact Touches.refl _ _
    clear_value x1
    have h5 : Touches 0x4bee608 s x3 := by
      unfold x3
      refine Touches.foldl ?_ ?_
      · intro z6
        intro z7
        refine Touches.step (State.setFld_touches _ _ _ _) (by decide) ?_
        refine Touches.step (Touches.set_head z6 _) (by decide) ?_
        exact Touches.refl _ _
      · assumption
    clear_value x3
    refine Touches.foldl ?_ ?_
    · intro z8
      intro z9
      refine Touches.foldl ?_ ?_
      · intro z10
        intro z11
        refine Touches.step (State.refreshPort_touches _ _) (by decide) ?_
        exact Touches.refl _ _
      · exact Touches.refl _ _
    · assumption

theorem execSelfTestComplete_touches (a0 : Lathe) (a1 : Bool) (s : State) :
    TouchesX 0x4bee648 s (execSelfTestComplete a0 a1 s) := by
  unfold execSelfTestComplete
  extract_lets x0 x1 x2 x3
  clear_value x0 x2
  have h4 : Touches 0x4bee648 s x1 := by
    unfold x1
    refine Touches.step (State.ltBusy_touches _ _ _) (by decide) ?_
    refine Touches.step (State.setLathe_touches _ _ _) (by decide) ?_
    exact Touches.refl _ _
  clear_value x1
  have h5 : Touches 0x4bee648 s x3 := by
    unfold x3
    split
    · assumption
    · refine Touches.step (State.post_touches _ _) (by decide) ?_
      assumption
  clear_value x3
  split
  · refine TouchesX.next_ ?_
    exact Touches.refl _ _
  · split
    · refine TouchesX.next_ ?_
      exact Touches.refl _ _
    · extract_lets x6
      have h7 : Touches 0x4bee648 s x6 := by
        unfold x6
        split
        · refine Touches.step (State.setFld_touches _ _ _ _) (by decide) ?_
          assumption
        · refine Touches.step (State.failLathe_touches _ _) (by decide) ?_
          assumption
      clear_value x6
      refine TouchesX.next_ ?_
      refine Touches.step (State.finishPartReset_touches _ _) (by decide) ?_
      assumption

theorem State.ltdRefuse_touches (s : State) (a1 : Nat) (a2 : Nat) :
    Touches 0x8 s (State.ltdRefuse s a1 a2) := by
  unfold State.ltdRefuse
  refine Touches.step (State.setFld_touches _ _ _ _) (by decide) ?_
  exact (State.setFld_touches _ _ _ _).mono (by decide)

theorem State.ctxCommand_touches {m : Nat} (s : State) (a1 : Writer) (a2 a3 a4 : Nat) (a5 : State → Nat) (a6 : State → State)
    (hm : 0x8 ||| m = m) (h : ∀ s, Touches m s (a6 s)) : Touches m s (State.ctxCommand s a1 a2 a3 a4 a5 a6) := by
  unfold State.ctxCommand
  refine State.fenced_touches _ _ _ _ _ hm (fun s => ?_)
  extract_lets x0 x1 x2
  have h1 : Touches m s x1 := by
    unfold x1
    exact (State.setFld_touches _ _ _ _).step hm ((State.setFld_touches _ _ _ _).mono hm)
  clear_value x1
  split
  · exact (State.ltdRefuse_touches _ _ _).step hm h1
  · split
    · exact (State.ltdRefuse_touches _ _ _).step hm h1
    · exact (h _).step (by simp) ((State.setFld_touches _ _ _ _).step hm h1)

theorem execCreate_touches (a0 : Writer) (a1 : LDie) (a2 : Ctx) (s : State) :
    TouchesX 0x80008 s (execCreate a0 a1 a2 s) := by
  unfold execCreate
  extract_lets x0 x1 x2 x3 x4
  clear_value x0 x1 x2
  have h5 : Touches 0x80008 s x3 := by
    unfold x3
    refine Touches.step (State.ctxCommand_touches (m := 0x80008) _ _ _ _ _ _ _ (by decide) ?_) (by decide) ?_
    · intro z6
      extract_lets x7 x8
      have h9 : Touches 0x80008 z6 x7 := by
        unfold x7
        refine Touches.step (State.putRec_touches _ _ _ _ _) (by decide) ?_
        exact (State.setCtxState_touches _ _ _).mono (by decide)
      clear_value x7
      have h10 : Touches 0x80008 z6 x8 := by
        unfold x8
        refine Touches.step (State.putRec_touches _ _ _ _ _) (by decide) ?_
        refine Touches.step (State.putRec_touches _ _ _ _ _) (by decide) ?_
        refine Touches.step (State.putRec_touches _ _ _ _ _) (by decide) ?_
        exact Touches.step (State.putRec_touches _ _ _ _ _) (by decide) (by assumption)
      clear_value x8
      refine Touches.step (State.putRec_touches _ _ _ _ _) (by decide) ?_
      exact Touches.step (State.putRec_touches _ _ _ _ _) (by decide) (by assumption)
    · exact Touches.refl _ _
  clear_value x3 x4
  split
  · refine TouchesX.next_ ?_
    exact Touches.step (State.count_touches _ _ _) (by decide) (by assumption)
  · refine TouchesX.next_ ?_
    assumption

theorem State.beginLoad_touches (s : State) (a1 : Nat) (a2 : Nat) (a3 : Nat) (a4 : Nat) :
    Touches 0x80008 s (State.beginLoad s a1 a2 a3 a4) := by
  unfold State.beginLoad
  extract_lets x0 x1 x2 x3 x4
  have h5 : Touches 0x80008 s x0 := by
    unfold x0
    refine Touches.step (State.setFld_touches _ _ _ _) (by decide) ?_
    exact Touches.refl _ _
  clear_value x0
  have h6 : Touches 0x80008 s x1 := by
    unfold x1
    refine Touches.step (State.setCtx_touches _ _ _) (by decide) ?_
    assumption
  clear_value x1
  have h7 : Touches 0x80008 s x2 := by
    unfold x2
    refine Touches.step (State.setCtxState_touches _ _ _) (by decide) ?_
    refine Touches.step (State.placeWindows_touches _ _ _) (by decide) ?_
    assumption
  clear_value x2
  have h8 : Touches 0x80008 s x3 := by
    unfold x3
    refine Touches.step (State.putRec_touches _ _ _ _ _) (by decide) ?_
    refine Touches.step (State.putRec_touches _ _ _ _ _) (by decide) ?_
    assumption
  clear_value x3
  have h9 : Touches 0x80008 s x4 := by
    unfold x4
    split
    · assumption
    · refine Touches.step (State.planSlot_touches _ _ _ _) (by decide) ?_
      assumption
  clear_value x4
  refine Touches.step (State.count_touches _ _ _) (by decide) ?_
  assumption

theorem execStart_touches (a0 : Writer) (a1 : LDie) (a2 : Ctx) (a3 : Fin 32) (a4 : Fin 8) (s : State) :
    TouchesX 0x4082208 s (execStart a0 a1 a2 a3 a4 s) := by
  unfold execStart
  extract_lets x0 x1 x2
  clear_value x0 x1 x2
  refine TouchesX.next_ ?_
  refine Touches.step (State.ctxCommand_touches (m := 0x4082208) _ _ _ _ _ _ _ (by decide) ?_) (by decide) ?_
  · intro z3
    split
    · rename_i w4 w5 w6 w7
      have h8 : Touches 0x4082208 z3 w6 := by
        refine Touches2.of w7 ?_
        refine Touches2.step (State.latch_touches _ _ _) (by decide) ?_
        exact Touches.refl _ _
      split
      · refine Touches.step (State.beginLoad_touches _ _ _ _ _) (by decide) ?_
        assumption
      · assumption
  · exact Touches.refl _ _

theorem execProgramLoadComplete_touches (a0 : Ctx) (s : State) :
    TouchesX 0x4bc2608 s (execProgramLoadComplete a0 s) := by
  unfold execProgramLoadComplete
  extract_lets x0 x1 x2
  clear_value x0 x1
  have h3 : Touches 0x4bc2608 s x2 := by
    unfold x2
    refine Touches.step (State.ltdIdle_touches _ _) (by decide) ?_
    exact Touches.refl _ _
  clear_value x2
  split
  · split
    · rename_i w4 w5 w6 w7 w8 w9 w10 w11 w12 w13
      have h14 : Touches 0x4bc2608 s w12 := by
        refine Touches2.of w13 ?_
        refine Touches2.step (State.loadProgram_touches _ _) (by decide) ?_
        assumption
      refine TouchesX.next_ ?_
      refine Touches.step (State.unseat_touches _ _) (by decide) ?_
      refine Touches.step (State.fault_touches _ _ _ _) (by decide) ?_
      refine Touches.step (State.loadFail_touches _ _) (by decide) ?_
      assumption
    · rename_i w15 w16 w17 w18 w19 w20 w21 w22 w23
      have h24 : Touches 0x4bc2608 s w22 := by
        refine Touches2.of w23 ?_
        refine Touches2.step (State.loadProgram_touches _ _) (by decide) ?_
        assumption
      extract_lets x25 x26 x27 x28 x29
      clear_value x26
      have h30 : Touches 0x4bc2608 s x25 := by
        unfold x25
        refine Touches.step (State.setCtx_touches _ _ _) (by decide) ?_
        assumption
      clear_value x25
      have h31 : Touches 0x4bc2608 s x27 := by
        unfold x27
        refine Touches.step (State.setCtx_touches _ _ _) (by decide) ?_
        assumption
      clear_value x27
      have h32 : Touches 0x4bc2608 s x28 := by
        unfold x28
        refine Touches.step (State.setColl_touches _ _ _) (by decide) ?_
        assumption
      clear_value x28
      have h33 : Touches 0x4bc2608 s x29 := by
        unfold x29
        split
        · assumption
        · refine Touches.step (State.setCtxState_touches _ _ _) (by decide) ?_
          assumption
      clear_value x29
      refine TouchesX.next_ ?_
      refine Touches.step (State.count_touches _ _ _) (by decide) ?_
      assumption
  · refine TouchesX.next_ ?_
    exact Touches.refl _ _

theorem execStop_touches (a0 : Writer) (a1 : LDie) (a2 : Ctx) (s : State) :
    TouchesX 0x1c2008 s (execStop a0 a1 a2 s) := by
  unfold execStop
  extract_lets x0
  clear_value x0
  refine TouchesX.next_ ?_
  refine Touches.step (State.ctxCommand_touches (m := 0x1c2008) _ _ _ _ _ _ _ (by decide) ?_) (by decide) ?_
  · intro z1
    extract_lets x2 x3
    clear_value x2
    have h4 : Touches 0x1c2008 z1 x3 := by
      unfold x3
      refine Touches.step (State.setCtx_touches _ _ _) (by decide) ?_
      refine Touches.step (State.unwait_touches _ _) (by decide) ?_
      exact Touches.refl _ _
    clear_value x3
    split
    · refine Touches.step (State.setCtx_touches _ _ _) (by decide) ?_
      exact Touches.refl _ _
    · split
      · split
        · assumption
        · refine Touches.step (State.settleStop_touches _ _) (by decide) ?_
          assumption
      · refine Touches.step (State.settleStop_touches _ _) (by decide) ?_
        assumption
  · exact Touches.refl _ _

theorem execResume_touches (a0 : Writer) (a1 : LDie) (a2 : Ctx) (s : State) :
    TouchesX 0x4bc2608 s (execResume a0 a1 a2 s) := by
  unfold execResume
  extract_lets x0
  clear_value x0
  refine TouchesX.next_ ?_
  refine Touches.step (State.ctxCommand_touches (m := 0x4bc2608) _ _ _ _ _ _ _ (by decide) ?_) (by decide) ?_
  · intro z1
    split
    · refine Touches.step (State.setCtxState_touches _ _ _) (by decide) ?_
      exact Touches.refl _ _
    · extract_lets x2
      have h3 : Touches 0x4bc2608 z1 x2 := by
        unfold x2
        refine Touches.step (State.setCtxState_touches _ _ _) (by decide) ?_
        exact Touches.refl _ _
      clear_value x2
      split
      · refine Touches.step (State.rewake_touches _ _ _) (by decide) ?_
        assumption
      · assumption
  · exact Touches.refl _ _

theorem execReplay_touches (a0 : Writer) (a1 : LDie) (a2 : Ctx) (s : State) :
    TouchesX 0x4bc2608 s (execReplay a0 a1 a2 s) := by
  unfold execReplay
  extract_lets x0
  clear_value x0
  refine TouchesX.next_ ?_
  refine Touches.step (State.ctxCommand_touches (m := 0x4bc2608) _ _ _ _ _ _ _ (by decide) ?_) (by decide) ?_
  · intro z1
    refine Touches.step (State.replay_touches _ _) (by decide) ?_
    exact (State.dropAllocs_touches _ _).mono (by decide)
  · exact Touches.refl _ _

theorem State.freeCtx_touches (s : State) (a1 : Nat) :
    Touches 0x1c2008 s (State.freeCtx s a1) := by
  unfold State.freeCtx
  extract_lets x0 x1 x2 x3 x4 x5 x6
  clear_value x0 x5
  have h7 : Touches 0x1c2008 s x1 := by
    unfold x1
    split
    · refine Touches.step (State.leavePipe_touches _ _ _) (by decide) ?_
      exact Touches.refl _ _
    · exact Touches.refl _ _
  clear_value x1
  have h8 : Touches 0x1c2008 s x2 := by
    unfold x2
    refine Touches.step (State.dropMove_touches _ _) (by decide) ?_
    refine Touches.step (State.dropAllocs_touches _ _) (by decide) ?_
    assumption
  clear_value x2
  have h9 : Touches 0x1c2008 s x3 := by
    unfold x3
    refine Touches.step (State.releaseNotices_touches _ _) (by decide) ?_
    assumption
  clear_value x3
  have h10 : Touches 0x1c2008 s x4 := by
    unfold x4
    refine Touches.foldl ?_ ?_
    · intro z11
      intro z12
      refine Touches.step (State.unref_touches _ _) (by decide) ?_
      exact Touches.refl _ _
    · assumption
  clear_value x4
  have h13 : Touches 0x1c2008 s x6 := by
    unfold x6
    refine Touches.step (State.setCtx_touches _ _ _) (by decide) ?_
    assumption
  clear_value x6
  refine Touches.step (State.putRec_touches _ _ _ _ _) (by decide) ?_
  refine Touches.step (State.putRec_touches _ _ _ _ _) (by decide) ?_
  refine Touches.step (State.setCtxState_touches _ _ _) (by decide) ?_
  assumption

theorem execRelease_touches (a0 : Writer) (a1 : LDie) (a2 : Ctx) (s : State) :
    TouchesX 0x1c2008 s (execRelease a0 a1 a2 s) := by
  unfold execRelease
  extract_lets x0
  clear_value x0
  refine TouchesX.next_ ?_
  refine Touches.step (State.ctxCommand_touches (m := 0x1c2008) _ _ _ _ _ _ _ (by decide) ?_) (by decide) ?_
  · intro z1
    exact (State.freeCtx_touches _ _).mono (by decide)
  · exact Touches.refl _ _

theorem State.turnSlot_touches (s : State) (a1 : Nat) (a2 : Nat) :
    Touches 0x80008 s (State.turnSlot s a1 a2) := by
  unfold State.turnSlot
  extract_lets x0 x1 x2 x3 x4 x5
  clear_value x0 x1 x2 x3
  have h6 : Touches 0x80008 s x4 := by
    unfold x4
    split
    · refine Touches.step (State.putRec_touches _ _ _ _ _) (by decide) ?_
      exact Touches.refl _ _
    · exact Touches.refl _ _
  clear_value x4
  have h7 : Touches 0x80008 s x5 := by
    unfold x5
    refine Touches.step (State.setFld_touches _ _ _ _) (by decide) ?_
    assumption
  clear_value x5
  split
  · refine Touches.step (State.setFld_touches _ _ _ _) (by decide) ?_
    assumption
  · refine Touches.step (State.setFld_touches _ _ _ _) (by decide) ?_
    refine Touches.step (State.setFld_touches _ _ _ _) (by decide) ?_
    assumption

theorem State.turnSlots_touches (s : State) (a1 : Nat) :
    Touches 0x180008 s (State.turnSlots s a1) := by
  unfold State.turnSlots
  extract_lets x0 x1
  have h2 : Touches 0x180008 s x0 := by
    unfold x0
    refine Touches.foldl ?_ ?_
    · intro z3 z4
      exact (State.turnSlot_touches _ _ _).mono (by decide)
    · exact Touches.refl _ _
  clear_value x0
  have h5 : Touches 0x180008 s x1 := by
    unfold x1
    refine Touches.foldl ?_ ?_
    · intro z6 z7
      extract_lets x8 x9 x10
      clear_value x8 x9
      have h11 : Touches 0x180008 z6 x10 := by
        unfold x10
        exact (State.putRec_touches _ _ _ _ _).mono (by decide)
      clear_value x10
      split
      · split
        · exact Touches.step (State.requestPipe_touches _ _ _) (by decide) (by assumption)
        · assumption
      · exact Touches.refl _ _
    · assumption
  clear_value x1
  exact Touches.step (State.grantNext_touches _ _) (by decide) (by assumption)

theorem State.turnPaced_touches (s : State) (a1 : Nat) :
    Touches 0x80000 s (State.turnPaced s a1) := by
  unfold State.turnPaced
  split
  · exact Touches.refl _ _
  · refine Touches.step (State.setCtxState_touches _ _ _) (by decide) ?_
    refine Touches.step (State.setColl_touches _ _ _) (by decide) ?_
    refine Touches.step (State.setCtx_touches _ _ _) (by decide) ?_
    exact Touches.refl _ _

end Sys2Proof.Machine
end

