-- ==== Sys2Proof/Laws/FrameJobs.lean ====
section
/-! SUPPORT. What each operation of Machine/Jobs.lean can touch: its mask, memory's canonical form, the fuses' trust. -/

namespace Sys2Proof.Machine

theorem State.setJobState_touches (s : State) (a1 : Nat) (a2 : JobState) :
    Touches 0xa40008 s (State.setJobState s a1 a2) := by
  unfold State.setJobState
  extract_lets x0 x1
  have h2 : Touches 0xa40008 s x0 := by
    unfold x0
    exact (State.setJob_touches _ _ _).mono (by decide)
  clear_value x0
  have h3 : Touches 0xa40008 s x1 := by
    unfold x1
    exact Touches.step (State.nearWrite_touches _ _ _) (by decide) (by assumption)
  clear_value x1
  exact Touches.step (State.setFld_touches _ _ _ _) (by decide) (by assumption)

theorem State.jobResult_touches (s : State) (a1 : Nat) (a2 : Nat) (a3 : Nat) :
    Touches 0x8 s (State.jobResult s a1 a2 a3) := by
  unfold State.jobResult
  extract_lets x0 x1
  clear_value x0
  have h2 : Touches 0x8 s x1 := by
    unfold x1
    refine Touches.step (State.setFld_touches _ _ _ _) (by decide) ?_
    refine Touches.step (State.setFld_touches _ _ _ _) (by decide) ?_
    exact (State.setFld_touches _ _ _ _).mono (by decide)
  clear_value x1
  split
  · assumption
  · exact Touches.step (State.setFld_touches _ _ _ _) (by decide) (by assumption)

theorem State.jobCommand_touches (s : State) (a1 : Writer) (a2 : Nat) (a3 : Nat) (a4 : JobState) :
    Touches 0x40008 s (State.jobCommand s a1 a2 a3 a4) := by
  unfold State.jobCommand
  refine Touches.step (State.fenced_touches (m := 0x40008) _ _ _ _ _ (by decide) ?_) (by decide) ?_
  · intro z0
    split
    · exact (State.jobResult_touches _ _ _ _).mono (by decide)
    · split
      · exact (State.jobResult_touches _ _ _ _).mono (by decide)
      · extract_lets x1 x2 x3 x4
        have h5 : Touches 0x40008 z0 x1 := by
          unfold x1
          refine Touches.step (State.setFld_touches _ _ _ _) (by decide) ?_
          exact (State.jobResult_touches _ _ _ _).mono (by decide)
        clear_value x1 x2
        have h6 : Touches 0x40008 z0 x3 := by
          unfold x3
          split
          · assumption
          · exact Touches.step (State.setJob_touches _ _ _) (by decide) (by assumption)
        clear_value x3 x4
        exact Touches.step (Touches.set_jobs x3 _) (by decide) (by assumption)
  · exact Touches.refl _ _

theorem execAdmitJob_touches (a0 : Writer) (a1 : Job) (s : State) :
    TouchesX 0x40008 s (execAdmitJob a0 a1 s) := by
  unfold execAdmitJob
  refine TouchesX.next_ ?_
  exact (State.jobCommand_touches _ _ _ _ _).mono (by decide)

theorem execModify_touches (a0 : Writer) (a1 : Job) (s : State) :
    TouchesX 0x40008 s (execModify a0 a1 s) := by
  unfold execModify
  split
  · refine TouchesX.next_ ?_
    exact Touches.refl _ _
  · refine TouchesX.next_ ?_
    refine Touches.step (State.jobCommand_touches _ _ _ _ _) (by decide) ?_
    exact Touches.refl _ _

theorem execRemove_touches (a0 : Writer) (a1 : Job) (s : State) :
    TouchesX 0x40008 s (execRemove a0 a1 s) := by
  unfold execRemove
  refine TouchesX.next_ ?_
  exact (State.jobCommand_touches _ _ _ _ _).mono (by decide)

theorem State.dropJobCmd_touches (s : State) (a1 : JobCmd) :
    Touches 0xa40008 s (State.dropJobCmd s a1) := by
  unfold State.dropJobCmd
  extract_lets x0 x1 x2
  clear_value x0
  have h3 : Touches 0xa40008 s x1 := by
    unfold x1
    exact (Touches.set_jobs s _).mono (by decide)
  clear_value x1
  have h4 : Touches 0xa40008 s x2 := by
    unfold x2
    exact Touches.step (State.setJob_touches _ _ _) (by decide) (by assumption)
  clear_value x2
  exact Touches.step (State.setJobState_touches _ _ _) (by decide) (by assumption)

theorem execJobCancel_touches (a0 : Writer) (a1 : Job) (s : State) :
    TouchesX 0xa40008 s (execJobCancel a0 a1 s) := by
  unfold execJobCancel
  extract_lets x0
  clear_value x0
  refine TouchesX.next_ ?_
  refine Touches.step (State.fenced_touches (m := 0xa40008) _ _ _ _ _ (by decide) ?_) (by decide) ?_
  · intro z1
    split
    · exact (State.jobResult_touches _ _ _ _).mono (by decide)
    · split
      · refine Touches.step (State.jobResult_touches _ _ _ _) (by decide) ?_
        exact (State.dropJobCmd_touches _ _).mono (by decide)
      · exact (State.jobResult_touches _ _ _ _).mono (by decide)
  · exact Touches.refl _ _

theorem execJobChecksComplete_touches (s : State) :
    TouchesX 0xa40008 s (execJobChecksComplete s) := by
  unfold execJobChecksComplete
  split
  · exact TouchesX.next_ (Touches.refl _ _)
  · rename_i j cmd _
    extract_lets j0 x0 x1 b t e x2 prev y src
    have h0 : Touches 0xa40008 s x0 := (Touches.set_jobs s _).mono (by decide)
    have h1 : Touches 0xa40008 s x1 := (State.setFld_touches _ _ _ _).step (by decide) h0
    have h2 : Touches 0xa40008 s x2 := (State.jobResult_touches _ _ _ _).step (by decide) h1
    have h3 : Touches 0xa40008 s y := (State.setJobState_touches _ _ _).step (by decide) h2
    clear_value y x2
    split
    · exact TouchesX.next_ ((State.setJob_touches _ _ _).step (by decide) h2)
    · exact TouchesX.next_ ((Touches.set_jobs y _).step (by decide) h3)

theorem execSvJobBaseWrite_touches (a0 : Writer) (a1 : W64) (s : State) :
    TouchesX 0x8 s (execSvJobBaseWrite a0 a1 s) := by
  unfold execSvJobBaseWrite
  refine TouchesX.next_ ?_
  refine Touches.step (State.fenced_touches (m := 0x8) _ _ _ _ _ (by decide) ?_) (by decide) ?_
  · intro z0
    split
    · exact (State.setFld_touches _ _ _ _).mono (by decide)
    · exact (State.setFld_touches _ _ _ _).mono (by decide)
  · exact Touches.refl _ _

theorem State.recheckJob_touches (s : State) (a1 : JobCmd) :
    Touches 0x4a40008 s (State.recheckJob s a1) := by
  unfold State.recheckJob
  split
  · exact Touches.refl _ _
  · refine Touches.step (State.emit_touches _ _) (by decide) ?_
    refine Touches.step (State.jobResult_touches _ _ _ _) (by decide) ?_
    exact (State.dropJobCmd_touches _ _).mono (by decide)

theorem State.newRanks_touches (s : State) (a1 : Nat) (a2 : Nat) :
    Touches 0x20008 s (State.newRanks s a1 a2) := by
  unfold State.newRanks
  refine Touches.step (State.mapRanks_touches _ _) (by decide) ?_
  exact Touches.refl _ _

theorem State.applyJob_touches (s : State) (a1 : JobCmd) (a2 : Nat) :
    Touches 0xa60008 s (State.applyJob s a1 a2) := by
  unfold State.applyJob
  extract_lets x0 x1 x2 x3 x4 x5 x6 x7 x8 x9 x10 x11 x12 x13
  clear_value x0 x1 x2 x4 x5 x6 x8 x10 x11
  have h14 : Touches 0xa60008 s x3 := by
    unfold x3
    refine Touches.step (Touches.set_jobs s _) (by decide) ?_
    exact Touches.refl _ _
  clear_value x3
  have h15 : Touches 0xa60008 s x7 := by
    unfold x7
    refine Touches.step (State.nearWrite_touches _ _ _) (by decide) ?_
    refine Touches.step (State.nearWrite_touches _ _ _) (by decide) ?_
    assumption
  clear_value x7
  have h16 : Touches 0xa60008 s x9 := by
    unfold x9
    refine Touches.step (State.setJob_touches _ _ _) (by decide) ?_
    assumption
  clear_value x9
  have h17 : Touches 0xa60008 s x12 := by
    unfold x12
    refine Touches.step (State.setJob_touches _ _ _) (by decide) ?_
    assumption
  clear_value x12
  have h18 : Touches 0xa60008 s x13 := by
    unfold x13
    split
    · assumption
    · refine Touches.step (State.newRanks_touches _ _ _) (by decide) ?_
      assumption
  clear_value x13
  split
  · refine Touches.step (State.setJobState_touches _ _ _) (by decide) ?_
    refine Touches.step (State.setJob_touches _ _ _) (by decide) ?_
    assumption
  · refine Touches.step (State.setJobState_touches _ _ _) (by decide) ?_
    refine Touches.step (State.wr_touches _ _ _) (by decide) ?_
    assumption
  · refine Touches.step (State.setJobState_touches _ _ _) (by decide) ?_
    assumption

theorem State.jobBoundary_touches (s : State) (a1 : Nat) :
    Touches 0x4a60008 s (State.jobBoundary s a1) := by
  unfold State.jobBoundary
  extract_lets x0 x1
  clear_value x0
  have h2 : Touches 0x4a60008 s x1 := by
    unfold x1
    refine Touches.step (Touches.set_jobs s _) (by decide) ?_
    exact Touches.refl _ _
  clear_value x1
  refine Touches.foldl ?_ ?_
  · intro z3
    intro z4
    split
    · refine Touches.step (State.applyJob_touches _ _ _) (by decide) ?_
      exact Touches.refl _ _
    · split
      · refine Touches.step (State.recheckJob_touches _ _) (by decide) ?_
        exact Touches.refl _ _
      · exact Touches.refl _ _
  · assumption

theorem State.purgeJob_touches (s : State) (a1 : Nat) :
    Touches 0x6008 s (State.purgeJob s a1) := by
  unfold State.purgeJob
  extract_lets x0 x1 x2
  clear_value x0
  have h3 : Touches 0x6008 s x1 := by
    unfold x1
    refine Touches.foldl ?_ ?_
    · intro z4 z5
      refine Touches.foldl ?_ ?_
      · intro z6 z7
        exact (State.dropAged_touches _ _ _).mono (by decide)
      · exact (State.setQueue_touches _ _ _).mono (by decide)
    · exact Touches.refl _ _
  clear_value x1
  have h8 : Touches 0x6008 s x2 := by
    unfold x2
    refine Touches.foldl ?_ ?_
    · intro z9 z10
      refine Touches.foldl ?_ ?_
      · intro z11 z12
        exact (State.dropAged_touches _ _ _).mono (by decide)
      · exact (State.setReleased_touches _ _ _).mono (by decide)
    · assumption
  clear_value x2
  refine Touches.foldl ?_ ?_
  · intro z13 z14
    extract_lets x15 x16
    clear_value x15
    have h17 : Touches 0x6008 z13 x16 := by
      unfold x16
      exact (State.setPort_touches _ _ _).mono (by decide)
    clear_value x16
    refine Touches.step (State.showHeld_touches _ _) (by decide) ?_
    refine Touches.foldl ?_ ?_
    · intro z18 z19
      exact (State.dropAged_touches _ _ _).mono (by decide)
    · assumption
  · assumption

theorem execJobDrainEnd_touches (a0 : Job) (s : State) :
    TouchesX 0xa66008 s (execJobDrainEnd a0 s) := by
  unfold execJobDrainEnd
  extract_lets x0 x1 x2 x3 x4 x5
  clear_value x0 x1 x2
  have h6 : Touches 0xa66008 s x3 := by
    unfold x3
    refine Touches.step (State.purgeJob_touches _ _) (by decide) ?_
    exact Touches.refl _ _
  clear_value x3
  have h7 : Touches 0xa66008 s x4 := by
    unfold x4
    refine Touches.step (State.mapRanks_touches _ _) (by decide) ?_
    assumption
  clear_value x4
  have h8 : Touches 0xa66008 s x5 := by
    unfold x5
    refine Touches.step (State.setJob_touches _ _ _) (by decide) ?_
    refine Touches.step (State.setJobState_touches _ _ _) (by decide) ?_
    assumption
  clear_value x5
  split
  · refine TouchesX.next_ ?_
    exact Touches.refl _ _
  · refine TouchesX.next_ ?_
    refine Touches.step (State.wr_touches _ _ _) (by decide) ?_
    assumption

end Sys2Proof.Machine
end

