-- ==== Sys2Proof/Laws/FramePlanes.lean ====
section
/-! SUPPORT. What each operation of Machine/Planes.lean can touch: its mask, memory's canonical form, the fuses' trust. -/

namespace Sys2Proof.Machine

theorem State.withImg_touches (s : State) (a1 : ImgSt → ImgSt) :
    Touches 0x80 s (State.withImg s a1) := by
  unfold State.withImg
  exact (Touches.set_img s _).mono (by decide)

theorem State.setImgState_touches (s : State) (a1 : Nat) :
    Touches 0x8 s (State.setImgState s a1) := by
  unfold State.setImgState
  exact (State.setFld_touches _ _ _ _).mono (by decide)

theorem State.imgFail_touches (s : State) (a1 : Nat) (a2 : Nat) (a3 : Nat) :
    Touches 0x8 s (State.imgFail s a1 a2 a3) := by
  unfold State.imgFail
  refine Touches.step (State.setFld_touches _ _ _ _) (by decide) ?_
  refine Touches.step (State.setFld_touches _ _ _ _) (by decide) ?_
  exact (State.setFld_touches _ _ _ _).mono (by decide)

theorem State.imgRefuse_touches (s : State) :
    Touches 0x8 s (State.imgRefuse s) := by
  unfold State.imgRefuse
  exact (State.setFld_touches _ _ _ _).mono (by decide)

theorem State.beginImage_touches (s : State) (a1 : Nat) (a2 : Nat) :
    Touches 0x88 s (State.beginImage s a1 a2) := by
  unfold State.beginImage
  refine Touches.step (State.setImgState_touches _ _) (by decide) ?_
  exact (State.withImg_touches _ _).mono (by decide)

theorem State.addImage_touches (s : State) (a1 : Blob) :
    Touches 0x88 s (State.addImage s a1) := by
  unfold State.addImage
  extract_lets x0 x1 x2
  clear_value x0 x1
  have h3 : Touches 0x88 s x2 := by
    unfold x2
    exact (State.withImg_touches _ _).mono (by decide)
  clear_value x2
  split
  · exact Touches.step (State.setImgState_touches _ _) (by decide) (by assumption)
  · assumption

theorem execImageDmaLoad_touches (a0 : Nat) (a1 : Blob) (s : State) :
    TouchesX 0x88 s (execImageDmaLoad a0 a1 s) := by
  unfold execImageDmaLoad
  split
  · refine TouchesX.next_ ?_
    exact (State.addImage_touches _ _).mono (by decide)
  · split
    · refine TouchesX.next_ ?_
      refine Touches.step (State.addImage_touches _ _) (by decide) ?_
      exact (State.beginImage_touches _ _ _).mono (by decide)
    · refine TouchesX.next_ ?_
      exact (State.imgRefuse_touches _).mono (by decide)

theorem State.imageStopped_touches (s : State) :
    Touches 0x8 s (State.imageStopped s) := by
  unfold State.imageStopped
  split
  · refine Touches.step (State.setImgState_touches _ _) (by decide) ?_
    exact (State.imgFail_touches _ _ _ _).mono (by decide)
  · exact Touches.refl _ _

theorem State.imgCheck_touches (s : State) :
    Touches 0x8 s (State.imgCheck s) := by
  unfold State.imgCheck
  split
  · exact (State.setImgState_touches _ _).mono (by decide)
  · exact (State.imgRefuse_touches _).mono (by decide)

theorem State.imgArm_touches (s : State) (a1 : Nat) (a2 : Nat) :
    Touches 0x88 s (State.imgArm s a1 a2) := by
  unfold State.imgArm
  extract_lets x0 x1
  have h2 : Touches 0x88 s x0 := by
    unfold x0
    exact (State.setFld_touches _ _ _ _).mono (by decide)
  clear_value x0 x1
  split
  · split
    · exact Touches.step (State.imgRefuse_touches _) (by decide) (by assumption)
    · split
      · refine Touches.step (State.setImgState_touches _ _) (by decide) ?_
        exact Touches.step (State.withImg_touches _ _) (by decide) (by assumption)
      · refine Touches.step (State.imgRefuse_touches _) (by decide) ?_
        exact Touches.step (State.imgFail_touches _ _ _ _) (by decide) (by assumption)
  · exact Touches.step (State.imgRefuse_touches _) (by decide) (by assumption)

theorem State.imgCancel_touches (s : State) :
    Touches 0x8 s (State.imgCancel s) := by
  unfold State.imgCancel
  split
  · exact (State.setImgState_touches _ _).mono (by decide)
  · exact (State.imgRefuse_touches _).mono (by decide)

theorem State.imgDiscard_touches (s : State) :
    Touches 0x88 s (State.imgDiscard s) := by
  unfold State.imgDiscard
  split
  · refine Touches.step (State.setImgState_touches _ _) (by decide) ?_
    exact (State.withImg_touches _ _).mono (by decide)
  · exact (State.imgRefuse_touches _).mono (by decide)

theorem State.imgCommand_touches {m : Nat} (s : State) (a1 : Writer) (a2 : State → State) (hm : 0x8 ||| m = m)
    (h : ∀ s, Touches m s (a2 s)) : Touches m s (State.imgCommand s a1 a2) :=
  State.fenced_touches _ _ _ _ _ hm h

theorem execCheck_touches (a0 : Writer) (s : State) :
    TouchesX 0x8 s (execCheck a0 s) := by
  unfold execCheck
  refine TouchesX.next_ ?_
  refine Touches.step (State.imgCommand_touches (m := 0x8) _ _ _ (by decide) ?_) (by decide) ?_
  · intro z0
    exact (State.imgCheck_touches _).mono (by decide)
  · exact Touches.refl _ _

theorem execArm_touches (a0 : Writer) (a1 : Nat) (s : State) :
    TouchesX 0x88 s (execArm a0 a1 s) := by
  unfold execArm
  extract_lets x0
  clear_value x0
  refine TouchesX.next_ ?_
  refine Touches.step (State.imgCommand_touches (m := 0x88) _ _ _ (by decide) ?_) (by decide) ?_
  · intro z1
    exact (State.imgArm_touches _ _ _).mono (by decide)
  · exact Touches.refl _ _

theorem execCancel_touches (a0 : Writer) (s : State) :
    TouchesX 0x8 s (execCancel a0 s) := by
  unfold execCancel
  refine TouchesX.next_ ?_
  refine Touches.step (State.imgCommand_touches (m := 0x8) _ _ _ (by decide) ?_) (by decide) ?_
  · intro z0
    exact (State.imgCancel_touches _).mono (by decide)
  · exact Touches.refl _ _

theorem execDiscard_touches (a0 : Writer) (s : State) :
    TouchesX 0x88 s (execDiscard a0 s) := by
  unfold execDiscard
  refine TouchesX.next_ ?_
  refine Touches.step (State.imgCommand_touches (m := 0x88) _ _ _ (by decide) ?_) (by decide) ?_
  · intro z0
    exact (State.imgDiscard_touches _).mono (by decide)
  · exact Touches.refl _ _

theorem State.setStage_touches (s : State) (a1 : Nat) :
    Touches 0x8 s (State.setStage s a1) := by
  unfold State.setStage
  refine Touches.step (State.setFld_touches _ _ _ _) (by decide) ?_
  exact (State.setFld_touches _ _ _ _).mono (by decide)

theorem State.bootFail_touches (s : State) (a1 : Nat) :
    Touches 0x4001208 s (State.bootFail s a1) := by
  unfold State.bootFail
  refine Touches.step (State.keeperRec_touches _ _ _ _) (by decide) ?_
  exact (State.setFld_touches _ _ _ _).mono (by decide)

theorem State.loadFlashImage_touches (s : State) (a1 : Nat) :
    Touches 0x88 s (State.loadFlashImage s a1) := by
  unfold State.loadFlashImage
  extract_lets x0 x1
  clear_value x0 x1
  refine Touches.step (State.addImage_touches _ _) (by decide) ?_
  exact (State.beginImage_touches _ _ _).mono (by decide)

theorem State.nextFlashImage_touches (s : State) (a1 : List Nat) :
    Touches 0x4001288 s (State.nextFlashImage s a1) := by
  unfold State.nextFlashImage
  extract_lets x0 x1
  clear_value x0 x1
  split
  · exact (State.loadFlashImage_touches _ _).mono (by decide)
  · refine Touches.step (State.setStage_touches _ _) (by decide) ?_
    exact (State.bootFail_touches _ _).mono (by decide)

theorem execCheckComplete_touches (s : State) :
    TouchesX 0x4001a88 s (execCheckComplete s) := by
  unfold execCheckComplete
  split
  · refine TouchesX.next_ ?_
    exact Touches.refl _ _
  · split
    · extract_lets x0 x1 x2 x3
      clear_value x0
      have h4 : Touches 0x4001a88 s x1 := by
        unfold x1
        refine Touches.step (State.setImgState_touches _ _) (by decide) ?_
        exact (State.imgFail_touches _ _ _ _).mono (by decide)
      clear_value x1 x2 x3
      refine TouchesX.next_ ?_
      split
      · split
        · refine Touches.step (State.setStage_touches _ _) (by decide) ?_
          exact Touches.step (State.bootFail_touches _ _) (by decide) (by assumption)
        · refine Touches.step (State.nextFlashImage_touches _ _) (by decide) ?_
          exact Touches.step (Touches.set_boot x1 _) (by decide) (by assumption)
      · assumption
    · extract_lets x5 x6
      clear_value x5
      have h7 : Touches 0x4001a88 s x6 := by
        unfold x6
        refine Touches.step (State.setImgState_touches _ _) (by decide) ?_
        exact (State.withImg_touches _ _).mono (by decide)
      clear_value x6
      refine TouchesX.next_ ?_
      split
      · exact Touches.step (State.imgFail_touches _ _ _ _) (by decide) (by assumption)
      · exact Touches.step (State.imgFail_touches _ _ _ _) (by decide) (by assumption)

theorem execStagingReady_touches (a0 : Die) (s : State) :
    TouchesX 0x180 s (execStagingReady a0 s) := by
  unfold execStagingReady
  extract_lets x0 x1 x2
  clear_value x0 x1
  have h3 : Touches 0x180 s x2 := by
    unfold x2
    split
    · exact (Touches.set_sup s _).mono (by decide)
    · exact Touches.refl _ _
  clear_value x2
  split
  · refine TouchesX.next_ ?_
    exact Touches.step (State.withImg_touches _ _) (by decide) (by assumption)
  · refine TouchesX.next_ ?_
    assumption

theorem execCommit_touches (a0 : Sv) (a1 : Nat) (s : State) :
    TouchesX 0x8c s (execCommit a0 a1 s) := by
  unfold execCommit
  extract_lets x0 x1 x2 x3 x4
  clear_value x0
  have h5 : Touches 0x8c s x1 := by
    unfold x1
    refine Touches.foldl ?_ ?_
    · intro z6 z7
      split
      · exact Touches.refl _ _
      · split
        · exact (State.withImg_touches _ _).mono (by decide)
        · exact (State.dropWrite_touches _ _ _ _ _).mono (by decide)
    · exact Touches.refl _ _
  clear_value x1 x2 x3 x4
  split
  · refine TouchesX.next_ ?_
    exact Touches.refl _ _
  · split
    · refine TouchesX.next_ ?_
      refine Touches.step (State.setImgState_touches _ _) (by decide) ?_
      exact (State.imgFail_touches _ _ _ _).mono (by decide)
    · split
      · refine TouchesX.next_ ?_
        assumption
      · refine TouchesX.next_ ?_
        refine Touches.step (State.setImgState_touches _ _) (by decide) ?_
        refine Touches.step (State.setFld_touches _ _ _ _) (by decide) ?_
        exact Touches.step (Touches.set_tb x1 _) (by decide) (by assumption)

theorem State.endRetire_touches (s : State) :
    Touches 0x88 s (State.endRetire s) := by
  unfold State.endRetire
  refine Touches.step (State.setImgState_touches _ _) (by decide) ?_
  exact (State.withImg_touches _ _).mono (by decide)

theorem execRetireReport_touches (a0 : Die) (s : State) :
    TouchesX 0x88 s (execRetireReport a0 s) := by
  unfold execRetireReport
  split
  · refine TouchesX.next_ ?_
    exact Touches.refl _ _
  · extract_lets x0 x1
    clear_value x0
    have h2 : Touches 0x88 s x1 := by
      unfold x1
      exact (State.withImg_touches _ _).mono (by decide)
    clear_value x1
    refine TouchesX.next_ ?_
    split
    · exact Touches.step (State.endRetire_touches _) (by decide) (by assumption)
    · assumption

theorem execRetireTimeout_touches (s : State) :
    TouchesX 0x88 s (execRetireTimeout s) := by
  unfold execRetireTimeout
  split
  · refine TouchesX.next_ ?_
    exact Touches.refl _ _
  · refine TouchesX.next_ ?_
    split
    · exact (State.endRetire_touches _).mono (by decide)
    · exact Touches.refl _ _

theorem State.cancelArm_touches (s : State) (a1 : Nat) (a2 : Nat) (a3 : Nat) :
    Touches 0xc s (State.cancelArm s a1 a2 a3) := by
  unfold State.cancelArm
  extract_lets x0 x1
  have h2 : Touches 0xc s x0 := by
    unfold x0
    refine Touches.step (State.setImgState_touches _ _) (by decide) ?_
    exact (State.imgFail_touches _ _ _ _).mono (by decide)
  clear_value x0 x1
  refine Touches.step (State.setFld_touches _ _ _ _) (by decide) ?_
  exact Touches.step (Touches.set_tb x0 _) (by decide) (by assumption)

theorem State.stagingCheck_touches (s : State) :
    Touches 0xc s (State.stagingCheck s) := by
  unfold State.stagingCheck
  split
  · exact (State.cancelArm_touches _ _ _ _).mono (by decide)
  · split
    · exact Touches.refl _ _
    · split
      · exact Touches.refl _ _
      · exact (State.cancelArm_touches _ _ _ _).mono (by decide)

theorem State.swapImg_touches (s : State) (a1 : Plane) :
    Touches 0x80 s (State.swapImg s a1) := by
  unfold State.swapImg
  extract_lets x0 x1 x2 x3 x4 x5 x6 x7
  clear_value x0 x1 x2 x3 x4 x5 x6 x7
  refine Touches.step (State.withImg_touches _ _) (by decide) ?_
  exact Touches.refl _ _

theorem State.swapTurn_touches (s : State) (a1 : Plane) :
    Touches 0xc s (State.swapTurn s a1) := by
  unfold State.swapTurn
  extract_lets x0 x1 x2 x3 x4
  clear_value x0 x1 x3
  have h5 : Touches 0xc s x2 := by
    unfold x2
    split
    · exact Touches.refl _ _
    · refine Touches.step (State.wr_touches _ _ _) (by decide) ?_
      refine Touches.step (State.setFld_touches _ _ _ _) (by decide) ?_
      refine Touches.step (Touches.set_tb s _) (by decide) ?_
      exact Touches.refl _ _
  clear_value x2
  have h6 : Touches 0xc s x4 := by
    unfold x4
    refine Touches.step (State.setFld_touches _ _ _ _) (by decide) ?_
    refine Touches.step (Touches.set_tb x2 _) (by decide) ?_
    assumption
  clear_value x4
  refine Touches.step (State.setFld_touches _ _ _ _) (by decide) ?_
  assumption

theorem State.swapAct_touches (s : State) (a1 : Plane) :
    Touches 0x8 s (State.swapAct s a1) := by
  unfold State.swapAct
  extract_lets x0
  clear_value x0
  refine Touches.step (State.setFld_touches _ _ _ _) (by decide) ?_
  refine Touches.step (State.setFld_touches _ _ _ _) (by decide) ?_
  refine Touches.step (State.setFld_touches _ _ _ _) (by decide) ?_
  exact Touches.refl _ _

theorem State.swapPlanes_touches (s : State) (a1 : Plane) :
    Touches 0x18c s (State.swapPlanes s a1) := by
  unfold State.swapPlanes
  extract_lets x0 x1 x2 x3 x4 x5
  clear_value x3
  have h6 : Touches 0x18c s x0 := by
    unfold x0
    refine Touches.step (State.setImgState_touches _ _) (by decide) ?_
    refine Touches.step (State.swapImg_touches _ _) (by decide) ?_
    exact Touches.refl _ _
  clear_value x0
  have h7 : Touches 0x18c s x1 := by
    unfold x1
    split
    · refine Touches.step (State.imgFail_touches _ _ _ _) (by decide) ?_
      assumption
    · assumption
  clear_value x1
  have h8 : Touches 0x18c s x2 := by
    unfold x2
    refine Touches.step (State.swapTurn_touches _ _) (by decide) ?_
    refine Touches.step (State.swapAct_touches _ _) (by decide) ?_
    assumption
  clear_value x2
  have h9 : Touches 0x18c s x4 := by
    unfold x4
    refine Touches.step (Touches.set_sup x2 _) (by decide) ?_
    assumption
  clear_value x4
  have h10 : Touches 0x18c s x5 := by
    unfold x5
    refine Touches.step (State.setFld_touches _ _ _ _) (by decide) ?_
    assumption
  clear_value x5
  split
  · assumption
  · refine Touches.step (State.setStage_touches _ _) (by decide) ?_
    assumption

theorem State.blowFuses_touches (s : State) (a1 : Plane) :
    Touches 0x1 s (State.blowFuses s a1) := by
  unfold State.blowFuses
  refine Touches.set_fuses s _ ⟨rfl, ?_, fun k hk => ?_⟩
  · cases a1.commitSec
    · exact Nat.le_refl _
    · exact Nat.le_max_left _ _
  · simp only [bitOf, Nat.testBit_or] at hk ⊢
    simp [hk]

theorem State.emptySlots_touches (s : State) (a1 : Nat → Bool) :
    Touches 0x8 s (State.emptySlots s a1) := by
  unfold State.emptySlots
  refine Touches.foldl ?_ ?_
  · intro z0 z1
    refine Touches.foldl ?_ ?_
    · intro z2 z3
      extract_lets x4
      clear_value x4
      refine Touches.step (State.setFld_touches _ _ _ _) (by decide) ?_
      exact (State.setFld_touches _ _ _ _).mono (by decide)
    · exact Touches.refl _ _
  · exact Touches.refl _ _

theorem State.planeBoundary_touches (s : State) :
    Touches 0x18d s (State.planeBoundary s) := by
  unfold State.planeBoundary
  extract_lets x0 x1
  clear_value x0 x1
  split
  · split
    · exact (State.cancelArm_touches _ _ _ _).mono (by decide)
    · split
      · exact (State.stagingCheck_touches _).mono (by decide)
      · split
        · exact (State.cancelArm_touches _ _ _ _).mono (by decide)
        · exact Touches.refl _ _
  · split
    · exact Touches.refl _ _
    · split
      · exact (State.cancelArm_touches _ _ _ _).mono (by decide)
      · split
        · exact Touches.refl _ _
        · extract_lets x2
          have h3 : Touches 0x18d s x2 := by
            unfold x2
            exact (State.swapPlanes_touches _ _).mono (by decide)
          clear_value x2
          refine Touches.step (State.blowFuses_touches _ _) (by decide) ?_
          exact Touches.step (State.emptySlots_touches _ _) (by decide) (by assumption)
  · exact Touches.refl _ _

end Sys2Proof.Machine
end

