-- ==== Sys2Proof/Laws/FrameSupervision.lean ====
section
/-! SUPPORT. What each operation of Machine/Supervision.lean can touch: its mask, memory's canonical form, the fuses' trust. -/

namespace Sys2Proof.Machine

theorem State.withSup_touches (s : State) (a1 : SupSt → SupSt) :
    Touches 0x100 s (State.withSup s a1) := by
  unfold State.withSup
  exact (Touches.set_sup s _).mono (by decide)

theorem State.setVoter_touches (s : State) (a1 : Nat) (a2 : Voter → Voter) :
    Touches 0x100 s (State.setVoter s a1 a2) := by
  unfold State.setVoter
  exact (State.withSup_touches _ _).mono (by decide)

theorem State.setSvState_touches (s : State) (a1 : Nat) (a2 : Nat) :
    Touches 0x8 s (State.setSvState s a1 a2) := by
  unfold State.setSvState
  exact (State.setFld_touches _ _ _ _).mono (by decide)

theorem State.askVoter_touches (s : State) (a1 : Nat) (a2 : Nat) (a3 : Voter → Nat → Bool) (a4 : Voter → Nat → Voter) (a5 : Nat) :
    Touches 0x4000100 s (State.askVoter s a1 a2 a3 a4 a5) := by
  unfold State.askVoter
  extract_lets x0 x1 x2
  clear_value x0 x1
  have h3 : Touches 0x4000100 s x2 := by
    unfold x2
    split
    · exact (State.setVoter_touches _ _ _).mono (by decide)
    · exact Touches.refl _ _
  clear_value x2
  exact Touches.step (State.emit_touches _ _) (by decide) (by assumption)

theorem State.askVoters_touches (s : State) (a1 : Nat) (a2 : Nat) (a3 : Voter → Nat → Bool) (a4 : Voter → Nat → Voter) :
    Touches 0x4000100 s (State.askVoters s a1 a2 a3 a4) := by
  unfold State.askVoters
  refine Touches.foldl ?_ ?_
  · intro z0 z1
    exact (State.askVoter_touches _ _ _ _ _ _).mono (by decide)
  · exact Touches.refl _ _

theorem State.countRefused_touches (s : State) (a1 : Nat) (a2 : Nat) :
    Touches 0x8 s (State.countRefused s a1 a2) := by
  unfold State.countRefused
  split
  · exact (State.count_touches _ _ _).mono (by decide)
  · exact Touches.refl _ _

theorem State.takeLead_touches (s : State) (a1 : Nat) :
    Touches 0x8 s (State.takeLead s a1) := by
  unfold State.takeLead
  extract_lets x0
  have h1 : Touches 0x8 s x0 := by
    unfold x0
    split
    · exact (State.setSvState_touches _ _ _).mono (by decide)
    · exact Touches.refl _ _
  clear_value x0
  exact Touches.step (State.setSvState_touches _ _ _) (by decide) (by assumption)

theorem State.startLeased_touches (s : State) :
    Touches 0x4001288 s (State.startLeased s) := by
  unfold State.startLeased
  split
  · exact Touches.refl _ _
  · extract_lets x0 x1 x2
    have h3 : Touches 0x4001288 s x0 := by
      unfold x0
      exact (State.setStage_touches _ _).mono (by decide)
    clear_value x0 x1
    have h4 : Touches 0x4001288 s x2 := by
      unfold x2
      refine Touches.foldl ?_ ?_
      · intro z5 z6
        exact (State.keeperRec_touches _ _ _ _).mono (by decide)
      · assumption
    clear_value x2
    split
    · refine Touches.step (State.setStage_touches _ _) (by decide) ?_
      exact Touches.step (State.bootFail_touches _ _) (by decide) (by assumption)
    · split
      · exact Touches.step (State.nextFlashImage_touches _ _) (by decide) (by assumption)
      · assumption

theorem State.campaign_touches (s : State) (a1 : Nat) (a2 : Nat) :
    Touches 0x6001388 s (State.campaign s a1 a2) := by
  unfold State.campaign
  extract_lets x0 x1 x2 x3 x4 x5 x6 x7 x8 x9 x10
  clear_value x0 x1 x2 x3 x4
  have h11 : Touches 0x6001388 s x5 := by
    unfold x5
    exact (State.askVoters_touches _ _ _ _ _).mono (by decide)
  clear_value x5
  have h12 : Touches 0x6001388 s x6 := by
    unfold x6
    exact Touches.step (State.countRefused_touches _ _ _) (by decide) (by assumption)
  clear_value x6
  have h13 : Touches 0x6001388 s x7 := by
    unfold x7
    exact Touches.step (State.count_touches _ _ _) (by decide) (by assumption)
  clear_value x7
  have h14 : Touches 0x6001388 s x8 := by
    unfold x8
    split
    · exact Touches.step (State.count_touches _ _ _) (by decide) (by assumption)
    · assumption
  clear_value x8 x9
  have h15 : Touches 0x6001388 s x10 := by
    unfold x10
    exact Touches.step (State.withSup_touches _ _) (by decide) (by assumption)
  clear_value x10
  split
  · refine Touches.step (State.startLeased_touches _) (by decide) ?_
    exact Touches.step (State.takeLead_touches _ _) (by decide) (by assumption)
  · split
    · rename_i w16 w17 w18 w19
      have h20 : Touches 0x6001388 s w18 := by
        refine Touches2.of w19 ?_
        exact Touches2.step (State.free_touches _) (by decide) (by assumption)
      exact Touches.step (State.withSup_touches _ _) (by decide) (by assumption)

theorem execCampaign_touches (a0 : Sv) (a1 : Nat) (s : State) :
    TouchesX 0x6001388 s (execCampaign a0 a1 s) := by
  unfold execCampaign
  refine TouchesX.next_ ?_
  exact (State.campaign_touches _ _ _).mono (by decide)

theorem State.renewFences_touches (s : State) (a1 : Nat) (a2 : List Nat) :
    Touches 0x100 s (State.renewFences s a1 a2) := by
  unfold State.renewFences
  refine Touches.foldl ?_ ?_
  · intro z0 z1
    extract_lets x2
    clear_value x2
    split
    · exact (State.setFence_touches _ _ _).mono (by decide)
    · exact Touches.refl _ _
  · exact Touches.refl _ _

theorem execRenew_touches (a0 : Sv) (a1 : Nat) (s : State) :
    TouchesX 0x4000108 s (execRenew a0 a1 s) := by
  unfold execRenew
  extract_lets x0 x1 x2 x3
  clear_value x0 x1 x2
  have h4 : Touches 0x4000108 s x3 := by
    unfold x3
    exact (State.askVoters_touches _ _ _ _ _).mono (by decide)
  clear_value x3
  refine TouchesX.next_ ?_
  refine Touches.step (State.renewFences_touches _ _ _) (by decide) ?_
  exact Touches.step (State.countRefused_touches _ _ _) (by decide) (by assumption)

theorem State.resign_touches (s : State) (a1 : Nat) (a2 : Nat) :
    Touches 0x4000108 s (State.resign s a1 a2) := by
  unfold State.resign
  extract_lets x0 x1 x2 x3 x4 x5
  clear_value x0 x1 x2
  have h6 : Touches 0x4000108 s x3 := by
    unfold x3
    exact (State.askVoters_touches _ _ _ _ _).mono (by decide)
  clear_value x3
  have h7 : Touches 0x4000108 s x4 := by
    unfold x4
    exact Touches.step (State.countRefused_touches _ _ _) (by decide) (by assumption)
  clear_value x4
  have h8 : Touches 0x4000108 s x5 := by
    unfold x5
    refine Touches.foldl ?_ ?_
    · intro z9 z10
      split
      · exact (State.setFence_touches _ _ _).mono (by decide)
      · exact Touches.refl _ _
    · assumption
  clear_value x5
  split
  · split
    · exact Touches.step (State.setSvState_touches _ _ _) (by decide) (by assumption)
    · assumption
  · assumption

theorem execResign_touches (a0 : Sv) (a1 : Nat) (s : State) :
    TouchesX 0x4000108 s (execResign a0 a1 s) := by
  unfold execResign
  refine TouchesX.next_ ?_
  exact (State.resign_touches _ _ _).mono (by decide)

theorem execTermNotice_touches (a0 : Die) (a1 : Fin 3) (s : State) :
    TouchesX 0x100 s (execTermNotice a0 a1 s) := by
  unfold execTermNotice
  extract_lets x0 x1 x2 x3 x4 x5 x6 x7
  clear_value x0 x1 x2
  have h8 : Touches 0x100 s x3 := by
    unfold x3
    exact (State.setFence_touches _ _ _).mono (by decide)
  clear_value x3 x4 x5
  have h9 : Touches 0x100 s x6 := by
    unfold x6
    split
    · exact Touches.refl _ _
    · split
      · exact Touches.step (State.setFence_touches _ _ _) (by decide) (by assumption)
      · assumption
  clear_value x6 x7
  split
  · refine TouchesX.next_ ?_
    exact Touches.refl _ _
  · refine TouchesX.next_ ?_
    refine Touches.foldl ?_ ?_
    · intro z10 z11
      split
      · exact (State.setVoter_touches _ _ _).mono (by decide)
      · exact Touches.refl _ _
    · assumption

theorem State.adoptTerms_touches (s : State) :
    Touches 0x100 s (State.adoptTerms s) := by
  unfold State.adoptTerms
  refine Touches.foldl ?_ ?_
  · intro z0 z1
    extract_lets x2 x3
    clear_value x2 x3
    split
    · extract_lets x4
      clear_value x4
      exact (State.setFence_touches _ _ _).mono (by decide)
    · exact Touches.refl _ _
  · exact Touches.refl _ _

theorem State.svRefuse_touches (s : State) :
    Touches 0x8 s (State.svRefuse s) := by
  unfold State.svRefuse
  exact (State.setFld_touches _ _ _ _).mono (by decide)

theorem State.svCommand_touches {m : Nat} (s : State) (a1 : Writer) (a2 : State → State) (hm : 0x8 ||| m = m)
    (h : ∀ s, Touches m s (a2 s)) : Touches m s (State.svCommand s a1 a2) :=
  State.fenced_touches _ _ _ _ _ hm h

theorem State.handover_touches (s : State) (a1 : Nat) (a2 : Nat) :
    Touches 0x108 s (State.handover s a1 a2) := by
  unfold State.handover
  extract_lets x0 x1
  clear_value x0 x1
  split
  · exact (State.svRefuse_touches _).mono (by decide)
  · split
    · exact (State.svRefuse_touches _).mono (by decide)
    · extract_lets x2
      clear_value x2
      split
      · exact (State.count_touches _ _ _).mono (by decide)
      · exact (State.withSup_touches _ _).mono (by decide)

theorem execHandover_touches (a0 : Writer) (a1 : Nat) (a2 : Nat) (s : State) :
    TouchesX 0x108 s (execHandover a0 a1 a2 s) := by
  unfold execHandover
  refine TouchesX.next_ ?_
  refine Touches.step (State.svCommand_touches (m := 0x108) _ _ _ (by decide) ?_) (by decide) ?_
  · intro z0
    exact (State.handover_touches _ _ _).mono (by decide)
  · exact Touches.refl _ _

theorem State.cancelHandover_touches (s : State) :
    Touches 0x108 s (State.cancelHandover s) := by
  unfold State.cancelHandover
  split
  · split
    · exact (State.svRefuse_touches _).mono (by decide)
    · exact (State.withSup_touches _ _).mono (by decide)
  · exact (State.svRefuse_touches _).mono (by decide)

theorem execCancelHandover_touches (a0 : Writer) (s : State) :
    TouchesX 0x108 s (execCancelHandover a0 s) := by
  unfold execCancelHandover
  refine TouchesX.next_ ?_
  refine Touches.step (State.svCommand_touches (m := 0x108) _ _ _ (by decide) ?_) (by decide) ?_
  · intro z0
    exact (State.cancelHandover_touches _).mono (by decide)
  · exact Touches.refl _ _

theorem State.svBoot_touches (s : State) (a1 : Nat) (a2 : Nat) :
    Touches 0x108 s (State.svBoot s a1 a2) := by
  unfold State.svBoot
  split
  · exact Touches.refl _ _
  · extract_lets x0 x1
    clear_value x0
    have h2 : Touches 0x108 s x1 := by
      unfold x1
      refine Touches.step (State.count_touches _ _ _) (by decide) ?_
      refine Touches.step (State.setFld_touches _ _ _ _) (by decide) ?_
      exact (State.setSvState_touches _ _ _).mono (by decide)
    clear_value x1
    exact Touches.step (State.withSup_touches _ _) (by decide) (by assumption)

theorem State.svRestart_touches (s : State) (a1 : Nat) (a2 : Bool) :
    Touches 0x108 s (State.svRestart s a1 a2) := by
  unfold State.svRestart
  split
  · exact (State.svRefuse_touches _).mono (by decide)
  · exact (State.svBoot_touches _ _ _).mono (by decide)

theorem execSvRestart_touches (a0 : Writer) (a1 : Nat) (a2 : Bool) (s : State) :
    TouchesX 0x108 s (execSvRestart a0 a1 a2 s) := by
  unfold execSvRestart
  refine TouchesX.next_ ?_
  refine Touches.step (State.svCommand_touches (m := 0x108) _ _ _ (by decide) ?_) (by decide) ?_
  · intro z0
    exact (State.svRestart_touches _ _ _).mono (by decide)
  · exact Touches.refl _ _

theorem State.svFailed_touches (s : State) (a1 : Nat) :
    Touches 0x4001308 s (State.svFailed s a1) := by
  unfold State.svFailed
  extract_lets x0 x1
  have h2 : Touches 0x4001308 s x0 := by
    unfold x0
    exact (State.setSvState_touches _ _ _).mono (by decide)
  clear_value x0
  have h3 : Touches 0x4001308 s x1 := by
    unfold x1
    exact Touches.step (State.withSup_touches _ _) (by decide) (by assumption)
  clear_value x1
  exact Touches.step (State.keeperRec_touches _ _ _ _) (by decide) (by assumption)

theorem execSupervisorReady_touches (a0 : Sv) (a1 : Bool) (s : State) :
    TouchesX 0x4001308 s (execSupervisorReady a0 a1 s) := by
  unfold execSupervisorReady
  extract_lets x0 x1 x2
  clear_value x0 x1 x2
  split
  · split
    · refine TouchesX.next_ ?_
      refine Touches.step (State.setFld_touches _ _ _ _) (by decide) ?_
      refine Touches.step (State.setFld_touches _ _ _ _) (by decide) ?_
      refine Touches.step (State.setFld_touches _ _ _ _) (by decide) ?_
      exact (State.setSvState_touches _ _ _).mono (by decide)
    · refine TouchesX.next_ ?_
      exact (State.svFailed_touches _ _).mono (by decide)
  · refine TouchesX.next_ ?_
    exact Touches.refl _ _

theorem State.handoverBoundary_touches (s : State) :
    Touches 0x108 s (State.handoverBoundary s) := by
  unfold State.handoverBoundary
  split
  · exact Touches.refl _ _
  · split
    · exact Touches.refl _ _
    · extract_lets x0 x1 x2 x3 x4
      have h5 : Touches 0x108 s x0 := by
        unfold x0
        exact (State.withSup_touches _ _).mono (by decide)
      clear_value x0 x1 x2
      have h6 : Touches 0x108 s x3 := by
        unfold x3
        refine Touches.foldl ?_ ?_
        · intro z7 z8
          exact (State.setVoter_touches _ _ _).mono (by decide)
        · assumption
      clear_value x3
      have h9 : Touches 0x108 s x4 := by
        unfold x4
        refine Touches.foldl ?_ ?_
        · intro z10 z11
          extract_lets x12
          clear_value x12
          split
          · exact (State.setFence_touches _ _ _).mono (by decide)
          · exact Touches.refl _ _
        · assumption
      clear_value x4
      split
      · exact Touches.step (State.count_touches _ _ _) (by decide) (by assumption)
      · refine Touches.step (State.takeLead_touches _ _) (by decide) ?_
        refine Touches.step (State.count_touches _ _ _) (by decide) ?_
        exact Touches.step (State.count_touches _ _ _) (by decide) (by assumption)

theorem execLeaseExpiry_touches (s : State) :
    TouchesX 0x8 s (execLeaseExpiry s) := by
  unfold execLeaseExpiry
  split
  · refine TouchesX.next_ ?_
    exact Touches.refl _ _
  · extract_lets x0
    have h1 : ∀ y0 y1, Touches 0x8 y0 (x0 y0 y1) := by
      intro y0 y1
      unfold x0
      split
      · exact (State.setSvState_touches _ _ _).mono (by decide)
      · exact Touches.refl _ _
    clear_value x0
    refine TouchesX.next_ ?_
    refine Touches.step (h1 _ _) (by decide) ?_
    exact (h1 _ _).mono (by decide)

theorem execCampaignBackoffExpiry_touches (a0 : Sv) (s : State) :
    TouchesX 0x6001388 s (execCampaignBackoffExpiry a0 s) := by
  unfold execCampaignBackoffExpiry
  extract_lets x0 x1
  clear_value x0
  have h2 : Touches 0x6001388 s x1 := by
    unfold x1
    exact (State.withSup_touches _ _).mono (by decide)
  clear_value x1
  split
  · refine TouchesX.next_ ?_
    exact Touches.refl _ _
  · split
    · refine TouchesX.next_ ?_
      assumption
    · refine TouchesX.next_ ?_
      exact Touches.step (State.campaign_touches _ _ _) (by decide) (by assumption)

theorem State.seamEvent_touches (s : State) :
    Touches 0x4a01608 s (State.seamEvent s) := by
  unfold State.seamEvent
  refine Touches.step (State.post_touches _ _) (by decide) ?_
  exact (State.logAppend_touches _ _).mono (by decide)

theorem State.freezeJobs_touches (s : State) :
    Touches 0x40000 s (State.freezeJobs s) := by
  unfold State.freezeJobs
  split
  · exact Touches.refl _ _
  · exact (Touches.set_jobs s _).mono (by decide)

theorem State.cutSeam_touches (s : State) :
    Touches 0x4a41708 s (State.cutSeam s) := by
  unfold State.cutSeam
  split
  · exact Touches.refl _ _
  · extract_lets x0 x1
    have h2 : Touches 0x4a41708 s x0 := by
      unfold x0
      exact (State.withSup_touches _ _).mono (by decide)
    clear_value x0
    have h3 : Touches 0x4a41708 s x1 := by
      unfold x1
      refine Touches.foldl ?_ ?_
      · intro z4 z5
        split
        · exact Touches.refl _ _
        · exact (State.setFence_touches _ _ _).mono (by decide)
      · assumption
    clear_value x1
    refine Touches.step (State.seamEvent_touches _) (by decide) ?_
    exact Touches.step (State.freezeJobs_touches _) (by decide) (by assumption)

theorem execSeamCut_touches (a0 : List (Fin 12 × Nat)) (s : State) :
    TouchesX 0x4a41708 s (execSeamCut a0 s) := by
  unfold execSeamCut
  extract_lets x0
  have h1 : Touches 0x4a41708 s x0 := by
    unfold x0
    refine Touches.foldl ?_ ?_
    · intro z2 z3
      split
      · exact (State.countBy_touches _ _ _ _).mono (by decide)
      · exact Touches.refl _ _
    · exact Touches.refl _ _
  clear_value x0
  refine TouchesX.next_ ?_
  exact Touches.step (State.cutSeam_touches _) (by decide) (by assumption)

theorem execSeamHeal_touches (s : State) :
    TouchesX 0x4a01708 s (execSeamHeal s) := by
  unfold execSeamHeal
  split
  · refine TouchesX.next_ ?_
    exact Touches.refl _ _
  · extract_lets x0 x1 x2
    clear_value x0
    have h3 : Touches 0x4a01708 s x1 := by
      unfold x1
      exact (State.withSup_touches _ _).mono (by decide)
    clear_value x1
    have h4 : Touches 0x4a01708 s x2 := by
      unfold x2
      split
      · assumption
      · extract_lets x5 x6
        clear_value x5
        have h7 : Touches 0x4a01708 s x6 := by
          unfold x6
          refine Touches.foldl ?_ ?_
          · intro z8 z9
            split
            · split
              · exact (State.setVoter_touches _ _ _).mono (by decide)
              · exact Touches.refl _ _
            · exact Touches.refl _ _
          · assumption
        clear_value x6
        refine Touches.foldl ?_ ?_
        · intro z10 z11
          refine Touches.foldl ?_ ?_
          · intro z12 z13
            split
            · exact (State.setFence_touches _ _ _).mono (by decide)
            · split
              · exact (State.setFence_touches _ _ _).mono (by decide)
              · exact Touches.refl _ _
          · exact Touches.refl _ _
        · assumption
    clear_value x2
    refine TouchesX.next_ ?_
    exact Touches.step (State.seamEvent_touches _) (by decide) (by assumption)

theorem State.seamBoundary_touches (s : State) :
    Touches 0x4a41788 s (State.seamBoundary s) := by
  unfold State.seamBoundary
  split
  · exact Touches.refl _ _
  · split
    · exact Touches.refl _ _
    · split
      · extract_lets x0 x1 x2 x3 x4
        clear_value x1 x3
        have h5 : Touches 0x4a41788 s x0 := by
          unfold x0
          refine Touches.step (State.emptySlots_touches _ _) (by decide) ?_
          exact Touches.refl _ _
        clear_value x0
        have h6 : Touches 0x4a41788 s x2 := by
          unfold x2
          refine Touches.step (State.withImg_touches _ _) (by decide) ?_
          assumption
        clear_value x2
        have h7 : Touches 0x4a41788 s x4 := by
          unfold x4
          refine Touches.step (Touches.set_jobs x2 _) (by decide) ?_
          assumption
        clear_value x4
        refine Touches.step (State.seamEvent_touches _) (by decide) ?_
        refine Touches.step (State.withSup_touches _ _) (by decide) ?_
        assumption
      · extract_lets x8
        clear_value x8
        refine Touches.step (State.withSup_touches _ _) (by decide) ?_
        exact Touches.refl _ _

theorem State.warmRestart_touches (s : State) :
    Touches 0x4a00708 s (State.warmRestart s) := by
  unfold State.warmRestart
  extract_lets x0 x1 x2 x3 x4 x5 x6
  have h7 : Touches 0x4a00708 s x0 := by
    unfold x0
    split
    · split
      · exact (State.resign_touches _ _ _).mono (by decide)
      · exact Touches.refl _ _
    · exact Touches.refl _ _
  clear_value x0
  have h8 : Touches 0x4a00708 s x1 := by
    unfold x1
    exact Touches.step (State.count_touches _ _ _) (by decide) (by assumption)
  clear_value x1
  have h9 : ∀ y0 y1, Touches 0x4a00708 y0 (x2 y0 y1) := by
    intro y0 y1
    unfold x2
    exact (State.svBoot_touches _ _ _).mono (by decide)
  clear_value x2
  have h10 : Touches 0x4a00708 s x3 := by
    unfold x3
    refine Touches.step (h9 _ _) (by decide) ?_
    exact Touches.step (h9 _ _) (by decide) (by assumption)
  clear_value x3
  have h11 : Touches 0x4a00708 s x4 := by
    unfold x4
    exact Touches.step (State.withSup_touches _ _) (by decide) (by assumption)
  clear_value x4 x5
  have h12 : Touches 0x4a00708 s x6 := by
    unfold x6
    exact Touches.step (Touches.set_err x4 _) (by decide) (by assumption)
  clear_value x6
  refine Touches.step (State.post_touches _ _) (by decide) ?_
  exact Touches.step (State.taken_touches _ _ _) (by decide) (by assumption)

theorem execWarmRestart_touches (a0 : Writer) (s : State) :
    TouchesX 0x4a00708 s (execWarmRestart a0 s) := by
  unfold execWarmRestart
  refine TouchesX.next_ ?_
  refine Touches.step (State.fenced_touches (m := 0x4a00708) _ _ _ _ _ (by decide) ?_) (by decide) ?_
  · intro z0
    exact (State.warmRestart_touches _).mono (by decide)
  · exact Touches.refl _ _

theorem execNoLeaderTimeout_touches (s : State) :
    TouchesX 0x4a00708 s (execNoLeaderTimeout s) := by
  unfold execNoLeaderTimeout
  split
  · refine TouchesX.next_ ?_
    refine Touches.step (State.warmRestart_touches _) (by decide) ?_
    exact (State.capture_touches _).mono (by decide)
  · refine TouchesX.next_ ?_
    exact Touches.refl _ _

end Sys2Proof.Machine
end

