-- ==== Sys2Proof/Laws/FrameDies.lean ====
section
/-! SUPPORT. What each operation of Machine/Dies.lean can touch: its mask, memory's canonical form, the fuses' trust. -/

namespace Sys2Proof.Machine

theorem State.discardPkt_touches (s : State) (a1 : Pkt) :
    Touches 0x2008 s (State.discardPkt s a1) := by
  unfold State.discardPkt
  refine Touches.step (State.releasePkt_touches _ _) (by decide) ?_
  refine Touches.step (State.captureDrop_touches _ _ _ _ _) (by decide) ?_
  exact Touches.refl _ _

theorem State.discardPkts_touches (s : State) (a1 : Pkt → Bool) :
    Touches 0x6008 s (State.discardPkts s a1) := by
  unfold State.discardPkts
  extract_lets x0 x1 x2 x3 x4 x5 x6
  clear_value x0 x4 x6
  have h7 : Touches 0x6008 s x1 := by
    unfold x1
    refine Touches.foldl ?_ ?_
    · intro z8
      intro z9
      extract_lets x10
      clear_value x10
      beta_reduce
      refine Touches.foldl ?_ ?_
      · intro z11
        intro z12
        refine Touches.step (State.discardPkt_touches _ _) (by decide) ?_
        exact Touches.refl _ _
      · refine Touches.step (State.setQueue_touches _ _ _) (by decide) ?_
        exact Touches.refl _ _
    · exact Touches.refl _ _
  clear_value x1
  have h13 : Touches 0x6008 s x2 := by
    unfold x2
    refine Touches.foldl ?_ ?_
    · intro z14
      intro z15
      extract_lets x16
      clear_value x16
      beta_reduce
      refine Touches.foldl ?_ ?_
      · intro z17
        intro z18
        refine Touches.step (State.discardPkt_touches _ _) (by decide) ?_
        exact Touches.refl _ _
      · refine Touches.step (State.setReleased_touches _ _ _) (by decide) ?_
        exact Touches.refl _ _
    · assumption
  clear_value x2
  have h19 : Touches 0x6008 s x3 := by
    unfold x3
    refine Touches.foldl ?_ ?_
    · intro z20
      intro z21
      extract_lets x22 x23
      clear_value x22
      have h24 : Touches 0x6008 z20 x23 := by
        unfold x23
        refine Touches.step (State.setPort_touches _ _ _) (by decide) ?_
        exact Touches.refl _ _
      clear_value x23
      refine Touches.step (State.showHeld_touches _ _) (by decide) ?_
      refine Touches.foldl ?_ ?_
      · intro z25
        intro z26
        refine Touches.step (State.discardPkt_touches _ _) (by decide) ?_
        exact Touches.refl _ _
      · assumption
    · assumption
  clear_value x3
  have h27 : Touches 0x6008 s x5 := by
    unfold x5
    refine Touches.foldl ?_ ?_
    · intro z28
      intro z29
      refine Touches.step (State.discardPkt_touches _ _) (by decide) ?_
      exact Touches.refl _ _
    · refine Touches.step (State.withBench_touches _ _) (by decide) ?_
      assumption
  clear_value x5
  refine Touches.foldl ?_ ?_
  · intro z30
    intro z31
    refine Touches.step (State.dropArriving_touches _ _) (by decide) ?_
    exact Touches.refl _ _
  · assumption

theorem State.burrGrain_touches (s : State) (a1 : Nat) :
    Touches 0x2000 s (State.burrGrain s a1) := by
  unfold State.burrGrain
  extract_lets x0
  clear_value x0
  split
  · exact Touches.refl _ _
  · exact (State.setGrain_touches _ _ _).mono (by decide)

theorem State.failLatheDie_touches (s : State) (a1 : Nat) :
    Touches 0x7bc2648 s (State.failLatheDie s a1) := by
  unfold State.failLatheDie
  extract_lets x0 x1 x2
  clear_value x0 x1
  have h3 : Touches 0x7bc2648 s x2 := by
    unfold x2
    refine Touches.foldl ?_ ?_
    · intro z4
      intro z5
      refine Touches.step (State.setFld_touches _ _ _ _) (by decide) ?_
      exact Touches.refl _ _
    · exact Touches.refl _ _
  clear_value x2
  refine Touches.foldl ?_ ?_
  · intro z6
    intro z7
    extract_lets x8
    have h9 : Touches 0x7bc2648 z6 x8 := by
      unfold x8
      refine Touches.step (State.resetLathe_touches _ _) (by decide) ?_
      exact Touches.refl _ _
    clear_value x8
    split
    · assumption
    · refine Touches.step (State.failLathe_touches _ _) (by decide) ?_
      assumption
  · assumption

theorem State.failBenchDie_touches (s : State) (a1 : Nat) :
    Touches 0x4bc6608 s (State.failBenchDie s a1) := by
  unfold State.failBenchDie
  extract_lets x0 x1 x2
  have h3 : Touches 0x4bc6608 s x0 := by
    unfold x0
    exact (State.discardPkts_touches _ _).mono (by decide)
  clear_value x0
  have h4 : Touches 0x4bc6608 s x1 := by
    unfold x1
    refine Touches.foldl ?_ ?_
    · intro z5 z6
      split
      · exact (State.burrGrain_touches _ _).mono (by decide)
      · exact Touches.refl _ _
    · assumption
  clear_value x1 x2
  refine Touches.foldl ?_ ?_
  · intro z7 z8
    split
    · exact Touches.refl _ _
    · extract_lets x9
      clear_value x9
      refine Touches.step (State.containJob_touches _ _ _ _ _) (by decide) ?_
      exact (State.fault_touches _ _ _ _).mono (by decide)
  · assumption

theorem State.failTierDie_touches (s : State) (a1 a2 : Nat) :
    Touches 0x600000 s (State.failTierDie s a1 a2) := by
  unfold State.failTierDie
  split
  · exact (Touches.set_near s _ (fun h => Tbl.wf_filter _ _ _ h)).mono (by decide)
  · exact (Touches.set_far s _ (fun h => Tbl.wf_filter _ _ _ h)).mono (by decide)

theorem State.failDie_touches (s : State) (a1 : Nat) :
    Touches 0x7fc7758 s (State.failDie s a1) := by
  unfold State.failDie
  split
  · exact Touches.refl _ _
  · extract_lets x0 x1 x2 x3 x4
    clear_value x0 x2
    have h5 : Touches 0x7fc7758 s x1 := by
      unfold x1
      refine Touches.step (State.setDie_touches _ _ _) (by decide) ?_
      exact Touches.refl _ _
    clear_value x1
    have h6 : Touches 0x7fc7758 s x3 := by
      unfold x3
      refine Touches.step (State.logAppend_touches _ _) (by decide) ?_
      assumption
    clear_value x3
    have h7 : Touches 0x7fc7758 s x4 := by
      unfold x4
      split
      · refine Touches.foldl ?_ ?_
        · intro z8
          intro z9
          refine Touches.step (State.enterDisabled_touches _ _ _) (by decide) ?_
          exact Touches.refl _ _
        · assumption
      · split
        · refine Touches.step (State.failLatheDie_touches _ _) (by decide) ?_
          assumption
        · split
          · refine Touches.step (State.failBenchDie_touches _ _) (by decide) ?_
            assumption
          · split
            · refine Touches.step (State.failTierDie_touches _ _ _) (by decide) ?_
              assumption
            · split
              · refine Touches.step (State.failTierDie_touches _ _ _) (by decide) ?_
                assumption
              · split
                · split
                  · refine Touches.step (State.cutSeam_touches _) (by decide) ?_
                    assumption
                  · assumption
                · split
                  · refine Touches.step (State.svFailed_touches _ _) (by decide) ?_
                    assumption
                  · split
                    · refine Touches.step (State.setFld_touches _ _ _ _) (by decide) ?_
                      assumption
                    · assumption
    clear_value x4
    split
    · split
      · rename_i w10 w11 w12 w13 w14 w15
        have h16 : Touches 0x7fc7758 s w14 := by
          refine Touches2.of w15 ?_
          refine Touches2.step (State.free_touches _) (by decide) ?_
          assumption
        refine Touches.step (State.i3cEvent_touches _ _ _) (by decide) ?_
        refine Touches.step (State.keeperRec_touches _ _ _ _) (by decide) ?_
        assumption
    · assumption

theorem execDieFailed_touches (a0 : Die) (s : State) :
    TouchesX 0x7fc7758 s (execDieFailed a0 s) := by
  unfold execDieFailed
  refine TouchesX.next_ ?_
  refine Touches.step (State.failDie_touches _ _) (by decide) ?_
  exact Touches.refl _ _

theorem execHeartbeatMiss_touches (a0 : Die) (a1 : Nat) (s : State) :
    TouchesX 0x7fc7758 s (execHeartbeatMiss a0 a1 s) := by
  unfold execHeartbeatMiss
  split
  · refine TouchesX.next_ ?_
    refine Touches.step (State.failDie_touches _ _) (by decide) ?_
    exact Touches.refl _ _
  · refine TouchesX.next_ ?_
    exact Touches.refl _ _

theorem execHangDetect_touches (a0 : Die) (a1 : Nat) (s : State) :
    TouchesX 0x208 s (execHangDetect a0 a1 s) := by
  unfold execHangDetect
  extract_lets x0 x1 x2 x3 x4 x5 x6
  clear_value x0 x1 x2 x3
  have h7 : Touches 0x208 s x4 := by
    unfold x4
    refine Touches.step (State.raise_touches _ _) (by decide) ?_
    exact (State.capture_touches _).mono (by decide)
  clear_value x4 x5
  have h8 : Touches 0x208 s x6 := by
    unfold x6
    exact Touches.step (Touches.set_err x4 _) (by decide) (by assumption)
  clear_value x6
  split
  · split
    · refine TouchesX.next_ ?_
      exact (State.raise_touches _ _).mono (by decide)
    · refine TouchesX.next_ ?_
      exact Touches.refl _ _
  · split
    · refine TouchesX.next_ ?_
      exact Touches.refl _ _
    · refine TouchesX.next_ ?_
      exact Touches.step (State.escalate_touches _ _ _ _ _) (by decide) (by assumption)

theorem State.ctrlUe_touches (s : State) (a1 : Nat) (a2 : Nat) (a3 : Nat) (a4 : Nat) :
    Touches 0x7fc7758 s (State.ctrlUe s a1 a2 a3 a4) := by
  unfold State.ctrlUe
  extract_lets x0 x1 x2 x3 x4
  clear_value x0 x1 x3
  have h5 : Touches 0x7fc7758 s x2 := by
    unfold x2
    refine Touches.step (State.raise_touches _ _) (by decide) ?_
    exact Touches.refl _ _
  clear_value x2
  have h6 : Touches 0x7fc7758 s x4 := by
    unfold x4
    refine Touches.step (State.setDie_touches _ _ _) (by decide) ?_
    assumption
  clear_value x4
  split
  · refine Touches.step (State.failDie_touches _ _) (by decide) ?_
    assumption
  · assumption

theorem State.retireGrain_touches (s : State) (a1 : Nat) :
    Touches 0x4bc6608 s (State.retireGrain s a1) := by
  unfold State.retireGrain
  extract_lets x0 x1 x2 x3 x4 x5 x6 x7
  clear_value x0
  have h8 : Touches 0x4bc6608 s x1 := by
    unfold x1
    exact (State.discardPkts_touches _ _).mono (by decide)
  clear_value x1
  have h9 : Touches 0x4bc6608 s x2 := by
    unfold x2
    refine Touches.foldl ?_ ?_
    · intro z10 z11
      exact (State.fault_touches _ _ _ _).mono (by decide)
    · assumption
  clear_value x2
  have h12 : Touches 0x4bc6608 s x3 := by
    unfold x3
    exact Touches.step (State.freeGrain_touches _ _) (by decide) (by assumption)
  clear_value x3 x4 x5 x6 x7
  exact Touches.step (Touches.set_err x3 _) (by decide) (by assumption)

theorem execScrub_touches (a0 : Die) (a1 : Nat) (a2 : ScrubHit) (s : State) :
    TouchesX 0x7fc7758 s (execScrub a0 a1 a2 s) := by
  unfold execScrub
  extract_lets x0 x1 x2 x3 x4
  clear_value x0 x1 x3 x4
  have h5 : ∀ z6 z7 z8 z9, Touches 0x7fc7758 z6 (x2 z6 z7 z8 z9) := by
    intro z6 z7 z8 z9
    unfold x2
    beta_reduce
    refine Touches.step (State.raise_touches _ _) (by decide) ?_
    exact Touches.refl _ _
  clear_value x2
  split
  · refine TouchesX.next_ ?_
    exact Touches.refl _ _
  · split
    · refine TouchesX.next_ ?_
      exact Touches.refl _ _
    · refine TouchesX.next_ ?_
      refine Touches.step (h5 _ _ _ _) (by decide) ?_
      exact Touches.refl _ _
    · extract_lets x10
      have h11 : Touches 0x7fc7758 s x10 := by
        unfold x10
        refine Touches.step (h5 _ _ _ _) (by decide) ?_
        exact Touches.refl _ _
      clear_value x10
      refine TouchesX.next_ ?_
      split
      · refine Touches.step (State.tierBurr_touches _ _ _) (by decide) ?_
        assumption
      · split
        · refine Touches.step (State.tierBurr_touches _ _ _) (by decide) ?_
          assumption
        · split
          · refine Touches.step (State.burrGrain_touches _ _) (by decide) ?_
            assumption
          · assumption
    · extract_lets x12
      have h13 : Touches 0x7fc7758 s x12 := by
        unfold x12
        refine Touches.step (h5 _ _ _ _) (by decide) ?_
        exact Touches.refl _ _
      clear_value x12
      refine TouchesX.next_ ?_
      refine Touches.step (State.setCtx_touches _ _ _) (by decide) ?_
      assumption
    · extract_lets x14
      have h15 : Touches 0x7fc7758 s x14 := by
        unfold x14
        refine Touches.step (h5 _ _ _ _) (by decide) ?_
        exact Touches.refl _ _
      clear_value x14
      refine TouchesX.next_ ?_
      refine Touches.step (State.setCtx_touches _ _ _) (by decide) ?_
      assumption
    · refine TouchesX.next_ ?_
      refine Touches.step (State.ctrlUe_touches _ _ _ _ _) (by decide) ?_
      refine Touches.step (State.discardPkts_touches _ _) (by decide) ?_
      exact Touches.refl _ _
    · refine TouchesX.next_ ?_
      refine Touches.step (State.ctrlUe_touches _ _ _ _ _) (by decide) ?_
      refine Touches.step (State.retireGrain_touches _ _) (by decide) ?_
      exact Touches.refl _ _
    · refine TouchesX.next_ ?_
      refine Touches.step (State.ctrlUe_touches _ _ _ _ _) (by decide) ?_
      refine Touches.step (State.flushQueue_touches _ _) (by decide) ?_
      exact Touches.refl _ _
    · extract_lets x16 x17 x18
      clear_value x16 x17
      have h19 : Touches 0x7fc7758 s x18 := by
        unfold x18
        refine Touches.step (Touches.set_err s _) (by decide) ?_
        exact Touches.refl _ _
      clear_value x18
      split
      · refine TouchesX.next_ ?_
        refine Touches.step (State.ctrlUe_touches _ _ _ _ _) (by decide) ?_
        refine Touches.step (State.containJob_touches _ _ _ _ _) (by decide) ?_
        refine Touches.step (State.fault_touches _ _ _ _) (by decide) ?_
        exact Touches.refl _ _
      · refine TouchesX.next_ ?_
        refine Touches.step (State.ctrlUe_touches _ _ _ _ _) (by decide) ?_
        assumption
    · extract_lets x20
      have h21 : Touches 0x7fc7758 s x20 := by
        unfold x20
        refine Touches.step (State.raise_touches _ _) (by decide) ?_
        exact Touches.refl _ _
      clear_value x20
      refine TouchesX.next_ ?_
      refine Touches.step (State.containJob_touches _ _ _ _ _) (by decide) ?_
      refine Touches.step (State.tierBurr_touches _ _ _) (by decide) ?_
      assumption

theorem execErrqPop_touches (a0 : Writer) (a1 : Die) (s : State) :
    TouchesX 0x4001208 s (execErrqPop a0 a1 s) := by
  unfold execErrqPop
  extract_lets x0
  clear_value x0
  refine TouchesX.next_ ?_
  refine Touches.step (State.fenced_touches (m := 0x4001208) _ _ _ _ _ (by decide) ?_) (by decide) ?_
  · intro z1
    split
    · exact Touches.refl _ _
    · refine Touches.step (State.setErrq_touches _ _ _) (by decide) ?_
      exact (State.logAppend_touches _ _).mono (by decide)
  · exact Touches.refl _ _

theorem State.partReset_touches (s : State) (a1 : Nat) :
    Touches 0x4bc6608 s (State.partReset s a1) := by
  unfold State.partReset
  extract_lets x0 x1 x2 x3 x4 x5 x6 x7 x8 x9 x10 x11 x12 x13
  clear_value x0
  have h14 : Touches 0x4bc6608 s x1 := by
    unfold x1
    refine Touches.step (State.count_touches _ _ _) (by decide) ?_
    exact (State.setFld_touches _ _ _ _).mono (by decide)
  clear_value x1
  have h15 : Touches 0x4bc6608 s x2 := by
    unfold x2
    refine Touches.step (State.post_touches _ _) (by decide) ?_
    exact Touches.step (State.taken_touches _ _ _) (by decide) (by assumption)
  clear_value x2 x3 x4
  have h16 : Touches 0x4bc6608 s x5 := by
    unfold x5
    refine Touches.foldl ?_ ?_
    · intro z17 z18
      exact (State.enterDisabled_touches _ _ _).mono (by decide)
    · assumption
  clear_value x5
  have h19 : Touches 0x4bc6608 s x6 := by
    unfold x6
    refine Touches.foldl ?_ ?_
    · intro z20 z21
      exact (State.sampleLathe_touches _ _).mono (by decide)
    · assumption
  clear_value x6 x7
  have h22 : Touches 0x4bc6608 s x8 := by
    unfold x8
    refine Touches.foldl ?_ ?_
    · intro z23 z24
      refine Touches.step (State.unseat_touches _ _) (by decide) ?_
      exact (State.faultOne_touches _ _ _ _).mono (by decide)
    · assumption
  clear_value x8 x9
  have h25 : Touches 0x4bc6608 s x10 := by
    unfold x10
    refine Touches.foldl ?_ ?_
    · intro z26 z27
      exact (State.reclaimNow_touches _ _).mono (by decide)
    · assumption
  clear_value x10 x11
  have h28 : Touches 0x4bc6608 s x12 := by
    unfold x12
    refine Touches.foldl ?_ ?_
    · intro z29 z30
      exact (State.freeGrain_touches _ _).mono (by decide)
    · assumption
  clear_value x12 x13
  refine Touches.foldl ?_ ?_
  · intro z31 z32
    extract_lets x33
    clear_value x33
    split
    · refine Touches.step (State.setLathe_touches _ _ _) (by decide) ?_
      refine Touches.step (State.ltBusy_touches _ _ _) (by decide) ?_
      exact (State.setFld_touches _ _ _ _).mono (by decide)
    · exact Touches.refl _ _
  · assumption

theorem execPartReset_touches (a0 : Writer) (a1 : Part) (s : State) :
    TouchesX 0x4bee608 s (execPartReset a0 a1 s) := by
  unfold execPartReset
  extract_lets x0
  clear_value x0
  refine TouchesX.next_ ?_
  refine Touches.step (State.fenced_touches (m := 0x4bee608) _ _ _ _ _ (by decide) ?_) (by decide) ?_
  · intro z1
    split
    · refine Touches.step (State.setFld_touches _ _ _ _) (by decide) ?_
      exact Touches.refl _ _
    · refine Touches.step (State.finishPartReset_touches _ _) (by decide) ?_
      refine Touches.step (State.partReset_touches _ _) (by decide) ?_
      exact Touches.refl _ _
  · exact Touches.refl _ _

theorem execPowerCycle_touches (a0 : Writer) (s : State) :
    TouchesX 0x4a00608 s (execPowerCycle a0 s) := by
  unfold execPowerCycle
  refine TouchesX.next_ ?_
  refine Touches.step (State.fenced_touches (m := 0x4a00608) _ _ _ _ _ (by decide) ?_) (by decide) ?_
  · intro z0
    refine Touches.step (State.post_touches _ _) (by decide) ?_
    refine Touches.step (State.i3cEvent_touches _ _ _) (by decide) ?_
    exact (State.taken_touches _ _ _).mono (by decide)
  · exact Touches.refl _ _

theorem execDumpWritten_touches (s : State) :
    TouchesX 0x6a00608 s (execDumpWritten s) := by
  unfold execDumpWritten
  split
  · refine TouchesX.next_ ?_
    exact Touches.refl _ _
  · extract_lets x0 x1 x2
    clear_value x0 x1 x2
    split
    · rename_i w3 w4 w5 w6
      have h7 : Touches 0x6a00608 s w5 := by
        refine Touches2.of w6 ?_
        exact Touches2.step (State.free_touches _) (by decide) (Touches.refl _ _)
      extract_lets x8 x9 x10 x11 x12 x13 x14 x15 x16
      clear_value x8 x9 x10
      have h17 : Touches 0x6a00608 s x11 := by
        unfold x11
        split
        · exact Touches.step (State.count_touches _ _ _) (by decide) (by assumption)
        · assumption
      clear_value x11
      have h18 : Touches 0x6a00608 s x12 := by
        unfold x12
        exact Touches.step (State.setFld_touches _ _ _ _) (by decide) (by assumption)
      clear_value x12
      have h19 : Touches 0x6a00608 s x13 := by
        unfold x13
        exact Touches.step (State.setFld_touches _ _ _ _) (by decide) (by assumption)
      clear_value x13
      have h20 : Touches 0x6a00608 s x14 := by
        unfold x14
        refine Touches.step (State.count_touches _ _ _) (by decide) ?_
        exact Touches.step (State.setFld_touches _ _ _ _) (by decide) (by assumption)
      clear_value x14 x15
      have h21 : Touches 0x6a00608 s x16 := by
        unfold x16
        exact Touches.step (Touches.set_err x14 _) (by decide) (by assumption)
      clear_value x16
      refine TouchesX.next_ ?_
      exact Touches.step (State.post_touches _ _) (by decide) (by assumption)

theorem State.healthActs_touches (s : State) (a1 : Nat) (a2 : Nat) (a3 : Nat) :
    Touches 0x4a18608 s (State.healthActs s a1 a2 a3) := by
  unfold State.healthActs
  extract_lets x0 x1
  clear_value x0
  have h2 : Touches 0x4a18608 s x1 := by
    unfold x1
    split
    · refine Touches.step (State.post_touches _ _) (by decide) ?_
      exact Touches.refl _ _
    · exact Touches.refl _ _
  clear_value x1
  split
  · split
    · split
      · split
        · refine Touches.step (State.trainSpare_touches _ _ _ _) (by decide) ?_
          assumption
        · assumption
      · assumption
    · refine Touches.step (State.post_touches _ _) (by decide) ?_
      assumption
  · assumption

theorem execHealthUpdate_touches (s : State) :
    TouchesX 0x4a18608 s (execHealthUpdate s) := by
  unfold execHealthUpdate
  extract_lets x0 x1 x2 x3 x4 x5 x6
  clear_value x0 x1 x2 x4 x5 x6
  have h7 : Touches 0x4a18608 s x3 := by
    unfold x3
    refine Touches.foldl ?_ ?_
    · intro z8
      intro z9
      extract_lets x10 x11 x12 x13 x14 x15
      clear_value x10 x11 x12 x13
      have h16 : Touches 0x4a18608 z8 x14 := by
        unfold x14
        refine Touches.step (Touches.set_err z8 _) (by decide) ?_
        exact Touches.refl _ _
      clear_value x14
      have h17 : Touches 0x4a18608 z8 x15 := by
        unfold x15
        split
        · refine Touches.step (State.nearWrite_touches _ _ _) (by decide) ?_
          assumption
        · assumption
      clear_value x15
      refine Touches.step (State.healthActs_touches _ _ _ _) (by decide) ?_
      assumption
    · exact Touches.refl _ _
  clear_value x3
  refine TouchesX.next_ ?_
  refine Touches.step (Touches.set_err x3 _) (by decide) ?_
  assumption

end Sys2Proof.Machine
end

