-- ==== Sys2Proof/Laws/FramePower.lean ====
section
/-! SUPPORT. What each operation of Machine/Power.lean can touch: its mask, memory's canonical form, the fuses' trust. -/

namespace Sys2Proof.Machine

theorem State.fusedPtd_touches (s : State) (a1 : Nat) :
    Touches 0x8 s (State.fusedPtd s a1) := by
  unfold State.fusedPtd
  extract_lets x0 x1 x2 x3 x4 x5
  clear_value x0 x1 x2 x3 x4
  have h6 : Touches 0x8 s x5 := by
    unfold x5
    refine Touches.step (State.setFld_touches _ _ _ _) (by decide) ?_
    refine Touches.step (State.setFld_touches _ _ _ _) (by decide) ?_
    refine Touches.step (State.setFld_touches _ _ _ _) (by decide) ?_
    exact (State.setFld_touches _ _ _ _).mono (by decide)
  clear_value x5
  refine Touches.foldl ?_ ?_
  · intro z7 z8
    extract_lets x9 x10
    clear_value x9
    have h11 : Touches 0x8 z7 x10 := by
      unfold x10
      exact (State.setFld_touches _ _ _ _).mono (by decide)
    clear_value x10
    split
    · exact Touches.step (State.setLstate_touches _ _ _ _) (by decide) (by assumption)
    · assumption
  · assumption

theorem State.fusedLathes_touches (s : State) :
    Touches 0x8 s (State.fusedLathes s) := by
  unfold State.fusedLathes
  refine Touches2.snd (Touches2.foldl ?_ (Touches.refl _ _))
  intro y k
  simp only
  split
  · exact Touches2.mk ((State.setFld_touches _ _ _ _).step (by decide) ((State.setFld_touches _ _ _ _).mono (by decide)))
  · split
    · exact Touches2.mk ((State.setFld_touches _ _ _ _).step (by decide) ((State.setFld_touches _ _ _ _).mono (by decide)))
    · exact Touches2.mk ((State.setFld_touches _ _ _ _).step (by decide) ((State.setFld_touches _ _ _ _).mono (by decide)))

theorem State.pdRefuse_touches (s : State) (a1 : Nat) (a2 : Nat) :
    Touches 0x8 s (State.pdRefuse s a1 a2) := by
  unfold State.pdRefuse
  refine Touches.step (State.setFld_touches _ _ _ _) (by decide) ?_
  exact (State.setFld_touches _ _ _ _).mono (by decide)

theorem execPdWrite_touches (a0 : Writer) (a1 : Dom) (a2 : W64) (s : State) :
    TouchesX 0x28 s (execPdWrite a0 a1 a2 s) := by
  unfold execPdWrite
  extract_lets x0 x1
  clear_value x0 x1
  refine TouchesX.next_ ?_
  refine Touches.step (State.fenced_touches (m := 0x28) _ _ _ _ _ (by decide) ?_) (by decide) ?_
  · intro z2
    extract_lets x3 x4
    have h5 : Touches 0x28 z2 x3 := by
      unfold x3
      split
      · refine Touches.step (State.setFld_touches _ _ _ _) (by decide) ?_
        exact Touches.refl _ _
      · exact Touches.refl _ _
    clear_value x3
    have h6 : Touches 0x28 z2 x4 := by
      unfold x4
      refine Touches.step (Touches.set_pdPend x3 _) (by decide) ?_
      assumption
    clear_value x4
    refine Touches.step (State.setFld_touches _ _ _ _) (by decide) ?_
    assumption
  · exact Touches.refl _ _

theorem State.loseDie_touches (s : State) (a1 : Nat) :
    Touches 0x300 s (State.loseDie s a1) := by
  unfold State.loseDie
  refine Touches.step (State.setFence_touches _ _ _) (by decide) ?_
  refine Touches.step (State.setErrq_touches _ _ _) (by decide) ?_
  exact Touches.refl _ _

theorem State.keepFrom_touches (s : State) (a1 : State) (a2 : Nat) (a3 : Fld) :
    Touches 0x8 s (State.keepFrom s a1 a2 a3) := by
  unfold State.keepFrom
  refine Touches.step (State.setFld_touches _ _ _ _) (by decide) ?_
  exact Touches.refl _ _

theorem State.loseRegs_touches (s : State) (a1 : Nat) (a2 : Nat) :
    Touches 0x8 s (State.loseRegs s a1 a2) := by
  unfold State.loseRegs
  exact (Touches.set_regs s _).mono (by decide)

theorem State.quadOff_touches (s : State) (a1 : Nat) (a2 : Nat) :
    Touches 0x4bce608 s (State.quadOff s a1 a2) := by
  unfold State.quadOff
  extract_lets x0
  have h1 : Touches 0x4bce608 s x0 := by
    unfold x0
    refine Touches.foldl ?_ ?_
    · intro z2
      intro z3
      extract_lets x4 x5
      clear_value x4
      have h6 : Touches 0x4bce608 z2 x5 := by
        unfold x5
        refine Touches.step (State.setLockTry_touches _ _ _ _) (by decide) ?_
        refine Touches.step (State.setFld_touches _ _ _ _) (by decide) ?_
        refine Touches.step (State.setFld_touches _ _ _ _) (by decide) ?_
        exact Touches.refl _ _
      clear_value x5
      split
      · assumption
      · refine Touches.step (State.setLstate_touches _ _ _ _) (by decide) ?_
        assumption
    · exact Touches.refl _ _
  clear_value x0
  refine Touches.foldl ?_ ?_
  · intro z7
    intro z8
    refine Touches.step (State.refreshPort_touches _ _) (by decide) ?_
    exact Touches.refl _ _
  · assumption

theorem State.portDieOff_touches (s : State) (a1 : Nat) :
    Touches 0x34308 s (State.portDieOff s a1) := by
  unfold State.portDieOff
  extract_lets x0 x1 x2 x3 x4
  clear_value x4
  have h5 : Touches 0x34308 s x0 := by
    unfold x0
    exact Touches.refl _ _
  clear_value x0
  have h6 : Touches 0x34308 s x1 := by
    unfold x1
    refine Touches.step (State.setSpareJob_touches _ _ _ _) (by decide) ?_
    refine Touches.step (State.setSpareJob_touches _ _ _ _) (by decide) ?_
    refine Touches.step (State.loseRegs_touches _ _ _) (by decide) ?_
    exact Touches.refl _ _
  clear_value x1
  have h7 : Touches 0x34308 s x2 := by
    unfold x2
    refine Touches.foldl ?_ ?_
    · intro z8
      intro z9
      refine Touches.step (State.keepFrom_touches _ _ _ _) (by decide) ?_
      exact Touches.refl _ _
    · assumption
  clear_value x2
  have h10 : Touches 0x34308 s x3 := by
    unfold x3
    refine Touches.step (State.loseDie_touches _ _) (by decide) ?_
    assumption
  clear_value x3
  refine Touches.step (k := 0x24000) (t := x3) ⟨fun i hi => by unfold State.sameAt; split <;> first | rfl | trivial, fun h => h, Fuses.trustKept_refl _⟩ (by decide) ?_
  assumption

theorem State.latheOff_touches (s : State) (a1 : Nat) (a2 : Nat) :
    Touches 0x8 s (State.latheOff s a1 a2) := by
  unfold State.latheOff
  refine Touches.step (State.keepFrom_touches _ _ _ _) (by decide) ?_
  refine Touches.step (State.keepFrom_touches _ _ _ _) (by decide) ?_
  refine Touches.step (State.loseRegs_touches _ _ _) (by decide) ?_
  exact Touches.refl _ _

theorem State.tierOff_touches (s : State) (a1 : Nat) (a2 : Nat) (a3 : Nat) :
    Touches 0x600000 s (State.tierOff s a1 a2 a3) := by
  unfold State.tierOff
  split
  · exact (Touches.set_near s _ (fun h => Tbl.wf_filter _ _ _ h)).mono (by decide)
  · exact (Touches.set_far s _ (fun h => Tbl.wf_filter _ _ _ h)).mono (by decide)

theorem State.hostOff_touches (s : State) (a1 : Nat) :
    Touches 0x1408 s (State.hostOff s a1) := by
  unfold State.hostOff
  extract_lets x0 x1 x2
  clear_value x1 x2
  have h3 : Touches 0x1408 s x0 := by
    unfold x0
    refine Touches.step (State.loseRegs_touches _ _ _) (by decide) ?_
    exact Touches.refl _ _
  clear_value x0
  refine Touches.step (k := 0x1400) (t := x0) ⟨fun i hi => by unfold State.sameAt; split <;> first | rfl | trivial, fun h => h, Fuses.trustKept_refl _⟩ (by decide) ?_
  assumption

theorem State.wholeOff_touches (s : State) (a1 : Nat) (a2 : Nat) (a3 : Nat) :
    Touches 0x308 s (State.wholeOff s a1 a2 a3) := by
  unfold State.wholeOff
  refine Touches.step (State.loseDie_touches _ _) (by decide) ?_
  refine Touches.step (State.loseRegs_touches _ _ _) (by decide) ?_
  exact Touches.refl _ _

theorem State.domOff_touches (s : State) (a1 : Nat) :
    Touches 0x4fff748 s (State.domOff s a1) := by
  unfold State.domOff
  extract_lets x0 x1 x2 x3 x4 x5
  clear_value x1 x2 x3 x4 x5
  have h6 : Touches 0x4fff748 s x0 := by
    unfold x0
    refine Touches.step (State.setWake_touches _ _ _) (by decide) ?_
    refine Touches.step (State.setDom_touches _ _ _) (by decide) ?_
    exact Touches.refl _ _
  clear_value x0
  split
  · split
    · refine Touches.step (State.quadOff_touches _ _ _) (by decide) ?_
      assumption
    · refine Touches.step (State.portDieOff_touches _ _) (by decide) ?_
      assumption
  · split
    · split
      · refine Touches.step (State.latheOff_touches _ _ _) (by decide) ?_
        assumption
      · refine Touches.step (State.wholeOff_touches _ _ _ _) (by decide) ?_
        assumption
    · split
      · split
        · refine Touches.step (State.wholeOff_touches _ _ _ _) (by decide) ?_
          assumption
        · assumption
      · split
        · refine Touches.step (State.wholeOff_touches _ _ _ _) (by decide) ?_
          assumption
        · split
          · refine Touches.step (State.tierOff_touches _ _ _ _) (by decide) ?_
            assumption
          · split
            · refine Touches.step (State.wholeOff_touches _ _ _ _) (by decide) ?_
              assumption
            · split
              · refine Touches.step (State.loseDie_touches _ _) (by decide) ?_
                refine Touches.step (State.setSvState_touches _ _ _) (by decide) ?_
                assumption
              · refine Touches.step (State.hostOff_touches _ _) (by decide) ?_
                assumption

theorem State.takeReq_touches (s : State) (a1 : Nat) (a2 : Nat) :
    Touches 0x48 s (State.takeReq s a1 a2) := by
  unfold State.takeReq
  extract_lets x0 x1
  clear_value x1
  have h2 : Touches 0x48 s x0 := by
    unfold x0
    refine Touches.step (State.setFld_touches _ _ _ _) (by decide) ?_
    exact Touches.refl _ _
  clear_value x0
  split
  · split
    · refine Touches.step (State.domWake_touches _ _) (by decide) ?_
      assumption
    · assumption
  · split
    · refine Touches.step (State.setWake_touches _ _ _) (by decide) ?_
      refine Touches.step (State.setDom_touches _ _ _) (by decide) ?_
      assumption
    · assumption

theorem State.request_touches (s : State) (a1 : Nat) (a2 : Nat) (a3 : Bool) :
    Touches 0x4ffe648 s (State.request s a1 a2 a3) := by
  unfold State.request
  split
  · exact (State.takeReq_touches _ _ _).mono (by decide)
  · exact (State.pdRefuse_touches _ _ _).mono (by decide)

theorem State.takeVset_touches (s : State) (a1 : Nat) (a2 : Nat) :
    Touches 0x8 s (State.takeVset s a1 a2) := by
  unfold State.takeVset
  extract_lets x0 x1
  clear_value x0 x1
  split
  · refine Touches.step (State.pdRefuse_touches _ _ _) (by decide) ?_
    exact Touches.refl _ _
  · split
    · refine Touches.step (State.pdRefuse_touches _ _ _) (by decide) ?_
      refine Touches.step (State.setFld_touches _ _ _ _) (by decide) ?_
      exact Touches.refl _ _
    · refine Touches.step (State.setFld_touches _ _ _ _) (by decide) ?_
      exact Touches.refl _ _

theorem State.applyPd_touches (s : State) (a1 : Nat) :
    Touches 0x4ffe668 s (State.applyPd s a1) := by
  unfold State.applyPd
  extract_lets x0 x1 x2 x3
  clear_value x0
  have h4 : Touches 0x4ffe668 s x1 := by
    unfold x1
    exact (Touches.set_pdPend s _).mono (by decide)
  clear_value x1
  have h5 : Touches 0x4ffe668 s x2 := by
    unfold x2
    exact Touches.step (State.setFld_touches _ _ _ _) (by decide) (by assumption)
  clear_value x2
  have h6 : Touches 0x4ffe668 s x3 := by
    unfold x3
    split
    · exact Touches.step (State.takeVset_touches _ _ _) (by decide) (by assumption)
    · assumption
  clear_value x3
  split
  · exact Touches.step (State.pdRefuse_touches _ _ _) (by decide) (by assumption)
  · split
    · exact Touches.step (State.request_touches _ _ _ _) (by decide) (by assumption)
    · assumption

theorem State.applyPower_touches (s : State) (a1 : Option Plane) (a2 : Plane) :
    Touches 0x4ffe648 s (State.applyPower s a1 a2) := by
  unfold State.applyPower
  extract_lets x0 x1 x2
  clear_value x0
  have h3 : Touches 0x4ffe648 s x1 := by
    unfold x1
    refine Touches.foldl ?_ ?_
    · intro z4 z5
      extract_lets x6 x7
      clear_value x6
      have h8 : Touches 0x4ffe648 z4 x7 := by
        unfold x7
        refine Touches.step (State.setFld_touches _ _ _ _) (by decide) ?_
        exact (State.setFld_touches _ _ _ _).mono (by decide)
      clear_value x7
      split
      · exact Touches.step (State.setFld_touches _ _ _ _) (by decide) (by assumption)
      · exact Touches.step (State.setFld_touches _ _ _ _) (by decide) (by assumption)
    · exact Touches.refl _ _
  clear_value x1 x2
  refine Touches.foldl ?_ ?_
  · intro z9 z10
    split
    · exact (State.request_touches _ _ _ _).mono (by decide)
    · exact Touches.refl _ _
  · assumption

theorem State.startGroup_touches (s : State) :
    Touches 0x48 s (State.startGroup s) := by
  unfold State.startGroup
  extract_lets x0
  clear_value x0
  refine Touches.foldl ?_ ?_
  · intro z1 z2
    exact (State.startWake_touches _ _).mono (by decide)
  · exact Touches.refl _ _

theorem execWakeGroupStart_touches (s : State) :
    TouchesX 0x48 s (execWakeGroupStart s) := by
  unfold execWakeGroupStart
  refine TouchesX.next_ ?_
  exact (State.startGroup_touches _).mono (by decide)

theorem State.wakeFail_touches (s : State) (a1 : Nat) :
    Touches 0x4fff748 s (State.wakeFail s a1) := by
  unfold State.wakeFail
  extract_lets x0 x1 x2 x3
  clear_value x0 x2
  have h4 : Touches 0x4fff748 s x1 := by
    unfold x1
    refine Touches.step (State.pdRefuse_touches _ _ _) (by decide) ?_
    refine Touches.step (State.setDom_touches _ _ _) (by decide) ?_
    refine Touches.step (State.domOff_touches _ _) (by decide) ?_
    exact Touches.refl _ _
  clear_value x1
  have h5 : Touches 0x4fff748 s x3 := by
    unfold x3
    refine Touches.step (State.raise_touches _ _) (by decide) ?_
    assumption
  clear_value x3
  split
  · refine Touches.step (State.failLathe_touches _ _) (by decide) ?_
    assumption
  · assumption

theorem State.startChildren_touches (s : State) (a1 : Nat) :
    Touches 0x48 s (State.startChildren s a1) := by
  unfold State.startChildren
  extract_lets x0
  clear_value x0
  refine Touches.foldl ?_ ?_
  · intro z1
    intro z2
    refine Touches.step (State.startWake_touches _ _) (by decide) ?_
    exact Touches.refl _ _
  · exact Touches.refl _ _

theorem execDomainWakeReady_touches (a0 : Dom) (a1 : Bool) (s : State) :
    TouchesX 0x7fff758 s (execDomainWakeReady a0 a1 s) := by
  unfold execDomainWakeReady
  extract_lets x0 x1
  clear_value x0
  have h2 : Touches 0x7fff758 s x1 := by
    unfold x1
    refine Touches.step (State.wakeFail_touches _ _) (by decide) ?_
    exact Touches.refl _ _
  clear_value x1
  split
  · split
    · refine TouchesX.next_ ?_
      split
      · assumption
      · refine Touches.step (State.failDie_touches _ _) (by decide) ?_
        assumption
    · extract_lets x3
      clear_value x3
      refine TouchesX.next_ ?_
      refine Touches.step (State.startChildren_touches _ _) (by decide) ?_
      refine Touches.step (State.setWake_touches _ _ _) (by decide) ?_
      refine Touches.step (State.setFld_touches _ _ _ _) (by decide) ?_
      exact Touches.refl _ _
  · refine TouchesX.next_ ?_
    exact Touches.refl _ _

theorem execWakeTimeout_touches (a0 : Dom) (s : State) :
    TouchesX 0x4fff748 s (execWakeTimeout a0 s) := by
  unfold execWakeTimeout
  split
  · split
    · refine TouchesX.next_ ?_
      refine Touches.step (State.wakeFail_touches _ _) (by decide) ?_
      exact Touches.refl _ _
    · refine TouchesX.next_ ?_
      exact Touches.refl _ _
  · refine TouchesX.next_ ?_
    exact Touches.refl _ _

theorem execDomainDrainComplete_touches (a0 : Dom) (s : State) :
    TouchesX 0x4fff748 s (execDomainDrainComplete a0 s) := by
  unfold execDomainDrainComplete
  extract_lets x0
  clear_value x0
  split
  · refine TouchesX.next_ ?_
    exact Touches.refl _ _
  · split
    · refine TouchesX.next_ ?_
      refine Touches.step (State.setDom_touches _ _ _) (by decide) ?_
      exact Touches.refl _ _
    · refine TouchesX.next_ ?_
      refine Touches.step (State.domWake_touches _ _) (by decide) ?_
      refine Touches.step (State.domOff_touches _ _) (by decide) ?_
      exact Touches.refl _ _
    · refine TouchesX.next_ ?_
      refine Touches.step (State.domOff_touches _ _) (by decide) ?_
      exact Touches.refl _ _

theorem State.domOn_touches (s : State) (a1 : Nat) :
    Touches 0x8048 s (State.domOn s a1) := by
  unfold State.domOn
  extract_lets x0 x1
  have h2 : Touches 0x8048 s x0 := by
    unfold x0
    refine Touches.step (State.setWake_touches _ _ _) (by decide) ?_
    refine Touches.step (State.setDom_touches _ _ _) (by decide) ?_
    exact Touches.refl _ _
  clear_value x0
  have h3 : Touches 0x8048 s x1 := by
    unfold x1
    refine Touches.step (State.fusedPtd_touches _ _) (by decide) ?_
    assumption
  clear_value x1
  split
  · assumption
  · split
    · refine Touches.foldl ?_ ?_
      · intro z4
        intro z5
        split
        · refine Touches.step (State.startLock_touches _ _ _) (by decide) ?_
          exact Touches.refl _ _
        · exact Touches.refl _ _
      · assumption
    · refine Touches.foldl ?_ ?_
      · intro z6
        intro z7
        extract_lets x8
        clear_value x8
        split
        · exact Touches.refl _ _
        · refine Touches.step (State.startLock_touches _ _ _) (by decide) ?_
          exact Touches.refl _ _
      · assumption

theorem State.wakesDone_touches (s : State) :
    Touches 0x8048 s (State.wakesDone s) := by
  unfold State.wakesDone
  extract_lets x0
  clear_value x0
  refine Touches.foldl ?_ ?_
  · intro z1 z2
    exact (State.domOn_touches _ _).mono (by decide)
  · exact Touches.refl _ _

theorem State.powerBoundary_touches (s : State) :
    Touches 0x4ffe668 s (State.powerBoundary s) := by
  unfold State.powerBoundary
  extract_lets x0 x1 x2
  have h3 : Touches 0x4ffe668 s x0 := by
    unfold x0
    exact (State.wakesDone_touches _).mono (by decide)
  clear_value x0
  have h4 : Touches 0x4ffe668 s x1 := by
    unfold x1
    refine Touches.foldl ?_ ?_
    · intro z5 z6
      exact (State.applyPd_touches _ _).mono (by decide)
    · assumption
  clear_value x1
  have h7 : Touches 0x4ffe668 s x2 := by
    unfold x2
    exact Touches.step (State.startGroup_touches _) (by decide) (by assumption)
  clear_value x2
  split
  · assumption
  · refine Touches.foldl ?_ ?_
    · intro z8 z9
      exact (State.refreshPort_touches _ _).mono (by decide)
    · assumption

theorem State.losePower_touches (s : State) :
    Touches 0x1ffffec s (State.losePower s) := by
  unfold State.losePower
  generalize List.range 536 = l
  extract_lets r tb err side boot x1 x2
  have h1 : Touches 0x1ffffec s x1 := by
    refine ⟨fun i hi => ?_, fun _ => rfl, Fuses.trustKept_refl _⟩
    unfold State.sameAt; split <;> first | rfl | trivial
  clear_value x1
  have h2 : Touches 0x1ffffec s x2 := by
    unfold x2
    refine Touches.step (Touches.foldl (m := 0x8) ?_ (Touches.refl _ _)) (by decide) h1
    intro s x
    split
    · exact Touches.refl _ _
    · exact State.setDom_touches _ _ _
  clear_value x2
  exact (State.setSvState_touches _ _ _).step (by decide) ((State.setSvState_touches _ _ _).step (by decide) h2)

theorem State.supplyEvent_touches (s : State) (a1 : Nat) (a2 : Nat) :
    Touches 0x4001208 s (State.supplyEvent s a1 a2) := by
  unfold State.supplyEvent
  exact (State.keeperRec_touches _ _ _ _).mono (by decide)

theorem execVinPkgLow_touches (a0 : Nat) (s : State) :
    TouchesX 0x400160a s (execVinPkgLow a0 s) := by
  unfold execVinPkgLow
  split
  · refine TouchesX.next_ ?_
    exact Touches.refl _ _
  · extract_lets x0 x1
    clear_value x0
    have h2 : Touches 0x400160a s x1 := by
      unfold x1
      exact (Touches.set_pins s _).mono (by decide)
    clear_value x1
    refine TouchesX.next_ ?_
    refine Touches.step (State.i3cEvent_touches _ _ _) (by decide) ?_
    exact Touches.step (State.supplyEvent_touches _ _ _) (by decide) (by assumption)

theorem execVinPkgRecover_touches (a0 : Nat) (s : State) :
    TouchesX 0x2 s (execVinPkgRecover a0 s) := by
  unfold execVinPkgRecover
  split
  · refine TouchesX.next_ ?_
    exact Touches.refl _ _
  · refine TouchesX.next_ ?_
    exact (Touches.set_pins s _).mono (by decide)

theorem execVinPkgDip_touches (a0 : Nat) (a1 : Nat) (s : State) :
    TouchesX 0x4001208 s (execVinPkgDip a0 a1 s) := by
  unfold execVinPkgDip
  split
  · refine TouchesX.next_ ?_
    exact Touches.refl _ _
  · refine TouchesX.next_ ?_
    exact (State.supplyEvent_touches _ _ _).mono (by decide)

theorem execVinPkgHigh_touches (a0 : Nat) (a1 : Nat) (s : State) :
    TouchesX 0x400120a s (execVinPkgHigh a0 a1 s) := by
  unfold execVinPkgHigh
  split
  · refine TouchesX.next_ ?_
    exact Touches.refl _ _
  · extract_lets x0 x1
    clear_value x0
    have h2 : Touches 0x400120a s x1 := by
      unfold x1
      split
      · refine Touches.step (Touches.set_pins s _) (by decide) ?_
        exact Touches.refl _ _
      · exact Touches.refl _ _
    clear_value x1
    refine TouchesX.next_ ?_
    refine Touches.step (State.supplyEvent_touches _ _ _) (by decide) ?_
    assumption

theorem execPowerFault_touches (a0 : Nat) (a1 : Nat) (s : State) :
    TouchesX 0x5ffffee s (execPowerFault a0 a1 s) := by
  unfold execPowerFault
  split
  · refine TouchesX.next_ ?_
    exact Touches.refl _ _
  · extract_lets x0 x1 x2
    clear_value x1 x2
    have h3 : Touches 0x5ffffee s x0 := by
      unfold x0
      refine Touches.step (State.i3cEvent_touches _ _ _) (by decide) ?_
      refine Touches.step (State.supplyEvent_touches _ _ _) (by decide) ?_
      refine Touches.step (State.losePower_touches _) (by decide) ?_
      exact Touches.refl _ _
    clear_value x0
    refine TouchesX.next_ ?_
    refine Touches.step (Touches.set_pins x0 _) (by decide) ?_
    assumption

theorem Touches.vauxRemoved {s l : State} (h : Touches 0x1fffffe s l) (p : Pins) (e : ErrSt) (b : BootSt) (t : Timebase) (x : SideSt) :
    Touches 0x1fffffe s { l with regs := [], dies := [], err := e, boot := b, tb := t, side := x, pins := p } := by
  refine Touches.step (k := 0xe1e) (t := l) ⟨fun i hi => ?_, fun h => h, Fuses.trustKept_refl _⟩ (by decide) h
  unfold State.sameAt; split <;> first | rfl | trivial

theorem vauxDrop_touches_of (a0 a1 : Nat) (s l : State) (h : Touches 0x1fffffe s l) (e : s.losePower = l) :
    ∀ b, TouchesX 0x1fffffe s (execVaux1v8Drop a0 a1 b s)
  | true => by
    unfold execVaux1v8Drop
    split
    · exact TouchesX.next_ (Touches.refl _ _)
    · rw [e]
      exact TouchesX.next_ (Touches.vauxRemoved h _ _ _ _ _)
  | false => by
    unfold execVaux1v8Drop
    split
    · exact TouchesX.next_ (Touches.refl _ _)
    · rw [e]
      exact TouchesX.next_ ((Touches.set_pins l _).step (by decide) h)

theorem execVaux1v8Drop_touches (a0 : Nat) (a1 : Nat) (a2 : Bool) (s : State) :
    TouchesX 0x1fffffe s (execVaux1v8Drop a0 a1 a2 s) :=
  vauxDrop_touches_of a0 a1 s _ ((State.losePower_touches s).mono (by decide)) rfl a2

theorem execVaux1v8Recover_touches (a0 : Nat) (s : State) :
    TouchesX 0x400120a s (execVaux1v8Recover a0 s) := by
  unfold execVaux1v8Recover
  split
  · exact TouchesX.fault_
  · split
    · refine TouchesX.next_ ?_
      exact Touches.refl _ _
    · extract_lets x0 x1 x2 x3
      clear_value x0 x1
      have h4 : Touches 0x400120a s x2 := by
        unfold x2
        exact (Touches.set_pins s _).mono (by decide)
      clear_value x2 x3
      split
      · refine TouchesX.next_ ?_
        assumption
      · split
        · refine TouchesX.next_ ?_
          exact Touches.step (Touches.set_pins x2 _) (by decide) (by assumption)
        · refine TouchesX.next_ ?_
          refine Touches.step (State.supplyEvent_touches _ _ _) (by decide) ?_
          exact Touches.step (Touches.set_pins x2 _) (by decide) (by assumption)

theorem State.setDuty_touches (s : State) (a1 : Nat) (a2 : Nat) :
    Touches 0x80008 s (State.setDuty s a1 a2) := by
  unfold State.setDuty
  extract_lets x0
  have h1 : Touches 0x80008 s x0 := by
    unfold x0
    exact (State.setFld_touches _ _ _ _).mono (by decide)
  clear_value x0
  split
  · assumption
  · refine Touches.foldl ?_ ?_
    · intro z2 z3
      exact (State.setColl_touches _ _ _).mono (by decide)
    · assumption

theorem State.enterZone_touches (s : State) (a1 : Nat) (a2 : Nat) :
    Touches 0x408161a s (State.enterZone s a1 a2) := by
  unfold State.enterZone
  extract_lets x0 x1 x2 x3 x4 x5 x6 x7 x8
  clear_value x0 x1
  have h9 : Touches 0x408161a s x2 := by
    unfold x2
    exact (State.setFld_touches _ _ _ _).mono (by decide)
  clear_value x2
  have h10 : Touches 0x408161a s x3 := by
    unfold x3
    exact Touches.step (State.keeperRec_touches _ _ _ _) (by decide) (by assumption)
  clear_value x3
  have h11 : Touches 0x408161a s x4 := by
    unfold x4
    exact Touches.step (State.setDie_touches _ _ _) (by decide) (by assumption)
  clear_value x4
  have h12 : Touches 0x408161a s x5 := by
    unfold x5
    split
    · split
      · exact Touches.step (State.setDuty_touches _ _ _) (by decide) (by assumption)
      · assumption
    · split
      · split
        · exact Touches.step (State.setDuty_touches _ _ _) (by decide) (by assumption)
        · assumption
      · split
        · exact Touches.step (State.setDuty_touches _ _ _) (by decide) (by assumption)
        · assumption
  clear_value x5
  have h13 : Touches 0x408161a s x6 := by
    unfold x6
    split
    · exact Touches.step (State.i3cEvent_touches _ _ _) (by decide) (by assumption)
    · split
      · exact Touches.step (State.i3cEvent_touches _ _ _) (by decide) (by assumption)
      · assumption
  clear_value x6 x7 x8
  split
  · assumption
  · exact Touches.step (Touches.set_pins x6 _) (by decide) (by assumption)

theorem State.sampleDie_touches (s : State) (a1 : Nat) (a2 : List (Option Int)) :
    Touches 0x408161a s (State.sampleDie s a1 a2) := by
  unfold State.sampleDie
  extract_lets x0 x1 x2 x3
  clear_value x0 x1 x2
  have h4 : Touches 0x408161a s x3 := by
    unfold x3
    refine Touches.step (State.setFld_touches _ _ _ _) (by decide) ?_
    exact Touches.refl _ _
  clear_value x3
  split
  · refine Touches.step (State.enterZone_touches _ _ _) (by decide) ?_
    refine Touches.step (State.setDie_touches _ _ _) (by decide) ?_
    assumption
  · extract_lets x5 x6 x7 x8
    clear_value x5
    have h9 : Touches 0x408161a s x6 := by
      unfold x6
      refine Touches.step (State.setFld_touches _ _ _ _) (by decide) ?_
      assumption
    clear_value x6
    have h10 : Touches 0x408161a s x7 := by
      unfold x7
      split
      · refine Touches.step (State.setFld_touches _ _ _ _) (by decide) ?_
        assumption
      · assumption
    clear_value x7
    have h11 : Touches 0x408161a s x8 := by
      unfold x8
      refine Touches.step (State.setDie_touches _ _ _) (by decide) ?_
      assumption
    clear_value x8
    refine Touches.step (State.enterZone_touches _ _ _) (by decide) ?_
    assumption

theorem State.trip_touches (s : State) (a1 : Nat) :
    Touches 0x5ffffef s (State.trip s a1) := by
  unfold State.trip
  extract_lets n src x1 x2 x3 pins
  have h1 : Touches 0x5ffffef s x1 := by
    unfold x1
    exact Touches.mono (k := 0x1) (Touches.set_fuses s _ ⟨rfl, Nat.le_refl _, fun _ h => h⟩) (by decide)
  clear_value x1
  have h2 : Touches 0x5ffffef s x2 := by
    unfold x2
    exact (State.keeperRec_touches _ _ _ _).step (by decide) ((State.losePower_touches _).step (by decide)
      ((State.setFld_touches _ _ _ _).step (by decide) h1))
  clear_value x2
  have h3 : Touches 0x5ffffef s x3 := by
    unfold x3
    exact (State.i3cEvent_touches _ _ _).step (by decide) h2
  clear_value x3
  exact (Touches.set_pins x3 _).step (by decide) h3

theorem execThermalSample_touches (a0 : List (Die × List (Option ℤ))) (s : State) :
    TouchesX 0x408161a s (execThermalSample a0 s) := by
  unfold execThermalSample
  refine TouchesX.next_ ?_
  refine Touches.foldl ?_ ?_
  · intro z0 z1
    exact (State.sampleDie_touches _ _ _).mono (by decide)
  · exact Touches.refl _ _

theorem execThermalTrip_touches (a0 : Die) (s : State) :
    TouchesX 0x5ffffef s (execThermalTrip a0 s) := by
  unfold execThermalTrip
  split
  · refine TouchesX.next_ ?_
    exact Touches.refl _ _
  · refine TouchesX.next_ ?_
    exact (State.trip_touches _ _).mono (by decide)

theorem execTripHoldEnd_touches (s : State) :
    TouchesX 0x2 s (execTripHoldEnd s) := by
  unfold execTripHoldEnd
  split
  · refine TouchesX.next_ ?_
    exact Touches.refl _ _
  · refine TouchesX.next_ ?_
    exact (Touches.set_pins s _).mono (by decide)

theorem execLimitVoltageStep_touches (a0 : Die) (s : State) :
    TouchesX 0x10 s (execLimitVoltageStep a0 s) := by
  unfold execLimitVoltageStep
  extract_lets x0 x1
  clear_value x0 x1
  split
  · refine TouchesX.next_ ?_
    exact Touches.refl _ _
  · refine TouchesX.next_ ?_
    exact (State.setDie_touches _ _ _).mono (by decide)

theorem execDutyStep_touches (a0 : LDie) (s : State) :
    TouchesX 0x80008 s (execDutyStep a0 s) := by
  unfold execDutyStep
  extract_lets x0 x1 x2
  clear_value x0 x1 x2
  split
  · refine TouchesX.next_ ?_
    exact (State.setDuty_touches _ _ _).mono (by decide)
  · refine TouchesX.next_ ?_
    exact Touches.refl _ _

end Sys2Proof.Machine
end

