-- ==== Sys2Proof/Laws/FrameTime.lean ====
section
/-! SUPPORT. What each operation of Machine/Time.lean can touch: its mask, memory's canonical form, the fuses' trust. -/

namespace Sys2Proof.Machine

theorem execReferenceLost_touches (s : State) :
    TouchesX 0x400160a s (execReferenceLost s) := by
  unfold execReferenceLost
  extract_lets x0 x1 x2
  clear_value x0
  have h3 : Touches 0x400160a s x1 := by
    unfold x1
    exact (Touches.set_pins s _).mono (by decide)
  clear_value x1
  have h4 : Touches 0x400160a s x2 := by
    unfold x2
    refine Touches.step (State.setFld_touches _ _ _ _) (by decide) ?_
    refine Touches.step (State.setFld_touches _ _ _ _) (by decide) ?_
    exact Touches.step (State.setFld_touches _ _ _ _) (by decide) (by assumption)
  clear_value x2
  refine TouchesX.next_ ?_
  refine Touches.step (State.i3cEvent_touches _ _ _) (by decide) ?_
  exact Touches.step (State.keeperRec_touches _ _ _ _) (by decide) (by assumption)

theorem execReferenceRecovered_touches (s : State) :
    TouchesX 0xa s (execReferenceRecovered s) := by
  unfold execReferenceRecovered
  extract_lets x0 x1
  clear_value x0
  have h2 : Touches 0xa s x1 := by
    unfold x1
    exact (Touches.set_pins s _).mono (by decide)
  clear_value x1
  refine TouchesX.next_ ?_
  refine Touches.step (State.setFld_touches _ _ _ _) (by decide) ?_
  exact Touches.step (State.setFld_touches _ _ _ _) (by decide) (by assumption)

theorem execTimebaseSourceFail_touches (s : State) :
    TouchesX 0x4001208 s (execTimebaseSourceFail s) := by
  unfold execTimebaseSourceFail
  refine TouchesX.next_ ?_
  refine Touches.step (State.keeperRec_touches _ _ _ _) (by decide) ?_
  exact (State.setFld_touches _ _ _ _).mono (by decide)

theorem execInternalAlignmentDone_touches (s : State) :
    TouchesX 0x8 s (execInternalAlignmentDone s) := by
  unfold execInternalAlignmentDone
  refine TouchesX.next_ ?_
  exact (State.setFld_touches _ _ _ _).mono (by decide)

theorem State.measureDie_touches (s : State) (a1 : Nat) (a2 : Int) :
    Touches 0x7fc7758 s (State.measureDie s a1 a2) := by
  unfold State.measureDie
  extract_lets x0 x1 x2 x3 x4 x5 x6
  clear_value x0 x2 x5
  have h7 : Touches 0x7fc7758 s x1 := by
    unfold x1
    refine Touches.step (State.raiseMax_touches _ _ _ _) (by decide) ?_
    exact Touches.refl _ _
  clear_value x1
  have h8 : Touches 0x7fc7758 s x3 := by
    unfold x3
    refine Touches.step (State.setDie_touches _ _ _) (by decide) ?_
    assumption
  clear_value x3
  have h9 : Touches 0x7fc7758 s x4 := by
    unfold x4
    refine Touches.step (State.setFld_touches _ _ _ _) (by decide) ?_
    assumption
  clear_value x4
  have h10 : Touches 0x7fc7758 s x6 := by
    unfold x6
    refine Touches.step (State.raise_touches _ _) (by decide) ?_
    assumption
  clear_value x6
  split
  · refine Touches.step (State.setDie_touches _ _ _) (by decide) ?_
    assumption
  · split
    · refine Touches.step (State.failDie_touches _ _) (by decide) ?_
      assumption
    · assumption

theorem execSkewMeasure_touches (a0 : List (Die × Int)) (s : State) :
    TouchesX 0x7fc7758 s (execSkewMeasure a0 s) := by
  unfold execSkewMeasure
  split
  · refine TouchesX.next_ ?_
    exact Touches.refl _ _
  · extract_lets x0 x1
    clear_value x0
    have h2 : Touches 0x7fc7758 s x1 := by
      unfold x1
      refine Touches.step (State.setFld_touches _ _ _ _) (by decide) ?_
      exact Touches.refl _ _
    clear_value x1
    refine TouchesX.next_ ?_
    refine Touches.foldl ?_ ?_
    · intro z3
      intro z4
      refine Touches.step (State.measureDie_touches _ _ _) (by decide) ?_
      exact Touches.refl _ _
    · assumption

theorem State.tbWrite_touches {m : Nat} (s : State) (a1 : Writer) (a2 : Nat) (a3 : State → State) (hm : 0x8 ||| m = m)
    (h : ∀ s, Touches m s (a3 s)) : Touches m s (State.tbWrite s a1 a2 a3) := by
  unfold State.tbWrite
  split
  · exact (State.hostDrop_touches _ _ _ _ _ _).mono hm
  · exact State.fenced_touches _ _ _ _ _ hm h

theorem execTbFreqWrite_touches (a0 : Writer) (a1 : W64) (s : State) :
    TouchesX 0x8 s (execTbFreqWrite a0 a1 s) := by
  unfold execTbFreqWrite
  refine TouchesX.next_ ?_
  refine Touches.step (State.tbWrite_touches (m := 0x8) _ _ _ _ (by decide) ?_) (by decide) ?_
  · intro z0
    extract_lets x1
    clear_value x1
    split
    · exact (State.setFld_touches _ _ _ _).mono (by decide)
    · exact (State.setFld_touches _ _ _ _).mono (by decide)
  · exact Touches.refl _ _

theorem execTbStepWrite_touches (a0 : Writer) (a1 : W64) (s : State) :
    TouchesX 0xc s (execTbStepWrite a0 a1 s) := by
  unfold execTbStepWrite
  refine TouchesX.next_ ?_
  refine Touches.step (State.tbWrite_touches (m := 0xc) _ _ _ _ (by decide) ?_) (by decide) ?_
  · intro z0
    split
    · exact (State.setFld_touches _ _ _ _).mono (by decide)
    · extract_lets x1 x2
      clear_value x1
      have h3 : Touches 0xc z0 x2 := by
        unfold x2
        exact (Touches.set_tb z0 _).mono (by decide)
      clear_value x2
      refine Touches.step (State.setFld_touches _ _ _ _) (by decide) ?_
      exact Touches.step (State.setFld_touches _ _ _ _) (by decide) (by assumption)
  · exact Touches.refl _ _

theorem execTbPtpCtlWrite_touches (a0 : Writer) (a1 : W64) (s : State) :
    TouchesX 0x8 s (execTbPtpCtlWrite a0 a1 s) := by
  unfold execTbPtpCtlWrite
  refine TouchesX.next_ ?_
  refine Touches.step (State.tbWrite_touches (m := 0x8) _ _ _ _ (by decide) ?_) (by decide) ?_
  · intro z0
    split
    · exact Touches.refl _ _
    · refine Touches.step (State.setFld_touches _ _ _ _) (by decide) ?_
      refine Touches.step (State.setFld_touches _ _ _ _) (by decide) ?_
      exact (State.setFld_touches _ _ _ _).mono (by decide)
  · exact Touches.refl _ _

theorem State.applyStep_touches (s : State) :
    Touches 0x85c s (State.applyStep s) := by
  unfold State.applyStep
  split
  · exact Touches.refl _ _
  · extract_lets x0 x1 x2 x3 x4
    clear_value x0 x1 x2
    have h5 : Touches 0x85c s x3 := by
      unfold x3
      refine Touches.step (k := 0x854) (t := s) ⟨fun i hi => by unfold State.sameAt; split <;> first | rfl | trivial, fun h => h, Fuses.trustKept_refl _⟩ (by decide) ?_
      exact Touches.refl _ _
    clear_value x3
    have h6 : Touches 0x85c s x4 := by
      unfold x4
      refine Touches.step (State.setFld_touches _ _ _ _) (by decide) ?_
      refine Touches.step (State.wr_touches _ _ _) (by decide) ?_
      assumption
    clear_value x4
    refine Touches.step (State.setFld_touches _ _ _ _) (by decide) ?_
    assumption

theorem State.turnWeights_touches (s : State) :
    Touches 0x10 s (State.turnWeights s) := by
  unfold State.turnWeights
  refine Touches.foldl ?_ ?_
  · intro z0 z1
    exact (State.setDie_touches _ _ _).mono (by decide)
  · exact Touches.refl _ _

theorem State.turnGroups_touches (s : State) :
    Touches 0x20000 s (State.turnGroups s) := by
  unfold State.turnGroups
  split
  · exact Touches.refl _ _
  · exact (Touches.set_head s _).mono (by decide)

theorem State.turnGates_touches (s : State) :
    Touches 0x8 s (State.turnGates s) := by
  unfold State.turnGates
  split
  · exact Touches.refl _ _
  · refine Touches.foldl ?_ ?_
    · intro z0 z1
      split
      · exact Touches.refl _ _
      · extract_lets x2
        clear_value x2
        refine Touches.step (State.setFld_touches _ _ _ _) (by decide) ?_
        exact (State.setFld_touches _ _ _ _).mono (by decide)
    · exact Touches.refl _ _

theorem State.turnPools_touches (s : State) :
    Touches 0x2000 s (State.turnPools s) := by
  unfold State.turnPools
  extract_lets x0
  clear_value x0
  exact (State.withBench_touches _ _).mono (by decide)

theorem State.turnLathes_touches (s : State) :
    Touches 0x4bc2608 s (State.turnLathes s) := by
  unfold State.turnLathes
  extract_lets x0 x1 x2
  clear_value x2
  have h3 : Touches 0x4bc2608 s x0 := by
    unfold x0
    refine Touches.foldl ?_ ?_
    · intro z4
      intro z5
      refine Touches.step (State.turnSlots_touches _ _) (by decide) ?_
      exact Touches.refl _ _
    · exact Touches.refl _ _
  clear_value x0
  have h6 : Touches 0x4bc2608 s x1 := by
    unfold x1
    refine Touches.foldl ?_ ?_
    · intro z7
      intro z8
      refine Touches.step (State.finishTakeover_touches _ _) (by decide) ?_
      exact Touches.refl _ _
    · assumption
  clear_value x1
  refine Touches.foldl ?_ ?_
  · intro z9
    intro z10
    refine Touches.step (State.turnPaced_touches _ _) (by decide) ?_
    refine Touches.step (State.finishPlaced_touches _ _) (by decide) ?_
    exact Touches.refl _ _
  · assumption

theorem State.turnPlanes_touches (s : State) :
    Touches 0x4ffe7cd s (State.turnPlanes s) := by
  unfold State.turnPlanes
  extract_lets x0 x1 x2
  clear_value x0 x1
  have h3 : Touches 0x4ffe7cd s x2 := by
    unfold x2
    exact (State.planeBoundary_touches _).mono (by decide)
  clear_value x2
  split
  · assumption
  · split
    · assumption
    · exact Touches.step (State.applyPower_touches _ _ _) (by decide) (by assumption)

theorem State.boundaryActs_touches (s : State) :
    Touches 0x4fffffd s (State.boundaryActs s) := by
  unfold State.boundaryActs
  extract_lets x0 x1 x2 x3 x4 x5 x6
  clear_value x1 x4
  have h7 : Touches 0x4fffffd s x0 := by
    unfold x0
    refine Touches.step (State.applyStep_touches _) (by decide) ?_
    refine Touches.foldl ?_ ?_
    · intro z8
      intro z9
      refine Touches.step (State.chargeGrant_touches _ _) (by decide) ?_
      exact Touches.refl _ _
    · exact Touches.refl _ _
  clear_value x0
  have h10 : Touches 0x4fffffd s x2 := by
    unfold x2
    refine Touches.step (Touches.set_tb x0 _) (by decide) ?_
    assumption
  clear_value x2
  have h11 : Touches 0x4fffffd s x3 := by
    unfold x3
    refine Touches.step (State.adoptTerms_touches _) (by decide) ?_
    refine Touches.step (State.handoverBoundary_touches _) (by decide) ?_
    assumption
  clear_value x3
  have h12 : Touches 0x4fffffd s x5 := by
    unfold x5
    refine Touches.step (State.jobBoundary_touches _ _) (by decide) ?_
    refine Touches.step (State.turnPlanes_touches _) (by decide) ?_
    assumption
  clear_value x5
  have h13 : Touches 0x4fffffd s x6 := by
    unfold x6
    refine Touches.step (State.turnLathes_touches _) (by decide) ?_
    refine Touches.step (State.powerBoundary_touches _) (by decide) ?_
    assumption
  clear_value x6
  refine Touches.step (State.seamBoundary_touches _) (by decide) ?_
  refine Touches.step (State.turnPools_touches _) (by decide) ?_
  refine Touches.step (State.turnGates_touches _) (by decide) ?_
  refine Touches.step (State.turnGroups_touches _) (by decide) ?_
  refine Touches.step (State.turnWeights_touches _) (by decide) ?_
  assumption

theorem execTurnBoundary_touches (s : State) :
    TouchesX 0x4fffffd s (execTurnBoundary s) := by
  unfold execTurnBoundary
  split
  · refine TouchesX.next_ ?_
    refine Touches.step (State.boundaryActs_touches _) (by decide) ?_
    exact (Touches.set_tb s _).mono (by decide)
  · refine TouchesX.next_ ?_
    exact Touches.refl _ _

theorem State.idle_touches (s : State) :
    Touches 0x4fffffd s (State.idle s) := by
  unfold State.idle
  split
  · exact Touches.refl _ _
  · extract_lets x0 x1 x2
    clear_value x0 x1
    have h3 : Touches 0x4fffffd s x2 := by
      unfold x2
      exact (Touches.set_tb s _).mono (by decide)
    clear_value x2
    split
    · exact Touches.step (State.boundaryActs_touches _) (by decide) (by assumption)
    · assumption

end Sys2Proof.Machine
end

