-- ==== Sys2Proof/Laws/FrameStartup.lean ====
section
/-! SUPPORT. What each operation of Machine/Startup.lean can touch: its mask, memory's canonical form, the fuses' trust. -/

namespace Sys2Proof.Machine

theorem State.coldReset_touches (s : State) :
    Touches 0x1fffffe s (State.coldReset s) := by
  unfold State.coldReset
  generalize List.range 536 = l
  generalize List.range 32 = l'
  extract_lets r keep pins err side x2 x3 x4 x5 x6 x7
  have h2 : Touches 0x1fffffe s x2 := by
    refine ⟨fun i hi => ?_, fun _ => rfl, Fuses.trustKept_refl _⟩
    unfold State.sameAt; split <;> first | rfl | trivial
  clear_value x2
  have h3 : Touches 0x1fffffe s x3 := by
    unfold x3
    exact (State.wr_touches _ _ _).step (by decide) ((State.wr_touches _ _ _).step (by decide) h2)
  clear_value x3
  have h4 : Touches 0x1fffffe s x4 := by
    unfold x4
    exact (State.setFld_touches _ _ _ _).step (by decide) h3
  clear_value x4
  have h5 : Touches 0x1fffffe s x5 := by
    unfold x5
    exact (State.setFld_touches _ _ _ _).step (by decide) h4
  clear_value x5
  have h6 : Touches 0x1fffffe s x6 := by
    unfold x6
    refine Touches.step (Touches.foldl (m := 0x8) ?_ (Touches.refl _ _)) (by decide)
      ((State.fusedLathes_touches _).step (by decide) h5)
    intro s x
    exact State.fusedPtd_touches _ _
  clear_value x6
  have h7 : Touches 0x1fffffe s x7 := by
    unfold x7
    refine Touches.step (Touches.foldl (m := 0x8) ?_ (Touches.refl _ _)) (by decide) h6
    intro s x
    exact State.setFld_touches _ _ _ _
  clear_value x7
  refine Touches.step (Touches.foldl (m := 0x8) ?_ (Touches.refl _ _)) (by decide) h7
  intro s x
  split
  · exact State.setDom_touches _ _ _
  · exact Touches.refl _ _

theorem execColdRstNAssert_touches (a0 : Nat) (s : State) :
    TouchesX 0x3fffffe s (execColdRstNAssert a0 s) := by
  unfold execColdRstNAssert
  split
  · refine TouchesX.next_ ?_
    exact Touches.refl _ _
  · split
    · rename_i w0 w1 w2 w3
      have h4 : Touches 0x3fffffe s w2 := by
        refine Touches2.of w3 ?_
        split
        · exact Touches2.step (State.free_touches _) (by decide) (Touches.refl _ _)
        · refine Touches2.mk ?_
          exact Touches.refl _ _
      split
      · refine TouchesX.next_ ?_
        assumption
      · split
        · refine TouchesX.next_ ?_
          exact Touches.step (Touches.set_pins w2 _) (by decide) (by assumption)
        · refine TouchesX.next_ ?_
          refine Touches.step (State.coldReset_touches _) (by decide) ?_
          exact Touches.step (Touches.set_pins w2 _) (by decide) (by assumption)

theorem State.bootCopy_touches (s : State) (a1 : Nat) :
    Touches 0x808 s (State.bootCopy s a1) := by
  unfold State.bootCopy
  extract_lets x0 x1
  clear_value x0
  have h2 : Touches 0x808 s x1 := by
    unfold x1
    exact (Touches.set_boot s _).mono (by decide)
  clear_value x1
  refine Touches.step (State.setStage_touches _ _) (by decide) ?_
  exact Touches.step (State.setFld_touches _ _ _ _) (by decide) (by assumption)

theorem State.start_touches (s : State) :
    Touches 0x4001a48 s (State.start s) := by
  unfold State.start
  extract_lets x0 x1 x2 x3 x4
  clear_value x0
  have h5 : Touches 0x4001a48 s x1 := by
    unfold x1
    refine Touches.step (State.setFld_touches _ _ _ _) (by decide) ?_
    exact (State.setFld_touches _ _ _ _).mono (by decide)
  clear_value x1 x2
  have h6 : Touches 0x4001a48 s x3 := by
    unfold x3
    refine Touches.foldl ?_ ?_
    · intro z7 z8
      refine Touches.step (State.domWake_touches _ _) (by decide) ?_
      exact (State.setFld_touches _ _ _ _).mono (by decide)
    · assumption
  clear_value x3
  have h9 : Touches 0x4001a48 s x4 := by
    unfold x4
    refine Touches.step (State.setStage_touches _ _) (by decide) ?_
    exact Touches.step (State.startGroup_touches _) (by decide) (by assumption)
  clear_value x4
  split
  · exact Touches.step (State.bootCopy_touches _ _) (by decide) (by assumption)
  · exact Touches.step (State.bootFail_touches _ _) (by decide) (by assumption)

theorem execColdRstNRelease_touches (s : State) :
    TouchesX 0x5fffffe s (execColdRstNRelease s) := by
  unfold execColdRstNRelease
  split
  · refine TouchesX.next_ ?_
    exact Touches.refl _ _
  · extract_lets x0 x1 x2 x3
    clear_value x0
    have h4 : Touches 0x5fffffe s x1 := by
      unfold x1
      exact (Touches.set_pins s _).mono (by decide)
    clear_value x1
    have h5 : Touches 0x5fffffe s x2 := by
      unfold x2
      exact Touches.step (State.coldReset_touches _) (by decide) (by assumption)
    clear_value x2 x3
    split
    · refine TouchesX.next_ ?_
      assumption
    · split
      · refine TouchesX.next_ ?_
        exact Touches.step (State.start_touches _) (by decide) (by assumption)
      · refine TouchesX.next_ ?_
        refine Touches.step (State.bootFail_touches _ _) (by decide) ?_
        exact Touches.step (Touches.set_pins x2 _) (by decide) (by assumption)

theorem State.releaseSv_touches (s : State) (a1 : Nat) :
    Touches 0x8 s (State.releaseSv s a1) := by
  unfold State.releaseSv
  split
  · exact Touches.refl _ _
  · refine Touches.step (State.setFld_touches _ _ _ _) (by decide) ?_
    exact (State.setSvState_touches _ _ _).mono (by decide)

theorem execBootStageLoaded_touches (s : State) :
    TouchesX 0x4001a08 s (execBootStageLoaded s) := by
  unfold execBootStageLoaded
  split
  · refine TouchesX.next_ ?_
    exact Touches.refl _ _
  · extract_lets x0 x1 x2 x3 x4
    clear_value x0 x1 x2 x3
    have h5 : Touches 0x4001a08 s x4 := by
      unfold x4
      exact (Touches.set_boot s _).mono (by decide)
    clear_value x4
    split
    · refine TouchesX.next_ ?_
      refine Touches.step (State.setStage_touches _ _) (by decide) ?_
      refine Touches.step (State.releaseSv_touches _ _) (by decide) ?_
      exact Touches.step (State.releaseSv_touches _ _) (by decide) (by assumption)
    · split
      · refine TouchesX.next_ ?_
        exact (State.bootCopy_touches _ _).mono (by decide)
      · refine TouchesX.next_ ?_
        refine Touches.step (State.bootFail_touches _ _) (by decide) ?_
        exact (State.setStage_touches _ _).mono (by decide)

theorem State.untrained_touches (s : State) (a1 : Nat) :
    Touches 0x4001248 s (State.untrained s a1) := by
  unfold State.untrained
  refine Touches.step (State.keeperRec_touches _ _ _ _) (by decide) ?_
  refine Touches.step (State.setWake_touches _ _ _) (by decide) ?_
  exact (State.setDom_touches _ _ _).mono (by decide)

theorem execNearTierTrained_touches (a0 : BitVec 8) (s : State) :
    TouchesX 0x4001a48 s (execNearTierTrained a0 s) := by
  unfold execNearTierTrained
  split
  · refine TouchesX.next_ ?_
    exact Touches.refl _ _
  · extract_lets x0 x1 x2
    clear_value x0
    have h3 : Touches 0x4001a48 s x1 := by
      unfold x1
      refine Touches.foldl ?_ ?_
      · intro z4 z5
        exact (State.untrained_touches _ _).mono (by decide)
      · exact Touches.refl _ _
    clear_value x1 x2
    split
    · refine TouchesX.next_ ?_
      exact Touches.step (State.bootFail_touches _ _) (by decide) (by assumption)
    · refine TouchesX.next_ ?_
      refine Touches.step (State.setStage_touches _ _) (by decide) ?_
      exact Touches.step (Touches.set_boot x1 _) (by decide) (by assumption)

theorem execFarTierTrained_touches (a0 : BitVec 12) (s : State) :
    TouchesX 0x4001ac8 s (execFarTierTrained a0 s) := by
  unfold execFarTierTrained
  split
  · refine TouchesX.next_ ?_
    exact Touches.refl _ _
  · extract_lets x0 x1 x2
    have h3 : Touches 0x4001ac8 s x0 := by
      unfold x0
      refine Touches.foldl ?_ ?_
      · intro z4 z5
        exact (State.untrained_touches _ _).mono (by decide)
      · exact Touches.refl _ _
    clear_value x0 x1
    have h6 : Touches 0x4001ac8 s x2 := by
      unfold x2
      exact Touches.step (Touches.set_boot x0 _) (by decide) (by assumption)
    clear_value x2
    refine TouchesX.next_ ?_
    split
    · exact Touches.step (State.nextFlashImage_touches _ _) (by decide) (by assumption)
    · assumption

theorem execMainFirmwareLoaded_touches (s : State) :
    TouchesX 0x4a01b08 s (execMainFirmwareLoaded s) := by
  unfold execMainFirmwareLoaded
  split
  · refine TouchesX.next_ ?_
    exact Touches.refl _ _
  · extract_lets x0 x1 x2 x3 x4 x5 x6
    clear_value x0 x1 x2 x3
    have h7 : Touches 0x4a01b08 s x4 := by
      unfold x4
      exact (State.nearWrite_touches _ _ _).mono (by decide)
    clear_value x4 x5
    have h8 : Touches 0x4a01b08 s x6 := by
      unfold x6
      exact Touches.step (State.bootFail_touches _ _) (by decide) (by assumption)
    clear_value x6
    split
    · refine TouchesX.next_ ?_
      refine Touches.step (State.setStage_touches _ _) (by decide) ?_
      exact Touches.step (Touches.set_boot x4 _) (by decide) (by assumption)
    · split
      · extract_lets x9
        have h10 : Touches 0x4a01b08 s x9 := by
          unfold x9
          refine Touches.step (State.svBoot_touches _ _ _) (by decide) ?_
          exact Touches.step (State.svBoot_touches _ _ _) (by decide) (by assumption)
        clear_value x9
        refine TouchesX.next_ ?_
        exact Touches.step (State.bootCopy_touches _ _) (by decide) (by assumption)
      · refine TouchesX.next_ ?_
        refine Touches.step (State.setStage_touches _ _) (by decide) ?_
        exact Touches.step (State.bootFail_touches _ _) (by decide) (by assumption)

theorem execBootConfirm_touches (a0 : Writer) (s : State) :
    TouchesX 0x8 s (execBootConfirm a0 s) := by
  unfold execBootConfirm
  split
  · refine TouchesX.next_ ?_
    exact (State.hostDrop_touches _ _ _ _ _ _).mono (by decide)
  · refine TouchesX.next_ ?_
    refine Touches.step (State.fenced_touches (m := 0x8) _ _ _ _ _ (by decide) ?_) (by decide) ?_
    · intro z0
      refine Touches.step (State.setFld_touches _ _ _ _) (by decide) ?_
      exact (State.setFld_touches _ _ _ _).mono (by decide)
    · exact Touches.refl _ _

theorem execBootConfirmTimeout_touches (s : State) :
    TouchesX 0x4001b08 s (execBootConfirmTimeout s) := by
  unfold execBootConfirmTimeout
  split
  · refine TouchesX.next_ ?_
    exact Touches.refl _ _
  · extract_lets x0 x1 x2 x3 x4 x5 x6
    clear_value x0
    have h7 : Touches 0x4001b08 s x1 := by
      unfold x1
      exact (State.count_touches _ _ _).mono (by decide)
    clear_value x1 x2
    have h8 : Touches 0x4001b08 s x3 := by
      unfold x3
      exact Touches.step (State.bootFail_touches _ _) (by decide) (by assumption)
    clear_value x3 x4 x5
    have h9 : Touches 0x4001b08 s x6 := by
      unfold x6
      exact Touches.step (Touches.set_boot x3 _) (by decide) (by assumption)
    clear_value x6
    split
    · extract_lets x10 x11 x12
      have h13 : Touches 0x4001b08 s x10 := by
        unfold x10
        refine Touches.step (State.svBoot_touches _ _ _) (by decide) ?_
        exact Touches.step (State.svBoot_touches _ _ _) (by decide) (by assumption)
      clear_value x10
      have h14 : Touches 0x4001b08 s x11 := by
        unfold x11
        exact Touches.step (State.setFld_touches _ _ _ _) (by decide) (by assumption)
      clear_value x11 x12
      refine TouchesX.next_ ?_
      split
      · exact Touches.step (Touches.set_boot x11 _) (by decide) (by assumption)
      · exact Touches.step (State.bootCopy_touches _ _) (by decide) (by assumption)
    · refine TouchesX.next_ ?_
      split
      · assumption
      · exact Touches.step (State.setStage_touches _ _) (by decide) (by assumption)

end Sys2Proof.Machine
end

