-- ==== Sys2Proof/Laws/FrameHost.lean ====
section
/-! SUPPORT. What each operation of Machine/Host.lean can touch: its mask, memory's canonical form, the fuses' trust. -/

namespace Sys2Proof.Machine

theorem State.setFn_touches (s : State) (a1 : Nat) (a2 : FnSt → FnSt) :
    Touches 0x1000 s (State.setFn s a1 a2) := by
  unfold State.setFn
  exact (Touches.set_host s _).mono (by decide)

theorem State.setHif_touches (s : State) (a1 : Nat) (a2 : Fld) (a3 : Nat) :
    Touches 0x8 s (State.setHif s a1 a2 a3) := by
  unfold State.setHif
  exact (State.setFld_touches _ _ _ _).mono (by decide)

theorem State.fwRec_touches (s : State) (a1 : Nat) (a2 : Nat) :
    Touches 0x6001208 s (State.fwRec s a1 a2) := by
  unfold State.fwRec
  split
  · rename_i w0 w1 w2 w3
    have h4 : Touches 0x6001208 s w2 := by
      refine Touches2.of w3 ?_
      exact Touches2.step (State.free_touches _) (by decide) (Touches.refl _ _)
    extract_lets x5 x6
    clear_value x5 x6
    exact Touches.step (State.logAppend_touches _ _) (by decide) (by assumption)

theorem State.sendReply_touches (s : State) (a1 : Nat) (a2 : Nat) (a3 : W64) :
    Touches 0x1008 s (State.sendReply s a1 a2 a3) := by
  unfold State.sendReply
  split
  · exact (State.setFn_touches _ _ _).mono (by decide)
  · exact (State.f2hPut_touches _ _ _ _).mono (by decide)

theorem State.hcfReply_touches (s : State) (a1 : Nat) (a2 : HcfCmd) (a3 : Nat) (a4 : Option Nat) :
    Touches 0x2001008 s (State.hcfReply s a1 a2 a3 a4) := by
  unfold State.hcfReply
  split
  · exact Touches.refl _ _
  · split
    · exact (State.sendReply_touches _ _ _ _).mono (by decide)
    · split
      · rename_i w0 w1 w2 w3
        have h4 : Touches 0x2001008 s w2 := by
          refine Touches2.of w3 ?_
          exact Touches2.step (State.free_touches _) (by decide) (Touches.refl _ _)
        exact Touches.step (State.sendReply_touches _ _ _ _) (by decide) (by assumption)

theorem State.putChan_touches (s : State) (a1 : Nat) (a2 : DmaChan) :
    Touches 0x1008 s (State.putChan s a1 a2) := by
  unfold State.putChan
  extract_lets x0 x1
  clear_value x0
  have h2 : Touches 0x1008 s x1 := by
    unfold x1
    exact (Touches.set_host s _).mono (by decide)
  clear_value x1
  refine Touches.step (State.setFld_touches _ _ _ _) (by decide) ?_
  exact Touches.step (State.setFld_touches _ _ _ _) (by decide) (by assumption)

theorem State.chanEnded_touches (s : State) (a1 : Nat) (a2 : DmaChan) :
    Touches 0x3008 s (State.chanEnded s a1 a2) := by
  unfold State.chanEnded
  refine Touches.step (State.reclaimNow_touches _ _) (by decide) ?_
  exact (State.putChan_touches _ _ _).mono (by decide)

theorem State.dmaStop_touches (s : State) (a1 : Nat) (a2 : Nat) :
    Touches 0x6003008 s (State.dmaStop s a1 a2) := by
  unfold State.dmaStop
  split
  · exact Touches.refl _ _
  · split
    · exact Touches.refl _ _
    · extract_lets x0 x1 x2 x3 x4 x5
      clear_value x0
      have h6 : Touches 0x6003008 s x1 := by
        unfold x1
        refine Touches.step (State.setFld_touches _ _ _ _) (by decide) ?_
        exact (State.setFld_touches _ _ _ _).mono (by decide)
      clear_value x1 x2
      have h7 : Touches 0x6003008 s x3 := by
        unfold x3
        exact Touches.step (State.putChan_touches _ _ _) (by decide) (by assumption)
      clear_value x3
      have h8 : Touches 0x6003008 s x4 := by
        unfold x4
        split
        · refine Touches.step (State.hcfReply_touches _ _ _ _ _) (by decide) ?_
          exact Touches.step (State.imageStopped_touches _) (by decide) (by assumption)
        · exact Touches.step (State.hcfReply_touches _ _ _ _ _) (by decide) (by assumption)
      clear_value x4
      have h9 : Touches 0x6003008 s x5 := by
        unfold x5
        split
        · assumption
        · exact Touches.step (State.msix_touches _ _ _) (by decide) (by assumption)
      clear_value x5
      split
      · exact Touches.step (State.chanEnded_touches _ _ _) (by decide) (by assumption)
      · assumption

theorem State.readEntry_touches (s : State) (a1 : Nat) (a2 : DmaChan) :
    Touches 0x4001008 s (State.readEntry s a1 a2) := by
  unfold State.readEntry
  refine Touches.step (State.emit_touches _ _) (by decide) ?_
  exact (State.putChan_touches _ _ _).mono (by decide)

theorem State.dmaStart_touches (s : State) (a1 : Nat) (a2 : DmaChan) :
    Touches 0x6003008 s (State.dmaStart s a1 a2) := by
  unfold State.dmaStart
  extract_lets x0 x1
  clear_value x0
  have h2 : Touches 0x6003008 s x1 := by
    unfold x1
    refine Touches.step (State.setFld_touches _ _ _ _) (by decide) ?_
    exact (State.setFld_touches _ _ _ _).mono (by decide)
  clear_value x1
  split
  · refine Touches.step (State.dmaStop_touches _ _ _) (by decide) ?_
    exact Touches.step (State.putChan_touches _ _ _) (by decide) (by assumption)
  · exact Touches.step (State.readEntry_touches _ _ _) (by decide) (by assumption)

theorem State.entryMoved_touches (s : State) (a1 : Nat) (a2 : DmaChan) :
    Touches 0x4001008 s (State.entryMoved s a1 a2) := by
  unfold State.entryMoved
  split
  · exact (State.putChan_touches _ _ _).mono (by decide)
  · exact (State.readEntry_touches _ _ _).mono (by decide)

theorem State.takeEntry_touches (s : State) (a1 : Nat) (a2 : DmaChan) :
    Touches 0x6003008 s (State.takeEntry s a1 a2) := by
  unfold State.takeEntry
  extract_lets x0 x1 x2 x3
  clear_value x0 x1 x2 x3
  split
  · refine Touches.step (State.dmaStop_touches _ _ _) (by decide) ?_
    exact (State.putChan_touches _ _ _).mono (by decide)
  · split
    · extract_lets x4
      have h5 : Touches 0x6003008 s x4 := by
        unfold x4
        exact (State.emit_touches _ _).mono (by decide)
      clear_value x4
      exact Touches.step (State.entryMoved_touches _ _ _) (by decide) (by assumption)
    · refine Touches.step (State.emit_touches _ _) (by decide) ?_
      exact (State.putChan_touches _ _ _).mono (by decide)

theorem State.takeData_touches (s : State) (a1 : Nat) (a2 : DmaChan) (a3 : Blob) :
    Touches 0x4001088 s (State.takeData s a1 a2 a3) := by
  unfold State.takeData
  extract_lets x0 x1
  have h2 : Touches 0x4001088 s x0 := by
    unfold x0
    split
    · split
      · exact (State.addImage_touches _ _).mono (by decide)
      · exact Touches.refl _ _
    · exact Touches.refl _ _
  clear_value x0
  split
  · exact Touches.step (State.entryMoved_touches _ _ _) (by decide) (by assumption)
  · exact Touches.step (State.putChan_touches _ _ _) (by decide) (by assumption)

theorem execDmaCompletion_touches (a0 : Fin 2) (a1 : Blob) (s : State) :
    TouchesX 0x6003088 s (execDmaCompletion a0 a1 s) := by
  unfold execDmaCompletion
  extract_lets x0
  clear_value x0
  split
  · refine TouchesX.next_ ?_
    exact Touches.refl _ _
  · extract_lets x1 x2 x3 x4
    clear_value x2
    split
    · refine TouchesX.next_ ?_
      exact Touches.refl _ _
    · split
      · refine TouchesX.next_ ?_
        split
        · exact (State.chanEnded_touches _ _ _).mono (by decide)
        · exact (State.putChan_touches _ _ _).mono (by decide)
      · split
        · refine TouchesX.next_ ?_
          split
          · exact (State.takeEntry_touches _ _ _).mono (by decide)
          · exact (State.putChan_touches _ _ _).mono (by decide)
        · refine TouchesX.next_ ?_
          exact (State.takeData_touches _ _ _ _).mono (by decide)

theorem execDmaReadTimeout_touches (a0 : Fin 2) (a1 : DmaFail) (s : State) :
    TouchesX 0x6003208 s (execDmaReadTimeout a0 a1 s) := by
  unfold execDmaReadTimeout
  extract_lets x0
  clear_value x0
  split
  · refine TouchesX.next_ ?_
    exact Touches.refl _ _
  · split
    · refine TouchesX.next_ ?_
      exact Touches.refl _ _
    · split
      · refine TouchesX.next_ ?_
        refine Touches.step (State.fwRec_touches _ _ _) (by decide) ?_
        exact (State.dmaStop_touches _ _ _).mono (by decide)
      · refine TouchesX.next_ ?_
        exact (State.chanEnded_touches _ _ _).mono (by decide)

theorem State.stopFn_touches (s : State) (a1 : Nat) (a2 : Nat) :
    Touches 0x6003008 s (State.stopFn s a1 a2) := by
  unfold State.stopFn
  refine Touches.foldl ?_ ?_
  · intro z0 z1
    split
    · split
      · exact (State.dmaStop_touches _ _ _).mono (by decide)
      · exact Touches.refl _ _
    · exact Touches.refl _ _
  · exact Touches.refl _ _

theorem execBmeClear_touches (a0 : Sv) (a1 : Bool) (a2 : Bool) (s : State) :
    TouchesX 0x6003008 s (execBmeClear a0 a1 a2 s) := by
  unfold execBmeClear
  extract_lets x0
  have h1 : Touches 0x6003008 s x0 := by
    unfold x0
    refine Touches.step (State.setHif_touches _ _ _ _) (by decide) ?_
    exact (State.setHif_touches _ _ _ _).mono (by decide)
  clear_value x0
  refine TouchesX.next_ ?_
  split
  · assumption
  · exact Touches.step (State.stopFn_touches _ _ _) (by decide) (by assumption)

theorem execD3hotEntry_touches (a0 : Sv) (a1 : Bool) (s : State) :
    TouchesX 0x6003008 s (execD3hotEntry a0 a1 s) := by
  unfold execD3hotEntry
  extract_lets x0
  have h1 : Touches 0x6003008 s x0 := by
    unfold x0
    exact (State.setHif_touches _ _ _ _).mono (by decide)
  clear_value x0
  refine TouchesX.next_ ?_
  split
  · exact Touches.step (State.stopFn_touches _ _ _) (by decide) (by assumption)
  · assumption

theorem execPcieLinkDown_touches (a0 : Sv) (a1 : Option (Fin 6 × Fin 9)) (s : State) :
    TouchesX 0x6003008 s (execPcieLinkDown a0 a1 s) := by
  unfold execPcieLinkDown
  split
  · split
    · refine TouchesX.next_ ?_
      exact Touches.refl _ _
    · refine TouchesX.next_ ?_
      refine Touches.step (State.setHif_touches _ _ _ _) (by decide) ?_
      exact (State.setHif_touches _ _ _ _).mono (by decide)
  · extract_lets x0
    have h1 : Touches 0x6003008 s x0 := by
      unfold x0
      refine Touches.step (State.setHif_touches _ _ _ _) (by decide) ?_
      exact (State.setHif_touches _ _ _ _).mono (by decide)
    clear_value x0
    refine TouchesX.next_ ?_
    refine Touches.step (State.stopFn_touches _ _ _) (by decide) ?_
    exact Touches.step (State.count_touches _ _ _) (by decide) (by assumption)

theorem State.abandonReplies_touches (s : State) (a1 : Nat) :
    Touches 0x1008 s (State.abandonReplies s a1) := by
  unfold State.abandonReplies
  extract_lets x0
  have h1 : Touches 0x1008 s x0 := by
    unfold x0
    exact (State.setFn_touches _ _ _).mono (by decide)
  clear_value x0
  refine Touches.foldl ?_ ?_
  · intro z2 z3
    split
    · split
      · exact (State.putChan_touches _ _ _).mono (by decide)
      · exact Touches.refl _ _
    · exact Touches.refl _ _
  · assumption

theorem State.resetFn_touches (s : State) (a1 : Nat) (a2 : Nat) :
    Touches 0x6003008 s (State.resetFn s a1 a2) := by
  unfold State.resetFn
  extract_lets x0 x1 x2 x3 x4
  have h5 : Touches 0x6003008 s x0 := by
    unfold x0
    refine Touches.step (State.stopFn_touches _ _ _) (by decide) ?_
    exact (State.abandonReplies_touches _ _).mono (by decide)
  clear_value x0
  have h6 : Touches 0x6003008 s x1 := by
    unfold x1
    refine Touches.step (State.setHif_touches _ _ _ _) (by decide) ?_
    refine Touches.step (State.setHif_touches _ _ _ _) (by decide) ?_
    exact Touches.step (State.setHif_touches _ _ _ _) (by decide) (by assumption)
  clear_value x1
  have h7 : Touches 0x6003008 s x2 := by
    unfold x2
    refine Touches.step (State.wr_touches _ _ _) (by decide) ?_
    refine Touches.step (State.wr_touches _ _ _) (by decide) ?_
    exact Touches.step (State.wr_touches _ _ _) (by decide) (by assumption)
  clear_value x2
  have h8 : Touches 0x6003008 s x3 := by
    unfold x3
    exact Touches.step (State.setFn_touches _ _ _) (by decide) (by assumption)
  clear_value x3 x4
  exact Touches.step (Touches.set_host x3 _) (by decide) (by assumption)

theorem execPerstAssert_touches (a0 : Sv) (a1 : PerstKind) (a2 : Nat) (s : State) :
    TouchesX 0x6003008 s (execPerstAssert a0 a1 a2 s) := by
  unfold execPerstAssert
  split
  · rename_i w0 w1 w2 w3
    have h4 : Touches 0x6003008 s w2 := by
      refine Touches2.of w3 ?_
      split
      · exact Touches2.step (State.free_touches _) (by decide) (Touches.refl _ _)
      · refine Touches2.mk ?_
        exact Touches.refl _ _
    split
    · refine TouchesX.next_ ?_
      assumption
    · extract_lets x5
      have h6 : Touches 0x6003008 s x5 := by
        unfold x5
        refine Touches.step (State.count_touches _ _ _) (by decide) ?_
        exact Touches.step (State.resetFn_touches _ _ _) (by decide) (by assumption)
      clear_value x5
      refine TouchesX.next_ ?_
      refine Touches.step (State.setHif_touches _ _ _ _) (by decide) ?_
      exact Touches.step (State.setHif_touches _ _ _ _) (by decide) (by assumption)

theorem execFunctionLevelReset_touches (a0 : Sv) (s : State) :
    TouchesX 0x6003008 s (execFunctionLevelReset a0 s) := by
  unfold execFunctionLevelReset
  refine TouchesX.next_ ?_
  refine Touches.step (State.count_touches _ _ _) (by decide) ?_
  exact (State.resetFn_touches _ _ _).mono (by decide)

theorem State.flashPut_touches (s : State) (a1 : Nat) (a2 : Nat) (a3 : Blob) :
    Touches 0x400 s (State.flashPut s a1 a2 a3) := by
  unfold State.flashPut
  split
  · exact (Touches.set_side s _).mono (by decide)
  · exact (Touches.set_side s _).mono (by decide)

theorem State.flashDone_touches (s : State) (a1 : Nat) (a2 : Blob) :
    Touches2 0x400 s (State.flashDone s a1 a2) := by
  unfold State.flashDone
  extract_lets x0
  have h1 : Touches 0x400 s x0 := by
    unfold x0
    refine Touches.step (State.flashPut_touches _ _ _ _) (by decide) ?_
    exact (State.flashPut_touches _ _ _ _).mono (by decide)
  clear_value x0
  split
  · refine Touches2.mk ?_
    exact Touches.step (State.flashPut_touches _ _ _ _) (by decide) (by assumption)
  · refine Touches2.mk ?_
    assumption

theorem State.chanFinish_touches (s : State) (a1 : DmaChan) :
    Touches 0x2001408 s (State.chanFinish s a1) := by
  unfold State.chanFinish
  split
  · exact (State.hcfReply_touches _ _ _ _ _).mono (by decide)
  · split
    · rename_i w0 w1 w2 w3
      have h4 : Touches 0x2001408 s w2 := by
        refine Touches2.of w3 ?_
        exact Touches2.step (State.flashDone_touches _ _ _) (by decide) (Touches.refl _ _)
      exact Touches.step (State.hcfReply_touches _ _ _ _ _) (by decide) (by assumption)
  · extract_lets x5 x6 x7
    clear_value x5 x6
    have h8 : Touches 0x2001408 s x7 := by
      unfold x7
      split
      · exact (State.setFld_touches _ _ _ _).mono (by decide)
      · exact Touches.refl _ _
    clear_value x7
    exact Touches.step (State.hcfReply_touches _ _ _ _ _) (by decide) (by assumption)

theorem execDmaChannelDone_touches (a0 : Fin 2) (s : State) :
    TouchesX 0x6001408 s (execDmaChannelDone a0 s) := by
  unfold execDmaChannelDone
  extract_lets x0
  clear_value x0
  split
  · refine TouchesX.next_ ?_
    exact Touches.refl _ _
  · split
    · refine TouchesX.next_ ?_
      exact Touches.refl _ _
    · extract_lets x1
      have h2 : Touches 0x6001408 s x1 := by
        unfold x1
        refine Touches.step (State.setFld_touches _ _ _ _) (by decide) ?_
        exact (State.putChan_touches _ _ _).mono (by decide)
      clear_value x1
      refine TouchesX.next_ ?_
      refine Touches.step (State.msix_touches _ _ _) (by decide) ?_
      exact Touches.step (State.chanFinish_touches _ _) (by decide) (by assumption)

theorem State.hcfPush_touches (s : State) (a1 : Nat) (a2 : W64) (a3 : Bool) (a4 : Bool) :
    Touches 0x1008 s (State.hcfPush s a1 a2 a3 a4) := by
  unfold State.hcfPush
  extract_lets x0 x1
  clear_value x0
  have h2 : Touches 0x1008 s x1 := by
    unfold x1
    refine Touches.step (State.count_touches _ _ _) (by decide) ?_
    exact (State.setFld_touches _ _ _ _).mono (by decide)
  clear_value x1
  split
  · exact Touches.refl _ _
  · split
    · exact Touches.step (State.setFn_touches _ _ _) (by decide) (by assumption)
    · exact (State.setFn_touches _ _ _).mono (by decide)

theorem execHcfDataWrite_touches (a0 : Sv) (a1 : W64) (a2 : Bool) (s : State) :
    TouchesX 0x1008 s (execHcfDataWrite a0 a1 a2 s) := by
  unfold execHcfDataWrite
  refine TouchesX.next_ ?_
  exact (State.hcfPush_touches _ _ _ _ _).mono (by decide)

theorem execHcfDataEndWrite_touches (a0 : Sv) (a1 : W64) (a2 : Bool) (s : State) :
    TouchesX 0x1008 s (execHcfDataEndWrite a0 a1 a2 s) := by
  unfold execHcfDataEndWrite
  refine TouchesX.next_ ?_
  exact (State.hcfPush_touches _ _ _ _ _).mono (by decide)

theorem State.hcfRest_touches (s : State) (a1 : Nat) (a2 : List HcfWord) :
    Touches 0x4001000 s (State.hcfRest s a1 a2) := by
  unfold State.hcfRest
  extract_lets x0 x1
  clear_value x0
  have h2 : Touches 0x4001000 s x1 := by
    unfold x1
    exact (State.setFn_touches _ _ _).mono (by decide)
  clear_value x1
  split
  · exact Touches.step (State.msix_touches _ _ _) (by decide) (by assumption)
  · assumption

theorem execFlush_touches (a0 : Sv) (s : State) :
    TouchesX 0x4001000 s (execFlush a0 s) := by
  unfold execFlush
  split
  · refine TouchesX.next_ ?_
    exact Touches.refl _ _
  · refine TouchesX.next_ ?_
    refine Touches.step (State.hcfRest_touches _ _ _) (by decide) ?_
    exact (State.setFn_touches _ _ _).mono (by decide)

theorem execHcfTake_touches (a0 : Sv) (s : State) :
    TouchesX 0x6001208 s (execHcfTake a0 s) := by
  unfold execHcfTake
  extract_lets x0
  clear_value x0
  split
  · refine TouchesX.next_ ?_
    exact Touches.refl _ _
  · split
    · refine TouchesX.next_ ?_
      exact Touches.refl _ _
    · extract_lets x1 x2 x3
      have h4 : Touches 0x6001208 s x1 := by
        unfold x1
        exact (State.hcfRest_touches _ _ _).mono (by decide)
      clear_value x1 x2 x3
      split
      · refine TouchesX.next_ ?_
        exact Touches.step (State.fwRec_touches _ _ _) (by decide) (by assumption)
      · split
        · refine TouchesX.next_ ?_
          exact Touches.step (State.hcfReply_touches _ _ _ _ _) (by decide) (by assumption)
        · split
          · refine TouchesX.next_ ?_
            refine Touches.step (State.hcfReply_touches _ _ _ _ _) (by decide) ?_
            exact Touches.step (State.count_touches _ _ _) (by decide) (by assumption)
          · split
            · refine TouchesX.next_ ?_
              exact Touches.step (State.hcfReply_touches _ _ _ _ _) (by decide) (by assumption)
            · split
              · refine TouchesX.next_ ?_
                exact Touches.step (State.hcfReply_touches _ _ _ _ _) (by decide) (by assumption)
              · split
                · refine TouchesX.next_ ?_
                  exact Touches.step (State.hcfReply_touches _ _ _ _ _) (by decide) (by assumption)
                · refine TouchesX.next_ ?_
                  exact Touches.step (State.setFn_touches _ _ _) (by decide) (by assumption)

theorem State.hcfRun_touches {m : Nat} (s : State) (a1 a2 a3 : Nat) (a4 : State → HcfCmd → List Nat → State)
    (hm : 0x2001008 ||| m = m) (h : ∀ s c l, Touches m s (a4 s c l)) : Touches m s (State.hcfRun s a1 a2 a3 a4) := by
  unfold State.hcfRun
  split
  · exact Touches.refl _ _
  · split
    · exact Touches.refl _ _
    · extract_lets x0 x1
      have h0 : Touches m s x0 := by
        unfold x0
        exact ((State.setFn_touches _ _ _).mono (m := 0x2001008) (by decide)).mono hm
      clear_value x0
      split
      · exact ((State.hcfReply_touches _ _ _ _ _).mono (m := 0x2001008) (by decide)).step hm h0
      · split
        · exact ((State.hcfReply_touches _ _ _ _ _).mono (m := 0x2001008) (by decide)).step hm h0
        · exact (h _ _ _).step (by simp) h0

theorem State.hcfImage_touches {m : Nat} (s : State) (a1 : Nat) (a2 : HcfCmd) (a3 : State → State) (hm : 0x2001008 ||| m = m)
    (h : ∀ s, Touches m s (a3 s)) : Touches m s (State.hcfImage s a1 a2 a3) := by
  have w : ∀ {t u : State}, Touches 0x8 t u → Touches m t u := fun h => (h.mono (m := 0x2001008) (by decide)).mono hm
  unfold State.hcfImage
  extract_lets x0 x1 x2 x3
  have h1 : Touches m s x1 := by
    unfold x1
    exact (h _).step (by simp) (w (State.setFld_touches _ _ _ _))
  clear_value x1
  have h3 : Touches m s x3 := by
    unfold x3
    exact (w (State.setFld_touches _ _ _ _)).step (by simp) h1
  clear_value x3
  exact ((State.hcfReply_touches _ _ _ _ _).mono (m := 0x2001008) (by decide)).step hm h3

theorem execImageLoad_touches (a0 : Sv) (s : State) :
    TouchesX 0x6003088 s (execImageLoad a0 s) := by
  unfold execImageLoad
  refine TouchesX.next_ ?_
  refine Touches.step (State.hcfRun_touches (m := 0x6003088) _ _ _ _ _ (by decide) ?_) (by decide) ?_
  · intro z0 z1 z2
    extract_lets x3 x4
    clear_value x3 x4
    split
    · exact (State.hcfReply_touches _ _ _ _ _).mono (by decide)
    · split
      · exact (State.hcfReply_touches _ _ _ _ _).mono (by decide)
      · split
        · refine Touches.step (State.hcfImage_touches (m := 0x6003088) _ _ _ _ (by decide) ?_) (by decide) ?_
          · intro z5
            exact (State.imgRefuse_touches _).mono (by decide)
          · exact Touches.refl _ _
        · refine Touches.step (State.dmaStart_touches _ _ _) (by decide) ?_
          exact (State.beginImage_touches _ _ _).mono (by decide)
  · exact Touches.refl _ _

theorem execImageCheck_touches (a0 : Sv) (s : State) :
    TouchesX 0x2001008 s (execImageCheck a0 s) := by
  unfold execImageCheck
  refine TouchesX.next_ ?_
  refine Touches.step (State.hcfRun_touches (m := 0x2001008) _ _ _ _ _ (by decide) ?_) (by decide) ?_
  · intro z0 z1 z2
    refine Touches.step (State.hcfImage_touches (m := 0x2001008) _ _ _ _ (by decide) ?_) (by decide) ?_
    · intro z3
      refine Touches.step (State.imgCommand_touches (m := 0x2001008) _ _ _ (by decide) ?_) (by decide) ?_
      · intro z4
        exact (State.imgCheck_touches _).mono (by decide)
      · exact Touches.refl _ _
    · exact Touches.refl _ _
  · exact Touches.refl _ _

theorem execImageArm_touches (a0 : Sv) (s : State) :
    TouchesX 0x2001088 s (execImageArm a0 s) := by
  unfold execImageArm
  refine TouchesX.next_ ?_
  refine Touches.step (State.hcfRun_touches (m := 0x2001088) _ _ _ _ _ (by decide) ?_) (by decide) ?_
  · intro z0 z1 z2
    extract_lets x3 x4
    clear_value x3 x4
    split
    · exact (State.hcfReply_touches _ _ _ _ _).mono (by decide)
    · refine Touches.step (State.hcfImage_touches (m := 0x2001088) _ _ _ _ (by decide) ?_) (by decide) ?_
      · intro z5
        refine Touches.step (State.imgCommand_touches (m := 0x2001088) _ _ _ (by decide) ?_) (by decide) ?_
        · intro z6
          exact (State.imgArm_touches _ _ _).mono (by decide)
        · exact Touches.refl _ _
      · exact Touches.refl _ _
  · exact Touches.refl _ _

theorem execImageCancel_touches (a0 : Sv) (s : State) :
    TouchesX 0x2001008 s (execImageCancel a0 s) := by
  unfold execImageCancel
  refine TouchesX.next_ ?_
  refine Touches.step (State.hcfRun_touches (m := 0x2001008) _ _ _ _ _ (by decide) ?_) (by decide) ?_
  · intro z0 z1 z2
    refine Touches.step (State.hcfImage_touches (m := 0x2001008) _ _ _ _ (by decide) ?_) (by decide) ?_
    · intro z3
      refine Touches.step (State.imgCommand_touches (m := 0x2001008) _ _ _ (by decide) ?_) (by decide) ?_
      · intro z4
        exact (State.imgCancel_touches _).mono (by decide)
      · exact Touches.refl _ _
    · exact Touches.refl _ _
  · exact Touches.refl _ _

theorem execImageDiscard_touches (a0 : Sv) (s : State) :
    TouchesX 0x2001088 s (execImageDiscard a0 s) := by
  unfold execImageDiscard
  refine TouchesX.next_ ?_
  refine Touches.step (State.hcfRun_touches (m := 0x2001088) _ _ _ _ _ (by decide) ?_) (by decide) ?_
  · intro z0 z1 z2
    refine Touches.step (State.hcfImage_touches (m := 0x2001088) _ _ _ _ (by decide) ?_) (by decide) ?_
    · intro z3
      refine Touches.step (State.imgCommand_touches (m := 0x2001088) _ _ _ (by decide) ?_) (by decide) ?_
      · intro z4
        exact (State.imgDiscard_touches _).mono (by decide)
      · exact Touches.refl _ _
    · exact Touches.refl _ _
  · exact Touches.refl _ _

theorem execWindow_touches (a0 : Sv) (s : State) :
    TouchesX 0x2001008 s (execWindow a0 s) := by
  unfold execWindow
  refine TouchesX.next_ ?_
  refine Touches.step (State.hcfRun_touches (m := 0x2001008) _ _ _ _ _ (by decide) ?_) (by decide) ?_
  · intro z0 z1 z2
    extract_lets x3 x4 x5 x6 x7
    clear_value x3 x4 x5 x6 x7
    split
    · exact (State.hcfReply_touches _ _ _ _ _).mono (by decide)
    · split
      · refine Touches.step (State.hcfReply_touches _ _ _ _ _) (by decide) ?_
        exact (State.wr_touches _ _ _).mono (by decide)
      · split
        · exact (State.hcfReply_touches _ _ _ _ _).mono (by decide)
        · refine Touches.step (State.hcfReply_touches _ _ _ _ _) (by decide) ?_
          exact (State.wr_touches _ _ _).mono (by decide)
  · exact Touches.refl _ _

theorem execDumpFetch_touches (a0 : Sv) (s : State) :
    TouchesX 0x6003008 s (execDumpFetch a0 s) := by
  unfold execDumpFetch
  refine TouchesX.next_ ?_
  refine Touches.step (State.hcfRun_touches (m := 0x6003008) _ _ _ _ _ (by decide) ?_) (by decide) ?_
  · intro z0 z1 z2
    extract_lets x3 x4
    clear_value x3 x4
    split
    · exact (State.hcfReply_touches _ _ _ _ _).mono (by decide)
    · split
      · exact (State.hcfReply_touches _ _ _ _ _).mono (by decide)
      · split
        · exact (State.hcfReply_touches _ _ _ _ _).mono (by decide)
        · exact (State.dmaStart_touches _ _ _).mono (by decide)
  · exact Touches.refl _ _

theorem execOverride_touches (a0 : Sv) (s : State) :
    TouchesX 0x2001008 s (execOverride a0 s) := by
  unfold execOverride
  refine TouchesX.next_ ?_
  refine Touches.step (State.hcfRun_touches (m := 0x2001008) _ _ _ _ _ (by decide) ?_) (by decide) ?_
  · intro z0 z1 z2
    extract_lets x3 x4
    clear_value x3
    have h5 : Touches 0x2001008 z0 x4 := by
      unfold x4
      refine Touches.step (State.setFld_touches _ _ _ _) (by decide) ?_
      exact (State.setFld_touches _ _ _ _).mono (by decide)
    clear_value x4
    split
    · refine Touches.step (State.hcfReply_touches _ _ _ _ _) (by decide) ?_
      exact (State.wr_touches _ _ _).mono (by decide)
    · exact Touches.step (State.hcfReply_touches _ _ _ _ _) (by decide) (by assumption)
    · exact (State.hcfReply_touches _ _ _ _ _).mono (by decide)
  · exact Touches.refl _ _

theorem execFlashWrite_touches (a0 : Sv) (s : State) :
    TouchesX 0x6003008 s (execFlashWrite a0 s) := by
  unfold execFlashWrite
  refine TouchesX.next_ ?_
  refine Touches.step (State.hcfRun_touches (m := 0x6003008) _ _ _ _ _ (by decide) ?_) (by decide) ?_
  · intro z0 z1 z2
    extract_lets x3 x4 x5
    clear_value x3 x4 x5
    split
    · exact (State.hcfReply_touches _ _ _ _ _).mono (by decide)
    · split
      · exact (State.hcfReply_touches _ _ _ _ _).mono (by decide)
      · split
        · exact (State.hcfReply_touches _ _ _ _ _).mono (by decide)
        · exact (State.dmaStart_touches _ _ _).mono (by decide)
  · exact Touches.refl _ _

theorem execEventRead_touches (a0 : Sv) (s : State) :
    TouchesX 0x2001208 s (execEventRead a0 s) := by
  unfold execEventRead
  refine TouchesX.next_ ?_
  refine Touches.step (State.hcfRun_touches (m := 0x2001208) _ _ _ _ _ (by decide) ?_) (by decide) ?_
  · intro z0 z1 z2
    split
    · extract_lets x3 x4 x5
      clear_value x3 x4
      have h6 : Touches 0x2001208 z0 x5 := by
        unfold x5
        exact (Touches.set_err z0 _).mono (by decide)
      clear_value x5
      exact Touches.step (State.hcfReply_touches _ _ _ _ _) (by decide) (by assumption)
    · exact (State.hcfReply_touches _ _ _ _ _).mono (by decide)
  · exact Touches.refl _ _

theorem execBar2Read_touches (a0 : Sv) (a1 : Nat) (a2 : Nat) (s : State) :
    TouchesX 0x4001208 s (execBar2Read a0 a1 a2 s) := by
  unfold execBar2Read
  split
  · refine TouchesX.next_ ?_
    exact Touches.refl _ _
  · split
    · refine TouchesX.next_ ?_
      exact (State.emit_touches _ _).mono (by decide)
    · split
      · refine TouchesX.next_ ?_
        refine Touches.step (State.emit_touches _ _) (by decide) ?_
        exact (State.hostDrop_touches _ _ _ _ _ _).mono (by decide)
      · split
        · extract_lets x0 x1
          have h2 : Touches 0x4001208 s x0 := by
            unfold x0
            refine Touches.step (State.emit_touches _ _) (by decide) ?_
            exact (State.setFn_touches _ _ _).mono (by decide)
          clear_value x0 x1
          refine TouchesX.next_ ?_
          exact Touches.step (State.logAppend_touches _ _) (by decide) (by assumption)
        · refine TouchesX.next_ ?_
          exact (State.emit_touches _ _).mono (by decide)

theorem execBar2Write_touches (a0 : Sv) (a1 : Nat) (a2 : Blob) (s : State) :
    TouchesX 0x5e00008 s (execBar2Write a0 a1 a2 s) := by
  unfold execBar2Write
  split
  · refine TouchesX.next_ ?_
    exact Touches.refl _ _
  · split
    · refine TouchesX.next_ ?_
      exact (State.emit_touches _ _).mono (by decide)
    · split
      · split
        · refine TouchesX.next_ ?_
          exact (State.tierWrite_touches _ _ _ _).mono (by decide)
        · refine TouchesX.next_ ?_
          exact (State.hostDrop_touches _ _ _ _ _ _).mono (by decide)
      · refine TouchesX.next_ ?_
        exact (State.hostDrop_touches _ _ _ _ _ _).mono (by decide)

theorem execMbxH2fWrite_touches (a0 : Sv) (a1 : Fin 32) (a2 : W64) (s : State) :
    TouchesX 0x4001008 s (execMbxH2fWrite a0 a1 a2 s) := by
  unfold execMbxH2fWrite
  extract_lets x0 x1 x2 x3 x4 x5
  clear_value x0 x1 x2
  have h6 : Touches 0x4001008 s x3 := by
    unfold x3
    refine Touches.step (State.setFld_touches _ _ _ _) (by decide) ?_
    refine Touches.step (State.setFld_touches _ _ _ _) (by decide) ?_
    exact (State.count_touches _ _ _).mono (by decide)
  clear_value x3
  have h7 : Touches 0x4001008 s x4 := by
    unfold x4
    exact Touches.step (State.setFn_touches _ _ _) (by decide) (by assumption)
  clear_value x4
  have h8 : Touches 0x4001008 s x5 := by
    unfold x5
    refine Touches.step (State.setFld_touches _ _ _ _) (by decide) ?_
    exact (State.wr_touches _ _ _).mono (by decide)
  clear_value x5
  split
  · refine TouchesX.next_ ?_
    exact Touches.refl _ _
  · split
    · refine TouchesX.next_ ?_
      exact Touches.step (State.emit_touches _ _) (by decide) (by assumption)
    · refine TouchesX.next_ ?_
      exact Touches.step (State.setFld_touches _ _ _ _) (by decide) (by assumption)

theorem execMbxAck_touches (a0 : Sv) (a1 : Fin 32) (a2 : Nat) (s : State) :
    TouchesX 0x8 s (execMbxAck a0 a1 a2 s) := by
  unfold execMbxAck
  extract_lets x0 x1 x2 x3 x4
  clear_value x0 x1 x2
  have h5 : Touches 0x8 s x3 := by
    unfold x3
    split
    · exact (State.setFld_touches _ _ _ _).mono (by decide)
    · exact Touches.refl _ _
  clear_value x3 x4
  refine TouchesX.next_ ?_
  refine Touches.step (State.setFld_touches _ _ _ _) (by decide) ?_
  exact Touches.step (State.setFld_touches _ _ _ _) (by decide) (by assumption)

theorem execMbxF2hWrite_touches (a0 : Sv) (a1 : Fin 32) (a2 : W64) (s : State) :
    TouchesX 0x4000008 s (execMbxF2hWrite a0 a1 a2 s) := by
  unfold execMbxF2hWrite
  split
  · refine TouchesX.next_ ?_
    exact (State.emit_touches _ _).mono (by decide)
  · refine TouchesX.next_ ?_
    exact (State.f2hPut_touches _ _ _ _).mono (by decide)

theorem State.sendOwed_touches (s : State) (a1 : Nat) :
    Touches 0x1008 s (State.sendOwed s a1) := by
  unfold State.sendOwed
  extract_lets x0 x1
  clear_value x0
  have h2 : Touches 0x1008 s x1 := by
    unfold x1
    exact (State.setFn_touches _ _ _).mono (by decide)
  clear_value x1
  refine Touches.foldl ?_ ?_
  · intro z3 z4
    exact (State.sendReply_touches _ _ _ _).mono (by decide)
  · assumption

theorem execMbxFullRelease_touches (a0 : Sv) (a1 : W64) (s : State) :
    TouchesX 0x1008 s (execMbxFullRelease a0 a1 s) := by
  unfold execMbxFullRelease
  extract_lets x0 x1 x2
  clear_value x0 x1 x2
  split
  · refine TouchesX.next_ ?_
    exact Touches.refl _ _
  · refine TouchesX.next_ ?_
    refine Touches.step (State.sendOwed_touches _ _) (by decide) ?_
    exact (State.setFld_touches _ _ _ _).mono (by decide)

end Sys2Proof.Machine
end

