-- ==== Sys2Proof/Laws/FrameSideband.lean ====
section
/-! SUPPORT. What each operation of Machine/Sideband.lean can touch: its mask, memory's canonical form, the fuses' trust. -/

namespace Sys2Proof.Machine

theorem State.conAccept_touches (s : State) (a1 : Nat) (a2 : Nat) :
    Touches 0x408 s (State.conAccept s a1 a2) := by
  unfold State.conAccept
  split
  · exact (State.count_touches _ _ _).mono (by decide)
  · exact (Touches.set_side s _).mono (by decide)

theorem State.conPrint_touches (s : State) (a1 : Nat) (a2 : Nat) :
    Touches 0x4000408 s (State.conPrint s a1 a2) := by
  unfold State.conPrint
  extract_lets x0 x1
  have h2 : Touches 0x4000408 s x0 := by
    unfold x0
    exact (State.emit_touches _ _).mono (by decide)
  clear_value x0 x1
  split
  · exact Touches.step (State.count_touches _ _ _) (by decide) (by assumption)
  · exact Touches.step (Touches.set_side x0 _) (by decide) (by assumption)

theorem execUartFrameReceive_touches (a0 : Sv) (a1 : BitVec 8) (a2 : BitVec 8) (a3 : BitVec 8) (a4 : Bool) (a5 : StopLine) (s : State) :
    TouchesX 0x408 s (execUartFrameReceive a0 a1 a2 a3 a4 a5 s) := by
  unfold execUartFrameReceive
  extract_lets x0 x1 x2 x3 x4 x5
  clear_value x0 x1 x2 x3
  have h6 : Touches 0x408 s x4 := by
    unfold x4
    split
    · exact Touches.refl _ _
    · exact (State.count_touches _ _ _).mono (by decide)
  clear_value x4
  have h7 : Touches 0x408 s x5 := by
    unfold x5
    split
    · assumption
    · exact Touches.step (State.count_touches _ _ _) (by decide) (by assumption)
  clear_value x5
  split
  · refine TouchesX.next_ ?_
    exact (State.setFld_touches _ _ _ _).mono (by decide)
  · refine TouchesX.next_ ?_
    exact Touches.step (State.conAccept_touches _ _ _) (by decide) (by assumption)

theorem execConTxdWrite_touches (a0 : Sv) (a1 : Sv) (a2 : W64) (s : State) :
    TouchesX 0x408 s (execConTxdWrite a0 a1 a2 s) := by
  unfold execConTxdWrite
  split
  · refine TouchesX.next_ ?_
    exact (State.conAccept_touches _ _ _).mono (by decide)
  · refine TouchesX.next_ ?_
    exact Touches.refl _ _

theorem execConCapRead_touches (a0 : Sv) (a1 : Sv) (s : State) :
    TouchesX 0x4000400 s (execConCapRead a0 a1 s) := by
  unfold execConCapRead
  split
  · refine TouchesX.next_ ?_
    exact Touches.refl _ _
  · split
    · refine TouchesX.next_ ?_
      exact (State.emit_touches _ _).mono (by decide)
    · extract_lets x0 x1
      clear_value x0
      have h2 : Touches 0x4000400 s x1 := by
        unfold x1
        exact (Touches.set_side s _).mono (by decide)
      clear_value x1
      refine TouchesX.next_ ?_
      exact Touches.step (State.emit_touches _ _) (by decide) (by assumption)

theorem State.withSide_touches (s : State) (a1 : SideSt → SideSt) :
    Touches 0x400 s (State.withSide s a1) := by
  unfold State.withSide
  exact (Touches.set_side s _).mono (by decide)

theorem State.i3cAddressed_touches {m : Nat} (s : State) (a1 : State → State) (hm : 0x4000000 ||| m = m)
    (h : ∀ s, Touches m s (a1 s)) : Touches m s (State.i3cAddressed s a1) := by
  unfold State.i3cAddressed
  split
  · exact h s
  · exact (State.emit_touches _ _).mono hm

theorem State.i3cReply_touches (s : State) (a1 : List Nat) :
    Touches 0x4000000 s (State.i3cReply s a1) := by
  unfold State.i3cReply
  exact (State.emit_touches _ _).mono (by decide)

theorem execI3cPrivateWrite_touches (a0 : List (BitVec 8)) (s : State) :
    TouchesX 0x4000400 s (execI3cPrivateWrite a0 s) := by
  unfold execI3cPrivateWrite
  refine TouchesX.next_ ?_
  refine Touches.step (State.i3cAddressed_touches (m := 0x4000400) _ _ (by decide) ?_) (by decide) ?_
  · intro z0
    split
    · exact (State.withSide_touches _ _).mono (by decide)
    · exact Touches.refl _ _
  · exact Touches.refl _ _

theorem execI3cPrivateRead_touches (a0 : Nat) (s : State) :
    TouchesX 0x6000400 s (execI3cPrivateRead a0 s) := by
  unfold execI3cPrivateRead
  refine TouchesX.next_ ?_
  refine Touches.step (State.i3cAddressed_touches (m := 0x6000400) _ _ (by decide) ?_) (by decide) ?_
  · intro z0
    extract_lets x1 x2
    clear_value x1 x2
    split
    · rename_i w3 w4 w5 w6
      have h7 : Touches 0x6000400 z0 w5 := by
        refine Touches2.of w6 ?_
        exact Touches2.step (State.free_touches _) (by decide) (Touches.refl _ _)
      extract_lets x8
      have h9 : Touches 0x6000400 z0 x8 := by
        unfold x8
        exact Touches.step (State.i3cReply_touches _ _) (by decide) (by assumption)
      clear_value x8
      split
      · exact Touches.step (State.withSide_touches _ _) (by decide) (by assumption)
      · assumption
  · exact Touches.refl _ _

theorem execEnec_touches (a0 : Bool) (s : State) :
    TouchesX 0x400 s (execEnec a0 s) := by
  unfold execEnec
  refine TouchesX.next_ ?_
  split
  · exact (State.withSide_touches _ _).mono (by decide)
  · exact Touches.refl _ _

theorem execDisec_touches (a0 : Bool) (s : State) :
    TouchesX 0x400 s (execDisec a0 s) := by
  unfold execDisec
  refine TouchesX.next_ ?_
  split
  · exact (State.withSide_touches _ _).mono (by decide)
  · exact Touches.refl _ _

theorem execRstdaa_touches (s : State) :
    TouchesX 0x400 s (execRstdaa s) := by
  unfold execRstdaa
  refine TouchesX.next_ ?_
  exact (State.withSide_touches _ _).mono (by decide)

theorem execEntdaa_touches (a0 : BitVec 7) (s : State) :
    TouchesX 0x4000400 s (execEntdaa a0 s) := by
  unfold execEntdaa
  split
  · refine TouchesX.next_ ?_
    exact Touches.refl _ _
  · refine TouchesX.next_ ?_
    refine Touches.step (State.withSide_touches _ _) (by decide) ?_
    exact (State.i3cReply_touches _ _).mono (by decide)

theorem execSetdasa_touches (a0 : BitVec 7) (a1 : BitVec 7) (s : State) :
    TouchesX 0x4000400 s (execSetdasa a0 a1 s) := by
  unfold execSetdasa
  split
  · refine TouchesX.next_ ?_
    exact (State.withSide_touches _ _).mono (by decide)
  · refine TouchesX.next_ ?_
    exact (State.emit_touches _ _).mono (by decide)

theorem execSetnewda_touches (a0 : BitVec 7) (s : State) :
    TouchesX 0x4000400 s (execSetnewda a0 s) := by
  unfold execSetnewda
  refine TouchesX.next_ ?_
  refine Touches.step (State.i3cAddressed_touches (m := 0x4000400) _ _ (by decide) ?_) (by decide) ?_
  · intro z0
    exact (State.withSide_touches _ _).mono (by decide)
  · exact Touches.refl _ _

theorem execGetpid_touches (s : State) :
    TouchesX 0x4000000 s (execGetpid s) := by
  unfold execGetpid
  refine TouchesX.next_ ?_
  refine Touches.step (State.i3cAddressed_touches (m := 0x4000000) _ _ (by decide) ?_) (by decide) ?_
  · intro z0
    exact (State.i3cReply_touches _ _).mono (by decide)
  · exact Touches.refl _ _

theorem execGetbcr_touches (s : State) :
    TouchesX 0x4000000 s (execGetbcr s) := by
  unfold execGetbcr
  refine TouchesX.next_ ?_
  refine Touches.step (State.i3cAddressed_touches (m := 0x4000000) _ _ (by decide) ?_) (by decide) ?_
  · intro z0
    exact (State.i3cReply_touches _ _).mono (by decide)
  · exact Touches.refl _ _

theorem execGetdcr_touches (s : State) :
    TouchesX 0x4000000 s (execGetdcr s) := by
  unfold execGetdcr
  refine TouchesX.next_ ?_
  refine Touches.step (State.i3cAddressed_touches (m := 0x4000000) _ _ (by decide) ?_) (by decide) ?_
  · intro z0
    exact (State.i3cReply_touches _ _).mono (by decide)
  · exact Touches.refl _ _

theorem execGetstatus_touches (s : State) :
    TouchesX 0x6000000 s (execGetstatus s) := by
  unfold execGetstatus
  refine TouchesX.next_ ?_
  refine Touches.step (State.i3cAddressed_touches (m := 0x6000000) _ _ (by decide) ?_) (by decide) ?_
  · intro z0
    split
    · rename_i w1 w2 w3 w4
      have h5 : Touches 0x6000000 z0 w3 := by
        refine Touches2.of w4 ?_
        exact Touches2.step (State.free_touches _) (by decide) (Touches.refl _ _)
      exact Touches.step (State.i3cReply_touches _ _) (by decide) (by assumption)
  · exact Touches.refl _ _

theorem execGetmwl_touches (s : State) :
    TouchesX 0x4000000 s (execGetmwl s) := by
  unfold execGetmwl
  refine TouchesX.next_ ?_
  refine Touches.step (State.i3cAddressed_touches (m := 0x4000000) _ _ (by decide) ?_) (by decide) ?_
  · intro z0
    exact (State.i3cReply_touches _ _).mono (by decide)
  · exact Touches.refl _ _

theorem execSetmwl_touches (a0 : BitVec 16) (s : State) :
    TouchesX 0x400 s (execSetmwl a0 s) := by
  unfold execSetmwl
  refine TouchesX.next_ ?_
  exact (State.withSide_touches _ _).mono (by decide)

theorem execGetmrl_touches (s : State) :
    TouchesX 0x4000000 s (execGetmrl s) := by
  unfold execGetmrl
  refine TouchesX.next_ ?_
  refine Touches.step (State.i3cAddressed_touches (m := 0x4000000) _ _ (by decide) ?_) (by decide) ?_
  · intro z0
    exact (State.i3cReply_touches _ _).mono (by decide)
  · exact Touches.refl _ _

theorem execSetmrl_touches (a0 : BitVec 16) (s : State) :
    TouchesX 0x400 s (execSetmrl a0 s) := by
  unfold execSetmrl
  refine TouchesX.next_ ?_
  exact (State.withSide_touches _ _).mono (by decide)

theorem execRstact_touches (a0 : BitVec 8) (s : State) :
    TouchesX 0x4000400 s (execRstact a0 s) := by
  unfold execRstact
  split
  · refine TouchesX.next_ ?_
    exact Touches.refl _ _
  · split
    · extract_lets x0
      clear_value x0
      refine TouchesX.next_ ?_
      exact (State.withSide_touches _ _).mono (by decide)
    · refine TouchesX.next_ ?_
      exact (State.emit_touches _ _).mono (by decide)

theorem State.selectIr_touches (s : State) (a1 : Nat) :
    Touches 0x400 s (State.selectIr s a1) := by
  unfold State.selectIr
  exact (State.withSide_touches _ _).mono (by decide)

theorem execTapReset_touches (s : State) :
    TouchesX 0x400 s (execTapReset s) := by
  unfold execTapReset
  refine TouchesX.next_ ?_
  exact (State.selectIr_touches _ _).mono (by decide)

theorem execIdcode_touches (s : State) :
    TouchesX 0x4000400 s (execIdcode s) := by
  unfold execIdcode
  refine TouchesX.next_ ?_
  refine Touches.step (State.emit_touches _ _) (by decide) ?_
  exact (State.selectIr_touches _ _).mono (by decide)

theorem execSamplePreload_touches (a0 : Nat) (s : State) :
    TouchesX 0x6000400 s (execSamplePreload a0 s) := by
  unfold execSamplePreload
  split
  · rename_i w0 w1 w2 w3
    have h4 : Touches 0x6000400 s w2 := by
      refine Touches2.of w3 ?_
      exact Touches2.step (State.free_touches _) (by decide) (Touches.refl _ _)
    refine TouchesX.next_ ?_
    refine Touches.step (State.withSide_touches _ _) (by decide) ?_
    refine Touches.step (State.emit_touches _ _) (by decide) ?_
    exact Touches.step (State.selectIr_touches _ _) (by decide) (by assumption)

theorem State.underReset_touches {m : Nat} (s : State) (a1 : Nat) (a2 : State → State) (hm : 0x4001608 ||| m = m)
    (h : ∀ s, Touches m s (a2 s)) : Touches m s (State.underReset s a1 a2) := by
  have e : ∀ n, Touches m s (s.selectIr n) := fun n => ((State.selectIr_touches s n).mono (m := 0x4001608) (by decide)).mono hm
  unfold State.underReset
  split
  · exact (h _).step (by simp) (e _)
  · exact ((State.keeperRec_touches _ _ _ _).mono (m := 0x4001608) (by decide)).step hm (e _)

theorem execExtest_touches (a0 : Option (Bool × Nat × Blob)) (s : State) :
    TouchesX 0x4001608 s (execExtest a0 s) := by
  unfold execExtest
  refine TouchesX.next_ ?_
  refine Touches.step (State.underReset_touches (m := 0x4001608) _ _ _ (by decide) ?_) (by decide) ?_
  · intro z0
    split
    · split
      · exact (State.flashPut_touches _ _ _ _).mono (by decide)
      · exact Touches.refl _ _
    · exact Touches.refl _ _
  · exact Touches.refl _ _

theorem execClamp_touches (s : State) :
    TouchesX 0x4001608 s (execClamp s) := by
  unfold execClamp
  refine TouchesX.next_ ?_
  refine Touches.step (State.underReset_touches (m := 0x4001608) _ _ _ (by decide) ?_) (by decide) ?_
  · intro z0
    exact Touches.refl _ _
  · exact Touches.refl _ _

theorem execHighz_touches (s : State) :
    TouchesX 0x4001608 s (execHighz s) := by
  unfold execHighz
  refine TouchesX.next_ ?_
  refine Touches.step (State.underReset_touches (m := 0x4001608) _ _ _ (by decide) ?_) (by decide) ?_
  · intro z0
    exact Touches.refl _ _
  · exact Touches.refl _ _

theorem execIjtag_touches (a0 : Nat) (s : State) :
    TouchesX 0x4000400 s (execIjtag a0 s) := by
  unfold execIjtag
  extract_lets x0
  have h1 : Touches 0x4000400 s x0 := by
    unfold x0
    refine Touches.step (State.emit_touches _ _) (by decide) ?_
    exact (State.selectIr_touches _ _).mono (by decide)
  clear_value x0
  refine TouchesX.next_ ?_
  split
  · exact Touches.step (State.withSide_touches _ _) (by decide) (by assumption)
  · assumption

theorem execBypass_touches (a0 : Nat) (s : State) :
    TouchesX 0x400 s (execBypass a0 s) := by
  unfold execBypass
  refine TouchesX.next_ ?_
  exact (State.selectIr_touches _ _).mono (by decide)

end Sys2Proof.Machine
end

