-- ==== Sys2Proof/Laws/FrameRegisters.lean ====
section
/-! SUPPORT. What each operation of Machine/Registers.lean can touch: its mask, memory's canonical form, the fuses' trust. -/

namespace Sys2Proof.Machine

theorem State.badRead_touches (s : State) (a1 : Nat) (a2 : Nat) (a3 : Nat) :
    Touches 0x4000008 s (State.badRead s a1 a2 a3) := by
  unfold State.badRead
  refine Touches.step (State.emit_touches _ _) (by decide) ?_
  exact (State.hostDrop_touches _ _ _ _ _ _).mono (by decide)

theorem State.clearRc_touches (s : State) (a1 : Nat) (a2 : Nat) :
    Touches 0x8 s (State.clearRc s a1 a2) := by
  unfold State.clearRc
  split
  · exact Touches.refl _ _
  · extract_lets x0
    clear_value x0
    refine Touches.foldl ?_ ?_
    · intro z1 z2
      exact (State.setFld_touches _ _ _ _).mono (by decide)
    · exact Touches.refl _ _

theorem State.goodRead_touches (s : State) (a1 : Nat) (a2 : Nat) :
    Touches 0x41c0008 s (State.goodRead s a1 a2) := by
  unfold State.goodRead
  extract_lets x0
  have h1 : Touches 0x41c0008 s x0 := by
    unfold x0
    split
    · split
      · exact (State.chargeGrant_touches _ _).mono (by decide)
      · exact Touches.refl _ _
    · exact Touches.refl _ _
  clear_value x0
  refine Touches.step (State.clearRc_touches _ _ _) (by decide) ?_
  exact Touches.step (State.emit_touches _ _) (by decide) (by assumption)

theorem execRcRead_touches (a0 : Sv) (a1 : Nat) (s : State) :
    TouchesX 0x41c0408 s (execRcRead a0 a1 s) := by
  unfold execRcRead
  extract_lets x0
  clear_value x0
  split
  · refine TouchesX.next_ ?_
    exact Touches.refl _ _
  · split
    · refine TouchesX.next_ ?_
      exact (State.badRead_touches _ _ _ _).mono (by decide)
    · split
      · exact TouchesX.step (execConCapRead_touches _ _ _) (by decide) (Touches.refl _ _)
      · split
        · exact TouchesX.step (execConCapRead_touches _ _ _) (by decide) (Touches.refl _ _)
        · refine TouchesX.next_ ?_
          exact (State.goodRead_touches _ _ _).mono (by decide)

theorem execBar0BadRead_touches (a0 : Sv) (a1 : Nat) (a2 : Nat) (a3 : Bool) (s : State) :
    TouchesX 0x61c0408 s (execBar0BadRead a0 a1 a2 a3 s) := by
  unfold execBar0BadRead
  extract_lets x0 x1 x2
  clear_value x0 x1 x2
  split
  · refine TouchesX.next_ ?_
    exact Touches.refl _ _
  · split
    · split
      · rename_i w3 w4 w5 w6
        have h7 : Touches 0x61c0408 s w5 := by
          refine Touches2.of w6 ?_
          exact Touches2.step (State.free_touches _) (by decide) (Touches.refl _ _)
        refine TouchesX.next_ ?_
        exact Touches.step (State.emit_touches _ _) (by decide) (by assumption)
    · split
      · refine TouchesX.next_ ?_
        exact (State.badRead_touches _ _ _ _).mono (by decide)
      · split
        · refine TouchesX.next_ ?_
          exact (State.badRead_touches _ _ _ _).mono (by decide)
        · split
          · exact TouchesX.step (execRcRead_touches _ _ _) (by decide) (Touches.refl _ _)
          · refine TouchesX.next_ ?_
            exact (State.emit_touches _ _).mono (by decide)

theorem afterCmd_touches {m : Nat} (a0 : Host.Outcome State Fault Refusal) (s : State) (h : TouchesX m s a0) :
    Touches m s (afterCmd a0 s) := by
  unfold afterCmd
  split
  · exact h _ rfl
  · exact Touches.refl _ _

theorem State.writeFlds_touches (s : State) (a1 : Nat) (a2 : List Fld) (a3 : W64) :
    Touches 0x8 s (State.writeFlds s a1 a2 a3) := by
  unfold State.writeFlds
  refine Touches.foldl ?_ ?_
  · intro z0 z1
    split
    · exact (State.setFld_touches _ _ _ _).mono (by decide)
    · exact (State.setFld_touches _ _ _ _).mono (by decide)
    · exact (State.setFld_touches _ _ _ _).mono (by decide)
    · exact Touches.refl _ _
  · exact Touches.refl _ _

theorem State.storeFlds_touches (s : State) (a1 : Nat) (a2 : List Fld) (a3 : W64) :
    Touches 0x8 s (State.storeFlds s a1 a2 a3) := by
  unfold State.storeFlds
  refine Touches.foldl ?_ ?_
  · intro z0 z1
    exact (State.setFld_touches _ _ _ _).mono (by decide)
  · exact Touches.refl _ _

theorem State.writePtd_touches (s : State) (a1 : Writer) (a2 : Nat) (a3 : Nat) (a4 : RegDesc) (a5 : W64) :
    Touches 0x4bfe608 s (State.writePtd s a1 a2 a3 a4 a5) := by
  unfold State.writePtd
  extract_lets x0 x1 x2 x3 x4 x5 x6 x7 x8 x9 x10
  clear_value x0 x1 x2 x3 x4
  have h11 : Touches 0x4bfe608 s x5 := by
    unfold x5
    exact (State.writeFlds_touches _ _ _ _).mono (by decide)
  clear_value x5 x6 x7
  have h12 : Touches 0x4bfe608 s x8 := by
    unfold x8
    split
    · assumption
    · refine Touches.step (afterCmd_touches (m := 0x4bfe608) _ _ ?_) (by decide) ?_
      · exact TouchesX.step (execAdminDownWrite_touches _ _ _ _) (by decide) (Touches.refl _ _)
      · assumption
  clear_value x8
  have h13 : Touches 0x4bfe608 s x9 := by
    unfold x9
    exact (State.writeFlds_touches _ _ _ _).mono (by decide)
  clear_value x9 x10
  split
  · split
    · refine Touches.step (afterCmd_touches (m := 0x4bfe608) _ _ ?_) (by decide) ?_
      · exact TouchesX.step (execTxEnable_touches _ _ _ _) (by decide) (Touches.refl _ _)
      · exact Touches.refl _ _
    · refine Touches.step (afterCmd_touches (m := 0x4bfe608) _ _ ?_) (by decide) ?_
      · exact TouchesX.step (execTxIdle_touches _ _ _ _) (by decide) (Touches.refl _ _)
      · exact Touches.refl _ _
    · refine Touches.step (afterCmd_touches (m := 0x4bfe608) _ _ ?_) (by decide) ?_
      · exact TouchesX.step (execPrbs31_touches _ _ _ _) (by decide) (Touches.refl _ _)
      · exact Touches.refl _ _
    · refine Touches.step (afterCmd_touches (m := 0x4bfe608) _ _ ?_) (by decide) ?_
      · exact TouchesX.step (execRelock_touches _ _ _ _) (by decide) (Touches.refl _ _)
      · exact Touches.refl _ _
    · exact (State.setFld_touches _ _ _ _).mono (by decide)
  · split
    · split
      · exact Touches.refl _ _
      · split
        · refine Touches.step (afterCmd_touches (m := 0x4bfe608) _ _ ?_) (by decide) ?_
          · exact TouchesX.step (execRetrain_touches _ _ _) (by decide) (Touches.refl _ _)
          · assumption
        · refine Touches.step (afterCmd_touches (m := 0x4bfe608) _ _ ?_) (by decide) ?_
          · exact TouchesX.step (execUprate_touches _ _ _) (by decide) (Touches.refl _ _)
          · assumption
        · refine Touches.step (afterCmd_touches (m := 0x4bfe608) _ _ ?_) (by decide) ?_
          · exact TouchesX.step (execRestoreWidth_touches _ _ _) (by decide) (Touches.refl _ _)
          · assumption
        · refine Touches.step (afterCmd_touches (m := 0x4bfe608) _ _ ?_) (by decide) ?_
          · exact TouchesX.step (execPortRestart_touches _ _ _) (by decide) (Touches.refl _ _)
          · assumption
        · exact Touches.step (State.setFld_touches _ _ _ _) (by decide) (by assumption)
    · split
      · split
        · refine Touches.step (afterCmd_touches (m := 0x4bfe608) _ _ ?_) (by decide) ?_
          · exact TouchesX.step (execTake_touches _ _ _ _ _) (by decide) (Touches.refl _ _)
          · assumption
        · refine Touches.step (afterCmd_touches (m := 0x4bfe608) _ _ ?_) (by decide) ?_
          · exact TouchesX.step (execSpareRelease_touches _ _ _ _) (by decide) (Touches.refl _ _)
          · assumption
        · exact Touches.step (State.setFld_touches _ _ _ _) (by decide) (by assumption)
      · split
        · refine Touches.step (afterCmd_touches (m := 0x4bfe608) _ _ ?_) (by decide) ?_
          · exact TouchesX.step (execPolicerProfileWrite_touches _ _ _ _ _ _) (by decide) (Touches.refl _ _)
          · exact Touches.refl _ _
        · split
          · refine Touches.step (afterCmd_touches (m := 0x4bfe608) _ _ ?_) (by decide) ?_
            · exact TouchesX.step (execPolicerProfileWrite_touches _ _ _ _ _ _) (by decide) (Touches.refl _ _)
            · exact Touches.refl _ _
          · split
            · refine Touches.step (afterCmd_touches (m := 0x4bfe608) _ _ ?_) (by decide) ?_
              · exact TouchesX.step (execPolicerBindWrite_touches _ _ _ _ _) (by decide) (Touches.refl _ _)
              · exact Touches.refl _ _
            · split
              · exact Touches.refl _ _
              · exact (State.writeFlds_touches _ _ _ _).mono (by decide)

theorem State.writeLtd_touches (s : State) (a1 : Writer) (a2 : Nat) (a3 : Nat) (a4 : RegDesc) (a5 : W64) :
    Touches 0x7bc2648 s (State.writeLtd s a1 a2 a3 a4 a5) := by
  unfold State.writeLtd
  extract_lets x0 x1 x2 x3 x4 x5 x6
  clear_value x0 x1 x2 x3 x4 x5 x6
  split
  · split
    · refine Touches.step (afterCmd_touches (m := 0x7bc2648) _ _ ?_) (by decide) ?_
      · exact TouchesX.step (execEvict_touches _ _ _ _) (by decide) (Touches.refl _ _)
      · exact Touches.refl _ _
    · refine Touches.step (afterCmd_touches (m := 0x7bc2648) _ _ ?_) (by decide) ?_
      · exact TouchesX.step (execReside_touches _ _ _ _ _) (by decide) (Touches.refl _ _)
      · exact Touches.refl _ _
    · refine Touches.step (afterCmd_touches (m := 0x7bc2648) _ _ ?_) (by decide) ?_
      · exact TouchesX.step (execMigrate_touches _ _ _ _ _ _) (by decide) (Touches.refl _ _)
      · exact Touches.refl _ _
    · refine Touches.step (afterCmd_touches (m := 0x7bc2648) _ _ ?_) (by decide) ?_
      · exact TouchesX.step (execEngineReset_touches _ _ _) (by decide) (Touches.refl _ _)
      · exact Touches.refl _ _
    · refine Touches.step (afterCmd_touches (m := 0x7bc2648) _ _ ?_) (by decide) ?_
      · exact TouchesX.step (execTakeover_touches _ _ _) (by decide) (Touches.refl _ _)
      · exact Touches.refl _ _
    · exact (State.ltRefuse_touches _ _).mono (by decide)
  · split
    · refine Touches.step (afterCmd_touches (m := 0x7bc2648) _ _ ?_) (by decide) ?_
      · exact TouchesX.step (execLtSlotWrite_touches _ _ _ _ _) (by decide) (Touches.refl _ _)
      · exact Touches.refl _ _
    · split
      · split
        · refine Touches.step (afterCmd_touches (m := 0x7bc2648) _ _ ?_) (by decide) ?_
          · exact TouchesX.step (execCreate_touches _ _ _ _) (by decide) (Touches.refl _ _)
          · exact Touches.refl _ _
        · refine Touches.step (afterCmd_touches (m := 0x7bc2648) _ _ ?_) (by decide) ?_
          · exact TouchesX.step (execStart_touches _ _ _ _ _ _) (by decide) (Touches.refl _ _)
          · exact Touches.refl _ _
        · refine Touches.step (afterCmd_touches (m := 0x7bc2648) _ _ ?_) (by decide) ?_
          · exact TouchesX.step (execStop_touches _ _ _ _) (by decide) (Touches.refl _ _)
          · exact Touches.refl _ _
        · refine Touches.step (afterCmd_touches (m := 0x7bc2648) _ _ ?_) (by decide) ?_
          · exact TouchesX.step (execResume_touches _ _ _ _) (by decide) (Touches.refl _ _)
          · exact Touches.refl _ _
        · refine Touches.step (afterCmd_touches (m := 0x7bc2648) _ _ ?_) (by decide) ?_
          · exact TouchesX.step (execReplay_touches _ _ _ _) (by decide) (Touches.refl _ _)
          · exact Touches.refl _ _
        · refine Touches.step (afterCmd_touches (m := 0x7bc2648) _ _ ?_) (by decide) ?_
          · exact TouchesX.step (execRelease_touches _ _ _ _) (by decide) (Touches.refl _ _)
          · exact Touches.refl _ _
        · refine Touches.step (State.ctxCommand_touches (m := 0x7bc2648) _ _ _ _ _ _ _ (by decide) ?_) (by decide) ?_
          · intro z7
            exact Touches.refl _ _
          · exact Touches.refl _ _
      · exact (State.writeFlds_touches _ _ _ _).mono (by decide)

theorem State.writeBch_touches (s : State) (a1 : Writer) (a2 : Nat) (a3 : Nat) (a4 : RegDesc) (a5 : W64) :
    Touches 0x2008 s (State.writeBch s a1 a2 a3 a4 a5) := by
  unfold State.writeBch
  split
  · split
    · exact Touches.refl _ _
    · extract_lets x0
      have h1 : Touches 0x2008 s x0 := by
        unfold x0
        exact (State.writeFlds_touches _ _ _ _).mono (by decide)
      clear_value x0
      split
      · refine Touches.step (afterCmd_touches (m := 0x2008) _ _ ?_) (by decide) ?_
        · exact TouchesX.step (execReclaim_touches _ _ _ _) (by decide) (Touches.refl _ _)
        · assumption
      · exact Touches.step (State.setFld_touches _ _ _ _) (by decide) (by assumption)
  · split
    · exact Touches.refl _ _
    · exact (State.writeFlds_touches _ _ _ _).mono (by decide)

theorem State.writeSv_touches (s : State) (a1 : Writer) (a2 : Nat) (a3 : RegDesc) (a4 : W64) :
    Touches 0x6a41388 s (State.writeSv s a1 a2 a3 a4) := by
  unfold State.writeSv
  extract_lets x0 x1 x2 x3 x4 x5 x6
  clear_value x0 x1 x2 x3 x4 x5
  have h7 : ∀ y0, Touches 0x6a41388 y0 (x6 y0) := by
    intro y0
    unfold x6
    exact (State.setFld_touches _ _ _ _).mono (by decide)
  clear_value x6
  split
  · split
    · exact Touches.refl _ _
    · split
      · refine Touches.step (afterCmd_touches (m := 0x6a41388) _ _ ?_) (by decide) ?_
        · exact TouchesX.step (execCampaign_touches _ _ _) (by decide) (Touches.refl _ _)
        · exact Touches.refl _ _
      · refine Touches.step (afterCmd_touches (m := 0x6a41388) _ _ ?_) (by decide) ?_
        · exact TouchesX.step (execRenew_touches _ _ _) (by decide) (Touches.refl _ _)
        · exact Touches.refl _ _
      · refine Touches.step (afterCmd_touches (m := 0x6a41388) _ _ ?_) (by decide) ?_
        · exact TouchesX.step (execResign_touches _ _ _) (by decide) (Touches.refl _ _)
        · exact Touches.refl _ _
      · exact (State.setFld_touches _ _ _ _).mono (by decide)
  · refine Touches.step (State.fenced_touches (m := 0x6a41388) _ _ _ _ _ (by decide) ?_) (by decide) ?_
    · intro z8
      split
      · split
        · refine Touches.step (State.imgCheck_touches _) (by decide) ?_
          exact (h7 _).mono (by decide)
        · exact (State.imgArm_touches _ _ _).mono (by decide)
        · refine Touches.step (State.imgCancel_touches _) (by decide) ?_
          exact (h7 _).mono (by decide)
        · refine Touches.step (State.imgDiscard_touches _) (by decide) ?_
          exact (h7 _).mono (by decide)
        · exact (State.imgRefuse_touches _).mono (by decide)
      · split
        · refine Touches.step (afterCmd_touches (m := 0x6a41388) _ _ ?_) (by decide) ?_
          · exact TouchesX.step (execSvJobBaseWrite_touches _ _ _) (by decide) (Touches.refl _ _)
          · exact Touches.refl _ _
        · split
          · split
            · refine Touches.step (afterCmd_touches (m := 0x6a41388) _ _ ?_) (by decide) ?_
              · exact TouchesX.step (execAdmitJob_touches _ _ _) (by decide) (Touches.refl _ _)
              · exact Touches.refl _ _
            · refine Touches.step (afterCmd_touches (m := 0x6a41388) _ _ ?_) (by decide) ?_
              · exact TouchesX.step (execModify_touches _ _ _) (by decide) (Touches.refl _ _)
              · exact Touches.refl _ _
            · refine Touches.step (afterCmd_touches (m := 0x6a41388) _ _ ?_) (by decide) ?_
              · exact TouchesX.step (execRemove_touches _ _ _) (by decide) (Touches.refl _ _)
              · exact Touches.refl _ _
            · refine Touches.step (afterCmd_touches (m := 0x6a41388) _ _ ?_) (by decide) ?_
              · exact TouchesX.step (execJobCancel_touches _ _ _) (by decide) (Touches.refl _ _)
              · exact Touches.refl _ _
            · exact (State.setFld_touches _ _ _ _).mono (by decide)
          · split
            · exact (State.storeFlds_touches _ _ _ _).mono (by decide)
            · split
              · split
                · refine Touches.step (afterCmd_touches (m := 0x6a41388) _ _ ?_) (by decide) ?_
                  · exact TouchesX.step (execErrqPop_touches _ _ _) (by decide) (Touches.refl _ _)
                  · exact Touches.refl _ _
                · exact Touches.refl _ _
              · exact (State.writeFlds_touches _ _ _ _).mono (by decide)
    · exact Touches.refl _ _

theorem State.writeGlb_touches (s : State) (a1 : Writer) (a2 : Nat) (a3 : RegDesc) (a4 : W64) :
    Touches 0x4bef72c s (State.writeGlb s a1 a2 a3 a4) := by
  unfold State.writeGlb
  extract_lets x0 x1 x2 x3
  clear_value x0 x1
  have h4 : Touches 0x4bef72c s x2 := by
    unfold x2
    exact (State.writeFlds_touches _ _ _ _).mono (by decide)
  clear_value x2 x3
  split
  · refine Touches.step (afterCmd_touches (m := 0x4bef72c) _ _ ?_) (by decide) ?_
    · exact TouchesX.step (execPdWrite_touches _ _ _ _) (by decide) (Touches.refl _ _)
    · exact Touches.refl _ _
  · split
    · split
      · refine Touches.step (afterCmd_touches (m := 0x4bef72c) _ _ ?_) (by decide) ?_
        · exact TouchesX.step (execSvRestart_touches _ _ _ _) (by decide) (Touches.refl _ _)
        · assumption
      · refine Touches.step (afterCmd_touches (m := 0x4bef72c) _ _ ?_) (by decide) ?_
        · exact TouchesX.step (execHandover_touches _ _ _ _) (by decide) (Touches.refl _ _)
        · assumption
      · refine Touches.step (afterCmd_touches (m := 0x4bef72c) _ _ ?_) (by decide) ?_
        · exact TouchesX.step (execCancelHandover_touches _ _) (by decide) (Touches.refl _ _)
        · assumption
      · exact Touches.step (State.svRefuse_touches _) (by decide) (by assumption)
    · split
      · split
        · refine Touches.step (afterCmd_touches (m := 0x4bef72c) _ _ ?_) (by decide) ?_
          · exact TouchesX.step (execPartReset_touches _ _ _) (by decide) (Touches.refl _ _)
          · exact Touches.refl _ _
        · refine Touches.step (afterCmd_touches (m := 0x4bef72c) _ _ ?_) (by decide) ?_
          · exact TouchesX.step (execWarmRestart_touches _ _) (by decide) (Touches.refl _ _)
          · exact Touches.refl _ _
        · refine Touches.step (afterCmd_touches (m := 0x4bef72c) _ _ ?_) (by decide) ?_
          · exact TouchesX.step (execPowerCycle_touches _ _) (by decide) (Touches.refl _ _)
          · exact Touches.refl _ _
        · exact (State.setFld_touches _ _ _ _).mono (by decide)
      · split
        · split
          · refine Touches.step (afterCmd_touches (m := 0x4bef72c) _ _ ?_) (by decide) ?_
            · exact TouchesX.step (execBootConfirm_touches _ _) (by decide) (Touches.refl _ _)
            · exact Touches.refl _ _
          · exact Touches.refl _ _
        · split
          · refine Touches.step (afterCmd_touches (m := 0x4bef72c) _ _ ?_) (by decide) ?_
            · exact TouchesX.step (execTbFreqWrite_touches _ _ _) (by decide) (Touches.refl _ _)
            · exact Touches.refl _ _
          · split
            · refine Touches.step (afterCmd_touches (m := 0x4bef72c) _ _ ?_) (by decide) ?_
              · exact TouchesX.step (execTbStepWrite_touches _ _ _) (by decide) (Touches.refl _ _)
              · exact Touches.refl _ _
            · split
              · refine Touches.step (afterCmd_touches (m := 0x4bef72c) _ _ ?_) (by decide) ?_
                · exact TouchesX.step (execTbPtpCtlWrite_touches _ _ _) (by decide) (Touches.refl _ _)
                · exact Touches.refl _ _
              · split
                · split
                  · refine Touches.step (afterCmd_touches (m := 0x4bef72c) _ _ ?_) (by decide) ?_
                    · exact TouchesX.step (execErrqPop_touches _ _ _) (by decide) (Touches.refl _ _)
                    · exact Touches.refl _ _
                  · exact Touches.refl _ _
                · split
                  · exact Touches.refl _ _
                  · exact (State.writeFlds_touches _ _ _ _).mono (by decide)

theorem State.writeDie_touches (s : State) (a1 : Writer) (a2 : Nat) (a3 : Nat) (a4 : RegDesc) (a5 : W64) :
    Touches 0x7bff648 s (State.writeDie s a1 a2 a3 a4 a5) := by
  unfold State.writeDie
  refine Touches.step (State.fenced_touches (m := 0x7bff648) _ _ _ _ _ (by decide) ?_) (by decide) ?_
  · intro z0
    split
    · split
      · refine Touches.step (afterCmd_touches (m := 0x7bff648) _ _ ?_) (by decide) ?_
        · exact TouchesX.step (execErrqPop_touches _ _ _) (by decide) (Touches.refl _ _)
        · exact Touches.refl _ _
      · exact Touches.refl _ _
    · split
      · exact (State.writePtd_touches _ _ _ _ _ _).mono (by decide)
      · split
        · exact (State.writeLtd_touches _ _ _ _ _ _).mono (by decide)
        · split
          · exact (State.writeBch_touches _ _ _ _ _ _).mono (by decide)
          · exact (State.writeFlds_touches _ _ _ _).mono (by decide)
  · exact Touches.refl _ _

theorem State.writeCon_touches (s : State) (a1 : Nat) (a2 : RegDesc) (a3 : W64) :
    Touches 0x8 s (State.writeCon s a1 a2 a3) := by
  unfold State.writeCon
  extract_lets x0
  clear_value x0
  exact (State.writeFlds_touches _ _ _ _).mono (by decide)

theorem State.hostLocal_touches (s : State) (a1 : Sv) (a2 : Nat) (a3 : RegDesc) (a4 : W64) :
    Touches 0x4001408 s (State.hostLocal s a1 a2 a3 a4) := by
  unfold State.hostLocal
  extract_lets x0
  clear_value x0
  split
  · refine Touches.step (afterCmd_touches (m := 0x4001408) _ _ ?_) (by decide) ?_
    · exact TouchesX.step (execHcfDataWrite_touches _ _ _ _) (by decide) (Touches.refl _ _)
    · exact Touches.refl _ _
  · split
    · refine Touches.step (afterCmd_touches (m := 0x4001408) _ _ ?_) (by decide) ?_
      · exact TouchesX.step (execHcfDataEndWrite_touches _ _ _ _) (by decide) (Touches.refl _ _)
      · exact Touches.refl _ _
    · split
      · split
        · refine Touches.step (afterCmd_touches (m := 0x4001408) _ _ ?_) (by decide) ?_
          · exact TouchesX.step (execFlush_touches _ _) (by decide) (Touches.refl _ _)
          · exact Touches.refl _ _
        · exact Touches.refl _ _
      · split
        · refine Touches.step (afterCmd_touches (m := 0x4001408) _ _ ?_) (by decide) ?_
          · exact TouchesX.step (execMbxH2fWrite_touches _ _ _ _) (by decide) (Touches.refl _ _)
          · exact Touches.refl _ _
        · split
          · refine Touches.step (afterCmd_touches (m := 0x4001408) _ _ ?_) (by decide) ?_
            · exact TouchesX.step (execMbxFullRelease_touches _ _ _) (by decide) (Touches.refl _ _)
            · exact Touches.refl _ _
          · split
            · exact (State.writeCon_touches _ _ _ _).mono (by decide)
            · split
              · refine Touches.step (afterCmd_touches (m := 0x4001408) _ _ ?_) (by decide) ?_
                · exact TouchesX.step (execConTxdWrite_touches _ _ _ _) (by decide) (Touches.refl _ _)
                · exact Touches.refl _ _
              · exact (State.writeFlds_touches _ _ _ _).mono (by decide)

theorem State.fwLocal_touches (s : State) (a1 : Writer) (a2 : Sv) (a3 : Nat) (a4 : RegDesc) (a5 : W64) :
    Touches 0x4000408 s (State.fwLocal s a1 a2 a3 a4 a5) := by
  unfold State.fwLocal
  extract_lets x0
  clear_value x0
  split
  · refine Touches.step (State.fenced_touches (m := 0x4000408) _ _ _ _ _ (by decide) ?_) (by decide) ?_
    · intro z1
      exact (State.storeFlds_touches _ _ _ _).mono (by decide)
    · exact Touches.refl _ _
  · split
    · refine Touches.step (afterCmd_touches (m := 0x4000408) _ _ ?_) (by decide) ?_
      · exact TouchesX.step (execMbxF2hWrite_touches _ _ _ _) (by decide) (Touches.refl _ _)
      · exact Touches.refl _ _
    · split
      · refine Touches.step (afterCmd_touches (m := 0x4000408) _ _ ?_) (by decide) ?_
        · exact TouchesX.step (execMbxAck_touches _ _ _ _) (by decide) (Touches.refl _ _)
        · exact Touches.refl _ _
      · split
        · exact (State.writeCon_touches _ _ _ _).mono (by decide)
        · split
          · exact (State.conPrint_touches _ _ _).mono (by decide)
          · exact (State.writeFlds_touches _ _ _ _).mono (by decide)

theorem State.msixWrite_touches (s : State) (a1 : Nat) (a2 : Nat) (a3 : Nat) (a4 : W64) :
    Touches 0x4001000 s (State.msixWrite s a1 a2 a3 a4) := by
  unfold State.msixWrite
  extract_lets x0 x1 x2
  clear_value x0
  have h3 : ∀ y0 y1 y2, Touches 0x4001000 y0 (x1 y0 y1 y2) := by
    intro y0 y1 y2
    unfold x1
    extract_lets x4 x5
    clear_value x4 x5
    split
    · exact Touches.refl _ _
    · exact (Touches.set_host y0 _).mono (by decide)
  clear_value x1
  have h6 : Touches 0x4001000 s x2 := by
    unfold x2
    split
    · exact Touches.refl _ _
    · split
      · exact (h3 _ _ _).mono (by decide)
      · split
        · refine Touches.step (h3 _ _ _) (by decide) ?_
          exact (h3 _ _ _).mono (by decide)
        · exact Touches.refl _ _
  clear_value x2
  refine Touches.foldl ?_ ?_
  · intro z7 z8
    extract_lets x9 x10
    clear_value x9 x10
    split
    · refine Touches.step (State.msix_touches _ _ _) (by decide) ?_
      exact (Touches.set_host z7 _).mono (by decide)
    · exact Touches.refl _ _
  · assumption

theorem State.hostWrite_touches (s : State) (a1 : Sv) (a2 : Nat) (a3 : Nat) (a4 : W64) :
    Touches 0x4bef72c s (State.hostWrite s a1 a2 a3 a4) := by
  unfold State.hostWrite
  extract_lets x0 x1
  clear_value x0
  have h2 : Touches 0x4bef72c s x1 := by
    unfold x1
    exact (State.hostDrop_touches _ _ _ _ _ _).mono (by decide)
  clear_value x1
  split
  · exact Touches.refl _ _
  · split
    · exact (State.msixWrite_touches _ _ _ _ _).mono (by decide)
    · split
      · exact (State.hostDrop_touches _ _ _ _ _ _).mono (by decide)
      · split
        · assumption
        · split
          · refine Touches.step (State.fenced_touches (m := 0x4bef72c) _ _ _ _ _ (by decide) ?_) (by decide) ?_
            · intro z3
              exact (State.writeGlb_touches _ _ _ _ _).mono (by decide)
            · exact Touches.refl _ _
          · split
            · assumption
            · exact (State.hostLocal_touches _ _ _ _ _).mono (by decide)
          · exact (State.hostLocal_touches _ _ _ _ _).mono (by decide)
          · exact (State.hostLocal_touches _ _ _ _ _).mono (by decide)
          · exact (State.hostLocal_touches _ _ _ _ _).mono (by decide)
          · assumption

theorem State.fwWrite_touches (s : State) (a1 : Writer) (a2 : Sv) (a3 : Nat) (a4 : Nat) (a5 : W64) :
    Touches 0x7bff7ec s (State.fwWrite s a1 a2 a3 a4 a5) := by
  unfold State.fwWrite
  split
  · exact Touches.refl _ _
  · split
    · exact Touches.refl _ _
    · split
      · refine Touches.step (State.fenced_touches (m := 0x7bff7ec) _ _ _ _ _ (by decide) ?_) (by decide) ?_
        · intro z0
          exact (State.writeGlb_touches _ _ _ _ _).mono (by decide)
        · exact Touches.refl _ _
      · refine Touches.step (State.fenced_touches (m := 0x7bff7ec) _ _ _ _ _ (by decide) ?_) (by decide) ?_
        · intro z1
          exact (State.writeGlb_touches _ _ _ _ _).mono (by decide)
        · exact Touches.refl _ _
      · refine Touches.step (State.fenced_touches (m := 0x7bff7ec) _ _ _ _ _ (by decide) ?_) (by decide) ?_
        · intro z2
          exact (State.writeGlb_touches _ _ _ _ _).mono (by decide)
        · exact Touches.refl _ _
      · exact (State.writeSv_touches _ _ _ _ _).mono (by decide)
      · exact (State.fwLocal_touches _ _ _ _ _ _).mono (by decide)
      · exact (State.fwLocal_touches _ _ _ _ _ _).mono (by decide)
      · exact (State.fwLocal_touches _ _ _ _ _ _).mono (by decide)
      · exact (State.fwLocal_touches _ _ _ _ _ _).mono (by decide)
      · split
        · exact (State.writeDie_touches _ _ _ _ _ _).mono (by decide)
        · exact Touches.refl _ _

theorem execRegisterWrite_touches (a0 : Writer) (a1 : Nat) (a2 : Nat) (a3 : W64) (s : State) :
    TouchesX 0x7bff7ec s (execRegisterWrite a0 a1 a2 a3 s) := by
  unfold execRegisterWrite
  split
  · refine TouchesX.next_ ?_
    exact (State.hostWrite_touches _ _ _ _ _).mono (by decide)
  · refine TouchesX.next_ ?_
    exact (State.fwWrite_touches _ _ _ _ _ _).mono (by decide)

end Sys2Proof.Machine
end

