-- ==== Sys2Proof/Laws/FrameStep.lean ====
section
/-! SUPPORT. What each operation of Machine/Step.lean can touch: its mask, memory's canonical form, the fuses' trust. -/

namespace Sys2Proof.Machine

theorem State.withFetchWord_touches (s : State) (a1 : Nat) (a2 : Nat) :
    Touches 0x8000000 s (State.withFetchWord s a1 a2) := by
  unfold State.withFetchWord
  split
  · exact (Touches.set_pending s _).mono (by decide)
  · exact Touches.refl _ _

end Sys2Proof.Machine
end

