-- ==== Sys2Proof/Laws/Reach.lean ====
section
/-! SUPPORT. From masks to pieces: what an operation's mask does not name is the same piece of the state. -/

namespace Sys2Proof.Machine

/-- The place of a piece among the fields of State. -/
def Piece.bit : Piece → Nat
  | .fuses => 0 | .pins => 1 | .tb => 2 | .regs => 3 | .dies => 4 | .pdPend => 5 | .wakes => 6 | .img => 7 | .sup => 8 | .err => 9
  | .side => 10 | .boot => 11 | .host => 12 | .bench => 13 | .ports => 14 | .lanes => 15 | .spares => 16 | .head => 17 | .jobs => 18
  | .ctxs => 19 | .lathes => 20 | .near => 21 | .far => 22 | .nearBurr => 23 | .farBurr => 24 | .freeCtr => 25 | .outs => 26
  | .pending => 27

theorem Piece.same_of_sameAt {s t : State} (p : Piece) (h : s.sameAt t p.bit) : p.same s t := by
  cases p <;> exact h

theorem Touches.same_piece {m : Nat} {s t : State} (h : Touches m s t) {p : Piece} (hp : m.testBit p.bit = false) : p.same s t :=
  p.same_of_sameAt (h.same _ hp)

theorem Touches.keeps {m : Nat} {s t : State} {l : List Piece} (h : Touches m s t) (hl : ∀ p, p ∉ l → m.testBit p.bit = false) :
    s.keeps t l := fun p hp => h.same_piece (hl p hp)

end Sys2Proof.Machine
end

