-- ==== Sys2Proof/WellFormed.lean ====
section
/-! DEFINITION. Which commands are well formed: every operand within the field that carries it. The meanings are total, so that an
ill-formed command has one as well; this says which commands the part can be sent. -/

namespace Sys2Proof

/-- A string of bytes has no bits beyond its length. -/
def Blob.wf (b : Blob) : Bool := decide (b.val < 2 ^ (8 * b.len))

/-- A writer's term has 32 bits (R364). -/
def Writer.wf : Writer → Bool
  | .fw _ (some t) => decide (t < 2 ^ 32)
  | .fw _ none => true
  | .host _ => true

/-- The fields of a capability word (R103). -/
def CapWord.wf (w : CapWord) : Bool :=
  decide (w.version < 256) && decide (w.width ≤ 8) && decide (w.lanes < 256) && decide (w.window < 4096) && decide (w.credits.length = 8)
    && decide (w.identity < 2 ^ 64)

/-- The fields of a spindle transfer (R174, R331): a partition, a source die, a class, an input, bridges, and data as long as it says. -/
def Xfer.wf (x : Xfer) : Bool :=
  decide (x.part < 16) && decide (x.src < 100) && decide (x.tc < 8) && decide (x.input < 8)
    && x.hops.all (fun h => decide (h.bridge < 12)) && match x.op with
    | .write tier _ data => decide (tier < 2) && data.wf
    | .ctxWrite ctx _ data => decide (ctx < 16384) && data.wf
    | .read tier _ len => decide (tier < 2) && decide (1 ≤ len)
    | _ => true

/-- A PTP message of the opcode of R128, of at least its common header, in a frame or packet that carries it (R88). -/
def PtpForm.wf (hdr : BitVec 256) : PtpForm → Bool
  | .ctl _ => decide (hdr.toNat < 2 ^ 128) && decide (bitsOf hdr.toNat 56 8 = 0x41)
  | .data _ _ => decide (bitsOf hdr.toNat 134 8 = 0x41)
  | .ether frame => frame.wf && decide (64 ≤ frame.len)
  | .sent message => message.wf && decide (0 < message.len) && decide (message.len ≤ 256)

/-- A well-formed command. -/
def Instr.wf : Instr → Bool
  | .coldRstNRelease => true
  | .coldRstNAssert widthNs => 0 < widthNs
  | .perstAssert _ _ widthNs => 0 < widthNs
  | .functionLevelReset _ => true
  | .vinPkgLow _ => true
  | .vinPkgRecover _ => true
  | .vinPkgDip _ _ => true
  | .vinPkgHigh _ _ => true
  | .powerFault _ _ => true
  | .vaux1v8Drop _ _ _ => true
  | .referenceLost => true
  | .referenceRecovered => true
  | .timebaseSourceFail => true
  | .thermalSample readings => readings.all (fun r => decide (r.2.length = sensorsOf r.1.val))
  | .limitVoltageStep _ => true
  | .dutyStep _ => true
  | .thermalTrip _ => true
  | .tripHoldEnd => true
  | .turnBoundary => true
  | .internalAlignmentDone => true
  | .skewMeasure _ => true
  | .heartbeatMiss _ missed => 0 < missed
  | .dieFailed _ => true
  | .tbFreqWrite w _ => w.wf
  | .tbStepWrite w _ => w.wf
  | .tbPtpCtlWrite w _ => w.wf
  | .ptpMessage _ form hdr _ => form.wf hdr
  | .imageDmaLoad imageLen data => decide (imageLen ≤ 2 ^ 28) && data.wf
  | .check w => w.wf
  | .checkComplete => true
  | .arm w target => w.wf && decide (target < 2 ^ 32)
  | .cancel w => w.wf
  | .discard w => w.wf
  | .stagingReady _ => true
  | .commit _ term => decide (term < 2 ^ 32)
  | .retireReport _ => true
  | .retireTimeout => true
  | .pdWrite w _ _ => w.wf
  | .wakeGroupStart => true
  | .domainWakeReady _ _ => true
  | .wakeTimeout _ => true
  | .domainDrainComplete _ => true
  | .lossOfSignal _ => true
  | .signalDetect _ => true
  | .trainingComplete _ _ => true
  | .warmTrainingTimeout _ => true
  | .trainingBackoffExpiry _ => true
  | .capabilityWord _ heard => heard.word.wf
  | .capabilityResendTimeout _ => true
  | .linkFrameReceive _ number _ => decide (number < 4096)
  | .ackReceive _ number => decide (number < 4096)
  | .nakReceive _ lastGood => decide (lastGood < 4096)
  | .creditReturn _ _ _ => true
  | .retrainLimitExpiry _ => true
  | .pcsAlignmentLoss _ _ => true
  | .holddownExpiry _ => true
  | .faultRetryExpiry _ => true
  | .laneFail _ _ _ => true
  | .peerChangeRequest _ width _ lanes => decide (width ≤ 8) && decide (lanes < 256)
  | .spareTrainingDone _ _ _ => true
  | .synthLock _ _ => true
  | .synthLockTimeout _ _ => true
  | .txEnable w _ _ => w.wf
  | .txIdle w _ _ => w.wf
  | .prbs31 w _ _ => w.wf
  | .relock w _ _ => w.wf
  | .retrain w _ => w.wf
  | .uprate w _ => w.wf
  | .restoreWidth w _ => w.wf
  | .portRestart w _ => w.wf
  | .adminDownWrite w _ _ => w.wf
  | .take w _ _ _ => w.wf
  | .spareRelease w _ _ => w.wf
  | .packetIngress _ _ _ _ => true
  | .rankLookupReturn _ _ _ => true
  | .grainIngress _ _ _ _ _ => true
  | .ethernetFrameIngress _ etherType _ frame => decide (etherType < 2 ^ 16) && frame.wf
  | .egressSchedule _ => true
  | .tc7Insertion _ => true
  | .gateEntryAdvance _ => true
  | .reorderArrival _ _ => true
  | .reorderTimeout _ _ => true
  | .reorderSlotFree _ _ => true
  | .spindleTransferReceive _ waiting => waiting ≠ [] && waiting.all Xfer.wf
  | .grainAlloc _ _ epoch count => decide (epoch < 16) && decide (0 < count)
  | .allocWaitGranted _ => true
  | .grainReturn _ _ epoch pointer => decide (epoch < 16) && decide (pointer < 2 ^ 31)
  | .poolLevelSum => true
  | .reclaim w _ _ => w.wf
  | .reclaimComplete _ _ => true
  | .retrainAgeScan _ => true
  | .spillWrite _ => true
  | .spillReadback _ => true
  | .archiveSegmentCopy _ => true
  | .policerProfileWrite w _ _ _ _ => w.wf
  | .policerBindWrite w _ _ _ => w.wf
  | .bundleExecute _ _ => true
  | .grainBoundary _ => true
  | .arrivalNotice _ => true
  | .windowOperandArrive _ => true
  | .watchdogBite _ => true
  | .pipelineDrainTimeout _ => true
  | .pacedReleaseTick _ => true
  | .ltSlotWrite w _ _ _ => w.wf
  | .evict w _ _ => w.wf
  | .reside w _ _ _ => w.wf
  | .migrate w _ _ _ _ => w.wf
  | .contextSaveComplete _ => true
  | .contextRestoreComplete _ => true
  | .engineReset _ _ => true
  | .engineResetBoundaryTimeout _ => true
  | .selfTestComplete _ _ => true
  | .quadEngineReset _ _ _ => true
  | .takeover w _ => w.wf
  | .create w _ _ => w.wf
  | .start w _ _ _ _ => w.wf
  | .programLoadComplete _ => true
  | .stop w _ _ => w.wf
  | .resume w _ _ => w.wf
  | .replay w _ _ => w.wf
  | .release w _ _ => w.wf
  | .collectiveArrival _ => true
  | .query _ rank call => decide (rank < 2 ^ 20) && decide (call < 2 ^ 32)
  | .arrive _ rank call => decide (rank < 2 ^ 20) && decide (call < 2 ^ 32)
  | .vote _ rank call _ => decide (rank < 2 ^ 20) && decide (call < 2 ^ 32)
  | .parentCompleteNotice _ call status nflags _ _ => decide (call < 2 ^ 32) && decide (status < 256) && decide (nflags < 256)
  | .narrowNotice _ _ call format => decide (call < 2 ^ 32) && decide (format < 256)
  | .partialArrival _ _ => true
  | .callTimeout _ => true
  | .admitJob w _ => w.wf
  | .modify w _ => w.wf
  | .remove w _ => w.wf
  | .jobCancel w _ => w.wf
  | .jobChecksComplete => true
  | .svJobBaseWrite w _ => w.wf
  | .jobDrainEnd _ => true
  | .registerWrite w off size _ => w.wf && decide (off < 2 ^ 26) && decide (1 ≤ size) && decide (size ≤ 8)
  | .bar0BadRead _ off size _ => decide (off < 2 ^ 26) && decide (1 ≤ size)
  | .rcRead _ off => decide (off < 2 ^ 26)
  | .bar2Read _ off len => decide (off < 2 ^ 30) && decide (1 ≤ len)
  | .bar2Write _ off data => decide (off < 2 ^ 30) && decide (1 ≤ data.len) && data.wf
  | .dmaCompletion _ data => data.wf
  | .dmaReadTimeout _ _ => true
  | .bmeClear _ _ _ => true
  | .dmaChannelDone _ => true
  | .hcfDataWrite _ _ _ => true
  | .hcfDataEndWrite _ _ _ => true
  | .flush _ => true
  | .hcfTake _ => true
  | .imageLoad _ => true
  | .imageCheck _ => true
  | .imageArm _ => true
  | .imageCancel _ => true
  | .imageDiscard _ => true
  | .window _ => true
  | .dumpFetch _ => true
  | .override _ => true
  | .flashWrite _ => true
  | .eventRead _ => true
  | .mbxH2fWrite _ _ _ => true
  | .mbxAck _ _ code => decide (code < 2 ^ 16)
  | .mbxF2hWrite _ _ _ => true
  | .mbxFullRelease _ _ => true
  | .uartFrameReceive _ _ _ _ _ _ => true
  | .conTxdWrite _ _ _ => true
  | .conCapRead _ _ => true
  | .i3cPrivateWrite _ => true
  | .i3cPrivateRead _ => true
  | .enec _ => true
  | .disec _ => true
  | .rstdaa => true
  | .entdaa _ => true
  | .setdasa _ _ => true
  | .setnewda _ => true
  | .getpid => true
  | .getbcr => true
  | .getdcr => true
  | .getstatus => true
  | .getmwl => true
  | .setmwl _ => true
  | .getmrl => true
  | .setmrl _ => true
  | .rstact _ => true
  | .tapReset => true
  | .idcode => true
  | .samplePreload _ => true
  | .extest _ => true
  | .clamp => true
  | .highz => true
  | .ijtag data => decide (data < 2 ^ 64)
  | .bypass code => decide (code < 256) && !([0x01, 0x02, 0x03, 0x04, 0x05, 0x10].contains code)
  | .campaign _ term => decide (term < 2 ^ 32)
  | .renew _ term => decide (term < 2 ^ 32)
  | .resign _ term => decide (term < 2 ^ 32)
  | .handover w sv turn => w.wf && decide (sv < 16) && decide (turn < 2 ^ 32)
  | .cancelHandover w => w.wf
  | .svRestart w sv _ => w.wf && decide (sv < 16)
  | .supervisorReady _ _ => true
  | .termNotice _ _ => true
  | .leaseExpiry => true
  | .campaignBackoffExpiry _ => true
  | .seamCut _ => true
  | .seamHeal => true
  | .errqPop w _ => w.wf
  | .scrub _ _ _ => true
  | .hangDetect _ _ => true
  | .noLeaderTimeout => true
  | .partReset w _ => w.wf
  | .warmRestart w => w.wf
  | .powerCycle w => w.wf
  | .healthUpdate => true
  | .bootConfirm w => w.wf
  | .bootConfirmTimeout => true
  | .nearTierTrained _ => true
  | .farTierTrained _ => true
  | .mainFirmwareLoaded => true
  | .pcieLinkDown _ _ => true
  | .d3hotEntry _ _ => true
  | .childAbortNotice _ call status => decide (call < 2 ^ 32) && decide (status < 256)
  | .resizePauseEnd _ => true
  | .coldTrainingTimeout _ => true
  | .vaux1v8Recover _ => true
  | .bootStageLoaded => true
  | .windowWriteAccepted _ => true
  | .dumpWritten => true

end Sys2Proof
end

