-- ==== Sys2Proof/Tests/Slice0.lean ====
section
/-! SUPPORT. Tests: commands that WellFormed refuses, worked examples of the spec, and for every statement with hypotheses a state and
operands that meet them. -/

namespace Sys2Proof.Machine

-- One proof after another: a proof by the kernel waits for all that stands before it, and each that waits holds a thread.
set_option Elab.async false

/-! ## Ill-formed commands, one for each check -/

/-- A writer whose term has more than 32 bits; one term that fits. -/
def wBad : Writer := .fw 0 (some (2 ^ 32))
/-- A string of one byte with nine bits. -/
def wBlob : Blob := ⟨1, 256⟩
/-- A capability word, and a transfer that reads one byte of the near tier for partition 0, within their fields. -/
def wGood : CapWord := ⟨1, 1, false, false, 1, 1, List.replicate 8 32, 0, none, none, false⟩
def wXfer : Xfer := ⟨0, false, 0, 0, 0, 0, .read 0 0 1, 0, 0, none, []⟩

/-- A term of 33 bits makes every command that firmware sends under a term ill-formed. -/
theorem test_terms_refused :
    ([.tbFreqWrite wBad 0, .tbStepWrite wBad 0, .tbPtpCtlWrite wBad 0, .check wBad, .arm wBad 0, .cancel wBad, .discard wBad,
      .pdWrite wBad 0 0, .txEnable wBad 0 0, .txIdle wBad 0 0, .prbs31 wBad 0 0, .relock wBad 0 0, .retrain wBad 0, .uprate wBad 0,
      .restoreWidth wBad 0, .portRestart wBad 0, .adminDownWrite wBad 0 true, .take wBad 0 0 true, .spareRelease wBad 0 true,
      .reclaim wBad 0 0, .policerProfileWrite wBad 0 0 true 0, .policerBindWrite wBad 0 0 0, .ltSlotWrite wBad 0 0 0, .evict wBad 0 0,
      .reside wBad 0 0 0, .migrate wBad 0 0 0 0, .takeover wBad 0, .create wBad 0 0, .start wBad 0 0 0 0, .stop wBad 0 0,
      .resume wBad 0 0, .replay wBad 0 0, .release wBad 0 0, .admitJob wBad 0, .modify wBad 0, .remove wBad 0, .jobCancel wBad 0,
      .svJobBaseWrite wBad 0, .registerWrite wBad 0 8 0, .handover wBad 0 0, .cancelHandover wBad, .svRestart wBad 0 false,
      .errqPop wBad 0, .partReset wBad 0, .warmRestart wBad, .powerCycle wBad, .bootConfirm wBad] : List Instr).all
        (fun c => !c.wf) = true := by decide

/-- A field beyond its bits, a length of zero, and a string with bits beyond its length. -/
theorem test_fields_refused :
    ([.coldRstNAssert 0, .perstAssert 0 .pin 0, .heartbeatMiss 0 0, .ptpMessage 0 (.ctl 0) 0 true, .ptpMessage 0 (.data 0 0) 0 true,
      .ptpMessage 0 (.ether wBlob) 0 true, .ptpMessage 0 (.ether ⟨63, 0⟩) 0 true, .ptpMessage 0 (.sent Blob.empty) 0 true,
      .ptpMessage 0 (.sent ⟨257, 0⟩) 0 true, .ptpMessage 0 (.sent wBlob) 0 true, .thermalSample [(0, [])],
      .imageDmaLoad (2 ^ 28 + 1) Blob.empty, .imageDmaLoad 0 wBlob, .arm (.fw 0 none) (2 ^ 32), .commit 0 (2 ^ 32),
      .capabilityWord 0 ⟨{ wGood with version := 256 }, 0, []⟩, .capabilityWord 0 ⟨{ wGood with width := 9 }, 0, []⟩,
      .capabilityWord 0 ⟨{ wGood with lanes := 256 }, 0, []⟩, .capabilityWord 0 ⟨{ wGood with window := 4096 }, 0, []⟩,
      .capabilityWord 0 ⟨{ wGood with credits := List.replicate 7 32 }, 0, []⟩, .capabilityWord 0 ⟨{ wGood with identity := 2 ^ 64 }, 0, []⟩,
      .linkFrameReceive 0 4096 ⟨.none, []⟩, .ackReceive 0 4096, .nakReceive 0 4096, .peerChangeRequest 0 9 ⟨true, false⟩ 0,
      .peerChangeRequest 0 1 ⟨true, false⟩ 256, .ethernetFrameIngress 0 (2 ^ 16) true Blob.empty, .ethernetFrameIngress 0 0 true wBlob,
      .spindleTransferReceive 0 []] : List Instr).all (fun c => !c.wf) = true := by decide +kernel

/-- A transfer with one field beyond its bits, or with bad data. -/
theorem test_transfers_refused :
    ([{ wXfer with part := 16 }, { wXfer with src := 100 }, { wXfer with tc := 8 }, { wXfer with input := 8 },
      { wXfer with hops := [⟨12, 0, 0⟩] }, { wXfer with op := .read 2 0 1 }, { wXfer with op := .read 0 0 0 },
      { wXfer with op := .write 2 0 Blob.empty }, { wXfer with op := .write 0 0 wBlob }, { wXfer with op := .ctxWrite 16384 0 Blob.empty },
      { wXfer with op := .ctxWrite 0 0 wBlob }] : List Xfer).all (fun x => !(Instr.spindleTransferReceive 0 [x]).wf) = true
      ∧ (Instr.spindleTransferReceive 0 [wXfer]).wf = true := by decide

theorem test_more_fields_refused :
    ([.grainAlloc 0 0 16 1, .grainAlloc 0 0 0 0, .grainReturn 0 0 16 0, .grainReturn 0 0 0 (2 ^ 31), .query 0 (2 ^ 20) 0,
      .query 0 0 (2 ^ 32), .arrive 0 (2 ^ 20) 0, .arrive 0 0 (2 ^ 32), .vote 0 (2 ^ 20) 0 0, .vote 0 0 (2 ^ 32) 0,
      .parentCompleteNotice 0 (2 ^ 32) 0 0 0 0, .parentCompleteNotice 0 0 256 0 0 0, .parentCompleteNotice 0 0 0 256 0 0,
      .narrowNotice 0 true (2 ^ 32) 0, .narrowNotice 0 true 0 256, .registerWrite (.host 0) (2 ^ 26) 8 0, .registerWrite (.host 0) 0 0 0,
      .registerWrite (.host 0) 0 9 0, .bar0BadRead 0 (2 ^ 26) 4 false, .bar0BadRead 0 0 0 false, .rcRead 0 (2 ^ 26),
      .bar2Read 0 (2 ^ 30) 1, .bar2Read 0 0 0, .bar2Write 0 (2 ^ 30) ⟨1, 0⟩, .bar2Write 0 0 Blob.empty, .bar2Write 0 0 wBlob,
      .dmaCompletion 0 wBlob, .mbxAck 0 0 (2 ^ 16), .ijtag (2 ^ 64), .bypass 256, .bypass 0x10, .campaign 0 (2 ^ 32), .renew 0 (2 ^ 32),
      .resign 0 (2 ^ 32), .handover (.host 0) 16 0, .handover (.host 0) 0 (2 ^ 32), .svRestart (.host 0) 16 false,
      .childAbortNotice 0 (2 ^ 32) 0, .childAbortNotice 0 0 256] : List Instr).all (fun c => !c.wf) = true := by decide

/-- At the bounds the same commands are well formed. -/
theorem test_bounds_accepted :
    ([.tbFreqWrite (.fw 0 (some (2 ^ 32 - 1))) 0, .check (.fw 0 none), .coldRstNAssert 1, .peerChangeRequest 0 8 ⟨true, true⟩ 255, .thermalSample [(99, [none, some 0])], .ptpMessage 0 (.sent ⟨256, 0⟩) 0 true,
      .capabilityWord 0 ⟨⟨255, 8, false, false, 255, 4095, List.replicate 8 32, 2 ^ 64 - 1, none, none, true⟩, 0, []⟩, .nakReceive 0 4095,
      .registerWrite (.host 0) (2 ^ 26 - 1) 8 0, .bypass 0xFF, .campaign 0 (2 ^ 32 - 1), .handover (.host 0) 15 (2 ^ 32 - 1),
      .dmaCompletion 0 ⟨1, 255⟩, .childAbortNotice 0 (2 ^ 32 - 1) 255] : List Instr).all (fun c => c.wf) = true := by decide +kernel

/-! ## Worked examples of the spec -/

/-- Physical lathe 3 of lathe die 7 is domain 333, whose register is at 0x4A68 (chapter 2, after R51). -/
theorem test_domain_address : R.glbPd 333 = 0x4A68 ∧ domLatheOf 333 = some (5 * 7 + 3) := by decide

/-- Lathe die 13 starts 0x1A_0000 after lathe die 0, its second lathe 16 KiB later (R21). -/
theorem test_lathe_address : R.ltStat 13 0 - R.ltStat 0 0 = 0x015A0000 - 0x01400000 ∧ R.ltStat 13 1 - R.ltStat 13 0 = 0x4000 := by decide

/-- Port die 1 with lane 7 replaced by spare A (R25). -/
theorem test_unit_map :
    F.GlbUnitmapPtd.spareBFor.get 0x000FC70000000080#64 = 0x3F ∧ F.GlbUnitmapPtd.spareAFor.get 0x000FC70000000080#64 = 7 ∧
      F.GlbUnitmapPtd.laneOff.get 0x000FC70000000080#64 = 2 ^ 7 := by decide

/-- A C-grade die with lathe 0 fused off and lathe 4 as spare; an A-grade die whose spare is lathe 2 (R26). -/
theorem test_lathe_roles :
    ({ State.reset.fuses with ltd := [(0, 0x102)] } : Fuses).latheRole 0 0 = 2 ∧
      ({ State.reset.fuses with ltd := [(0, 0x102)] } : Fuses).latheRole 0 4 = 1 ∧
      ({ State.reset.fuses with ltd := [(0, 0x10)] } : Fuses).latheRole 0 2 = 1 := by decide

/-- The 8 lane port 704 with lane 5 failed runs on lanes 0 to 3, with lanes 1 and 5 failed on lanes 2 and 3 (R113). -/
theorem test_lane_blocks : alignedBlock 8 8 0xDF = 0x0F ∧ alignedBlock 8 8 0xDD = 0x0C := by decide

/-- Stochastic rounding of 1 + 2^-9 to BF16 with two draws (R186). -/
theorem test_stochastic :
    roundElem 1 ⟨rndSTOCH, 0xD12345, none, false⟩ (decodeElem 0 0x3F804000) 1 = (0x3F81, nfInexact) ∧
      roundElem 1 ⟨rndSTOCH, 0x123456, none, false⟩ (decodeElem 0 0x3F804000) 1 = (0x3F80, nfInexact) := by decide +kernel

/-- An amax of 1,000 gives S = 4 toward E4M3, one of 400 gives 1; one of 0x7F80_0000 gives k = 120, 113, 122 (R191). -/
theorem test_scales :
    chooseScaleK 0x447A0000 3 = 2 ∧ chooseScaleK 0x43C80000 3 = 0 ∧ chooseScaleK 0x7F800000 3 = 120 ∧ chooseScaleK 0x7F800000 4 = 113 ∧
      chooseScaleK 0x7F800000 5 = 122 := by decide +kernel

/-- The exact BF16 sum of 0.25 and 1.0, and of 0.25 and -1.0 (chapter 14, the worked example). -/
theorem test_exact_sum :
    ((LAcc.add 0 (LAcc.add 0 LAcc.cleared (decodeElem 1 0x3E80)).1 (decodeElem 1 0x3F80)).1.round 1 ⟨0, 0, none, false⟩ none 1).1 = 0x3FA0 ∧
      ((LAcc.add 0 (LAcc.add 0 LAcc.cleared (decodeElem 1 0x3E80)).1 (decodeElem 1 0xBF80)).1.round 1 ⟨0, 0, none, false⟩ none 1).1
        = 0xBF40 := by decide +kernel

/-- The pair-format grain of FIRST_QUAD 10 with mask byte 0x5B: the third set bit of a quad holds no value (R290 and that example). -/
theorem test_pair_grain :
    (pairElems 2 (10 + 2 * 2 ^ 32 + 0x5B * 2 ^ 64 + (0x3F80 + 0x4000 * 2 ^ 16 + 0x3F00 * 2 ^ 32 + 0xBF80 * 2 ^ 48) * 2 ^ 448)).l
      = [(40, 0x3F80), (41, 0x4000), (42, 0), (43, 0), (44, 0x3F00), (45, 0), (46, 0xBF80), (47, 0)] := by decide +kernel

/-- CRC-32C of the digits 1 to 9, the check value of that CRC (R62). -/
theorem test_crc32c : crc32c [0x31, 0x32, 0x33, 0x34, 0x35, 0x36, 0x37, 0x38, 0x39] = 0xE3069283 := by decide +kernel

/-- SHA-256 of the bytes abc, the example of FIPS 180-4 (R69). -/
theorem test_sha256 : (sha256 [0x61, 0x62, 0x63]).take 8 = [0xBA, 0x78, 0x16, 0xBF, 0x8F, 0x01, 0xCF, 0xEA] := by decide +kernel

/-- SHA-384 of the bytes abc, the example of FIPS 180-4 (R68). -/
theorem test_sha384 : (sha384 [0x61, 0x62, 0x63]).take 8 = [0xCB, 0x00, 0x75, 0x3F, 0x45, 0xA3, 0x5E, 0x8B] := by decide +kernel

/-! ## States for the witnesses -/


/-- A write of firmware on supervisor West under term 0, which every fence holds at reset. -/
def wFw : Writer := .fw 0 (some 0)
/-- A command of the host whose reply goes to mailbox 16. -/
def wCmd : HcfCmd := ⟨0, 0, some 16, []⟩
/-- A plane whose partition 0 has every port die and every lathe die. -/
def wPlane : Plane := ⟨[⟨3, 0, ⟨1024, 1 + 0xFFFFFFFF * 2 ^ 32 + 0xFFFFFF * 2 ^ 64⟩⟩], 0, 0, 0, 0⟩
/-- A state under that plane, with a quota of one context and one slot unit for job 0. -/
def wOn : State :=
  State.setJob { State.reset with img := { State.reset.img with active := some wPlane } } 0
    (fun x => { x with rec_ := ⟨256, 2 ^ 448 + 2 ^ 480⟩ })
/-- A context record in a STATE with VCOUNT 1, LCOUNT 1 and a program of 8 bytes. -/
def wRec (st : Nat) : CtxRec := BitVec.ofNat 4096 (st * 2 ^ 16 + 2 ^ 32 + 2 ^ 40 + 8 * 2 ^ 320)
/-- Context c in a STATE, with a record of that form. -/
def wCtx (c st : Nat) (s : State) : State := s.setCtx c (fun x => { x with record := wRec st, live := wRec st })
/-- Context c in a STATE, resident on lathe 0, which is ON, with a program. -/
def wOn0 (c st prog : Nat) (s : State) : State :=
  (wCtx c st (s.setDom (domLathe 0) 2)).setCtx c (fun x => { x with phys := some 0, program := ⟨8, prog⟩ })
/-- The grant of lathe 0 in the hands of a context. -/
def wHolds (h : Nat) (s : State) : State := s.setLathe 0 (fun l => { l with holder := some h })
/-- Slot i of lathe 0 holds context c. -/
def wSlot (i c : Nat) (s : State) : State := (s.setFld (ltSlot 0 i) F.LtSlot.validNow 1).setFld (ltSlot 0 i) F.LtSlot.ctxNow c
/-- A record whose PROG_DIGEST is that of 8 zero bytes. -/
def wDigest (r : CtxRec) : CtxRec :=
  recPut r 48 32 (Blob.ofBytes (sha256 (List.replicate 8 0))).val
/-- A bundle that only waits in its control slot, executed no time; one that clears an accumulator; one that loads through window 0. -/
def wSkip : Nat := 0x82000000
def wClear : Nat := 0x20000000 + 0x88000000 * 2 ^ 32
def wLoad : Nat := 0x08000000 + 0x0C000000 * 2 ^ 32
/-- A stream, a notice and a collective's descriptor of nothing in particular. -/
def wStream : Stream := ⟨0, 0, 0, 0, 0, 0, 0, 0, 0, none, none, 0, 0, 0, 0, 0, false, 0, 0, 0, 0, [], [], [], [], [], [], none, false, 0⟩
def wNotice : Notice := ⟨0x42, 2, 0, none, 0, 0, 0, false, none, 0, 0, 0, 0, 0, 0, none⟩
def wFormed : Formed := ⟨0, 0, 0, false, 0, 0, 0, 0, none⟩
/-- Dump 1, four bytes long. -/
def wDump : Dump := ⟨1, 4, Blob.empty, none, [], [], [], []⟩
/-- A context with a collective whose descriptor holds these bytes. -/
def wColl (c d : Nat) (s : State) : State := s.setColl c (fun q => { q with desc := ⟨64, d⟩ })
/-- The context's record names a program of 8 zero bytes with its digest. -/
def wDig (s : State) : State := s.setCtx 0 (fun x => { x with live := wDigest x.live })
/-- The checks of a job command run. -/
def wCheck (j cmd : Nat) (s : State) : State := { s with jobs := { s.jobs with checking := some (j, cmd) } }
/-- A job command waits for its boundary. -/
def wWait (j cmd : Nat) (s : State) : State := { s with jobs := { s.jobs with waiting := [⟨j, cmd, .free, 2⟩] } }
/-- Supervisor West leads under term 1. -/
def wLed : State := State.setVoter (State.setVoter State.reset 0 (fun _ => ⟨1, 0, 100⟩)) 1 (fun _ => ⟨1, 0, 100⟩)
/-- That leader, with its own fence at its term. -/
def wHeld : State := wLed.setFence 96 (fun _ => ⟨1, 100, []⟩)
/-- A state at a later tick. -/
def wLate : State := { State.reset with tb := { State.reset.tb with tick := 20000 } }
/-- A header word of a command of one word with this code, its reply in mailbox 16. -/
def wHead (code : Nat) : W64 := BitVec.ofNat 64 (code * 2 ^ 56 + 16 * 2 ^ 43 + 1)
/-- A channel of the DMA master that waits for an entry of its list. -/
def wChan : DmaChan := ⟨.image, 0, wCmd, 0, 0, 8192, 0, 16, true, Blob.empty, false, Blob.empty, true, false, false⟩
/-- Out of cold reset. -/
def wRun : State := { State.reset with pins := { State.reset.pins with coldRst := false } }
/-- A stage of the start; a STATE of the image engine. -/
def wStage (n : Nat) (s : State) : State := s.setFld R.glbBoot F.GlbBoot.stage n
def wImg (n : Nat) (s : State) : State := s.setFld R.svImgStat F.SvImgStat.state n
/-- The pins with this hold. -/
def wHold (h : Hold) : State := { State.reset with pins := { State.reset.pins with hold := h } }
/-- The sections of wPlane and these. -/
def wWith (l : List Section) : State := { State.reset with img := { State.reset.img with active := some { wPlane with secs := wPlane.secs ++ l } } }
/-- Under a plane in which port 0 is a Druvo, or an Ethernet, port of four lanes; in a STATE. -/
def wDruvo (st : Nat) : State := (wWith [⟨4, 0, ⟨128, 4 + 2 * 2 ^ 24⟩⟩]).setFld (pStat 0) F.PtdPortStat.state st
def wEth (st : Nat) : State := (wWith [⟨4, 0, ⟨128, 4 + 2 ^ 8 + 2 * 2 ^ 24⟩⟩]).setFld (pStat 0) F.PtdPortStat.state st
/-- Under a plane with this bench section. -/
def wBench (v : Nat) : State := wWith [⟨7, 0, ⟨32768, v⟩⟩]
/-- A packet of one grain, 0, of flow 0; a control packet of traffic class 7. -/
def wPkt : Pkt := ⟨0, true, 2 ^ 128, 0, 0, 0, 0, 0, 0, [0], 1, none, false, 0, false, 0, none, false, none, false, none⟩
def wCtl : Pkt := ⟨0, false, 0, 0, 0, 0, 0, 7, 0, [], 0, none, false, 0, false, 0, none, false, none, false, none⟩
/-- A packet that arrives, its rank entries owed. -/
def wArr (held ended : Bool) : Arriving := ⟨wPkt, 0, [], 0, 0, false, held, ended, [], 0⟩
/-- A state with this at the end of port 0, traffic class 0. -/
def wArrs (l : List Arriving) (s : State) : State := s.withBench (fun b => { b with arriving := [(0, l)] })
/-- A state with this queue of port 0. -/
def wQueue (c : Nat) (l : List Pkt) (s : State) : State := s.withBench (fun b => { b with queues := [(c, l)] })
/-- An error record; the capability word of an endpoint. -/
def wErr : ErrRec := ⟨1, 0, 1, 0, 0, none, none, 0, 0, 1, 0, 0⟩
def wWord : CapWord := ⟨1, 4, false, false, 0xF, 1, List.replicate 8 32, 2 ^ 62, none, none, false⟩
/-- A reorder slot that holds a packet. -/
def wSlot0 (l : List Pkt) : ReorderSlot := ⟨0, 0, 0, 0, l, 0, 0, none, 0⟩
/-- Boot flash A with this digest of an empty firmware at an offset of its record. -/
def wFlash (o : Nat) (s : State) : State :=
  s.withSide (fun x => { x with flashA := memWrite [] o 48 (digestBlob (sha384 [])).val })
/-- A PTP packet of a traffic class with a message of zeros; a Druvo port with a credit of each class that takes it. -/
def wPtpMsg : BitVec 384 := 0
def wPtpHdr (t : Nat) : BitVec 128 :=
  BitVec.ofNat 128 (hdrSeal false (2 ^ 124 + t * 2 ^ 120 + 0x41 * 2 ^ 56 + crc16 (beBytes 48 0) * 2 ^ 16))
def wPtpData : BitVec 256 := BitVec.ofNat 256 (hdrSeal true (2 ^ 252 + 2 ^ 251 + 6 * 2 ^ 248 + 0x41 * 2 ^ 134 + 2 ^ 128 + 2 ^ 123))
def wPtpOn : State :=
  ((wDruvo 4).setFld R.tbPtpCtl F.TbPtpCtl.en 1).setPort 0 (fun x => { x with given := List.replicate 8 1 })
/-- A packet of one grain for rank 0 of job 0, and a port that faces a part, with a credit, to which that rank is sent on. -/
def wHdr : BitVec 256 := BitVec.ofNat 256 (hdrSeal true (2 ^ 252 + 2 ^ 251 + 2 ^ 134 + 2 ^ 128 + 5 * 2 ^ 40))
def wRoute : State :=
  let s := (wWith [⟨4, 0, ⟨128, 4 + 2 * 2 ^ 24⟩⟩, ⟨7, 0, ⟨32768, 4 * 2 ^ (8 * 2372)⟩⟩]).setFld (pStat 0) F.PtdPortStat.state 4
  let s := (s.setDom (domBank 0 0) 2).setJob 0 (fun x => { x with state := .admitted, rec_ := ⟨256, 2 ^ 32 + 2 ^ 384⟩ })
  (s.setRankCache 0 [⟨0, 0, 0, 2 ^ 63, false⟩]).setPort 0 (fun x => { x with identity := 2 ^ 63, given := List.replicate 8 1 })
/-- A packet of two grains on its way to a port. -/
def wMid : Arriving := ⟨{ wPkt with hdr := 2 * 2 ^ 128 }, 0, [3, 4], 0, 0, false, false, false, [], 0⟩
/-- A plane with a spill region, a pool that stands at THROTTLE, and a quota of the spill engine; a spilled packet; a contribution of a context
that is on the bench or spilled. -/
def wSpills : State :=
  State.withBench ((wBench (1 + 2 ^ 128 + 4096 * 2 ^ 320 + 2 * 2 ^ 2768 + 2 ^ (8 * 11588))).setDom (domBank 0 0) 2)
    (fun b => { b with levels := [(0, 2)] })
def wSpill : State :=
  wSpills.withBench (fun b => { b with queues := [(0, [{ wPkt with spillAt := some 0, grains := [] }])] })
def wNote (g o : Option Nat) : State := wSpills.setColl 0 (fun q => { q with pend := [{ wNotice with ptr := g, spillAt := o }] })
/-- At a later tick. -/
def wAt (t : Nat) (s : State) : State := { s with tb := { s.tb with tick := t } }

/-! ## The hypotheses of every statement are met -/

theorem witness_StepIdle :
    (∃ (s : State), s.pending = [] ∧ s.running = false) ∧
    (∃ (s : State), s.pending = [] ∧ s.running = true ∧ s.nextBoundary ≠ s.tb.tick + 1) ∧
    (∃ (s : State), s.pending = [] ∧ s.running = true ∧ s.nextBoundary = s.tb.tick + 1) :=
  ⟨⟨State.reset, by decide +kernel⟩,
    ⟨wRun, by decide +kernel⟩,
    ⟨wAt 99999 wRun, by decide +kernel⟩⟩

theorem witness_CommandReach :
    ∃ (c : Instr) (s : State) (t : State), exec c s = .next t :=
  ⟨.internalAlignmentDone, State.reset, State.reset.setFld R.tbStat F.TbStat.intAligned 1, rfl⟩

theorem witness_OnlyRatingsStop :
    ∃ (mv : Nat), 2100 < mv :=
  ⟨2101, by decide +kernel⟩

theorem witness_MemoryFormKept :
    ∃ (s : State) (t : State), s.memoryOk = true ∧ step s = .next t :=
  ⟨{ State.reset with pending := [.internalAlignmentDone] }, State.reset.setFld R.tbStat F.TbStat.intAligned 1, by
    decide +kernel, rfl⟩

theorem witness_FuseTrustKept :
    (∃ (s : State) (t : State), step s = .next t) ∧
    (∃ (c : Instr) (s : State) (t : State), exec c s = .next t ∧ c ≠ .turnBoundary ∧ (∀ d, c ≠ .thermalTrip d)) :=
  ⟨⟨{ State.reset with pending := [.internalAlignmentDone] }, State.reset.setFld R.tbStat F.TbStat.intAligned 1,
      rfl⟩,
    ⟨.internalAlignmentDone, State.reset, State.reset.setFld R.tbStat F.TbStat.intAligned 1, rfl, nofun, nofun⟩⟩

theorem witness_ColdResetAsserts :
    (∃ (ns : Nat) (s : State), 10000 ≤ ns ∧ s.pins.hold ≠ .trip ∧ s.pins.hold ≠ .vaux) ∧
    (∃ (ns : Nat), ns < 1000) ∧
    (∃ (ns : Nat) (s : State), 10000 ≤ ns ∧ (s.pins.hold = .trip ∨ s.pins.hold = .vaux)) :=
  ⟨⟨10000, State.reset, by decide +kernel⟩,
    ⟨999, by decide +kernel⟩,
    ⟨10000, wHold .trip, by decide +kernel⟩⟩

theorem witness_ColdResetReleases :
    (∃ (s : State), s.pins.coldRst = true ∧ s.pins.hold = .none ∧ s.suppliesOk = true) ∧
    (∃ (s : State), s.pins.coldRst = true ∧ s.pins.hold = .none ∧ s.suppliesOk = false) ∧
    (∃ (s : State), s.pins.coldRst = true ∧ s.pins.hold ≠ .none) ∧
    (∃ (s : State), s.pins.coldRst = false) :=
  ⟨⟨State.reset, by decide +kernel⟩,
    ⟨{ State.reset with pins := { State.reset.pins with vinMv := 0 } }, by decide +kernel⟩,
    ⟨wHold .vaux, by decide +kernel⟩,
    ⟨wRun, by decide +kernel⟩⟩

theorem witness_StartSteps :
    (∃ (s : State), s.stage = 2 ∧ sha384 (s.flashRead s.boot.copy ((s.bootRec s.boot.copy).le 16 4) ((s.bootRec
      s.boot.copy).le 20 4)).bytes = ((s.bootRec s.boot.copy).slice 40 48).bytes) ∧
    (∃ (s : State) (ok : BitVec 8) (n : Nat), s.stage = 3 ∧ s.boot.nearDone = false ∧ (s.stacks.filter (fun i =>
      bitOf ok.toNat i)).head? = some n) ∧
    (∃ (s : State), 3 ≤ s.stage ∧ s.stage ≠ 6 ∧ s.boot.farDone = false) ∧
    (∃ (s : State), s.stage = 6 ∧ s.boot.farDone = false) ∧
    (∃ (s : State) (n : Nat), s.stage = 4 ∧ s.boot.mainStack = some n ∧ sha384 (s.flashRead s.boot.copy ((s.bootRec
      s.boot.copy).le 24 4) ((s.bootRec s.boot.copy).le 28 4)).bytes = ((s.bootRec s.boot.copy).slice 88 48).bytes) :=
  ⟨⟨wFlash 40 (wStage 2 State.reset), by decide +kernel⟩,
    ⟨wStage 3 State.reset, 1, 0, by decide +kernel⟩,
    ⟨wStage 3 State.reset, by decide +kernel⟩,
    ⟨wStage 6 State.reset, by decide +kernel⟩,
    ⟨let s := wFlash 88 (wStage 4 State.reset); { s with boot := { s.boot with mainStack := some 0 } }, 0, by
      decide +kernel⟩⟩

theorem witness_BootConfirmation :
    (∃ (sv : Sv) (term : Option Nat) (s : State), s.judge (.fw sv term) s.glbDie = .applied) ∧
    (∃ (s : State), s.running = true ∧ s.fld R.glbBoot F.GlbBoot.confirmed = 0 ∧ 2000000000 ≤ s.tb.tick -
      s.boot.stepped ∧ 2 ≤ s.stage ∧ s.stage < 8 ∧ s.boot.fallback = true) ∧
    (∃ (s : State), s.running = true ∧ s.fld R.glbBoot F.GlbBoot.confirmed = 0 ∧ 2000000000 ≤ s.tb.tick -
      s.boot.stepped ∧ 2 ≤ s.stage ∧ s.stage < 8 ∧ s.boot.fallback = false) :=
  ⟨⟨0, some 0, State.reset, by decide +kernel⟩,
    ⟨(let s := wStage 2 (wAt 2000000000 wRun); { s with boot := { s.boot with fallback := true } }), by
      decide +kernel⟩,
    ⟨wStage 2 (wAt 2000000000 wRun), by decide +kernel⟩⟩

theorem witness_SupplyRidesThrough :
    (∃ (mv : Nat), 770 ≤ mv ∧ mv < 850) ∧
    (∃ (mv : Nat), 850 ≤ mv) ∧
    (∃ (mv : Nat) (ns : Nat), mv < 770 ∧ ns ≤ 5000) ∧
    (∃ (mv : Nat) (ns : Nat), 950 < mv ∧ (mv ≤ 1000 ∨ ns ≤ 5000)) :=
  ⟨⟨770, by decide +kernel⟩,
    ⟨850, by decide +kernel⟩,
    ⟨769, 5000, by decide +kernel⟩,
    ⟨1100, 5000, by decide +kernel⟩⟩

theorem witness_SupplyStops :
    (∃ (mv : Nat) (ns : Nat), (mv < 770 ∨ 1000 < mv) ∧ 5000 < ns) ∧
    (∃ (mv : Nat) (ns : Nat), mv < 1620 ∧ 1000 < ns) ∧
    (∃ (mv : Nat) (s : State), 1710 ≤ mv ∧ mv ≤ 1890 ∧ s.pins.hold = .vaux ∧ s.pins.removed = false) ∧
    (∃ (mv : Nat) (s : State), 1710 ≤ mv ∧ mv ≤ 1890 ∧ s.pins.hold = .vaux ∧ s.pins.removed = true) :=
  ⟨⟨1101, 5001, by decide +kernel⟩,
    ⟨1619, 1001, by decide +kernel⟩,
    ⟨1710, wHold .vaux, by decide +kernel⟩,
    ⟨1890, { State.reset with pins := { State.reset.pins with hold := .vaux, removed := true } }, by decide +kernel⟩⟩

theorem witness_ThermalControl :
    (∃ (d : Die) (l : List (Option Int)) (x : Int), l.length = sensorsOf d.val ∧ x ∈ l.filterMap id ∧ (∀ y, y ∈
      l.filterMap id → -32768 ≤ y ∧ y ≤ x) ∧ x < 32768) ∧
    (∃ (d : Die) (l : List (Option Int)), l.length = sensorsOf d.val ∧ (∀ y, y ∈ l → y = none)) ∧
    (∃ (d : Die) (s : State) (c : Nat), 2 ≤ s.fld (R.glbTherm d.val) F.GlbTherm.zone ∧ (s.die d.val).capCode = some
      c) ∧
    (∃ (d : LDie) (s : State), (s.fld (R.glbTherm (dLathe d.val)) F.GlbTherm.zone = 2 ∨ s.fld (R.glbTherm (dLathe
      d.val)) F.GlbTherm.zone = 4) ∧ s.fld (R.glbTherm (dLathe d.val)) F.GlbTherm.duty < 3 ∧ (∀ n, n ∈ dieDomains
      (dLathe d.val) → s.effSetpoint n = 0)) :=
  ⟨⟨0, [some 1761, none, some (-32768), none, none, none, none, none, none], 1761, by decide +kernel⟩,
    ⟨0, List.replicate 9 none, by decide +kernel⟩,
    ⟨0, (State.reset.setFld (R.glbTherm 0) F.GlbTherm.zone 2).setDie 0 (fun d => { d with capCode := some 5 }), 5, by
      decide +kernel⟩,
    ⟨0, State.reset.setFld (R.glbTherm (dLathe 0)) F.GlbTherm.zone 2, by decide +kernel⟩⟩

theorem witness_ThermalTrips :
    (∃ (d : Die) (s : State), 2 ≤ (s.die d.val).over115 ∧ s.pins.hold ≠ .trip) ∧
    (∃ (s : State), s.pins.hold = .trip ∧ (∀ d, d < 100 → s.fld (R.glbTherm d) F.GlbTherm.zone = 4 ∨ s.tnow d <
      1520)) ∧
    (∃ (s : State) (d : Nat), d < 100 ∧ s.fld (R.glbTherm d) F.GlbTherm.zone ≠ 4 ∧ 1520 ≤ s.tnow d) :=
  ⟨⟨0, State.reset.setDie 0 (fun d => { d with over115 := 2 }), by decide +kernel⟩,
    ⟨wHold .trip, by decide +kernel⟩,
    ⟨(wHold .trip).setFld (R.glbTherm 99) F.GlbTherm.tnow 1520, 99, by decide +kernel⟩⟩

theorem witness_DomainCommands :
    (∃ (w : Writer) (s : State), s.judge w s.glbDie = .applied) ∧
    (∃ (s : State) (n : Nat), s.wakes = [(n, .queued)] ∧ domParent n = none ∧ n < 536) ∧
    (∃ (s : State) (n : Dom) (at_ : Nat), s.wakes = [(n.val, .started at_)]) ∧
    (∃ (s : State) (n : Dom) (at_ : Nat), s.wake n.val = .started at_ ∧ at_ + 25000 ≤ s.tb.tick ∧ domLatheOf n.val =
      none) ∧
    (∃ (s : State) (n : Dom), s.domState n.val = 3 ∧ s.fld (R.glbPd n.val) F.GlbPd.req = 1) ∧
    (∃ (s : State) (n : Dom), 496 ≤ n.val ∧ n.val < 504 ∧ s.domState n.val = 3 ∧ s.fld (R.glbPd n.val) F.GlbPd.req =
      0) :=
  ⟨⟨wFw, State.reset, by decide +kernel⟩,
    ⟨{ State.reset with wakes := [(8, .queued)] }, 8, by decide +kernel⟩,
    ⟨{ State.reset with wakes := [(0, .started 0)] }, 0, 0, by decide +kernel⟩,
    ⟨{ wAt 25000 State.reset with wakes := [(8, .started 0)] }, 8, 0, by decide +kernel⟩,
    ⟨(State.reset.setDom 8 3).setFld (R.glbPd 8) F.GlbPd.req 1, 8, by decide +kernel⟩,
    ⟨(State.reset.setDom 496 3), 496, by decide +kernel⟩⟩

theorem witness_TimebaseSources :
    (∃ (off : Int), off.natAbs ≤ 32) ∧
    (∃ (d : Die) (off : Int) (s : State), 32 < off.natAbs ∧ (s.die d.val).skewSince = none) :=
  ⟨⟨-32, by decide +kernel⟩,
    ⟨0, 33, State.reset, by decide +kernel⟩⟩

theorem witness_TimebaseWrites :
    (∃ (sv : Sv) (tm : Option Nat) (v : W64) (s : State), s.judge (.fw sv tm) s.glbDie = .applied ∧ (signedOf
      (F.TbFreq.ppb.get v) 32).natAbs ≤ 100000) ∧
    (∃ (sv : Sv) (tm : Option Nat) (v : W64) (s : State), s.judge (.fw sv tm) s.glbDie = .applied ∧ 100000 <
      (signedOf (F.TbFreq.ppb.get v) 32).natAbs) ∧
    (∃ (sv : Sv) (tm : Option Nat) (v : W64) (s : State), s.judge (.fw sv tm) s.glbDie = .applied ∧ s.fld R.tbStat
      F.TbStat.stepAllowed = 1 ∧ v ≠ 0 ∧ v.toNat ≤ 2 ^ 62) ∧
    (∃ (sv : Sv) (tm : Option Nat) (s : State), s.judge (.fw sv tm) s.glbDie = .applied ∧ s.fld R.tbStat
      F.TbStat.stepAllowed = 0) ∧
    (∃ (sv : Sv) (tm : Option Nat) (v : W64) (s : State), s.judge (.fw sv tm) s.glbDie = .applied ∧
      F.TbPtpCtl.domain.get v < 128) ∧
    (∃ (sv : Sv) (tm : Option Nat) (v : W64) (s : State), s.judge (.fw sv tm) s.glbDie = .applied ∧ 128 ≤
      F.TbPtpCtl.domain.get v) :=
  ⟨⟨0, (some 0), F.TbFreq.ppb.put 0 100000, State.reset, by decide +kernel⟩,
    ⟨0, (some 0), F.TbFreq.ppb.put 0 100001, State.reset, by decide +kernel⟩,
    ⟨0, (some 0), 1, State.reset.setFld R.tbStat F.TbStat.stepAllowed 1, by decide +kernel⟩,
    ⟨0, (some 0), State.reset.setFld R.tbStat F.TbStat.stepAllowed 0, by decide +kernel⟩,
    ⟨0, (some 0), F.TbPtpCtl.domain.put 0 127, State.reset, by decide +kernel⟩,
    ⟨0, (some 0), F.TbPtpCtl.domain.put 0 128, State.reset, by decide +kernel⟩⟩

theorem witness_PtpMessages :
    (∃ (p : Port) (f : Blob) (s : State), s.portUp p.val = true ∧ s.isEthernet p.val = true ∧ s.ptpPort p.val = true
      ∧ 64 ≤ f.len ∧ f.len ≤ 9216) ∧
    (∃ (p : Port) (f : Blob) (s : State), s.portUp p.val = true ∧ s.isEthernet p.val = true ∧ s.ptpPort p.val = false
      ∧ 64 ≤ f.len ∧ f.len ≤ 9216 ∧ s.fld (R.bchShavCtl (8 * portHalf p.val)) F.BchShavCtl.captureDrops = 0) ∧
    (∃ (p : Port) (h : BitVec 128) (m : BitVec 384) (s : State), s.portUp p.val = true ∧ s.isEthernet p.val = false ∧
      s.ptpPort p.val = true ∧ hdrTc false h.toNat = 7 ∧ hdrOpcode false h.toNat = 0x41 ∧ hcrcOk false h.toNat = true
      ∧ pcrcOk h.toNat m.toNat = true ∧ ctlFormatOk h.toNat = true ∧ 1 ≤ nth (s.port p.val).given 7 ∧ s.policersFor
      p.val 7 (hdrJob false h.toNat) = []) ∧
    (∃ (p : Port) (h : BitVec 128) (m : BitVec 384) (s : State), s.portUp p.val = true ∧ s.isEthernet p.val = false ∧
      s.ptpPort p.val = false ∧ hdrOpcode false h.toNat = 0x41 ∧ hcrcOk false h.toNat = true ∧ pcrcOk h.toNat m.toNat
      = true ∧ ctlFormatOk h.toNat = true ∧ 1 ≤ nth (s.port p.val).given (hdrTc false h.toNat) ∧ s.policersFor p.val
      (hdrTc false h.toNat) (hdrJob false h.toNat) = []) ∧
    (∃ (p : Port) (h : BitVec 256) (tag : BitVec 128) (g : Grain) (n : Nat) (s : State), s.portUp p.val = true ∧
      s.isEthernet p.val = false ∧ s.ptpPort p.val = true ∧ hdrTc true h.toNat = 6 ∧ hdrOpcode true h.toNat = 0x41 ∧
      hdrGrainCount h.toNat = 1 ∧ hcrcOk true h.toNat = true ∧ dataFormatOk h.toNat (s.facesEndpoint p.val) = true ∧
      1 ≤ nth (s.port p.val).given 6 ∧ s.policersFor p.val 6 (hdrJob true h.toNat) = [] ∧ s.arrivals (qKey p.val 6) =
      [] ∧ n = lastBytes (hdrLastLen h.toNat) ∧ gwFormat (tag.toNat / 2 ^ 64) ≠ 3 ∧ grainCrc (tag.toNat / 2 ^ 64)
      (BitVec.ofNat 2048 (g.toNat % 2 ^ (8 * n))) n = tag.toNat % 2 ^ 64) ∧
    (∃ (p : Port) (s : State), s.portUp p.val = true ∧ s.ptpPort p.val = true) ∧
    (∃ (p : Port) (s : State), (s.portUp p.val = false ∨ s.ptpPort p.val = false)) ∧
    (∃ (p : Port) (s : State), s.portUp p.val = false) :=
  ⟨⟨0, ⟨64, 0⟩, (wEth 4).setFld R.tbPtpCtl F.TbPtpCtl.en 1, by decide +kernel⟩,
    ⟨0, ⟨9216, 0⟩, wEth 4, by decide +kernel⟩,
    ⟨0, wPtpHdr 7, wPtpMsg, wPtpOn, by decide +kernel⟩,
    ⟨0, wPtpHdr 6, wPtpMsg, wPtpOn.setFld R.tbPtpCtl F.TbPtpCtl.en 0, by decide +kernel⟩,
    ⟨0, wPtpData, BitVec.ofNat 128 (grainCrc 0 0 8), 0, 8, wPtpOn, by decide +kernel⟩,
    ⟨0, (wDruvo 4).setFld R.tbPtpCtl F.TbPtpCtl.en 1, by decide +kernel⟩,
    ⟨0, wEth 4, by decide +kernel⟩,
    ⟨0, State.reset, by decide +kernel⟩⟩

theorem witness_TurnBoundaryAdvances :
    (∃ (s : State), s.running = true ∧ s.tb.stepPend = none) ∧
    (∃ (s : State) (n : Nat), s.running = true ∧ s.tb.stepPend = some n) ∧
    (∃ (s : State), s.running = false) :=
  ⟨⟨wRun, by decide +kernel⟩,
    ⟨{ wRun with tb := { wRun.tb with stepPend := some 3 } }, 3, by decide +kernel⟩,
    ⟨State.reset, by decide +kernel⟩⟩

theorem witness_NextBoundaryIsFirst :
    (∃ (s : State), s.tb.origin ≤ s.tb.tick ∧ 10000 ≤ s.tb.ticks) ∧
    (∃ (s : State), s.tb.origin ≤ s.tb.tick ∧ 10000 ≤ s.tb.ticks) ∧
    (∃ (s : State) (x : _), s.tb.origin ≤ s.tb.tick ∧ 10000 ≤ s.tb.ticks ∧ s.tb.tick < x ∧ x < s.nextBoundary) :=
  ⟨⟨State.reset, by decide +kernel⟩,
    ⟨State.reset, by decide +kernel⟩,
    ⟨State.reset, 1, by decide +kernel⟩⟩

theorem witness_DiesFail :
    (∃ (d : Die) (s : State), s.dieEnabled d.val = true ∧ (s.die d.val).failed = false) ∧
    (∃ (d : Die) (s : State), 72 ≤ d.val ∧ d.val < 84 ∧ s.dieEnabled d.val = true ∧ (s.die d.val).failed = false) ∧
    (∃ (n : Nat), 10 ≤ n) ∧
    (∃ (d : Die) (n : Nat) (s : State), s.dieEnabled d.val = true ∧ (s.die d.val).failed = false ∧ 10 ≤ n) ∧
    (∃ (n : Nat), n < 10) :=
  ⟨⟨0, State.reset, by decide +kernel⟩,
    ⟨72, State.reset, by decide +kernel⟩,
    ⟨10, by decide +kernel⟩,
    ⟨0, 10, State.reset, by decide +kernel⟩,
    ⟨9, by decide +kernel⟩⟩

theorem witness_HangsAndScrubs :
    (∃ (d : Die) (u : Nat) (s : State), d.val < 32 ∧ u < 32 ∧ s.portUp (32 * d.val + u) = true ∧ s.portBusy (32 *
      d.val + u) = true ∧ s.errq d.val = []) ∧
    (∃ (d : Die) (s : State), 32 ≤ d.val ∧ s.dieEnabled d.val = true ∧ (s.die d.val).failed = false ∧ s.errq d.val =
      []) ∧
    (∃ (d : Die) (s : State), s.dieEnabled d.val = true ∧ (s.die d.val).failed = false ∧ s.errq d.val = []) ∧
    (∃ (d : Die) (s : State), 72 ≤ d.val ∧ d.val < 80 ∧ s.dieEnabled d.val = true ∧ (s.die d.val).failed = false ∧
      s.errq d.val = []) ∧
    (∃ (d : Die) (s : State), s.dieEnabled d.val = true ∧ (s.die d.val).failed = false) :=
  ⟨⟨0, 0, wArrs [wArr true false] (wDruvo 4), by decide +kernel⟩,
    ⟨32, State.reset, by decide +kernel⟩,
    ⟨0, State.reset, by decide +kernel⟩,
    ⟨72, State.reset, by decide +kernel⟩,
    ⟨32, State.reset, by decide +kernel⟩⟩

theorem witness_RecordsArePopped :
    (∃ (w : Writer) (d : Die) (r : ErrRec) (q : List ErrRec) (s : State), s.judge w d.val = .applied ∧ s.errq d.val =
      r :: q) ∧
    (∃ (w : Writer) (d : Die) (s : State), s.judge w d.val = .applied ∧ s.errq d.val = []) ∧
    (∃ (w : Writer) (d : Die) (s : State), s.judge w d.val ≠ .applied) :=
  ⟨⟨wFw, 0, wErr, [], { State.reset with err := { State.reset.err with queues := [(0, [wErr])] } }, by
      decide +kernel⟩,
    ⟨wFw, 0, State.reset, by decide +kernel⟩,
    ⟨.fw 0 (some 1), 0, State.reset, by decide +kernel⟩⟩

theorem witness_RecoveryCommands :
    (∃ (w : Writer) (p : Part) (s : State), s.judge w s.glbDie = .applied ∧ s.plane.partDefined p.val = false) ∧
    (∃ (w : Writer) (p : Part) (s : State), s.judge w s.glbDie = .applied ∧ s.plane.partDefined p.val = true ∧
      s.partBusy p.val = false) ∧
    (∃ (w : Writer) (p : Part) (k : Nat) (s : State), s.judge w s.glbDie = .applied ∧ s.plane.partDefined p.val =
      true ∧ s.partBusy p.val = false ∧ k < 120 ∧ (s.planeOn (dLathe (k / 5))).partOfLathe (k / 5) = some p.val ∧
      (s.role k = 0 ∨ s.role k = 2)) ∧
    (∃ (w : Writer) (s : State), s.judge w s.glbDie = .applied) ∧
    (∃ (s : State) (v : Nat), s.err.captured.isSome = true ∧ s.leader = some v) :=
  ⟨⟨wFw, 0, State.reset, by decide +kernel⟩,
    ⟨wFw, 0, wOn, by decide +kernel⟩,
    ⟨wFw, 0, 0, wOn, by decide +kernel⟩,
    ⟨wFw, State.reset, by decide +kernel⟩,
    ⟨{ wLed with err := { wLed.err with captured := some ⟨[], []⟩ } }, 0, by decide +kernel⟩⟩

theorem witness_ImageIsLoadedAndChecked :
    (∃ (s : State), s.mayLoad = true) ∧
    (∃ (n : Nat) (b : Blob) (s : State), s.mayLoad = true ∧ b.len < n) ∧
    (∃ (b : Blob) (s : State), s.imgState = 1 ∧ s.img.loaded.len + b.len = s.img.loadLen) ∧
    (∃ (w : Writer) (s : State), s.judge w (writerDie w) = .applied ∧ s.imgState = 2) ∧
    (∃ (s : State) (f : ImgFail), s.imgState = 3 ∧ checkImage s s.runningMajor s.img.loaded = some f ∧ s.stage ≠ 6 ∧
      f.code < 256 ∧ f.sect < 65536 ∧ f.entry < 65536) ∧
    (∃ (s : State) (f : ImgFail), s.imgState = 3 ∧ checkImage s s.runningMajor s.img.loaded = some f ∧ s.stage = 6 ∧
      s.img.loadSrc < 3 ∧ s.boot.imgTried = true) ∧
    (∃ (s : State), s.imgState = 3) :=
  ⟨⟨State.reset, by decide +kernel⟩,
    ⟨1, Blob.empty, State.reset, by decide +kernel⟩,
    ⟨Blob.empty, wImg 1 State.reset, by decide +kernel⟩,
    ⟨wFw, wImg 2 State.reset, by decide +kernel⟩,
    ⟨wImg 3 State.reset, ⟨1, 0xFFFF, 0⟩, by decide +kernel⟩,
    ⟨(let s := wStage 6 (wImg 3 State.reset); { s with boot := { s.boot with imgTried := true } }), ⟨1, 0xFFFF, 0⟩,
      by decide +kernel⟩,
    ⟨wImg 3 State.reset, by decide +kernel⟩⟩

theorem witness_PlaneCommands :
    (∃ (sv : Sv) (tm : Nat) (x : Nat) (p : Plane) (s : State), s.judge (.fw sv (some tm)) (writerDie (.fw sv (some
      tm))) = .applied ∧ s.imgState = 4 ∧ s.img.shadow = some p ∧ s.tb.turn + 3 ≤ s.turnNamed (x % 2 ^ 32) ∧
      s.turnNamed (x % 2 ^ 32) ≤ s.tb.turn + 2 ^ 20 ∧ (s.setFld R.svImgCtl F.SvImgCtl.targetTurn (x % 2 ^ 32)).liveOk
      p (s.turnNamed (x % 2 ^ 32)) = true) ∧
    (∃ (w : Writer) (s : State), s.judge w (writerDie w) = .applied ∧ s.imgState = 5) ∧
    (∃ (w : Writer) (s : State), s.judge w (writerDie w) = .applied ∧ (s.imgState = 2 ∨ s.imgState = 4 ∨ s.imgState =
      8)) ∧
    (∃ (s : State), (s.imgState = 3 ∨ s.imgState = 5 ∨ s.imgState = 6 ∨ s.imgState = 7)) ∧
    (∃ (w : Writer) (s : State), s.judge w (writerDie w) = .applied ∧ s.imgState ≠ 2) ∧
    (∃ (w : Writer) (s : State), s.judge w (writerDie w) = .applied ∧ s.imgState ≠ 4) ∧
    (∃ (w : Writer) (s : State), s.judge w (writerDie w) = .applied ∧ s.imgState ≠ 5) ∧
    (∃ (w : Writer) (s : State), s.judge w (writerDie w) = .applied ∧ s.imgState ≠ 2 ∧ s.imgState ≠ 4 ∧ s.imgState ≠
      8) :=
  ⟨⟨0, 0, 3, wPlane, wImg 4 { State.reset with img := { State.reset.img with shadow := some wPlane } }, by
      decide +kernel⟩,
    ⟨wFw, wImg 5 State.reset, by decide +kernel⟩,
    ⟨wFw, wImg 8 State.reset, by decide +kernel⟩,
    ⟨wImg 7 State.reset, by decide +kernel⟩,
    ⟨wFw, wImg 3 State.reset, by decide +kernel⟩,
    ⟨wFw, State.reset, by decide +kernel⟩,
    ⟨wFw, State.reset, by decide +kernel⟩,
    ⟨wFw, State.reset, by decide +kernel⟩⟩

theorem witness_ActivationSteps :
    (∃ (d : Die) (s : State), s.imgState = 5 ∧ s.dieEnabled d.val = true ∧ d.val ∉ s.img.ready ∧ s.sup.seam ≠
      .healing) ∧
    (∃ (tm : Nat) (d : Nat) (s : State), s.imgState = 5 ∧ s.tb.turn + 1 = s.turnNamed s.img.target ∧ s.tb.tick + 5000
      ≤ s.turnTick (s.turnNamed s.img.target) ∧ tm = s.img.armTerm ∧ s.sup.seam ≠ .cut ∧ d ∈ s.stagers ∧ (s.fence
      d).judge (s.dieNow d) (some tm) = .applied) ∧
    (∃ (tm : Nat) (s : State), s.imgState = 5 ∧ s.tb.turn + 1 = s.turnNamed s.img.target ∧ s.tb.tick + 5000 ≤
      s.turnTick (s.turnNamed s.img.target) ∧ tm ≠ s.img.armTerm) ∧
    (∃ (d : Die) (s : State) (r : Retire), s.img.retire = some r ∧ r.left = [d.val]) ∧
    (∃ (s : State) (r : Retire), s.img.retire = some r ∧ r.swapTick + 1000000 * r.maxResMs ≤ s.tb.tick) ∧
    (∃ (s : State) (d : Nat), d ∈ s.stagers) :=
  ⟨⟨0, wImg 5 State.reset, by decide +kernel⟩,
    ⟨0, 0, wImg 5 { State.reset with img := { State.reset.img with target := 1 } }, by decide +kernel⟩,
    ⟨1, wImg 5 { State.reset with img := { State.reset.img with target := 1 } }, by decide +kernel⟩,
    ⟨0, { State.reset with img := { State.reset.img with retire := some ⟨[0], 0, 1⟩ } }, ⟨[0], 0, 1⟩, by
      decide +kernel⟩,
    ⟨{ wAt 1000000 State.reset with img := { State.reset.img with retire := some ⟨[5], 0, 1⟩ } }, ⟨[5], 0, 1⟩, by
      decide +kernel⟩,
    ⟨State.reset, 0, by decide +kernel⟩⟩

theorem witness_LinkComesUp :
    (∃ (p : Port) (s : State), s.portWidth p.val ≠ 0 ∧ s.portState p.val = 1) ∧
    (∃ (p : Port) (s : State), s.portState p.val = 2 ∧ (s.port p.val).waiting = false ∧ s.isEthernet p.val = false) ∧
    (∃ (p : Port) (w : CapWord) (s : State), s.portState p.val = 3 ∧ s.wordOk p.val w = true) ∧
    (∃ (p : Port) (w : CapWord) (s : State), s.portState p.val = 3 ∧ s.wordOk p.val w = false ∧ (s.port
      p.val).attempts < 7) ∧
    (∃ (p : Port) (w : CapWord) (s : State), s.portState p.val = 3 ∧ s.wordOk p.val w = false ∧ 7 ≤ (s.port
      p.val).attempts) ∧
    (∃ (p : Port) (s : State), s.portState p.val ≠ 3) :=
  ⟨⟨0, wDruvo 1, by decide +kernel⟩,
    ⟨0, wDruvo 2, by decide +kernel⟩,
    ⟨0, wWord, State.setPort (wDruvo 3) 0 (fun x => { x with pendLanes := 15 }), by decide +kernel⟩,
    ⟨0, { wWord with version := 0 }, wDruvo 3, by decide +kernel⟩,
    ⟨0, { wWord with version := 0 }, State.setPort (wDruvo 3) 0 (fun x => { x with attempts := 7 }), by
      decide +kernel⟩,
    ⟨0, State.reset, by decide +kernel⟩⟩

theorem witness_PortTimers :
    (∃ (p : Port) (s : State), s.portState p.val = 3 ∧ (s.port p.val).resends < 3) ∧
    (∃ (p : Port) (s : State), s.portState p.val = 3 ∧ 3 ≤ (s.port p.val).resends) ∧
    (∃ (p : Port) (s : State), s.portState p.val = 2 ∧ (s.port p.val).waiting = true ∧ (s.port p.val).since + 1000000
      * (s.port p.val).backoffMs ≤ s.tb.tick) ∧
    (∃ (p : Port) (s : State), (s.portState p.val = 5 ∨ s.portState p.val = 6 ∨ (s.portState p.val = 2 ∧ (s.port
      p.val).waiting = false))) ∧
    (∃ (p : Port) (s : State), s.portState p.val = 2 ∧ (s.port p.val).waiting = false ∧ (s.port p.val).warm = false ∧
      (s.port p.val).attempts < 7) ∧
    (∃ (p : Port) (s : State), s.portState p.val = 2 ∧ (s.port p.val).waiting = false ∧ (s.port p.val).warm = false ∧
      7 ≤ (s.port p.val).attempts) ∧
    (∃ (p : Port) (s : State), s.portState p.val = 8 ∧ (s.port p.val).since + 1000000000 ≤ s.tb.tick) ∧
    (∃ (p : Port) (s : State), s.portState p.val = 7 ∧ (s.port p.val).since + 1000000 * s.fld (pCtl p.val)
      F.PtdPortCtl.holddownMs ≤ s.tb.tick ∧ (s.signalAll p.val = false ∨ s.shouldRun p.val = false)) ∧
    (∃ (p : Port) (s : State), s.portState p.val = 7 ∧ (s.port p.val).since + 1000000 * s.fld (pCtl p.val)
      F.PtdPortCtl.holddownMs ≤ s.tb.tick ∧ s.signalAll p.val = true ∧ s.shouldRun p.val = true) ∧
    (∃ (p : Port) (s : State), s.tb.tick < (s.port p.val).since + 1000000 * (s.port p.val).backoffMs) ∧
    (∃ (p : Port) (s : State), s.tb.tick < (s.port p.val).since + 1000000000) ∧
    (∃ (p : Port) (s : State), s.tb.tick < (s.port p.val).since + 1000000 * s.fld (pCtl p.val)
      F.PtdPortCtl.holddownMs) :=
  ⟨⟨0, wDruvo 3, by decide +kernel⟩,
    ⟨0, State.setPort (wDruvo 3) 0 (fun x => { x with resends := 3 }), by decide +kernel⟩,
    ⟨0, wAt 64000000 (State.setPort (wDruvo 2) 0 (fun x => { x with waiting := true, backoffMs := 64 })), by
      decide +kernel⟩,
    ⟨0, wDruvo 5, by decide +kernel⟩,
    ⟨0, wDruvo 2, by decide +kernel⟩,
    ⟨0, State.setPort (wDruvo 2) 0 (fun x => { x with attempts := 7 }), by decide +kernel⟩,
    ⟨0, wAt 1000000000 (wDruvo 8), by decide +kernel⟩,
    ⟨0, wAt 1000000000 (wDruvo 7), by decide +kernel⟩,
    ⟨0, wAt 1000000000 (((List.range 4).foldl (fun (s : State) i => s.setFld (laneStat 0 i) F.PtdLaneStat.sigDet 1)
      (wDruvo 7)).setDom 8 2 |>.setDom (domQuad 0 0) 2), by decide +kernel⟩,
    ⟨0, State.setPort (wDruvo 2) 0 (fun x => { x with waiting := true, since := 1 }), by decide +kernel⟩,
    ⟨0, wDruvo 8, by decide +kernel⟩,
    ⟨0, State.setPort (wDruvo 7) 0 (fun x => { x with since := 1 }), by decide +kernel⟩⟩

theorem witness_LinkLeavesAndReturns :
    (∃ (p : Port) (a : Fin 256) (b : Fin 256) (s : State), s.portState p.val = 4 ∧ (a.val ||| b.val) % 2 ^
      s.portWidth p.val ≠ 0) ∧
    (∃ (p : Port) (a : Fin 256) (b : Fin 256) (s : State), (s.portState p.val ≠ 4 ∨ (a.val ||| b.val) % 2 ^
      s.portWidth p.val = 0)) ∧
    (∃ (p : Port) (s : State), (s.portState p.val = 5 ∨ s.portState p.val = 6) ∧ (s.port p.val).since + 250000 *
      s.fld (pCtl p.val) F.PtdPortCtl.retrainLimit ≤ s.tb.tick) ∧
    (∃ (p : Port) (s : State), ((s.portState p.val ≠ 5 ∧ s.portState p.val ≠ 6) ∨ s.tb.tick < (s.port p.val).since +
      250000 * s.fld (pCtl p.val) F.PtdPortCtl.retrainLimit)) ∧
    (∃ (p : Port) (ns : Nat) (s : State), s.isEthernet p.val = true ∧ s.portState p.val ∈ [4, 5, 6] ∧ 10000 ≤ ns) ∧
    (∃ (p : Port) (ns : Nat) (s : State), (ns < 10000 ∨ s.isEthernet p.val = false)) ∧
    (∃ (p : Port) (s : State), s.isEthernet p.val = false ∧ s.portState p.val = 4) ∧
    (∃ (p : Port) (s : State), s.portState p.val = 6 ∧ (s.port p.val).rateChange = false ∧ s.isEthernet p.val = false
      ∧ alignedBlock (s.portWidth p.val) (s.portWidth p.val) ((s.port p.val).pendLanes &&& s.cleanMask p.val) ≠ 0) :=
  ⟨⟨0, 8, 0, wDruvo 4, by decide +kernel⟩,
    ⟨0, 16, 0, wDruvo 4, by decide +kernel⟩,
    ⟨0, wAt 1000000000 (wQueue 0 [wPkt] (wDruvo 6)), by decide +kernel⟩,
    ⟨0, State.setPort (wDruvo 5) 0 (fun x => { x with since := 1 }), by decide +kernel⟩,
    ⟨0, 10000, wEth 4, by decide +kernel⟩,
    ⟨0, 9999, wEth 4, by decide +kernel⟩,
    ⟨0, wDruvo 4, by decide +kernel⟩,
    ⟨0, State.setPort (wDruvo 6) 0 (fun x => { x with pendLanes := 15 }), by decide +kernel⟩⟩

theorem witness_LinkReplay :
    (∃ (p : Port) (n : Nat) (s : State), s.portState p.val = 4 ∧ s.isEthernet p.val = false ∧ n % 4096 = (s.port
      p.val).rxSeq) ∧
    (∃ (p : Port) (n : Nat) (k : Nat) (s : State), s.portState p.val = 4 ∧ s.isEthernet p.val = false ∧ (n % 4096 +
      4096 - (s.port p.val).rxSeq) % 4096 = k ∧ k ≠ 0) ∧
    (∃ (p : Port) (s : State), s.portState p.val = 4 ∧ s.isEthernet p.val = false) ∧
    (∃ (p : Port) (i : Fin 8) (s : State), s.portState p.val = 4 ∧ s.isEthernet p.val = false ∧ i.val < s.portWidth
      p.val ∧ s.fld (pStat p.val) F.PtdPortStat.fec = 0 ∧ (s.port p.val).badTicks.length < 1000) ∧
    (∃ (p : Port) (i : Fin 8) (s : State), s.portState p.val = 4 ∧ s.isEthernet p.val = false ∧ i.val < s.portWidth
      p.val ∧ s.fld (pStat p.val) F.PtdPortStat.fec = 0) ∧
    (∃ (p : Port) (n : Nat) (k : Pkt) (l : List (Nat × Pkt)) (s : State), s.portState p.val = 4 ∧ (s.port
      p.val).unacked = (n % 4096, k) :: l) ∧
    (∃ (p : Port) (n : Nat) (k : Pkt) (l : List (Nat × Pkt)) (s : State), s.portState p.val = 4 ∧ (s.port
      p.val).unacked = ((n + 1) % 4096, k) :: l ∧ (s.port p.val).replayFails < 8 ∧ s.fld (pStat p.val)
      F.PtdPortStat.fec ≠ 1) ∧
    (∃ (p : Port) (n : Nat) (k : Pkt) (l : List (Nat × Pkt)) (s : State), s.portState p.val = 4 ∧ (s.port
      p.val).unacked = ((n + 1) % 4096, k) :: l ∧ 8 ≤ (s.port p.val).replayFails) ∧
    (∃ (p : Port) (n : Nat) (k : Pkt) (l : List (Nat × Pkt)) (s : State), s.portState p.val = 4 ∧ (s.port
      p.val).unacked = ((n + 1) % 4096, k) :: l ∧ s.fld (pStat p.val) F.PtdPortStat.fec = 1 ∧ 4 ≤ ((s.port
      p.val).replayTicks.filter (fun x => decide (s.tb.tick < x + 1000000))).length) ∧
    (∃ (p : Port) (s : State), s.portState p.val = 4 ∧ s.isEthernet p.val = false) :=
  ⟨⟨0, 0, wDruvo 4, by decide +kernel⟩,
    ⟨0, 4095, 4095, State.setPort (wDruvo 4) 0 (fun x => { x with window := 4095 }), by decide +kernel⟩,
    ⟨0, wDruvo 4, by decide +kernel⟩,
    ⟨0, 3, wDruvo 4, by decide +kernel⟩,
    ⟨0, 3, wDruvo 4, by decide +kernel⟩,
    ⟨0, 0, wPkt, [], State.setPort (wDruvo 4) 0 (fun x => { x with unacked := [(0, wPkt)] }), by decide +kernel⟩,
    ⟨0, 0, wPkt, [], State.setPort (wDruvo 4) 0 (fun x => { x with unacked := [(1, wPkt)], replayFails := 7 }), by
      decide +kernel⟩,
    ⟨0, 0, wPkt, [], State.setPort (wDruvo 4) 0 (fun x => { x with unacked := [(1, wPkt)], replayFails := 8 }), by
      decide +kernel⟩,
    ⟨0, 0, wPkt, [], (State.setPort (wDruvo 4) 0 (fun x =>
      { x with unacked := [(1, wPkt)], replayTicks := [0, 0, 0, 0] })).setFld (pStat 0) F.PtdPortStat.fec 1, by
      decide +kernel⟩,
    ⟨0, wDruvo 4, by decide +kernel⟩⟩

theorem witness_LanesFail :
    (∃ (d : PDie) (n : Lane) (s : State), s.laneAbsent d.val n.val = false ∧ s.laneFailed d.val n.val = false ∧
      s.logicalOf d.val n.val = none) ∧
    (∃ (d : PDie) (n : Lane) (s : State), s.laneAbsent d.val n.val = false ∧ s.laneFailed d.val n.val = false) ∧
    (∃ (d : PDie) (n : Lane) (s : State), (s.laneAbsent d.val n.val = true ∨ s.laneFailed d.val n.val = true)) :=
  ⟨⟨0, 32, State.reset, by decide +kernel⟩,
    ⟨0, 3, wDruvo 4, by decide +kernel⟩,
    ⟨0, 0, State.reset.setFld (laneStat 0 0) F.PtdLaneStat.lstate 5, by decide +kernel⟩⟩

theorem witness_LaneCommands :
    (∃ (w : Writer) (d : PDie) (n : Lane) (s : State), s.judge w d.val = .applied ∧ s.laneAbsent d.val n.val = false
      ∧ s.laneFailed d.val n.val = false ∧ s.laneCmdOpen d.val n.val = true ∧ s.fld (laneStat d.val n.val)
      F.PtdLaneStat.synthLock = 1) ∧
    (∃ (w : Writer) (d : PDie) (n : Lane) (s : State), s.judge w d.val = .applied ∧ s.laneAbsent d.val n.val = false
      ∧ s.laneCmdOpen d.val n.val = true ∧ s.fld (laneStat d.val n.val) F.PtdLaneStat.synthLock = 0) ∧
    (∃ (w : Writer) (d : PDie) (n : Lane) (s : State) (c : Instr), s.judge w d.val = .applied ∧ s.laneCmdOpen d.val
      n.val = false ∧ (c = .txEnable w d n ∨ c = .txIdle w d n ∨ c = .prbs31 w d n ∨ c = .relock w d n)) ∧
    (∃ (w : Writer) (d : PDie) (n : Lane) (s : State), s.judge w d.val = .applied ∧ s.laneAbsent d.val n.val = false
      ∧ s.laneFailed d.val n.val = false ∧ s.laneCmdOpen d.val n.val = true ∧ s.lockTry d.val n.val = 0) ∧
    (∃ (d : PDie) (n : Lane) (s : State), s.laneAbsent d.val n.val = false ∧ s.fld (laneStat d.val n.val)
      F.PtdLaneStat.synthLock = 0 ∧ s.fld (laneStat d.val n.val) F.PtdLaneStat.pendCmd = 0 ∧ s.lstate d.val n.val =
      2) ∧
    (∃ (d : PDie) (n : Lane) (s : State), s.laneAbsent d.val n.val = false ∧ s.fld (laneStat d.val n.val)
      F.PtdLaneStat.synthLock = 0 ∧ s.lockTry d.val n.val < 2) ∧
    (∃ (d : PDie) (n : Lane) (s : State), s.laneAbsent d.val n.val = false ∧ s.fld (laneStat d.val n.val)
      F.PtdLaneStat.synthLock = 0 ∧ 2 ≤ s.lockTry d.val n.val) :=
  ⟨⟨wFw, 0, 0, State.reset.setFld (laneStat 0 0) F.PtdLaneStat.synthLock 1, by decide +kernel⟩,
    ⟨wFw, 0, 0, State.reset.setFld (laneStat 0 0) F.PtdLaneStat.synthLock 0, by decide +kernel⟩,
    ⟨wFw, 0, 0, wDruvo 4, .relock wFw 0 0, by decide +kernel⟩,
    ⟨wFw, 0, 0, State.reset, by decide +kernel⟩,
    ⟨0, 0, (State.reset.setFld (laneStat 0 0) F.PtdLaneStat.synthLock 0).setFld (laneStat 0 0) F.PtdLaneStat.lstate
      2, by decide +kernel⟩,
    ⟨0, 0, State.reset.setFld (laneStat 0 0) F.PtdLaneStat.synthLock 0, by decide +kernel⟩,
    ⟨0, 0, { (State.reset.setFld (laneStat 0 0) F.PtdLaneStat.synthLock 0 : State) with lanes := [(0, 2)] }, by
      decide +kernel⟩⟩

theorem witness_PortCommands :
    (∃ (w : Writer) (p : Port) (s : State), s.judge w (p.val / 32) = .applied ∧ s.portWidth p.val ≠ 0 ∧ s.portState
      p.val = 4) ∧
    (∃ (w : Writer) (p : Port) (s : State), s.judge w (p.val / 32) = .applied ∧ s.portWidth p.val ≠ 0 ∧ s.portState
      p.val = 4 ∧ (s.planeOn (p.val / 32)).rate100 (p.val / 32) (p.val % 32) = false ∧ s.fld (pStat p.val)
      F.PtdPortStat.rateNow = 1) ∧
    (∃ (w : Writer) (p : Port) (s : State), s.judge w (p.val / 32) = .applied ∧ s.portWidth p.val ≠ 0 ∧ s.portState
      p.val = 4 ∧ (s.planeOn (p.val / 32)).rate100 (p.val / 32) (p.val % 32) = false ∧ s.fld (pStat p.val)
      F.PtdPortStat.rateNow = 0) ∧
    (∃ (w : Writer) (p : Port) (s : State), s.judge w (p.val / 32) = .applied ∧ s.portWidth p.val ≠ 0 ∧ s.portState
      p.val = 4 ∧ (s.planeOn (p.val / 32)).rate100 (p.val / 32) (p.val % 32) = true) ∧
    (∃ (w : Writer) (p : Port) (s : State), s.judge w (p.val / 32) = .applied ∧ s.portWidth p.val ≠ 0 ∧ s.portState
      p.val = 4 ∧ s.resizeBlock p.val ≠ s.fld (pStat p.val) F.PtdPortStat.lanesActive ∧ s.resizeBlock p.val ≠ 0) ∧
    (∃ (w : Writer) (p : Port) (s : State), s.judge w (p.val / 32) = .applied ∧ s.portWidth p.val ≠ 0 ∧ s.portState
      p.val = 8) ∧
    (∃ (w : Writer) (p : Port) (s : State) (c : Instr), s.judge w (p.val / 32) = .applied ∧ s.portWidth p.val ≠ 0 ∧
      ((s.portState p.val ≠ 4 ∧ (c = .retrain w p ∨ c = .uprate w p ∨ c = .restoreWidth w p)) ∨ (s.portState p.val ≠
      8 ∧ c = .portRestart w p))) ∧
    (∃ (w : Writer) (p : Port) (s : State), s.judge w (p.val / 32) = .applied ∧ s.portWidth p.val ≠ 0 ∧ s.portState
      p.val = 0) ∧
    (∃ (w : Writer) (p : Port) (s : State), s.judge w (p.val / 32) = .applied ∧ s.portWidth p.val ≠ 0) :=
  ⟨⟨wFw, 0, wDruvo 4, by decide +kernel⟩,
    ⟨wFw, 0, (wDruvo 4).setFld (pStat 0) F.PtdPortStat.rateNow 1, by decide +kernel⟩,
    ⟨wFw, 0, wDruvo 4, by decide +kernel⟩,
    ⟨wFw, 0, (wWith [⟨4, 0, ⟨128, 4 + 2 ^ 16 + 2 * 2 ^ 24⟩⟩]).setFld (pStat 0) F.PtdPortStat.state 4, by
      decide +kernel⟩,
    ⟨wFw, 0, State.setPort (wDruvo 4) 0 (fun x => { x with peerLanes := 15, peerWidth := 4 }), by decide +kernel⟩,
    ⟨wFw, 0, wDruvo 8, by decide +kernel⟩,
    ⟨wFw, 0, wDruvo 1, .retrain wFw 0, by decide +kernel⟩,
    ⟨wFw, 0, wDruvo 0, by decide +kernel⟩,
    ⟨wFw, 0, wDruvo 4, by decide +kernel⟩⟩

theorem witness_SparesAndQuads :
    (∃ (w : Writer) (d : PDie) (l : Fin 32) (b : Bool) (p : Nat) (s : State), s.judge w d.val = .applied ∧
      s.spareFree d.val (b2n b) = true ∧ s.portOfLane d.val l.val = some p ∧ s.sparePath p (b2n b) = true ∧ s.laneBad
      d.val (s.physOf d.val l.val) = true) ∧
    (∃ (w : Writer) (d : PDie) (b : Bool) (s : State), s.judge w d.val = .applied ∧ s.spareFree d.val (b2n b) =
      false) ∧
    (∃ (w : Writer) (d : PDie) (b : Bool) (s : State), s.judge w d.val = .applied ∧ s.spState d.val (b2n b) = 2 ∧
      s.spareJob d.val (b2n b) = 0 ∧ s.laneAbsent d.val (s.spFor d.val (b2n b)) = false) ∧
    (∃ (w : Writer) (d : PDie) (b : Bool) (s : State), s.judge w d.val = .applied ∧ s.spState d.val (b2n b) ≠ 2) ∧
    (∃ (d : PDie) (b : Bool) (l : Nat) (s : State), l < 32 ∧ s.spareJob d.val (b2n b) = 1 + l ∧ s.portOfLane d.val l
      = none) ∧
    (∃ (d : PDie) (b : Bool) (l : Nat) (p : Nat) (s : State), l < 32 ∧ s.spareJob d.val (b2n b) = 1 + l ∧
      s.portOfLane d.val l = some p) ∧
    (∃ (d : PDie) (b : Bool) (l : Nat) (s : State), l < 32 ∧ s.spareJob d.val (b2n b) = 1 + l ∧ s.portOfLane d.val l
      = none) ∧
    (∃ (w : Writer) (d : PDie) (s : State), s.judge w d.val = .applied) ∧
    (∃ (w : Writer) (d : PDie) (s : State), s.judge w d.val = .applied) ∧
    (∃ (d : PDie) (q : Fin 8) (e : Escal) (s : State), e ∈ s.err.escal ∧ (e.step = 2 ∧ e.die = d.val ∧ e.unit / 4 =
      q.val)) ∧
    (∃ (d : PDie) (q : Fin 8) (s : State), (∀ e, e ∈ s.err.escal → ¬(e.step = 2 ∧ e.die = d.val ∧ e.unit / 4 =
      q.val))) :=
  ⟨⟨wFw, 0, 0, false, 0, ((State.setPort (wDruvo 4) 0 (fun x => { x with peerSpareA := some 0 })).setFld (pCtl 0)
      F.PtdPortCtl.sparePath 1).setFld (laneStat 0 0) F.PtdLaneStat.lstate 5, by decide +kernel⟩,
    ⟨wFw, 0, false, State.reset.setFld (R.ptdSpare 0) (spStateF 0) 3, by decide +kernel⟩,
    ⟨wFw, 0, false, State.reset.setFld (R.ptdSpare 0) (spStateF 0) 2, by decide +kernel⟩,
    ⟨wFw, 0, false, State.reset, by decide +kernel⟩,
    ⟨0, false, 31, { State.reset with spares := [(0, 32)] }, by decide +kernel⟩,
    ⟨0, false, 0, 0, { wDruvo 4 with spares := [(0, 1)] }, by decide +kernel⟩,
    ⟨0, false, 31, { State.reset with spares := [(0, 32)] }, by decide +kernel⟩,
    ⟨wFw, 0, State.reset, by decide +kernel⟩,
    ⟨wFw, 0, wQueue 0 [wPkt] (wDruvo 4), by decide +kernel⟩,
    ⟨0, 0, ⟨2, 0, 3⟩, { wDruvo 4 with err := { State.reset.err with escal := [⟨2, 0, 3⟩] } }, by decide +kernel⟩,
    ⟨0, 0, State.reset, by decide +kernel⟩⟩

theorem witness_PacketsArrive :
    (∃ (p : Port) (s : State), (s.portState p.val ≠ 4 ∨ s.isEthernet p.val = true)) ∧
    (∃ (p : Port) (n : Fin 64) (s : State), s.portState p.val = 4 ∧ s.isEthernet p.val = false ∧ n.val ≠ 0) ∧
    (∃ (p : Port) (c : Tc) (n : Fin 64) (h : BitVec 256) (x : Pkt) (out : Nat) (id : Option Nat) (l : List Nat) (s :
      State) (r : State), s.portState p.val = 4 ∧ s.isEthernet p.val = false ∧ n.val ≠ 0 ∧ n.val ≤ nth (s.port
      p.val).given c.val ∧ s.arrivals (qKey p.val c.val) = [] ∧ x = s.rxPkt p.val true h.toNat 0 ∧ hcrcOk true
      h.toNat = true ∧ dataFormatOk h.toNat (s.facesEndpoint p.val) = true ∧ hdrOpcode true h.toNat ≠ 0x41 ∧
      s.jobPasses x.job p.val x.stamp = true ∧ s.policersFor p.val x.tc x.job = [] ∧ s.opcodeOk p.val true h.toNat =
      true ∧ s.ranksMissing x = [] ∧ s.fld (R.bchShavCtl (8 * portHalf p.val)) F.BchShavCtl.sampleLog2 = 0 ∧ s.fld
      (R.bchShavCtl (8 * portHalf p.val)) F.BchShavCtl.mirrorEn = 0 ∧ (headerIn s p.val c.val n.val).routePkt x =
      (.egress out id, r) ∧ r.descFree (portHalf out) ≠ 0 ∧ (r.admitGrains x (portHalf out) ((r.benchPlaneAt
      (portHalf out) x.stamp).queuePool (qKey out x.tc)) (hdrGrainCount h.toNat) ((r.planeOf (out / 32)
      x.stamp).lossless (((r.planeOf (out / 32) x.stamp).partOfPort (out / 32)).getD 0) x.tc)).1 = some l) ∧
    (∃ (p : Port) (h : BitVec 256) (s : State), s.portState p.val = 4 ∧ s.isEthernet p.val = false ∧ hcrcOk true
      h.toNat = false) :=
  ⟨⟨0, State.reset, by decide +kernel⟩,
    ⟨0, 1, wDruvo 4, by decide +kernel⟩,
    ⟨0, 0, 1, wHdr, wRoute.rxPkt 0 true wHdr.toNat 0, 0, some 0, [0], wRoute, ((headerIn wRoute 0 0 1).routePkt
      (wRoute.rxPkt 0 true wHdr.toNat 0)).2, by decide +kernel⟩,
    ⟨0, 5, wDruvo 4, by decide +kernel⟩⟩

theorem witness_GrainsAndFramesArrive :
    (∃ (p : Port) (c : Tc) (s : State), (∀ a, a ∈ s.arrivals (qKey p.val c.val) → a.held = false)) ∧
    (∃ (p : Port) (c : Tc) (a : Arriving) (s : State), a ∈ s.arrivals (qKey p.val c.val) ∧ a.held = true) ∧
    (∃ (p : Port) (c : Tc) (s : State), (∀ a, a ∈ s.arrivals (qKey p.val c.val) → a.ended = true)) ∧
    (∃ (p : Port) (c : Tc) (a : Arriving) (s : State), s.portState p.val = 4 ∧ s.isEthernet p.val = false ∧
      s.arrivals (qKey p.val c.val) = [a] ∧ a.ended = false ∧ a.held = true) ∧
    (∃ (p : Port) (c : Tc) (tag : BitVec 128) (g : Grain) (a : Arriving) (k : Nat) (s : State), s.portState p.val = 4
      ∧ s.isEthernet p.val = false ∧ s.arrivals (qKey p.val c.val) = [a] ∧ a.ended = false ∧ a.held = false ∧
      a.dropped = false ∧ a.mode = 0 ∧ a.grains[a.next]? = some k ∧ a.next + 1 < hdrGrainCount a.pkt.hdr ∧ gwFormat
      (tag.toNat / 2 ^ 64) ≠ 3 ∧ grainCrc (tag.toNat / 2 ^ 64) g 256 = tag.toNat % 2 ^ 64) ∧
    (∃ (p : Port) (f : Blob) (s : State), s.portState p.val = 4 ∧ s.isEthernet p.val = true ∧ 64 ≤ f.len ∧ f.len ≤
      9216) ∧
    (∃ (p : Port) (e : Nat) (f : Blob) (s : State), s.portState p.val = 4 ∧ s.isEthernet p.val = true ∧ 64 ≤ f.len ∧
      f.len ≤ 9216 ∧ e ≠ 0x88CC ∧ e ≠ 0x88F7 ∧ e ≠ 0x8808 ∧ e ≠ (s.planeOn (p.val / 32)).etherType) :=
  ⟨⟨0, 0, State.reset, by decide +kernel⟩,
    ⟨0, 0, wArr true false, wArrs [wArr true false] (wDruvo 4), by decide +kernel⟩,
    ⟨0, 0, State.reset, by decide +kernel⟩,
    ⟨0, 0, wArr true false, wArrs [wArr true false] (wDruvo 4), by decide +kernel⟩,
    ⟨0, 0, BitVec.ofNat 128 (grainCrc 0 0 256), 0, wMid, 3, wArrs [wMid] (wDruvo 4), by decide +kernel, by
      decide +kernel, by decide +kernel, by decide +kernel, by decide +kernel, by decide +kernel, by decide +kernel,
      by decide +kernel, by decide +kernel, by rw [(tag_of_crc 0 256).1]; decide, (tag_of_crc 0 256).2⟩,
    ⟨0, ⟨64, 0⟩, wEth 4, by decide +kernel⟩,
    ⟨0, 0x800, ⟨9216, 0⟩, wEth 4, by decide +kernel⟩⟩

theorem witness_SpindleTransfers :
    (∃ (d : Die) (x : Xfer) (a : Nat) (b : Blob) (s : State), x.op = .write 0 a b ∧ a + b.len ≤ s.nearBytes ∧ x.src <
      100 ∧ passesFence s d.val x) ∧
    (∃ (d : Die) (x : Xfer) (a : Nat) (b : Blob) (s : State), x.op = .write 1 a b ∧ a + b.len ≤ farBytes ∧ x.src <
      100 ∧ passesFence s d.val x) ∧
    (∃ (d : Die) (x : Xfer) (k : Nat) (a : Nat) (n : Nat) (s : State), x.op = .read k a n ∧ a + n ≤ s.tierSize k ∧
      x.src < 100 ∧ passesFence s d.val x) ∧
    (∃ (x : Xfer) (y : Xfer) (k : Nat) (a : Nat) (n : Nat) (j : Nat) (b : Nat) (m : Nat) (s : State), x.op = .read k
      a n ∧ a + n ≤ s.tierSize k ∧ y.op = .read j b m ∧ b + m ≤ s.tierSize j ∧ y.src < 100 ∧ x.sys = true ∧ y.sys =
      true ∧ x.tc = 7 ∧ y.tc ≠ 7) ∧
    (∃ (d : Die) (x : Xfer) (s : State), x.src < 100 ∧ x.sys = false ∧ (s.entitled d.val x ≠ some x.part ∨ s.partBusy
      x.part = true)) :=
  ⟨⟨0, ⟨0, true, 0, 0, 0, 0, .write 0 8 ⟨2, 0x1234⟩, 0, 0, none, []⟩, 8, ⟨2, 0x1234⟩, State.reset, by
      decide +kernel⟩,
    ⟨0, ⟨0, true, 0, 0, 0, 0, .write 1 8 ⟨2, 0x1234⟩, 0, 0, none, []⟩, 8, ⟨2, 0x1234⟩, State.reset, by
      decide +kernel⟩,
    ⟨0, ⟨0, false, 0, 0, 0, 0, .read 0 0 8, 0, 0, none, []⟩, 0, 0, 8, wOn, by decide +kernel⟩,
    ⟨⟨0, true, 0, 0, 0, 0, .read 0 0 8, 7, 0, none, []⟩, ⟨0, true, 0, 0, 0, 0, .read 1 0 4, 0, 0, none, []⟩, 0, 0, 8,
      1, 0, 4, State.reset, by decide +kernel⟩,
    ⟨0, ⟨5, false, 0, 0, 0, 0, .read 0 0 8, 0, 0, none, []⟩, State.reset, by decide +kernel⟩⟩

theorem witness_GrainsAllocatedAndReturned :
    (∃ (r : Req) (n : Nat) (l : List Nat) (t : State) (s : State), reqReserved r.val = false ∧ s.quotaOk r.val n =
      true ∧ s.poolLevel ((s.reqPlane r.val).reqPool r.val) ≤ 2 ∧ s.allocN (s.reqHalf r.val) r.val ((s.reqPlane
      r.val).reqPool r.val) none n = some (l, t) ∧ s.epoch r.val < 16) ∧
    (∃ (r : Req) (n : Nat) (l : List Nat) (t : State) (s : State), reqReserved r.val = false ∧ s.quotaOk r.val n =
      true ∧ s.poolLevel ((s.reqPlane r.val).reqPool r.val) ≤ 2 ∧ s.allocN (s.reqHalf r.val) r.val ((s.reqPlane
      r.val).reqPool r.val) none n = some (l, t) ∧ s.epoch r.val < 16) ∧
    (∃ (r : Req) (n : Nat) (l : List Nat) (t : State) (s : State) (g : _), reqReserved r.val = false ∧ s.quotaOk
      r.val n = true ∧ s.poolLevel ((s.reqPlane r.val).reqPool r.val) ≤ 2 ∧ s.allocN (s.reqHalf r.val) r.val
      ((s.reqPlane r.val).reqPool r.val) none n = some (l, t) ∧ s.epoch r.val < 16 ∧ g ∈ l) ∧
    (∃ (r : Req) (e : Nat) (s : State), reqReserved r.val = false ∧ e % 16 ≠ s.epoch r.val) ∧
    (∃ (r : Req) (ptr : Nat) (s : State), ptrInPool ptr = true ∧ reqReserved r.val = false ∧ s.epoch r.val < 16 ∧
      (s.grain ptr).st = .held ∧ (s.grain ptr).req = r.val) ∧
    (∃ (a : Nat), a % 256 ≠ 0) :=
  ⟨⟨0, 1, [0], ((((wBench (2 ^ (8 * 2372))).setDom (domBank 0 0) 2).allocN 0 0 0 none 1).get (by decide +kernel)).2,
      ((wBench (2 ^ (8 * 2372))).setDom (domBank 0 0) 2), by decide +kernel⟩,
    ⟨0, 1, [0], ((((wBench (2 ^ (8 * 2372))).setDom (domBank 0 0) 2).allocN 0 0 0 none 1).get (by decide +kernel)).2,
      ((wBench (2 ^ (8 * 2372))).setDom (domBank 0 0) 2), by decide +kernel⟩,
    ⟨0, 1, [0], ((((wBench (2 ^ (8 * 2372))).setDom (domBank 0 0) 2).allocN 0 0 0 none 1).get (by decide +kernel)).2,
      ((wBench (2 ^ (8 * 2372))).setDom (domBank 0 0) 2), 0, by decide +kernel⟩,
    ⟨0, 1, State.reset, by decide +kernel⟩,
    ⟨0, 0, State.reset.setGrain 0 { GrainSt.empty with st := .held }, by decide +kernel⟩,
    ⟨255, by decide +kernel⟩⟩

theorem witness_ReclaimsAndAging :
    (∃ (w : Writer) (d : BDie) (r : Req) (s : State), s.judge w (dBench d.val) = .applied ∧ (d.val = 0 ∨ d.val = 8) ∧
      reqReserved r.val = false ∧ s.fld (R.bchReclaim d.val) F.BchReclaim.busy = 0) ∧
    (∃ (w : Writer) (d : BDie) (s : State), s.judge w (dBench d.val) = .applied ∧ (d.val = 0 ∨ d.val = 8) ∧ s.fld
      (R.bchReclaim d.val) F.BchReclaim.busy = 1) ∧
    (∃ (d : BDie) (r : Req) (s : State), s.fld (R.bchReclaim d.val) F.BchReclaim.busy = 1 ∧ s.fld (R.bchReclaim
      d.val) F.BchReclaim.lastReq = r.val) ∧
    (∃ (s : State), (∀ k, k < 64 → (s.poolPlane k).poolPart k = 0xFF) ∧ (∀ e, e ∈ s.ports → ∀ n, n ∈ e.2.waitCredits
      → n = 0) ∧ (∀ e, e ∈ s.ports → s.isEthernet e.1 = false) ∧ s.bench.waits = [] ∧ s.bench.descWait = [] ∧
      s.bench.since = []) ∧
    (∃ (s : State) (k : Nat), k < 64 ∧ (s.poolPlane k).poolPart k ≠ 0xFF ∧ 1024 ≤ s.descFree (k / 32) ∧ (∀ e, e ∈
      s.ports → ∀ n, n ∈ e.2.waitCredits → n = 0) ∧ (∀ e, e ∈ s.ports → s.isEthernet e.1 = false) ∧ s.bench.waits =
      [] ∧ s.bench.descWait = [] ∧ (∀ j, j < 64 → j ≠ k → (s.poolPlane j).poolPart j = 0xFF)) ∧
    (∃ (p : Port) (s : State), (s.portState p.val = 5 ∨ s.portState p.val = 6)) ∧
    (∃ (p : Port) (s : State), s.portState p.val ≠ 5 ∧ s.portState p.val ≠ 6) :=
  ⟨⟨wFw, 0, 0, State.reset, by decide +kernel⟩,
    ⟨wFw, 0, State.reset.setFld (R.bchReclaim 0) F.BchReclaim.busy 1, by decide +kernel⟩,
    ⟨0, 0, State.reset.setFld (R.bchReclaim 0) F.BchReclaim.busy 1, by decide +kernel⟩,
    ⟨wBench (((List.range 64).map (fun k => 0xFF * 2 ^ (8 * (320 + 32 * k)))).foldl (· + ·) 0), by decide +kernel⟩,
    ⟨wBench ((((List.range 64).map (fun k => 0xFF * 2 ^ (8 * (320 + 32 * k)))).foldl (· + ·) 0) - 0xFF * 2 ^ 2560),
      0, by decide +kernel⟩,
    ⟨0, wDruvo 5, by decide +kernel⟩,
    ⟨0, State.reset, by decide +kernel⟩⟩

theorem witness_SpillAndArchive :
    (∃ (q : Fin 8192) (part : Nat) (o : Nat) (y : Pkt) (s : State), s.portPart (q.val / 8) = some part ∧ s.maySpill
      q.val = true ∧ keepOf s q.val < benchGrains (s.queue q.val) ∧ s.readbackFirst (portHalf (q.val / 8)) = false ∧
      ((grainsBefore 0 (s.queue q.val)).filter (fun x => decide (keepOf s q.val ≤ x.1) && x.2.spillAt.isNone &&
      decide (x.2.arrived = x.2.creditCost))).map Prod.snd = [y] ∧ s.spillPlace (portHalf (q.val / 8)) part (288 *
      y.creditCost) = some o) ∧
    (∃ (q : Fin 8192) (s : State), s.maySpill q.val = false) ∧
    (∃ (q : Fin 8192) (part : Nat) (o : Nat) (y : Pkt) (l : List Nat) (t' : State) (s : State), s.portPart (q.val /
      8) = some part ∧ s.queue q.val = [y] ∧ y.spillAt = some o ∧ 2 ≤ keepOf s q.val ∧ (s.benchPlane (portHalf (q.val
      / 8))).spillShare (portHalf (q.val / 8)) ≠ 0 ∧ s.aged y = false ∧ spillRoom s (portHalf (q.val / 8))
      y.creditCost ∧ s.allocN (portHalf (q.val / 8)) (0x480 + portHalf (q.val / 8)) ((s.reqPlane (0x480 + portHalf
      (q.val / 8))).reqPool (0x480 + portHalf (q.val / 8))) (some y.job) y.creditCost = some (l, t')) ∧
    (∃ (q : Fin 8192) (s : State), keepOf s q.val / 2 ≤ headGrains (s.queue q.val)) ∧
    (∃ (c : Ctx) (o : Nat) (n : Notice) (g : Nat) (s : State), (s.ctx c.val).phys = none ∧ (s.ctx c.val).coll.pend =
      [n] ∧ n.ptr = some g ∧ n.spillAt = none ∧ 2 ≤ s.poolLevel (s.grain g).pool ∧ (s.benchPlane ((s.ctx c.val).home
      / 12)).spillShare ((s.ctx c.val).home / 12) ≠ 0 ∧ s.readbackFirst ((s.ctx c.val).home / 12) = false ∧
      s.spillPlace ((s.ctx c.val).home / 12) (recPart (s.ctx c.val).record) 288 = some o) ∧
    (∃ (c : Ctx) (o : Nat) (k : Nat) (g : Nat) (n : Notice) (t' : State) (s : State), (s.ctx c.val).phys = some k ∧
      (s.ctx c.val).coll.pend = [n] ∧ n.spillAt = some o ∧ (s.benchPlane ((s.ctx c.val).home / 12)).spillShare
      ((s.ctx c.val).home / 12) ≠ 0 ∧ spillRoom s ((s.ctx c.val).home / 12) 1 ∧ s.allocOne ((s.ctx c.val).home / 12)
      (0x480 + (s.ctx c.val).home / 12) ((s.reqPlane (0x480 + (s.ctx c.val).home / 12)).reqPool (0x480 + (s.ctx
      c.val).home / 12)) (some (recJob (s.ctx c.val).record)) = some (g, t')) ∧
    (∃ (d : BDie) (s : State), (d.val = 0 ∨ d.val = 8) ∧ s.fld (R.bchShavCtl d.val) F.BchShavCtl.archGib ≠ 0 ∧ max
      (s.bench.archived.get (fun _ => 0) (d.val / 8)) (s.bench.taken.get (fun _ => 0) (d.val / 8) / 4096 - 128) <
      s.bench.taken.get (fun _ => 0) (d.val / 8) / 4096) :=
  ⟨⟨0, 0, 0, wPkt, State.withBench (wBench (1 + 2 ^ 128 + 4096 * 2 ^ 320)) (fun b =>
      { b with levels := [(0, 2)], queues := [(0, [wPkt])] }), by decide +kernel⟩,
    ⟨0, State.reset, by decide +kernel⟩,
    ⟨0, 0, 0, { wPkt with spillAt := some 0, grains := [] }, [0], ((wSpill.allocN 0 0x480 0 (some 0) 1).get (by
      decide +kernel)).2, wSpill, by decide +kernel⟩,
    ⟨0, State.reset, by decide +kernel⟩,
    ⟨0, 0, { wNotice with ptr := some 0 }, 0, (wNote (some 0) none).setGrain 0
      { GrainSt.empty with st := .linked, pool := 0 }, by decide +kernel⟩,
    ⟨0, 0, 0, 0, { wNotice with spillAt := some 0 }, (((wOn0 0 3 0 (wNote none (some 0))).allocOne 0 0x480 0 (some
      0)).get (by decide +kernel)).2, wOn0 0 3 0 (wNote none (some 0)), by decide +kernel⟩,
    ⟨8, State.withBench (State.reset.setFld (R.bchShavCtl 8) F.BchShavCtl.archGib 1) (fun b =>
      { b with taken := [(1, 4096)] }), by decide +kernel⟩⟩

theorem witness_PolicerWrites :
    (∃ (w : Writer) (d : PDie) (v : W64) (s : State), s.judge w d.val = .applied ∧ (s.planeOn d.val).polRateMax < 2 ^
      F.PtdPolProfA.cir.wid ∧ (s.planeOn d.val).polRateMax < F.PtdPolProfA.cir.get v) ∧
    (∃ (w : Writer) (d : PDie) (v : W64) (s : State), s.judge w d.val = .applied ∧ F.PtdPolProfA.cir.get v ≤
      (s.planeOn d.val).polRateMax ∧ F.PtdPolProfA.pir.get v ≤ (s.planeOn d.val).polRateMax ∧ -64 ≤ signedOf
      (F.PtdPolProfA.overhead.get v) 9) ∧
    (∃ (w : Writer) (d : PDie) (s : State), s.judge w d.val = .applied) ∧
    (∃ (w : Writer) (d : PDie) (v : W64) (s : State), s.judge w d.val = .applied ∧ F.PtdPolCfg.en.get v = 0) ∧
    (∃ (w : Writer) (d : PDie) (i : Fin 2048) (v : W64) (s : State), s.judge w d.val = .applied ∧ F.PtdPolCfg.en.get
      v = 1 ∧ F.PtdPolCfg.jobAny.get v = 0 ∧ (s.job (F.PtdPolCfg.job.get v)).rec_.le 52 4 ≤ s.jobPolicers
      (F.PtdPolCfg.job.get v) (R.ptdPolCfg d.val i.val)) :=
  ⟨⟨wFw, 0, F.PtdPolProfA.cir.put 0 1, State.reset, by decide +kernel⟩,
    ⟨wFw, 0, F.PtdPolProfA.overhead.put 0 0x1C0, State.reset, by decide +kernel⟩,
    ⟨wFw, 0, State.reset, by decide +kernel⟩,
    ⟨wFw, 0, 0, State.reset, by decide +kernel⟩,
    ⟨wFw, 0, 0, F.PtdPolCfg.en.put 0 1, State.reset, by decide +kernel⟩⟩

theorem witness_PacketsLeave :
    (∃ (p : Port) (x : Pkt) (s : State), s.portState p.val = 4 ∧ s.isEthernet p.val = false ∧ (s.port p.val).inProg =
      none ∧ s.queue (qKey p.val 7) = [x] ∧ (∀ c, c < 7 → s.presented p.val c = []) ∧ x.tc = 7 ∧ x.data = false ∧
      x.spillAt = none ∧ s.aged x = false ∧ x.creditCost ≤ nth (s.port p.val).credits 7 ∧ (s.port
      p.val).unacked.length < (s.port p.val).window) ∧
    (∃ (p : Port) (i : InProgress) (g : Nat) (s : State), s.portState p.val = 4 ∧ (s.port p.val).inProg = some i ∧
      i.pkt.data = true ∧ i.sent < i.pkt.arrived ∧ i.pkt.grains[i.sent]? = some g ∧ i.sent + 1 ≠ i.pkt.grainCount) ∧
    (∃ (p : Port) (s : State), s.portState p.val ≠ 4) ∧
    (∃ (p : Port) (s : State), (s.port p.val).inProg = none ∧ (∀ c, c < 8 → s.presented p.val c = [])) ∧
    (∃ (p : Port) (i : InProgress) (x : Pkt) (s : State), s.portState p.val = 4 ∧ s.isEthernet p.val = false ∧
      (s.port p.val).inProg = some i ∧ i.pkt.tc ≠ 7 ∧ s.queue (qKey p.val 7) = [x] ∧ x.tc = 7 ∧ x.data = false ∧
      x.spillAt = none ∧ s.aged x = false ∧ x.creditCost ≤ nth (s.port p.val).credits 7 ∧ (s.port
      p.val).unacked.length < (s.port p.val).window) ∧
    (∃ (p : Port) (g : GateEntry) (s : State), ((s.planeOn (p.val / 32)).gateList (p.val / 32) (p.val % 32))[s.fld
      (R.ptdGateStat (p.val / 32) (p.val % 32)) F.PtdGateStat.entry + 1]? = some g) :=
  ⟨⟨0, wCtl, wQueue 7 [wCtl] (State.setPort (wDruvo 4) 0 (fun x =>
      { x with credits := List.replicate 8 1, window := 1 })), by decide +kernel⟩,
    ⟨0, ⟨{ wPkt with hdr := 2 * 2 ^ 128 }, 0, 0, 0, none⟩, 0, State.setPort (wDruvo 4) 0 (fun x =>
      { x with inProg := some ⟨{ wPkt with hdr := 2 * 2 ^ 128 }, 0, 0, 0, none⟩ }), by decide +kernel⟩,
    ⟨0, State.reset, by decide +kernel⟩,
    ⟨0, State.reset, by decide +kernel⟩,
    ⟨0, ⟨{ wPkt with hdr := 2 * 2 ^ 128 }, 0, 0, 0, none⟩, wCtl, wQueue 7 [wCtl] (State.setPort (wDruvo 4) 0 (fun x
      =>
      { x with credits := List.replicate 8 1, window := 1, inProg := some ⟨{ wPkt with hdr := 2 * 2 ^ 128 }, 0, 0, 0, none⟩ })),
      by decide +kernel⟩,
    ⟨0, ⟨3, 5, 100⟩, wWith [⟨9, 0, ⟨144, 2 * 2 ^ 16 + (3 + 5 * 2 ^ 16 + 100 * 2 ^ 32) * 2 ^ 1088⟩⟩], by
      decide +kernel⟩⟩

theorem witness_FlowsInOrder :
    (∃ (p : Port) (c : Fin 5) (x : Pkt) (rest : List Pkt) (s : State), s.finalPort p.val = true ∧ s.portQueues p.val
      = true ∧ s.queue (qKey p.val c.val) = x :: rest ∧ x.tc = c.val ∧ x.spillAt = none ∧ s.aged x = false ∧ (s.port
      p.val).slots = []) ∧
    (∃ (p : Port) (i : Nat) (r : ReorderSlot) (x : Pkt) (s : State), (s.port p.val).slots[i]? = some r ∧ r.held = [x]
      ∧ x.heldTick + s.reordTimeout (p.val / 32) ≤ s.dieNow (p.val / 32)) ∧
    (∃ (p : Port) (i : Nat) (r : ReorderSlot) (x : Pkt) (s : State), (s.port p.val).slots[i]? = some r ∧ r.held = [x]
      ∧ x.heldTick + s.reordTimeout (p.val / 32) ≤ s.dieNow (p.val / 32) ∧ r.expected < 2 ^ 24 ∧ r.expected ≠ hdrSeq
      x.hdr ∧ s.aged x = false) ∧
    (∃ (p : Port) (i : Nat) (r : ReorderSlot) (x : Pkt) (s : State), (s.port p.val).slots[i]? = some r ∧ r.held = [x]
      ∧ s.dieNow (p.val / 32) < x.heldTick + s.reordTimeout (p.val / 32)) ∧
    (∃ (p : Port) (i : Nat) (r : ReorderSlot) (s : State), (s.port p.val).slots[i]? = some r ∧ s.slotIdle (p.val /
      32) r = true) :=
  ⟨⟨0, 0, wPkt, [], wQueue 0 [wPkt] (wEth 4), by decide +kernel⟩,
    ⟨0, 0, wSlot0 [wPkt], wPkt, wAt 10000000000 (State.setPort (wDruvo 4) 0 (fun x =>
      { x with slots := [wSlot0 [wPkt]] })), by decide +kernel⟩,
    ⟨0, 0, { wSlot0 [wPkt] with expected := 5 }, wPkt, State.setPort ((wDruvo 4).setFld (R.ptdReordCtl 0)
      F.PtdReordCtl.timeoutUs 0) 0 (fun x => { x with slots := [{ wSlot0 [wPkt] with expected := 5 }] }), by
      decide +kernel⟩,
    ⟨0, 0, wSlot0 [wPkt], wPkt, (State.setPort (wDruvo 4) 0 (fun x => { x with slots := [wSlot0 [wPkt]] })).setFld
      (R.ptdReordCtl 0) F.PtdReordCtl.timeoutUs 1, by decide +kernel⟩,
    ⟨0, 0, wSlot0 [], wAt 10000 (State.setPort (wDruvo 4) 0 (fun x => { x with slots := [wSlot0 []] })), by
      decide +kernel⟩⟩

theorem witness_LatheWork :
    (∃ (k : Lathe) (s : State), (s.latheServes k.val = false ∨ s.nextThread k.val = none)) ∧
    (∃ (k : Lathe) (c : Nat) (s : State), s.latheServes k.val = true ∧ s.nextThread k.val = some c) ∧
    (∃ (k : Lathe) (c : Nat) (b : Bundle) (s : State), s.latheServes k.val = true ∧ s.nextThread k.val = some c ∧
      s.isStock c = false ∧ (s.lathe k.val).resetting = false ∧ b = decodeBundle (s.ctx c).program (s.ctx c).regs.pc
      ∧ (s.ctx c).regs.pc + b.len < recProgLen (s.ctx c).live ∧ (s.ctx c).regs.repN.getD (b.count (s.ctx c).regs) =
      0) ∧
    (∃ (k : Lathe) (c : Nat) (h : Nat) (n : Nat) (b : Bundle) (s : State), s.latheServes k.val = true ∧ s.nextThread
      k.val = some c ∧ s.isStock c = false ∧ (s.lathe k.val).holder = some h ∧ h ≠ c ∧ b = decodeBundle (s.ctx
      c).program (s.ctx c).regs.pc ∧ (s.ctx c).regs.pc + b.len ≤ recProgLen (s.ctx c).live ∧ (s.ctx c).regs.repN.getD
      (b.count (s.ctx c).regs) = n ∧ n ≠ 0 ∧ b.noReg (s.ctx c).live = none ∧ s.badRing c b = false ∧ b.pipe = true) ∧
    (∃ (k : Lathe) (c : Nat) (n : Nat) (b : Bundle) (a : Access) (s : State), s.latheServes k.val = true ∧
      s.nextThread k.val = some c ∧ s.isStock c = false ∧ b = decodeBundle (s.ctx c).program (s.ctx c).regs.pc ∧
      (s.ctx c).regs.pc + b.len ≤ recProgLen (s.ctx c).live ∧ (s.ctx c).regs.repN.getD (b.count (s.ctx c).regs) = n ∧
      n ≠ 0 ∧ b.noReg (s.ctx c).live = none ∧ s.badRing c b = false ∧ b.pipe = false ∧ b.m.access (s.ctx c).regs =
      some a ∧ winPasses (recWin (s.ctx c).live a.win) a.off a.len a.wr = false) ∧
    (∃ (k : Lathe) (s : State), (s.lathe k.val).holder = none) ∧
    (∃ (k : Lathe) (r : Residue) (c : Nat) (st : Stream) (ok : Bool) (s : State) (s1 : State), (s.lathe k.val).holder
      = some c ∧ (s.ctx c).regs.wait ≠ .operand ∧ (s.ctx c).regs.stream = some st ∧ s.residue c k.val r = (ok, s1)) ∧
    (∃ (k : Lathe) (c : Nat) (d : Nat) (i : Nat) (b : Nat) (s : State), (s.lathe k.val).holder = some c ∧ (s.lathe
      k.val).granted = s.tb.tick ∧ (s.lathe k.val).resetting = false ∧ (s.ctx c).stopping = 0 ∧ (s.ctx c).regs.stream
      = none ∧ s.nextUse c = .pipe ∧ s.latheServes k.val = true ∧ s.slotOf k.val c = some i ∧ s.bestPending k.val =
      some (b, d) ∧ i < b) ∧
    (∃ (x : Ctx) (s : State), (s.ctx x.val).phys = none) ∧
    (∃ (x : Ctx) (k : Nat) (s : State), (s.ctx x.val).phys = some k) ∧
    (∃ (x : Ctx) (k : Nat) (s : State), (s.ctx x.val).phys = some k ∧ (s.lathe k).resetting = false ∧ s.ctxState
      x.val = csRunning ∧ (s.ctx x.val).regs.wait = .stream ∧ (s.ctx x.val).regs.stream = none ∧ (s.ctx
      x.val).coll.accepted ≠ []) ∧
    (∃ (x : Ctx) (k : Nat) (s : State), (s.ctx x.val).phys = some k ∧ s.ctxState x.val = csRunning ∧ (s.ctx
      x.val).regs.wait = .operand) ∧
    (∃ (x : Ctx) (k : Nat) (n : Nat) (len : Nat) (rep : Nat) (d : Nat) (w : Nat) (a : Nat) (i : Int) (o : Access) (b
      : Bundle) (s : State), (s.ctx x.val).phys = some k ∧ s.ctxState x.val = csRunning ∧ (s.ctx x.val).regs.wait =
      .operand ∧ (s.ctx x.val).regs.stream = none ∧ (s.ctx x.val).stopping = 0 ∧ (s.lathe k).holder = none ∧ (s.lathe
      k).resetting = false ∧ b = ⟨len, false, rep, .nop, .nop, .nop, .nop, .lds d w a i, .nop, false⟩ ∧ decodeBundle
      (s.ctx x.val).program (s.ctx x.val).regs.pc = b ∧ b.m.access (s.ctx x.val).regs = some o ∧ s.winReaches x.val w
      o.off 4 = true ∧ s.winBurred x.val w o.off 4 = false ∧ (s.ctx x.val).regs.repN = some n ∧ n ≤ (s.ctx
      x.val).regs.rep + 1 ∧ (s.ctx x.val).regs.pc + len < recProgLen (s.ctx x.val).live) ∧
    (∃ (x : Ctx) (s : State), (s.ctx x.val).regs.wait ≠ .operand) ∧
    (∃ (x : Ctx) (s : State), (s.ctx x.val).regs.wait ≠ .fence) ∧
    (∃ (x : Ctx) (n : Nat) (s : State), s.ctxState x.val = csRunning ∧ (s.ctx x.val).regs.wait = .fence ∧ (s.ctx
      x.val).regs.stores = 1 ∧ (s.ctx x.val).regs.after = some ⟨n, false, 1, 0⟩ ∧ (s.ctx x.val).stopping = 0 ∧ (s.ctx
      x.val).coll.formed = [] ∧ n < recProgLen (s.ctx x.val).live) ∧
    (∃ (k : Lathe) (s : State), (∀ w ∈ s.bench.waits, w.req ≠ latheReq k.val)) ∧
    (∃ (k : Lathe) (w : AllocWait) (rest : List AllocWait) (c : Nat) (p : Nat) (s : State) (s1 : State),
      s.bench.waits = w :: rest ∧ w.ctx = some c ∧ w.req = latheReq k.val ∧ w.epoch = s.epoch w.req ∧ s.tryAlloc c
      k.val = (some p, s1)) ∧
    (∃ (k : Lathe) (w : AllocWait) (rest : List AllocWait) (c : Nat) (p : Nat) (s : State) (s1 : State),
      s.bench.waits = w :: rest ∧ w.ctx = some c ∧ w.req = latheReq k.val ∧ w.epoch = s.epoch w.req ∧ s.tryAlloc c
      k.val = (some p, s1) ∧ (s.ctx c).regs.wait = .alloc ∧ (s.ctx c).regs.stream.isSome = true ∧ (s.lathe
      k.val).holder = none ∧ (s.lathe k.val).pending = [] ∧ s.latheServes k.val = true ∧ s.mayHold k.val c = true) ∧
    (∃ (h : Ctx) (f : Ctx) (p : Partial) (rest : List Partial) (s : State), h ≠ f ∧ s.hasColl h.val = true ∧ (s.group
      h.val).contains f.val = true ∧ (s.ctx f.val).coll.partials = p :: rest ∧ (s.ctx h.val).phys = none) ∧
    (∃ (f : Ctx) (s : State), (s.ctx f.val).coll.partials = []) ∧
    (∃ (x : Ctx) (s : State), (s.ctx x.val).coll.formed = []) ∧
    (∃ (x : Ctx) (f : Formed) (rest : List Formed) (s : State), (s.ctx x.val).coll.formed = f :: rest ∧ s.tb.tick <
      f.release) ∧
    (∃ (x : Ctx) (f : Formed) (rest : List Formed) (s : State), (s.ctx x.val).coll.formed = f :: rest ∧ f.release ≤
      s.tb.tick) ∧
    (∃ (x : Ctx) (f : Formed) (rest : List Formed) (s : State), (s.ctx x.val).coll.formed = f :: rest ∧ f.release ≤
      s.tb.tick ∧ s.hasColl x.val = true ∧ recHome (s.ctx x.val).live = false ∧ recTop (s.ctx x.val).live = false ∧
      dProgram (s.ctx x.val).coll.desc = 1 ∧ dParentPort (s.ctx x.val).coll.desc = 0x3FF ∧ dParentCtx (s.ctx
      x.val).coll.desc ≠ x.val ∧ (s.ctx x.val).regs.wait ≠ .fence ∧ (s.grain f.ptr).refs ≠ 0) :=
  ⟨⟨0, State.reset, by decide +kernel⟩,
    ⟨0, 5, wOn0 5 3 wSkip wOn, by decide +kernel⟩,
    ⟨0, 5, decodeBundle ⟨8, wSkip⟩ 0, (wOn0 5 3 wSkip wOn).setCtx 5 (fun x =>
      { x with program := ⟨16, wSkip⟩, live := recPut x.live 40 4 16 }), by decide +kernel⟩,
    ⟨0, 5, 6, 1, decodeBundle ⟨8, wClear⟩ 0, wHolds 6 (wOn0 5 3 wClear wOn), by decide +kernel⟩,
    ⟨0, 5, 1, decodeBundle ⟨8, wLoad⟩ 0, ⟨0, 0, 4, false⟩, wOn0 5 3 wLoad wOn, by decide +kernel⟩,
    ⟨0, State.reset, by decide +kernel⟩,
    ⟨0, .none, 5, wStream, true, (wHolds 5 (wOn0 5 3 wClear wOn)).setRegs 5 (fun r =>
      { r with stream := some wStream }), (wHolds 5 (wOn0 5 3 wClear wOn)).setRegs 5 (fun r =>
      { r with stream := some wStream }), by decide +kernel⟩,
    ⟨0, 5, 6, 1, 2, (wSlot 1 5 (wSlot 2 6 (wHolds 5 (wOn0 5 3 wClear (wOn0 6 3 wClear wOn))))).setLathe 0 (fun l =>
      { l with pending := [6] }), by decide +kernel⟩,
    ⟨0, State.reset, by decide +kernel⟩,
    ⟨5, 0, wOn0 5 3 wSkip wOn, by decide +kernel⟩,
    ⟨5, 0, ((wOn0 5 3 wSkip wOn).setWait 5 .stream).setColl 5 (fun q => { q with accepted := [wNotice] }), by
      decide +kernel⟩,
    ⟨5, 0, (wOn0 5 3 wLoad wOn).setWait 5 .operand, by decide +kernel⟩,
    ⟨5, 0, 1, 8, 0, 0, 0, 0, 0, ⟨0, 0, 4, false⟩, decodeBundle ⟨8, wLoad⟩ 0, ((wOn0 5 3 wLoad wOn).setCtx 5 (fun x =>
      { x with live := recPut x.live 40 4 16 })).setRegs 5 (fun r => { r with wait := .operand, repN := some 1 }), by
      decide +kernel⟩,
    ⟨0, State.reset, by decide +kernel⟩,
    ⟨0, State.reset, by decide +kernel⟩,
    ⟨5, 4, (wOn0 5 3 wSkip wOn).setRegs 5 (fun r =>
      { r with wait := .fence, stores := 1, after := some ⟨4, false, 1, 0⟩ }), by decide +kernel⟩,
    ⟨0, State.reset, by decide +kernel⟩,
    ⟨0, ⟨0x400, 0, 1, some 5⟩, [], 5, 9, ((wOn0 5 3 wSkip wOn).setWait 5 .alloc).withBench (fun b =>
      { b with waits := [⟨0x400, 0, 1, some 5⟩], got := [(5, 9)] }), (((wOn0 5 3 wSkip wOn).setWait 5
      .alloc).withBench (fun b => { b with waits := [⟨0x400, 0, 1, some 5⟩] })), by decide +kernel⟩,
    ⟨0, ⟨0x400, 0, 1, some 5⟩, [], 5, 9, (wSlot 1 5 ((wOn0 5 3 wSkip wOn).setRegs 5 (fun r =>
      { r with wait := .alloc, stream := some wStream }))).withBench (fun b =>
      { b with waits := [⟨0x400, 0, 1, some 5⟩], got := [(5, 9)] }), (wSlot 1 5 ((wOn0 5 3 wSkip wOn).setRegs 5 (fun
      r => { r with wait := .alloc, stream := some wStream }))).withBench (fun b =>
      { b with waits := [⟨0x400, 0, 1, some 5⟩] }), by decide +kernel⟩,
    ⟨5, 6, ⟨0, 0, 0, []⟩, [], (wColl 6 1 (wColl 5 1 (((wOn0 6 3 wSkip (wCtx 5 3 wOn)).setCtx 5 (fun x =>
      { x with live := recPut x.live 508 4 (8 + 16 + 5 * 65536) })).setCtx 6 (fun x =>
      { x with live := recPut x.live 508 4 (5 * 65536) })))).setColl 6 (fun q =>
      { q with partials := [⟨0, 0, 0, []⟩] }), by decide +kernel⟩,
    ⟨0, State.reset, by decide +kernel⟩,
    ⟨0, State.reset, by decide +kernel⟩,
    ⟨5, { wFormed with release := 5 }, [], (wOn0 5 3 wSkip wOn).setColl 5 (fun q =>
      { q with formed := [{ wFormed with release := 5 }] }), by decide +kernel⟩,
    ⟨5, wFormed, [], (wOn0 5 3 wSkip wOn).setColl 5 (fun q => { q with formed := [wFormed] }), by decide +kernel⟩,
    ⟨5, wFormed, [], ((wColl 5 (1 + 0x3FF * 2 ^ 128 + 6 * 2 ^ 144) (wOn0 5 3 wSkip wOn)).setColl 5 (fun q =>
      { q with formed := [wFormed] })).setGrain 0 { GrainSt.empty with st := .linked, refs := 1 }, by decide +kernel⟩⟩

theorem witness_LatheControl :
    (∃ (k : Lathe) (s : State), (s.lathe k.val).holder = none) ∧
    (∃ (k : Lathe) (c : Nat) (s : State), (s.lathe k.val).holder = some c ∧ s.tb.tick ≤ (s.lathe k.val).since +
      s.wdogTicks k.val c) ∧
    (∃ (k : Lathe) (c : Nat) (s : State), (s.lathe k.val).holder = some c ∧ (s.lathe k.val).since + s.wdogTicks k.val
      c < s.tb.tick) ∧
    (∃ (k : Lathe) (c : Nat) (s : State), (s.lathe k.val).holder = some c ∧ (s.lathe k.val).since + s.wdogTicks k.val
      c < s.tb.tick ∧ s.ctxState c = csRunning ∧ s.hasColl c = false ∧ (s.lathe k.val).pending = [] ∧ (s.lathe
      k.val).resetting = false ∧ (s.ctx c).phys = some k.val) ∧
    (∃ (k : Lathe) (n : Nat) (s : State), (s.lathe k.val).bitten = some n ∧ n + 10000 ≤ s.tb.tick ∧ s.errq (dLathe
      (k.val / 5)) = []) ∧
    (∃ (k : Lathe) (s : State), (∀ n, (s.lathe k.val).bitten = some n → s.tb.tick < n + 10000)) ∧
    (∃ (w : Writer) (k : Lathe) (s : State), s.judge w (dLathe (k.val / 5)) = .applied ∧ s.role k.val ≠ 0xF ∧ s.fld
      (ltStat k.val) F.LtStat.busy = 0) ∧
    (∃ (w : Writer) (k : Lathe) (c : Nat) (s : State), s.judge w (dLathe (k.val / 5)) = .applied ∧ s.role k.val ≠ 0xF
      ∧ s.fld (ltStat k.val) F.LtStat.busy = 0 ∧ (s.lathe k.val).holder = some c ∧ (s.ctx c).stopping = 0) ∧
    (∃ (w : Writer) (k : Lathe) (s : State), s.judge w (dLathe (k.val / 5)) = .applied ∧ (s.role k.val = 0xF ∨ s.fld
      (ltStat k.val) F.LtStat.busy = 1)) ∧
    (∃ (k : Lathe) (s : State), s.err.escal.any (fun e => e.step = 2 && e.die = dLathe (k.val / 5) && e.unit = k.val
      % 5) = true ∧ s.role k.val ≠ 0xF) ∧
    (∃ (k : Lathe) (s : State), ((s.lathe k.val).resetting = false ∨ s.tb.tick < (s.lathe k.val).resetAt + 2000)) ∧
    (∃ (k : Lathe) (c : Nat) (s : State), (s.lathe k.val).resetting = true ∧ (s.lathe k.val).resetAt + 2000 ≤
      s.tb.tick ∧ (s.lathe k.val).holder = some c ∧ s.residents k.val = [c] ∧ s.ctxState c = csRunning ∧ s.hasColl c
      = false ∧ (s.ctx c).move = .none) ∧
    (∃ (k : Lathe) (c : Nat) (s : State), (s.lathe k.val).resetting = true ∧ (s.lathe k.val).resetAt + 2000 ≤
      s.tb.tick ∧ (s.lathe k.val).holder = some c) ∧
    (∃ (k : Lathe) (back : Nat) (s : State), (s.lathe k.val).selfTest = some back ∧ (s.lathe k.val).resetting = false
      ∧ back < 16 ∧ s.partBusy (((s.planeOn (dLathe (k.val / 5))).partOfLathe (k.val / 5)).getD 0xFF) = false) ∧
    (∃ (k : Lathe) (back : Nat) (s : State), (s.lathe k.val).selfTest = some back ∧ (s.lathe k.val).resetting = false
      ∧ s.partBusy (((s.planeOn (dLathe (k.val / 5))).partOfLathe (k.val / 5)).getD 0xFF) = false ∧ (∀ p, p < 5 → p ≠
      k.val % 5 → s.role (5 * (k.val / 5) + p) ≠ 1)) ∧
    (∃ (k : Lathe) (s : State), (s.lathe k.val).selfTest = none) ∧
    (∃ (w : Writer) (k : Lathe) (s : State), s.judge w (dLathe (k.val / 5)) = .applied ∧ s.role k.val = 1 ∧ s.fld
      (ltStat k.val) F.LtStat.busy = 0 ∧ s.domState (domLathe k.val) = 2) ∧
    (∃ (w : Writer) (k : Lathe) (s : State), s.judge w (dLathe (k.val / 5)) = .applied ∧ s.role k.val ≠ 1) ∧
    (∃ (w : Writer) (k : Lathe) (v : W64) (s : State), s.judge w (dLathe (k.val / 5)) = .applied ∧ s.role k.val ≠ 0xF
      ∧ F.LtSlot.validNext.get v = 0) ∧
    (∃ (w : Writer) (k : Lathe) (i : Fin 16) (v : W64) (s : State), s.judge w (dLathe (k.val / 5)) = .applied ∧
      s.role k.val ≠ 0xF ∧ F.LtSlot.validNext.get v = 1 ∧ (s.ctx (F.LtSlot.ctxNext.get v)).phys = some k.val ∧
      s.slotAllowed i.val (F.LtSlot.ctxNext.get v) = true ∧ (∀ j, j < 16 → j ≠ i.val → s.fld (ltSlot k.val j)
      F.LtSlot.validNext = 1 → s.fld (ltSlot k.val j) F.LtSlot.ctxNext ≠ F.LtSlot.ctxNext.get v)) ∧
    (∃ (w : Writer) (k : Lathe) (v : W64) (s : State), s.judge w (dLathe (k.val / 5)) = .applied ∧
      F.LtSlot.validNext.get v = 1 ∧ (s.ctx (F.LtSlot.ctxNext.get v)).phys ≠ some k.val) :=
  ⟨⟨0, State.reset, by decide +kernel⟩,
    ⟨0, 5, wHolds 5 (wOn0 5 3 wSkip wOn), by decide +kernel⟩,
    ⟨0, 5, wAt 200000 (wHolds 5 (wOn0 5 3 wSkip wOn)), by decide +kernel⟩,
    ⟨0, 5, wAt 200000 (wHolds 5 (wOn0 5 3 wSkip wOn)), by decide +kernel⟩,
    ⟨0, 0, wLate.setLathe 0 (fun l => { l with bitten := some 0 }), by decide +kernel⟩,
    ⟨0, State.reset, by decide +kernel⟩,
    ⟨wFw, 0, State.reset, by decide +kernel⟩,
    ⟨wFw, 0, 5, wHolds 5 (wOn0 5 3 wSkip wOn), by decide +kernel⟩,
    ⟨wFw, 0, State.reset.setFld (ltStat 0) F.LtStat.role 0xF, by decide +kernel⟩,
    ⟨0, { State.reset with err := { State.reset.err with escal := [⟨2, dLathe 0, 0⟩] } }, by decide +kernel⟩,
    ⟨0, State.reset, by decide +kernel⟩,
    ⟨0, 5, wAt 2000 ((wHolds 5 (wOn0 5 3 wSkip wOn)).setLathe 0 (fun l => { l with resetting := true })), by
      decide +kernel⟩,
    ⟨0, 5, wAt 2000 ((wHolds 5 (wOn0 5 3 wSkip wOn)).setLathe 0 (fun l => { l with resetting := true })), by
      decide +kernel⟩,
    ⟨0, 2, State.reset.setLathe 0 (fun l => { l with selfTest := some 2 }), by decide +kernel⟩,
    ⟨0, 0, ((State.reset.setLathe 0 (fun l => { l with selfTest := some 0 })).setFld (ltStat 4) F.LtStat.role 2), by
      decide +kernel⟩,
    ⟨0, State.reset, by decide +kernel⟩,
    ⟨wFw, 4, State.reset.setDom (domLathe 4) 2, by decide +kernel⟩,
    ⟨wFw, 0, State.reset, by decide +kernel⟩,
    ⟨wFw, 0, 0, State.reset, by decide +kernel⟩,
    ⟨wFw, 0, 3, 0x0000000500000000#64 ||| F.LtSlot.validNext.put 0 1, wOn0 5 3 wSkip wOn, by decide +kernel⟩,
    ⟨wFw, 0, 0x0000000500000000#64 ||| F.LtSlot.validNext.put 0 1, State.reset, by decide +kernel⟩⟩

theorem witness_ContextCommands :
    (∃ (w : Writer) (d : LDie) (c : Ctx) (slot : Fin 32) (phys : Fin 8) (i : Instr) (cmd : Nat) (states : List Nat)
      (s : State), (i, cmd, states) ∈ ctxCommands w d c slot phys ∧ s.judge w (dLathe d.val) = .applied ∧ s.fld
      (R.ltdCtxStat d.val) F.LtdCtxStat.busy = 0 ∧ s.ctxState c.val ≠ csMoving ∧ s.ctxState c.val ∉ states) ∧
    (∃ (w : Writer) (d : LDie) (c : Ctx) (slot : Fin 32) (phys : Fin 8) (i : Instr) (cmd : Nat) (states : List Nat)
      (s : State), (i, cmd, states) ∈ ctxCommands w d c slot phys ∧ s.judge w (dLathe d.val) = .applied ∧ (s.fld
      (R.ltdCtxStat d.val) F.LtdCtxStat.busy = 1 ∨ s.ctxState c.val = csMoving)) ∧
    (∃ (w : Writer) (d : LDie) (c : Ctx) (s : State), s.judge w (dLathe d.val) = .applied ∧ s.fld (R.ltdCtxStat
      d.val) F.LtdCtxStat.busy = 0 ∧ s.ctxState c.val ≠ csMoving ∧ (s.ctx c.val).phys = none) ∧
    (∃ (w : Writer) (d : LDie) (c : Ctx) (s : State), s.judge w (dLathe d.val) = .applied ∧ s.fld (R.ltdCtxStat
      d.val) F.LtdCtxStat.busy = 0 ∧ s.ctxState c.val = csFaulted ∧ recFault (s.ctx c.val).record = 4) ∧
    (∃ (w : Writer) (d : LDie) (c : Ctx) (slot : Fin 32) (phys : Fin 8) (s : State), s.judge w (dLathe d.val) =
      .applied ∧ s.fld (R.ltdCtxStat d.val) F.LtdCtxStat.busy = 0 ∧ s.ctxState c.val = csIdle ∧ phys.val < 5 ∧
      (slot.val < 16 ∨ slot.val = 0x1F) ∧ s.dieOfCtx d.val c.val = false) ∧
    (∃ (w : Writer) (d : LDie) (c : Ctx) (slot : Fin 32) (phys : Fin 8) (s : State), s.judge w (dLathe d.val) =
      .applied ∧ s.fld (R.ltdCtxStat d.val) F.LtdCtxStat.busy = 0 ∧ s.ctxState c.val = csIdle ∧ phys.val < 5 ∧
      (slot.val < 16 ∨ slot.val = 0x1F) ∧ s.dieOfCtx d.val c.val = true ∧ s.latheServes (5 * d.val + phys.val) =
      false) ∧
    (∃ (w : Writer) (d : LDie) (c : Ctx) (slot : Fin 32) (phys : Fin 8) (s : State), s.judge w (dLathe d.val) =
      .applied ∧ s.fld (R.ltdCtxStat d.val) F.LtdCtxStat.busy = 0 ∧ s.ctxState c.val = csIdle ∧ phys.val < 5 ∧
      (slot.val < 16 ∨ slot.val = 0x1F) ∧ s.dieOfCtx d.val c.val = true ∧ s.latheServes (5 * d.val + phys.val) = true
      ∧ slot.val ≠ 0x1F ∧ (s.slotTaken (5 * d.val + phys.val) slot.val c.val = true ∨ s.slotAllowed slot.val c.val =
      false)) ∧
    (∃ (w : Writer) (d : LDie) (c : Ctx) (slot : Fin 32) (phys : Fin 8) (s : State), s.judge w (dLathe d.val) =
      .applied ∧ s.fld (R.ltdCtxStat d.val) F.LtdCtxStat.busy = 0 ∧ s.ctxState c.val = csIdle ∧ phys.val < 5 ∧
      (slot.val < 16 ∨ slot.val = 0x1F) ∧ s.dieOfCtx d.val c.val = true ∧ s.latheServes (5 * d.val + phys.val) = true
      ∧ (slot.val = 0x1F ∨ (s.slotTaken (5 * d.val + phys.val) slot.val c.val = false ∧ s.slotAllowed slot.val c.val
      = true)) ∧ s.fitsLathe (5 * d.val + phys.val) (s.ctx c.val).record = true ∧ ((ctxStat s d.val c.val 2 0).latch
      (5 * d.val + phys.val) c.val).1 = true) ∧
    (∃ (w : Writer) (d : LDie) (c : Ctx) (s : State), s.judge w (dLathe d.val) = .applied ∧ s.fld (R.ltdCtxStat
      d.val) F.LtdCtxStat.busy = 0 ∧ s.ctxState c.val = csFree ∧ s.dieOfCtx d.val c.val = true ∧ s.jobContexts
      (recJob (s.ctx c.val).record) < s.qContexts (recJob (s.ctx c.val).record) ∧ s.err.retiredCtxs.contains c.val =
      false) ∧
    (∃ (w : Writer) (d : LDie) (c : Ctx) (s : State), s.judge w (dLathe d.val) = .applied ∧ s.fld (R.ltdCtxStat
      d.val) F.LtdCtxStat.busy = 0 ∧ (s.ctxState c.val = csParked ∨ s.ctxState c.val = csRunning ∨ s.ctxState c.val =
      csIdle ∨ s.ctxState c.val = csSaved) ∧ s.dieOfCtx d.val c.val = true ∧ (s.ctx c.val).stopping ≠ 2 ∧ ((s.ctx
      c.val).phys = none ∨ ((s.ctx c.val).regs.wait ≠ .operand ∧ (s.ctx c.val).regs.wait ≠ .fence)) ∧ (∀ k, (s.ctx
      c.val).phys = some k → (s.lathe k).holder ≠ some c.val)) ∧
    (∃ (w : Writer) (d : LDie) (c : Ctx) (s : State) (k : _), s.judge w (dLathe d.val) = .applied ∧ s.fld
      (R.ltdCtxStat d.val) F.LtdCtxStat.busy = 0 ∧ (s.ctxState c.val = csParked ∨ s.ctxState c.val = csRunning ∨
      s.ctxState c.val = csIdle ∨ s.ctxState c.val = csSaved) ∧ s.dieOfCtx d.val c.val = true ∧ (s.ctx
      c.val).stopping ≠ 2 ∧ (s.ctx c.val).phys = some k ∧ ((s.lathe k).holder = some c.val ∨ (s.ctx c.val).regs.wait
      = .operand ∨ (s.ctx c.val).regs.wait = .fence)) ∧
    (∃ (w : Writer) (d : LDie) (c : Ctx) (k : Nat) (s : State), s.judge w (dLathe d.val) = .applied ∧ s.fld
      (R.ltdCtxStat d.val) F.LtdCtxStat.busy = 0 ∧ s.ctxState c.val = csStopped ∧ (s.ctx c.val).phys = some k ∧
      s.dieOfCtx d.val c.val = true ∧ (s.ctx c.val).move.loading = false ∧ (s.ctx c.val).startPend = false ∧ (s.ctx
      c.val).regs.wait ≠ .fence) ∧
    (∃ (w : Writer) (d : LDie) (c : Ctx) (k : Nat) (s : State), s.judge w (dLathe d.val) = .applied ∧ s.fld
      (R.ltdCtxStat d.val) F.LtdCtxStat.busy = 0 ∧ s.ctxState c.val = csStopped ∧ (s.ctx c.val).phys = some k ∧
      s.dieOfCtx d.val c.val = true ∧ ((s.ctx c.val).move.loading = true ∨ (s.ctx c.val).startPend = true)) ∧
    (∃ (w : Writer) (d : LDie) (c : Ctx) (s : State), s.judge w (dLathe d.val) = .applied ∧ s.fld (R.ltdCtxStat
      d.val) F.LtdCtxStat.busy = 0 ∧ (s.ctxState c.val = csDone ∨ s.ctxState c.val = csStopped ∨ (s.ctxState c.val =
      csFaulted ∧ recFault (s.ctx c.val).record ≠ 4)) ∧ (s.ctx c.val).phys.isSome = true ∧ s.dieOfCtx d.val c.val =
      true) ∧
    (∃ (w : Writer) (d : LDie) (c : Ctx) (s : State), s.judge w (dLathe d.val) = .applied ∧ s.fld (R.ltdCtxStat
      d.val) F.LtdCtxStat.busy = 0 ∧ (s.ctxState c.val = csDone ∨ s.ctxState c.val = csStopped ∨ (s.ctxState c.val =
      csFaulted ∧ recFault (s.ctx c.val).record ≠ 4)) ∧ (s.ctx c.val).phys.isSome = true ∧ s.dieOfCtx d.val c.val =
      true ∧ recordOk (s.ctx c.val).record = true ∧ s.windowsAllowed (s.ctx c.val).record = true ∧ replayKey (s.ctx
      c.val).record = replayKey (s.ctx c.val).live ∧ s.hasColl c.val = false ∧ (s.ctx c.val).move.loading = false ∧
      recMode (mergeWindows (s.ctx c.val).record (s.ctx c.val).live) ≠ 2) ∧
    (∃ (w : Writer) (d : LDie) (c : Ctx) (s : State), s.judge w (dLathe d.val) = .applied ∧ s.fld (R.ltdCtxStat
      d.val) F.LtdCtxStat.busy = 0 ∧ s.ctxState c.val ∈ [csIdle, csDone, csFaulted, csStopped, csSaved] ∧ s.dieOfCtx
      d.val c.val = true) :=
  ⟨⟨wFw, 0, 0, 0, 0, .stop wFw 0 0, 3, [csParked, csRunning, csIdle, csSaved], State.reset, by decide +kernel⟩,
    ⟨wFw, 0, 0, 0, 0, .create wFw 0 0, 1, [csFree], wCtx 0 5 wOn, by decide +kernel⟩,
    ⟨wFw, 0, 0, State.reset, by decide +kernel⟩,
    ⟨wFw, 0, 0, State.setCtx wOn 0 (fun x => { x with record := recPut (wRec 7) 487 1 4 }), by decide +kernel⟩,
    ⟨wFw, 0, 0, 0, 0, wCtx 0 1 State.reset, by decide +kernel⟩,
    ⟨wFw, 0, 0, 0, 4, wCtx 0 1 wOn, by decide +kernel⟩,
    ⟨wFw, 0, 0, 15, 0, wCtx 0 1 (wOn.setDom (domLathe 0) 2), by decide +kernel⟩,
    ⟨wFw, 0, 0, 14, 0, wCtx 0 1 (wOn.setDom (domLathe 0) 2), by decide +kernel⟩,
    ⟨wFw, 0, 0, wOn, by decide +kernel⟩,
    ⟨wFw, 0, 0, wCtx 0 1 wOn, by decide +kernel⟩,
    ⟨wFw, 0, 0, wHolds 0 (wOn0 0 3 wSkip wOn), 0, by decide +kernel⟩,
    ⟨wFw, 0, 0, 0, wOn0 0 8 wSkip wOn, by decide +kernel⟩,
    ⟨wFw, 0, 0, 0, (wOn0 0 8 wSkip wOn).setCtx 0 (fun x => { x with startPend := true }), by decide +kernel⟩,
    ⟨wFw, 0, 0, wOn0 0 6 wSkip wOn, by decide +kernel⟩,
    ⟨wFw, 0, 0, wOn0 0 6 wSkip wOn, by decide +kernel⟩,
    ⟨wFw, 0, 0, wCtx 0 4 wOn, by decide +kernel⟩⟩

theorem witness_ContextsMove :
    (∃ (w : Writer) (k : Lathe) (c : Ctx) (s : State), s.judge w (dLathe (k.val / 5)) = .applied ∧ s.role k.val ≠ 0xF
      ∧ s.fld (ltStat k.val) F.LtStat.busy = 0 ∧ s.canEvict k.val c.val = true ∧ (s.lathe k.val).holder ≠ some c.val) ∧
    (∃ (w : Writer) (k : Lathe) (c : Ctx) (s : State), s.judge w (dLathe (k.val / 5)) = .applied ∧ s.role k.val ≠ 0xF
      ∧ s.fld (ltStat k.val) F.LtStat.busy = 0 ∧ s.canEvict k.val c.val = true ∧ (s.lathe k.val).holder = some c.val) ∧
    (∃ (w : Writer) (k : Lathe) (c : Ctx) (s : State), s.judge w (dLathe (k.val / 5)) = .applied ∧ s.canEvict k.val
      c.val = false) ∧
    (∃ (w : Writer) (k : Lathe) (c : Ctx) (i : Fin 16) (n : Fin 256) (x : Nat) (s : State), s.judge w (dLathe (k.val
      / 5)) = .applied ∧ s.role k.val ≠ 0xF ∧ s.fld (ltStat k.val) F.LtStat.busy = 0 ∧ s.latheOf n.val = some x ∧
      s.canEvict k.val c.val = true ∧ s.latheOfCtx x c.val = true ∧ s.slotAllowed i.val c.val = true ∧ s.slotTaken x
      i.val c.val = false ∧ (s.lathe k.val).holder ≠ some c.val ∧ (s.ctx c.val).stopping = 0 ∧ (s.ctx c.val).move =
      .none) ∧
    (∃ (w : Writer) (k : Lathe) (n : Fin 256) (s : State), s.judge w (dLathe (k.val / 5)) = .applied ∧ s.latheOf
      n.val = none) ∧
    (∃ (w : Writer) (k : Lathe) (c : Ctx) (i : Fin 16) (s : State), s.judge w (dLathe (k.val / 5)) = .applied ∧
      s.role k.val ≠ 0xF ∧ s.fld (ltStat k.val) F.LtStat.busy = 0 ∧ s.ctxState c.val = csSaved ∧ (s.ctx c.val).move =
      .none ∧ s.latheServes k.val = true ∧ s.latheOfCtx k.val c.val = true ∧ s.fitsLathe k.val (s.ctx c.val).live =
      true ∧ s.slotAllowed i.val c.val = true ∧ s.slotTaken k.val i.val c.val = false) ∧
    (∃ (c : Ctx) (s : State), s.ctxState c.val ≠ csMoving) ∧
    (∃ (c : Ctx) (s : State), s.ctxState c.val = csMoving ∧ (s.ctx c.val).move = .evict) ∧
    (∃ (c : Ctx) (x : Nat) (i : Nat) (s : State), s.ctxState c.val = csMoving ∧ (s.ctx c.val).move = .migrate x i ∧
      s.latheServes x = true ∧ (((s.saveArea c.val).unseat c.val).setCtxState c.val csSaved).fitsLathe x (s.ctx
      c.val).live = true) ∧
    (∃ (c : Ctx) (k : Nat) (i : Nat) (s : State), (s.ctx c.val).move = .restore k i ∧ i < 16 ∧ s.tierBurred 0
      (recProgBase (s.ctx c.val).live) (recProgLen (s.ctx c.val).live) = false ∧ sha256 (s.nearRead (recProgBase
      (s.ctx c.val).live) (recProgLen (s.ctx c.val).live)).bytes = recDigest (s.ctx c.val).live ∧ s.slotTaken k i
      c.val = false) ∧
    (∃ (c : Ctx) (k : Nat) (i : Nat) (s : State), (s.ctx c.val).move = .restore k i ∧ s.tierBurred 0 (recProgBase
      (s.ctx c.val).live) (recProgLen (s.ctx c.val).live) = false ∧ sha256 (s.nearRead (recProgBase (s.ctx
      c.val).live) (recProgLen (s.ctx c.val).live)).bytes ≠ recDigest (s.ctx c.val).live) ∧
    (∃ (c : Ctx) (k : Nat) (i : Nat) (s : State), (s.ctx c.val).move = .restore k i ∧ s.tierBurred 0 (recProgBase
      (s.ctx c.val).live) (recProgLen (s.ctx c.val).live) = true) ∧
    (∃ (c : Ctx) (k : Nat) (i : Nat) (s : State), (s.ctx c.val).move = .load i ∧ (s.ctx c.val).phys = some k ∧ (s.ctx
      c.val).home < 24 ∧ s.ctxState c.val = csParked ∧ recMode (s.ctx c.val).live ≠ 2 ∧ s.tierBurred 0 (recProgBase
      (s.ctx c.val).live) (recProgLen (s.ctx c.val).live) = false ∧ sha256 (s.nearRead (recProgBase (s.ctx
      c.val).live) (recProgLen (s.ctx c.val).live)).bytes = recDigest (s.ctx c.val).live) ∧
    (∃ (c : Ctx) (k : Nat) (i : Nat) (s : State), (s.ctx c.val).move = .load i ∧ (s.ctx c.val).phys = some k ∧
      s.ctxState c.val = csParked ∧ recMode (s.ctx c.val).live = 2 ∧ s.tierBurred 0 (recProgBase (s.ctx c.val).live)
      (recProgLen (s.ctx c.val).live) = false ∧ sha256 (s.nearRead (recProgBase (s.ctx c.val).live) (recProgLen
      (s.ctx c.val).live)).bytes = recDigest (s.ctx c.val).live) ∧
    (∃ (c : Ctx) (k : Nat) (i : Nat) (s : State), (s.ctx c.val).move = .load i ∧ (s.ctx c.val).phys = some k ∧
      s.tierBurred 0 (recProgBase (s.ctx c.val).live) (recProgLen (s.ctx c.val).live) = false ∧ sha256 (s.nearRead
      (recProgBase (s.ctx c.val).live) (recProgLen (s.ctx c.val).live)).bytes ≠ recDigest (s.ctx c.val).live) :=
  ⟨⟨wFw, 0, 0, wOn0 0 3 wSkip wOn, by decide +kernel⟩,
    ⟨wFw, 0, 0, wHolds 0 (wOn0 0 3 wSkip wOn), by decide +kernel⟩,
    ⟨wFw, 0, 0, State.reset, by decide +kernel⟩,
    ⟨wFw, 0, 0, 0, 1, 1, (wOn0 0 3 wSkip wOn).setDom (domLathe 1) 2, by decide +kernel⟩,
    ⟨wFw, 0, 255, State.reset, by decide +kernel⟩,
    ⟨wFw, 0, 0, 0, wCtx 0 4 (wOn.setDom (domLathe 0) 2), by decide +kernel⟩,
    ⟨0, State.reset, by decide +kernel⟩,
    ⟨0, (wOn0 0 5 wSkip wOn).setCtx 0 (fun x => { x with move := .evict, moveTo := some 0 }), by decide +kernel⟩,
    ⟨0, 1, 15, ((wOn0 0 5 wSkip wOn).setCtx 0 (fun x => { x with move := .migrate 1 15, moveTo := some 0 })).setDom
      (domLathe 1) 2, by decide +kernel⟩,
    ⟨0, 0, 15, (wDig (wOn0 0 5 wSkip wOn)).setCtx 0 (fun x => { x with move := .restore 0 15 }), by decide +kernel⟩,
    ⟨0, 0, 15, (wOn0 0 5 wSkip wOn).setCtx 0 (fun x => { x with move := .restore 0 15 }), by decide +kernel⟩,
    ⟨0, 0, 15, ((wOn0 0 5 wSkip wOn).setCtx 0 (fun x => { x with move := .restore 0 15 })).setDie 72 (fun d =>
      { d with failed := true }), by decide +kernel⟩,
    ⟨0, 0, 15, (wDig (wOn0 0 2 wSkip wOn)).setCtx 0 (fun x => { x with move := .load 15 }), by decide +kernel⟩,
    ⟨0, 0, 15, ((wDig (wOn0 0 2 wSkip wOn)).setCtx 0 (fun x => { x with move := .load 15 })).setCtx 0 (fun x =>
      { x with live := recPut x.live 2 2 (2 + 32) }), by decide +kernel⟩,
    ⟨0, 0, 15, (wOn0 0 2 wSkip wOn).setCtx 0 (fun x => { x with move := .load 15 }), by decide +kernel⟩⟩

theorem witness_Calls :
    (∃ (x : Ctx) (s : State), (s.ctx x.val).coll.pend = []) ∧
    (∃ (x : Ctx) (n : Notice) (rest : List Notice) (s : State), (s.ctx x.val).coll.pend = n :: rest ∧ s.handles x.val
      = true ∧ n.spillAt = none) ∧
    (∃ (x : Ctx) (n : Notice) (rest : List Notice) (s : State), (s.ctx x.val).coll.pend = n :: rest ∧ n.spillAt =
      none ∧ (s.ctxState x.val = csRunning ∨ s.ctxState x.val = csParked) ∧ s.hasColl x.val = false) ∧
    (∃ (x : Ctx) (s : State), (s.handles x.val = false ∨ (∀ n ∈ (s.ctx x.val).coll.pend, n.spillAt.isSome = true))) ∧
    (∃ (x : Ctx) (s : State), s.hasColl x.val = false ∧ s.ctxState x.val ≠ csIdle) ∧
    (∃ (x : Ctx) (s : State), s.hasColl x.val = false) ∧
    (∃ (x : Ctx) (s : State), (s.hasColl x.val = true ∨ s.ctxState x.val = csIdle) ∧ s.ctxState x.val ≠ csFree ∧
      s.handles x.val = false) ∧
    (∃ (x : Ctx) (s : State), s.hasColl x.val = true ∧ s.handles x.val = true) ∧
    (∃ (x : Ctx) (rank : Nat) (s : State), s.hasColl x.val = true ∧ (∀ i, i < dMembers (s.ctx x.val).coll.desc → eId
      (dEntry (s.ctx x.val).coll.desc i) ≠ rank)) ∧
    (∃ (x : Ctx) (rank : Nat) (call : Nat) (i : Nat) (p : Nat) (dst : Dest) (s : State), s.hasColl x.val = true ∧
      (List.range (dMembers (s.ctx x.val).coll.desc)).find? (fun i => eId (dEntry (s.ctx x.val).coll.desc i) = rank)
      = some i ∧ s.queryReply x.val call = some p ∧ s.destOf x.val i = some dst) ∧
    (∃ (x : Ctx) (rank : Nat) (call : Nat) (i : Nat) (p : Nat) (e : Nat) (no : Nat) (cx : Nat) (s : State), s.hasColl
      x.val = true ∧ (List.range (dMembers (s.ctx x.val).coll.desc)).find? (fun i => eId (dEntry (s.ctx
      x.val).coll.desc i) = rank) = some i ∧ s.queryReply x.val call = some p ∧ s.destOf x.val i = some (.child e no
      0x3FF cx)) ∧
    (∃ (x : Ctx) (call : Nat) (s : State), call % 2 ^ 32 ≠ recCall (s.ctx x.val).record) ∧
    (∃ (x : Ctx) (call : Nat) (st : Nat) (s : State), s.hasColl x.val = true ∧ recTop (s.ctx x.val).live = false ∧
      s.ctxState x.val ≠ csFree ∧ s.ctxState x.val ≠ csIdle ∧ s.ctxState x.val ≠ csFaulted ∧ call % 2 ^ 32 = recCall
      (s.ctx x.val).record ∧ st ≠ 0) ∧
    (∃ (x : Ctx) (call : Nat) (s : State), s.hasColl x.val = true ∧ recTop (s.ctx x.val).live = false ∧ s.ctxState
      x.val ≠ csFree ∧ s.ctxState x.val ≠ csIdle ∧ s.ctxState x.val ≠ csFaulted ∧ call % 2 ^ 32 = recCall (s.ctx
      x.val).record ∧ recHome (s.ctx x.val).live = false) ∧
    (∃ (x : Ctx) (call : Nat) (st : Nat) (s : State), s.hasColl x.val = true ∧ s.ctxState x.val ≠ csFree ∧ s.ctxState
      x.val ≠ csIdle ∧ s.ctxState x.val ≠ csFaulted ∧ call % 2 ^ 32 = recCall (s.ctx x.val).record ∧ st % 4 ≠ 0) ∧
    (∃ (x : Ctx) (call : Nat) (st : Nat) (s : State), callOf s x.val ∧ call % 2 ^ 32 = recCall (s.ctx x.val).record ∧
      st % 4 ≠ 0) ∧
    (∃ (x : Ctx) (call : Nat) (f : Nat) (s : State), s.hasColl x.val = true ∧ dNarrowOk (s.ctx x.val).coll.desc =
      true ∧ s.ctxState x.val ≠ csFree ∧ s.ctxState x.val ≠ csFaulted ∧ recTop (s.ctx x.val).live = false ∧ f =
      dNarrowFmt (s.ctx x.val).coll.desc ∧ 0 < callsAhead call (s.ctx x.val).record ∧ callsAhead call (s.ctx
      x.val).record < 2 ^ 31) ∧
    (∃ (x : Ctx) (s : State), dNarrowOk (s.ctx x.val).coll.desc = false) ∧
    (∃ (x : Ctx) (s : State), (s.ctx x.val).timedOut s.tb.tick = false) ∧
    (∃ (x : Ctx) (s : State), s.hasColl x.val = true ∧ s.ctxState x.val ≠ csFree ∧ s.ctxState x.val ≠ csIdle ∧
      s.ctxState x.val ≠ csFaulted ∧ (s.ctx x.val).timedOut s.tb.tick = true ∧ dProgram (s.ctx x.val).coll.desc ≠
      pgVote) ∧
    (∃ (x : Ctx) (s : State), callOf s x.val ∧ (s.ctx x.val).timedOut s.tb.tick = true ∧ dProgram (s.ctx
      x.val).coll.desc ≠ pgVote) :=
  ⟨⟨5, State.reset, by decide +kernel⟩,
    ⟨5, wNotice, [], (wCtx 5 3 wOn).setColl 5 (fun q => { q with pend := [wNotice] }), by decide +kernel⟩,
    ⟨5, wNotice, [], (wCtx 5 3 wOn).setColl 5 (fun q => { q with pend := [wNotice] }), by decide +kernel⟩,
    ⟨5, State.reset, by decide +kernel⟩,
    ⟨5, State.reset, by decide +kernel⟩,
    ⟨5, State.reset, by decide +kernel⟩,
    ⟨5, wColl 5 1 (wCtx 5 6 wOn), by decide +kernel⟩,
    ⟨5, wColl 5 1 (wCtx 5 3 wOn), by decide +kernel⟩,
    ⟨5, 7, wColl 5 1 (wCtx 5 3 wOn), by decide +kernel⟩,
    ⟨5, 3, 0, 0, completePayload 3 4 0 0 0 0 0 0 [], .child 0 3 0 0, (wColl 5 (1 + 2 ^ 32 + (2 ^ 62 + 3 * 2 ^ 32) * 2
      ^ 512) (wCtx 5 3 wOn)).setColl 5 (fun q => { q with desc := ⟨72, q.desc.val⟩ }), by decide +kernel⟩,
    ⟨5, 3, 0, 0, completePayload 3 4 0 0 0 0 0 0 [], 0, 3, 7, (wColl 5 (1 + 2 ^ 32 + (2 ^ 62 + 3 * 2 ^ 32 + 0x3FF * 2
      ^ 22 + 7 * 2 ^ 8) * 2 ^ 512) (wCtx 5 3 wOn)).setColl 5 (fun q => { q with desc := ⟨72, q.desc.val⟩ }), by
      decide +kernel⟩,
    ⟨5, 1, State.reset, by decide +kernel⟩,
    ⟨5, 0, 2, wColl 5 1 (wCtx 5 3 wOn), by decide +kernel⟩,
    ⟨5, 0, wColl 5 1 (wCtx 5 3 wOn), by decide +kernel⟩,
    ⟨5, 0, 1, wColl 5 1 (wCtx 5 3 wOn), by decide +kernel⟩,
    ⟨5, 0, 1, wColl 5 1 ((wCtx 5 8 wOn).setCtx 5 (fun x => { x with live := recPut x.live 508 4 8 })), by
      decide +kernel⟩,
    ⟨5, 2, 3, wColl 5 (1 + 256 + 3 * 2 ^ 96) (wCtx 5 3 wOn), by decide +kernel⟩,
    ⟨5, State.reset, by decide +kernel⟩,
    ⟨5, State.reset, by decide +kernel⟩,
    ⟨5, wAt 1000 ((wColl 5 (1 + 2 ^ 192) (wCtx 5 3 wOn)).setColl 5 (fun q => { q with firstAcc := some 0 })), by
      decide +kernel⟩,
    ⟨5, wAt 1000 ((wColl 5 (1 + 2 ^ 192) ((wCtx 5 8 wOn).setCtx 5 (fun x =>
      { x with live := recPut x.live 508 4 8 }))).setColl 5 (fun q => { q with firstAcc := some 0 })), by
      decide +kernel⟩⟩

theorem witness_JobCommands :
    (∃ (w : Writer) (j : Job) (s : State), s.judge w (writerDie w) = .applied ∧ s.jobs.checking = none ∧ (s.job
      j.val).state ≠ .free) ∧
    (∃ (w : Writer) (j : Job) (s : State), s.judge w (writerDie w) = .applied ∧ s.jobs.checking = none ∧ (s.job
      j.val).state ≠ .admitted) ∧
    (∃ (w : Writer) (j : Job) (s : State), s.judge w (writerDie w) = .applied ∧ s.jobs.checking = none ∧ (∀ x ∈
      s.jobs.waiting, x.job ≠ j.val)) ∧
    (∃ (w : Writer) (s : State), s.judge w (writerDie w) = .applied ∧ s.jobs.checking.isSome = true) ∧
    (∃ (w : Writer) (j : Job) (s : State), s.judge w (writerDie w) = .applied ∧ s.jobs.checking = none ∧ (s.job
      j.val).state = .free) ∧
    (∃ (w : Writer) (j : Job) (s : State), s.judge w (writerDie w) = .applied ∧ s.jobs.checking = none ∧ (s.job
      j.val).state = .admitted) ∧
    (∃ (s : State), s.jobs.checking = none) ∧
    (∃ (s : State) (j : Nat) (cmd : Nat) (e : Nat), s.jobs.checking = some (j, cmd) ∧ j < 65536 ∧ cmd < 4 ∧ (cmd = 3
      ∨ s.tierBurred 0 (s.jobAddr j) 256 = false) ∧ s.jobCmdCheck (s.planeFor (s.tb.turn + 2)) j cmd (s.job
      j).nextRec = e ∧ e ≠ 0 ∧ e < 16) ∧
    (∃ (s : State) (j : Nat) (cmd : Nat), s.jobs.checking = some (j, cmd) ∧ 1 ≤ cmd ∧ cmd < 4 ∧ (cmd = 3 ∨
      s.tierBurred 0 (s.jobAddr j) 256 = false) ∧ s.jobCmdCheck (s.planeFor (s.tb.turn + 2)) j cmd (s.job j).nextRec
      = 0) ∧
    (∃ (w : Writer) (j : Job) (x : JobCmd) (s : State), s.judge w (writerDie w) = .applied ∧ s.jobs.checking = none ∧
      s.jobs.waiting.find? (fun y => decide (y.job = j.val)) = some x) ∧
    (∃ (w : Writer) (v : W64) (s : State), s.judge w (writerDie w) = .applied ∧ (v.toNat % 2 ^ 24 ≠ 0 ∨ s.liveJobs ≠
      [])) ∧
    (∃ (w : Writer) (v : W64) (s : State), s.judge w (writerDie w) = .applied ∧ v.toNat % 2 ^ 24 = 0 ∧ s.liveJobs =
      []) ∧
    (∃ (j : Job) (s : State), (s.job j.val).state = .draining ∧ (s.jobInside j.val = false ∨ (s.job
      j.val).endTick.getD 0 + 1000000 * (s.job j.val).drainMs ≤ s.tb.tick)) ∧
    (∃ (j : Job) (s : State), (s.job j.val).state ≠ .draining) :=
  ⟨⟨wFw, 0, State.setJob State.reset 0 (fun x => { x with state := .admitted }), by decide +kernel⟩,
    ⟨wFw, 0, State.reset, by decide +kernel⟩,
    ⟨wFw, 0, State.reset, by decide +kernel⟩,
    ⟨wFw, wCheck 0 1 State.reset, by decide +kernel⟩,
    ⟨wFw, 0, State.reset, by decide +kernel⟩,
    ⟨wFw, 0, State.setJob State.reset 0 (fun x => { x with state := .admitted }), by decide +kernel⟩,
    ⟨State.reset, by decide +kernel⟩,
    ⟨wCheck 0 1 State.reset, 0, 1, 2, by decide +kernel⟩,
    ⟨wCheck 0 3 (State.setJob State.reset 0 (fun x => { x with state := .admitted })), 0, 3, by decide +kernel⟩,
    ⟨wFw, 0, ⟨0, 1, .free, 2⟩, wWait 0 1 (State.setJob State.reset 0 (fun x => { x with state := .admitting })), by
      decide +kernel⟩,
    ⟨wFw, 1, State.reset, by decide +kernel⟩,
    ⟨wFw, 0, State.reset, by decide +kernel⟩,
    ⟨0, State.setJob State.reset 0 (fun x => { x with state := .draining }), by decide +kernel⟩,
    ⟨0, State.reset, by decide +kernel⟩⟩

theorem witness_FencesJudge :
    (∃ (f : Fence) (now : Nat) (t : Nat), t = f.term ∧ now ≤ f.expiry) ∧
    (∃ (f : Fence) (now : Nat) (t : Nat), t = f.term ∧ f.expiry < now) ∧
    (∃ (f : Fence) (t : Nat), t < f.term) ∧
    (∃ (f : Fence) (t : Nat), f.term < t) ∧
    (∃ (sv : Sv) (term : Option Nat) (off : Nat) (d : Nat) (r : RegDesc) (s : State), off % 8 = 0 ∧ regAt off = some
      r ∧ r.block ∈ [.ptd, .bch, .nt, .ft, .ltd, .lt, .brg] ∧ dieAt off = some d ∧ s.judge (.fw sv term) d = .old) ∧
    (∃ (sv : Sv) (term : Option Nat) (off : Nat) (d : Nat) (r : RegDesc) (s : State), off % 8 = 0 ∧ regAt off = some
      r ∧ r.block ∈ [.ptd, .bch, .nt, .ft, .ltd, .lt, .brg] ∧ dieAt off = some d ∧ s.judge (.fw sv term) d = .ahead) ∧
    (∃ (fn : Sv) (off : Nat) (r : RegDesc) (s : State), s.hostIn fn.val = true ∧ msixArea off = false ∧ off % 8 = 0 ∧
      regAt off = some r ∧ r.block = .glb ∧ s.fld (fnReg fn.val R.hifOvr) F.HifOvr.grant = 0) ∧
    (∃ (d : Nat), d < 32) ∧
    (∃ (d : Nat), 32 ≤ d ∧ d < 56) ∧
    (∃ (d : Nat), 56 ≤ d ∧ d < 72) ∧
    (∃ (d : Nat), 72 ≤ d ∧ d < 80) ∧
    (∃ (d : Nat), 80 ≤ d ∧ d < 84) ∧
    (∃ (d : Nat), 84 ≤ d ∧ d < 96) :=
  ⟨⟨⟨3, 10, []⟩, 10, 3, by decide +kernel⟩,
    ⟨⟨3, 10, []⟩, 11, 3, by decide +kernel⟩,
    ⟨⟨3, 10, []⟩, 2, by decide +kernel⟩,
    ⟨⟨3, 10, []⟩, 4, by decide +kernel⟩,
    ⟨0, none, 0x01000400, 0, (regAt 0x01000400).get (by decide +kernel), State.reset, by decide +kernel⟩,
    ⟨0, some 1, 0x01000400, 0, (regAt 0x01000400).get (by decide +kernel), State.reset, by decide +kernel⟩,
    ⟨0, 0x200, (regAt 0x200).get (by decide +kernel), State.reset, by decide +kernel⟩,
    ⟨31, by decide +kernel⟩,
    ⟨55, by decide +kernel⟩,
    ⟨71, by decide +kernel⟩,
    ⟨79, by decide +kernel⟩,
    ⟨83, by decide +kernel⟩,
    ⟨95, by decide +kernel⟩⟩

theorem witness_RegisterAccesses :
    (∃ (f : Fld), f.lo ≤ f.hi ∧ f.hi < 64 ∧ f.acc = .rw) ∧
    (∃ (f : Fld) (i : _), f.lo ≤ f.hi ∧ f.hi < 64 ∧ f.acc = .w1c ∧ i < f.wid) ∧
    (∃ (f : Fld) (i : _), f.lo ≤ f.hi ∧ f.hi < 64 ∧ f.acc = .w1s ∧ i < f.wid) ∧
    (∃ (f : Fld), f.lo ≤ f.hi ∧ f.hi < 64 ∧ (f.acc = .ro ∨ f.acc = .rc ∨ f.acc = .wo)) ∧
    (∃ (sv : Sv) (term : Option Nat) (off : Nat) (d : Nat) (r : RegDesc) (s : State), off % 8 = 0 ∧ regAt off = some
      r ∧ r.block ∈ [.ptd, .bch, .nt, .ft, .ltd, .lt, .brg] ∧ dieAt off = some d ∧ 72 ≤ d ∧ off ≠ errqReg d + 0x28 ∧
      s.judge (.fw sv term) d = .applied) ∧
    (∃ (off : Nat) (size : Nat), (size ≠ 8 ∨ off % 8 ≠ 0 ∨ regAt off = none)) ∧
    (∃ (fn : Sv) (off : Nat) (size : Nat) (s : State), s.hostIn fn.val = true ∧ msixArea off = false ∧ (size ≠ 8 ∨
      off % 8 ≠ 0)) ∧
    (∃ (fn : Sv) (off : Nat) (s : State), s.hostIn fn.val = true ∧ msixArea off = false ∧ off % 8 = 0 ∧ (regAt off =
      none ∨ ∃ r, regAt off = some r ∧ r.block ∈ [.sv, .tb, .ptd, .bch, .nt, .ft, .ltd, .lt, .brg, .err])) ∧
    (∃ (fn : Sv) (off : Nat) (s : State), s.hostIn fn.val = true ∧ off % 8 = 0 ∧ dieAt off = none ∧ off ≠ R.conCap 0
      ∧ off ≠ R.conCap 1) ∧
    (∃ (fn : Sv) (off : Nat) (d : Nat) (s : State), s.hostIn fn.val = true ∧ off % 8 = 0 ∧ dieAt off = some d ∧
      s.dieSilent off = false) ∧
    (∃ (fn : Sv) (off : Nat) (s : State), s.hostIn fn.val = true ∧ (off % 8 ≠ 0 ∨ s.dieSilent off = true)) ∧
    (∃ (fn : Sv) (off : Nat) (size : Nat) (s : State), s.hostIn fn.val = true ∧ msixArea off = false ∧ ¬ (size = 8 ∧
      off % 8 = 0) ∧ ¬ (size = 4 ∧ off % 4 = 0)) ∧
    (∃ (fn : Sv) (off : Nat) (d : Nat) (s : State), s.hostIn fn.val = true ∧ off % 8 = 0 ∧ dieAt off = some d) ∧
    (∃ (fn : Sv) (off : Nat) (s : State), s.hostIn fn.val = true ∧ off % 4 = 0 ∧ s.dieSilent off = false) :=
  ⟨⟨F.PtdPortCtl.holddownMs, by decide +kernel⟩,
    ⟨F.PtdPortStat.cmdRefused, 0, by decide +kernel⟩,
    ⟨⟨3, 0, .w1s, 0⟩, 0, by decide +kernel⟩,
    ⟨F.PtdPortStat.state, by decide +kernel⟩,
    ⟨0, some 0, 0x01A0FE00, 72, (regAt 0x01A0FE00).get (by decide +kernel), State.reset, by decide +kernel⟩,
    ⟨0, 4, by decide +kernel⟩,
    ⟨0, 0, 4, State.reset, by decide +kernel⟩,
    ⟨0, 0x7F8, State.reset, by decide +kernel⟩,
    ⟨0, 0x00403000, State.reset, by decide +kernel⟩,
    ⟨0, 0x01000400, 0, State.reset.setDom (domPort 0) 2, by decide +kernel⟩,
    ⟨0, 4, State.reset, by decide +kernel⟩,
    ⟨0, 4, 2, State.reset, by decide +kernel⟩,
    ⟨0, 0x01000400, 0, State.reset, by decide +kernel⟩,
    ⟨0, 0, State.reset, by decide +kernel⟩⟩

theorem witness_HostFifo :
    (∃ (fn : Sv) (s : State), s.hostIn fn.val = true ∧ (s.fn fn.val).fifo.length < 512) ∧
    (∃ (fn : Sv) (s : State), s.hostIn fn.val = true ∧ 512 ≤ (s.fn fn.val).fifo.length) ∧
    (∃ (fn : Sv) (s : State), s.hostIn fn.val = true) ∧
    (∃ (fn : Sv) (s : State), ((s.fn fn.val).taken.isSome = true ∨ splitCmd (s.fn fn.val).fifo = none ∨ s.leader =
      none)) ∧
    (∃ (fn : Sv) (ws : List HcfWord) (rest : List HcfWord) (h : W64) (c : HcfCmd) (s : State), (s.fn fn.val).taken =
      none ∧ s.leader.isSome = true ∧ splitCmd (s.fn fn.val).fifo = some (ws, rest) ∧ h = (ws.map (fun w =>
      w.word)).headD 0 ∧ c = hcfHeader h ∧ c.reply.isSome = true ∧ ws.any (fun w => w.broken) = true) ∧
    (∃ (fn : Sv) (ws : List HcfWord) (rest : List HcfWord) (h : W64) (c : HcfCmd) (s : State), (s.fn fn.val).taken =
      none ∧ s.leader.isSome = true ∧ splitCmd (s.fn fn.val).fifo = some (ws, rest) ∧ h = (ws.map (fun w =>
      w.word)).headD 0 ∧ c = hcfHeader h ∧ c.reply.isSome = true ∧ ws.any (fun w => w.broken) = false ∧ ws.any (fun w
      => !w.parityOk) = true) ∧
    (∃ (fn : Sv) (ws : List HcfWord) (rest : List HcfWord) (h : W64) (c : HcfCmd) (s : State), (s.fn fn.val).taken =
      none ∧ s.leader.isSome = true ∧ splitCmd (s.fn fn.val).fifo = some (ws, rest) ∧ h = (ws.map (fun w =>
      w.word)).headD 0 ∧ c = hcfHeader h ∧ c.reply.isSome = true ∧ ws.any (fun w => w.broken) = false ∧ ws.any (fun w
      => !w.parityOk) = false ∧ bitsOf h.toNat 0 10 ≠ ws.length) ∧
    (∃ (fn : Sv) (ws : List HcfWord) (rest : List HcfWord) (h : W64) (c : HcfCmd) (s : State), (s.fn fn.val).taken =
      none ∧ s.leader.isSome = true ∧ splitCmd (s.fn fn.val).fifo = some (ws, rest) ∧ h = (ws.map (fun w =>
      w.word)).headD 0 ∧ c = hcfHeader h ∧ c.reply.isSome = true ∧ ws.any (fun w => w.broken) = false ∧ ws.any (fun w
      => !w.parityOk) = false ∧ bitsOf h.toNat 0 10 = ws.length ∧ s.fnLeads fn.val = false) ∧
    (∃ (fn : Sv) (ws : List HcfWord) (rest : List HcfWord) (h : W64) (c : HcfCmd) (s : State), (s.fn fn.val).taken =
      none ∧ s.leader.isSome = true ∧ splitCmd (s.fn fn.val).fifo = some (ws, rest) ∧ h = (ws.map (fun w =>
      w.word)).headD 0 ∧ c = hcfHeader h ∧ c.reply.isSome = true ∧ ws.any (fun w => w.broken) = false ∧ ws.any (fun w
      => !w.parityOk) = false ∧ bitsOf h.toNat 0 10 = ws.length ∧ s.fnLeads fn.val = true ∧ (c.code = 0 ∨ 0x0A <
      c.code)) ∧
    (∃ (fn : Sv) (ws : List HcfWord) (rest : List HcfWord) (h : W64) (c : HcfCmd) (s : State), (s.fn fn.val).taken =
      none ∧ s.leader.isSome = true ∧ splitCmd (s.fn fn.val).fifo = some (ws, rest) ∧ h = (ws.map (fun w =>
      w.word)).headD 0 ∧ c = hcfHeader h ∧ c.reply.isSome = true ∧ ws.any (fun w => w.broken) = false ∧ ws.any (fun w
      => !w.parityOk) = false ∧ bitsOf h.toNat 0 10 = ws.length ∧ s.fnLeads fn.val = true ∧ 1 ≤ c.code ∧ c.code ≤
      0x0A) :=
  ⟨⟨0, State.reset, by decide +kernel⟩,
    ⟨0, State.reset.setFn 0 (fun x => { x with fifo := List.replicate 512 ⟨0, true, false, false⟩ }), by
      decide +kernel⟩,
    ⟨0, State.reset, by decide +kernel⟩,
    ⟨0, State.reset, by decide +kernel⟩,
    ⟨0, [⟨wHead 2, true, true, true⟩], [], wHead 2, hcfHeader (wHead 2), State.setFn wLed 0 (fun x =>
      { x with fifo := [⟨wHead 2, true, true, true⟩] }), by decide +kernel⟩,
    ⟨0, [⟨wHead 2, false, true, false⟩], [], wHead 2, hcfHeader (wHead 2), State.setFn wLed 0 (fun x =>
      { x with fifo := [⟨wHead 2, false, true, false⟩] }), by decide +kernel⟩,
    ⟨0, [⟨wHead 2 + 1, true, true, false⟩], [], wHead 2 + 1, hcfHeader (wHead 2 + 1), State.setFn wLed 0 (fun x =>
      { x with fifo := [⟨wHead 2 + 1, true, true, false⟩] }), by decide +kernel⟩,
    ⟨1, [⟨wHead 2, true, true, false⟩], [], wHead 2, hcfHeader (wHead 2), State.setFn wLed 1 (fun x =>
      { x with fifo := [⟨wHead 2, true, true, false⟩] }), by decide +kernel⟩,
    ⟨0, [⟨wHead 11, true, true, false⟩], [], wHead 11, hcfHeader (wHead 11), State.setFn wLed 0 (fun x =>
      { x with fifo := [⟨wHead 11, true, true, false⟩] }), by decide +kernel⟩,
    ⟨0, [⟨wHead 2, true, true, false⟩], [], wHead 2, hcfHeader (wHead 2), State.setFn wLed 0 (fun x =>
      { x with fifo := [⟨wHead 2, true, true, false⟩] }), by decide +kernel⟩⟩

theorem witness_HostCommands :
    (∃ (fn : Sv) (i : Instr) (code : Nat) (nargs : Nat) (s : State), (i, code, nargs) ∈ hostCommands fn ∧ (s.fn
      fn.val).taken = none) ∧
    (∃ (fn : Sv) (i : Instr) (code : Nat) (nargs : Nat) (s : State) (c : _), (i, code, nargs) ∈ hostCommands fn ∧
      (s.fn fn.val).taken = some c ∧ (c.code ≠ code ∨ s.leader = none)) ∧
    (∃ (fn : Sv) (i : Instr) (code : Nat) (nargs : Nat) (s : State) (c : _), (i, code, nargs) ∈ hostCommands fn ∧
      (s.fn fn.val).taken = some c ∧ c.code = code ∧ s.leader.isSome = true ∧ s.fnLeads fn.val = false) ∧
    (∃ (fn : Sv) (i : Instr) (code : Nat) (nargs : Nat) (s : State) (c : _) (args : _), (i, code, nargs) ∈
      hostCommands fn ∧ inHand s fn.val c code args ∧ args.length ≠ nargs) ∧
    (∃ (fn : Sv) (c : HcfCmd) (list : Nat) (len : Nat) (s : State), inHand s fn.val c 1 [list, len] ∧ list % 64 = 0 ∧
      len % 256 = 0 ∧ 8192 ≤ len ∧ len ≤ 2 ^ 28 ∧ s.chanBusy 0 = false ∧ s.mayLoad = true ∧ s.hif fn.val
      F.HifStat.bme = 1 ∧ s.hif fn.val F.HifStat.dState = 0) ∧
    (∃ (fn : Sv) (c : HcfCmd) (list : Nat) (len : Nat) (s : State), inHand s fn.val c 1 [list, len] ∧ (list % 64 ≠ 0
      ∨ len % 256 ≠ 0 ∨ len < 8192 ∨ 2 ^ 28 < len)) ∧
    (∃ (fn : Sv) (c : HcfCmd) (s : State), inHand s fn.val c 2 [] ∧ s.judge s.leaderWriter (writerDie s.leaderWriter)
      = .applied ∧ s.imgState = 2) ∧
    (∃ (fn : Sv) (c : HcfCmd) (x : Nat) (tm : Nat) (s : State), inHand s fn.val c 3 [x] ∧ x < 2 ^ 32 ∧
      (s.majority.map (fun m => m.1)).getD 0 = tm) ∧
    (∃ (fn : Sv) (c : HcfCmd) (x : Nat) (tm : Nat) (p : Plane) (s : State), inHand s fn.val c 3 [x] ∧ x < 2 ^ 32 ∧
      (s.majority.map (fun m => m.1)).getD 0 = tm ∧ s.judge s.leaderWriter (writerDie s.leaderWriter) = .applied ∧
      s.imgState = 4 ∧ s.img.shadow = some p ∧ s.tb.turn + 3 ≤ s.turnNamed x ∧ s.turnNamed x ≤ s.tb.turn + 2 ^ 20 ∧
      (((handed s fn.val).setFld R.svImgStat F.SvImgStat.cmdRefused 0).setFld R.svImgCtl F.SvImgCtl.targetTurn
      x).liveOk p (s.turnNamed x) = true) ∧
    (∃ (fn : Sv) (c : HcfCmd) (s : State), inHand s fn.val c 4 [] ∧ s.judge s.leaderWriter (writerDie s.leaderWriter)
      = .applied ∧ s.imgState = 5) ∧
    (∃ (fn : Sv) (c : HcfCmd) (s : State), inHand s fn.val c 5 [] ∧ s.judge s.leaderWriter (writerDie s.leaderWriter)
      = .applied ∧ (s.imgState = 2 ∨ s.imgState = 4 ∨ s.imgState = 8)) ∧
    (∃ (fn : Sv) (c : HcfCmd) (a : Nat) (s : State), inHand s fn.val c 6 [a] ∧ (F.HifWin.tier.get (BitVec.ofNat 64 a)
      = 1 ∨ F.HifWin.tier.get (BitVec.ofNat 64 a) = 2) ∧ BitVec.ofNat 64 a &&& ~~~ (F.HifWin.wr.mask |||
      F.HifWin.tier.mask ||| F.HifWin.lenMib.mask ||| F.HifWin.base.mask) = 0 ∧ 1 ≤ F.HifWin.lenMib.get (BitVec.ofNat
      64 a) ∧ F.HifWin.lenMib.get (BitVec.ofNat 64 a) ≤ 1024 ∧ (F.HifWin.base.get (BitVec.ofNat 64 a) +
      F.HifWin.lenMib.get (BitVec.ofNat 64 a)) * 2 ^ 20 ≤ s.tierBytes (F.HifWin.tier.get (BitVec.ofNat 64 a))) ∧
    (∃ (fn : Sv) (c : HcfCmd) (a : Nat) (s : State), inHand s fn.val c 6 [a] ∧ F.HifWin.tier.get (BitVec.ofNat 64 a)
      = 3) ∧
    (∃ (fn : Sv) (c : HcfCmd) (n : Nat) (list : Nat) (d : Dump) (s : State), inHand s fn.val c 7 [n, list] ∧
      s.err.dumps.get (fun _ => none) (n % 8) = some d ∧ d.number = n ∧ list % 64 = 0 ∧ s.chanBusy 1 = false ∧ s.hif
      fn.val F.HifStat.bme = 1 ∧ s.hif fn.val F.HifStat.dState = 0) ∧
    (∃ (fn : Sv) (c : HcfCmd) (n : Nat) (list : Nat) (s : State), inHand s fn.val c 7 [n, list] ∧ s.err.dumps.get
      (fun _ => none) (n % 8) = none) ∧
    (∃ (fn : Sv) (c : HcfCmd) (s : State), inHand s fn.val c 8 [1]) ∧
    (∃ (fn : Sv) (c : HcfCmd) (s : State), inHand s fn.val c 8 [0]) ∧
    (∃ (fn : Sv) (c : HcfCmd) (copy : Nat) (list : Nat) (len : Nat) (s : State), inHand s fn.val c 9 [copy, list,
      len] ∧ copy < 2 ∧ list % 64 = 0 ∧ len % 64 = 0 ∧ 0 < len ∧ len ≤ flashBytes ∧ s.fld R.glbBoot F.GlbBoot.copy =
      copy) ∧
    (∃ (fn : Sv) (c : HcfCmd) (copy : Nat) (list : Nat) (len : Nat) (s : State), inHand s fn.val c 9 [copy, list,
      len] ∧ copy < 2 ∧ list % 64 = 0 ∧ len % 64 = 0 ∧ 0 < len ∧ len ≤ flashBytes ∧ s.fld R.glbBoot F.GlbBoot.copy ≠
      copy ∧ s.chanBusy 0 = false ∧ s.hif fn.val F.HifStat.bme = 1 ∧ s.hif fn.val F.HifStat.dState = 0) ∧
    (∃ (fn : Sv) (c : HcfCmd) (s : State), inHand s fn.val c 10 []) :=
  ⟨⟨0, .window 0, 6, 1, State.reset, by decide +kernel⟩,
    ⟨0, .window 0, 6, 1, State.setFn wLed 0 (fun x => { x with taken := some ⟨2, 0, some 16, []⟩ }), ⟨2, 0, some 16,
      []⟩, by decide +kernel⟩,
    ⟨1, .imageCheck 1, 2, 0, State.setFn wLed 1 (fun x => { x with taken := some ⟨2, 0, some 16, []⟩ }), ⟨2, 0, some
      16, []⟩, by decide +kernel⟩,
    ⟨0, .window 0, 6, 1, State.setFn wLed 0 (fun x => { x with taken := some ⟨6, 0, some 16, []⟩ }), ⟨6, 0, some 16,
      []⟩, [], by decide +kernel⟩,
    ⟨0, ⟨1, 0, some 16, [64, 8192]⟩, 64, 8192, State.setFn (State.setHif wLed 0 F.HifStat.bme 1) 0 (fun x =>
      { x with taken := some ⟨1, 0, some 16, [64, 8192]⟩ }), by decide +kernel⟩,
    ⟨0, ⟨1, 0, some 16, [64, 8193]⟩, 64, 8193, State.setFn wLed 0 (fun x =>
      { x with taken := some ⟨1, 0, some 16, [64, 8193]⟩ }), by decide +kernel⟩,
    ⟨0, ⟨2, 0, some 16, []⟩, State.setFn (wHeld.setFld R.svImgStat F.SvImgStat.state 2) 0 (fun x =>
      { x with taken := some ⟨2, 0, some 16, []⟩ }), by decide +kernel⟩,
    ⟨0, ⟨3, 0, some 16, [7]⟩, 7, 1, State.setFn wLed 0 (fun x => { x with taken := some ⟨3, 0, some 16, [7]⟩ }), by
      decide +kernel⟩,
    ⟨0, ⟨3, 0, some 16, [3]⟩, 3, 1, wPlane, State.setFn (wImg 4
      { wHeld with img := { wHeld.img with shadow := some wPlane } }) 0 (fun x =>
      { x with taken := some ⟨3, 0, some 16, [3]⟩ }), by decide +kernel⟩,
    ⟨0, ⟨4, 0, some 16, []⟩, State.setFn (wHeld.setFld R.svImgStat F.SvImgStat.state 5) 0 (fun x =>
      { x with taken := some ⟨4, 0, some 16, []⟩ }), by decide +kernel⟩,
    ⟨0, ⟨5, 0, some 16, []⟩, State.setFn (wHeld.setFld R.svImgStat F.SvImgStat.state 4) 0 (fun x =>
      { x with taken := some ⟨5, 0, some 16, []⟩ }), by decide +kernel⟩,
    ⟨0, ⟨6, 0, some 16, [(F.HifWin.lenMib.put (F.HifWin.tier.put 0 1) 1024)]⟩, (F.HifWin.lenMib.put
      (F.HifWin.tier.put 0 1) 1024).toNat, State.setFn wLed 0 (fun x =>
      { x with taken := some ⟨6, 0, some 16, [(F.HifWin.lenMib.put (F.HifWin.tier.put 0 1) 1024)]⟩ }), by
      decide +kernel⟩,
    ⟨0, ⟨6, 0, some 16, [(F.HifWin.tier.put 0 3)]⟩, (F.HifWin.tier.put 0 3).toNat, State.setFn wLed 0 (fun x =>
      { x with taken := some ⟨6, 0, some 16, [(F.HifWin.tier.put 0 3)]⟩ }), by decide +kernel⟩,
    ⟨0, ⟨7, 0, some 16, [1, 64]⟩, 1, 64, wDump, State.setFn
      ({ (State.setHif wLed 0 F.HifStat.bme 1 : State) with err := { wLed.err with dumps := wLed.err.dumps.set (fun _ => none) 1 (some wDump) } })
      0 (fun x => { x with taken := some ⟨7, 0, some 16, [1, 64]⟩ }), by decide +kernel⟩,
    ⟨0, ⟨7, 0, some 16, [3, 64]⟩, 3, 64, State.setFn wLed 0 (fun x =>
      { x with taken := some ⟨7, 0, some 16, [3, 64]⟩ }), by decide +kernel⟩,
    ⟨0, ⟨8, 0, some 16, [1]⟩, State.setFn wLed 0 (fun x => { x with taken := some ⟨8, 0, some 16, [1]⟩ }), by
      decide +kernel⟩,
    ⟨0, ⟨8, 0, some 16, [0]⟩, State.setFn wLed 0 (fun x => { x with taken := some ⟨8, 0, some 16, [0]⟩ }), by
      decide +kernel⟩,
    ⟨0, ⟨9, 0, some 16, [0, 64, 64]⟩, 0, 64, 64, State.setFn wLed 0 (fun x =>
      { x with taken := some ⟨9, 0, some 16, [0, 64, 64]⟩ }), by decide +kernel⟩,
    ⟨0, ⟨9, 0, some 16, [1, 64, 64]⟩, 1, 64, 64, State.setFn (State.setHif wLed 0 F.HifStat.bme 1) 0 (fun x =>
      { x with taken := some ⟨9, 0, some 16, [1, 64, 64]⟩ }), by decide +kernel⟩,
    ⟨0, ⟨10, 0, some 16, []⟩, State.setFn ({ wLed with err := { wLed.err with evtSeq := 2 } }) 0 (fun x =>
      { x with taken := some ⟨10, 0, some 16, []⟩ }), by decide +kernel⟩⟩

theorem witness_WindowAndDma :
    (∃ (fn : Sv) (off : Nat) (len : Nat) (tier : Nat) (a : Nat) (s : State), s.hostIn fn.val = true ∧ len ≤ 512 ∧
      s.bar2At fn.val off len = some (tier, a) ∧ s.tierBurred tier a len = false) ∧
    (∃ (fn : Sv) (off : Nat) (len : Nat) (s : State), s.hostIn fn.val = true ∧ len ≤ 512 ∧ s.bar2At fn.val off len =
      none) ∧
    (∃ (fn : Sv) (off : Nat) (tier : Nat) (a : Nat) (b : Blob) (s : State), s.hostIn fn.val = true ∧ b.len ≤ 512 ∧
      s.bar2At fn.val off b.len = some (tier, a) ∧ s.fld (fnReg fn.val R.hifWin) F.HifWin.wr = 1) ∧
    (∃ (fn : Sv) (off : Nat) (b : Blob) (s : State), s.hostIn fn.val = true ∧ b.len ≤ 512 ∧ (s.bar2At fn.val off
      b.len = none ∨ s.fld (fnReg fn.val R.hifWin) F.HifWin.wr = 0)) ∧
    (∃ (ch : Fin 2) (s : State), s.chan ch.val = none) ∧
    (∃ (ch : Fin 2) (b : Blob) (x : DmaChan) (s : State), s.chan ch.val = some x ∧ x.live = true ∧ x.deaf = false ∧
      x.inList = true ∧ 0 < b.len ∧ b.len < x.wait) ∧
    (∃ (ch : Fin 2) (b : Blob) (x : DmaChan) (s : State), s.chan ch.val = some x ∧ x.live = true ∧ x.deaf = false ∧
      x.inList = false ∧ 0 < b.len ∧ b.len ≤ x.wait) ∧
    (∃ (ch : Fin 2) (x : DmaChan) (s : State), s.chan ch.val = some x ∧ x.live = true ∧ x.wait ≠ 0) ∧
    (∃ (ch : Fin 2) (x : DmaChan) (s : State), s.chan ch.val = some x ∧ x.live = true ∧ x.wait ≠ 0) ∧
    (∃ (ch : Fin 2) (x : DmaChan) (s : State), s.chan ch.val = some x ∧ x.live = false ∧ x.wait ≠ 0) ∧
    (∃ (ch : Fin 2) (x : DmaChan) (s : State), s.chan ch.val = some x ∧ x.live = true ∧ x.done = true) ∧
    (∃ (v : Fin 6) (w : Fin 9), v.val ≠ 0 ∧ w.val ∈ [1, 2, 4, 8]) ∧
    (∃ (s : State), (∀ c, c < 2 → s.chan c = none)) ∧
    (∃ (k : PerstKind) (ns : Nat), (k ≠ .pin ∨ 100000 ≤ ns)) :=
  ⟨⟨0, 8, 512, 0, 8, (State.reset.setFld (fnReg 0 R.hifWin) F.HifWin.tier 1).setFld (fnReg 0 R.hifWin)
      F.HifWin.lenMib 1, by decide +kernel⟩,
    ⟨0, 0, 8, State.reset, by decide +kernel⟩,
    ⟨0, 8, 0, 8, ⟨4, 0x12345678⟩, ((State.reset.setFld (fnReg 0 R.hifWin) F.HifWin.tier 1).setFld (fnReg 0 R.hifWin)
      F.HifWin.lenMib 1).setFld (fnReg 0 R.hifWin) F.HifWin.wr 1, by decide +kernel⟩,
    ⟨0, 0, ⟨4, 5⟩, State.reset, by decide +kernel⟩,
    ⟨0, State.reset, by decide +kernel⟩,
    ⟨0, ⟨8, 5⟩, wChan, State.putChan State.reset 0 wChan, by decide +kernel⟩,
    ⟨0, ⟨64, 5⟩, { wChan with inList := false, wait := 64 }, State.putChan State.reset 0
      { wChan with inList := false, wait := 64 }, by decide +kernel⟩,
    ⟨0, wChan, State.putChan State.reset 0 wChan, by decide +kernel⟩,
    ⟨0, wChan, State.putChan State.reset 0 wChan, by decide +kernel⟩,
    ⟨0, { wChan with live := false }, State.putChan State.reset 0 { wChan with live := false }, by decide +kernel⟩,
    ⟨0, { wChan with done := true, wait := 0 }, State.putChan State.reset 0 { wChan with done := true, wait := 0 },
      by decide +kernel⟩,
    ⟨5, 8, by decide +kernel⟩,
    ⟨State.reset, by decide +kernel⟩,
    ⟨.pin, 100000, by decide +kernel⟩⟩

theorem witness_Mailboxes :
    (∃ (fn : Sv) (i : Fin 32) (s : State), s.hostIn fn.val = true ∧ bitOf (s.fld (fnReg fn.val R.mbxFull)
      F.MbxFull.h2fFull) i.val = false) ∧
    (∃ (fn : Sv) (i : Fin 32) (s : State), s.hostIn fn.val = true ∧ bitOf (s.fld (fnReg fn.val R.mbxFull)
      F.MbxFull.h2fFull) i.val = true) ∧
    (∃ (fn : Sv) (s : State), s.hostIn fn.val = true) ∧
    (∃ (fn : Sv) (i : Fin 32) (s : State), s.f2hFull fn.val i.val = true) ∧
    (∃ (fn : Sv) (i : Fin 32) (s : State), s.f2hFull fn.val i.val = false) ∧
    (∃ (fn : Sv) (s : State), s.hostIn fn.val = true ∧ (s.fn fn.val).owed = []) ∧
    (∃ (fn : Sv) (i : Fin 32) (v : W64) (s : State), s.hostIn fn.val = true ∧ (s.fn fn.val).owed = [] ∧ bitOf
      (F.MbxFull.f2hFull.get v) i.val = true) ∧
    (∃ (fn : Sv) (i : Fin 32) (off : Nat) (s : State), s.hostIn fn.val = true ∧ (off = R.mbxH2f i.val ∨ off =
      R.mbxF2h i.val ∨ off = R.mbxAck i.val ∨ off = R.mbxFull)) :=
  ⟨⟨0, 31, State.reset, by decide +kernel⟩,
    ⟨0, 31, State.reset.setFld (fnReg 0 R.mbxFull) F.MbxFull.h2fFull (2 ^ 31), by decide +kernel⟩,
    ⟨0, State.reset, by decide +kernel⟩,
    ⟨0, 31, State.reset.setFld (fnReg 0 R.mbxFull) F.MbxFull.f2hFull (2 ^ 31), by decide +kernel⟩,
    ⟨0, 31, State.reset, by decide +kernel⟩,
    ⟨0, State.reset.setFld (fnReg 0 R.mbxFull) F.MbxFull.f2hFull (2 ^ 31 + 7), by decide +kernel⟩,
    ⟨0, 31, F.MbxFull.f2hFull.put 0 (2 ^ 31), State.reset.setFld (fnReg 0 R.mbxFull) F.MbxFull.f2hFull (2 ^ 31), by
      decide +kernel⟩,
    ⟨0, 31, R.mbxAck 31, State.reset, by decide +kernel⟩⟩

theorem witness_Sideband :
    (∃ (sv : Sv) (a : BitVec 8) (pb : Bool) (stop : StopLine) (s : State), (stop = .high ∨ stop = .edgeAt9) ∧
      parityOk (s.fld (R.conCfg sv.val) F.ConCfg.parity) a pb = true ∧ (s.conInput sv.val).length < 64) ∧
    (∃ (sv : Sv) (a : BitVec 8) (pb : Bool) (stop : StopLine) (s : State), (stop = .low ∨ stop = .edgeAt8) ∧ parityOk
      (s.fld (R.conCfg sv.val) F.ConCfg.parity) a pb = true ∧ (s.conInput sv.val).length < 64) ∧
    (∃ (fn : Sv) (sv : Sv) (s : State), s.hostIn fn.val = true ∧ s.fld (R.conCfg sv.val) F.ConCfg.hostIn = 1 ∧
      (s.conInput sv.val).length < 64) ∧
    (∃ (fn : Sv) (sv : Sv) (s : State), s.hostIn fn.val = true ∧ s.fld (R.conCfg sv.val) F.ConCfg.hostIn = 1 ∧ 64 ≤
      (s.conInput sv.val).length) ∧
    (∃ (sv : Sv) (s : State), s.fld (R.conCfg sv.val) F.ConCfg.hostIn = 0) ∧
    (∃ (fn : Sv) (sv : Sv) (s : State), s.hostIn fn.val = true ∧ s.conCaptured sv.val = []) ∧
    (∃ (fn : Sv) (sv : Sv) (s : State) (b : _) (rest : _), s.hostIn fn.val = true ∧ s.conCaptured sv.val = b :: rest) ∧
    (∃ (s : State), s.side.i3cAddr.isSome = true) ∧
    (∃ (l : List (BitVec 8)) (n : Nat) (a : BitVec 7) (s : State) (i : Instr), s.side.i3cAddr = none ∧ i ∈
      [.i3cPrivateWrite l, .i3cPrivateRead n, .setnewda a, .getpid, .getbcr, .getdcr, .getstatus, .getmwl, .getmrl]) ∧
    (∃ (s : State), s.side.i3cAddr = none) ∧
    (∃ (s : State), s.side.i3cAddr.isSome = true) ∧
    (∃ (s : State), s.side.i3cAddr.isSome = true) ∧
    (∃ (a : _), a ≠ 0 ∧ a ≠ 1) ∧
    (∃ (a : Nat) (b : Blob) (s : State), s.pins.coldRst = true ∧ a + b.len ≤ flashBytes) ∧
    (∃ (s : State), s.pins.coldRst = false) :=
  ⟨⟨0, 0x41, false, .high, State.reset, by decide +kernel⟩,
    ⟨0, 0x41, false, .edgeAt8, State.reset, by decide +kernel⟩,
    ⟨0, 0, State.reset.setFld (R.conCfg 0) F.ConCfg.hostIn 1, by decide +kernel⟩,
    ⟨0, 0,
      { (State.reset.setFld (R.conCfg 0) F.ConCfg.hostIn 1 : State) with side := { State.reset.side with conIn := [(0, List.replicate 64 1)] } },
      by decide +kernel⟩,
    ⟨0, State.reset, by decide +kernel⟩,
    ⟨0, 0, State.reset, by decide +kernel⟩,
    ⟨0, 0, { State.reset with side := { State.reset.side with conCap := [(0, [300, 1])] } }, 300, [1], by
      decide +kernel⟩,
    ⟨State.withSide State.reset (fun x =>
      { x with i3cAddr := some 9, i3cOffset := 0x20, i3cQueue := [⟨0x40, 0xFF, 5⟩] }), by decide +kernel⟩,
    ⟨[], 3, 5, State.reset, .getpid, by decide +kernel⟩,
    ⟨State.reset, by decide +kernel⟩,
    ⟨State.withSide State.reset (fun x => { x with i3cAddr := some 9 }), by decide +kernel⟩,
    ⟨State.withSide State.reset (fun x => { x with i3cAddr := some 9 }), by decide +kernel⟩,
    ⟨2, by decide +kernel⟩,
    ⟨0, Blob.empty, State.reset, by decide +kernel⟩,
    ⟨{ State.reset with pins := { State.reset.pins with coldRst := false } }, by decide +kernel⟩⟩

theorem witness_Leases :
    (∃ (sv : Sv) (term : Nat) (s : State), s.stage ≠ 5 ∧ 2 ≤ ((s.votersOf (dSup sv.val)).filter (fun v => decide
      (campaigned s sv.val term v ≠ s.voter v))).length) ∧
    (∃ (sv : Sv) (term : Nat) (s : State), ((s.votersOf (dSup sv.val)).filter (fun v => decide (campaigned s sv.val
      term v ≠ s.voter v))).length < 2) ∧
    (∃ (d : Die) (v : Fin 3) (s : State), ((s.voter v.val).promised = 0 ∨ s.reaches (s.voterDie v.val) d.val =
      false)) ∧
    (∃ (d : Die) (v : Fin 3) (s : State), (s.fence d.val).term < (s.voter v.val).promised ∧ s.reaches (s.voterDie
      v.val) d.val = true) ∧
    (∃ (s : State), s.leader.isSome = true) ∧
    (∃ (s : State), s.leader = none) ∧
    (∃ (sv : Sv) (s : State), s.sup.backoff.get (fun _ => none) sv.val = none) ∧
    (∃ (sv : Sv) (b : Nat) (s : State), s.sup.backoff.get (fun _ => none) sv.val = some b ∧ s.leader = none) ∧
    (∃ (sv : Sv) (b : Nat) (s : State), s.sup.backoff.get (fun _ => none) sv.val = some b ∧ s.leader.isSome = true) :=
  ⟨⟨0, 1, wLate, by decide +kernel⟩,
    ⟨0, 0, State.reset, by decide +kernel⟩,
    ⟨0, 0, State.reset, by decide +kernel⟩,
    ⟨3, 0, wLed, by decide +kernel⟩,
    ⟨wLed, by decide +kernel⟩,
    ⟨State.reset.setFld (R.glbSvStat 0) F.GlbSvStat.state 4, by decide +kernel⟩,
    ⟨0, State.reset, by decide +kernel⟩,
    ⟨0, 5, State.reset.withSup (fun u => { u with backoff := u.backoff.set (fun _ => none) 0 (some 5) }), by
      decide +kernel⟩,
    ⟨0, 5, wLed.withSup (fun u => { u with backoff := u.backoff.set (fun _ => none) 0 (some 5) }), by decide +kernel⟩⟩

theorem witness_HandoverAndSeam :
    (∃ (w : Writer) (n : Nat) (x : Nat) (term : Nat) (h : Nat) (e : Nat) (s : State), s.judge w s.glbDie = .applied ∧
      n < 2 ∧ s.svState n = 3 ∧ s.tb.turn + 3 ≤ s.turnNamed (x % 2 ^ 32) ∧ s.turnNamed (x % 2 ^ 32) ≤ s.tb.turn + 2 ^
      20 ∧ s.img.active = none ∧ s.imgState ≠ 5 ∧ s.imgState ≠ 6 ∧ s.majority = some (term, h, e) ∧ 2 ≤ ((s.votersOf
      (dSup h)).filter (fun v => decide ((s.voter v).promised = term) && decide ((s.voter v).holder = h) && decide
      (s.tb.tick + 10000 < s.turnTick (s.turnNamed (x % 2 ^ 32))))).length) ∧
    (∃ (w : Writer) (n : Nat) (x : Nat) (s : State), s.judge w s.glbDie = .applied ∧ (2 ≤ n ∨ s.svState n ≠ 3 ∨
      s.turnNamed (x % 2 ^ 32) < s.tb.turn + 3 ∨ s.imgState = 5 ∨ s.imgState = 6)) ∧
    (∃ (w : Writer) (h : Handover) (s : State), s.judge w s.glbDie = .applied ∧ s.sup.handover = some h ∧ s.tb.tick +
      10000 ≤ s.turnTick h.turn) ∧
    (∃ (w : Writer) (h : Handover) (s : State), s.judge w s.glbDie = .applied ∧ s.sup.handover = some h ∧ s.turnTick
      h.turn < s.tb.tick + 10000) ∧
    (∃ (w : Writer) (n : Nat) (s : State), s.judge w s.glbDie = .applied ∧ n < 2 ∧ s.majority.any (fun m => decide
      (m.2.1 = n)) = false ∧ (s.die (dSup n)).failed = false) ∧
    (∃ (w : Writer) (n : Nat) (s : State), s.judge w s.glbDie = .applied ∧ (2 ≤ n ∨ s.majority.any (fun m => decide
      (m.2.1 = n)) = true)) ∧
    (∃ (sv : Sv) (s : State), (s.svState sv.val = 1 ∨ s.svState sv.val = 2) ∧ s.boot.mainDone = true) ∧
    (∃ (sv : Sv) (s : State), s.svState sv.val ≠ 1 ∧ s.svState sv.val ≠ 2) ∧
    (∃ (s : State), s.sup.seam ≠ .cut) ∧
    (∃ (s : State), s.sup.seam ≠ .cut) ∧
    (∃ (s : State) (b : Nat), s.sup.seam = .cut ∧ b ∈ [5, 6] ∧ (s.die (dBridge b)).failed = false) ∧
    (∃ (s : State), (s.fld R.glbBoot F.GlbBoot.confirmed = 0 ∨ s.leader.isSome = true ∨ s.tb.tick < s.lastLease +
      100000000)) ∧
    (∃ (s : State), s.fld R.glbBoot F.GlbBoot.confirmed = 1 ∧ s.leader = none ∧ s.lastLease + 100000000 ≤ s.tb.tick) ∧
    (∃ (s : State), s.fld R.glbBoot F.GlbBoot.confirmed = 1 ∧ s.leader = none ∧ s.lastLease + 100000000 ≤ s.tb.tick) ∧
    (∃ (w : Writer) (s : State), s.judge w s.glbDie = .applied) :=
  ⟨⟨wFw, 1, 3, 1, 0, 100, wLed.setFld (R.glbSvStat 1) F.GlbSvStat.state 3, by decide +kernel⟩,
    ⟨wFw, 2, 0, State.reset, by decide +kernel⟩,
    ⟨wFw, ⟨1, 3, 1, [0, 1]⟩, wLed.withSup (fun u => { u with handover := some ⟨1, 3, 1, [0, 1]⟩ }), by
      decide +kernel⟩,
    ⟨wFw, ⟨1, 0, 1, [0, 1]⟩, wLed.withSup (fun u => { u with handover := some ⟨1, 0, 1, [0, 1]⟩ }), by
      decide +kernel⟩,
    ⟨wFw, 1, wLed, by decide +kernel⟩,
    ⟨wFw, 0, wLed, by decide +kernel⟩,
    ⟨0,
      { (State.reset.setFld (R.glbSvStat 0) F.GlbSvStat.state 1 : State) with boot := { State.reset.boot with mainDone := true } },
      by decide +kernel⟩,
    ⟨0, State.reset, by decide +kernel⟩,
    ⟨State.reset.setFence 4 (fun _ => ⟨1, 5, []⟩), by decide +kernel⟩,
    ⟨State.reset, by decide +kernel⟩,
    ⟨State.reset.withSup (fun u => { u with seam := .cut }), 6, by decide +kernel⟩,
    ⟨State.reset, by decide +kernel⟩,
    ⟨wAt 100000000 (State.reset.setFld R.glbBoot F.GlbBoot.confirmed 1), by decide +kernel⟩,
    ⟨wAt 100000000 (State.reset.setFld R.glbBoot F.GlbBoot.confirmed 1), by decide +kernel⟩,
    ⟨wFw, State.reset, by decide +kernel⟩⟩

end Sys2Proof.Machine
end

section
/-! Records, events and register reads: what the shared operations write, said once for the statements about supplies, temperature and
switched domains (R44 to R58). -/

namespace Sys2Proof

/-- A table without some of its keys reads as before at the others. -/
theorem Tbl.get_filter_key {α : Type} (dflt : Nat → α) (t : Tbl α) (p : Nat → Bool) (k : Nat) (hk : p k = true) :
    Tbl.get dflt (t.filter (fun e => p e.1)) k = t.get dflt k := by
  induction t with
  | nil => rfl
  | cons e t ih =>
    obtain ⟨j, v⟩ := e
    rw [List.filter_cons]
    by_cases hj : k = j
    · subst hj
      simp [hk, Tbl.get]
    · split <;> simp [Tbl.get, hj, ih]

end Sys2Proof

namespace Sys2Proof.Machine

variable (s : State)

/-! ## From an operation's mask to the pieces and registers that it leaves -/

/-- Every piece of the state that is not listed lies outside the mask. -/
def Piece.outside (m : Nat) (l : List Piece) : Bool :=
  [Piece.fuses, .pins, .tb, .regs, .dies, .pdPend, .wakes, .img, .sup, .err, .side, .boot, .host, .bench, .ports, .lanes, .spares, .head,
    .jobs, .ctxs, .lathes, .near, .far, .nearBurr, .farBurr, .freeCtr, .outs, .pending].all
      (fun p => decide (p ∈ l) || !m.testBit p.bit)

theorem Piece.testBit_of_outside {m : Nat} {l : List Piece} (h : Piece.outside m l = true) (p : Piece) (hp : p ∉ l) :
    m.testBit p.bit = false := by
  simp only [Piece.outside, List.all_eq_true] at h
  have hall := h p (by cases p <;> decide)
  simpa [hp] using hall

/-- A command's mask gives the pieces that it keeps. -/
theorem TouchesX.keeps {m : Nat} {s t : State} {o : Host.Outcome State Fault Refusal} {l : List Piece} (h : TouchesX m s o)
    (e : o = .next t) (hl : Piece.outside m l = true) : s.keeps t l :=
  (h t e).keeps (Piece.testBit_of_outside hl)

/-- An operation whose mask leaves the registers out reads every register as before. -/
theorem Touches.rd {m : Nat} {s t : State} (h : Touches m s t) (hm : m.testBit 3 = false) (off : Nat) : t.rd off = s.rd off :=
  State.rd_of_regs (h.same 3 hm) off

theorem Touches.fld {m : Nat} {s t : State} (h : Touches m s t) (hm : m.testBit 3 = false) (off : Nat) (f : Fld) :
    t.fld off f = s.fld off f :=
  State.fld_of_regs (h.same 3 hm) off f

theorem State.fld_of_rd {s t : State} {off : Nat} (h : t.rd off = s.rd off) (f : Fld) : t.fld off f = s.fld off f := by
  rw [State.fld, State.fld, h]

/-- What fits into a field is read back from it. -/
theorem State.fld_setFld_fit (off : Nat) (f : Fld) (x : Nat) (h : f.ok = true) (hx : x < 2 ^ f.wid) :
    (s.setFld off f x).fld off f = x := by
  rw [State.fld_setFld_same s off f x h, Nat.mod_eq_of_lt hx]

/-! ## The ERR log and the tray controller's queue (R356, R376, R381) -/

theorem State.err_logAppend (r : ErrRec) :
    (s.logAppend r).err
      = { s.err with log := s.err.log.set (fun _ => none) (s.fld R.errStat F.ErrStat.nextSeq % 1024) (some r) } := by
  unfold State.logAppend
  split
  · exact (State.msixAll_touches _ _).same 9 rfl
  · rfl

theorem State.rd_logAppend (r : ErrRec) (off : Nat) (h : off ≠ R.errStat) : (s.logAppend r).rd off = s.rd off := by
  unfold State.logAppend
  split
  · rw [(State.msixAll_touches _ _).rd rfl, State.count, State.countBy, State.rd_setFld_ne _ _ _ _ _ h, State.rd_setFld_ne _ _ _ _ _ h]
    rfl
  · rw [State.rd_setFld_ne _ _ _ _ _ h]
    rfl

theorem State.rd_keeperRec (sev die detail off : Nat) (h : off ≠ R.errStat) : (s.keeperRec sev die detail).rd off = s.rd off :=
  s.rd_logAppend _ off h

/-- The pieces that a keeper's record leaves, of those that the statements name. -/
@[simp] theorem State.keeperRec_pins (sev die detail : Nat) : (s.keeperRec sev die detail).pins = s.pins :=
  (s.keeperRec_touches _ _ _).same 1 rfl
@[simp] theorem State.keeperRec_tb (sev die detail : Nat) : (s.keeperRec sev die detail).tb = s.tb :=
  (s.keeperRec_touches _ _ _).same 2 rfl
@[simp] theorem State.keeperRec_dies (sev die detail : Nat) : (s.keeperRec sev die detail).dies = s.dies :=
  (s.keeperRec_touches _ _ _).same 4 rfl
@[simp] theorem State.keeperRec_side (sev die detail : Nat) : (s.keeperRec sev die detail).side = s.side :=
  (s.keeperRec_touches _ _ _).same 10 rfl

theorem State.i3cEvent_side (code die : Nat) :
    (s.i3cEvent code die).side = { s.side with i3cQueue := i3cPush s.side.i3cQueue ⟨code, die, s.tb.tick % 2 ^ 48⟩ } := by
  unfold State.i3cEvent
  extract_lets e src u
  split <;> rfl

@[simp] theorem State.i3cEvent_pins (code die : Nat) : (s.i3cEvent code die).pins = s.pins := (s.i3cEvent_touches _ _).same 1 rfl
@[simp] theorem State.i3cEvent_err (code die : Nat) : (s.i3cEvent code die).err = s.err := (s.i3cEvent_touches _ _).same 9 rfl

/-- A keeper's record of a supply stands where NEXT_SEQ pointed. -/
theorem State.supplyLogged_supplyEvent (sev mv : Nat) : supplyLogged s (s.supplyEvent sev mv) sev mv := by
  rw [supplyLogged, State.supplyEvent, State.keeperRec, State.err_logAppend, Tbl.get_set_same]

/-! ## Error records of dies (R378, R391) -/

theorem State.rd_showPend (off : Nat) (h : off ≠ R.glbEscStat) : s.showPend.rd off = s.rd off := by
  rw [State.showPend, State.rd_setFld_ne _ _ _ _ _ h, State.rd_setFld_ne _ _ _ _ _ h]

theorem State.rd_escalate (step die unit part off : Nat) (h : off ≠ R.glbEscStat) :
    (s.escalate step die unit part).rd off = s.rd off := by
  unfold State.escalate
  split
  · rfl
  · split
    · split <;> rfl
    · split
      · rfl
      · rw [State.rd_showPend _ _ h]
        rfl

/-- A record raised on its die changes only the die's count of lost records and the requests that GLB_ESC_STAT shows. -/
theorem State.rd_raise (r : ErrRec) (off : Nat) (hq : off ≠ errqReg r.die) (he : off ≠ R.glbEscStat) :
    (s.raise r).rd off = s.rd off := by
  unfold State.raise
  extract_lets q src s1 s2 e s3 s4 zero o
  have h1 : s1.rd off = s.rd off := by
    unfold s1
    split <;> rfl
  have h2 : s2.rd off = s.rd off := by
    unfold s2
    split
    · rw [(State.capture_touches s1).rd rfl, h1]
    · exact h1
  have h3 : s3.rd off = s.rd off := by
    unfold s3
    rw [State.count, State.countBy, State.rd_setFld_ne _ _ _ _ _ hq, h2]
  have h4 : s4.rd off = s.rd off := by
    unfold s4
    split
    · rw [(State.capture_touches s3).rd rfl, h3]
    · exact h3
  have put (t : State) (qs : List ErrRec) (step unit part : Nat) :
      ((t.setErrq r.die qs).escalate step r.die unit part).rd off = t.rd off := by
    rw [State.rd_escalate _ _ _ _ _ _ he]
    rfl
  split
  · split
    · exact h2
    · split
      · rw [put, h2]
      · split <;> rw [put, h4]
  · rw [put, h2]

end Sys2Proof.Machine
end

section
/-! Supplies that the part rides through and supplies that stop it (R58, R402, R420): O12 and O13. -/

namespace Sys2Proof.Machine

variable (s : State)

/-- A supply event changes one register: the ERR block's count of records. -/
theorem State.keepsRegs_supplyEvent (sev mv : Nat) : s.keepsRegs (s.supplyEvent sev mv) [R.errStat] := fun off h =>
  s.rd_keeperRec _ _ _ off (by simpa using h)

/-! ## What the supply commands do, in their cases -/

theorem exec_vinPkgLow (mv : Nat) (hlo : 770 ≤ mv) (hhi : mv < 850) :
    exec (.vinPkgLow mv) s
      = .next ((State.supplyEvent { s with pins := { s.pins with vinMv := mv, vinCap := some ((mv - 770) / 5) } } 0 mv).i3cEvent
          0x21 0xFF) := by
  show execVinPkgLow mv s = _
  rw [execVinPkgLow, if_neg (by simp only [Bool.or_eq_true, decide_eq_true_eq]; omega)]

theorem exec_vinPkgRecover (mv : Nat) (h : 850 ≤ mv) :
    exec (.vinPkgRecover mv) s = .next { s with pins := { s.pins with vinMv := mv, vinCap := none } } := by
  show execVinPkgRecover mv s = _
  rw [execVinPkgRecover, if_neg (by omega)]

theorem exec_vinPkgDip (mv ns : Nat) (hmv : mv < 770) (hns : ns ≤ 5000) :
    exec (.vinPkgDip mv ns) s = .next (s.supplyEvent 0 mv) := by
  show execVinPkgDip mv ns s = _
  rw [execVinPkgDip, if_neg (by simp only [Bool.or_eq_true, decide_eq_true_eq]; omega)]

theorem exec_vinPkgHigh (mv ns : Nat) (hmv : 950 < mv) (hns : mv ≤ 1000 ∨ ns ≤ 5000) :
    exec (.vinPkgHigh mv ns) s
      = .next (State.supplyEvent { s with pins := if mv ≤ 1000 then { s.pins with vinMv := mv, vinCap := none } else s.pins } 0 mv) := by
  show execVinPkgHigh mv ns s = _
  rw [execVinPkgHigh, if_neg (by simp only [Bool.or_eq_true, Bool.and_eq_true, decide_eq_true_eq]; omega)]
  split <;> rfl

/-- A power fault told and held, of a part that has lost power: a hold of a trip or of VAUX_1V8 goes on (R58). -/
def State.powerFaulted (l : State) (mv : Nat) : State :=
  let u := (l.supplyEvent 3 mv).i3cEvent 0x20 0xFF
  { u with pins := { u.pins with
      vinMv := mv, pwrFault := true, hold := if u.pins.hold = .trip ∨ u.pins.hold = .vaux then u.pins.hold else .await } }

theorem exec_powerFault (mv ns : Nat) (hmv : mv < 770 ∨ 1000 < mv) (hns : 5000 < ns) :
    exec (.powerFault mv ns) s = .next (s.losePower.powerFaulted mv) := by
  show execPowerFault mv ns s = _
  rw [execPowerFault, if_neg (by simp only [Bool.or_eq_true, Bool.and_eq_true, decide_eq_true_eq]; omega)]
  generalize s.losePower = l
  simp [State.powerFaulted]

/-- A lost VAUX_1V8, of a part that has lost power: it is held, and with the supply removed the keepers' own state goes too (R401, R420). -/
def State.vauxLost (l : State) (mv : Nat) (removed : Bool) : State :=
  let u : State := if removed then
    { l with
      regs := [], dies := [], err := State.reset.err, boot := State.reset.boot, tb := State.reset.tb
      side := { State.reset.side with flashA := l.side.flashA, flashB := l.side.flashB }
      pins := { l.pins with thermTrip := false, thermAlert := false, tripped := false } }
    else l
  { u with pins := { u.pins with vauxMv := mv, pwrFault := true, hold := .vaux, removed := removed } }

theorem exec_vaux1v8Drop (mv ns : Nat) (removed : Bool) (hmv : mv < 1620) (hns : 1000 < ns) :
    exec (.vaux1v8Drop mv ns removed) s = .next (s.losePower.vauxLost mv removed) := by
  show execVaux1v8Drop mv ns removed s = _
  rw [execVaux1v8Drop, if_neg (by simp only [Bool.or_eq_true, decide_eq_true_eq]; omega)]
  rfl

/-- VAUX_1V8 back in range after it was lost and not removed: the hold ends or becomes the trip's, and the loss is logged. -/
theorem exec_vaux1v8Recover_lost (mv : Nat) (hlo : 1710 ≤ mv) (hhi : mv ≤ 1890) (hh : s.pins.hold = .vaux) (hr : s.pins.removed = false) :
    exec (.vaux1v8Recover mv) s
      = .next (State.supplyEvent
          { s with pins := { s.pins with vauxMv := mv, hold := if s.pins.thermTrip then .trip else .await } } 2 mv) := by
  show execVaux1v8Recover mv s = _
  rw [execVaux1v8Recover, if_neg (by omega), if_neg (by simp only [Bool.or_eq_true, decide_eq_true_eq]; omega)]
  simp [hh, hr]

theorem exec_vaux1v8Recover_removed (mv : Nat) (hlo : 1710 ≤ mv) (hhi : mv ≤ 1890) (hh : s.pins.hold = .vaux)
    (hr : s.pins.removed = true) :
    exec (.vaux1v8Recover mv) s
      = .next { s with pins := { s.pins with
          vauxMv := mv, removed := false, hold := if s.pins.coldRst then .none else .await, pwrFault := false } } := by
  show execVaux1v8Recover mv s = _
  rw [execVaux1v8Recover, if_neg (by omega), if_neg (by simp only [Bool.or_eq_true, decide_eq_true_eq]; omega)]
  simp [hh, hr]

/-! ## Power lost outside the keepers (R55, R58) -/

/-- From s to t all state outside the keepers is lost: contexts, both tiers, jobs and ports; the fuses, the tick count and the boot flash are
the same. -/
structure PowerLost (s t : State) : Prop where
  fuses : t.fuses = s.fuses
  tick : t.tb.tick = s.tb.tick
  flashA : t.side.flashA = s.side.flashA
  flashB : t.side.flashB = s.side.flashB
  ctxs : t.ctxs = []
  near : t.near = []
  far : t.far = []
  jobs : t.jobs = State.reset.jobs
  ports : t.ports = []

/-- What the keepers hold of pins, events and records when the other domains lose power. -/
structure KeepersHold (s t : State) : Prop where
  pins : t.pins = s.pins
  queue : t.side.i3cQueue = s.side.i3cQueue
  log : t.err.log = s.err.log
  dumps : t.err.dumps = s.err.dumps

/-- The part as a loss of power leaves it, but for the STATE of the domains that are now unpowered. -/
def State.keepersOnly : State :=
  { State.reset with
    fuses := s.fuses, pins := s.pins, tb := { s.tb with planeEver := false, nextTicks := 0, stepPend := none }
    regs := s.regs.filter (fun e => keeperReg e.1), dies := s.dies
    err := { State.reset.err with log := s.err.log, dumps := s.err.dumps, evtSeq := s.err.evtSeq, evtRead := s.err.evtRead }
    side := { s.side with conCap := [], conIn := [] }, boot := { s.boot with sram := Blob.empty }, freeCtr := s.freeCtr
    outs := s.outs, pending := s.pending }

/-- Every domain that is not OFF or ABSENT goes OFF. -/
def State.domainsOff : State :=
  (List.range 536).foldl (fun (s : State) n => if s.domState n = 0 || s.domState n = 0xF then s else s.setDom n 0) s

theorem State.losePower_eq : s.losePower = (s.keepersOnly.domainsOff.setSvState 0 0).setSvState 1 0 := rfl

theorem State.domainsOff_touches : Touches 0x8 s s.domainsOff := by
  refine Touches.foldl (fun t n => ?_) (Touches.refl _ _)
  split
  · exact Touches.refl _ _
  · exact State.setDom_touches _ _ _

/-- A loss of power is what only the keepers hold, and registers of theirs that say which domains are unpowered. -/
theorem State.keepersOnly_touches_losePower : Touches 0x8 s.keepersOnly s.losePower :=
  s.losePower_eq ▸ Touches.step (State.setSvState_touches _ _ _) rfl
    (Touches.step (State.setSvState_touches _ _ _) rfl s.keepersOnly.domainsOff_touches)

/-- Pieces other than the registers are lost or held as keepersOnly says. -/
theorem PowerLost.of_keepersOnly {s t : State} (h : Touches 0x8 s.keepersOnly t) : PowerLost s t := by
  have htb : t.tb = s.keepersOnly.tb := h.same 2 rfl
  have hside : t.side = s.keepersOnly.side := h.same 10 rfl
  exact ⟨h.same 0 rfl, by rw [htb]; rfl, by rw [hside]; rfl, by rw [hside]; rfl, h.same 19 rfl, h.same 21 rfl, h.same 22 rfl,
    h.same 18 rfl, h.same 14 rfl⟩

theorem KeepersHold.of_keepersOnly {s t : State} (h : Touches 0x8 s.keepersOnly t) : KeepersHold s t := by
  have hside : t.side = s.keepersOnly.side := h.same 10 rfl
  have herr : t.err = s.keepersOnly.err := h.same 9 rfl
  exact ⟨h.same 1 rfl, by rw [hside]; rfl, by rw [herr]; rfl, by rw [herr]; rfl⟩

theorem State.losePower_lost : PowerLost s s.losePower := .of_keepersOnly s.keepersOnly_touches_losePower

theorem State.losePower_held : KeepersHold s s.losePower := .of_keepersOnly s.keepersOnly_touches_losePower

/-- A record and an event for the tray controller after a loss of power. -/
theorem PowerLost.report {s t : State} (h : PowerLost s t) (sev die detail code d : Nat) :
    PowerLost s ((t.keeperRec sev die detail).i3cEvent code d) := by
  have ht : Touches 0x4001608 t ((t.keeperRec sev die detail).i3cEvent code d) :=
    (State.i3cEvent_touches _ _ _).step (by decide) ((t.keeperRec_touches _ _ _).mono (by decide))
  have hside := State.i3cEvent_side (t.keeperRec sev die detail) code d
  exact ⟨(ht.same 0 rfl).trans h.fuses, (congrArg Timebase.tick (ht.same 2 rfl)).trans h.tick,
    by simpa [hside] using h.flashA, by simpa [hside] using h.flashB,
    (ht.same 19 rfl).trans h.ctxs, (ht.same 21 rfl).trans h.near, (ht.same 22 rfl).trans h.far, (ht.same 18 rfl).trans h.jobs,
    (ht.same 14 rfl).trans h.ports⟩

/-- The tray controller's queue after a loss of power that is told. -/
theorem KeepersHold.queue_report {s t : State} (h : KeepersHold s t) (lost : PowerLost s t) (sev die detail code d : Nat) :
    ((t.keeperRec sev die detail).i3cEvent code d).side.i3cQueue = i3cPush s.side.i3cQueue ⟨code, d, s.tb.tick % 2 ^ 48⟩ := by
  simp [State.i3cEvent_side, h.queue, lost.tick]

/-! ## Power faults and a lost VAUX_1V8 -/

theorem State.not_running_of_held {t : State} (h : t.pins.hold ≠ .none) : t.running = false := by
  simp [State.running, h]

section
variable {s} {l : State}

theorem PowerLost.powerFaulted (h : PowerLost s l) (mv : Nat) : PowerLost s (l.powerFaulted mv) :=
  { h.report 3 0xFF mv 0x20 0xFF with }

theorem KeepersHold.pins_powerFaulted (h : KeepersHold s l) (mv : Nat) :
    (l.powerFaulted mv).pins = { s.pins with
      vinMv := mv, pwrFault := true, hold := if s.pins.hold = .trip ∨ s.pins.hold = .vaux then s.pins.hold else .await } := by
  simp [State.powerFaulted, State.supplyEvent, h.pins]

theorem State.powerFaulted_held (l : State) (mv : Nat) : (l.powerFaulted mv).pins.hold ≠ .none := by
  simp only [State.powerFaulted]
  split
  · next h => rcases h with h | h <;> rw [h] <;> decide
  · simp

theorem KeepersHold.queue_powerFaulted (h : KeepersHold s l) (lost : PowerLost s l) (mv : Nat) :
    (l.powerFaulted mv).side.i3cQueue = i3cPush s.side.i3cQueue ⟨0x20, 0xFF, s.tb.tick % 2 ^ 48⟩ :=
  h.queue_report lost 3 0xFF mv 0x20 0xFF

/-- A lost VAUX_1V8 keeps the fuses and the boot flash; what a loss of power has taken stays lost. -/
theorem State.vauxLost_keeps (l : State) (mv : Nat) (removed : Bool) :
    (l.vauxLost mv removed).ctxs = l.ctxs ∧ (l.vauxLost mv removed).near = l.near ∧ (l.vauxLost mv removed).far = l.far
      ∧ (l.vauxLost mv removed).fuses = l.fuses ∧ (l.vauxLost mv removed).side.flashA = l.side.flashA
      ∧ (l.vauxLost mv removed).side.flashB = l.side.flashB := by
  cases removed <;> exact ⟨rfl, rfl, rfl, rfl, rfl, rfl⟩

theorem State.vauxLost_pins (l : State) (mv : Nat) (removed : Bool) :
    (l.vauxLost mv removed).pins.hold = .vaux ∧ (l.vauxLost mv removed).pins.pwrFault = true ∧ (l.vauxLost mv removed).pins.vauxMv = mv
      ∧ (l.vauxLost mv removed).pins.removed = removed :=
  ⟨rfl, rfl, rfl, rfl⟩

theorem State.vauxLost_log (l : State) (mv : Nat) (removed : Bool) :
    (l.vauxLost mv removed).err.log = (if removed then [] else l.err.log)
      ∧ (l.vauxLost mv removed).err.dumps = (if removed then [] else l.err.dumps) := by
  cases removed <;> exact ⟨rfl, rfl⟩

end

end Sys2Proof.Machine

namespace Sys2Proof.Machine

/-- Settles O12: the supply's own record and event, beside the pins. -/
theorem supplyRidesThrough : Obligations.SupplyRidesThrough := by
  refine ⟨fun mv s hlo hhi => ⟨_, exec_vinPkgLow s mv hlo hhi, ?_, ?_, ?_, ?_, ?_⟩, fun mv s h => ⟨_, exec_vinPkgRecover s mv h, rfl, ?_⟩,
    fun mv ns s hmv hns => ⟨_, exec_vinPkgDip s mv ns hmv hns, s.supplyLogged_supplyEvent 0 mv, s.keepsRegs_supplyEvent 0 mv, ?_⟩,
    fun mv ns s hmv hns => ⟨_, exec_vinPkgHigh s mv ns hmv hns, ?_, ?_, ?_, ?_⟩⟩
  · simp [State.supplyEvent]
  · simp [State.i3cEvent_side, State.supplyEvent]
  · rw [supplyLogged, State.i3cEvent_err]
    exact State.supplyLogged_supplyEvent _ 0 mv
  · intro off h
    rw [(State.i3cEvent_touches _ _ _).rd rfl]
    exact State.keepsRegs_supplyEvent _ 0 mv off h
  · exact (execVinPkgLow_touches mv s).keeps (exec_vinPkgLow s mv hlo hhi) rfl
  · exact (execVinPkgRecover_touches mv s).keeps (exec_vinPkgRecover s mv h) rfl
  · exact (execVinPkgDip_touches mv ns s).keeps (exec_vinPkgDip s mv ns hmv hns) rfl
  · simp [State.supplyEvent]
  · exact State.supplyLogged_supplyEvent _ 0 mv
  · exact State.keepsRegs_supplyEvent _ 0 mv
  · exact (execVinPkgHigh_touches mv ns s).keeps (exec_vinPkgHigh s mv ns hmv hns) rfl

/-- Settles O13: what is lost is losePower's, what the keepers hold is told and logged. -/
theorem supplyStops : Obligations.SupplyStops := by
  refine ⟨fun mv ns s hmv hns => ⟨_, exec_powerFault s mv ns hmv hns, ?_⟩,
    fun mv ns removed s hmv hns => ⟨_, exec_vaux1v8Drop s mv ns removed hmv hns, ?_⟩,
    fun mv s hlo hhi hh hr => ⟨_, exec_vaux1v8Recover_lost s mv hlo hhi hh hr, ?_, ?_, ?_⟩,
    fun mv s hlo hhi hh hr => ⟨_, exec_vaux1v8Recover_removed s mv hlo hhi hh hr, rfl, rfl, ?_⟩⟩
  · have held := s.losePower_held
    have lost := s.losePower_lost.powerFaulted mv
    exact ⟨held.pins_powerFaulted mv, State.not_running_of_held (s.losePower.powerFaulted_held mv), lost.ctxs, lost.near, lost.far,
      lost.jobs, lost.ports, lost.fuses, lost.flashA, lost.flashB, lost.tick, held.queue_powerFaulted s.losePower_lost mv⟩
  · have held := s.losePower_held
    have lost := s.losePower_lost
    obtain ⟨hhold, hfault, hmv, hremoved⟩ := s.losePower.vauxLost_pins mv removed
    obtain ⟨hctxs, hnear, hfar, hfuses, hflashA, hflashB⟩ := s.losePower.vauxLost_keeps mv removed
    obtain ⟨hlog, hdumps⟩ := s.losePower.vauxLost_log mv removed
    rw [held.log] at hlog
    rw [held.dumps] at hdumps
    exact ⟨hhold, hfault, hmv, hremoved, State.not_running_of_held (hhold.trans_ne (by decide)), hctxs.trans lost.ctxs, hnear.trans lost.near,
      hfar.trans lost.far, hfuses.trans lost.fuses, hflashA.trans lost.flashA, hflashB.trans lost.flashB, hlog, hdumps⟩
  · simp [State.supplyEvent]
  · exact State.supplyLogged_supplyEvent _ 2 mv
  · exact (execVaux1v8Recover_touches mv s).keeps (exec_vaux1v8Recover_lost s mv hlo hhi hh hr) rfl
  · exact (Touches.set_pins s _).keeps (Piece.testBit_of_outside rfl)

end Sys2Proof.Machine
end

section
/-! Temperature (R53 to R55): samples, zones, the steps of voltage and DUTY, trips: O14 and O15. -/

namespace Sys2Proof.Machine

variable (s : State)

/-! ## Readings as data -/

/-- Two's complement in 16 bits gives back what it holds. -/
theorem signedOf_unsignedOf_16 (z : Int) (hlo : -32768 ≤ z) (hhi : z < 32768) : signedOf (unsignedOf z 16) 16 = z := by
  simp only [signedOf, unsignedOf, Nat.reducePow, Nat.cast_ofNat]
  split_ifs <;> omega

theorem unsignedOf_16_lt (z : Int) : unsignedOf z 16 < 2 ^ 16 := by
  simp only [unsignedOf]
  omega

/-- A list with one reading for each sensor is read as it stands. -/
theorem readings_of_length (l : List (Option Int)) (n : Nat) (h : l.length = n) :
    (List.range n).map (fun i => (l[i]?).join) = l := by
  apply List.ext_getElem
  · simp [h]
  · intro i h1 h2
    simp [List.getElem?_eq_getElem h2]

/-- The readings that fail their self-check are those that are not kept. -/
theorem length_sub_healthy (l : List (Option Int)) :
    l.length - (l.filterMap id).length = (l.filter (fun y => y.isNone)).length := by
  have hsum : (l.filterMap id).length + (l.filter (fun y => y.isNone)).length = l.length := by
    induction l with
    | nil => rfl
    | cons y l ih =>
      cases y with
      | none => rw [List.filterMap_cons_none rfl, List.filter_cons_of_pos rfl, List.length_cons, List.length_cons, ← ih]; rfl
      | some y =>
        rw [List.filterMap_cons_some (f := id) rfl, List.filter_cons_of_neg Bool.false_ne_true, List.length_cons, List.length_cons, ← ih]
        omega
  omega

/-- The fold of the healthy readings is the largest of them. -/
theorem foldl_max_eq (x t : Int) (xs : List Int) (hmem : t ∈ x :: xs) (hmax : ∀ y, y ∈ x :: xs → y ≤ t) : xs.foldl max x = t := by
  have h : (x :: xs).max? = some t := List.max?_eq_some_iff.mpr ⟨hmem, hmax⟩
  rw [List.max?_cons'] at h
  exact Option.some.inj h

/-! ## Reading a die's temperature register through the keeper's actions -/

/-- Of the registers, setDuty writes DUTY of its die. -/
theorem State.setDuty_regs (k v : Nat) : (s.setDuty k v).regs = (s.setFld (R.glbTherm (dLathe k)) F.GlbTherm.duty v).regs := by
  unfold State.setDuty
  extract_lets u
  split
  · rfl
  · have hctx : Touches 0x80000 u ((u.ctxs.keysWhere (fun x => x.phys.any (fun k' => decide (k' / 5 = k)))).foldl
        (fun (s : State) c => s.setColl c (fun q => { q with duty := true })) u) :=
      Touches.foldl (fun t c => State.setColl_touches t c _) (Touches.refl _ _)
    exact hctx.same 3 rfl

theorem State.fld_setDuty_apart (k v off : Nat) (f : Fld) (hf : f.apart F.GlbTherm.duty = true) :
    (s.setDuty k v).fld off f = s.fld off f := by
  rw [State.fld_of_regs (s.setDuty_regs k v)]
  by_cases h : off = R.glbTherm (dLathe k)
  · rw [h, State.fld_setFld_apart _ _ _ _ _ hf]
  · rw [State.fld_setFld_ne _ _ _ _ _ _ h]

theorem State.duty_setDuty (k v : Nat) (hv : v < 2 ^ F.GlbTherm.duty.wid) :
    (s.setDuty k v).fld (R.glbTherm (dLathe k)) F.GlbTherm.duty = v := by
  rw [State.fld_of_regs (s.setDuty_regs k v), State.fld_setFld_fit _ _ _ _ rfl hv]

theorem State.keepsRegs_setDuty (k v : Nat) : s.keepsRegs (s.setDuty k v) [R.glbTherm (dLathe k)] := fun off h => by
  rw [State.rd_of_regs (s.setDuty_regs k v), State.rd_setFld_ne _ _ _ _ _ (by simpa using h)]

theorem State.die_of_dies {s t : State} (h : t.dies = s.dies) (d : Nat) : t.die d = s.die d := by
  rw [State.die, State.die, h]

theorem glbTherm_ne_errStat {d : Nat} (h : d < 100) : R.glbTherm d ≠ R.errStat := by
  simp only [R.glbTherm, R.errStat]
  omega

/-- What the keeper's actions on a zone leave of die d: the fields of its register but DUTY, and its count of samples at 115 degrees. -/
structure ThermKept (d : Nat) (s t : State) : Prop where
  fld : ∀ f : Fld, f.apart F.GlbTherm.duty = true → t.fld (R.glbTherm d) f = s.fld (R.glbTherm d) f
  over115 : (t.die d).over115 = (s.die d).over115

section
variable {s} {d : Nat}

theorem ThermKept.trans {t u : State} (h : ThermKept d s t) (h' : ThermKept d t u) : ThermKept d s u :=
  ⟨fun f hf => (h'.fld f hf).trans (h.fld f hf), h'.over115.trans h.over115⟩

theorem ThermKept.of_touches {m : Nat} {t : State} (h : Touches m s t) (hregs : m.testBit 3 = false) (hdies : m.testBit 4 = false) :
    ThermKept d s t :=
  ⟨fun f _ => h.fld hregs _ f, by rw [State.die_of_dies (h.same 4 hdies) d]⟩

theorem ThermKept.keeperRec (hd : d < 100) (sev die detail : Nat) : ThermKept d s (s.keeperRec sev die detail) :=
  ⟨fun f _ => State.fld_of_rd (s.rd_keeperRec _ _ _ _ (glbTherm_ne_errStat hd)) f,
    by rw [State.die_of_dies (s.keeperRec_dies _ _ _) d]⟩

theorem ThermKept.setDuty (k v : Nat) : ThermKept d s (s.setDuty k v) :=
  ⟨fun f hf => s.fld_setDuty_apart k v _ f hf, by rw [State.die_of_dies ((s.setDuty_touches k v).same 4 rfl) d]⟩

theorem ThermKept.capLifted : ThermKept d s (s.setDie d (fun x => { x with capCode := none })) :=
  ⟨fun _ _ => rfl, by rw [State.die_setDie_same]⟩

end

/-- The entry of a zone writes the zone, and of the rest of the die's register at most DUTY. -/
theorem State.enterZone_kept (d z : Nat) (hd : d < 100) : ThermKept d (s.setFld (R.glbTherm d) F.GlbTherm.zone z) (s.enterZone d z) := by
  unfold State.enterZone
  extract_lets old lathe s1 s2 s3 s4 s5 any src
  have h2 : ThermKept d s1 s2 := .keeperRec hd 0 d z
  have h3 : ThermKept d s1 s3 := h2.trans .capLifted
  have h4 : ThermKept d s1 s4 := by
    unfold s4
    split_ifs
    · exact h3.trans (.setDuty _ _)
    · exact h3
    · exact h2.trans (.setDuty _ _)
    · exact h2
    · exact h2.trans (.setDuty _ _)
    · exact h2
  have h5 : ThermKept d s1 s5 := by
    unfold s5
    split_ifs
    · exact h4.trans (.of_touches (s4.i3cEvent_touches _ _) rfl rfl)
    · exact h4.trans (.of_touches (s4.i3cEvent_touches _ _) rfl rfl)
    · exact h4
  split
  · exact .of_touches (Touches.refl 0 s1) rfl rfl
  · exact h5.trans (.of_touches (Touches.set_pins s5 _) rfl rfl)

/-- The zone reads as it was entered. -/
theorem State.zone_enterZone (d z : Nat) (hd : d < 100) (hz : z < 2 ^ F.GlbTherm.zone.wid) :
    (s.enterZone d z).fld (R.glbTherm d) F.GlbTherm.zone = z :=
  ((s.enterZone_kept d z hd).fld _ rfl).trans (s.fld_setFld_fit _ _ z rfl hz)

/-- A field beside ZONE and DUTY reads as before. -/
theorem State.fld_enterZone (d z : Nat) (hd : d < 100) (f : Fld) (hf : f.apart F.GlbTherm.duty = true) (hz : f.apart F.GlbTherm.zone = true) :
    (s.enterZone d z).fld (R.glbTherm d) f = s.fld (R.glbTherm d) f :=
  ((s.enterZone_kept d z hd).fld f hf).trans (s.fld_setFld_apart _ _ _ _ hz)

theorem State.over115_enterZone (d z : Nat) (hd : d < 100) : ((s.enterZone d z).die d).over115 = (s.die d).over115 :=
  (s.enterZone_kept d z hd).over115

theorem State.zoneOf_lt (old : Nat) (t : Int) : s.zoneOf old t < 2 ^ F.GlbTherm.zone.wid := by
  simp only [State.zoneOf]
  split_ifs <;> decide

theorem State.zoneOf_of_img {s t : State} (h : t.img = s.img) (old : Nat) (x : Int) : t.zoneOf old x = s.zoneOf old x := by
  simp only [State.zoneOf, h]

theorem sensorsOf_lt (d : Nat) : sensorsOf d < 2 ^ F.GlbTherm.sensBad.wid := by
  simp only [sensorsOf]
  split_ifs <;> decide

/-! ## Samples -/

/-- A die's hottest healthy reading t as the keeper stores it: TNOW, TMAX, and the count of samples at 115 degrees (R53, R55). -/
def State.takeReading (d : Nat) (t : Int) : State :=
  let u := s.setFld (R.glbTherm d) F.GlbTherm.tnow (unsignedOf t 16)
  let v := if signedOf (u.fld (R.glbTherm d) F.GlbTherm.tmax) 16 < t then u.setFld (R.glbTherm d) F.GlbTherm.tmax (unsignedOf t 16) else u
  v.setDie d (fun x => { x with over115 := if 1840 ≤ t then x.over115 + 1 else 0 })

/-- A sample with a healthy reading, of which t is the largest, stores it and enters its zone (R53, R54). -/
theorem State.sampleDie_healthy (d : Nat) (l : List (Option Int)) (t : Int) (hlen : l.length = sensorsOf d) (ht : t ∈ l.filterMap id)
    (hmax : ∀ y, y ∈ l.filterMap id → y ≤ t) :
    s.sampleDie d l =
      let u := (s.setFld (R.glbTherm d) F.GlbTherm.sensBad (l.filter (fun y => y.isNone)).length).takeReading d t
      u.enterZone d (u.zoneOf (u.fld (R.glbTherm d) F.GlbTherm.zone) t) := by
  have hbad := length_sub_healthy l
  obtain ⟨x, xs, hl⟩ := List.exists_cons_of_ne_nil (List.ne_nil_of_mem ht)
  rw [hl] at ht hmax hbad
  simp only [State.sampleDie, readings_of_length l _ hlen, hl, hbad, foldl_max_eq x t xs ht hmax]
  rfl

/-- A sample without a healthy reading enters SENSOR_BAD (R53). -/
theorem State.sampleDie_failed (d : Nat) (l : List (Option Int)) (hlen : l.length = sensorsOf d) (hl : ∀ y, y ∈ l → y = none) :
    s.sampleDie d l =
      let u := (s.setFld (R.glbTherm d) F.GlbTherm.sensBad (sensorsOf d)).setDie d (fun x => { x with over115 := 0 })
      u.enterZone d 4 := by
  have hnone : l.filterMap id = [] := List.filterMap_eq_nil_iff.mpr hl
  simp only [State.sampleDie, readings_of_length l _ hlen, hnone, hlen, List.length_nil, Nat.sub_zero]

/-- A field beside TMAX reads as the write of TNOW leaves it. -/
theorem State.fld_takeReading (d : Nat) (t : Int) (f : Fld) (hf : f.apart F.GlbTherm.tmax = true) :
    (s.takeReading d t).fld (R.glbTherm d) f
      = (s.setFld (R.glbTherm d) F.GlbTherm.tnow (unsignedOf t 16)).fld (R.glbTherm d) f := by
  unfold State.takeReading
  extract_lets u v
  show v.fld (R.glbTherm d) f = u.fld (R.glbTherm d) f
  unfold v
  split
  · rw [State.fld_setFld_apart _ _ _ _ _ hf]
  · rfl

theorem State.tnow_takeReading (d : Nat) (t : Int) : (s.takeReading d t).fld (R.glbTherm d) F.GlbTherm.tnow = unsignedOf t 16 :=
  (s.fld_takeReading d t _ rfl).trans (s.fld_setFld_fit _ _ _ rfl (unsignedOf_16_lt t))

/-- A field beside TNOW and TMAX reads as before. -/
theorem State.fld_takeReading_apart (d : Nat) (t : Int) (f : Fld) (hnow : f.apart F.GlbTherm.tnow = true)
    (hmax : f.apart F.GlbTherm.tmax = true) : (s.takeReading d t).fld (R.glbTherm d) f = s.fld (R.glbTherm d) f :=
  (s.fld_takeReading d t f hmax).trans (s.fld_setFld_apart _ _ _ _ hnow)

theorem State.over115_takeReading (d : Nat) (t : Int) :
    ((s.takeReading d t).die d).over115 = if 1840 ≤ t then (s.die d).over115 + 1 else 0 := by
  unfold State.takeReading
  extract_lets u v
  have hv : v.die d = s.die d := by
    unfold v
    split <;> rfl
  rw [State.die_setDie_same, hv]

theorem State.takeReading_img (d : Nat) (t : Int) : (s.takeReading d t).img = s.img := by
  simp only [State.takeReading]
  split <;> rfl

/-! ## The steps of voltage and DUTY -/

theorem exec_thermalSample_one (d : Die) (l : List (Option Int)) : exec (.thermalSample [(d, l)]) s = .next (s.sampleDie d.val l) := rfl

theorem exec_limitVoltageStep (d : Die) (c : Nat) (hz : 2 ≤ s.fld (R.glbTherm d.val) F.GlbTherm.zone)
    (hc : (s.die d.val).capCode = some c) :
    exec (.limitVoltageStep d) s = .next (s.setDie d.val (fun x => { x with capCode := some (c - 1) })) := by
  have hget : (s.dies.get (fun _ => DieSt.fresh) d.val).capCode = some c := hc
  show execLimitVoltageStep d s = _
  simp only [execLimitVoltageStep, if_neg (show ¬ s.fld (R.glbTherm d.val) F.GlbTherm.zone < 2 by omega), State.setDie, Tbl.modify, hget,
    Option.getD_some]

theorem exec_dutyStep (d : LDie)
    (hz : s.fld (R.glbTherm (dLathe d.val)) F.GlbTherm.zone = 2 ∨ s.fld (R.glbTherm (dLathe d.val)) F.GlbTherm.zone = 4)
    (hd : s.fld (R.glbTherm (dLathe d.val)) F.GlbTherm.duty < 3) (hv : ∀ n, n ∈ dieDomains (dLathe d.val) → s.effSetpoint n = 0) :
    exec (.dutyStep d) s = .next (s.setDuty d.val (s.fld (R.glbTherm (dLathe d.val)) F.GlbTherm.duty + 1)) :=
  if_pos (by simpa [hd] using ⟨hz, hv⟩)

/-! ## Trips (R55) -/

/-- A loss of power leaves what the keepers' registers say, but for STATE of the domains and of the supervisors. -/
theorem State.rd_losePower (off : Nat) (hkeep : keeperReg off = true) (hpd : ∀ n, n < 536 → off ≠ R.glbPd n)
    (hsv : ∀ v, v < 2 → off ≠ R.glbSvStat v) : s.losePower.rd off = s.rd off := by
  have hdomains : s.keepersOnly.domainsOff.rd off = s.keepersOnly.rd off := by
    refine List.foldlRecOn (motive := fun (t : State) => t.rd off = s.keepersOnly.rd off) _ _ rfl (fun t ht n hn => ?_)
    have hne := hpd n (List.mem_range.mp hn)
    split
    · exact ht
    · exact (t.rd_setFld_ne _ _ _ _ hne).trans ht
  rw [State.losePower_eq, State.setSvState, State.setSvState, State.rd_setFld_ne _ _ _ _ _ (hsv 1 (by decide)),
    State.rd_setFld_ne _ _ _ _ _ (hsv 0 (by decide)), hdomains]
  exact Tbl.get_filter_key _ _ _ off hkeep

theorem State.rd_glbTherm_losePower (d : Nat) (hd : d < 100) : s.losePower.rd (R.glbTherm d) = s.rd (R.glbTherm d) := by
  refine s.rd_losePower _ ?_ (fun n hn => ?_) (fun v hv => ?_)
  · have hglb : decide (R.glbTherm d < 0x00200000) = true := decide_eq_true (by simp only [R.glbTherm]; omega)
    rw [keeperReg, hglb, Bool.true_or]
  · simp only [R.glbTherm, R.glbPd]
    omega
  · simp only [R.glbTherm, R.glbSvStat]
    omega

/-- A trip of die d counted in its fuses and in TRIPS. -/
def State.tripCounted (d : Nat) : State :=
  let n := min 15 (s.fuses.trips.get (fun _ => 0) d + 1)
  let t : State := { s with fuses := { s.fuses with trips := s.fuses.trips.set (fun _ => 0) d n } }
  t.setFld (R.glbTherm d) F.GlbTherm.trips n

/-- A trip of die d told and held, of a part that has lost power. -/
def State.tripHeld (l : State) (d : Nat) : State :=
  let u := (l.keeperRec 3 d 4).i3cEvent 0x12 d
  { u with pins := { u.pins with thermTrip := true, tripped := true, hold := .trip } }

theorem exec_thermalTrip (d : Die) (hhot : 2 ≤ (s.die d.val).over115) (hh : s.pins.hold ≠ .trip) :
    exec (.thermalTrip d) s = .next ((s.tripCounted d.val).losePower.tripHeld d.val) :=
  if_neg (by simpa [hh] using Nat.lt_of_succ_le hhot)

theorem exec_tripHoldEnd (hh : s.pins.hold = .trip) (hcool : ∀ d, d < 100 → s.fld (R.glbTherm d) F.GlbTherm.zone = 4 ∨ s.tnow d < 1520) :
    exec .tripHoldEnd s
      = .next { s with pins := { s.pins with thermTrip := false, hold := if s.pins.coldRst then .none else .await } } :=
  if_neg (by
    simp only [hh, ne_eq, not_true_eq_false, decide_false, Bool.false_or, List.any_eq_true, List.mem_range, Bool.and_eq_true, decide_eq_true_eq]
    rintro ⟨d, hd, hz, ht⟩
    have := hcool d hd
    omega)

theorem exec_tripHoldEnd_hot (d : Nat) (hd : d < 100) (hz : s.fld (R.glbTherm d) F.GlbTherm.zone ≠ 4) (ht : 1520 ≤ s.tnow d) :
    exec .tripHoldEnd s = .next s :=
  if_pos (by
    simp only [Bool.or_eq_true, List.any_eq_true, List.mem_range, Bool.and_eq_true, decide_eq_true_eq]
    exact .inr ⟨d, hd, hz, ht⟩)

section
variable {s} {l : State}

theorem PowerLost.tripHeld (h : PowerLost s l) (d : Nat) : PowerLost s (l.tripHeld d) :=
  { h.report 3 d 4 0x12 d with }

theorem KeepersHold.pins_tripHeld (h : KeepersHold s l) (d : Nat) :
    (l.tripHeld d).pins = { s.pins with thermTrip := true, tripped := true, hold := .trip } := by
  simp [State.tripHeld, h.pins]

theorem KeepersHold.queue_tripHeld (h : KeepersHold s l) (lost : PowerLost s l) (d : Nat) :
    (l.tripHeld d).side.i3cQueue = i3cPush s.side.i3cQueue ⟨0x12, d, s.tb.tick % 2 ^ 48⟩ :=
  h.queue_report lost 3 d 4 0x12 d

theorem State.rd_tripHeld (l : State) (d off : Nat) (h : off ≠ R.errStat) : (l.tripHeld d).rd off = l.rd off :=
  ((State.i3cEvent_touches _ _ _).rd rfl off).trans (l.rd_keeperRec _ _ _ off h)

end

/-- TRIPS shows the count after the trip, through the loss of power and its record. -/
theorem State.trips_tripHeld (d : Nat) (hd : d < 100) :
    ((s.tripCounted d).losePower.tripHeld d).fld (R.glbTherm d) F.GlbTherm.trips = min 15 (s.fuses.trips.get (fun _ => 0) d + 1) := by
  rw [State.fld_of_rd (State.rd_tripHeld _ d _ (glbTherm_ne_errStat hd)), State.fld_of_rd (State.rd_glbTherm_losePower _ d hd)]
  exact State.fld_setFld_fit _ _ _ _ rfl (lt_of_le_of_lt (Nat.min_le_left _ _) (by decide))

end Sys2Proof.Machine

namespace Sys2Proof.Machine

/-- Settles O14: the reading is stored, the zone entered leaves it, and the steps write one field each. -/
theorem thermalControl : Obligations.ThermalControl := by
  refine ⟨fun d l x s hlen hx hmax hhi => ⟨_, exec_thermalSample_one s d l, ?_⟩,
    fun d l s hlen hl => ⟨_, exec_thermalSample_one s d l, ?_⟩,
    fun d s c hz hc => ⟨_, exec_limitVoltageStep s d c hz hc, ?_, fun e he => State.die_setDie_ne s _ e _ he, ?_⟩,
    fun d s hz hd hv => ⟨_, exec_dutyStep s d hz hd hv, State.duty_setDuty s _ _ ?_, s.keepsRegs_setDuty _ _, ?_⟩⟩
  · rw [State.sampleDie_healthy s d.val l x hlen hx (fun y hy => (hmax y hy).2)]
    have hfit : (l.filter (fun y => y.isNone)).length < 2 ^ F.GlbTherm.sensBad.wid :=
      ((List.length_filter_le _ _).trans_eq hlen).trans_lt (sensorsOf_lt d.val)
    extract_lets u
    have hzone : u.fld (R.glbTherm d.val) F.GlbTherm.zone = s.fld (R.glbTherm d.val) F.GlbTherm.zone :=
      (State.fld_takeReading_apart _ _ _ _ rfl rfl).trans (State.fld_setFld_apart _ _ _ _ _ rfl)
    have himg : u.img = s.img := State.takeReading_img _ _ _
    refine ⟨?_, ?_, ?_, ?_⟩
    · rw [State.tnow, State.fld_enterZone _ _ _ d.isLt _ rfl rfl, State.tnow_takeReading, signedOf_unsignedOf_16 x (hmax x hx).1 hhi]
    · rw [State.fld_enterZone _ _ _ d.isLt _ rfl rfl, State.fld_takeReading_apart _ _ _ _ rfl rfl, State.fld_setFld_fit _ _ _ _ rfl hfit]
    · rw [State.zone_enterZone _ _ _ d.isLt (State.zoneOf_lt _ _ _), hzone, State.zoneOf_of_img himg]
    · rw [State.over115_enterZone _ _ _ d.isLt, State.over115_takeReading]
      rfl
  · rw [State.sampleDie_failed s d.val l hlen hl]
    extract_lets u
    have hbad : u.fld (R.glbTherm d.val) F.GlbTherm.sensBad = sensorsOf d.val :=
      ((State.setDie_touches _ _ _).fld rfl _ _).trans (s.fld_setFld_fit _ _ _ rfl (sensorsOf_lt d.val))
    have hover : (u.die d.val).over115 = 0 := by rw [State.die_setDie_same]
    exact ⟨u.zone_enterZone d.val 4 d.isLt (by decide), (u.fld_enterZone d.val 4 d.isLt F.GlbTherm.sensBad rfl rfl).trans hbad,
      (u.over115_enterZone d.val 4 d.isLt).trans hover⟩
  · rw [State.die_setDie_same]
  · exact (State.setDie_touches _ _ _).keeps (Piece.testBit_of_outside rfl)
  · exact lt_trans (Nat.succ_lt_succ hd) (by decide)
  · exact (State.setDuty_touches _ _ _).keeps (Piece.testBit_of_outside rfl)

/-- Settles O15: the trip is counted before the loss of power, which the fuses and TRIPS outlast, and told after it. -/
theorem thermalTrips : Obligations.ThermalTrips := by
  refine ⟨fun d s hhot hh => ⟨_, exec_thermalTrip s d hhot hh, ?_⟩, fun s hh hcool => ⟨_, exec_tripHoldEnd s hh hcool, rfl, ?_⟩,
    fun s d hd hz ht => exec_tripHoldEnd_hot s d hd hz ht⟩
  · have held := (s.tripCounted d.val).losePower_held
    have before := (s.tripCounted d.val).losePower_lost
    have lost := before.tripHeld d.val
    have hpins := held.pins_tripHeld d.val
    have htrips : (s.tripCounted d.val).fuses.trips.get (fun _ => 0) d.val = min 15 (s.fuses.trips.get (fun _ => 0) d.val + 1) :=
      Tbl.get_set_same _ _ _ _
    have hrun := State.not_running_of_held (by rw [hpins]; exact Hold.noConfusion)
    exact ⟨hpins, hrun, lost.ctxs, lost.near, lost.far, by rw [lost.fuses, htrips], by rw [lost.fuses]; rfl, s.trips_tripHeld d.val d.isLt,
      held.queue_tripHeld before d.val⟩
  · exact (Touches.set_pins s _).keeps (Piece.testBit_of_outside rfl)

end Sys2Proof.Machine
end

section
/-! Switched domains (R46 to R51, R58): writes of GLB_PD, wakes and drains: O16. -/

namespace Sys2Proof.Machine

variable (s : State)

/-! ## A domain's register -/

theorem State.domState_setDom (n st : Nat) (h : st < 2 ^ F.GlbPd.state.wid) : (s.setDom n st).domState n = st :=
  s.fld_setFld_fit _ _ st rfl h

/-- A write of one register keeps the others. -/
theorem State.keepsRegs_setFld (off : Nat) (f : Fld) (x : Nat) : s.keepsRegs (s.setFld off f x) [off] := fun off' h =>
  s.rd_setFld_ne _ _ _ _ (by simpa using h)

theorem State.keepsRegs.trans {s t u : State} {l : List Nat} (h : s.keepsRegs t l) (h' : t.keepsRegs u l) : s.keepsRegs u l :=
  fun off ho => (h' off ho).trans (h off ho)

theorem State.refused_pdRefuse (n reason : Nat) : (s.pdRefuse n reason).fld (R.glbPd n) F.GlbPd.refused = 1 := by
  rw [State.pdRefuse, State.fld_setFld_apart _ _ _ _ _ rfl, State.fld_setFld_fit _ _ _ _ rfl (by decide)]

theorem State.reason_pdRefuse (n reason : Nat) (h : reason < 2 ^ F.GlbPd.reason.wid) :
    (s.pdRefuse n reason).fld (R.glbPd n) F.GlbPd.reason = reason :=
  State.fld_setFld_fit _ _ _ _ rfl h

theorem State.domState_pdRefuse (n reason : Nat) : (s.pdRefuse n reason).domState n = s.domState n := by
  rw [State.domState, State.pdRefuse, State.fld_setFld_apart _ _ _ _ _ rfl, State.fld_setFld_apart _ _ _ _ _ rfl, State.domState]

theorem State.wake_of_wakes {s t : State} (h : t.wakes = s.wakes) (n : Nat) : t.wake n = s.wake n := by
  rw [State.wake, State.wake, h]

/-! ## Writes of GLB_PD (R48, R49) -/

/-- A write that waits for the boundary: it clears REFUSED where its bit 4 says so, and sets PENDING. -/
def State.pdStore (n : Nat) (v : W64) : State :=
  let u := if F.GlbPd.refused.get v = 1 then s.setFld (R.glbPd n) F.GlbPd.refused 0 else s
  let w : State := { u with pdPend := u.pdPend.set (fun _ => ⟨none, none⟩) n ⟨some (F.GlbPd.req.get v), some (F.GlbPd.vset.get v)⟩ }
  w.setFld (R.glbPd n) F.GlbPd.pending 1

theorem exec_pdWrite (w : Writer) (n : Dom) (v : W64) (h : s.judge w s.glbDie = .applied) :
    exec (.pdWrite w n v) s = .next (s.pdStore n.val v) := by
  show execPdWrite w n v s = _
  rw [execPdWrite, State.fenced, h]
  rfl

theorem State.pdPend_pdStore (n : Nat) (v : W64) :
    (s.pdStore n v).pdPend.get (fun _ => ⟨none, none⟩) n = ⟨some (F.GlbPd.req.get v), some (F.GlbPd.vset.get v)⟩ := by
  unfold State.pdStore
  extract_lets u w
  exact u.pdPend.get_set_same (fun _ => ⟨none, none⟩) n ⟨some (F.GlbPd.req.get v), some (F.GlbPd.vset.get v)⟩

theorem State.pending_pdStore (n : Nat) (v : W64) : (s.pdStore n v).fld (R.glbPd n) F.GlbPd.pending = 1 :=
  State.fld_setFld_fit _ _ _ _ rfl (by decide)

theorem State.domState_pdStore (n : Nat) (v : W64) : (s.pdStore n v).domState n = s.domState n := by
  unfold State.pdStore
  extract_lets u w
  have hu : u.domState n = s.domState n := by
    unfold u
    split
    · exact s.fld_setFld_apart _ _ _ _ rfl
    · rfl
  exact (w.fld_setFld_apart _ _ _ _ rfl).trans hu

theorem State.keepsRegs_pdStore (n : Nat) (v : W64) : s.keepsRegs (s.pdStore n v) [R.glbPd n] := by
  unfold State.pdStore
  extract_lets u w
  have hu : s.keepsRegs u [R.glbPd n] := by
    unfold u
    split
    · exact s.keepsRegs_setFld _ _ _
    · exact fun _ _ => rfl
  exact hu.trans (w.keepsRegs_setFld _ _ _)

/-! ## Wakes (R51) -/

/-- The only wake that is queued, of a domain without a core or ring, starts. -/
theorem State.startGroup_single (n : Nat) (h : s.wakes = [(n, .queued)]) (hp : domParent n = none) : s.startGroup = s.startWake n := by
  simp [State.startGroup, h, State.wakeOpen, hp]

/-- No child waits: the end of a wake starts none. -/
theorem State.startChildren_none (n m us : Nat) (h : s.wakes = [(m, .ready us)]) : s.startChildren n = s := by
  simp [State.startChildren, h]

theorem exec_domainWakeReady (n : Dom) (at_ : Nat) (h : s.wakes = [(n.val, .started at_)]) :
    exec (.domainWakeReady n true) s
      = .next ((s.setFld (R.glbPd n.val) F.GlbPd.wakeUs (min ((s.tb.tick - at_ + 999) / 1000) 255)).setWake n.val
          (.ready ((s.tb.tick - at_ + 999) / 1000))) := by
  have hwake : s.wake n.val = .started at_ := by simp [State.wake, h, Tbl.get]
  show execDomainWakeReady n true s = _
  simp only [execDomainWakeReady, hwake, Bool.not_true, Bool.false_eq_true, if_false]
  generalize (s.tb.tick - at_ + 999) / 1000 = us
  rw [State.startChildren_none (m := n.val) (us := us)]
  simp [State.setWake, h, Tbl.set, Tbl.put]

theorem exec_wakeTimeout (n : Dom) (at_ : Nat) (h : s.wake n.val = .started at_) (ht : at_ + 25000 ≤ s.tb.tick) :
    exec (.wakeTimeout n) s = .next (s.wakeFail n.val) := by
  show execWakeTimeout n s = _
  simp only [execWakeTimeout, h, if_pos ht]

/-! ## Domains that lose power (R47) -/

/-- Whatever a domain loses, its wake stands at none. -/
theorem State.wake_domOff (n : Nat) : (s.domOff n).wake n = .none := by
  unfold State.domOff
  extract_lets u d p base d' d''
  have hu : u.wake n = .none := State.wake_setWake_same _ _ _
  have keep {m : Nat} {t : State} (h : Touches m u t) (hm : m.testBit 6 = false) : t.wake n = .none :=
    (State.wake_of_wakes (h.same 6 hm) n).trans hu
  split
  · split
    · exact keep (State.quadOff_touches _ _ _) rfl
    · exact keep (State.portDieOff_touches _ _) rfl
  split
  · split
    · exact keep (State.latheOff_touches _ _ _) rfl
    · exact keep (State.wholeOff_touches _ _ _ _) rfl
  split
  · split
    · exact keep (State.wholeOff_touches _ _ _ _) rfl
    · exact hu
  split
  · exact keep (State.wholeOff_touches _ _ _ _) rfl
  split
  · exact keep (State.tierOff_touches _ _ _ _) rfl
  split
  · exact keep (State.wholeOff_touches _ _ _ _) rfl
  split
  · exact keep ((State.loseDie_touches _ _).step (m := 0x308) rfl ((State.setSvState_touches _ _ _).mono rfl)) rfl
  · exact keep (State.hostOff_touches _ _) rfl

/-- A near-tier stack holds a range of the near tier. -/
theorem State.domTier_stack (n : Nat) (hlo : 496 ≤ n) (hhi : n < 504) : ∃ a l, s.domTier n = some (0, a, l) :=
  ⟨_, _, if_pos (by simp [hlo, hhi])⟩

theorem State.nearOff_touches (a l : Nat) : Touches 0x200000 s (s.tierOff 0 a l) :=
  Touches.set_near s _ (fun h => Tbl.wf_filter _ _ _ h)

/-- A near-tier stack that goes OFF loses its range of the near tier and nothing else (R47). -/
theorem State.domOff_stack (n : Nat) (hlo : 496 ≤ n) (hhi : n < 504) :
    ∃ a l, s.domOff n = ((s.setDom n 0).setWake n .none).tierOff 0 a l := by
  obtain ⟨a, l, htier⟩ := ((s.setDom n 0).setWake n .none).domTier_stack n hlo hhi
  refine ⟨a, l, ?_⟩
  unfold State.domOff
  rw [if_neg (by omega), if_neg (by omega), if_neg (by omega), if_neg (by simp only [Bool.and_eq_true, decide_eq_true_eq]; omega), htier]

/-! ## A wake that does not complete (R58) -/

/-- The registers of the domains lie apart from what an error record of a die writes. -/
theorem glbPd_ne_errqReg {n d : Nat} (hn : n < 536) : R.glbPd n ≠ errqReg d := by
  simp only [R.glbPd, errqReg, dieBase]
  split_ifs <;> omega

theorem glbPd_ne_glbEscStat (n : Nat) : R.glbPd n ≠ R.glbEscStat := by
  simp only [R.glbPd, R.glbEscStat]
  omega

/-- A wake of a domain that is no lathe's fails: the domain loses power, is FAILED and refused with reason 8, and a record is raised. -/
theorem State.wakeFail_eq (n : Nat) (h : domLatheOf n = none) :
    ∃ r : ErrRec, s.wakeFail n = (((s.domOff n).setDom n 5).pdRefuse n 8).raise r := by
  unfold State.wakeFail
  rw [h]
  exact ⟨_, rfl⟩

theorem State.rd_glbPd_raise (r : ErrRec) (n : Nat) (hn : n < 536) : (s.raise r).rd (R.glbPd n) = s.rd (R.glbPd n) :=
  s.rd_raise r _ (glbPd_ne_errqReg hn) (glbPd_ne_glbEscStat n)

/-! ## The end of a drain (R51) -/

theorem exec_domainDrainComplete_ret (n : Dom) (hst : s.domState n.val = 3) (hreq : s.fld (R.glbPd n.val) F.GlbPd.req = 1) :
    exec (.domainDrainComplete n) s = .next (s.setDom n.val 4) := by
  show execDomainDrainComplete n s = _
  simp [execDomainDrainComplete, hst, hreq]

theorem exec_domainDrainComplete_off (n : Dom) (hst : s.domState n.val = 3) (hreq : s.fld (R.glbPd n.val) F.GlbPd.req = 0) :
    exec (.domainDrainComplete n) s = .next (s.domOff n.val) := by
  show execDomainDrainComplete n s = _
  simp [execDomainDrainComplete, hst, hreq]

end Sys2Proof.Machine

namespace Sys2Proof.Machine

/-- Settles O16: each command writes its own domain's register and wake; what a lost domain takes with it does not reach them. -/
theorem domainCommands : Obligations.DomainCommands := by
  refine ⟨fun w n v s h => ⟨_, exec_pdWrite s w n v h, s.pdPend_pdStore n.val v, s.pending_pdStore n.val v, s.domState_pdStore n.val v,
      s.keepsRegs_pdStore n.val v, (execPdWrite_touches w n v s).keeps (exec_pdWrite s w n v h) rfl⟩,
    fun s n h hp hn => ⟨s.startWake n, congrArg Host.Outcome.next (s.startGroup_single n h hp), ?_⟩,
    fun s n at_ h => ⟨_, exec_domainWakeReady s n at_ h, ?_⟩,
    fun s n at_ h ht hl => ⟨_, exec_wakeTimeout s n at_ h ht, ?_⟩,
    fun s n hst hreq => ⟨_, exec_domainDrainComplete_ret s n hst hreq, ?_⟩,
    fun s n hlo hhi hst hreq => ⟨_, exec_domainDrainComplete_off s n hst hreq, ?_⟩⟩
  · exact ⟨State.wake_setWake_same _ _ _, s.domState_setDom n 1 (by decide), s.keepsRegs_setFld _ _ _,
      (s.startWake_touches n).keeps (Piece.testBit_of_outside rfl)⟩
  · exact ⟨State.wake_setWake_same _ _ _, s.fld_setFld_fit _ _ _ rfl (lt_of_le_of_lt (Nat.min_le_right _ _) (by decide)),
      s.keepsRegs_setFld _ _ _⟩
  · obtain ⟨r, hr⟩ := s.wakeFail_eq n.val hl
    rw [hr]
    generalize hu : (s.domOff n.val).setDom n.val 5 = u
    have hrd : ((u.pdRefuse n.val 8).raise r).rd (R.glbPd n.val) = (u.pdRefuse n.val 8).rd (R.glbPd n.val) :=
      State.rd_glbPd_raise _ r n.val n.isLt
    refine ⟨?_, ?_, ?_, ?_⟩
    · rw [State.domState, State.fld_of_rd hrd, ← State.domState, State.domState_pdRefuse, ← hu, State.domState_setDom _ _ _ (by decide)]
    · rw [State.wake_of_wakes ((State.raise_touches _ _).same 6 rfl), State.wake_of_wakes ((State.pdRefuse_touches _ _ _).same 6 rfl), ← hu]
      exact s.wake_domOff n.val
    · rw [State.fld_of_rd hrd, State.refused_pdRefuse]
    · rw [State.fld_of_rd hrd, State.reason_pdRefuse _ _ _ (by decide)]
  · exact ⟨s.domState_setDom _ _ (by decide), s.keepsRegs_setFld _ _ _, (s.setDom_touches _ _).keeps (Piece.testBit_of_outside rfl)⟩
  · have hwake := s.wake_domOff n.val
    obtain ⟨a, l, hoff⟩ := s.domOff_stack n.val hlo hhi
    rw [hoff] at hwake ⊢
    have hnear := ((s.setDom n.val 0).setWake n.val .none).nearOff_touches a l
    have hall : Touches 0x200048 s (((s.setDom n.val 0).setWake n.val .none).tierOff 0 a l) :=
      hnear.step rfl ((State.setWake_touches _ _ _).step rfl ((s.setDom_touches _ _).mono rfl))
    exact ⟨(hnear.fld rfl _ _).trans (s.domState_setDom n.val 0 (by decide)), hwake, hall.keeps (Piece.testBit_of_outside rfl)⟩

end Sys2Proof.Machine
end

section
/-! What a command reaches, and the trust of the fuses (R53, R67, R68): O6. Every command has a lemma for its mask; here the masks are
held to the reach of the commands once, and what the pieces and the fuses keep follows for all of them. -/

namespace Sys2Proof.Machine

/-- Of all commands only a turn boundary and a thermal trip reach the fuses. -/
theorem fuses_notMem_reach {c : Instr} (hb : c ≠ .turnBoundary) (ht : ∀ d, c ≠ .thermalTrip d) : Piece.fuses ∉ reach c := by
  intro hmem
  have helem : (reach c).elem .fuses = true := List.elem_eq_true_of_mem hmem
  clear hmem
  cases c
  case turnBoundary => exact absurd rfl hb
  case thermalTrip d => exact absurd rfl (ht d)
  all_goals exact absurd helem Bool.false_ne_true

/-- What a command touches lies within its reach. -/
theorem exec_touches_reach (s : State) : ∀ c : Instr, ∃ m, TouchesX m s (exec c s) ∧ Piece.outside m (reach c) = true
  | .coldRstNRelease => ⟨_, execColdRstNRelease_touches s, rfl⟩
  | .coldRstNAssert widthNs => ⟨_, execColdRstNAssert_touches widthNs s, rfl⟩
  | .perstAssert fn kind widthNs => ⟨_, execPerstAssert_touches fn kind widthNs s, rfl⟩
  | .functionLevelReset fn => ⟨_, execFunctionLevelReset_touches fn s, rfl⟩
  | .vinPkgLow mv => ⟨_, execVinPkgLow_touches mv s, rfl⟩
  | .vinPkgRecover mv => ⟨_, execVinPkgRecover_touches mv s, rfl⟩
  | .vinPkgDip mv ns => ⟨_, execVinPkgDip_touches mv ns s, rfl⟩
  | .vinPkgHigh mv ns => ⟨_, execVinPkgHigh_touches mv ns s, rfl⟩
  | .powerFault mv ns => ⟨_, execPowerFault_touches mv ns s, rfl⟩
  | .vaux1v8Drop mv ns removed => ⟨_, execVaux1v8Drop_touches mv ns removed s, rfl⟩
  | .referenceLost => ⟨_, execReferenceLost_touches s, rfl⟩
  | .referenceRecovered => ⟨_, execReferenceRecovered_touches s, rfl⟩
  | .timebaseSourceFail => ⟨_, execTimebaseSourceFail_touches s, rfl⟩
  | .thermalSample readings => ⟨_, execThermalSample_touches readings s, rfl⟩
  | .limitVoltageStep die => ⟨_, execLimitVoltageStep_touches die s, rfl⟩
  | .dutyStep die => ⟨_, execDutyStep_touches die s, rfl⟩
  | .thermalTrip die => ⟨_, execThermalTrip_touches die s, rfl⟩
  | .tripHoldEnd => ⟨_, execTripHoldEnd_touches s, rfl⟩
  | .turnBoundary => ⟨_, execTurnBoundary_touches s, rfl⟩
  | .internalAlignmentDone => ⟨_, execInternalAlignmentDone_touches s, rfl⟩
  | .skewMeasure offsets => ⟨_, execSkewMeasure_touches offsets s, rfl⟩
  | .heartbeatMiss die missed => ⟨_, execHeartbeatMiss_touches die missed s, rfl⟩
  | .dieFailed die => ⟨_, execDieFailed_touches die s, rfl⟩
  | .tbFreqWrite w value => ⟨_, execTbFreqWrite_touches w value s, rfl⟩
  | .tbStepWrite w value => ⟨_, execTbStepWrite_touches w value s, rfl⟩
  | .tbPtpCtlWrite w value => ⟨_, execTbPtpCtlWrite_touches w value s, rfl⟩
  | .ptpMessage port form hdr fcsOk => ⟨_, execPtpMessage_touches port form hdr fcsOk s, rfl⟩
  | .imageDmaLoad imageLen data => ⟨_, execImageDmaLoad_touches imageLen data s, rfl⟩
  | .check w => ⟨_, execCheck_touches w s, rfl⟩
  | .checkComplete => ⟨_, execCheckComplete_touches s, rfl⟩
  | .arm w target => ⟨_, execArm_touches w target s, rfl⟩
  | .cancel w => ⟨_, execCancel_touches w s, rfl⟩
  | .discard w => ⟨_, execDiscard_touches w s, rfl⟩
  | .stagingReady die => ⟨_, execStagingReady_touches die s, rfl⟩
  | .commit sv term => ⟨_, execCommit_touches sv term s, rfl⟩
  | .retireReport die => ⟨_, execRetireReport_touches die s, rfl⟩
  | .retireTimeout => ⟨_, execRetireTimeout_touches s, rfl⟩
  | .pdWrite w n value => ⟨_, execPdWrite_touches w n value s, rfl⟩
  | .wakeGroupStart => ⟨_, execWakeGroupStart_touches s, rfl⟩
  | .domainWakeReady n selfTest => ⟨_, execDomainWakeReady_touches n selfTest s, rfl⟩
  | .wakeTimeout n => ⟨_, execWakeTimeout_touches n s, rfl⟩
  | .domainDrainComplete n => ⟨_, execDomainDrainComplete_touches n s, rfl⟩
  | .lossOfSignal loss => ⟨_, execLossOfSignal_touches loss s, rfl⟩
  | .signalDetect port => ⟨_, execSignalDetect_touches port s, rfl⟩
  | .trainingComplete port rate100 => ⟨_, execTrainingComplete_touches port rate100 s, rfl⟩
  | .warmTrainingTimeout port => ⟨_, execWarmTrainingTimeout_touches port s, rfl⟩
  | .trainingBackoffExpiry port => ⟨_, execTrainingBackoffExpiry_touches port s, rfl⟩
  | .capabilityWord port heard => ⟨_, execCapabilityWord_touches port heard s, rfl⟩
  | .capabilityResendTimeout port => ⟨_, execCapabilityResendTimeout_touches port s, rfl⟩
  | .linkFrameReceive port number check => ⟨_, execLinkFrameReceive_touches port number check s, rfl⟩
  | .ackReceive port number => ⟨_, execAckReceive_touches port number s, rfl⟩
  | .nakReceive port lastGood => ⟨_, execNakReceive_touches port lastGood s, rfl⟩
  | .creditReturn port tc grains => ⟨_, execCreditReturn_touches port tc grains s, rfl⟩
  | .retrainLimitExpiry port => ⟨_, execRetrainLimitExpiry_touches port s, rfl⟩
  | .pcsAlignmentLoss port ns => ⟨_, execPcsAlignmentLoss_touches port ns s, rfl⟩
  | .holddownExpiry port => ⟨_, execHolddownExpiry_touches port s, rfl⟩
  | .faultRetryExpiry port => ⟨_, execFaultRetryExpiry_touches port s, rfl⟩
  | .laneFail die lane cause => ⟨_, execLaneFail_touches die lane cause s, rfl⟩
  | .peerChangeRequest port width mode lanes => ⟨_, execPeerChangeRequest_touches port width mode lanes s, rfl⟩
  | .spareTrainingDone die spareB ok => ⟨_, execSpareTrainingDone_touches die spareB ok s, rfl⟩
  | .synthLock die lane => ⟨_, execSynthLock_touches die lane s, rfl⟩
  | .synthLockTimeout die lane => ⟨_, execSynthLockTimeout_touches die lane s, rfl⟩
  | .txEnable w die lane => ⟨_, execTxEnable_touches w die lane s, rfl⟩
  | .txIdle w die lane => ⟨_, execTxIdle_touches w die lane s, rfl⟩
  | .prbs31 w die lane => ⟨_, execPrbs31_touches w die lane s, rfl⟩
  | .relock w die lane => ⟨_, execRelock_touches w die lane s, rfl⟩
  | .retrain w port => ⟨_, execRetrain_touches w port s, rfl⟩
  | .uprate w port => ⟨_, execUprate_touches w port s, rfl⟩
  | .restoreWidth w port => ⟨_, execRestoreWidth_touches w port s, rfl⟩
  | .portRestart w port => ⟨_, execPortRestart_touches w port s, rfl⟩
  | .adminDownWrite w port down => ⟨_, execAdminDownWrite_touches w port down s, rfl⟩
  | .take w die lane spareB => ⟨_, execTake_touches w die lane spareB s, rfl⟩
  | .spareRelease w die spareB => ⟨_, execSpareRelease_touches w die spareB s, rfl⟩
  | .packetIngress port frameTc frameGrains raw => ⟨_, execPacketIngress_touches port frameTc frameGrains raw s, rfl⟩
  | .rankLookupReturn port tc burred => ⟨_, execRankLookupReturn_touches port tc burred s, rfl⟩
  | .grainIngress port tc tag data last => ⟨_, execGrainIngress_touches port tc tag data last s, rfl⟩
  | .ethernetFrameIngress port etherType fcsOk frame => ⟨_, execEthernetFrameIngress_touches port etherType fcsOk frame s, rfl⟩
  | .egressSchedule port => ⟨_, execEgressSchedule_touches port s, rfl⟩
  | .tc7Insertion port => ⟨_, execTc7Insertion_touches port s, rfl⟩
  | .gateEntryAdvance port => ⟨_, execGateEntryAdvance_touches port s, rfl⟩
  | .reorderArrival port tc => ⟨_, execReorderArrival_touches port tc s, rfl⟩
  | .reorderTimeout port slot => ⟨_, execReorderTimeout_touches port slot s, rfl⟩
  | .reorderSlotFree port slot => ⟨_, execReorderSlotFree_touches port slot s, rfl⟩
  | .spindleTransferReceive die waiting => ⟨_, execSpindleTransferReceive_touches die waiting s, rfl⟩
  | .grainAlloc die req epoch count => ⟨_, execGrainAlloc_touches die req epoch count s, rfl⟩
  | .allocWaitGranted lathe => ⟨_, execAllocWaitGranted_touches lathe s, rfl⟩
  | .grainReturn die req epoch pointer => ⟨_, execGrainReturn_touches die req epoch pointer s, rfl⟩
  | .poolLevelSum => ⟨_, execPoolLevelSum_touches s, rfl⟩
  | .reclaim w die req => ⟨_, execReclaim_touches w die req s, rfl⟩
  | .reclaimComplete die req => ⟨_, execReclaimComplete_touches die req s, rfl⟩
  | .retrainAgeScan port => ⟨_, execRetrainAgeScan_touches port s, rfl⟩
  | .spillWrite what => ⟨_, execSpillWrite_touches what s, rfl⟩
  | .spillReadback what => ⟨_, execSpillReadback_touches what s, rfl⟩
  | .archiveSegmentCopy die => ⟨_, execArchiveSegmentCopy_touches die s, rfl⟩
  | .policerProfileWrite w die k isB value => ⟨_, execPolicerProfileWrite_touches w die k isB value s, rfl⟩
  | .policerBindWrite w die entry value => ⟨_, execPolicerBindWrite_touches w die entry value s, rfl⟩
  | .bundleExecute lathe residue => ⟨_, execBundleExecute_touches lathe residue s, rfl⟩
  | .grainBoundary done => ⟨_, execGrainBoundary_touches done s, rfl⟩
  | .arrivalNotice ctx => ⟨_, execArrivalNotice_touches ctx s, rfl⟩
  | .windowOperandArrive ctx => ⟨_, execWindowOperandArrive_touches ctx s, rfl⟩
  | .watchdogBite lathe => ⟨_, execWatchdogBite_touches lathe s, rfl⟩
  | .pipelineDrainTimeout lathe => ⟨_, execPipelineDrainTimeout_touches lathe s, rfl⟩
  | .pacedReleaseTick ctx => ⟨_, execPacedReleaseTick_touches ctx s, rfl⟩
  | .ltSlotWrite w lathe slot value => ⟨_, execLtSlotWrite_touches w lathe slot value s, rfl⟩
  | .evict w lathe ctx => ⟨_, execEvict_touches w lathe ctx s, rfl⟩
  | .reside w lathe ctx slot => ⟨_, execReside_touches w lathe ctx slot s, rfl⟩
  | .migrate w lathe ctx slot target => ⟨_, execMigrate_touches w lathe ctx slot target s, rfl⟩
  | .contextSaveComplete ctx => ⟨_, execContextSaveComplete_touches ctx s, rfl⟩
  | .contextRestoreComplete ctx => ⟨_, execContextRestoreComplete_touches ctx s, rfl⟩
  | .engineReset cause lathe => ⟨_, execEngineReset_touches cause lathe s, rfl⟩
  | .engineResetBoundaryTimeout lathe => ⟨_, execEngineResetBoundaryTimeout_touches lathe s, rfl⟩
  | .selfTestComplete lathe ok => ⟨_, execSelfTestComplete_touches lathe ok s, rfl⟩
  | .quadEngineReset cause die quad => ⟨_, execQuadEngineReset_touches cause die quad s, rfl⟩
  | .takeover w lathe => ⟨_, execTakeover_touches w lathe s, rfl⟩
  | .create w die ctx => ⟨_, execCreate_touches w die ctx s, rfl⟩
  | .start w die ctx slot phys => ⟨_, execStart_touches w die ctx slot phys s, rfl⟩
  | .programLoadComplete ctx => ⟨_, execProgramLoadComplete_touches ctx s, rfl⟩
  | .stop w die ctx => ⟨_, execStop_touches w die ctx s, rfl⟩
  | .resume w die ctx => ⟨_, execResume_touches w die ctx s, rfl⟩
  | .replay w die ctx => ⟨_, execReplay_touches w die ctx s, rfl⟩
  | .release w die ctx => ⟨_, execRelease_touches w die ctx s, rfl⟩
  | .collectiveArrival ctx => ⟨_, execCollectiveArrival_touches ctx s, rfl⟩
  | .query ctx rank call => ⟨_, execQuery_touches ctx rank call s, rfl⟩
  | .arrive ctx rank call => ⟨_, execArrive_touches ctx rank call s, rfl⟩
  | .vote ctx rank call digest => ⟨_, execVote_touches ctx rank call digest s, rfl⟩
  | .parentCompleteNotice ctx call status nflags resultK nextK =>
    ⟨_, execParentCompleteNotice_touches ctx call status nflags resultK nextK s, rfl⟩
  | .narrowNotice ctx down call format => ⟨_, execNarrowNotice_touches ctx down call format s, rfl⟩
  | .partialArrival ctx from_ => ⟨_, execPartialArrival_touches ctx from_ s, rfl⟩
  | .callTimeout ctx => ⟨_, execCallTimeout_touches ctx s, rfl⟩
  | .admitJob w job => ⟨_, execAdmitJob_touches w job s, rfl⟩
  | .modify w job => ⟨_, execModify_touches w job s, rfl⟩
  | .remove w job => ⟨_, execRemove_touches w job s, rfl⟩
  | .jobCancel w job => ⟨_, execJobCancel_touches w job s, rfl⟩
  | .jobChecksComplete => ⟨_, execJobChecksComplete_touches s, rfl⟩
  | .svJobBaseWrite w value => ⟨_, execSvJobBaseWrite_touches w value s, rfl⟩
  | .jobDrainEnd job => ⟨_, execJobDrainEnd_touches job s, rfl⟩
  | .registerWrite w off size value => ⟨_, execRegisterWrite_touches w off size value s, rfl⟩
  | .bar0BadRead fn off size silent => ⟨_, execBar0BadRead_touches fn off size silent s, rfl⟩
  | .rcRead fn off => ⟨_, execRcRead_touches fn off s, rfl⟩
  | .bar2Read fn off len => ⟨_, execBar2Read_touches fn off len s, rfl⟩
  | .bar2Write fn off data => ⟨_, execBar2Write_touches fn off data s, rfl⟩
  | .dmaCompletion ch data => ⟨_, execDmaCompletion_touches ch data s, rfl⟩
  | .dmaReadTimeout ch cause => ⟨_, execDmaReadTimeout_touches ch cause s, rfl⟩
  | .bmeClear fn bme mse => ⟨_, execBmeClear_touches fn bme mse s, rfl⟩
  | .dmaChannelDone ch => ⟨_, execDmaChannelDone_touches ch s, rfl⟩
  | .hcfDataWrite fn word parityOk => ⟨_, execHcfDataWrite_touches fn word parityOk s, rfl⟩
  | .hcfDataEndWrite fn word parityOk => ⟨_, execHcfDataEndWrite_touches fn word parityOk s, rfl⟩
  | .flush fn => ⟨_, execFlush_touches fn s, rfl⟩
  | .hcfTake fn => ⟨_, execHcfTake_touches fn s, rfl⟩
  | .imageLoad fn => ⟨_, execImageLoad_touches fn s, rfl⟩
  | .imageCheck fn => ⟨_, execImageCheck_touches fn s, rfl⟩
  | .imageArm fn => ⟨_, execImageArm_touches fn s, rfl⟩
  | .imageCancel fn => ⟨_, execImageCancel_touches fn s, rfl⟩
  | .imageDiscard fn => ⟨_, execImageDiscard_touches fn s, rfl⟩
  | .window fn => ⟨_, execWindow_touches fn s, rfl⟩
  | .dumpFetch fn => ⟨_, execDumpFetch_touches fn s, rfl⟩
  | .override fn => ⟨_, execOverride_touches fn s, rfl⟩
  | .flashWrite fn => ⟨_, execFlashWrite_touches fn s, rfl⟩
  | .eventRead fn => ⟨_, execEventRead_touches fn s, rfl⟩
  | .mbxH2fWrite fn box value => ⟨_, execMbxH2fWrite_touches fn box value s, rfl⟩
  | .mbxAck fn box code => ⟨_, execMbxAck_touches fn box code s, rfl⟩
  | .mbxF2hWrite fn box value => ⟨_, execMbxF2hWrite_touches fn box value s, rfl⟩
  | .mbxFullRelease fn value => ⟨_, execMbxFullRelease_touches fn value s, rfl⟩
  | .uartFrameReceive sv t7 t8 t9 parityBit stop => ⟨_, execUartFrameReceive_touches sv t7 t8 t9 parityBit stop s, rfl⟩
  | .conTxdWrite fn sv value => ⟨_, execConTxdWrite_touches fn sv value s, rfl⟩
  | .conCapRead fn sv => ⟨_, execConCapRead_touches fn sv s, rfl⟩
  | .i3cPrivateWrite data => ⟨_, execI3cPrivateWrite_touches data s, rfl⟩
  | .i3cPrivateRead count => ⟨_, execI3cPrivateRead_touches count s, rfl⟩
  | .enec ibi => ⟨_, execEnec_touches ibi s, rfl⟩
  | .disec ibi => ⟨_, execDisec_touches ibi s, rfl⟩
  | .rstdaa => ⟨_, execRstdaa_touches s, rfl⟩
  | .entdaa address => ⟨_, execEntdaa_touches address s, rfl⟩
  | .setdasa static address => ⟨_, execSetdasa_touches static address s, rfl⟩
  | .setnewda address => ⟨_, execSetnewda_touches address s, rfl⟩
  | .getpid => ⟨_, execGetpid_touches s, rfl⟩
  | .getbcr => ⟨_, execGetbcr_touches s, rfl⟩
  | .getdcr => ⟨_, execGetdcr_touches s, rfl⟩
  | .getstatus => ⟨_, execGetstatus_touches s, rfl⟩
  | .getmwl => ⟨_, execGetmwl_touches s, rfl⟩
  | .setmwl value => ⟨_, execSetmwl_touches value s, rfl⟩
  | .getmrl => ⟨_, execGetmrl_touches s, rfl⟩
  | .setmrl value => ⟨_, execSetmrl_touches value s, rfl⟩
  | .rstact action => ⟨_, execRstact_touches action s, rfl⟩
  | .tapReset => ⟨_, execTapReset_touches s, rfl⟩
  | .idcode => ⟨_, execIdcode_touches s, rfl⟩
  | .samplePreload preload => ⟨_, execSamplePreload_touches preload s, rfl⟩
  | .extest flash => ⟨_, execExtest_touches flash s, rfl⟩
  | .clamp => ⟨_, execClamp_touches s, rfl⟩
  | .highz => ⟨_, execHighz_touches s, rfl⟩
  | .ijtag data => ⟨_, execIjtag_touches data s, rfl⟩
  | .bypass code => ⟨_, execBypass_touches code s, rfl⟩
  | .campaign sv term => ⟨_, execCampaign_touches sv term s, rfl⟩
  | .renew sv term => ⟨_, execRenew_touches sv term s, rfl⟩
  | .resign sv term => ⟨_, execResign_touches sv term s, rfl⟩
  | .handover w sv turn => ⟨_, execHandover_touches w sv turn s, rfl⟩
  | .cancelHandover w => ⟨_, execCancelHandover_touches w s, rfl⟩
  | .svRestart w sv copyB => ⟨_, execSvRestart_touches w sv copyB s, rfl⟩
  | .supervisorReady sv ok => ⟨_, execSupervisorReady_touches sv ok s, rfl⟩
  | .termNotice die voter => ⟨_, execTermNotice_touches die voter s, rfl⟩
  | .leaseExpiry => ⟨_, execLeaseExpiry_touches s, rfl⟩
  | .campaignBackoffExpiry sv => ⟨_, execCampaignBackoffExpiry_touches sv s, rfl⟩
  | .seamCut lost => ⟨_, execSeamCut_touches lost s, rfl⟩
  | .seamHeal => ⟨_, execSeamHeal_touches s, rfl⟩
  | .errqPop w die => ⟨_, execErrqPop_touches w die s, rfl⟩
  | .scrub die addr hit => ⟨_, execScrub_touches die addr hit s, rfl⟩
  | .hangDetect die unit => ⟨_, execHangDetect_touches die unit s, rfl⟩
  | .noLeaderTimeout => ⟨_, execNoLeaderTimeout_touches s, rfl⟩
  | .partReset w part => ⟨_, execPartReset_touches w part s, rfl⟩
  | .warmRestart w => ⟨_, execWarmRestart_touches w s, rfl⟩
  | .powerCycle w => ⟨_, execPowerCycle_touches w s, rfl⟩
  | .healthUpdate => ⟨_, execHealthUpdate_touches s, rfl⟩
  | .bootConfirm w => ⟨_, execBootConfirm_touches w s, rfl⟩
  | .bootConfirmTimeout => ⟨_, execBootConfirmTimeout_touches s, rfl⟩
  | .nearTierTrained ok => ⟨_, execNearTierTrained_touches ok s, rfl⟩
  | .farTierTrained ok => ⟨_, execFarTierTrained_touches ok s, rfl⟩
  | .mainFirmwareLoaded => ⟨_, execMainFirmwareLoaded_touches s, rfl⟩
  | .pcieLinkDown fn trained => ⟨_, execPcieLinkDown_touches fn trained s, rfl⟩
  | .d3hotEntry fn d3 => ⟨_, execD3hotEntry_touches fn d3 s, rfl⟩
  | .childAbortNotice ctx call status => ⟨_, execChildAbortNotice_touches ctx call status s, rfl⟩
  | .resizePauseEnd port => ⟨_, execResizePauseEnd_touches port s, rfl⟩
  | .coldTrainingTimeout port => ⟨_, execColdTrainingTimeout_touches port s, rfl⟩
  | .vaux1v8Recover mv => ⟨_, execVaux1v8Recover_touches mv s, rfl⟩
  | .bootStageLoaded => ⟨_, execBootStageLoaded_touches s, rfl⟩
  | .windowWriteAccepted ctx => ⟨_, execWindowWriteAccepted_touches ctx s, rfl⟩
  | .dumpWritten => ⟨_, execDumpWritten_touches s, rfl⟩

/-- A command keeps every piece of the state outside its reach. -/
theorem exec_keeps_reach {c : Instr} {s t : State} (h : exec c s = .next t) : s.keeps t (reach c) := by
  obtain ⟨m, htouches, hout⟩ := exec_touches_reach s c
  exact htouches.keeps h hout

/-- No command lowers the trust of the fuses. -/
theorem exec_trustKept {c : Instr} {s t : State} (h : exec c s = .next t) : Fuses.trustKept s.fuses t.fuses := by
  obtain ⟨m, htouches, -⟩ := exec_touches_reach s c
  exact (htouches t h).trust

/-- A step runs the command at the front of the queue, or lets a tick pass, which may act as a turn boundary: neither lowers the trust. -/
theorem step_trustKept {s t : State} (h : step s = .next t) : Fuses.trustKept s.fuses t.fuses := by
  unfold step at h
  split at h
  · cases h
    exact s.idle_touches.trust
  · next c rest _ => exact exec_trustKept (s := { s with pending := rest }) h

/-- Settles O6: every mask keeps the trust, and the fuses lie outside the reach of all but two commands. -/
theorem fuseTrustKept : Obligations.FuseTrustKept :=
  ⟨fun _ _ => step_trustKept, fun _ _ _ h hb ht => exec_keeps_reach h .fuses (fuses_notMem_reach hb ht)⟩

end Sys2Proof.Machine
end

section
/-! The part right after reset (R73, R84, R90, R405): O7. -/

namespace Sys2Proof.Machine

/-! ## Registers that the statement names, at their reset values -/

theorem State.turnLen_reset : State.reset.fld R.tbTurnLen F.TbTurnLen.ticks = 100000 := by decide
theorem State.stepAllowed_reset : State.reset.fld R.tbStat F.TbStat.stepAllowed = 1 := by decide
theorem State.imgState_reset : State.reset.imgState = 0 := by decide
theorem State.stage_reset : State.reset.stage = 0 := by decide

/-- No two voters agree on a term while each has promised none (R405). -/
theorem State.leader_reset : State.reset.leader = none := by decide

theorem State.memoryOk_reset : State.reset.memoryOk = true := by
  rw [State.memoryOk, State.reset_near_wf, State.reset_far_wf]
  rfl

/-- Settles O7: tables are empty, and registers stand at their reset values. -/
theorem resetState : Obligations.ResetState :=
  ⟨rfl, rfl, rfl, rfl, rfl, State.turnLen_reset, State.stepAllowed_reset, rfl, State.imgState_reset, fun _ => rfl, rfl,
    State.leader_reset, fun _ => rfl, fun _ => rfl, State.stage_reset, rfl, State.memoryOk_reset⟩

end Sys2Proof.Machine
end

section
/-! The shadow plane (R71 to R78): its status register, loading, CHECK, and the plane commands with their refusals: O26 and O27. -/

namespace Sys2Proof.Machine

variable (s : State)

/-! ## SV_IMG_STAT (R73) -/

/-- A change of state outside the registers keeps every register. -/
theorem Touches.keepsRegs {m : Nat} {s t : State} (h : Touches m s t) (hm : m.testBit 3 = false) (l : List Nat) : s.keepsRegs t l :=
  fun off _ => h.rd hm off

theorem State.keepsRegs.mono {s t : State} {l l' : List Nat} (h : s.keepsRegs t l) (hl : l ⊆ l') : s.keepsRegs t l' :=
  fun off ho => h off (fun hmem => ho (hl hmem))

theorem State.keepsRegs_withImg (f : ImgSt → ImgSt) (l : List Nat) : s.keepsRegs (s.withImg f) l :=
  (s.withImg_touches f).keepsRegs rfl l

theorem State.imgState_setImgState (n : Nat) (h : n < 2 ^ F.SvImgStat.state.wid) : (s.setImgState n).imgState = n :=
  s.fld_setFld_fit _ _ n rfl h

theorem State.keepsRegs_setImgState (n : Nat) : s.keepsRegs (s.setImgState n) [R.svImgStat] := s.keepsRegs_setFld _ _ _

/-- A write of STATE leaves the other fields of its register. -/
theorem State.fld_setImgState (n : Nat) (f : Fld) (h : f.apart F.SvImgStat.state = true) :
    (s.setImgState n).fld R.svImgStat f = s.fld R.svImgStat f :=
  s.fld_setFld_apart _ _ _ _ h

theorem State.keepsRegs_imgFail (code sect entry : Nat) : s.keepsRegs (s.imgFail code sect entry) [R.svImgStat] :=
  ((s.keepsRegs_setFld _ _ _).trans (State.keepsRegs_setFld _ _ _ _)).trans (State.keepsRegs_setFld _ _ _ _)

/-- FAIL written, and then STATE: a check or an activation that has failed. -/
theorem State.keepsRegs_failed (code sect entry n : Nat) :
    s.keepsRegs ((s.imgFail code sect entry).setImgState n) [R.svImgStat] :=
  (s.keepsRegs_imgFail _ _ _).trans (State.keepsRegs_setImgState _ _)

theorem State.keeps_failed (code sect entry n : Nat) : s.keeps ((s.imgFail code sect entry).setImgState n) [.regs] :=
  ((State.setImgState_touches _ n).step rfl (s.imgFail_touches code sect entry)).keeps (Piece.testBit_of_outside rfl)

theorem State.imgState_imgFail (code sect entry : Nat) : (s.imgFail code sect entry).imgState = s.imgState := by
  rw [State.imgState, State.imgFail, State.fld_setFld_apart _ _ _ _ _ rfl, State.fld_setFld_apart _ _ _ _ _ rfl,
    State.fld_setFld_apart _ _ _ _ _ rfl, State.imgState]

theorem State.fail_imgFail (code sect entry : Nat) (h : code < 256) :
    (s.imgFail code sect entry).fld R.svImgStat F.SvImgStat.fail = code := by
  rw [State.imgFail, State.fld_setFld_apart _ _ _ _ _ rfl, State.fld_setFld_apart _ _ _ _ _ rfl, State.fld_setFld_fit _ _ _ _ rfl h]

theorem State.failSect_imgFail (code sect entry : Nat) (h : sect < 65536) :
    (s.imgFail code sect entry).fld R.svImgStat F.SvImgStat.failSect = sect := by
  rw [State.imgFail, State.fld_setFld_apart _ _ _ _ _ rfl, State.fld_setFld_fit _ _ _ _ rfl h]

theorem State.failEntry_imgFail (code sect entry : Nat) (h : entry < 65536) :
    (s.imgFail code sect entry).fld R.svImgStat F.SvImgStat.failEntry = entry :=
  State.fld_setFld_fit _ _ _ _ rfl h

theorem State.cmdRefused_imgRefuse : s.imgRefuse.fld R.svImgStat F.SvImgStat.cmdRefused = 1 :=
  s.fld_setFld_fit _ _ 1 rfl (by decide)

theorem State.imgState_imgRefuse : s.imgRefuse.imgState = s.imgState := s.fld_setFld_apart _ _ _ _ rfl

/-! ## Loading (R76) -/

/-- The bytes that complete the image make it LOADED. -/
theorem State.addImage_last (b : Blob) (h : s.img.loaded.len + b.len = s.img.loadLen) :
    s.addImage b = (s.withImg (fun i => { i with loaded := s.img.loaded.append b })).setImgState 2 := by
  have hlen : (s.img.loaded.append b).len = s.img.loadLen := h
  simp only [State.addImage, hlen, Nat.lt_irrefl, if_false]
  exact if_pos rfl

/-- Bytes that do not complete the image leave its STATE. -/
theorem State.addImage_more (b : Blob) (h : s.img.loaded.len + b.len < s.img.loadLen) :
    s.addImage b = s.withImg (fun i => { i with loaded := s.img.loaded.append b }) := by
  have hlen : (s.img.loaded.append b).len < s.img.loadLen := h
  simp only [State.addImage, if_neg hlen.not_gt]
  exact if_neg hlen.ne

theorem State.imgState_of_mayLoad (h : s.mayLoad = true) : s.imgState = 0 ∨ s.imgState = 2 ∨ s.imgState = 4 ∨ s.imgState = 8 := by
  simpa only [State.mayLoad, Bool.or_eq_true, decide_eq_true_eq, or_assoc] using h

theorem exec_imageDmaLoad_first (n : Nat) (b : Blob) (h : s.mayLoad = true) :
    exec (.imageDmaLoad n b) s = .next ((s.beginImage n 3).addImage b) := by
  have hst : s.imgState ≠ 1 := by
    have := s.imgState_of_mayLoad h
    omega
  show execImageDmaLoad n b s = _
  rw [execImageDmaLoad, if_neg hst, if_pos h]

theorem exec_imageDmaLoad_further (n : Nat) (b : Blob) (h : s.imgState = 1) : exec (.imageDmaLoad n b) s = .next (s.addImage b) :=
  if_pos h

theorem exec_imageDmaLoad_refused (n : Nat) (b : Blob) (h : s.imgState ≠ 1) (hload : s.mayLoad ≠ true) :
    exec (.imageDmaLoad n b) s = .next s.imgRefuse := by
  show execImageDmaLoad n b s = _
  rw [execImageDmaLoad, if_neg h, if_neg hload]

theorem State.addImage_begin_more (n src : Nat) (b : Blob) (h : b.len < n) :
    ((s.beginImage n src).addImage b).imgState = 1 ∧ ((s.beginImage n src).addImage b).img.loadLen = n
      ∧ ((s.beginImage n src).addImage b).img.loaded.len = b.len := by
  rw [State.addImage_more _ b (lt_of_eq_of_lt (Nat.zero_add _) h)]
  exact ⟨State.imgState_setImgState _ 1 (by decide), rfl, Nat.zero_add _⟩

theorem State.keepsRegs_addImage_last (b : Blob) (h : s.img.loaded.len + b.len = s.img.loadLen) :
    s.keepsRegs (s.addImage b) [R.svImgStat] := by
  rw [s.addImage_last b h]
  exact (s.keepsRegs_withImg _ _).trans (State.keepsRegs_setImgState _ _)

theorem State.imgState_addImage_last (b : Blob) (h : s.img.loaded.len + b.len = s.img.loadLen) : (s.addImage b).imgState = 2 := by
  rw [s.addImage_last b h]
  exact State.imgState_setImgState _ 2 (by decide)

theorem State.img_addImage_last (b : Blob) (h : s.img.loaded.len + b.len = s.img.loadLen) :
    (s.addImage b).img = { s.img with loaded := s.img.loaded.append b } := by
  rw [s.addImage_last b h]
  rfl

theorem State.keepsRegs_beginImage (n src : Nat) : s.keepsRegs (s.beginImage n src) [R.svImgStat] :=
  (s.keepsRegs_withImg _ _).trans (State.keepsRegs_setImgState _ _)

/-! ## The end of a check (R77, R78, R408) -/

theorem State.rd_setStage (n off : Nat) (h : off ≠ R.glbBoot) : (s.setStage n).rd off = s.rd off := by
  rw [State.setStage, State.rd_setFld_ne _ _ _ _ _ h, State.rd_setFld_ne _ _ _ _ _ h]

theorem State.stage_setStage (n : Nat) (h : n < 2 ^ F.GlbBoot.stage.wid) : (s.setStage n).stage = n := by
  rw [State.stage, State.setStage, State.fld_setFld_apart _ _ _ _ _ rfl, State.fld_setFld_fit _ _ _ _ rfl h]

/-- A step of the start leaves FAIL. -/
theorem State.fld_fail_setStage (n : Nat) : (s.setStage n).fld R.glbBoot F.GlbBoot.fail = s.fld R.glbBoot F.GlbBoot.fail := by
  rw [State.setStage, State.fld_setFld_apart _ _ _ _ _ rfl, State.fld_setFld_apart _ _ _ _ _ rfl]

theorem State.rd_bootFail (code off : Nat) (hb : off ≠ R.glbBoot) (he : off ≠ R.errStat) : (s.bootFail code).rd off = s.rd off := by
  rw [State.bootFail, State.rd_keeperRec _ _ _ _ _ he, State.rd_setFld_ne _ _ _ _ _ hb]

theorem State.fail_bootFail (code : Nat) (h : code < 2 ^ F.GlbBoot.fail.wid) : (s.bootFail code).fld R.glbBoot F.GlbBoot.fail = code := by
  rw [State.bootFail, State.fld_of_rd (State.rd_keeperRec _ _ _ _ _ (by decide)), State.fld_setFld_fit _ _ _ _ rfl h]

/-- A check that fails leaves STAGE: the status of the plane stands in another register. -/
theorem State.stage_failed (code sect entry : Nat) : ((s.imgFail code sect entry).setImgState 8).stage = s.stage :=
  State.fld_of_rd (s.keepsRegs_failed _ _ _ 8 R.glbBoot (by decide)) _

theorem exec_checkComplete_fails (f : ImgFail) (hst : s.imgState = 3) (hf : checkImage s s.runningMajor s.img.loaded = some f)
    (hstage : s.stage ≠ 6) : exec .checkComplete s = .next ((s.imgFail f.code f.sect f.entry).setImgState 8) := by
  show execCheckComplete s = _
  simp only [execCheckComplete, hst, hf, State.stage_failed, hstage, ne_eq, not_true_eq_false, if_false, decide_false, Bool.false_and,
    Bool.false_eq_true]

/-- The last copy's image fails its check during the start: the part waits for an image of the host. -/
theorem exec_checkComplete_waits (f : ImgFail) (hst : s.imgState = 3) (hf : checkImage s s.runningMajor s.img.loaded = some f)
    (hstage : s.stage = 6) (hsrc : s.img.loadSrc < 3) (htried : s.boot.imgTried = true) :
    exec .checkComplete s = .next ((((s.imgFail f.code f.sect f.entry).setImgState 8).bootFail 8).setStage 7) := by
  have hb : ((s.imgFail f.code f.sect f.entry).setImgState 8).boot.imgTried = true := htried
  show execCheckComplete s = _
  simp only [execCheckComplete, hst, hf, State.stage_failed, hstage, hsrc, hb, ne_eq, not_true_eq_false, if_false, decide_true,
    Bool.and_self, if_true]

/-- The plane that a check composes, CHECKED in the shadow. -/
def State.imgPassed : State :=
  (s.withImg (fun i => { i with shadow := some (composePlane s.img.active s.img.loadSrc s.img.loaded) })).setImgState 4

/-- An image that passes is CHECKED, whatever FAIL says of the live checks. -/
theorem exec_checkComplete_passes (hst : s.imgState = 3) (hf : checkImage s s.runningMajor s.img.loaded = none) :
    ∃ code sect, exec .checkComplete s = .next (s.imgPassed.imgFail code sect 0) := by
  show ∃ code sect, execCheckComplete s = _
  simp only [execCheckComplete, hst, hf, ne_eq, not_true_eq_false, if_false]
  split
  · exact ⟨0, 0, rfl⟩
  · exact ⟨0x11, 0xFFFF, rfl⟩

theorem exec_checkComplete_next : ∃ t, exec .checkComplete s = .next t := by
  show ∃ t, execCheckComplete s = .next t
  unfold execCheckComplete
  split
  · exact ⟨_, rfl⟩
  · split <;> exact ⟨_, rfl⟩

theorem State.imgPassed_touches : Touches 0x88 s s.imgPassed :=
  (State.setImgState_touches _ 4).step rfl ((s.withImg_touches _).mono rfl)

theorem State.imgState_imgPassed : s.imgPassed.imgState = 4 := State.imgState_setImgState _ 4 (by decide)

theorem State.keepsRegs_imgPassed : s.keepsRegs s.imgPassed [R.svImgStat] :=
  (s.keepsRegs_withImg _ _).trans (State.keepsRegs_setImgState _ _)

/-! ## The plane commands (R72, R76) -/

theorem State.imgCommand_applied (w : Writer) (go : State → State) (h : s.judge w (writerDie w) = .applied) :
    s.imgCommand w go = go s := by
  rw [State.imgCommand, State.fenced, h]

section
variable {s} {w : Writer} (hw : s.judge w (writerDie w) = .applied)
include hw

theorem exec_check : exec (.check w) s = .next s.imgCheck := congrArg Host.Outcome.next (s.imgCommand_applied w _ hw)
theorem exec_cancel : exec (.cancel w) s = .next s.imgCancel := congrArg Host.Outcome.next (s.imgCommand_applied w _ hw)
theorem exec_discard : exec (.discard w) s = .next s.imgDiscard := congrArg Host.Outcome.next (s.imgCommand_applied w _ hw)

/-- ARM takes the writer's term, which is 0 for a writer that carries none. -/
theorem exec_arm (x : Nat) : ∃ tm, exec (.arm w x) s = .next (s.imgArm x tm) :=
  ⟨_, congrArg Host.Outcome.next (s.imgCommand_applied w _ hw)⟩

end

theorem exec_arm_fw (sv : Sv) (tm x : Nat) (hw : s.judge (.fw sv (some tm)) (writerDie (.fw sv (some tm))) = .applied) :
    exec (.arm (.fw sv (some tm)) x) s = .next (s.imgArm x tm) := congrArg Host.Outcome.next (s.imgCommand_applied _ _ hw)

theorem State.imgCheck_loaded (h : s.imgState = 2) : s.imgCheck = s.setImgState 3 := if_pos h
theorem State.imgCheck_refused (h : s.imgState ≠ 2) : s.imgCheck = s.imgRefuse := if_neg h
theorem State.imgCancel_armed (h : s.imgState = 5) : s.imgCancel = s.setImgState 4 := if_pos h
theorem State.imgCancel_refused (h : s.imgState ≠ 5) : s.imgCancel = s.imgRefuse := if_neg h

theorem State.imgDiscard_held (h : s.imgState = 2 ∨ s.imgState = 4 ∨ s.imgState = 8) :
    s.imgDiscard = (s.withImg (fun i => { i with loaded := Blob.empty, shadow := none })).setImgState 0 :=
  if_pos (by simpa only [Bool.or_eq_true, decide_eq_true_eq, or_assoc] using h)

theorem State.imgDiscard_refused (h2 : s.imgState ≠ 2) (h4 : s.imgState ≠ 4) (h8 : s.imgState ≠ 8) : s.imgDiscard = s.imgRefuse :=
  if_neg (by simp [h2, h4, h8])

/-- TARGET_TURN of an ARM is stored before the plane is looked at (R72). -/
def State.storeTarget (x : Nat) : State := s.setFld R.svImgCtl F.SvImgCtl.targetTurn (x % 2 ^ 32)

theorem State.imgState_storeTarget (x : Nat) : (s.storeTarget x).imgState = s.imgState := s.fld_setFld_ne _ _ _ _ _ (by decide)

theorem State.target_storeTarget (x : Nat) : (s.storeTarget x).fld R.svImgCtl F.SvImgCtl.targetTurn = x % 2 ^ 32 :=
  s.fld_setFld_fit _ _ _ rfl (Nat.mod_lt _ (by decide))

theorem State.storeTarget_touches (x : Nat) : Touches 0x8 s (s.storeTarget x) := s.setFld_touches _ _ _

theorem State.imgArm_refused (x tm : Nat) (h : s.imgState ≠ 4) : s.imgArm x tm = (s.storeTarget x).imgRefuse := by
  have hst : (s.storeTarget x).imgState ≠ 4 := by rwa [s.imgState_storeTarget x]
  unfold State.imgArm
  rw [← State.storeTarget]
  exact if_neg (by simp [hst])

/-- The plane in the shadow armed for a turn under a term (R76). -/
def State.imgArmed (x tm : Nat) : State :=
  ((s.storeTarget x).withImg (fun i => { i with
    target := x % 2 ^ 32, armTerm := tm, armTick := s.tb.tick, ready := [], commits := [] })).setImgState 5

theorem State.imgArm_armed (x tm : Nat) (p : Plane) (hst : s.imgState = 4) (hp : s.img.shadow = some p)
    (hlo : s.tb.turn + 3 ≤ s.turnNamed (x % 2 ^ 32)) (hhi : s.turnNamed (x % 2 ^ 32) ≤ s.tb.turn + 2 ^ 20)
    (hlive : (s.storeTarget x).liveOk p (s.turnNamed (x % 2 ^ 32)) = true) : s.imgArm x tm = s.imgArmed x tm := by
  have hst' : (s.storeTarget x).imgState = 4 := by rw [s.imgState_storeTarget x, hst]
  have hp' : (s.storeTarget x).img.shadow = some p := hp
  unfold State.imgArm
  rw [← State.storeTarget]
  refine (if_pos ?_).trans ?_
  · simp only [hst', decide_true, Bool.true_and, Bool.and_eq_true, decide_eq_true_eq]
    exact ⟨hlo, hhi⟩
  · simp only [hp']
    exact if_pos hlive

theorem State.imgState_imgArmed (x tm : Nat) : (s.imgArmed x tm).imgState = 5 := State.imgState_setImgState _ 5 (by decide)

theorem State.keepsRegs_imgArmed (x tm : Nat) : s.keepsRegs (s.imgArmed x tm) [R.svImgCtl, R.svImgStat] := by
  have hstore : s.keepsRegs (s.storeTarget x) [R.svImgCtl, R.svImgStat] := (s.keepsRegs_setFld _ _ _).mono (by simp)
  unfold State.imgArmed
  exact (hstore.trans (State.keepsRegs_withImg _ _ _)).trans ((State.keepsRegs_setImgState _ _).mono (by simp))

theorem State.target_imgArmed (x tm : Nat) : (s.imgArmed x tm).fld R.svImgCtl F.SvImgCtl.targetTurn = x % 2 ^ 32 :=
  (State.fld_of_rd (State.keepsRegs_setImgState _ 5 _ (by decide)) _).trans (s.target_storeTarget x)

/-- What a refused plane command does (R76): CMD_REFUSED, with STATE of the shadow plane as it is and only registers written. -/
def PlaneRefused (s t : State) : Prop :=
  t.fld R.svImgStat F.SvImgStat.cmdRefused = 1 ∧ t.imgState = s.imgState ∧ s.keeps t [.regs]

theorem State.planeRefused_imgRefuse : PlaneRefused s s.imgRefuse :=
  ⟨s.cmdRefused_imgRefuse, s.imgState_imgRefuse, s.imgRefuse_touches.keeps (Piece.testBit_of_outside rfl)⟩

/-- An ARM that is refused has stored TARGET_TURN all the same. -/
theorem State.planeRefused_imgArm (x tm : Nat) (h : s.imgState ≠ 4) : PlaneRefused s (s.imgArm x tm) := by
  rw [s.imgArm_refused x tm h]
  exact ⟨State.cmdRefused_imgRefuse _, (State.imgState_imgRefuse _).trans (s.imgState_storeTarget x),
    ((State.imgRefuse_touches _).step rfl (s.storeTarget_touches x)).keeps (Piece.testBit_of_outside rfl)⟩

end Sys2Proof.Machine

namespace Sys2Proof.Machine

/-- Settles O26: a load by what it adds to the image, a check by the first check that fails. -/
theorem imageIsLoadedAndChecked : Obligations.ImageIsLoadedAndChecked := by
  refine ⟨fun b s h => ⟨_, exec_imageDmaLoad_first s b.len b h, ?_⟩, fun n b s h hn => ⟨_, exec_imageDmaLoad_first s n b h,
      s.addImage_begin_more n 3 b hn⟩,
    fun n b s h hn => ⟨_, exec_imageDmaLoad_further s n b h, ?_⟩,
    fun w s hw h => ⟨_, exec_check hw, ?_⟩,
    fun s f hst hf hstage hc hs he => ⟨_, exec_checkComplete_fails s f hst hf hstage, ?_⟩,
    fun s f hst hf hstage hsrc htried => ⟨_, exec_checkComplete_waits s f hst hf hstage hsrc htried, ?_⟩,
    fun s hst => ?_⟩
  · have hlen : (s.beginImage b.len 3).img.loaded.len + b.len = (s.beginImage b.len 3).img.loadLen := Nat.zero_add _
    have himg := State.img_addImage_last _ b hlen
    exact ⟨State.imgState_addImage_last _ b hlen, by rw [himg]; rfl, by rw [himg]; rfl, by rw [himg]; rfl, by rw [himg]; rfl,
      (s.keepsRegs_beginImage _ _).trans (State.keepsRegs_addImage_last _ b hlen),
      (execImageDmaLoad_touches _ b s).keeps (exec_imageDmaLoad_first s _ b h) rfl⟩
  · exact ⟨s.imgState_addImage_last b hn, by rw [s.img_addImage_last b hn], s.keepsRegs_addImage_last b hn⟩
  · rw [s.imgCheck_loaded h]
    exact ⟨s.imgState_setImgState 3 (by decide), s.keepsRegs_setImgState 3,
      (s.setImgState_touches 3).keeps (Piece.testBit_of_outside rfl)⟩
  · refine ⟨State.imgState_setImgState _ 8 (by decide), ?_, ?_, ?_, s.keepsRegs_failed _ _ _ _, s.keeps_failed _ _ _ _⟩
    · rw [State.fld_setImgState _ _ _ rfl, s.fail_imgFail _ _ _ hc]
    · rw [State.fld_setImgState _ _ _ rfl, s.failSect_imgFail _ _ _ hs]
    · rw [State.fld_setImgState _ _ _ rfl, s.failEntry_imgFail _ _ _ he]
  · refine ⟨?_, State.stage_setStage _ 7 (by decide), ?_⟩
    · have hrd := (State.rd_setStage (((s.imgFail f.code f.sect f.entry).setImgState 8).bootFail 8) 7 R.svImgStat (by decide)).trans
        (State.rd_bootFail _ 8 _ (by decide) (by decide))
      exact (State.fld_of_rd hrd _).trans (State.imgState_setImgState _ 8 (by decide))
    · rw [State.fld_fail_setStage, State.fail_bootFail _ 8 (by decide)]
  · by_cases hf : checkImage s s.runningMajor s.img.loaded = none
    · obtain ⟨code, sect, he⟩ := exec_checkComplete_passes s hst hf
      refine ⟨_, he, fun _ => ⟨?_, rfl, rfl, s.keepsRegs_imgPassed.trans (State.keepsRegs_imgFail _ _ _ _), ?_⟩⟩
      · rw [State.imgState_imgFail, s.imgState_imgPassed]
      · exact ((State.imgFail_touches _ _ _ _).step rfl s.imgPassed_touches).keeps (Piece.testBit_of_outside rfl)
    · obtain ⟨t, he⟩ := exec_checkComplete_next s
      exact ⟨t, he, fun hnone => absurd hnone hf⟩

/-- Settles O27: each accepted command by the state that it makes, each refused one by CMD_REFUSED alone. -/
theorem planeCommands : Obligations.PlaneCommands := by
  refine ⟨fun sv tm x p s hw hst hp hlo hhi hlive => ?_, fun w s hw h => ⟨_, exec_cancel hw, ?_⟩,
    fun w s hw h => ⟨_, exec_discard hw, ?_⟩,
    fun n b s h => ?_, fun w s hw h => ⟨_, exec_check hw, ?_⟩, fun w x s hw h => ?_, fun w s hw h => ⟨_, exec_cancel hw, ?_⟩,
    fun w s hw h2 h4 h8 => ⟨_, exec_discard hw, ?_⟩⟩
  · have hexec := exec_arm_fw s sv tm x hw
    rw [s.imgArm_armed x tm p hst hp hlo hhi hlive] at hexec
    exact ⟨_, hexec, s.imgState_imgArmed x tm, rfl, rfl, rfl, rfl, hp, rfl, s.target_imgArmed x tm, s.keepsRegs_imgArmed x tm,
      (execArm_touches _ _ s).keeps hexec rfl⟩
  · rw [s.imgCancel_armed h]
    exact ⟨s.imgState_setImgState 4 (by decide), s.fld_setImgState 4 _ rfl, s.keepsRegs_setImgState 4,
      (s.setImgState_touches 4).keeps (Piece.testBit_of_outside rfl)⟩
  · rw [s.imgDiscard_held h]
    exact ⟨State.imgState_setImgState _ 0 (by decide), rfl, rfl, rfl, (s.keepsRegs_withImg _ _).trans (State.keepsRegs_setImgState _ _),
      (execDiscard_touches w s).keeps ((exec_discard hw).trans (congrArg Host.Outcome.next (s.imgDiscard_held h))) rfl⟩
  · refine ⟨_, exec_imageDmaLoad_refused s n b (by omega) (fun hload => ?_), s.planeRefused_imgRefuse⟩
    have := s.imgState_of_mayLoad hload
    omega
  · rw [s.imgCheck_refused h]
    exact s.planeRefused_imgRefuse
  · obtain ⟨tm, hexec⟩ := exec_arm hw x
    exact ⟨_, hexec, s.planeRefused_imgArm x tm h⟩
  · rw [s.imgCancel_refused h]
    exact s.planeRefused_imgRefuse
  · rw [s.imgDiscard_refused h2 h4 h8]
    exact s.planeRefused_imgRefuse

end Sys2Proof.Machine
end

section
/-! An activation (R81 to R83): staging, COMMIT, the retiring plane, and the planes of the dies at the swap: O28. -/

namespace Sys2Proof.Machine

variable (s : State)

/-! ## Staging and the retiring plane -/

theorem exec_stagingReady (d : Die) (hst : s.imgState = 5) (hen : s.dieEnabled d.val = true) (hready : d.val ∉ s.img.ready)
    (hseam : s.sup.seam ≠ .healing) :
    exec (.stagingReady d) s = .next (s.withImg (fun i => { i with ready := i.ready ++ [d.val] })) := by
  have hcontains : s.img.ready.contains d.val = false := by simpa using hready
  show execStagingReady d s = _
  simp only [execStagingReady, hseam, decide_false, Bool.false_and, Bool.false_eq_true, if_false, hst, decide_true, hen, hcontains,
    Bool.not_false, Bool.and_self, if_true]

/-- The last report of the retiring plane ends its obligations. -/
theorem exec_retireReport_last (d : Die) (r : Retire) (hr : s.img.retire = some r) (hleft : r.left = [d.val]) :
    exec (.retireReport d) s = .next (s.withImg (fun i => { i with retire := some { r with left := [] } })).endRetire := by
  show execRetireReport d s = _
  simp only [execRetireReport, hr, hleft, List.erase_cons_head, if_true]

theorem exec_retireTimeout_due (r : Retire) (hr : s.img.retire = some r) (ht : r.swapTick + 1000000 * r.maxResMs ≤ s.tb.tick) :
    exec .retireTimeout s = .next s.endRetire := by
  show execRetireTimeout s = _
  simp only [execRetireTimeout, hr, if_pos ht]

theorem State.imgState_endRetire : s.endRetire.imgState = 4 := State.imgState_setImgState _ 4 (by decide)

theorem State.keepsRegs_endRetire : s.keepsRegs s.endRetire [R.svImgStat] :=
  (s.keepsRegs_withImg _ _).trans (State.keepsRegs_setImgState _ _)

/-! ## COMMIT on the dies (R81 steps 2 and 3) -/

/-- A COMMIT is in time: the plane is ARMED, its staging boundary has passed, and T is at least 5 µs away. -/
def State.commitInTime : Prop :=
  s.imgState = 5 ∧ s.tb.turn + 1 = s.turnNamed s.img.target ∧ s.tb.tick + 5000 ≤ s.turnTick (s.turnNamed s.img.target)

/-- What a COMMIT does on die d: the die's fence applies it, or drops it, if it gets there. -/
def State.commitOn (sv : Sv) (term : Nat) (s : State) (d : Nat) : State :=
  if !s.halvesJoined (dieHalf d) sv.val then s
  else match (s.fence d).judge (s.dieNow d) (some term) with
    | .applied => s.withImg (fun i => { i with commits := i.commits ++ [(d, term, causedStamp (s.dieNow d) (s.dieNow (dSup sv.val)))] })
    | v => s.dropWrite (.fw sv (some term)) d 0 v

/-- A COMMIT on every die that stages. -/
def State.commitAll (sv : Sv) (term : Nat) : State := s.stagers.foldl (State.commitOn sv term) s

/-- STAGED, with the turn length of the plane in the shadow planned for the swap (R76, R91). -/
def State.commitStaged : State :=
  let len := ((s.img.shadow).map Plane.turnTicks).getD s.tb.ticks
  let next := if len = s.tb.ticks then 0 else len
  (({ s with tb := { s.tb with nextTicks := next } } : State).setFld R.tbTurnLen F.TbTurnLen.nextTicks next).setImgState 6

/-- The guard under which a COMMIT is passed over does not hold of one in time. -/
theorem State.commit_due (h : s.commitInTime) :
    ¬ (decide (s.imgState ≠ 5) || decide (s.tb.turn + 1 ≠ s.turnNamed s.img.target)
      || decide (s.turnTick (s.turnNamed s.img.target) < s.tb.tick + 5000)) = true := by
  obtain ⟨hst, hturn, htick⟩ := h
  simp only [hst, hturn, Bool.or_eq_true, decide_eq_true_eq]
  omega

theorem exec_commit_held (sv : Sv) (h : s.commitInTime) (hheld : (s.commitAll sv s.img.armTerm).img.commits ≠ []) :
    exec (.commit sv s.img.armTerm) s = .next (s.commitAll sv s.img.armTerm).commitStaged :=
  (if_neg (s.commit_due h)).trans ((if_neg (not_not_intro rfl)).trans (if_neg hheld))

theorem exec_commit_otherTerm (sv : Sv) (term : Nat) (h : s.commitInTime) (hterm : term ≠ s.img.armTerm) :
    exec (.commit sv term) s = .next ((s.imgFail 0x13 0xFFFF 0).setImgState 4) :=
  (if_neg (s.commit_due h)).trans (if_pos hterm)

/-- From s to t COMMITs have been taken: none is lost, and the fences, the time and the active plane are the same. -/
structure CommitsTaken (s t : State) : Prop where
  sup : t.sup = s.sup
  tb : t.tb = s.tb
  active : t.img.active = s.img.active
  commits : s.img.commits ⊆ t.img.commits

theorem CommitsTaken.refl : CommitsTaken s s := ⟨rfl, rfl, rfl, List.Subset.refl _⟩

theorem CommitsTaken.trans {s t u : State} (h : CommitsTaken s t) (h' : CommitsTaken t u) : CommitsTaken s u :=
  ⟨h'.sup.trans h.sup, h'.tb.trans h.tb, h'.active.trans h.active, fun _ hc => h'.commits (h.commits hc)⟩

theorem CommitsTaken.of_touches {m : Nat} {s t : State} (h : Touches m s t) (hsup : m.testBit 8 = false) (htb : m.testBit 2 = false)
    (himg : m.testBit 7 = false) : CommitsTaken s t := by
  have hi : t.img = s.img := h.same 7 himg
  exact ⟨h.same 8 hsup, h.same 2 htb, by rw [hi], fun c hc => by rwa [hi]⟩

theorem State.commitOn_taken (sv : Sv) (term d : Nat) : CommitsTaken s (s.commitOn sv term d) := by
  unfold State.commitOn
  split
  · exact .refl s
  · split
    · exact ⟨rfl, rfl, rfl, List.subset_append_left _ _⟩
    · exact .of_touches (s.dropWrite_touches _ _ _ _) rfl rfl rfl

theorem State.commitOn_foldl_taken (sv : Sv) (term : Nat) (l : List Nat) : CommitsTaken s (l.foldl (State.commitOn sv term) s) :=
  List.foldlRecOn (motive := CommitsTaken s) l _ (.refl s) (fun t h d _ => h.trans (t.commitOn_taken sv term d))

/-- The COMMIT that die d holds after supervisor sv has sent one. -/
def State.commitHeld (sv : Sv) (term d : Nat) : Nat × Nat × Nat := (d, term, causedStamp (s.dieNow d) (s.dieNow (dSup sv.val)))

/-- A die that the COMMIT reaches, and whose fence applies it, holds it. -/
theorem State.commitHeld_mem_commitOn (sv : Sv) (term d : Nat) (hseam : s.sup.seam ≠ .cut)
    (hj : (s.fence d).judge (s.dieNow d) (some term) = .applied) :
    s.commitHeld sv term d ∈ (s.commitOn sv term d).img.commits := by
  have hjoined : (!s.halvesJoined (dieHalf d) sv.val) = false := by simp [State.halvesJoined, hseam]
  rw [State.commitOn, hjoined, if_neg Bool.false_ne_true, hj]
  exact List.mem_append_right _ (List.mem_singleton_self _)

/-- On every die of a list, COMMITs of other dies leave the fence and the time, so that die d holds its own at the end. -/
theorem State.commitHeld_mem_foldl (sv : Sv) (term d : Nat) (l : List Nat) (hd : d ∈ l) (hseam : s.sup.seam ≠ .cut)
    (hj : (s.fence d).judge (s.dieNow d) (some term) = .applied) :
    s.commitHeld sv term d ∈ (l.foldl (State.commitOn sv term) s).img.commits := by
  obtain ⟨l₁, l₂, rfl⟩ := List.append_of_mem hd
  have hbefore := s.commitOn_foldl_taken sv term l₁
  rw [List.foldl_append, List.foldl_cons]
  generalize l₁.foldl (State.commitOn sv term) s = t at hbefore ⊢
  have hheld : t.commitHeld sv term d = s.commitHeld sv term d := by
    simp only [State.commitHeld, State.dieNow, hbefore.tb]
  have hfence : t.fence d = s.fence d := by rw [State.fence, State.fence, hbefore.sup]
  have hnow : t.dieNow d = s.dieNow d := by rw [State.dieNow, State.dieNow, hbefore.tb]
  rw [← hheld]
  exact (State.commitOn_foldl_taken _ sv term l₂).commits
    (t.commitHeld_mem_commitOn sv term d (by rwa [hbefore.sup]) (by rwa [hfence, hnow]))

/-! ## The swap (R81 step 4, R82, R83) -/

/-- The plane that a die keeps by a list of kept planes. -/
def keptIn (l : List Kept) (d : Nat) : Option Plane :=
  (l.find? (fun e => decide (e.die = d) && e.till.isNone)).map (fun e => e.plane)

theorem State.keptPlane_eq (d : Nat) : s.keptPlane d = keptIn s.img.behind d := rfl

theorem keptIn_append (l l' : List Kept) (d : Nat) : keptIn (l ++ l') d = (keptIn l d).or (keptIn l' d) := by
  simp [keptIn, List.find?_append, Option.map_or]

/-- A kept plane after a swap at tick now: a die that swaps has caught up. -/
def Kept.caughtUp (now : Nat) (swaps : Nat → Bool) (e : Kept) : Kept :=
  if e.till.isNone && swaps e.die then { e with till := some now } else e

/-- The kept planes after a swap: those that packets may still need (R65). -/
def keptThrough (now : Nat) (swaps : Nat → Bool) (l : List Kept) : List Kept :=
  (l.filter (fun e => !oldStamp now (e.till.getD now))).map (Kept.caughtUp now swaps)

/-- The planes that dies which do not swap begin to keep. -/
def State.keptLate (swaps : Nat → Bool) : List Kept :=
  (s.stagers.filter (fun d => !swaps d && (s.keptPlane d).isNone)).map (fun d => ⟨d, s.tb.tick, none, s.plane⟩)

/-- A swap touches the planes where they change places, and not after. -/
theorem State.swapPlanes_img (p : Plane) : (s.swapPlanes p).img = (s.swapImg p).img := by
  unfold State.swapPlanes
  extract_lets t₁ t₂ t₃ src t₄ t₅
  have h₂ : t₂.img = (s.swapImg p).img := by
    unfold t₂
    split <;> rfl
  have h₃ : t₃.img = t₂.img := ((State.swapTurn_touches _ p).step (m := 0xc) rfl ((t₂.swapAct_touches p).mono rfl)).same 7 rfl
  have h₅ : t₅.img = (s.swapImg p).img := h₃.trans h₂
  split
  · exact h₅
  · exact ((t₅.setStage_touches 8).same 7 rfl).trans h₅

theorem State.swapImg_active (p : Plane) : (s.swapImg p).img.active = some p := rfl

theorem State.swapImg_behind (p : Plane) :
    (s.swapImg p).img.behind
      = keptThrough s.tb.tick (fun d => s.swappers.contains d) s.img.behind ++ s.keptLate (fun d => s.swappers.contains d) := rfl

section
variable {s} {now d : Nat} {swaps : Nat → Bool}

/-- A die that swaps keeps no plane. -/
theorem keptIn_keptThrough_swaps (l : List Kept) (h : swaps d = true) : keptIn (keptThrough now swaps l) d = none := by
  simp only [keptIn, keptThrough, Option.map_eq_none_iff, List.find?_eq_none, List.mem_map]
  rintro _ ⟨e, -, rfl⟩
  unfold Kept.caughtUp
  split
  · simp
  · next hno =>
    intro hkept
    simp only [Bool.and_eq_true, decide_eq_true_eq] at hkept hno
    exact hno ⟨hkept.2, by rw [hkept.1, h]⟩

theorem Kept.caughtUp_plane (e : Kept) : (e.caughtUp now swaps).plane = e.plane := by
  unfold Kept.caughtUp
  split <;> rfl

theorem not_oldStamp_now (now : Nat) : oldStamp now now = false := decide_eq_false (by omega)

/-- For a die that does not swap, an entry still counts after the swap exactly where it counted before. -/
theorem Kept.caughtUp_keeps (e : Kept) (h : swaps d = false) :
    (!oldStamp now (e.till.getD now) && (decide ((e.caughtUp now swaps).die = d) && (e.caughtUp now swaps).till.isNone))
      = (decide (e.die = d) && e.till.isNone) := by
  unfold Kept.caughtUp
  by_cases hd : e.die = d
  · cases ht : e.till with
    | none => simp [hd, h, ht, not_oldStamp_now]
    | some x => simp [ht]
  · split <;> simp [hd]

/-- A die that does not swap keeps the plane that it has kept. -/
theorem keptIn_keptThrough_keeps (l : List Kept) (h : swaps d = false) : keptIn (keptThrough now swaps l) d = keptIn l d := by
  simp only [keptIn, keptThrough, List.find?_map, List.find?_filter, Option.map_map, Function.comp_def, Kept.caughtUp_plane,
    Bool.decide_and, Bool.decide_eq_true, Kept.caughtUp_keeps _ h]

theorem State.keptIn_keptLate (d : Nat) :
    keptIn (s.keptLate swaps) d
      = ((s.stagers.filter (fun x => !swaps x && (s.keptPlane x).isNone)).find? (fun x => decide (x = d))).map (fun _ => s.plane) := by
  simp only [keptIn, State.keptLate, List.find?_map, Option.map_map, Function.comp_def, Option.isNone_none, Bool.and_true]

theorem State.keptIn_keptLate_swaps (h : swaps d = true) : keptIn (s.keptLate swaps) d = none := by
  rw [State.keptIn_keptLate, Option.map_eq_none_iff, List.find?_eq_none]
  intro x hx hxd
  have hstay := (List.mem_filter.mp hx).2
  simp [of_decide_eq_true hxd, h] at hstay

/-- A die that does not swap, and has not kept a plane before, keeps the one that was active. -/
theorem State.keptIn_keptLate_keeps (hd : d ∈ s.stagers) (h : swaps d = false) (hkept : s.keptPlane d = none) :
    keptIn (s.keptLate swaps) d = some s.plane := by
  have hmem : d ∈ s.stagers.filter (fun x => !swaps x && (s.keptPlane x).isNone) := List.mem_filter.mpr ⟨hd, by simp [h, hkept]⟩
  have hsome := (List.find?_isSome (p := fun x => decide (x = d))).mpr ⟨d, hmem, decide_eq_true rfl⟩
  obtain ⟨x, hx⟩ := Option.isSome_iff_exists.mp hsome
  rw [State.keptIn_keptLate, hx]
  rfl

end

theorem State.planeOn_swapPlanes (p : Plane) (d : Nat) (hd : d ∈ s.stagers) :
    (s.swapPlanes p).planeOn d = if s.swappers.contains d then p else s.planeOn d := by
  have hkept : (s.swapPlanes p).keptPlane d = keptIn (s.swapImg p).img.behind d := by rw [State.keptPlane_eq, s.swapPlanes_img p]
  have hplane : (s.swapPlanes p).plane = p := by rw [State.plane, s.swapPlanes_img p, s.swapImg_active p, Option.getD_some]
  rw [State.planeOn, hkept, hplane, s.swapImg_behind p, keptIn_append]
  cases hsw : s.swappers.contains d with
  | true =>
    rw [keptIn_keptThrough_swaps _ hsw, State.keptIn_keptLate_swaps hsw]
    rfl
  | false =>
    rw [keptIn_keptThrough_keeps _ hsw, ← State.keptPlane_eq, State.planeOn]
    cases hk : s.keptPlane d with
    | some q => rfl
    | none =>
      rw [State.keptIn_keptLate_keeps hd hsw hk]
      rfl

end Sys2Proof.Machine

namespace Sys2Proof.Machine

/-- Settles O28: what a COMMIT leaves on the dies, how the retiring plane ends, and which plane each die has after the swap. -/
theorem activationSteps : Obligations.ActivationSteps := by
  refine ⟨fun d s hst hen hready hseam => ⟨_, exec_stagingReady s d hst hen hready hseam, rfl, ?_⟩,
    fun sv tm d s hst hturn htick htm hseam hd hj => ?_,
    fun sv tm s hst hturn htick htm => ⟨_, exec_commit_otherTerm s sv tm ⟨hst, hturn, htick⟩ htm, ?_⟩,
    fun d s r hr hleft => ⟨_, exec_retireReport_last s d r hr hleft, rfl, State.imgState_endRetire _, ?_, ?_⟩,
    fun s r hr ht => ⟨_, exec_retireTimeout_due s r hr ht, rfl, s.imgState_endRetire, s.keepsRegs_endRetire, ?_⟩,
    fun s p d hd => s.planeOn_swapPlanes p d hd⟩
  · exact (s.withImg_touches _).keeps (Piece.testBit_of_outside rfl)
  · subst htm
    have htaken := s.commitOn_foldl_taken sv s.img.armTerm s.stagers
    have hmem := s.commitHeld_mem_foldl sv s.img.armTerm d s.stagers hd hseam hj
    exact ⟨_, exec_commit_held s sv ⟨hst, hturn, htick⟩ (List.ne_nil_of_mem hmem), State.imgState_setImgState _ 6 (by decide), hmem,
      htaken.active⟩
  · refine ⟨State.imgState_setImgState _ 4 (by decide), ?_, s.keepsRegs_failed _ _ _ _, s.keeps_failed _ _ _ _⟩
    rw [State.fld_setImgState _ _ _ rfl, s.fail_imgFail _ _ _ (by decide)]
  · exact (s.keepsRegs_withImg _ _).trans (State.keepsRegs_endRetire _)
  · exact (execRetireReport_touches d s).keeps (exec_retireReport_last s d r hr hleft) rfl
  · exact s.endRetire_touches.keeps (Piece.testBit_of_outside rfl)

end Sys2Proof.Machine
end

section
/-! Turns, the timebase and its registers (R84 to R97): O2, O17, O18 and O21. -/

namespace Sys2Proof.Machine

variable (s : State)

/-! ## The next boundary (R91) -/

/-- From t on, the first number after it that lies a multiple of n beyond o is the one that completes the multiple that t has begun. -/
theorem first_multiple_after {o t n : Nat} (ho : o ≤ t) (hn : 0 < n) :
    t < t + (n - (t - o) % n) ∧ (t + (n - (t - o) % n) - o) % n = 0
      ∧ ∀ x, t < x → x < t + (n - (t - o) % n) → (x - o) % n ≠ 0 := by
  have hlt := Nat.mod_lt (t - o) hn
  have hdiv := Nat.div_add_mod (t - o) n
  refine ⟨by omega, ?_, fun x htx hx => ?_⟩
  · have hb : t + (n - (t - o) % n) - o = n * ((t - o) / n) + n := by omega
    rw [hb, Nat.mul_add_mod, Nat.mod_self]
  · have hxo : x - o = n * ((t - o) / n) + ((t - o) % n + (x - t)) := by omega
    rw [hxo, Nat.mul_add_mod, Nat.mod_eq_of_lt (by omega)]
    omega

theorem State.nextBoundary_eq (h : 0 < s.tb.ticks) :
    s.nextBoundary = s.tb.tick + (s.tb.ticks - (s.tb.tick - s.tb.origin) % s.tb.ticks) := by
  rw [State.nextBoundary, Nat.max_eq_left h]

/-! ## A step without a command (R91; log 1) -/

theorem step_of_no_command (h : s.pending = []) : step s = .next s.idle := by
  rw [step, h]

theorem State.idle_of_held (h : s.running = false) : s.idle = s := by
  rw [State.idle, h]
  rfl

theorem State.idle_between_boundaries (h : s.running = true) (hb : s.nextBoundary ≠ s.tb.tick + 1) :
    s.idle = { s with tb := { s.tb with tick := s.tb.tick + 1 } } := by
  rw [State.idle, h]
  exact if_neg hb

/-- The tick on which a boundary falls does what the command for the boundary does. -/
theorem State.idle_at_boundary (h : s.running = true) (hb : s.nextBoundary = s.tb.tick + 1) : exec .turnBoundary s = .next s.idle := by
  show execTurnBoundary s = _
  rw [execTurnBoundary, State.idle, h, hb]
  exact congrArg Host.Outcome.next (if_pos rfl).symm

end Sys2Proof.Machine

namespace Sys2Proof.Machine

/-- Settles O21: the boundary completes the turn's count of ticks from ORIGIN, and no count before it is complete. -/
theorem nextBoundaryIsFirst : Obligations.NextBoundaryIsFirst := fun s ho ht => by
  rw [s.nextBoundary_eq (by omega)]
  exact first_multiple_after ho (by omega)

/-- Settles O2, by what a tick is in a held part, between two boundaries, and on one. -/
theorem stepIdle : Obligations.StepIdle := by
  refine ⟨fun s hq hheld => ?_, fun s hq hrun hb => ?_, fun s hq hrun hb => ?_⟩
  · rw [step_of_no_command s hq, s.idle_of_held hheld]
  · rw [step_of_no_command s hq, s.idle_between_boundaries hrun hb]
  · rw [step_of_no_command s hq, s.idle_at_boundary hrun hb]

end Sys2Proof.Machine
end

section
/-! The reference, its sources and the alignment of the dies (R84, R86, R97): O17. -/

namespace Sys2Proof.Machine

variable (s : State)

/-! ## The reference (R97) -/

/-- TB_STAT as the keepers show a lost reference. -/
def State.referenceGone : State :=
  let u : State := { s with pins := { s.pins with refPresent := false } }
  ((u.setFld R.tbStat F.TbStat.refLost 1).setFld R.tbStat F.TbStat.refOk 0).setFld R.tbStat F.TbStat.internalOsc 1

/-- TB_STAT as the keepers show a recovered reference. -/
def State.referenceBack : State :=
  let u : State := { s with pins := { s.pins with refPresent := true } }
  (u.setFld R.tbStat F.TbStat.refOk 1).setFld R.tbStat F.TbStat.internalOsc 0

theorem exec_referenceLost : exec .referenceLost s = .next ((s.referenceGone.supplyEvent 0 0).i3cEvent 0x30 0xFF) := rfl

theorem exec_referenceRecovered : exec .referenceRecovered s = .next s.referenceBack := rfl

theorem exec_timebaseSourceFail :
    exec .timebaseSourceFail s = .next ((s.setFld R.tbStat F.TbStat.master 1).keeperRec 0 (dKeeper 0) 0) := rfl

theorem exec_internalAlignmentDone : exec .internalAlignmentDone s = .next (s.setFld R.tbStat F.TbStat.intAligned 1) := rfl

theorem State.referenceGone_fields :
    s.referenceGone.fld R.tbStat F.TbStat.refLost = 1 ∧ s.referenceGone.fld R.tbStat F.TbStat.refOk = 0
      ∧ s.referenceGone.fld R.tbStat F.TbStat.internalOsc = 1 := by
  refine ⟨?_, ?_, State.fld_setFld_fit _ _ _ _ rfl (by decide)⟩
  · rw [State.referenceGone, State.fld_setFld_apart _ _ _ _ _ rfl, State.fld_setFld_apart _ _ _ _ _ rfl,
      State.fld_setFld_fit _ _ _ _ rfl (by decide)]
  · rw [State.referenceGone, State.fld_setFld_apart _ _ _ _ _ rfl, State.fld_setFld_fit _ _ _ _ rfl (by decide)]

theorem State.referenceBack_fields :
    s.referenceBack.fld R.tbStat F.TbStat.refOk = 1 ∧ s.referenceBack.fld R.tbStat F.TbStat.internalOsc = 0
      ∧ s.referenceBack.fld R.tbStat F.TbStat.refLost = s.fld R.tbStat F.TbStat.refLost := by
  refine ⟨?_, State.fld_setFld_fit _ _ _ _ rfl (by decide), ?_⟩
  · rw [State.referenceBack, State.fld_setFld_apart _ _ _ _ _ rfl, State.fld_setFld_fit _ _ _ _ rfl (by decide)]
  · rw [State.referenceBack, State.fld_setFld_apart _ _ _ _ _ rfl, State.fld_setFld_apart _ _ _ _ _ rfl]
    rfl

theorem State.keepsRegs_referenceGone : s.keepsRegs s.referenceGone [R.tbStat] :=
  ((State.keepsRegs_setFld { s with pins := { s.pins with refPresent := false } } _ _ _).trans (State.keepsRegs_setFld _ _ _ _)).trans
    (State.keepsRegs_setFld _ _ _ _)

theorem State.keepsRegs_referenceBack : s.keepsRegs s.referenceBack [R.tbStat] :=
  (State.keepsRegs_setFld { s with pins := { s.pins with refPresent := true } } _ _ _).trans (State.keepsRegs_setFld _ _ _ _)

theorem State.keepsRegs_keeperRec (sev die detail : Nat) : s.keepsRegs (s.keeperRec sev die detail) [R.errStat] := fun off h =>
  s.rd_keeperRec _ _ _ off (by simpa using h)

/-- A record of the keepers that the tray controller is told of. -/
theorem State.keepsRegs_supplyEvent_i3cEvent (sev mv code die : Nat) :
    s.keepsRegs ((s.supplyEvent sev mv).i3cEvent code die) [R.errStat] :=
  (s.keepsRegs_supplyEvent sev mv).trans ((State.i3cEvent_touches _ _ _).keepsRegs rfl _)

theorem State.keepsRegs_referenceLost :
    s.keepsRegs ((s.referenceGone.supplyEvent 0 0).i3cEvent 0x30 0xFF) [R.tbStat, R.errStat] :=
  (s.keepsRegs_referenceGone.mono (by simp)).trans ((s.referenceGone.keepsRegs_supplyEvent_i3cEvent 0 0 0x30 0xFF).mono (by simp))

theorem State.keepsRegs_timebaseSourceFail :
    s.keepsRegs ((s.setFld R.tbStat F.TbStat.master 1).keeperRec 0 (dKeeper 0) 0) [R.tbStat, R.errStat] :=
  ((s.keepsRegs_setFld _ _ _).mono (by simp)).trans ((State.keepsRegs_keeperRec _ _ _ _).mono (by simp))

/-- The record of a lost reference stands where NEXT_SEQ pointed before. -/
theorem State.supplyLogged_referenceLost : supplyLogged s ((s.referenceGone.supplyEvent 0 0).i3cEvent 0x30 0xFF) 0 0 := by
  have hseq : s.referenceGone.fld R.errStat F.ErrStat.nextSeq = s.fld R.errStat F.ErrStat.nextSeq :=
    State.fld_of_rd (s.keepsRegs_referenceGone _ (by decide)) _
  have hlogged := s.referenceGone.supplyLogged_supplyEvent 0 0
  rw [supplyLogged, hseq] at hlogged
  rw [supplyLogged, State.i3cEvent_err, hlogged]
  rfl

/-! ## Offsets of the dies (R86) -/

/-- An offset beyond 2 ns as it is kept: with the tick since which it stands, and SKEW_ERR set. -/
def State.skewKept (d : Nat) (off : Int) : State :=
  ((s.raiseMax R.tbStat F.TbStat.skewMax off.natAbs).setDie d (fun x => { x with skew := off, skewSince := some s.tb.tick })).setFld
    R.tbStat F.TbStat.skewErr 1

theorem State.die_skewKept (d : Nat) (off : Int) :
    (s.skewKept d off).die d = { s.die d with skew := off, skewSince := some s.tb.tick } :=
  State.die_setDie_same (s.raiseMax R.tbStat F.TbStat.skewMax off.natAbs) d (fun x => { x with skew := off, skewSince := some s.tb.tick })

/-- The record of an offset beyond 2 ns. -/
def State.skewRec (d : Nat) (off : Int) : ErrRec :=
  { plainRec 0x10 0 2 d (s.dieNow d) with detail := off.natAbs, part := ((s.planeOn d).partOfDie d).getD 0x1F }

theorem exec_skewMeasure_one (d : Die) (off : Int) :
    exec (.skewMeasure [(d, off)]) s = .next ((s.setFld R.tbStat F.TbStat.skewDie d.val).measureDie d.val off) := rfl

theorem State.measureDie_trimmed (d : Nat) (off : Int) (h : off.natAbs ≤ 32) :
    s.measureDie d off
      = (s.raiseMax R.tbStat F.TbStat.skewMax off.natAbs).setDie d (fun x => { x with skew := 0, skewSince := none }) :=
  if_pos h

/-- An offset that did not stand before is kept from now on, so that it does not fail the die yet. -/
theorem State.measureDie_first (d : Nat) (off : Int) (h : 32 < off.natAbs) (hs : (s.die d).skewSince = none) :
    s.measureDie d off = (s.skewKept d off).raise ((s.skewKept d off).skewRec d off) := by
  have hsince : ((s.raiseMax R.tbStat F.TbStat.skewMax off.natAbs).die d).skewSince = none := hs
  rw [State.measureDie]
  simp only [hsince, Option.getD_none]
  rw [if_neg (by omega), if_neg (by omega)]
  rfl

/-- A maximum rises to what fits into its field. -/
theorem State.fld_raiseMax_fit (r : Nat) (f : Fld) (x : Nat) (h : f.ok = true) (hx : x < 2 ^ f.wid) :
    (s.raiseMax r f x).fld r f = max (s.fld r f) x := by
  rw [State.raiseMax, Nat.min_eq_left (Nat.le_sub_one_of_lt hx)]
  exact s.fld_setFld_fit _ _ _ h (Nat.max_lt.mpr ⟨s.fld_lt _ _, hx⟩)

theorem tbStat_ne_errqReg {d : Nat} (h : d < 100) : R.tbStat ≠ errqReg d := by
  simp only [R.tbStat, errqReg, dieBase]
  split_ifs <;> omega

theorem State.fld_tbStat_raise (r : ErrRec) (h : r.die < 100) (f : Fld) : (s.raise r).fld R.tbStat f = s.fld R.tbStat f :=
  State.fld_of_rd (s.rd_raise r _ (tbStat_ne_errqReg h) (by decide)) f

/-- A trimmed offset: SKEW_DIE and SKEW_MAX are written, and of the die its offset. -/
theorem State.trimmed_fields (d : Nat) (hd : d < 100) (x : Nat) (hx : x ≤ 32) :
    let t := (s.setFld R.tbStat F.TbStat.skewDie d).raiseMax R.tbStat F.TbStat.skewMax x
    t.fld R.tbStat F.TbStat.skewDie = d ∧ t.fld R.tbStat F.TbStat.skewMax = max (s.fld R.tbStat F.TbStat.skewMax) x
      ∧ t.fld R.tbStat F.TbStat.skewErr = s.fld R.tbStat F.TbStat.skewErr := by
  refine ⟨?_, ?_, ?_⟩
  · rw [State.raiseMax, State.fld_setFld_apart _ _ _ _ _ rfl, State.fld_setFld_fit _ _ _ _ rfl (hd.trans (by decide))]
  · rw [State.fld_raiseMax_fit _ _ _ _ rfl (hx.trans_lt (by decide)), State.fld_setFld_apart _ _ _ _ _ rfl]
  · rw [State.raiseMax, State.fld_setFld_apart _ _ _ _ _ rfl, State.fld_setFld_apart _ _ _ _ _ rfl]

end Sys2Proof.Machine

namespace Sys2Proof.Machine

/-- Settles O17: TB_STAT field by field, the keepers' record, and what a measured offset leaves of its die. -/
theorem timebaseSources : Obligations.TimebaseSources := by
  refine ⟨fun s => ⟨_, exec_referenceLost s, ?_⟩, fun s => ⟨_, exec_referenceRecovered s, ?_⟩,
    fun s => ⟨_, exec_timebaseSourceFail s, ?_, ?_, ?_, ?_⟩,
    fun s => ⟨_, exec_internalAlignmentDone s, State.fld_setFld_fit _ _ _ _ rfl (by decide), s.keepsRegs_setFld _ _ _, ?_⟩,
    fun d off s h => ⟨_, exec_skewMeasure_one s d off, ?_⟩, fun d off s h hs => ⟨_, exec_skewMeasure_one s d off, ?_⟩⟩
  · obtain ⟨hlost, hok, hosc⟩ := s.referenceGone_fields
    have hstat (f : Fld) := State.fld_of_rd (s.referenceGone.keepsRegs_supplyEvent_i3cEvent 0 0 0x30 0xFF R.tbStat (by decide)) f
    refine ⟨(hstat _).trans hlost, (hstat _).trans hok, (hstat _).trans hosc, ?_, s.supplyLogged_referenceLost,
      s.keepsRegs_referenceLost, ?_⟩
    · rw [State.i3cEvent_pins, State.supplyEvent, State.keeperRec_pins]
      rfl
    · exact (execReferenceLost_touches s _ (exec_referenceLost s)).same 2 rfl
  · obtain ⟨hok, hosc, hlost⟩ := s.referenceBack_fields
    exact ⟨hok, hosc, hlost, rfl, s.keepsRegs_referenceBack,
      (execReferenceRecovered_touches s).keeps (exec_referenceRecovered s) rfl⟩
  · rw [State.fld_of_rd (State.rd_keeperRec _ _ _ _ _ (by decide)), State.fld_setFld_fit _ _ _ _ rfl (by decide)]
  · exact State.keeperRec_tb _ _ _ _
  · exact s.keepsRegs_timebaseSourceFail
  · exact (execTimebaseSourceFail_touches s).keeps (exec_timebaseSourceFail s) rfl
  · exact (s.setFld_touches _ _ _).keeps (Piece.testBit_of_outside rfl)
  · rw [State.measureDie_trimmed _ _ _ h]
    obtain ⟨hdie, hmax, herr⟩ := s.trimmed_fields d.val d.isLt off.natAbs h
    refine ⟨?_, ?_, hdie, hmax, herr, ?_, ?_⟩
    · rw [State.die_setDie_same]
    · rw [State.die_setDie_same]
    · exact (s.keepsRegs_setFld _ _ _).trans (State.keepsRegs_setFld _ _ _ _)
    · exact ((State.setDie_touches _ _ _).step rfl ((State.raiseMax_touches _ _ _ _).step rfl
        ((s.setFld_touches _ _ _).mono (m := 0x18) rfl))).keeps (Piece.testBit_of_outside rfl)
  · rw [State.measureDie_first (s.setFld R.tbStat F.TbStat.skewDie d.val) _ _ h hs]
    have hdie (u : State) (r : ErrRec) : (u.raise r).die d.val = u.die d.val := State.die_of_dies ((u.raise_touches r).same 4 rfl) d.val
    refine ⟨?_, ?_, ?_⟩
    · rw [hdie, State.die_skewKept]
    · rw [hdie, State.die_skewKept]
      rfl
    · rw [State.fld_tbStat_raise _ _ d.isLt]
      exact State.fld_setFld_fit _ _ _ _ rfl (by decide)

end Sys2Proof.Machine
end

section
/-! Firmware's writes of the TB block (R89, R90): O18. -/

namespace Sys2Proof.Machine

variable (s : State)

/-! ## Writes that the keepers' fence applies (R90, R364) -/

theorem State.tbWrite_applied (sv : Sv) (tm : Option Nat) (off : Nat) (go : State → State)
    (h : s.judge (.fw sv tm) s.glbDie = .applied) : s.tbWrite (.fw sv tm) off go = go s := by
  rw [State.tbWrite, State.fenced, h]

/-- A step that waits for the next boundary. -/
def State.stepWaits (n : Nat) : State :=
  let u : State := { s with tb := { s.tb with stepPend := some n } }
  (u.setFld R.tbStat F.TbStat.stepPending 1).setFld R.tbStat F.TbStat.stepAllowed 0

/-- TB_PTP_CTL with the three fields of a written word. -/
def State.ptpCtlStored (v : W64) : State :=
  ((s.setFld R.tbPtpCtl F.TbPtpCtl.port (F.TbPtpCtl.port.get v)).setFld R.tbPtpCtl F.TbPtpCtl.domain
    (F.TbPtpCtl.domain.get v)).setFld R.tbPtpCtl F.TbPtpCtl.en (F.TbPtpCtl.en.get v)

section
variable {s} {sv : Sv} {tm : Option Nat} {v : W64} (hw : s.judge (.fw sv tm) s.glbDie = .applied)
include hw

theorem exec_tbFreqWrite_within (hv : (signedOf (F.TbFreq.ppb.get v) 32).natAbs ≤ 100000) :
    exec (.tbFreqWrite (.fw sv tm) v) s = .next (s.setFld R.tbFreq F.TbFreq.ppb (F.TbFreq.ppb.get v)) :=
  congrArg Host.Outcome.next ((s.tbWrite_applied sv tm _ _ hw).trans (if_pos hv))

theorem exec_tbFreqWrite_beyond (hv : 100000 < (signedOf (F.TbFreq.ppb.get v) 32).natAbs) :
    exec (.tbFreqWrite (.fw sv tm) v) s = .next (s.setFld R.tbStat F.TbStat.adjRefused 1) :=
  congrArg Host.Outcome.next ((s.tbWrite_applied sv tm _ _ hw).trans (if_neg (Nat.not_le.mpr hv)))

theorem exec_tbPtpCtlWrite_reserved (hv : 128 ≤ F.TbPtpCtl.domain.get v) : exec (.tbPtpCtlWrite (.fw sv tm) v) s = .next s :=
  congrArg Host.Outcome.next ((s.tbWrite_applied sv tm _ _ hw).trans (if_pos hv))

theorem exec_tbStepWrite_allowed (ha : s.fld R.tbStat F.TbStat.stepAllowed = 1) (hv : v ≠ 0) (hmax : v.toNat ≤ 2 ^ 62) :
    exec (.tbStepWrite (.fw sv tm) v) s = .next (s.stepWaits v.toNat) :=
  congrArg Host.Outcome.next ((s.tbWrite_applied sv tm _ _ hw).trans (if_neg (by
    simp only [hv, ha, decide_false, Bool.false_or, Bool.or_eq_true, decide_eq_true_eq]
    omega)))

theorem exec_tbStepWrite_refused (ha : s.fld R.tbStat F.TbStat.stepAllowed = 0) :
    exec (.tbStepWrite (.fw sv tm) v) s = .next (s.setFld R.tbStat F.TbStat.stepRefused 1) :=
  congrArg Host.Outcome.next ((s.tbWrite_applied sv tm _ _ hw).trans (if_pos (by simp [ha])))

theorem exec_tbPtpCtlWrite_stored (hv : F.TbPtpCtl.domain.get v < 128) :
    exec (.tbPtpCtlWrite (.fw sv tm) v) s = .next (s.ptpCtlStored v) :=
  congrArg Host.Outcome.next ((s.tbWrite_applied sv tm _ _ hw).trans (if_neg (Nat.not_le.mpr hv)))

end

theorem State.stepPending_stepWaits (n : Nat) : (s.stepWaits n).fld R.tbStat F.TbStat.stepPending = 1 := by
  rw [State.stepWaits, State.fld_setFld_apart _ _ _ _ _ rfl, State.fld_setFld_fit _ _ _ _ rfl (by decide)]

theorem State.stepAllowed_stepWaits (n : Nat) : (s.stepWaits n).fld R.tbStat F.TbStat.stepAllowed = 0 :=
  State.fld_setFld_fit _ _ _ _ rfl (by decide)

theorem State.keepsRegs_stepWaits (n : Nat) : s.keepsRegs (s.stepWaits n) [R.tbStat] :=
  (State.keepsRegs_setFld { s with tb := { s.tb with stepPend := some n } } _ _ _).trans (State.keepsRegs_setFld _ _ _ _)

theorem State.stepWaits_touches (n : Nat) : Touches 0xc s (s.stepWaits n) :=
  (State.setFld_touches _ _ _ _).step rfl ((State.setFld_touches _ _ _ _).step rfl ((Touches.set_tb s _).mono rfl))

/-- Each field of the stored word reads as it was written. -/
theorem State.ptpCtlStored_fields (v : W64) :
    (s.ptpCtlStored v).fld R.tbPtpCtl F.TbPtpCtl.port = F.TbPtpCtl.port.get v
      ∧ (s.ptpCtlStored v).fld R.tbPtpCtl F.TbPtpCtl.domain = F.TbPtpCtl.domain.get v
      ∧ (s.ptpCtlStored v).fld R.tbPtpCtl F.TbPtpCtl.en = F.TbPtpCtl.en.get v := by
  refine ⟨?_, ?_, State.fld_setFld_fit _ _ _ _ rfl (Fld.get_lt _ _)⟩
  · rw [State.ptpCtlStored, State.fld_setFld_apart _ _ _ _ _ rfl, State.fld_setFld_apart _ _ _ _ _ rfl,
      State.fld_setFld_fit _ _ _ _ rfl (Fld.get_lt _ _)]
  · rw [State.ptpCtlStored, State.fld_setFld_apart _ _ _ _ _ rfl, State.fld_setFld_fit _ _ _ _ rfl (Fld.get_lt _ _)]

theorem State.keepsRegs_ptpCtlStored (v : W64) : s.keepsRegs (s.ptpCtlStored v) [R.tbPtpCtl] :=
  ((s.keepsRegs_setFld _ _ _).trans (State.keepsRegs_setFld _ _ _ _)).trans (State.keepsRegs_setFld _ _ _ _)

theorem State.ptpCtlStored_touches (v : W64) : Touches 0x8 s (s.ptpCtlStored v) :=
  (State.setFld_touches _ _ _ _).step rfl ((State.setFld_touches _ _ _ _).step rfl (s.setFld_touches _ _ _))

/-- One field of a register written: what it reads, and what stays. -/
theorem State.setFld_written (off : Nat) (f : Fld) (x : Nat) (h : f.ok = true) (hx : x < 2 ^ f.wid) :
    (s.setFld off f x).fld off f = x ∧ s.keepsRegs (s.setFld off f x) [off] ∧ s.keeps (s.setFld off f x) [.regs] :=
  ⟨s.fld_setFld_fit off f x h hx, s.keepsRegs_setFld off f x, (s.setFld_touches off f x).keeps (Piece.testBit_of_outside rfl)⟩

end Sys2Proof.Machine

namespace Sys2Proof.Machine

/-- Settles O18: the fence applies the write, and each write stores or refuses by one register. -/
theorem timebaseWrites : Obligations.TimebaseWrites := by
  refine ⟨fun sv tm v s hw hv => ⟨_, exec_tbFreqWrite_within hw hv, s.setFld_written _ _ _ rfl (Fld.get_lt _ _)⟩,
    fun sv tm v s hw hv => ⟨_, exec_tbFreqWrite_beyond hw hv, s.setFld_written _ _ _ rfl (by decide)⟩,
    fun sv tm v s hw ha hv hmax => ⟨_, exec_tbStepWrite_allowed hw ha hv hmax, rfl, s.stepPending_stepWaits _, s.stepAllowed_stepWaits _,
      s.keepsRegs_stepWaits _, (s.stepWaits_touches _).keeps (Piece.testBit_of_outside rfl)⟩,
    fun sv tm v s hw ha => ⟨_, exec_tbStepWrite_refused hw ha, s.setFld_written _ _ _ rfl (by decide)⟩,
    fun sv tm v s hw hv => ⟨_, exec_tbPtpCtlWrite_stored hw hv, ?_⟩,
    fun sv tm v s hw hv => exec_tbPtpCtlWrite_reserved hw hv⟩
  obtain ⟨hport, hdomain, hen⟩ := s.ptpCtlStored_fields v
  exact ⟨hport, hdomain, hen, s.keepsRegs_ptpCtlStored v, (s.ptpCtlStored_touches v).keeps (Piece.testBit_of_outside rfl)⟩

end Sys2Proof.Machine
end

section
/-! PTP messages (R88, R136, R138, R148, R149): O19. -/

namespace Sys2Proof.Machine

/-! ## A PTP message whose returned credit pushes a packet out

Returning the credit of a lossless class takes a reservation in the port's pool (R136, R147). At level PUSHOUT, where the reservation would
pass HARD, it pushes packets out of lossy queues (R148, R149), whatever became of the packet that the credit was for. -/

/-- A plane in which die 0 has Druvo ports, HARD of pool 0 is one grain, requester 0 may hold one, and every queue is lossy below TC5. -/
def ptpPlane : Plane := ⟨[⟨4, 0, ⟨128, 4 + 2 * 2 ^ 24⟩⟩, ⟨7, 0, ⟨32768, 2 ^ (8 * 340) + 2 ^ (8 * 2372)⟩⟩], 0, 0, 0, 0⟩

/-- A packet of one grain that waits for port 1 in TC0. -/
def ptpWaiting : Pkt :=
  { uid := 0, data := true, hdr := 2 ^ 128, payload := 0, stamp := 0, inPort := 2, outPort := 1, tc := 0, job := 0, grains := [0],
    arrived := 1, epid := none, unordered := false, heldTick := 0, began := false, linkTick := 0, spillAt := none, fromPart := false,
    ctx := none, burred := false, limit := none }

/-- Port 0 is UP and named by TB_PTP_CTL, its peer has a credit of each class, and the waiting packet's grain fills pool 0 up to HARD,
at level PUSHOUT. -/
def ptpFullPool : State :=
  let s : State := { State.reset with
    img := { State.reset.img with active := some ptpPlane }
    ports := [(0, { PortSt.fresh0 with given := List.replicate 8 1 })]
    bench := { State.reset.bench with
      grains := [(0, { GrainSt.empty with st := .linked, req := 1, refs := 1, pool := 0, len := 256 })]
      queues := [(qKey 1 0, [ptpWaiting])]
      levels := [(0, 3)] } }
  ((s.setFld (R.ptdPortStat 0 0) F.PtdPortStat.state 4).setFld R.tbPtpCtl F.TbPtpCtl.en 1).setFld (poolReg 0) F.BchPoolStat.occ 1

/-- The header of a TC7 control packet of OPCODE 0x41 with a payload of zeros, its CRCs as R125 has them. -/
def ptpHeader : BitVec 128 :=
  BitVec.ofNat 128 (hdrSeal false (2 ^ 124 + 7 * 2 ^ 120 + 0x41 * 2 ^ 56 + crc16 (beBytes 48 0) * 2 ^ 16))

theorem exec_ptpMessage_ctl (p : Port) (m : BitVec 384) (h : BitVec 128) (ok : Bool) (s : State) :
    exec (.ptpMessage p (.ctl m) (h.setWidth 256) ok) s = .next (s.packetIn p.val (hdrTc false h.toNat) 0 (.ctl h m)) := by
  have hback : (h.setWidth 256).setWidth 128 = h := by rw [BitVec.setWidth_setWidth_of_le _ (by decide), BitVec.setWidth_eq]
  show Host.Outcome.next (s.packetIn p.val (hdrTc false ((h.setWidth 256).setWidth 128).toNat) 0 (.ctl ((h.setWidth 256).setWidth 128) m)) = _
  rw [hback]

/-- The port takes the message, and the packet has passed every step of R138 up to OPCODE. -/
theorem ptpFullPool_takes_message :
    ptpFullPool.portUp 0 = true ∧ ptpFullPool.isEthernet 0 = false ∧ ptpFullPool.ptpPort 0 = true ∧ hdrTc false ptpHeader.toNat = 7
      ∧ hdrOpcode false ptpHeader.toNat = 0x41 ∧ hcrcOk false ptpHeader.toNat = true
      ∧ pcrcOk ptpHeader.toNat (0 : BitVec 384).toNat = true ∧ ctlFormatOk ptpHeader.toNat = true
      ∧ 1 ≤ nth (ptpFullPool.port 0).given 7 ∧ ptpFullPool.policersFor 0 7 (hdrJob false ptpHeader.toNat) = [] := by
  decide +kernel

theorem ptpFullPool_queue : ptpFullPool.queue (qKey 1 0) = [ptpWaiting] := by decide +kernel

/-- The credit of the message goes back with a reservation, and the waiting packet is pushed out for it. -/
theorem ptpFullPool_pushes_out :
    (ptpFullPool.packetIn 0 (hdrTc false ptpHeader.toNat) 0 (.ctl ptpHeader 0)).queue (qKey 1 0) = [] := by decide +kernel

end Sys2Proof.Machine

namespace Sys2Proof.Machine

/-- Refutes O19: a TC7 message for firmware does not always leave the queues as they were. With the occupancy of its port's
pool at HARD, the reservation by which its credit goes back pushes a lossy packet out of its egress queue (R148, R149). -/
theorem not_ptpMessages : ¬ Obligations.PtpMessages := by
  rintro ⟨-, -, hctl, -⟩
  obtain ⟨hup, heth, hptp, htc, hopcode, hhcrc, hpcrc, hformat, hgiven, hpol⟩ := ptpFullPool_takes_message
  obtain ⟨t, ht, -, hqueues, -⟩ := hctl 0 ptpHeader 0 true ptpFullPool hup heth hptp htc hopcode hhcrc hpcrc hformat hgiven hpol
  rw [exec_ptpMessage_ctl] at ht
  have hkept : t.queue (qKey 1 0) = [ptpWaiting] := by rw [← ptpFullPool_queue, State.queue, State.queue, hqueues]
  have hgone : t.queue (qKey 1 0) = [] := Host.Outcome.next.inj ht ▸ ptpFullPool_pushes_out
  rw [hkept] at hgone
  exact absurd hgone (List.cons_ne_nil _ _)

end Sys2Proof.Machine
end

section
/-! Lanes and ports (R98 to R120): what the operations that the link commands share do to registers and ports, said once. -/

namespace Sys2Proof.Machine

variable (s : State)

/-! ## Registers of a port die -/

/-- A write of a field leaves every field that shares no bit with it, in the same register and in every other. -/
theorem State.fld_setFld_of_apart (off off' : Nat) (f g : Fld) (x : Nat) (h : f.apart g = true) :
    (s.setFld off g x).fld off' f = s.fld off' f := by
  by_cases ho : off' = off
  · subst ho
    exact s.fld_setFld_apart _ _ _ _ h
  · exact s.fld_setFld_ne _ _ _ _ _ ho

theorem State.fld_count_of_apart (off off' : Nat) (f g : Fld) (h : f.apart g = true) : (s.count off g).fld off' f = s.fld off' f :=
  s.fld_setFld_of_apart _ _ _ _ _ h

theorem State.keepsRegs_refl (l : List Nat) : s.keepsRegs s l := fun _ _ => rfl

theorem State.keepsRegs_of_regs {s t : State} (h : t.regs = s.regs) (l : List Nat) : s.keepsRegs t l :=
  fun off _ => State.rd_of_regs h off

/-- A write of a field keeps every register but its own. -/
theorem State.keepsRegs_setFld_mem {off : Nat} {l : List Nat} (h : off ∈ l) (f : Fld) (x : Nat) : s.keepsRegs (s.setFld off f x) l :=
  (s.keepsRegs_setFld off f x).mono (by simpa using h)

theorem laneStat_ne_ptdSpare {d n e : Nat} (hn : n < 192) : laneStat d n ≠ R.ptdSpare e := by
  simp only [laneStat, R.ptdLaneStat, R.ptdSpare]
  omega

theorem pStat_ne_laneStat {p d n : Nat} (hn : n < 96) : pStat p ≠ laneStat d n := by
  simp only [laneStat, R.ptdLaneStat, pStat, R.ptdPortStat]
  omega

theorem pStat_ne_pCtl (p : Nat) : pStat p ≠ pCtl p := by
  simp only [pStat, R.ptdPortStat, pCtl, R.ptdPortCtl]
  omega

/-! ## The state that a command answers -/

/-- The state that a command answers, for a counterexample to evaluate. -/
def State.after (c : Instr) : State :=
  match exec c s with
  | .next t => t
  | _ => s

theorem State.after_of_next {s t : State} {c : Instr} (h : exec c s = .next t) : s.after c = t := by
  rw [State.after, h]

/-! ## What the operations on lanes leave of the registers and of the ports -/

theorem State.port_of_ports {s t : State} (h : t.ports = s.ports) (p : Nat) : t.port p = s.port p := by
  rw [State.port, State.port, h]

@[simp] theorem State.port_setFld (off : Nat) (f : Fld) (x p : Nat) : (s.setFld off f x).port p = s.port p := rfl
@[simp] theorem State.port_count (off : Nat) (f : Fld) (p : Nat) : (s.count off f).port p = s.port p := rfl
@[simp] theorem State.port_emit (o : Out) (p : Nat) : (s.emit o).port p = s.port p := rfl
@[simp] theorem State.fld_emit (o : Out) (off : Nat) (f : Fld) : (s.emit o).fld off f = s.fld off f := rfl
@[simp] theorem State.fld_setPort (p : Nat) (g : PortSt → PortSt) (off : Nat) (f : Fld) : (s.setPort p g).fld off f = s.fld off f := rfl
@[simp] theorem State.portState_emit (o : Out) (p : Nat) : (s.emit o).portState p = s.portState p := rfl
@[simp] theorem State.portState_setPort (p q : Nat) (g : PortSt → PortSt) : (s.setPort p g).portState q = s.portState q := rfl

/-- STATE of a port is a field of PTD_PORT_STAT. -/
theorem State.portState_eq (p : Nat) : s.portState p = s.fld (pStat p) F.PtdPortStat.state := rfl

theorem State.lstate_setLstate (d n v : Nat) (h : v < 2 ^ F.PtdLaneStat.lstate.wid) : (s.setLstate d n v).lstate d n = v :=
  s.fld_setFld_fit _ _ _ rfl h

/-- Painting a port's lanes writes LSTATE alone: a field that shares no bit with LSTATE reads as before, whatever the port's width. -/
theorem State.fld_paintLanes (p off : Nat) (f : Fld) (h : f.apart F.PtdLaneStat.lstate = true) : (s.paintLanes p).fld off f = s.fld off f := by
  unfold State.paintLanes
  extract_lets d st act
  generalize List.range (s.portWidth p) = l
  clear_value d st act
  induction l generalizing s with
  | nil => rfl
  | cons i l ih =>
    rw [List.foldl_cons, ih]
    extract_lets n idle
    split
    · rfl
    · split <;> exact s.fld_setFld_of_apart _ _ _ _ _ h

@[simp] theorem State.portState_paintLanes (p q : Nat) : (s.paintLanes p).portState q = s.portState q := s.fld_paintLanes _ _ _ rfl
@[simp] theorem State.port_paintLanes (p q : Nat) : (s.paintLanes p).port q = s.port q :=
  State.port_of_ports ((s.paintLanes_touches p).same 14 rfl) q

end Sys2Proof.Machine
end

section
/-! Lanes that fail and lane commands (R112, R119, R120): O33 and O34. -/

namespace Sys2Proof.Machine

variable (s : State)

theorem State.failLane_of_bad (d n : Nat) (h : s.laneAbsent d n = true ∨ s.laneFailed d n = true) : s.failLane d n = s := by
  rcases h with h | h <;> simp [State.failLane, h]

@[simp] theorem State.lockTry_setLockTry (d n v : Nat) : (s.setLockTry d n v).lockTry d n = v := by
  simp [State.lockTry, State.setLockTry]

/-- A lane that fails outside every port. -/
def State.laneFailedAlone (d n : Nat) : State := ((s.setLstate d n 5).setLockTry d n 0).setFld (laneStat d n) F.PtdLaneStat.pendCmd 0

/-- A lane that is there and carries no logical lane fails alone, and a spare is shown FAILED in PTD_SPARE. -/
theorem State.failLane_idle (d n : Nat) (ha : s.laneAbsent d n = false) (hf : s.laneFailed d n = false) (hl : s.logicalOf d n = none) :
    s.failLane d n =
      if 32 ≤ n then (s.laneFailedAlone d n).setFld (R.ptdSpare d) (spStateF (n - 32)) 3 else s.laneFailedAlone d n := by
  simp [State.failLane, State.laneFailedAlone, ha, hf, hl]

theorem State.laneFailedAlone_facts (d n : Nat) :
    (s.laneFailedAlone d n).lstate d n = 5 ∧ (s.laneFailedAlone d n).lockTry d n = 0
      ∧ s.keepsRegs (s.laneFailedAlone d n) [laneStat d n] ∧ Touches 0x8008 s (s.laneFailedAlone d n) := by
  refine ⟨?_, s.lockTry_setLockTry d n 0, ?_, ?_⟩
  · exact (State.fld_setFld_apart _ _ _ _ _ rfl).trans (s.lstate_setLstate d n 5 (by decide))
  · exact (s.keepsRegs_setFld _ _ _).trans (State.keepsRegs_setFld (State.setLockTry _ d n 0) _ _ _)
  · exact (State.setFld_touches _ _ _ _).step (by decide) ((State.setLockTry_touches _ _ _ _).step (by decide)
      ((s.setLstate_touches d n 5).mono (by decide)))

/-- Settles O33: a lane outside every port fails alone; the other two parts are the two branches of the operation. -/
theorem lanesFail : Obligations.LanesFail := by
  refine ⟨fun d n c s ha hf hl => ⟨_, rfl, ?_⟩, fun d n c s _ _ => rfl,
    fun d n c s h => congrArg Host.Outcome.next (s.failLane_of_bad d.val n.val h)⟩
  obtain ⟨hstate, htry, hregs, hkeeps⟩ := s.laneFailedAlone_facts d.val n.val
  rw [s.failLane_idle d.val n.val ha hf hl]
  have hne : laneStat d.val n.val ≠ R.ptdSpare d.val := laneStat_ne_ptdSpare (by omega)
  split
  · exact ⟨(State.fld_setFld_ne _ _ _ _ _ _ hne).trans hstate, htry,
      (hregs.mono (by simp)).trans (State.keepsRegs_setFld_mem _ (by simp) _ _),
      ((State.setFld_touches _ _ _ _).step (by decide) hkeeps).keeps (Piece.testBit_of_outside rfl)⟩
  · exact ⟨hstate, htry, hregs.mono (by simp), hkeeps.keeps (Piece.testBit_of_outside rfl)⟩

/-! ## A lane of a port in TRAIN locks

When the synthesiser of a lane locks, its port shows the lane as its own state has it (R119): on a port in TRAIN it reads training, not
idle. -/

/-- A plane in which lane 0 of die 0 starts a Druvo port of one lane. -/
def oneLanePlane : Plane := ⟨[⟨4, 0, ⟨128, 1 + 2 * 2 ^ 24⟩⟩], 0, 0, 0, 0⟩

/-- Port 0 is in TRAIN, its quad is ON, and its one lane is locking. -/
def lockingInTrain : State :=
  let s : State := { State.reset with img := { State.reset.img with active := some oneLanePlane } }
  ((s.setFld (pStat 0) F.PtdPortStat.state 2).setDom (domQuad 0 0) 2).setLstate 0 0 2

theorem lockingInTrain_locks :
    lockingInTrain.laneAbsent 0 0 = false ∧ lockingInTrain.fld (laneStat 0 0) F.PtdLaneStat.synthLock = 0
      ∧ lockingInTrain.fld (laneStat 0 0) F.PtdLaneStat.pendCmd = 0 ∧ lockingInTrain.lstate 0 0 = 2 := by decide +kernel

/-- Once its synthesiser has locked the lane reads training, not IDLE. -/
theorem lockingInTrain_trains : (lockingInTrain.after (.synthLock 0 0)).lstate 0 0 = 3 := by decide +kernel

/-- Refutes O34: the lock of a synthesiser does not always make the lane IDLE. On a port in TRAIN the lane then reads training. -/
theorem not_laneCommands : ¬ Obligations.LaneCommands := by
  rintro ⟨-, -, -, -, hlock, -, -⟩
  obtain ⟨habsent, hunlocked, hpend, hlocking⟩ := lockingInTrain_locks
  obtain ⟨t, ht, hidle, -⟩ := hlock 0 0 lockingInTrain habsent hunlocked hpend hlocking
  have htrains := lockingInTrain_trains
  rw [State.after_of_next ht] at htrains
  exact absurd (hidle.symm.trans htrains) (by decide)

end Sys2Proof.Machine
end

section
/-! Ports in planes and contexts that no check of the part lets pass: O29, O30 and O31. The statements speak of every state. Where a plane
gives a port more lanes than R66 allows, or a context is resident on a lathe that does not exist, a register of the port is written under
another name. -/

namespace Sys2Proof.Machine

/-! ## A port of 97 lanes

The 97th lane of port 0 would have its PTD_LANE_STAT where PTD_PORT_STAT of port 0 stands: its LSTATE lies over RATE_NOW and WIDTH_NOW,
its SIG_DET over a bit of LANES_ACTIVE. -/

/-- The register of lane 96 of a die is that of its port 0. -/
theorem laneStat_pStat : laneStat 0 96 = pStat 0 := by decide

/-- A plane in which port 0 has ADMIN_UP, a partition, and a WIDTH of 97. -/
def widePlane : Plane := ⟨[⟨3, 0, ⟨1024, 1 + 0xFFFFFFFF * 2 ^ 32⟩⟩, ⟨4, 0, ⟨128, 97 + 2 * 2 ^ 24⟩⟩], 0, 0, 0, 0⟩

/-- Port 0 is in NEGOTIATE and has offered lane 0. -/
def wideNegotiating : State :=
  State.setFld { State.reset with
    img := { State.reset.img with active := some widePlane }
    ports := [(0, { PortSt.fresh0 with pendLanes := 1 })] } (pStat 0) F.PtdPortStat.state 3

/-- A peer's word for one lane at 100 Gb/s. -/
def wideWord : CapWord := ⟨1, 1, true, false, 1, 1, List.replicate 8 32, 2 ^ 62, none, none, false⟩

theorem wideNegotiating_settles : wideNegotiating.portState 0 = 3 ∧ wideNegotiating.wordOk 0 wideWord = true := by decide +kernel

/-- The link comes up at 100 Gb/s, and RATE_NOW is lost where the 97th lane's LSTATE is painted. -/
theorem wideNegotiating_rate :
    (wideNegotiating.after (.capabilityWord 0 ⟨wideWord, 0, []⟩)).fld (pStat 0) F.PtdPortStat.rateNow = 0 := by decide +kernel

/-- Refutes O29: on a port of 97 lanes the settled rate does not stand in RATE_NOW. -/
theorem not_linkComesUp : ¬ Obligations.LinkComesUp := by
  rintro ⟨-, -, hup, -⟩
  obtain ⟨hst, hok⟩ := wideNegotiating_settles
  obtain ⟨t, ht, -, -, hrate, -⟩ := hup 0 wideWord 0 [] wideNegotiating hst hok
  have hlost := wideNegotiating_rate
  rw [State.after_of_next ht] at hlost
  exact absurd (hlost.symm.trans hrate) (by decide)

/-- Port 0 is in DOWN_HOLD, its hold-down is over, and its lanes have a signal: for the 97th lane a bit of LANES_ACTIVE stands. The domains of
its quads are ON. -/
def wideHeldDown : State :=
  { State.reset with
    img := { State.reset.img with active := some widePlane }
    regs := (List.range 25).map (fun n => (R.glbPd n, F.GlbPd.state.put 0 2))
      ++ (List.range 96).map (fun n => (laneStat 0 n, F.PtdLaneStat.sigDet.put 0 1))
      ++ [(pStat 0, F.PtdPortStat.lanesActive.put 7 1)] }

theorem wideHeldDown_ready :
    wideHeldDown.portState 0 = 7
      ∧ (wideHeldDown.port 0).since + 1000000 * wideHeldDown.fld (pCtl 0) F.PtdPortCtl.holddownMs ≤ wideHeldDown.tb.tick
      ∧ wideHeldDown.signalAll 0 = true ∧ wideHeldDown.shouldRun 0 = true := by decide +kernel

/-- DETECT clears LANES_ACTIVE, and with it the signal of the 97th lane: the port stays in DETECT. -/
theorem wideHeldDown_detects : (wideHeldDown.after (.holddownExpiry 0)).portState 0 = 1 := by decide +kernel

/-- Refutes O30: a port of 97 lanes whose hold-down is over, with a signal on each, does not reach TRAIN. -/
theorem not_portTimers : ¬ Obligations.PortTimers := by
  rintro ⟨-, -, -, -, -, -, -, -, hhold, -⟩
  obtain ⟨hst, htime, hsignal, hrun⟩ := wideHeldDown_ready
  obtain ⟨t, ht, htrain, -⟩ := hhold 0 wideHeldDown hst htime hsignal hrun
  have hdetect := wideHeldDown_detects
  rw [State.after_of_next ht] at hdetect
  exact absurd (hdetect.symm.trans htrain) (by decide)

/-! ## A context on a lathe that does not exist

A context that is resident on a lathe far beyond the part's 120 raises its records on a die far beyond the part's 100, whose queue
registers would stand where PTD_PORT_STAT of port 0 stands: OVERFLOWS lies over FLAPS and RETRAINS. -/

/-- The die whose queue registers would be PTD_PORT_STAT of port 0. -/
def farDie : Nat := 98 + (pStat 0 - 0xFD00) / 0x40

theorem errqReg_farDie : errqReg farDie = pStat 0 := by decide

/-- A record of a RUNNING home context below the top, whose MODE is the reserved one: it fails its check at REPLAY. -/
def badModeRec : CtxRec := BitVec.ofNat 4096 ((3 + 3 * 2 ^ 4) * 2 ^ 16 + 8 * 2 ^ (8 * 508))

/-- Port 0 has been in RETRAIN for its limit, with RETRAINS at its top. A context whose call goes through port 0 stands on a lathe of that die,
whose queue of records is full. -/
def staleRetrain : State :=
  { State.reset with
    tb := { State.reset.tb with tick := 4000000 }
    ctxs := [(0, { CtxSt.free with
      record := badModeRec, live := badModeRec, phys := some (5 * (farDie - 32)), coll := { Coll.empty with desc := ⟨64, 0⟩ } })]
    err := { State.reset.err with queues := [(farDie, List.replicate 32 ErrRec.zero)] }
    regs := [(pStat 0, F.PtdPortStat.state.put (F.PtdPortStat.retrains.put 0 255) 5)] }

theorem staleRetrain_due :
    staleRetrain.portState 0 = 5
      ∧ (staleRetrain.port 0).since + 250000 * staleRetrain.fld (pCtl 0) F.PtdPortCtl.retrainLimit ≤ staleRetrain.tb.tick
      ∧ staleRetrain.fld (pStat 0) F.PtdPortStat.flaps = 0 := by decide +kernel

/-- The port goes down; its aborted call opens anew and faults, the record is lost, and its count carries into FLAPS. -/
theorem staleRetrain_flaps : (staleRetrain.after (.retrainLimitExpiry 0)).fld (pStat 0) F.PtdPortStat.flaps = 2 := by decide +kernel

/-- Refutes O31: with a context on a lathe that does not exist, one entry into DOWN_HOLD raises FLAPS by two. -/
theorem not_linkLeavesAndReturns : ¬ Obligations.LinkLeavesAndReturns := by
  rintro ⟨-, -, hlimit, -⟩
  obtain ⟨hst, htime, hflaps⟩ := staleRetrain_due
  obtain ⟨t, ht, -, -, -, -, -, -, hone⟩ := hlimit 0 staleRetrain (.inl hst) htime
  have htwo := staleRetrain_flaps
  rw [State.after_of_next ht] at htwo
  have hcount := htwo.symm.trans hone
  rw [show staleRetrain.fld (pStat (0 : Port).val) F.PtdPortStat.flaps = 0 from hflaps] at hcount
  exact absurd hcount (by decide)

end Sys2Proof.Machine
end

section
/-! Link replay and credits (R99, R105 to R107, R136): O32. -/

namespace Sys2Proof.Machine

variable (s : State)

/-! ## A port that leaves UP for RETRAIN (R108, R113, R115) -/

@[simp] theorem State.port_setPortState (p st q : Nat) : (s.setPortState p st).port q = s.port q :=
  State.port_of_ports ((s.setPortState_touches p st).same 14 rfl) q

/-- STATE of a port reads what was written to it. -/
theorem State.portState_setPortState (p st : Nat) (h : st < 2 ^ F.PtdPortStat.state.wid) : (s.setPortState p st).portState p = st := by
  have hwritten := s.fld_setFld_fit (pStat p) F.PtdPortStat.state st rfl h
  rw [State.portState_eq]
  unfold State.setPortState
  split
  · exact hwritten
  · rw [State.fld_setFld_apart _ _ _ _ _ rfl, State.fld_setFld_apart _ _ _ _ _ rfl, hwritten]

@[simp] theorem State.port_tellPeer (p q : Nat) : (s.tellPeer p).port q = s.port q :=
  State.port_of_ports ((s.tellPeer_touches p).same 14 rfl) q
@[simp] theorem State.portState_tellPeer (p q : Nat) : (s.tellPeer p).portState q = s.portState q :=
  (s.tellPeer_touches p).fld rfl _ _
@[simp] theorem State.portState_countRetrains (off q : Nat) : (s.count off F.PtdPortStat.retrains).portState q = s.portState q :=
  s.fld_count_of_apart _ _ _ _ rfl

/-- A port that is UP enters RETRAIN. -/
theorem State.portState_enterRetrain (p : Nat) (own : Bool) (h : s.portState p = 4) : (s.enterRetrain p own).portState p = 5 := by
  cases own <;> simp [State.enterRetrain, h, State.portState_setPortState _ p 5 (by decide)]

/-- What a port that is UP carries into RETRAIN: the lanes, rate and FEC that it had, and whether this end asked. -/
theorem State.port_enterRetrain (p : Nat) (own : Bool) (h : s.portState p = 4) :
    (s.enterRetrain p own).port p = { (s.keepLink p).port p with
      warm := true, localReq := own, replayFails := 0, rateChange := false, since := s.tb.tick } := by
  have htick : ((s.keepLink p).setPortState p 5).tb = s.tb := by
    rw [((s.keepLink p).setPortState_touches p 5).same 2 rfl, (s.keepLink_touches p).same 2 rfl]
  cases own <;> simp [State.enterRetrain, h, htick]

theorem State.portState_retrainWithFec (p : Nat) (h : s.portState p = 4) : (s.retrainWithFec p).portState p = 5 :=
  s.portState_enterRetrain p true h

/-! ## Frames that are resent (R105, R108, R169) -/

/-- What a frame that is sent again leaves of its port: the numbers of the frames that wait, the failed replays, and every register but the
gate's counter. -/
structure Resent (p : Nat) (s t : State) : Prop where
  numbers : (t.port p).unacked.map Prod.fst = (s.port p).unacked.map Prod.fst
  fails : (t.port p).replayFails = (s.port p).replayFails
  regs : s.keepsRegs t [R.ptdGateStat (p / 32) (p % 32)]

theorem Resent.refl (p : Nat) (s : State) : Resent p s s := ⟨rfl, rfl, s.keepsRegs_refl _⟩

theorem Resent.trans {p : Nat} {s t u : State} (h : Resent p s t) (h' : Resent p t u) : Resent p s u :=
  ⟨h'.numbers.trans h.numbers, h'.fails.trans h.fails, h.regs.trans h'.regs⟩

theorem Resent.of_touches {m p : Nat} {s t : State} (h : Touches m s t) (hregs : m.testBit 3 = false) (hports : m.testBit 14 = false) :
    Resent p s t := by
  have hport : t.port p = s.port p := State.port_of_ports (h.same 14 hports) p
  exact ⟨by rw [hport], by rw [hport], State.keepsRegs_of_regs (h.same 3 hregs) _⟩

theorem State.frameSent_resent (p seq endTick : Nat) (limit : Option Nat) : Resent p s (s.frameSent p seq endTick limit) := by
  unfold State.frameSent
  extract_lets late t
  have ht : Resent p s t := by
    refine ⟨?_, by simp [t], s.keepsRegs_refl _⟩
    simp only [t, State.port_setPort_same, List.map_map]
    refine List.map_congr_left fun u _ => ?_
    simp only [Function.comp]
    split <;> rfl
  split
  · exact ht.trans ⟨rfl, rfl, State.keepsRegs_setFld _ _ _ _⟩
  · exact ht

theorem State.resendOne_resent (p : Nat) (cur : List Nat) (x : Nat × Bool) (u : Nat × Pkt) : Resent p s (s.resendOne p cur x u).2 := by
  unfold State.resendOne
  extract_lets end_
  split
  · refine Resent.trans (t := s.restartFrame p u.1 end_) ⟨?_, ?_, s.keepsRegs_refl _⟩ (.of_touches (State.emit_touches _ _) rfl rfl)
    · simp [State.restartFrame]
    · simp [State.restartFrame]
  · exact (Resent.of_touches (s.sendFrame_touches p u.1 u.2 x.2) rfl rfl).trans (State.frameSent_resent _ _ _ _ _)

/-- Resending every unacknowledged frame keeps their numbers. -/
theorem State.resendAll_resent (p : Nat) : Resent p s (s.resendAll p) := by
  unfold State.resendAll
  extract_lets cur
  generalize hl : (s.port p).unacked = l
  clear hl
  generalize hx : (((s.tb.tick, false), s) : (Nat × Bool) × State) = x
  have hs : Resent p s x.2 := hx ▸ Resent.refl p s
  clear hx
  induction l generalizing x with
  | nil => exact hs
  | cons u l ih => exact ih _ (hs.trans (State.resendOne_resent _ p cur x.1 u))

/-! ## Link frames as they arrive (R105, R107) -/

/-- The physical lane of a logical one is its own or a spare. -/
theorem State.physOf_lt (d l n : Nat) (hl : l < n) (hn : 33 < n) : s.physOf d l < n := by
  unfold State.physOf
  split
  · omega
  · split <;> omega

/-- With no codeword to count, nothing is. -/
theorem State.countCodewords_none (p : Nat) : s.countCodewords p .none [] = s := by
  unfold State.countCodewords
  split <;> rfl
theorem State.countCodewords_crc (p : Nat) : s.countCodewords p .crc [] = s := by
  unfold State.countCodewords
  split <;> rfl

/-- PTD_LANE_STAT of the lane that carries lane i of a port. -/
def State.portLaneStat (p i : Nat) : Nat := laneStat (p / 32) (s.physOf (p / 32) (p % 32 + i))

/-- Corrected codewords of one lane are counted there. -/
theorem State.countCodewords_corrected (p : Nat) (i : Fin 8) (k : Nat) (hi : i.val < s.portWidth p)
    (hfec : s.fld (pStat p) F.PtdPortStat.fec = 0) :
    s.countCodewords p .none [(i, k)] = s.countBy (s.portLaneStat p i) F.PtdLaneStat.cwCorr k := by
  have hw : s.portWidth p ≠ 0 := by omega
  simp [State.countCodewords, State.portLaneStat, hfec, hw, Nat.mod_eq_of_lt hi]

theorem lastMs_length (now : Nat) (l : List Nat) :
    (lastMs now l).length = (l.filter (fun t => decide (now < t + 1000000))).length + 1 := by
  simp [lastMs]

/-- An uncorrectable codeword is counted on its lane; the port stays while there were fewer than 1,000 in the millisecond. -/
theorem State.countCodewords_uncorrectable (p : Nat) (i : Fin 8) (hi : i.val < s.portWidth p)
    (hfec : s.fld (pStat p) F.PtdPortStat.fec = 0) (hfew : (s.port p).badTicks.length < 1000) :
    s.countCodewords p (.codeword i) [] = (s.count (s.portLaneStat p i) F.PtdLaneStat.cwUncorr).setPort p
      (fun x => { x with badTicks := lastMs s.tb.tick (s.port p).badTicks }) := by
  have hw : s.portWidth p ≠ 0 := by omega
  have hlen : ¬ 1000 < (lastMs s.tb.tick (s.port p).badTicks).length := by
    have := List.length_filter_le (fun t => decide (s.tb.tick < t + 1000000)) (s.port p).badTicks
    rw [lastMs_length]
    omega
  simp [State.countCodewords, State.portLaneStat, hfec, hw, Nat.mod_eq_of_lt hi, hlen]

section
variable {s} {p : Port} (hst : s.portState p.val = 4)
include hst

theorem State.portUp_of_portState : s.portUp p.val = true := by simp [State.portUp, hst]

/-- A frame with the expected number is delivered and acknowledged, and its codewords are counted. -/
theorem exec_linkFrameReceive_inOrder (n : Nat) (l : List (Fin 8 × Nat)) (heth : s.isEthernet p.val = false)
    (hn : (n % 4096 + 4096 - (s.port p.val).rxSeq) % 4096 = 0) :
    exec (.linkFrameReceive p n ⟨.none, l⟩) s = .next
      (State.countCodewords ((s.setPort p.val (fun x => { x with rxSeq := (x.rxSeq + 1) % 4096 })).emit (.ack p.val (s.port p.val).rxSeq))
        p.val .none l) := by
  show execLinkFrameReceive p n ⟨.none, l⟩ s = _
  simp [execLinkFrameReceive, State.portUp_of_portState hst, heth, hn]

theorem exec_linkFrameReceive_outOfOrder (n : Nat) (l : List (Fin 8 × Nat)) (heth : s.isEthernet p.val = false)
    (hn : (n % 4096 + 4096 - (s.port p.val).rxSeq) % 4096 ≠ 0) :
    exec (.linkFrameReceive p n ⟨.none, l⟩) s = .next
      (State.countCodewords (s.emit (if (n % 4096 + 4096 - (s.port p.val).rxSeq) % 4096 < (s.port p.val).window then
          .nak p.val (((s.port p.val).rxSeq + 4095) % 4096) else .ack p.val (((s.port p.val).rxSeq + 4095) % 4096))) p.val .none l) := by
  show execLinkFrameReceive p n ⟨.none, l⟩ s = _
  by_cases hw : (n % 4096 + 4096 - (s.port p.val).rxSeq) % 4096 < (s.port p.val).window <;>
    simp [execLinkFrameReceive, State.portUp_of_portState hst, heth, hn, hw]

theorem exec_linkFrameReceive_bad (n : Nat) (err : FrameErr) (l : List (Fin 8 × Nat)) (heth : s.isEthernet p.val = false)
    (herr : err ≠ .none) :
    exec (.linkFrameReceive p n ⟨err, l⟩) s = .next
      (State.countCodewords (s.emit (.nak p.val (((s.port p.val).rxSeq + 4095) % 4096))) p.val err l) := by
  show execLinkFrameReceive p n ⟨err, l⟩ s = _
  cases err with
  | none => exact absurd rfl herr
  | codeword i => simp [execLinkFrameReceive, State.portUp_of_portState hst, heth]
  | crc => simp [execLinkFrameReceive, State.portUp_of_portState hst, heth]

end

/-! ## Frames that the peer has not got (R99, R105, R107) -/

theorem State.setPort_congr (p : Nat) {f g : PortSt → PortSt} (h : f (s.port p) = g (s.port p)) : s.setPort p f = s.setPort p g := by
  simp only [State.setPort, Tbl.modify]
  rw [State.port] at h
  rw [h]

/-- The frame that heads the list of those unacknowledged is found at once. -/
theorem find_head_number {α : Type} (l : List (Nat × α)) (n : Nat) (k : α) (l' : List (Nat × α)) (h : l = (n, k) :: l') :
    (List.range l.length).find? (fun i => decide ((l[i]?.map Prod.fst) = some n)) = some 0 := by
  subst h
  simp [List.range_succ_eq_map]

/-- A NAK of the frame that heads the unacknowledged ones: a replay of it is counted. -/
def State.replayCounted (p : Nat) : State :=
  (s.setPort p (fun x => { x with
    replayFails := (s.port p).replayFails + 1, replayTicks := lastMs s.tb.tick (s.port p).replayTicks })).count (pStat p) F.PtdPortStat.replays

section
variable {s} {p : Port} {n : Nat} {k : Pkt} {l : List (Nat × Pkt)} (hst : s.portState p.val = 4)
include hst

theorem exec_ackReceive_head (hl : (s.port p.val).unacked = (n % 4096, k) :: l) :
    exec (.ackReceive p n) s = .next
      ((s.releaseSent [(n % 4096, k)]).setPort p.val (fun x => { x with unacked := l, replayFails := 0 })) := by
  show execAckReceive p n s = _
  simp only [execAckReceive, find_head_number _ _ k l hl, State.portUp_of_portState hst]
  simp [hl]

variable (hl : (s.port p.val).unacked = ((n + 1) % 4096, k) :: l)
include hl

theorem exec_nakReceive_head :
    exec (.nakReceive p n) s = .next
      (if s.fld (pStat p.val) F.PtdPortStat.fec = 1
          ∧ 4 ≤ ((s.port p.val).replayTicks.filter (fun x => decide (s.tb.tick < x + 1000000))).length then
        (s.replayCounted p.val).retrainWithFec p.val
      else if 8 ≤ (s.port p.val).replayFails then (s.replayCounted p.val).enterRetrain p.val true
      else (s.replayCounted p.val).resendAll p.val) := by
  show execNakReceive p n s = _
  have hfec : (s.replayCounted p.val).fld (pStat p.val) F.PtdPortStat.fec = s.fld (pStat p.val) F.PtdPortStat.fec :=
    State.fld_count_apart _ _ _ _ rfl
  have hcounted : s.replayCounted p.val = ((s.releaseSent ((s.port p.val).unacked.take 0)).setPort p.val (fun x => { x with
      unacked := (s.port p.val).unacked.drop 0, replayFails := (s.port p.val).replayFails + 1
      replayTicks := lastMs s.tb.tick (s.port p.val).replayTicks })).count (pStat p.val) F.PtdPortStat.replays :=
    congrArg (fun t : State => t.count (pStat p.val) F.PtdPortStat.replays) (s.setPort_congr _ rfl)
  simp only [execNakReceive, find_head_number _ _ k l hl, State.portUp_of_portState hst, if_true, ← hcounted, hfec, lastMs_length]
  simp only [Bool.and_eq_true, decide_eq_true_eq, Nat.lt_succ_iff, Bool.not_true, Bool.false_eq_true, if_false]
  split
  · rfl
  · split <;> rfl

end

@[simp] theorem State.portState_replayCounted (p q : Nat) : (s.replayCounted p).portState q = s.portState q :=
  State.fld_count_of_apart _ _ _ _ _ rfl

theorem State.port_replayCounted (p : Nat) :
    (s.replayCounted p).port p = { s.port p with
      replayFails := (s.port p).replayFails + 1, replayTicks := lastMs s.tb.tick (s.port p).replayTicks } := by
  simp [State.replayCounted]

theorem State.replays_replayCounted (p : Nat) :
    (s.replayCounted p).fld (pStat p) F.PtdPortStat.replays = min 65535 (s.fld (pStat p) F.PtdPortStat.replays + 1) :=
  (State.fld_count_same _ _ _ rfl).trans (Nat.min_comm _ _)

theorem gateStat_ne_pStat (p : Nat) : pStat p ≠ R.ptdGateStat (p / 32) (p % 32) := by
  simp only [pStat, R.ptdPortStat, R.ptdGateStat]
  omega

/-- What a replay of the head leaves: the frames and their numbers, the counts of it, and the port UP. -/
theorem State.resendAll_replayCounted (p : Nat) :
    (((s.replayCounted p).resendAll p).port p).unacked.map Prod.fst = (s.port p).unacked.map Prod.fst
      ∧ (((s.replayCounted p).resendAll p).port p).replayFails = (s.port p).replayFails + 1
      ∧ ((s.replayCounted p).resendAll p).fld (pStat p) F.PtdPortStat.replays = min 65535 (s.fld (pStat p) F.PtdPortStat.replays + 1)
      ∧ ((s.replayCounted p).resendAll p).portState p = s.portState p
      ∧ s.keepsRegs ((s.replayCounted p).resendAll p) [pStat p, R.ptdGateStat (p / 32) (p % 32)] := by
  obtain ⟨hnumbers, hfails, hregs⟩ := (s.replayCounted p).resendAll_resent p
  have hpstat := hregs (pStat p) (by simpa using gateStat_ne_pStat p)
  rw [s.port_replayCounted] at hnumbers hfails
  exact ⟨hnumbers, hfails, (State.fld_of_rd hpstat _).trans (s.replays_replayCounted p),
    (State.fld_of_rd hpstat _).trans (s.portState_replayCounted p p),
    (State.keepsRegs_setFld_mem _ (by simp) _ _ : s.keepsRegs (s.replayCounted p) _).trans (hregs.mono (by simp))⟩

theorem State.pStat_ne_portLaneStat (p i : Nat) (hi : i < 8) : pStat p ≠ s.portLaneStat p i :=
  pStat_ne_laneStat (s.physOf_lt _ _ _ (by omega) (by omega))

theorem State.portLaneStat_of_regs {s t : State} (h : t.regs = s.regs) (p i : Nat) : t.portLaneStat p i = s.portLaneStat p i := by
  have hstate (d b : Nat) : t.spState d b = s.spState d b := State.fld_of_regs h _ _
  have hfor (d b : Nat) : t.spFor d b = s.spFor d b := State.fld_of_regs h _ _
  unfold State.portLaneStat State.physOf
  rw [hstate, hstate, hfor, hfor]

theorem State.fld_countBy_same (off : Nat) (f : Fld) (n : Nat) (h : f.ok = true) :
    (s.countBy off f n).fld off f = min (2 ^ f.wid - 1) (s.fld off f + n) := by
  have hp : 0 < 2 ^ f.wid := Nat.two_pow_pos _
  rw [State.countBy, State.fld_setFld_same _ _ _ _ h, satAdd, Nat.min_comm]
  exact Nat.mod_eq_of_lt (by omega)

theorem State.portWidth_of_img {s t : State} (h : t.img = s.img) (p : Nat) : t.portWidth p = s.portWidth p := by
  simp only [State.portWidth, State.planeOn, State.keptPlane, State.plane, h]

/-- A frame with corrected codewords: they are counted on their lane, whether the frame is in order or not. -/
theorem State.corrected_counted {s1 : State} (hregs : s1.regs = s.regs) (himg : s1.img = s.img) (p : Nat) (i : Fin 8) (k : Nat)
    (hst : s.portState p = 4) (hi : i.val < s.portWidth p) (hfec : s.fld (pStat p) F.PtdPortStat.fec = 0) :
    (s1.countCodewords p .none [(i, k)]).fld (s.portLaneStat p i) F.PtdLaneStat.cwCorr
        = min (2 ^ F.PtdLaneStat.cwCorr.wid - 1) (s.fld (s.portLaneStat p i) F.PtdLaneStat.cwCorr + k)
      ∧ (s1.countCodewords p .none [(i, k)]).portState p = 4 := by
  have hwidth := (State.portWidth_of_img himg p).symm
  rw [s1.countCodewords_corrected p i k (hwidth ▸ hi) ((State.fld_of_regs hregs _ _).trans hfec), State.portLaneStat_of_regs hregs]
  constructor
  · rw [State.fld_countBy_same _ _ _ _ rfl, State.fld_of_regs hregs]
  · exact (State.fld_setFld_ne _ _ _ _ _ _ (s.pStat_ne_portLaneStat p i i.isLt)).trans ((State.fld_of_regs hregs _ _).trans hst)

/-- A frame with an uncorrectable codeword, answered by o: the codeword is counted on its lane and nothing else is written. -/
theorem State.uncorrectable_counted (o : Out) (p : Nat) (i : Fin 8) (hi : i.val < s.portWidth p)
    (hfec : s.fld (pStat p) F.PtdPortStat.fec = 0) (hfew : (s.port p).badTicks.length < 1000) :
    ∃ t, (s.emit o).countCodewords p (.codeword i) [] = t ∧ t.outs = s.outs ++ [o] ∧ (t.port p).rxSeq = (s.port p).rxSeq
      ∧ t.fld (s.portLaneStat p i) F.PtdLaneStat.cwUncorr
        = min (2 ^ F.PtdLaneStat.cwUncorr.wid - 1) (s.fld (s.portLaneStat p i) F.PtdLaneStat.cwUncorr + 1)
      ∧ s.keepsRegs t [s.portLaneStat p i] ∧ s.keeps t [.regs, .ports, .outs] := by
  have hwidth : (s.emit o).portWidth p = s.portWidth p := State.portWidth_of_img rfl p
  have hlane : (s.emit o).portLaneStat p i = s.portLaneStat p i := State.portLaneStat_of_regs rfl p i
  have hcount := (s.emit o).countCodewords_uncorrectable p i (hwidth ▸ hi) hfec hfew
  rw [hlane] at hcount
  refine ⟨_, hcount, rfl, ?_, ?_, ?_, ?_⟩
  · rw [State.port_setPort_same, State.port_count, State.port_emit]
  · rw [State.fld_setPort, State.fld_count_same _ _ _ rfl, Nat.min_comm, State.fld_emit]
  · exact (s.emit o).keepsRegs_setFld _ _ _
  · exact ((State.setPort_touches _ _ _).step (by decide) ((State.count_touches _ _ _).step (by decide)
      ((s.emit_touches o).mono (m := 0x4004008) (by decide)))).keeps (Piece.testBit_of_outside rfl)

/-- Settles O32, frame by frame: each case names the command's branch, and the counters and the resent frames have their own lemmas. -/
theorem linkReplay : Obligations.LinkReplay := by
  refine ⟨?inOrder, ?outOfOrder, ?crc, ?uncorrectable, ?corrected, ?ack, ?nak, ?eighth, ?bypass, ?credits⟩
  case inOrder =>
    intro p n s hst heth hn
    have hahead : (n % 4096 + 4096 - (s.port p.val).rxSeq) % 4096 = 0 := by omega
    refine ⟨_, exec_linkFrameReceive_inOrder hst n [] heth hahead, ?_⟩
    rw [State.countCodewords_none]
    refine ⟨?_, by rw [hn]; rfl, ?_⟩
    · simp only [State.port_emit, State.port_setPort_same]
      omega
    · exact ((State.emit_touches _ _).step (by decide) ((s.setPort_touches _ _).mono (m := 0x4004000) (by decide))).keeps
        (Piece.testBit_of_outside rfl)
  case outOfOrder =>
    intro p n k s hst heth hk hne
    subst hk
    refine ⟨_, exec_linkFrameReceive_outOfOrder hst n [] heth hne, ?_⟩
    rw [State.countCodewords_none]
    exact ⟨rfl, (s.emit_touches _).keeps (Piece.testBit_of_outside rfl)⟩
  case crc =>
    intro p n s hst heth
    refine ⟨_, exec_linkFrameReceive_bad hst n .crc [] heth (fun h => nomatch h), ?_⟩
    rw [State.countCodewords_crc]
    exact ⟨rfl, (s.emit_touches _).keeps (Piece.testBit_of_outside rfl)⟩
  case uncorrectable =>
    intro p n i s hst heth hi hfec hfew
    obtain ⟨t, ht, hcounted⟩ := s.uncorrectable_counted (.nak p.val (((s.port p.val).rxSeq + 4095) % 4096)) p.val i hi hfec hfew
    exact ⟨t, (exec_linkFrameReceive_bad hst n (.codeword i) [] heth (fun h => nomatch h)).trans (congrArg _ ht), hcounted⟩
  case corrected =>
    intro p i k n s hst heth hi hfec
    by_cases hahead : (n % 4096 + 4096 - (s.port p.val).rxSeq) % 4096 = 0
    · exact ⟨_, exec_linkFrameReceive_inOrder hst n [(i, k)] heth hahead,
        State.corrected_counted s (by rfl) (by rfl) p.val i k hst hi hfec⟩
    · exact ⟨_, exec_linkFrameReceive_outOfOrder hst n [(i, k)] heth hahead,
        State.corrected_counted s (by rfl) (by rfl) p.val i k hst hi hfec⟩
  case ack =>
    intro p n k l s hst hl
    exact ⟨_, exec_ackReceive_head hst hl, by simp, by simp, (s.releaseSent_touches _).same 3 rfl⟩
  case nak =>
    intro p n k l s hst hl hfails hfec
    refine ⟨_, exec_nakReceive_head hst hl, ?_⟩
    rw [if_neg (fun h => hfec h.1), if_neg (Nat.not_le.mpr hfails)]
    obtain ⟨hnumbers, hcount, hreplays, hup, hregs⟩ := s.resendAll_replayCounted p.val
    exact ⟨hnumbers, hcount, hreplays, hup.trans hst, hregs⟩
  case eighth =>
    intro p n k l s hst hl hfails
    refine ⟨_, exec_nakReceive_head hst hl, ?_⟩
    have hup : (s.replayCounted p.val).portState p.val = 4 := (s.portState_replayCounted _ _).trans hst
    rw [if_pos hfails]
    split
    · exact State.portState_retrainWithFec _ _ hup
    · exact State.portState_enterRetrain _ _ _ hup
  case bypass =>
    intro p n k l s hst hl hfec hmany
    refine ⟨_, exec_nakReceive_head hst hl, ?_⟩
    have hup : (s.replayCounted p.val).portState p.val = 4 := (s.portState_replayCounted _ _).trans hst
    rw [if_pos ⟨hfec, hmany⟩]
    exact ⟨State.portState_retrainWithFec _ _ hup, by simp [State.retrainWithFec], by simp [State.retrainWithFec]⟩
  case credits =>
    intro p c n s hst heth
    show execCreditReturn p c n s = _
    simp [execCreditReturn, State.portUp_of_portState hst, heth]

end Sys2Proof.Machine
end

section
/-! Port commands through the die's fence (R114, R120): O35. -/

namespace Sys2Proof.Machine

variable (s : State)

/-! ## What a port's record, its lanes' synthesisers and its pending lane commands leave -/

theorem State.fld_escalate (step die unit part off : Nat) (f : Fld) (h : off ≠ R.glbEscStat) :
    (s.escalate step die unit part).fld off f = s.fld off f :=
  State.fld_of_rd (s.rd_escalate step die unit part off h) f

/-- A record raised on any die, there or not, leaves every field that shares no bit with the count of lost records. -/
theorem State.fld_raise_of_apart (r : ErrRec) (off : Nat) (f : Fld) (hf : f.apart F.PtdErrqStat.overflows = true) (he : off ≠ R.glbEscStat) :
    (s.raise r).fld off f = s.fld off f := by
  unfold State.raise
  extract_lets q src s1 s2 e s3 s4 zero o
  have h1 : s1.fld off f = s.fld off f := by
    unfold s1
    split <;> rfl
  have h2 : s2.fld off f = s.fld off f := by
    unfold s2
    split
    · rw [(State.capture_touches s1).fld rfl, h1]
    · exact h1
  have h4 : s4.fld off f = s.fld off f := by
    have h3 : s3.fld off f = s.fld off f := (s2.fld_count_of_apart _ _ _ _ hf).trans h2
    unfold s4
    split
    · rw [(State.capture_touches s3).fld rfl, h3]
    · exact h3
  have put (t : State) (qs : List ErrRec) (step unit part : Nat) :
      ((t.setErrq r.die qs).escalate step r.die unit part).fld off f = t.fld off f :=
    State.fld_escalate _ _ _ _ _ _ _ he
  split
  · split
    · exact h2
    · split
      · rw [put, h2]
      · split <;> rw [put, h4]
  · rw [put, h2]

theorem pStat_ne_glbEscStat (p : Nat) : pStat p ≠ R.glbEscStat := by
  simp only [pStat, R.ptdPortStat, R.glbEscStat]
  omega

@[simp] theorem State.portState_portRecord (p e q : Nat) : (s.portRecord p e).portState q = s.portState q :=
  s.fld_raise_of_apart _ _ _ rfl (pStat_ne_glbEscStat q)
@[simp] theorem State.port_portRecord (p e q : Nat) : (s.portRecord p e).port q = s.port q :=
  State.port_of_ports ((s.portRecord_touches p e).same 14 rfl) q

/-- A synthesiser that starts to lock writes SYNTH_LOCK and LSTATE alone. -/
theorem State.fld_startLock_of_apart (d n off : Nat) (f : Fld) (hs : f.apart F.PtdLaneStat.synthLock = true)
    (hl : f.apart F.PtdLaneStat.lstate = true) : (s.startLock d n).fld off f = s.fld off f := by
  have hlock : ((s.setFld (laneStat d n) F.PtdLaneStat.synthLock 0).setLockTry d n 1).fld off f = s.fld off f :=
    s.fld_setFld_of_apart _ _ _ _ _ hs
  unfold State.startLock
  extract_lets t
  split
  · exact hlock
  · exact (t.fld_setFld_of_apart _ _ _ _ _ hl).trans hlock

theorem State.fld_relockPort_of_apart (p off : Nat) (f : Fld) (hs : f.apart F.PtdLaneStat.synthLock = true)
    (hl : f.apart F.PtdLaneStat.lstate = true) : (s.relockPort p).fld off f = s.fld off f := by
  unfold State.relockPort
  generalize s.portLanes p = l
  induction l generalizing s with
  | nil => rfl
  | cons n l ih =>
    rw [List.foldl_cons, ih]
    split
    · rfl
    · exact s.fld_startLock_of_apart _ _ _ _ hs hl

@[simp] theorem State.portState_relockPort (p q : Nat) : (s.relockPort p).portState q = s.portState q :=
  s.fld_relockPort_of_apart _ _ _ rfl rfl
@[simp] theorem State.port_relockPort (p q : Nat) : (s.relockPort p).port q = s.port q :=
  State.port_of_ports ((s.relockPort_touches p).same 14 rfl) q

/-- Discarding a port's pending lane commands writes PEND_CMD and CMD_SUPERSEDED alone. -/
theorem State.fld_dropPending_of_apart (p off : Nat) (f : Fld) (hp : f.apart F.PtdLaneStat.pendCmd = true)
    (hc : f.apart F.PtdLaneStat.cmdSuperseded = true) : (s.dropPending p).fld off f = s.fld off f := by
  unfold State.dropPending
  generalize s.portLanes p = l
  induction l generalizing s with
  | nil => rfl
  | cons n l ih =>
    rw [List.foldl_cons, ih]
    extract_lets t r
    have ht : t.fld off f = s.fld off f := (s.setTxMode_touches _ _ _).fld rfl _ _
    split
    · exact ht
    · rw [State.fld_setFld_of_apart _ _ _ _ _ _ hc, State.fld_setFld_of_apart _ _ _ _ _ _ hp, ht]

@[simp] theorem State.portState_dropPending (p q : Nat) : (s.dropPending p).portState q = s.portState q :=
  s.fld_dropPending_of_apart _ _ _ rfl rfl
@[simp] theorem State.port_dropPending (p q : Nat) : (s.dropPending p).port q = s.port q :=
  State.port_of_ports ((s.dropPending_touches p).same 14 rfl) q

/-! ## RESIZE and DETECT (R108, R113, R115) -/

@[simp] theorem State.portState_keepLink (p q : Nat) : (s.keepLink p).portState q = s.portState q := rfl

/-- A port that is UP enters RESIZE, and carries into it the lanes and the rate asked for, and whether they change the rate. -/
theorem State.enterResize_of_up (p lanes : Nat) (r100 own : Bool) (h : s.portState p = 4) :
    (s.enterResize p lanes r100 own).portState p = 6
      ∧ (s.enterResize p lanes r100 own).port p = { (s.keepLink p).port p with
        rateChange := decide (decide (s.fld (pStat p) F.PtdPortStat.rateNow = 1) ≠ r100), pendLanes := lanes, pend100 := r100
        localReq := own, warm := true, since := s.tb.tick } := by
  unfold State.enterResize
  extract_lets st held change resized relocked told
  have hst : st = 4 := h
  have hheld : held = (s.keepLink p).setPortState p 6 := by simp [held, hst]
  have htick : held.tb = s.tb := by
    rw [hheld, ((s.keepLink p).setPortState_touches p 6).same 2 rfl, (s.keepLink_touches p).same 2 rfl]
  have hport : held.port p = (s.keepLink p).port p := by simp [hheld]
  have hresized : resized.portState p = 6 ∧ resized.port p = { (s.keepLink p).port p with
      rateChange := decide (decide (s.fld (pStat p) F.PtdPortStat.rateNow = 1) ≠ r100), pendLanes := lanes, pend100 := r100
      localReq := own, warm := true, since := s.tb.tick } := by
    constructor
    · simp [resized, hheld, State.portState_setPortState _ p 6 (by decide)]
    · simp [resized, change, hport, htick, hst, State.keepLink]
  have hrelocked : relocked.portState p = resized.portState p ∧ relocked.port p = resized.port p := by
    unfold relocked
    split <;> simp
  have htold : told.portState p = relocked.portState p ∧ told.port p = relocked.port p := by
    unfold told
    split <;> simp
  rw [if_neg (by simp [hst]), if_neg (by simp [hst]), State.portState_portRecord, State.port_portRecord]
  exact ⟨htold.1.trans (hrelocked.1.trans hresized.1), htold.2.trans (hrelocked.2.trans hresized.2)⟩

/-- A port enters DETECT, or goes on to TRAIN at once. -/
theorem State.portState_enterDetect (p : Nat) : (s.enterDetect p).portState p = 1 ∨ (s.enterDetect p).portState p = 2 := by
  unfold State.enterDetect
  extract_lets was t u
  have hu : u.portState p = 1 := by simp [u, State.portState_setPortState _ p 1 (by decide)]
  split
  · exact .inr (by simp [State.enterTrain, State.portState_setPortState _ p 2 (by decide)])
  · exact .inl hu

/-- A port that leaves DISABLED or FAULT for DETECT waits for no word and starts its attempts afresh. -/
theorem State.port_enterDetect (p : Nat) (h : s.portState p = 0 ∨ s.portState p = 8) :
    ((s.enterDetect p).port p).waiting = false ∧ ((s.enterDetect p).port p).attempts = 0 := by
  unfold State.enterDetect
  extract_lets was t u
  have hu : (u.port p).waiting = false ∧ (u.port p).attempts = 0 := by
    rcases h with h | h <;> simp [u, t, was, h]
  split
  · simpa [State.enterTrain] using hu.2
  · exact hu

/-! ## Commands to a port -/

section
variable {s} {w : Writer} {p : Nat}

theorem State.fenced_of_applied {d : Nat} (hw : s.judge w d = .applied) (off : Nat) (apply : State → State) :
    s.fenced w d off apply = apply s := by
  rw [State.fenced, hw]

variable (hw : s.judge w (p / 32) = .applied) (hwidth : s.portWidth p ≠ 0) {c : Instr} {ok : State → Bool} {go : State → State}
  (hc : exec c s = .next (s.portCmd w p ok go))
include hw hwidth hc

theorem exec_portCmd_of_ok (hok : ok s = true) : exec c s = .next (go s) := by
  rw [hc, State.portCmd, State.fenced_of_applied hw, if_neg hwidth, if_pos hok]

theorem exec_portCmd_of_not_ok (hok : ok s = false) : exec c s = .next (s.setFld (pStat p) F.PtdPortStat.cmdRefused 1) := by
  rw [hc, State.portCmd, State.fenced_of_applied hw, if_neg hwidth, if_neg (by simp [hok])]

end

/-- What a refused command leaves: CMD_REFUSED is set and the port stays as it is. -/
theorem State.refused_facts (p : Nat) :
    (s.setFld (pStat p) F.PtdPortStat.cmdRefused 1).fld (pStat p) F.PtdPortStat.cmdRefused = 1
      ∧ (s.setFld (pStat p) F.PtdPortStat.cmdRefused 1).portState p = s.portState p
      ∧ s.keepsRegs (s.setFld (pStat p) F.PtdPortStat.cmdRefused 1) [pStat p]
      ∧ s.keeps (s.setFld (pStat p) F.PtdPortStat.cmdRefused 1) [.regs] :=
  ⟨s.fld_setFld_fit _ _ 1 rfl (by decide), s.fld_setFld_apart _ _ _ _ rfl, s.keepsRegs_setFld _ _ _,
    (s.setFld_touches _ _ _).keeps (Piece.testBit_of_outside rfl)⟩

section
variable {s} {w : Writer} {p : Port} (hw : s.judge w (p.val / 32) = .applied) (hwidth : s.portWidth p.val ≠ 0)
include hw hwidth

/-- RETRAIN of a port that is UP. -/
theorem retrain_of_up (hup : s.portState p.val = 4) :
    completes (.retrain w p) s fun t =>
      t.portState p.val = 5 ∧ (t.port p.val).localReq = true ∧ (t.port p.val).noBypass = false ∧ s.keeps t [.regs, .ports, .outs] := by
  refine ⟨_, exec_portCmd_of_ok hw hwidth rfl (State.portUp_of_portState hup), ?_, ?_, ?_, ?_⟩
  · exact s.portState_enterRetrain _ _ hup
  · simp [s.port_enterRetrain _ _ hup]
  · simp
  · exact ((State.setPort_touches _ _ _).step (by decide) ((s.enterRetrain_touches p.val true).mono (m := 0x4004008) (by decide))).keeps
      (Piece.testBit_of_outside rfl)

/-- UPRATE of a port that is UP and may run at 200 Gb/s. -/
theorem exec_uprate_of_up (hup : s.portState p.val = 4) (hrate : (s.planeOn (p.val / 32)).rate100 (p.val / 32) (p.val % 32) = false) :
    exec (.uprate w p) s = .next
      (if s.fld (pStat p.val) F.PtdPortStat.rateNow = 0 then s.setPort p.val (fun x => { x with next100 := false })
      else (s.setPort p.val (fun x => { x with next100 := false })).enterResize p.val (s.fld (pStat p.val) F.PtdPortStat.lanesActive) false true) :=
  (exec_portCmd_of_ok (c := .uprate w p) hw hwidth rfl (by simp [State.portUp_of_portState hup, hrate])).trans rfl

/-- RESTORE_WIDTH of a port that is UP, where lanes can come back. -/
theorem exec_restoreWidth_of_up (hup : s.portState p.val = 4) (hmore : s.resizeBlock p.val ≠ s.fld (pStat p.val) F.PtdPortStat.lanesActive)
    (hsome : s.resizeBlock p.val ≠ 0) :
    exec (.restoreWidth w p) s = .next
      (s.enterResize p.val (s.resizeBlock p.val) (s.fld (pStat p.val) F.PtdPortStat.rateNow = 1) true) :=
  (exec_portCmd_of_ok hw hwidth rfl (State.portUp_of_portState hup)).trans (congrArg _ (if_neg (by simp [hmore, hsome])))

theorem exec_adminDownWrite (down : Bool) :
    exec (.adminDownWrite w p down) s = .next ((s.setFld (pCtl p.val) F.PtdPortCtl.adminDown (b2n down)).refreshPort p.val) := by
  show execAdminDownWrite w p down s = _
  rw [execAdminDownWrite, State.fenced_of_applied hw, if_neg hwidth]

/-- A command that does not fit the state of the port is refused. -/
theorem refused_of_exec {c : Instr} {ok : State → Bool} {go : State → State} (hc : exec c s = .next (s.portCmd w p.val ok go))
    (hok : ok s = false) :
    completes c s fun t => t.fld (pStat p.val) F.PtdPortStat.cmdRefused = 1 ∧ t.portState p.val = s.portState p.val
      ∧ s.keepsRegs t [pStat p.val] ∧ s.keeps t [.regs] :=
  ⟨_, exec_portCmd_of_not_ok hw hwidth hc hok, s.refused_facts p.val⟩

end

/-- A port that is DISABLED stays so when ADMIN_DOWN is set. -/
theorem State.refreshPort_down (p : Nat) (h : s.portState p = 0) :
    (s.setFld (pCtl p) F.PtdPortCtl.adminDown 1).refreshPort p = s.setFld (pCtl p) F.PtdPortCtl.adminDown 1 := by
  have hdown : (s.setFld (pCtl p) F.PtdPortCtl.adminDown 1).fld (pCtl p) F.PtdPortCtl.adminDown = 1 :=
    s.fld_setFld_fit _ _ _ rfl (by decide)
  have hstate : (s.setFld (pCtl p) F.PtdPortCtl.adminDown 1).portState p = 0 :=
    (s.fld_setFld_ne _ _ _ _ _ (pStat_ne_pCtl p)).trans h
  have hstay : (s.setFld (pCtl p) F.PtdPortCtl.adminDown 1).shouldRun p = false := by simp [State.shouldRun, hdown]
  simp [State.refreshPort, State.enterDisabled, hstay, hstate]

/-- Settles O35: each command is the operation of its branch, and the operations on ports have their own lemmas. -/
theorem portCommands : Obligations.PortCommands := by
  refine ⟨fun w p s hw hwidth hup => ⟨retrain_of_up hw hwidth hup, ?rateChange, ?atRate, ?fixedRate, ?restore⟩,
    ?restart, ?refused, ?down, ?write⟩
  case rateChange =>
    intro hrate hnow
    refine ⟨_, exec_uprate_of_up hw hwidth hup hrate, ?_⟩
    rw [if_neg (by simp [hnow])]
    obtain ⟨hstate, hport⟩ := (s.setPort p.val (fun x => { x with next100 := false })).enterResize_of_up p.val
      (s.fld (pStat p.val) F.PtdPortStat.lanesActive) false true hup
    rw [hport]
    exact ⟨hstate, by simp [hnow], by simp [State.keepLink], rfl⟩
  case atRate =>
    intro hrate hnow
    refine ⟨_, exec_uprate_of_up hw hwidth hup hrate, ?_⟩
    rw [if_pos hnow]
    exact ⟨hup, by simp, (s.setPort_touches _ _).keeps (Piece.testBit_of_outside rfl)⟩
  case fixedRate =>
    intro hrate
    obtain ⟨hrefused, -, hkeeps⟩ := s.refused_facts p.val
    exact ⟨_, exec_portCmd_of_not_ok hw hwidth rfl (by simp [hrate]), hrefused, hkeeps⟩
  case restore =>
    intro hmore hsome
    refine ⟨_, exec_restoreWidth_of_up hw hwidth hup hmore hsome, ?_⟩
    obtain ⟨hstate, hport⟩ := s.enterResize_of_up p.val (s.resizeBlock p.val) (s.fld (pStat p.val) F.PtdPortStat.rateNow = 1) true hup
    rw [hport]
    exact ⟨hstate, rfl, rfl⟩
  case restart =>
    intro w p s hw hwidth hfault
    refine ⟨_, exec_portCmd_of_ok hw hwidth rfl (by simp [hfault]), s.portState_enterDetect _, ?_⟩
    exact s.port_enterDetect _ (.inr hfault)
  case refused =>
    rintro w p s hw hwidth c (⟨hup, rfl | rfl | rfl⟩ | ⟨hfault, rfl⟩)
    · exact refused_of_exec hw hwidth rfl (by simp [State.portUp, hup])
    · exact refused_of_exec hw hwidth rfl (by simp [State.portUp, hup])
    · exact refused_of_exec hw hwidth rfl (by simp [State.portUp, hup])
    · exact refused_of_exec hw hwidth rfl (by simp [hfault])
  case down =>
    intro w p s hw hwidth hdisabled
    refine ⟨_, (exec_adminDownWrite hw hwidth true).trans (congrArg _ (s.refreshPort_down p.val hdisabled)), ?_, ?_, ?_, ?_⟩
    · exact s.fld_setFld_fit _ _ _ rfl (by decide)
    · exact (s.fld_setFld_ne _ _ _ _ _ (pStat_ne_pCtl p.val)).trans hdisabled
    · exact s.keepsRegs_setFld _ _ _
    · exact (s.setFld_touches _ _ _).keeps (Piece.testBit_of_outside rfl)
  case write => exact fun w p down s hw hwidth => exec_adminDownWrite hw hwidth down

end Sys2Proof.Machine
end

section
/-! Spare lanes (R116, R118, R120): the part of O36 about TAKE, RELEASE and the training of a spare. -/

namespace Sys2Proof.Machine

variable (s : State)

/-! ## PTD_SPARE -/

/-- A field that shares no bit with those that a port's transitions, its lanes and its records write. -/
def Fld.offPorts (f : Fld) : Bool :=
  [F.PtdPortStat.state, F.PtdPortStat.lanesActive, F.PtdPortStat.widthNow, F.PtdLaneStat.synthLock, F.PtdLaneStat.lstate
    , F.PtdLaneStat.logical, F.PtdLaneStat.sigDet, F.PtdErrqStat.overflows].all f.apart

theorem Fld.offPorts_iff (f : Fld) : f.offPorts = true ↔
    f.apart F.PtdPortStat.state = true ∧ f.apart F.PtdPortStat.lanesActive = true ∧ f.apart F.PtdPortStat.widthNow = true
      ∧ f.apart F.PtdLaneStat.synthLock = true ∧ f.apart F.PtdLaneStat.lstate = true ∧ f.apart F.PtdLaneStat.logical = true
      ∧ f.apart F.PtdLaneStat.sigDet = true ∧ f.apart F.PtdErrqStat.overflows = true := by
  simp [Fld.offPorts]

theorem spStateF_offPorts (b : Nat) : (spStateF b).offPorts = true := by
  unfold spStateF
  split <;> rfl
theorem spForF_offPorts (b : Nat) : (spForF b).offPorts = true := by
  unfold spForF
  split <;> rfl
theorem spStateF_apart_spForF (b : Nat) : (spStateF b).apart (spForF b) = true := by
  unfold spStateF spForF
  split <;> rfl

theorem State.spState_setFld (d b v : Nat) (h : v < 4) : (s.setFld (R.ptdSpare d) (spStateF b) v).spState d b = v := by
  refine s.fld_setFld_fit _ _ _ ?_ ?_
  · unfold spStateF
    split <;> rfl
  · unfold spStateF
    split <;> exact h

theorem State.spFor_setFld (d b v : Nat) (h : v < 64) : (s.setFld (R.ptdSpare d) (spForF b) v).spFor d b = v := by
  refine s.fld_setFld_fit _ _ _ ?_ ?_
  · unfold spForF
    split <;> rfl
  · unfold spForF
    split <;> exact h

@[simp] theorem State.spareJob_setSpareJob (d b v : Nat) : (s.setSpareJob d b v).spareJob d b = v := by
  simp [State.spareJob, State.setSpareJob]
theorem State.spareJob_of_spares {s t : State} (h : t.spares = s.spares) (d b : Nat) : t.spareJob d b = s.spareJob d b := by
  rw [State.spareJob, State.spareJob, h]

theorem State.portOfLane_of_img {s t : State} (h : t.img = s.img) (d l : Nat) : t.portOfLane d l = s.portOfLane d l := by
  have hplane : t.planeOn d = s.planeOn d := by simp only [State.planeOn, State.keptPlane, State.plane, h]
  rw [State.portOfLane, State.portOfLane, hplane]

theorem State.spFor_lt (d b : Nat) : s.spFor d b < 64 := by
  unfold State.spFor spForF
  split <;> exact State.fld_lt _ _ _

theorem Touches.setFld {m : Nat} {s t : State} (h : Touches m s t) (hm : 0x8 ||| m = m) {off : Nat} {f : Fld} {x : Nat} :
    Touches m s (t.setFld off f x) :=
  Touches.step (t.setFld_touches off f x) hm h

/-! ## A spare starts to train -/

theorem State.keepsRegs_startLock (d n : Nat) : s.keepsRegs (s.startLock d n) [laneStat d n] := by
  unfold State.startLock
  extract_lets t
  have ht : s.keepsRegs t [laneStat d n] := s.keepsRegs_setFld _ _ _
  split
  · exact ht
  · exact ht.trans (t.keepsRegs_setFld _ _ _)

theorem State.trainSpare_facts (d b l : Nat) (hb : b < 2) :
    (s.trainSpare d b l).spState d b = 1 ∧ (s.trainSpare d b l).spareJob d b = 1 + l ∧ (s.trainSpare d b l).lstate d (32 + b) = 3
      ∧ s.keepsRegs (s.trainSpare d b l) [R.ptdSpare d, laneStat d (32 + b)] := by
  unfold State.trainSpare
  extract_lets t
  have ht : s.keepsRegs t [laneStat d (32 + b)] := by
    unfold t
    split
    · exact s.keepsRegs_refl _
    · exact s.keepsRegs_startLock _ _
  have hne : R.ptdSpare d ≠ laneStat d (32 + b) := (laneStat_ne_ptdSpare (by omega)).symm
  refine ⟨?_, ?_, State.lstate_setLstate _ _ _ _ (by decide), ?_⟩
  · exact (State.fld_setFld_ne _ _ _ _ _ _ hne).trans (t.spState_setFld d b 1 (by decide))
  · exact State.spareJob_setSpareJob _ _ _ _
  · exact (ht.mono (by simp)).trans ((State.keepsRegs_setFld_mem t (by simp) _ _).trans
      (State.keepsRegs_setFld_mem (State.setSpareJob _ d b (1 + l)) (by simp) _ _))

/-! ## A port that is resized leaves PTD_SPARE -/

theorem State.fld_setPortState_of_offPorts (p st off : Nat) (f : Fld) (hf : f.offPorts = true) :
    (s.setPortState p st).fld off f = s.fld off f := by
  obtain ⟨hstate, hactive, hwidth, -⟩ := f.offPorts_iff.mp hf
  unfold State.setPortState
  split
  · exact s.fld_setFld_of_apart _ _ _ _ _ hstate
  · rw [State.fld_setFld_of_apart _ _ _ _ _ _ hwidth, State.fld_setFld_of_apart _ _ _ _ _ _ hactive, s.fld_setFld_of_apart _ _ _ _ _ hstate]

theorem State.fld_enterResize_of_offPorts (p lanes : Nat) (r100 own : Bool) (off : Nat) (f : Fld) (hf : f.offPorts = true)
    (he : off ≠ R.glbEscStat) : (s.enterResize p lanes r100 own).fld off f = s.fld off f := by
  obtain ⟨-, -, -, hlock, hlstate, -, -, hlost⟩ := f.offPorts_iff.mp hf
  unfold State.enterResize
  extract_lets st held change resized relocked told
  have hheld : held.fld off f = s.fld off f := by
    refine (State.fld_setPortState_of_offPorts _ _ _ _ _ hf).trans ?_
    split <;> rfl
  have hrelocked : relocked.fld off f = s.fld off f := by
    unfold relocked
    split
    · exact (resized.fld_relockPort_of_apart _ _ _ hlock hlstate).trans hheld
    · exact hheld
  have htold : told.fld off f = s.fld off f := by
    refine (State.fld_paintLanes _ _ _ _ hlstate).trans ?_
    split
    · exact ((relocked.tellPeer_touches p).fld rfl _ _).trans hrelocked
    · exact hrelocked
  split
  · rfl
  · split
    · exact htold
    · exact (State.fld_raise_of_apart _ _ _ _ hlost he).trans htold

/-! ## Commands to spares -/

theorem ptdSpare_ne_glbEscStat (d : Nat) : R.ptdSpare d ≠ R.glbEscStat := by
  simp only [R.ptdSpare, R.glbEscStat]
  omega

/-- A command to a spare that is refused sets CMD_REFUSED alone. -/
theorem State.spareRefused_facts (d : Nat) :
    (s.setFld (R.ptdSpare d) F.PtdSpare.cmdRefused 1).fld (R.ptdSpare d) F.PtdSpare.cmdRefused = 1
      ∧ s.keepsRegs (s.setFld (R.ptdSpare d) F.PtdSpare.cmdRefused 1) [R.ptdSpare d]
      ∧ s.keeps (s.setFld (R.ptdSpare d) F.PtdSpare.cmdRefused 1) [.regs] :=
  ⟨s.fld_setFld_fit _ _ 1 rfl (by decide), s.keepsRegs_setFld _ _ _, (s.setFld_touches _ _ _).keeps (Piece.testBit_of_outside rfl)⟩

theorem b2n_lt (b : Bool) : b2n b < 2 := by cases b <;> decide

section
variable {s} {w : Writer} {d : PDie} (hw : s.judge w d.val = .applied)
include hw

/-- TAKE: a free spare with a path starts to train for a lane that is bad. -/
theorem exec_take_of_free {l : Fin 32} {b : Bool} {p : Nat} (hfree : s.spareFree d.val (b2n b) = true)
    (hport : s.portOfLane d.val l.val = some p) (hpath : s.sparePath p (b2n b) = true)
    (hbad : s.laneBad d.val (s.physOf d.val l.val) = true) :
    exec (.take w d l b) s = .next (s.trainSpare d.val (b2n b) l.val) := by
  show execTake w d l b s = _
  simp [execTake, State.fenced_of_applied hw, hfree, hport, hpath, hbad]

/-- TAKE of a spare that is not free is refused. -/
theorem exec_take_of_not_free {l : Fin 32} {b : Bool} (hfree : s.spareFree d.val (b2n b) = false) :
    exec (.take w d l b) s = .next (s.setFld (R.ptdSpare d.val) F.PtdSpare.cmdRefused 1) := by
  show execTake w d l b s = _
  simp [execTake, State.fenced_of_applied hw, hfree]

theorem exec_spareRelease {b : Bool} :
    exec (.spareRelease w d b) s = .next
      (if s.spState d.val (b2n b) = 2 && s.spareJob d.val (b2n b) = 0 && !s.laneAbsent d.val (s.spFor d.val (b2n b)) then
        (s.setSpareJob d.val (b2n b) (65 + s.spFor d.val (b2n b))).setLstate d.val (s.spFor d.val (b2n b)) 3
      else s.setFld (R.ptdSpare d.val) F.PtdSpare.cmdRefused 1) :=
  congrArg Host.Outcome.next (State.fenced_of_applied hw _ _)

end

/-! ## The training of a spare ends (R118) -/

/-- A spare b of die d that is in service for lane l, its background training over. -/
def State.spareServes (d b l : Nat) : State :=
  let s := s.setSpareJob d b 0
  let old := s.physOf d l
  let s := (s.setFld (R.ptdSpare d) (spStateF b) 2).setFld (R.ptdSpare d) (spForF b) l
  let s := (s.setFld (laneStat d old) F.PtdLaneStat.logical 0x3F).setFld (laneStat d (32 + b)) F.PtdLaneStat.logical l
  (s.setLstate d (32 + b) 1).setFld (laneStat d (32 + b)) F.PtdLaneStat.sigDet 1

theorem State.spareServes_fld (d b l off : Nat) (f : Fld) (hf : f.offPorts = true) :
    (s.spareServes d b l).fld off f
      = (((s.setSpareJob d b 0).setFld (R.ptdSpare d) (spStateF b) 2).setFld (R.ptdSpare d) (spForF b) l).fld off f := by
  obtain ⟨-, -, -, -, hlstate, hlogical, hsig, -⟩ := f.offPorts_iff.mp hf
  rw [State.spareServes, State.fld_setFld_of_apart _ _ _ _ _ _ hsig, State.setLstate, State.fld_setFld_of_apart _ _ _ _ _ _ hlstate,
    State.fld_setFld_of_apart _ _ _ _ _ _ hlogical, State.fld_setFld_of_apart _ _ _ _ _ _ hlogical]

theorem State.spareServes_facts (d b l : Nat) (hl : l < 32) :
    (s.spareServes d b l).spState d b = 2 ∧ (s.spareServes d b l).spFor d b = l ∧ (s.spareServes d b l).spareJob d b = 0
      ∧ Touches 0x10008 s (s.spareServes d b l) := by
  have hspares : (s.spareServes d b l).spares = (s.setSpareJob d b 0).spares := rfl
  refine ⟨?_, ?_, (State.spareJob_of_spares hspares d b).trans (s.spareJob_setSpareJob d b 0), ?_⟩
  · refine (s.spareServes_fld d b l _ _ (spStateF_offPorts b)).trans ((State.fld_setFld_apart _ _ _ _ _ (spStateF_apart_spForF b)).trans ?_)
    exact State.spState_setFld _ _ _ _ (by decide)
  · exact (s.spareServes_fld d b l _ _ (spForF_offPorts b)).trans (State.spFor_setFld _ _ _ _ (by omega))
  · unfold State.spareServes State.setLstate
    refine Touches.setFld (Touches.setFld (Touches.setFld (Touches.setFld (Touches.setFld (Touches.setFld ?_ rfl) rfl) rfl) rfl) rfl) rfl
    exact (s.setSpareJob_touches d b 0).mono (by decide)

/-- The port of a lane that a spare has taken is resized, where it can have more lanes. -/
def State.spareWidens (d l : Nat) : State :=
  match s.portOfLane d l with
  | none => s
  | some p =>
    let rate : Bool := if s.portState p = 4 then s.fld (pStat p) F.PtdPortStat.rateNow = 1 else (s.port p).pend100
    if s.resizeBlock p = 0 then s else s.enterResize p (s.resizeBlock p) rate true

theorem State.spareWidens_none {d l : Nat} (h : s.portOfLane d l = none) : s.spareWidens d l = s := by
  rw [State.spareWidens, h]

theorem State.spareWidens_facts (d l e b : Nat) :
    (s.spareWidens d l).spState e b = s.spState e b ∧ (s.spareWidens d l).spFor e b = s.spFor e b
      ∧ (s.spareWidens d l).spareJob e b = s.spareJob e b := by
  unfold State.spareWidens
  split
  · exact ⟨rfl, rfl, rfl⟩
  · extract_lets rate
    split
    · exact ⟨rfl, rfl, rfl⟩
    · exact ⟨s.fld_enterResize_of_offPorts _ _ _ _ _ _ (spStateF_offPorts b) (ptdSpare_ne_glbEscStat e),
        s.fld_enterResize_of_offPorts _ _ _ _ _ _ (spForF_offPorts b) (ptdSpare_ne_glbEscStat e),
        State.spareJob_of_spares ((s.enterResize_touches _ _ _ _).same 16 rfl) e b⟩

/-- A spare b of die d whose training for a lane has failed. -/
def State.spareBroken (d b : Nat) : State := ((s.setSpareJob d b 0).setFld (R.ptdSpare d) (spStateF b) 3).setLstate d (32 + b) 5

theorem State.spareBroken_facts (d b : Nat) :
    (s.spareBroken d b).spState d b = 3 ∧ (s.spareBroken d b).lstate d (32 + b) = 5 ∧ (s.spareBroken d b).spareJob d b = 0
      ∧ s.keeps (s.spareBroken d b) [.regs, .spares] := by
  obtain ⟨-, -, -, -, hlstate, -⟩ := (spStateF b).offPorts_iff.mp (spStateF_offPorts b)
  have hspares : (s.spareBroken d b).spares = (s.setSpareJob d b 0).spares := rfl
  refine ⟨?_, State.lstate_setLstate _ _ _ _ (by decide), (State.spareJob_of_spares hspares d b).trans (s.spareJob_setSpareJob d b 0), ?_⟩
  · exact (State.fld_setFld_of_apart _ _ _ _ _ _ hlstate).trans (State.spState_setFld _ _ _ _ (by decide))
  · exact (Touches.setFld (Touches.setFld ((s.setSpareJob_touches d b 0).mono (m := 0x10008) (by decide)) rfl) rfl).keeps
      (Piece.testBit_of_outside rfl)

section
variable {s} {d : PDie} {b : Bool} {l : Nat} (hl : l < 32) (hjob : s.spareJob d.val (b2n b) = 1 + l)
include hl hjob

theorem exec_spareTrainingDone_ok :
    exec (.spareTrainingDone d b true) s = .next ((s.spareServes d.val (b2n b) l).spareWidens d.val l) := by
  show execSpareTrainingDone d b true s = _
  unfold execSpareTrainingDone
  simp only [hjob, Nat.add_sub_cancel_left]
  rw [if_neg (by omega), if_pos (by omega), if_pos trivial]
  rfl

theorem exec_spareTrainingDone_bad (hport : s.portOfLane d.val l = none) :
    exec (.spareTrainingDone d b false) s = .next (s.spareBroken d.val (b2n b)) := by
  have hnone : (s.spareBroken d.val (b2n b)).portOfLane d.val l = none := (State.portOfLane_of_img rfl _ _).trans hport
  show execSpareTrainingDone d b false s = _
  unfold execSpareTrainingDone
  simp only [hjob, Nat.add_sub_cancel_left]
  rw [if_neg (by omega), if_pos (by omega), if_neg Bool.false_ne_true]
  unfold State.spareBroken at hnone
  rw [hnone]
  rfl

end

end Sys2Proof.Machine
end

section
/-! What a port that is down keeps while the part works on others (R108, R153, R387): a port whose queues do not stand takes no packet. -/

namespace Sys2Proof.Machine

/-- A step keeps what a port that is down holds: its state, its empty queues while they do not stand, and its empty replay window. -/
structure KeepsDown (p : Nat) (s t : State) : Prop where
  state : t.portState p = s.portState p
  queue : s.portQueues p = false → ∀ c, c < 8 → s.queue (qKey p c) = [] → t.queue (qKey p c) = []
  unacked : (s.port p).unacked = [] → (t.port p).unacked = []

variable {s t u : State} {p : Nat}

theorem KeepsDown.refl (p : Nat) (s : State) : KeepsDown p s s := ⟨rfl, fun _ _ _ => id, id⟩

theorem State.portQueues_of_portState (h : t.portState p = s.portState p) : t.portQueues p = s.portQueues p := by
  rw [State.portQueues, State.portQueues, h]

theorem KeepsDown.trans (h : KeepsDown p s t) (h' : KeepsDown p t u) : KeepsDown p s u where
  state := h'.state.trans h.state
  queue hdown c hc hempty := h'.queue ((State.portQueues_of_portState h.state).trans hdown) c hc (h.queue hdown c hc hempty)
  unacked hempty := h'.unacked (h.unacked hempty)

/-- One operation after what came before. -/
theorem KeepsDown.step (h' : KeepsDown p t u) (h : KeepsDown p s t) : KeepsDown p s u := h.trans h'

theorem KeepsDown.foldl {α : Type} {f : State → α → State} (hf : ∀ s a, KeepsDown p s (f s a)) (l : List α) (s : State) :
    KeepsDown p s (l.foldl f s) := by
  induction l generalizing s with
  | nil => exact .refl p s
  | cons a l ih => exact (hf s a).trans (ih _)

/-! ## Steps that write no register, no queue and no port -/

theorem State.queue_of_bench (h : t.bench.queues = s.bench.queues) (q : Nat) : t.queue q = s.queue q := by
  rw [State.queue, State.queue, h]

theorem KeepsDown.of_same (hregs : t.regs = s.regs) (hports : t.ports = s.ports) (hqueues : t.bench.queues = s.bench.queues) :
    KeepsDown p s t where
  state := State.fld_of_regs hregs _ _
  queue _ c _ h := (State.queue_of_bench hqueues _).trans h
  unacked h := by rwa [State.port_of_ports hports]

theorem testBit_of_and_eq_zero {m k i : Nat} (h : m &&& k = 0) (hi : k.testBit i = true) : m.testBit i = false := by
  have hzero := congrArg (fun n : Nat => n.testBit i) h
  simpa [Nat.testBit_and, hi] using hzero

theorem KeepsDown.of_touches {m : Nat} (h : Touches m s t) (hm : m &&& 0x6008 = 0) : KeepsDown p s t := by
  have bit {i : Nat} (hi : Nat.testBit 0x6008 i = true) : m.testBit i = false := testBit_of_and_eq_zero hm hi
  exact .of_same (h.same 3 (bit (by decide))) (h.same 14 (bit (by decide))) (congrArg _ (h.same 13 (bit (by decide))))

/-- A step that writes no queue and no port, and leaves STATE of the port. -/
theorem KeepsDown.of_state {m : Nat} (h : Touches m s t) (hm : m &&& 0x6000 = 0) (hstate : t.portState p = s.portState p) :
    KeepsDown p s t where
  state := hstate
  queue _ c _ hempty := (State.queue_of_bench (congrArg _ (h.same 13 (testBit_of_and_eq_zero hm (by decide)))) _).trans hempty
  unacked hempty := by rwa [State.port_of_ports (h.same 14 (testBit_of_and_eq_zero hm (by decide)))]

theorem KeepsDown.withBench {f : BenchSt → BenchSt} (s : State) (hf : (f s.bench).queues = s.bench.queues) : KeepsDown p s (s.withBench f) :=
  .of_same rfl rfl hf

theorem KeepsDown.setPort (s : State) (q : Nat) {f : PortSt → PortSt} (hf : ∀ x : PortSt, x.unacked = [] → (f x).unacked = []) :
    KeepsDown p s (s.setPort q f) where
  state := rfl
  queue _ _ _ h := h
  unacked h := by
    by_cases hq : p = q
    · subst hq
      rw [State.port_setPort_same]
      exact hf _ h
    · rwa [State.port_setPort_ne _ _ _ _ hq]

theorem State.queue_setQueue_same (s : State) (q : Nat) (l : List Pkt) : (s.setQueue q l).queue q = l := by
  simp [State.queue, State.setQueue, State.withBench]
theorem State.queue_setQueue_ne (s : State) {q k : Nat} (l : List Pkt) (h : k ≠ q) : (s.setQueue q l).queue k = s.queue k :=
  Tbl.get_set_ne _ _ _ _ _ h

/-- A queue that is replaced by one with no packet that was not there. -/
theorem KeepsDown.setQueue (s : State) (q : Nat) {l : List Pkt} (hl : s.queue q = [] → l = []) : KeepsDown p s (s.setQueue q l) where
  state := rfl
  queue _ c _ h := by
    by_cases hq : qKey p c = q
    · subst hq
      rw [State.queue_setQueue_same]
      exact hl h
    · rwa [State.queue_setQueue_ne _ _ hq]
  unacked h := h

/-! ## Registers -/

/-- A write of a field that is no part of STATE of the port. -/
theorem KeepsDown.setFld (s : State) {off : Nat} {f : Fld} (x : Nat)
    (h : pStat p ≠ off ∨ F.PtdPortStat.state.apart f = true) : KeepsDown p s (s.setFld off f x) where
  state := by
    rcases h with h | h
    · exact s.fld_setFld_ne _ _ _ _ _ h
    · exact s.fld_setFld_of_apart _ _ _ _ _ h
  queue _ _ _ h := h
  unacked h := h

theorem KeepsDown.count (s : State) {off : Nat} {f : Fld} (h : pStat p ≠ off ∨ F.PtdPortStat.state.apart f = true) :
    KeepsDown p s (s.count off f) := .setFld s _ h

end Sys2Proof.Machine
end

section
/-! Packets that are dropped, pushed out or changed, and credits that are returned, keep a port that is down (R136, R139, R148, R153). -/

namespace Sys2Proof.Machine

variable {p : Nat}

/-- The registers of the lathe dies and of the benches lie above those of the port dies. -/
theorem pStat_ne_of_high {off : Nat} (hp : p < 1024) (h : 0x01400000 ≤ off) : pStat p ≠ off := by
  simp only [pStat, R.ptdPortStat]
  omega

theorem pStat_ne_of_low {off : Nat} (h : off < 0x01000000) : pStat p ≠ off := by
  simp only [pStat, R.ptdPortStat]
  omega

theorem qdropReg_high (q : Nat) : 0x01400000 ≤ qdropReg q := by
  simp only [qdropReg, R.bchQdrop]
  omega

theorem bchShavStat_high (d : Nat) : 0x01400000 ≤ R.bchShavStat d := by
  simp only [R.bchShavStat]
  omega

/-! ## Grains -/

theorem keepsDown_setGrain (s : State) (ptr : Nat) (g : GrainSt) : KeepsDown p s (s.setGrain ptr g) := .withBench s rfl

theorem keepsDown_unref (s : State) (ptr : Nat) : KeepsDown p s (s.unref ptr) := by
  unfold State.unref
  extract_lets g
  split
  · exact keepsDown_setGrain _ _ _
  · exact keepsDown_setGrain _ _ _

theorem keepsDown_unrefAll (s : State) (l : List Nat) : KeepsDown p s (s.unrefAll l) := .foldl keepsDown_unref l s

theorem keepsDown_releasePkt (s : State) (k : Pkt) : KeepsDown p s (s.releasePkt k) :=
  (keepsDown_unrefAll s k.grains).trans (.of_same rfl rfl rfl)

/-! ## Packets that leave their queues -/

section
variable (hp : p < 1024)
include hp

theorem keepsDown_captureDrop (s : State) (k : Pkt) (cause reason : Nat) (q : Option Nat) :
    KeepsDown p s (s.captureDrop k cause reason q) := by
  have hreg (d : Nat) : pStat p ≠ R.bchShavStat d := pStat_ne_of_high hp (bchShavStat_high d)
  unfold State.captureDrop
  split
  · unfold State.capturePkt
    extract_lets d half leader now last seq arch noted depth body entry stored counted
    have hnoted : KeepsDown p s noted := .withBench s rfl
    split
    · exact .count s (.inl (hreg leader))
    · split
      · exact hnoted.trans (.count noted (.inl (hreg leader)))
      · have hstored : KeepsDown p s stored := hnoted.trans (.withBench noted rfl)
        have hcounted : KeepsDown p s counted := hstored.trans (.withBench stored rfl)
        exact hcounted.trans (.setFld counted _ (.inl (hreg leader)))
  · exact .refl p s

theorem keepsDown_dropQueued (s : State) (q : Nat) (k : Pkt) (f : Fld) (cause : Nat) : KeepsDown p s (s.dropQueued q k f cause) :=
  (keepsDown_captureDrop hp s k cause 0 (some q)).trans
    ((keepsDown_releasePkt _ k).trans (.count _ (.inl (pStat_ne_of_high hp (qdropReg_high q)))))

theorem keepsDown_flushList (s : State) (q : Nat) (l : List Pkt) : KeepsDown p s (s.flushList q l) :=
  .foldl (fun s k => keepsDown_dropQueued hp s q k _ _) l s

theorem keepsDown_flushQueue (s : State) (q : Nat) : KeepsDown p s (s.flushQueue q) :=
  (KeepsDown.setQueue s q (fun _ => rfl)).trans ((KeepsDown.withBench _ rfl).trans (keepsDown_flushList hp _ q _))

omit hp in
theorem keepsDown_unlinkPkt (s : State) (q uid : Nat) : KeepsDown p s (s.unlinkPkt q uid) := by
  unfold State.unlinkPkt
  extract_lets keep t
  have ht : KeepsDown p s t := (KeepsDown.setQueue s q (by simp +contextual [keep])).trans (.withBench _ rfl)
  exact ht.trans (.setPort t _ (fun _ h => h))

theorem keepsDown_run (pool c need n : Nat) (w : PushOut) : KeepsDown p w.st (PushOut.run pool c need n w).2.st := by
  induction n generalizing w with
  | zero => exact .refl p w.st
  | succ n ih =>
    unfold PushOut.run
    split
    · exact .refl p w.st
    · split
      · exact .refl p w.st
      next q _ =>
      split
      · exact .refl p w.st
      next k _ =>
      extract_lets gain
      split
      · have haged : KeepsDown p w.st ((w.st.unlinkPkt q k.uid).dropAged q k) :=
          .step (keepsDown_dropQueued hp _ q k _ _) (keepsDown_unlinkPkt w.st q k.uid)
        exact haged.trans (ih ⟨(w.st.unlinkPkt q k.uid).dropAged q k, w.victims, w.freed + gain⟩)
      · split
        · exact .refl p w.st
        · exact ih ⟨w.st, w.victims ++ [(q, k)], w.freed + gain⟩

theorem keepsDown_pushOut (s : State) (pool c need : Nat) : KeepsDown p s (s.pushOut pool c need).2 := by
  have hrun := keepsDown_run hp pool c need (s.descUsed (pool / 32) + 5) ⟨s, [], 0⟩
  unfold State.pushOut
  extract_lets total
  split
  next ok w hw =>
  rw [hw] at hrun
  split
  · refine hrun.trans (.foldl (fun s (v : Nat × Pkt) => ?_) w.victims w.st)
    exact .step (keepsDown_dropQueued hp _ _ _ _ _) (keepsDown_unlinkPkt s v.1 v.2.uid)
  · exact hrun

/-! ## Credits -/

theorem keepsDown_admitAlloc (s : State) (pool n : Nat) : KeepsDown p s (s.admitAlloc pool n).2 := by
  unfold State.admitAlloc
  extract_lets occ hard
  split
  · exact .refl p s
  · exact .refl p s
  · exact .refl p s
  · split
    · exact .refl p s
    · exact keepsDown_pushOut hp s _ _ _
  · split
    · exact .refl p s
    · split
      · exact keepsDown_pushOut hp s _ _ _
      · exact .refl p s

theorem keepsDown_reserveOne (s : State) (port : Nat) : KeepsDown p s (s.reserveOne port).2 := by
  unfold State.reserveOne
  extract_lets k
  split
  · exact .refl p s
  · split
    · exact .refl p s
    · have hadmit := keepsDown_admitAlloc hp s k 1
      split
      next ok t ht =>
      rw [ht] at hadmit
      split
      · exact hadmit.trans (.of_same rfl rfl rfl)
      · exact hadmit

omit hp in
theorem keepsDown_giveCredits (s : State) (port tc n : Nat) : KeepsDown p s (s.giveCredits port tc n) := by
  unfold State.giveCredits
  split
  · exact .refl p s
  · extract_lets t
    have ht : KeepsDown p s t := .setPort s port (fun _ h => h)
    split
    · exact ht.trans (.of_touches (t.emit_touches _) rfl)
    · exact ht

theorem keepsDown_reserveCredits (s : State) (port tc n : Nat) : KeepsDown p s (s.reserveCredits port tc n) := by
  induction n generalizing s with
  | zero => exact .refl p s
  | succ n ih =>
    have hone := keepsDown_reserveOne hp s port
    unfold State.reserveCredits
    split
    next ok t ht =>
    rw [ht] at hone
    split
    · exact .step (ih _) (.step (keepsDown_giveCredits _ _ _ _) (.step (.setPort t port (fun _ h => h)) hone))
    · exact hone

theorem keepsDown_returnCredits (s : State) (port tc n : Nat) : KeepsDown p s (s.returnCredits port tc n) := by
  unfold State.returnCredits
  split
  · exact .step (keepsDown_reserveCredits hp _ _ _ _) (.setPort s port (fun _ h => h))
  · exact keepsDown_giveCredits s _ _ _

/-! ## Arrivals -/

omit hp in
theorem keepsDown_updatePkt (s : State) (port tc uid : Nat) (f : Pkt → Pkt) : KeepsDown p s (s.updatePkt port tc uid f) := by
  unfold State.updatePkt
  extract_lets g q queued released
  have hqueued : KeepsDown p s queued := .setQueue s q (by simp +contextual)
  have hreleased : KeepsDown p s released := hqueued.trans (.withBench queued rfl)
  exact hreleased.trans (.setPort released port (fun _ h => h))

omit hp in
theorem keepsDown_forwardGrain (s : State) (a : Arriving) (word bytes : Nat) : KeepsDown p s (s.forwardGrain a word bytes) := by
  unfold State.forwardGrain
  extract_lets k n len bits
  split
  · exact .refl p s
  · extract_lets
    split
    · exact (keepsDown_setGrain s _ _).trans (.of_touches (State.setColl_touches _ _ _) rfl)
    · exact (keepsDown_setGrain s _ _).trans (keepsDown_updatePkt _ _ _ _ _)

omit hp in
theorem keepsDown_supplyGrains (s : State) (a : Arriving) (n : Nat) : KeepsDown p s (s.supplyGrains a n).2 := by
  induction n generalizing s a with
  | zero => exact .refl p s
  | succ n ih =>
    unfold State.supplyGrains
    extract_lets w len t
    have ht : KeepsDown p s t := by
      unfold t
      split
      · exact .refl p s
      · split
        · exact .of_touches (s.emit_touches _) rfl
        · exact keepsDown_forwardGrain s _ _ _
    exact ht.trans (ih t _)

omit hp in
theorem pStat_ne_ptdPktCnt0 (d l : Nat) : pStat p ≠ R.ptdPktCnt0 d (l % 32) := by
  simp only [pStat, R.ptdPortStat, R.ptdPktCnt0]
  omega

theorem keepsDown_endFrame (s : State) (port tc : Nat) (a : Arriving) : KeepsDown p s (s.endFrame port tc a).2 := by
  unfold State.endFrame
  extract_lets n t
  have ht : KeepsDown p s t := by
    unfold t
    split
    · exact .refl p s
    · exact .count s (.inl (pStat_ne_ptdPktCnt0 _ _))
  have hsupply := keepsDown_supplyGrains (p := p) t a (n - a.next)
  split
  next b u hu =>
  rw [hu] at hsupply
  exact ht.trans (hsupply.trans (keepsDown_returnCredits hp u _ _ _))

omit hp in
theorem keepsDown_setArrival (s : State) (k : Nat) (a : Arriving) : KeepsDown p s (s.setArrival k a) := .of_same rfl rfl rfl

theorem keepsDown_frameEnds (s : State) (port tc : Nat) : KeepsDown p s (s.frameEnds port tc) := by
  unfold State.frameEnds
  extract_lets k
  split
  · exact .refl p s
  · split
    · exact keepsDown_setArrival s _ _
    · exact (keepsDown_endFrame hp s port tc _).trans (keepsDown_setArrival _ _ _)

theorem keepsDown_failArrivals (s : State) (port : Nat) : KeepsDown p s (s.failArrivals port) := by
  refine .foldl (fun s tc => .foldl (fun s a => ?_) _ s) _ s
  split
  · exact keepsDown_setArrival s _ _
  · exact (keepsDown_setArrival s _ _).trans (keepsDown_frameEnds hp _ port tc)

/-! ## A port whose queues go -/

omit hp in
theorem keepsDown_unreserve (s : State) (port tc n : Nat) : KeepsDown p s (s.unreserve port tc n) := by
  unfold State.unreserve
  split
  · exact .withBench s rfl
  · exact .refl p s

omit hp in
theorem pStat_ne_ptdReordCtl (d : Nat) : pStat p ≠ R.ptdReordCtl d := by
  simp only [pStat, R.ptdPortStat, R.ptdReordCtl]
  omega

omit hp in
theorem keepsDown_showHeld (s : State) (d : Nat) : KeepsDown p s (s.showHeld d) :=
  (KeepsDown.setFld s _ (.inl (pStat_ne_ptdReordCtl d))).trans (.setFld _ _ (.inl (pStat_ne_ptdReordCtl d)))

/-- What follows the flush of a port's eight queues. -/
theorem keepsDown_flushPort_of_queues (s : State) (port : Nat) :
    KeepsDown p ((List.range 8).foldl (fun s tc => s.flushQueue (qKey port tc)) s) (s.flushPort port) := by
  unfold State.flushPort
  extract_lets x queues frames given
  have hframes : KeepsDown p queues frames := by
    refine .foldl (fun s (u : Nat × Pkt) => ?_) x.unacked queues
    exact keepsDown_dropQueued hp s _ _ _ _
  have hgiven : KeepsDown p queues given := hframes.trans (.foldl (fun s tc => keepsDown_unreserve s port tc _) _ _)
  exact .step (keepsDown_showHeld _ _) (.step (.setPort given port (fun _ _ => rfl)) hgiven)

theorem keepsDown_flushPort (s : State) (port : Nat) : KeepsDown p s (s.flushPort port) :=
  (KeepsDown.foldl (fun s tc => keepsDown_flushQueue hp s (qKey port tc)) _ s).trans (keepsDown_flushPort_of_queues hp s port)

/-- A queue of a port that is down is empty once it is flushed. -/
theorem queue_flushQueue_of_down (s : State) (c : Nat) (hdown : s.portQueues p = false) (hc : c < 8) :
    (s.flushQueue (qKey p c)).queue (qKey p c) = [] :=
  (KeepsDown.step (keepsDown_flushList hp _ _ _) (.withBench _ rfl) : KeepsDown p (s.setQueue (qKey p c) []) (s.flushQueue (qKey p c))).queue
    hdown c hc (State.queue_setQueue_same _ _ _)

theorem queue_flushQueues_of_down (l : List Nat) (s : State) (c : Nat) (hdown : s.portQueues p = false) (hc : c < 8) (hmem : c ∈ l) :
    (l.foldl (fun s tc => s.flushQueue (qKey p tc)) s).queue (qKey p c) = [] := by
  induction l generalizing s with
  | nil => exact absurd hmem (by simp)
  | cons tc l ih =>
    have hstep := keepsDown_flushQueue hp s (qKey p tc)
    have hdown' : (s.flushQueue (qKey p tc)).portQueues p = false := (State.portQueues_of_portState hstep.state).trans hdown
    rcases List.mem_cons.mp hmem with rfl | hmem
    · exact (KeepsDown.foldl (fun s tc => keepsDown_flushQueue hp s (qKey p tc)) l _).queue hdown' c hc
        (queue_flushQueue_of_down hp s c hdown hc)
    · exact ih _ hdown' hmem

/-- A port that is down has no packet left once it is flushed. -/
theorem queue_flushPort_of_down (s : State) (c : Nat) (hdown : s.portQueues p = false) (hc : c < 8) :
    (s.flushPort p).queue (qKey p c) = [] :=
  have hstate := (KeepsDown.foldl (fun s tc => keepsDown_flushQueue hp s (qKey p tc)) (List.range 8) s).state
  (keepsDown_flushPort_of_queues hp s p).queue ((State.portQueues_of_portState hstate).trans hdown) c hc
    (queue_flushQueues_of_down hp _ s c hdown hc (List.mem_range.mpr hc))

omit hp in
theorem unacked_flushPort (s : State) (port : Nat) : ((s.flushPort port).port port).unacked = [] := by
  unfold State.flushPort
  extract_lets x queues frames given
  refine (keepsDown_showHeld (p := port) _ _).unacked ?_
  rw [State.port_setPort_same]

end

end Sys2Proof.Machine
end

section
/-! Calls that end, contexts that fault and events that are posted keep a port that is down (R153, R286, R391, R394). -/

namespace Sys2Proof.Machine

variable {p : Nat}

/-! ## Records and events -/

theorem keepsDown_raise (s : State) (r : ErrRec) : KeepsDown p s (s.raise r) :=
  .of_state (s.raise_touches r) rfl (s.fld_raise_of_apart _ _ _ rfl (pStat_ne_glbEscStat p))

section
variable (hp : p < 1024)
include hp

/-- The host's mailboxes lie outside the registers of the port dies. -/
theorem pStat_ne_fnReg (fn off : Nat) (hoff : off < 0x01000000) : pStat p ≠ fnReg fn off := by
  simp only [pStat, R.ptdPortStat, fnReg, fnBank]
  rcases fn.eq_zero_or_pos with rfl | hfn <;> omega

omit hp in
theorem keepsDown_wr (s : State) (off : Nat) (v : W64) (h : pStat p ≠ off) : KeepsDown p s (s.wr off v) where
  state := State.fld_of_rd (s.rd_wr_ne _ _ _ h) _
  queue _ _ _ h := h
  unacked h := h

theorem keepsDown_f2hPut (s : State) (fn i : Nat) (v : W64) (hi : i < 16) : KeepsDown p s (s.f2hPut fn i v) := by
  unfold State.f2hPut
  extract_lets full
  refine .step (.setFld _ _ (.inl (pStat_ne_fnReg hp fn _ (by decide)))) (keepsDown_wr s _ v (pStat_ne_fnReg hp fn _ ?_))
  simp only [R.mbxF2h]
  omega

theorem keepsDown_post (s : State) (e : MgmtEvent) : KeepsDown p s (s.post e) := by
  unfold State.post
  extract_lets seq depth base err numbered stored told
  have hnumbered : KeepsDown p s numbered := .of_same rfl rfl rfl
  have hstored : KeepsDown p s stored := by
    unfold stored
    split
    · exact hnumbered
    · exact .step (.of_touches (numbered.nearWrite_touches _ _) rfl) hnumbered
  have htold : KeepsDown p s told := by
    unfold told
    split
    next i hi =>
      exact .step (keepsDown_f2hPut hp _ _ _ _ (List.mem_range.mp (List.mem_of_find?_eq_some hi))) hstored
    next => exact hstored
  split
  · exact .step (.of_touches (told.i3cEvent_touches _ _) rfl) htold
  · exact htold

/-! ## Packets that the part makes -/

omit hp in
theorem qKey_inj {a b c d : Nat} (hb : b < 8) (hd : d < 8) (h : qKey a b = qKey c d) : a = c := by
  simp only [qKey] at h
  omega

theorem keepsDown_linkHeld (s : State) (k : Pkt) (htc : k.tc < 8) : KeepsDown p s (s.linkHeld k) := by
  unfold State.linkHeld
  extract_lets q queued
  split
  · exact .step (.count _ (.inl (pStat_ne_of_high hp (qdropReg_high q))))
      (.step (keepsDown_unrefAll _ _) (keepsDown_captureDrop hp s k 6 0 (some q)))
  · split
    · exact .withBench s rfl
    next hstand _ =>
      refine .step (.withBench queued rfl) ⟨rfl, fun hdown c hc hempty => ?_, id⟩
      by_cases hq : qKey p c = q
      · have hport : p = k.outPort := qKey_inj hc htc hq
        simp [← hport, hdown] at hstand
      · exact (State.queue_setQueue_ne _ _ hq).trans hempty

theorem keepsDown_linkGenerated (s : State) (k : Pkt) (htc : k.tc < 8) : KeepsDown p s (s.linkGenerated k) := by
  unfold State.linkGenerated
  extract_lets q
  split
  · exact .step (.count _ (.inl (pStat_ne_of_high hp (qdropReg_high q)))) (keepsDown_captureDrop hp s k 6 0 (some q))
  · refine .step (keepsDown_linkHeld hp _ k htc) (.foldl (fun s g => ?_) k.grains s)
    exact keepsDown_setGrain s g _

theorem keepsDown_sendEvent (s : State) (c : Nat) (dst : Dest) (payload : Nat) : KeepsDown p s (s.sendEvent c dst payload) := by
  unfold State.sendEvent
  extract_lets x j stamp send
  have hsend (port dr sr cx : Nat) (epid : Option Nat) : KeepsDown p s (send port dr sr cx epid) :=
    keepsDown_linkGenerated hp s _ (by decide : 6 < 8)
  split
  · exact hsend _ _ _ _ _
  · split
    · exact .of_touches (s.emit_touches _) rfl
    · exact hsend _ _ _ _ _
  · split
    · exact .of_touches (s.emit_touches _) rfl
    · exact hsend _ _ _ _ _

/-! ## Calls that end (R279, R286) -/

omit hp in
theorem keepsDown_releaseNotices (s : State) (l : List Notice) : KeepsDown p s (s.releaseNotices l) := by
  refine .foldl (fun s n => ?_) l s
  unfold State.releaseNotice
  split
  · exact keepsDown_unref s _
  · exact .refl p s

omit hp in
theorem keepsDown_clearCall (s : State) (c : Nat) : KeepsDown p s (s.clearCall c) := by
  unfold State.clearCall
  extract_lets x q noticed formed nextIn
  have hnoticed : KeepsDown p s noticed := keepsDown_releaseNotices s _
  have hformed : KeepsDown p s formed := hnoticed.trans (.foldl (fun s f => keepsDown_unref s _) _ _)
  exact .step (.of_touches (formed.setColl_touches _ _) rfl) hformed

theorem pStat_ne_ltdCollStat (d : Nat) : pStat p ≠ R.ltdCollStat d := pStat_ne_of_high hp (by simp only [R.ltdCollStat]; omega)

theorem keepsDown_endCall (s : State) (c status flags : Nat) : KeepsDown p s (s.endCall c status flags) := by
  unfold State.endCall
  split
  · exact .refl p s
  · split
    · exact .step (keepsDown_clearCall _ c) (.of_touches (s.putRec_touches _ _ _ _) rfl)
    · extract_lets x d call now paced dig flags nfl slip miss sealWord dg body stored counted nextIn payload vote
      have hstored : KeepsDown p s stored := .of_touches (s.nearWrite_touches _ _) rfl
      have hcounted : KeepsDown p s counted := by
        unfold counted
        split
        · exact .step (.count stored (.inl (pStat_ne_ltdCollStat hp _))) hstored
        · exact hstored
      split
      extract_lets tabled tallied votePayload noticed offered voted closed kept advanced
      have htallied : KeepsDown p s tallied := by
        unfold tallied
        split
        · exact .step (keepsDown_post hp _ _) (.step (.of_touches (counted.nearWrite_touches _ _) rfl) hcounted)
        · exact hcounted
      have hnoticed : KeepsDown p s noticed := by
        refine htallied.trans (.foldl (fun s t => ?_) _ _)
        extract_lets sent
        have hsent : KeepsDown p s sent := keepsDown_sendEvent hp s _ _ _
        split
        · exact .step (keepsDown_sendEvent hp sent _ _ _) hsent
        · exact hsent
      have hoffered : KeepsDown p s offered := hnoticed.trans (.foldl (fun s t => keepsDown_sendEvent hp s c t _) _ _)
      have hvoted : KeepsDown p s voted := by
        unfold voted
        split
        · exact hoffered.trans (.foldl (fun s t => keepsDown_sendEvent hp s c t _) _ _)
        · exact hoffered
      have hclosed : KeepsDown p s closed := by
        unfold closed
        split
        · exact .step (keepsDown_sendEvent hp voted _ _ _) hvoted
        · exact hvoted
      have hkept : KeepsDown p s kept := .step (.of_touches (closed.setColl_touches _ _) rfl) hclosed
      have hadvanced : KeepsDown p s advanced := .step (.of_touches (kept.putRec_touches _ _ _ _) rfl) hkept
      exact .step (keepsDown_clearCall advanced c) hadvanced

/-! ## A context leaves its lathe and faults (R216, R218, R378) -/

omit hp in
theorem svJobHit_low (r : CtxRec) : R.svJobHit (recJob r) < 0x01000000 := by
  have hjob : recJob r < 2 ^ 16 := Nat.mod_lt _ (by decide)
  simp only [R.svJobHit]
  omega

theorem pStat_ne_ltSlot (k i : Nat) : pStat p ≠ ltSlot k i := pStat_ne_of_high hp (by simp only [ltSlot, R.ltSlot]; omega)

theorem keepsDown_chargeGrant (s : State) (k : Nat) : KeepsDown p s (s.chargeGrant k) := by
  unfold State.chargeGrant
  split
  · exact .refl p s
  next c _ =>
  extract_lets d timed counted recorded j was charged
  have htimed : KeepsDown p s timed := .of_touches (s.setLathe_touches _ _) rfl
  have hcounted : KeepsDown p s counted := by
    unfold counted
    split
    · exact .step (.setFld timed _ (.inl (pStat_ne_ltSlot hp _ _))) htimed
    · exact htimed
  have hrecorded : KeepsDown p s recorded := .step (.of_touches (counted.putRec_touches _ _ _ _) rfl) hcounted
  have hcharged : KeepsDown p s charged := .step (.of_touches (recorded.setJob_touches _ _) rfl) hrecorded
  split
  · exact .step (.count _ (.inl (pStat_ne_of_low (svJobHit_low _)))) (.step (.of_touches (charged.setJob_touches _ _) rfl) hcharged)
  · exact hcharged

theorem keepsDown_leavePipe (s : State) (k c : Nat) : KeepsDown p s (s.leavePipe k c) := by
  unfold State.leavePipe
  extract_lets left
  have hleft : KeepsDown p s left := .of_touches (s.setLathe_touches _ _) rfl
  split
  · exact .step (.of_touches (State.grantNext_touches _ _) rfl)
      (.step (.of_touches (State.setLathe_touches _ _ _) rfl) (.step (keepsDown_chargeGrant hp left k) hleft))
  · exact hleft

omit hp in
theorem keepsDown_dropAllocs (s : State) (c : Nat) : KeepsDown p s (s.dropAllocs c) := by
  unfold State.dropAllocs
  extract_lets mine freed
  have hfreed : KeepsDown p s freed := .foldl (fun s g => keepsDown_setGrain s _ _) _ s
  exact .step (.withBench freed rfl) hfreed

theorem keepsDown_dropMove (s : State) (c : Nat) : KeepsDown p s (s.dropMove c) := by
  unfold State.dropMove
  extract_lets idled
  have hidled : KeepsDown p s idled := by
    unfold idled
    split
    · exact .setFld s _ (.inl (pStat_ne_of_high hp (by simp only [R.ltdCtxStat]; omega)))
    · exact .refl p s
  unfold State.endMove
  extract_lets freed
  have hfreed : KeepsDown p s freed := by
    unfold freed
    split
    · exact .step (.setFld idled _ (.inl (pStat_ne_of_high hp (by simp only [ltStat, R.ltStat]; omega)))) hidled
    · exact hidled
  exact .step (.of_touches (freed.setCtx_touches _ _) rfl) hfreed

theorem keepsDown_faultRegs (s : State) (d l c code now : Nat) (at_ : FaultAt) : KeepsDown p s (s.faultRegs d l c code now at_) := by
  have hlast : pStat p ≠ R.ltFaultLast d l := pStat_ne_of_high hp (by simp only [R.ltFaultLast]; omega)
  have haddr : pStat p ≠ R.ltFaultAddr d l := pStat_ne_of_high hp (by simp only [R.ltFaultAddr]; omega)
  unfold State.faultRegs
  split
  · exact .refl p s
  · extract_lets last who what slot at_pc stamped addr valid written window size
    have hstamped : KeepsDown p s stamped :=
      .step (.setFld at_pc _ (.inl hlast)) (.step (.setFld slot _ (.inl hlast)) (.step (.setFld what _ (.inl hlast))
        (.step (.setFld who _ (.inl hlast)) (.setFld s _ (.inl hlast)))))
    have hvalid : KeepsDown p s valid := .step (.setFld stamped _ (.inl haddr)) hstamped
    split
    · exact .step (.setFld size _ (.inl haddr)) (.step (.setFld window _ (.inl haddr)) (.step (.setFld written _ (.inl haddr))
        (.step (.setFld valid _ (.inl haddr)) hvalid)))
    · exact hvalid

theorem keepsDown_faultReport (s : State) (c code : Nat) (at_ : FaultAt) (lathe : Option Nat) :
    KeepsDown p s (s.faultReport c code at_ lathe) := by
  unfold State.faultReport
  extract_lets x now reported notice
  have hreported : KeepsDown p s reported := by
    unfold reported
    split
    · exact .refl p s
    next k =>
      extract_lets counted
      have hcounted : KeepsDown p s counted :=
        .step (.count _ (.inl (pStat_ne_of_high hp (by simp only [R.ltFaultStat]; omega)))) (keepsDown_faultRegs hp s _ _ _ _ _ _)
      exact .step (keepsDown_raise counted _) hcounted
  exact hreported.trans (.foldl (fun s t => keepsDown_sendEvent hp s c t notice) _ reported)

theorem keepsDown_faultOne (s : State) (c code : Nat) (at_ : FaultAt) : KeepsDown p s (s.faultOne c code at_) := by
  unfold State.faultOne
  extract_lets x st left freed cleared dropped faulted kept reported noticed emptied
  split
  · exact .refl p s
  · have hleft : KeepsDown p s left := by
      unfold left
      split
      · exact keepsDown_leavePipe hp s _ _
      · exact .refl p s
    have hfreed : KeepsDown p s freed := hleft.trans (.foldl (fun s f => keepsDown_unref s _) _ _)
    have hcleared : KeepsDown p s cleared := .step (.of_touches (freed.setColl_touches _ _) rfl) hfreed
    have hdropped : KeepsDown p s dropped := .step (.of_touches (State.setCtx_touches _ _ _) rfl)
      (.step (keepsDown_dropMove hp _ c) (.step (keepsDown_dropAllocs cleared c) hcleared))
    have hfaulted : KeepsDown p s faulted := .step (.of_touches (State.putRec_touches _ _ _ _ _) rfl)
      (.step (.of_touches (dropped.setCtxState_touches _ _) rfl) hdropped)
    have hkept : KeepsDown p s kept := by
      unfold kept
      split
      · exact hfaulted
      · exact .step (.of_touches (State.putRec_touches _ _ _ _ _) rfl) (.step (.of_touches (faulted.putRec_touches _ _ _ _) rfl) hfaulted)
    have hreported : KeepsDown p s reported := .step (keepsDown_faultReport hp kept _ _ _ _) hkept
    have hnoticed : KeepsDown p s noticed := .step (keepsDown_releaseNotices reported _) hreported
    have hemptied : KeepsDown p s emptied := .step (.of_touches (noticed.setColl_touches _ _) rfl) hnoticed
    exact .step (keepsDown_endCall hp emptied _ _ _) hemptied

/-- A fault other than 9 stops the context and its partners, and no job. -/
theorem keepsDown_fault (s : State) (c code : Nat) (at_ : FaultAt) (hcode : code ≠ 9) : KeepsDown p s (s.fault c code at_) := by
  unfold State.fault
  extract_lets x st grp first all
  split
  · exact .refl p s
  · exact (keepsDown_faultOne hp s c code at_).trans (.foldl (fun s i => keepsDown_faultOne hp s i _ _) _ _)

/-! ## Calls of a port that has gone (R272, R286) -/

theorem keepsDown_replay (s : State) (c : Nat) : KeepsDown p s (s.replay c) := by
  unfold State.replay
  extract_lets x left live paced restarted told opened
  have hleft : KeepsDown p s left := by
    unfold left
    split
    · exact keepsDown_leavePipe hp s _ _
    · exact .refl p s
  split
  · refine .step (keepsDown_fault hp _ _ _ _ (by decide)) ?_
    split
    · exact .step (.of_touches (left.setCtxState_touches _ _) rfl) hleft
    · exact hleft
  · have hrestarted : KeepsDown p s restarted := .step (.of_touches (left.setCtx_touches _ _) rfl) hleft
    have htold : KeepsDown p s told := .step (.of_touches (restarted.setColl_touches _ _) rfl) hrestarted
    have hopened : KeepsDown p s opened := by
      unfold opened
      split
      · exact .step (.of_touches (told.openCall_touches _ _) rfl) htold
      · exact htold
    exact .step (.of_touches (opened.setCtxState_touches _ _) rfl) hopened

theorem keepsDown_reopen (s : State) (c : Nat) : KeepsDown p s (s.reopen c) := by
  unfold State.reopen
  extract_lets st
  split
  · exact keepsDown_replay hp s c
  · exact .refl p s

theorem keepsDown_endAndReopen (s : State) (c status flags : Nat) : KeepsDown p s (s.endAndReopen c status flags) := by
  unfold State.endAndReopen
  extract_lets grp own all
  have hown : KeepsDown p s own := keepsDown_endCall hp s _ _ _
  have hall : KeepsDown p s all := hown.trans (.foldl (fun s i => keepsDown_endCall hp s i _ _) grp own)
  exact (hall.trans (keepsDown_reopen hp all c)).trans (.foldl (keepsDown_reopen hp) grp _)

theorem keepsDown_portAbort (s : State) (port : Nat) : KeepsDown p s (s.portAbort port) := by
  refine .foldl (fun s c => ?_) _ s
  split
  · exact keepsDown_endAndReopen hp s _ _ _
  · exact .refl p s

end

end Sys2Proof.Machine
end

section
/-! A quad that is reset takes its ports down and leaves them so (R108, R387). -/

namespace Sys2Proof.Machine

variable {p : Nat}

/-! ## What the operations on a port keep of a port that is down -/

section
variable (hp : p < 1024)
include hp

theorem keepsDown_portEvent (s : State) (q kind : Nat) : KeepsDown p s (s.portEvent q kind) := keepsDown_post hp s _

omit hp in
theorem keepsDown_portRecord (s : State) (q e : Nat) : KeepsDown p s (s.portRecord q e) := keepsDown_raise s _

omit hp in
theorem keepsDown_paintLanes (s : State) (q : Nat) : KeepsDown p s (s.paintLanes q) :=
  .of_state (s.paintLanes_touches q) rfl (s.portState_paintLanes q p)

omit hp in
theorem keepsDown_dropPending (s : State) (q : Nat) : KeepsDown p s (s.dropPending q) :=
  .of_state (s.dropPending_touches q) rfl (s.portState_dropPending q p)

theorem keepsDown_reclaimNow (s : State) (req : Nat) : KeepsDown p s (s.reclaimNow req) := by
  unfold State.reclaimNow
  extract_lets r
  have hr : pStat p ≠ r := pStat_ne_of_high hp (by simp only [r, R.bchReclaim]; omega)
  have hheld : KeepsDown p s ((s.raiseEpoch req).reclaimHeld req).2 := by
    refine (KeepsDown.withBench s rfl : KeepsDown p s (s.raiseEpoch req)).trans ?_
    unfold State.reclaimHeld
    extract_lets mine dropped
    have hdropped : KeepsDown p (s.raiseEpoch req) dropped := .withBench _ rfl
    exact hdropped.trans (.foldl (fun s e => keepsDown_setGrain s _ _) mine dropped)
  split
  next n t ht =>
  rw [ht] at hheld
  extract_lets u
  have hu : KeepsDown p s u := .step (.setFld _ _ (.inl hr)) (.step (.setFld t _ (.inl hr)) hheld)
  exact .step (.setFld u _ (.inl hr)) hu

omit hp in
theorem pStat_inj {q : Nat} (h : pStat p = pStat q) : p = q := by
  simp only [pStat, R.ptdPortStat] at h
  omega

omit hp in
/-- STATE of another port is written. -/
theorem keepsDown_setPortState (s : State) (q st : Nat) (hq : p ≠ q) : KeepsDown p s (s.setPortState q st) := by
  have hreg : pStat p ≠ pStat q := fun h => hq (pStat_inj h)
  unfold State.setPortState
  extract_lets t
  have ht : KeepsDown p s t := .setFld s _ (.inl hreg)
  split
  · exact ht
  · exact .step (.setFld _ _ (.inl hreg)) (.step (.setFld t _ (.inl hreg)) ht)

/-! ## A port that goes down -/

theorem keepsDown_loseLink (s : State) (q : Nat) : KeepsDown p s (s.loseLink q) :=
  ((keepsDown_failArrivals hp s q).trans (keepsDown_flushPort hp _ q)).trans (keepsDown_portAbort hp _ q)

end

/-- A port is DISABLED, in DETECT or in TRAIN; once its link was lost, its queues and its replay window are empty. -/
structure PortDown (p : Nat) (lost : Prop) (t : State) : Prop where
  state : t.portState p ≤ 2
  queue : lost → ∀ c, c < 8 → t.queue (qKey p c) = []
  unacked : lost → (t.port p).unacked = []

variable {lost : Prop} {s t : State}

theorem PortDown.queuesDown (h : PortDown p lost s) : s.portQueues p = false := by
  have := h.state
  simp only [State.portQueues, Bool.and_eq_false_imp, decide_eq_true_eq]
  omega

theorem PortDown.keeps (h : PortDown p lost s) (hk : KeepsDown p s t) : PortDown p lost t where
  state := hk.state ▸ h.state
  queue hl c hc := hk.queue h.queuesDown c hc (h.queue hl c hc)
  unacked hl := hk.unacked (h.unacked hl)

/-- One operation after what came before. -/
theorem PortDown.step (hk : KeepsDown p s t) (h : PortDown p lost s) : PortDown p lost t := h.keeps hk

theorem PortDown.setPortState (h : PortDown p lost s) (q st : Nat) (hst : st ≤ 2) : PortDown p lost (s.setPortState q st) := by
  by_cases hq : p = q
  · subst hq
    refine ⟨?_, fun hl c hc => ?_, fun hl => ?_⟩
    · rw [State.portState_setPortState _ _ _ (Nat.lt_of_le_of_lt hst (by decide))]
      exact hst
    · exact (State.queue_of_bench (congrArg _ ((s.setPortState_touches p st).same 13 rfl)) _).trans (h.queue hl c hc)
    · rw [State.port_setPortState]
      exact h.unacked hl
  · exact h.keeps (keepsDown_setPortState s q st hq)

theorem PortDown.foldl {α : Type} {f : State → α → State} (hf : ∀ s a, PortDown p lost s → PortDown p lost (f s a)) (l : List α)
    (h : PortDown p lost s) : PortDown p lost (l.foldl f s) := by
  induction l generalizing s with
  | nil => exact h
  | cons a l ih => exact ih (hf s a h)

theorem PortDown.enterTrain (h : PortDown p lost s) (q : Nat) : PortDown p lost (s.enterTrain q) :=
  .step (keepsDown_paintLanes _ q) (.step (.setPort _ q (fun _ hx => hx)) (h.setPortState q 2 (by decide)))

theorem PortDown.enterDetect (h : PortDown p lost s) (q : Nat) : PortDown p lost (s.enterDetect q) := by
  unfold State.enterDetect
  extract_lets was fresh detected
  have hfresh : PortDown p lost fresh := by
    unfold fresh
    split
    · exact (h.keeps (keepsDown_dropPending s q)).keeps (.setPort _ q (fun _ hx => hx))
    · exact h
  have hdetected : PortDown p lost detected :=
    .step (keepsDown_paintLanes _ q) (.step (.setPort _ q (fun _ hx => hx)) (hfresh.setPortState q 1 (by decide)))
  split
  · exact hdetected.enterTrain q
  · exact hdetected

section
variable (hp : p < 1024)
include hp

/-- The record and the event of a port that goes down. -/
theorem keepsDown_downNoted (s : State) (q cause : Nat) (b : Bool) :
    KeepsDown p s (if b then (s.portRecord q cause).portEvent q 2 else s) := by
  split
  · exact (keepsDown_portRecord s q cause).trans (keepsDown_portEvent hp _ q 2)
  · exact .refl p s

theorem PortDown.enterDisabled (h : PortDown p lost s) (q cause : Nat) : PortDown p lost (s.enterDisabled q cause) := by
  unfold State.enterDisabled
  split
  · exact h
  · extract_lets was left quiet
    have hleft : PortDown p lost left := (h.setPortState q 0 (by decide)).keeps (.setPort _ q (fun _ hx => hx))
    have hquiet : PortDown p lost quiet := (hleft.keeps (keepsDown_loseLink hp left q)).keeps (keepsDown_paintLanes _ q)
    exact hquiet.keeps (keepsDown_downNoted hp quiet q cause _)

theorem PortDown.refreshPort (h : PortDown p lost s) (q : Nat) : PortDown p lost (s.refreshPort q) := by
  unfold State.refreshPort
  split
  · split
    · exact h.enterDetect q
    · exact h
  · exact h.enterDisabled hp q 3

/-- Another port that goes down leaves this one, whatever its state. -/
theorem keepsDown_enterDisabled (s : State) (q cause : Nat) (hq : p ≠ q) : KeepsDown p s (s.enterDisabled q cause) := by
  unfold State.enterDisabled
  split
  · exact .refl p s
  · extract_lets was left quiet
    have hleft : KeepsDown p s left := .step (.setPort _ q (fun _ hx => hx)) (keepsDown_setPortState s q 0 hq)
    have hquiet : KeepsDown p s quiet := (hleft.trans (keepsDown_loseLink hp left q)).trans (keepsDown_paintLanes _ q)
    exact hquiet.trans (keepsDown_downNoted hp quiet q cause _)

/-- The port itself goes down: unless it was DISABLED, it loses its link. -/
theorem portDown_enterDisabled (s : State) (cause : Nat) : PortDown p (s.portState p ≠ 0) (s.enterDisabled p cause) := by
  unfold State.enterDisabled
  split
  next hzero => exact ⟨hzero ▸ Nat.zero_le 2, fun hl => absurd hzero hl, fun hl => absurd hzero hl⟩
  next =>
    extract_lets was left quiet
    have hstate : left.portState p = 0 := State.portState_setPortState s p 0 (by decide)
    have hfailed := keepsDown_failArrivals hp left p
    have hflushed := keepsDown_flushPort hp (left.failArrivals p) p
    have hdown : (left.failArrivals p).portQueues p = false := by simp [State.portQueues, hfailed.state, hstate]
    have hgone : PortDown p (s.portState p ≠ 0) ((left.failArrivals p).flushPort p) := by
      refine ⟨?_, fun _ c hc => queue_flushPort_of_down hp _ c hdown hc, fun _ => unacked_flushPort _ p⟩
      rw [hflushed.state, hfailed.state, hstate]
      decide
    have hquiet : PortDown p (s.portState p ≠ 0) quiet := (hgone.keeps (keepsDown_portAbort hp _ p)).keeps (keepsDown_paintLanes _ p)
    exact hquiet.keeps (keepsDown_downNoted hp quiet p cause _)

/-! ## A quad -/

/-- Every port of a list goes down, and stays down while the others follow. -/
theorem portDown_foldl (l : List Nat) (s : State) (hmem : p ∈ l) :
    PortDown p (s.portState p ≠ 0) (l.foldl (fun (s : State) q => (s.enterDisabled q 6).reclaimNow q) s) := by
  induction l generalizing s with
  | nil => exact absurd hmem (by simp)
  | cons q l ih =>
    by_cases hq : p = q
    · subst hq
      refine PortDown.foldl (fun s q h => ?_) l ((portDown_enterDisabled hp s 6).keeps (keepsDown_reclaimNow hp _ p))
      exact (h.enterDisabled hp q 6).keeps (keepsDown_reclaimNow hp _ q)
    · have hfirst := (keepsDown_enterDisabled hp s q 6 hq).trans (keepsDown_reclaimNow hp _ q)
      have hrest := ih ((s.enterDisabled q 6).reclaimNow q) ((List.mem_cons.mp hmem).resolve_left hq)
      rwa [hfirst.state] at hrest

/-- A port of a quad that is reset. -/
theorem portDown_resetQuad (s : State) (d quad : Nat) (hmem : p ∈ s.quadPorts d quad) : PortDown p (s.portState p ≠ 0) (s.resetQuad d quad) := by
  unfold State.resetQuad
  extract_lets l taken refreshed err cleared
  have hrefreshed : PortDown p (s.portState p ≠ 0) refreshed :=
    PortDown.foldl (fun s q h => h.refreshPort hp q) l (portDown_foldl hp l s hmem)
  have hcleared : PortDown p (s.portState p ≠ 0) cleared := hrefreshed.keeps (.of_same rfl rfl rfl)
  exact hcleared.keeps (keepsDown_post hp cleared _)

end

theorem quadPorts_lt {d quad : Nat} (hd : d < 32) (h : p ∈ s.quadPorts d quad) : p < 1024 := by
  obtain ⟨l, hl, rfl⟩ := List.mem_map.mp h
  have := List.mem_range.mp (List.mem_filter.mp hl).1
  omega

/-! ## Requests for a reset -/

theorem State.escal_post (s : State) (e : MgmtEvent) : (s.post e).err.escal = s.err.escal := by
  unfold State.post
  extract_lets seq depth base err numbered stored told
  have hstored : stored.err.escal = s.err.escal := by
    unfold stored
    split <;> rfl
  have htold : told.err.escal = s.err.escal := by
    unfold told
    split
    · exact (congrArg ErrSt.escal ((stored.f2hPut_touches _ _ _).same 9 rfl)).trans hstored
    · exact hstored
  split
  · rw [State.i3cEvent_err]
    exact htold
  · exact htold

/-- A reset answers every request for it. -/
theorem escal_resetQuad (s : State) (d quad : Nat) (e : Escal) (he : e ∈ (s.resetQuad d quad).err.escal) :
    ¬(e.step = 2 ∧ e.die = d ∧ e.unit / 4 = quad) := by
  unfold State.resetQuad at he
  rw [State.escal_post] at he
  obtain ⟨-, hkept⟩ := List.mem_filter.mp he
  rintro ⟨hstep, hdie, hunit⟩
  simp [hstep, hdie, hunit] at hkept

end Sys2Proof.Machine
end

section
/-! Spare lanes and quad engine resets (R116, R118, R120, R387): O36. -/

namespace Sys2Proof.Machine

/-- STATE of a port that is down is one of three. -/
theorem PortDown.cases {p : Nat} {lost : Prop} {t : State} (h : PortDown p lost t) :
    t.portState p = 0 ∨ t.portState p = 1 ∨ t.portState p = 2 := by
  have := h.state
  omega

/-- Settles O36: the spares clause by clause through the operations' lemmas; a reset of a quad keeps every port that it has taken down as it is. -/
theorem sparesAndQuads : Obligations.SparesAndQuads := by
  refine ⟨?take, ?takeRefused, ?release, ?releaseRefused, ?trained, ?trainedPort, ?broken, ?fwReset, ?fwResetPorts, ?partReset, ?partIdle⟩
  case take =>
    intro w d l b p s hw hfree hport hpath hbad
    obtain ⟨hstate, hjob, hlane, hregs⟩ := s.trainSpare_facts d.val (b2n b) l.val (b2n_lt b)
    exact ⟨_, exec_take_of_free hw hfree hport hpath hbad, hstate, hjob, hlane, hregs,
      (s.trainSpare_touches _ _ _).keeps (Piece.testBit_of_outside rfl)⟩
  case takeRefused => exact fun w d l b s hw hfree => ⟨_, exec_take_of_not_free hw hfree, s.spareRefused_facts d.val⟩
  case release =>
    intro w d b s hw hstate hjob habsent
    have hne : R.ptdSpare d.val ≠ laneStat d.val (s.spFor d.val (b2n b)) :=
      (laneStat_ne_ptdSpare ((s.spFor_lt _ _).trans (by decide))).symm
    refine ⟨_, exec_spareRelease hw, ?_⟩
    rw [if_pos (by simp [hstate, hjob, habsent])]
    refine ⟨s.spareJob_setSpareJob _ _ _, State.lstate_setLstate _ _ _ _ (by decide), ?_, ?_⟩
    · exact (State.fld_setFld_ne _ _ _ _ _ _ hne).trans hstate
    · exact (Touches.setFld ((s.setSpareJob_touches _ _ _).mono (m := 0x10008) (by decide)) rfl).keeps (Piece.testBit_of_outside rfl)
  case releaseRefused =>
    intro w d b s hw hstate
    refine ⟨_, exec_spareRelease hw, ?_⟩
    rw [if_neg (by simp [hstate])]
    exact s.spareRefused_facts d.val
  case trained =>
    intro d b l s hl hjob hport
    obtain ⟨hstate, hfor, hdone, hkeeps⟩ := s.spareServes_facts d.val (b2n b) l hl
    refine ⟨_, exec_spareTrainingDone_ok hl hjob, ?_⟩
    rw [State.spareWidens_none _ ((State.portOfLane_of_img (hkeeps.same 7 rfl) _ _).trans hport)]
    exact ⟨hstate, hfor, hdone, hkeeps.keeps (Piece.testBit_of_outside rfl)⟩
  case trainedPort =>
    intro d b l p s hl hjob _
    obtain ⟨hstate, hfor, hdone, -⟩ := s.spareServes_facts d.val (b2n b) l hl
    obtain ⟨hstate', hfor', hdone'⟩ := (s.spareServes d.val (b2n b) l).spareWidens_facts d.val l d.val (b2n b)
    exact ⟨_, exec_spareTrainingDone_ok hl hjob, hstate'.trans hstate, hfor'.trans hfor, hdone'.trans hdone⟩
  case broken =>
    exact fun d b l s hl hjob hport => ⟨_, exec_spareTrainingDone_bad hl hjob hport, s.spareBroken_facts d.val (b2n b)⟩
  case fwReset => exact fun w d q s hw => congrArg Host.Outcome.next (State.fenced_of_applied hw _ _)
  case fwResetPorts =>
    intro w d q s hw
    refine ⟨_, congrArg Host.Outcome.next (State.fenced_of_applied hw _ _), fun p hmem => ?_, escal_resetQuad s d.val q.val⟩
    have hdown := portDown_resetQuad (quadPorts_lt d.isLt hmem) s d.val q.val hmem
    exact ⟨hdown.cases, fun hlost => ⟨hdown.queue hlost, hdown.unacked hlost⟩⟩
  case partReset =>
    intro d q e s he hmatch
    obtain ⟨hstep, hdie, hunit⟩ := hmatch
    have hasked : s.err.escal.any (fun e => e.step = 2 && e.die = d.val && e.unit / 4 = q.val) = true :=
      List.any_eq_true.mpr ⟨e, he, by simp [hstep, hdie, hunit]⟩
    refine ⟨_, if_pos hasked, fun p hmem => ?_, escal_resetQuad s d.val q.val⟩
    exact (portDown_resetQuad (quadPorts_lt d.isLt hmem) s d.val q.val hmem).cases
  case partIdle =>
    intro d q s hnone
    have hquiet : s.err.escal.any (fun e => e.step = 2 && e.die = d.val && e.unit / 4 = q.val) = false := by
      rw [List.any_eq_false]
      intro e he hmatch
      exact hnone e he (by simpa [and_assoc] using hmatch)
    exact if_neg (by simp [hquiet])

end Sys2Proof.Machine
end

section
/-! The tailstock's reorder (R134): a slot that opens, a slot that times out, an idle slot: O45. -/

namespace Sys2Proof.Machine

/-! ## Slots and released packets -/

theorem seqDist_self (a : Nat) : seqDist a a = 0 := by
  unfold seqDist
  omega

theorem hdrSeq_lt (h : Nat) : hdrSeq h < 2 ^ 24 := Nat.mod_lt _ (by decide)

theorem State.slots_setSlot (s : State) (p i : Nat) (r : ReorderSlot) : ((s.setSlot p i r).port p).slots = (s.port p).slots.set i r := by
  rw [State.setSlot, State.port_setPort_same]

theorem State.slot_setSlot {s : State} {p i : Nat} {r : ReorderSlot} (h : (s.port p).slots[i]? = some r) (z : ReorderSlot) :
    ((s.setSlot p i z).port p).slots[i]? = some z := by
  obtain ⟨hi, -⟩ := List.getElem?_eq_some_iff.mp h
  rw [State.slots_setSlot, List.getElem?_set_self hi]

@[simp] theorem State.releasedQ_setSlot (s : State) (p i q : Nat) (r : ReorderSlot) : (s.setSlot p i r).releasedQ q = s.releasedQ q := rfl
@[simp] theorem State.queue_setSlot (s : State) (p i q : Nat) (r : ReorderSlot) : (s.setSlot p i r).queue q = s.queue q := rfl

theorem State.releasedQ_release (s : State) (p : Nat) (x : Pkt) :
    (s.release p x).releasedQ (qKey p x.tc) = s.releasedQ (qKey p x.tc) ++ [x] := by
  simp [State.release, State.releasedQ, State.setReleased, State.withBench]

@[simp] theorem State.port_release (s : State) (p q : Nat) (x : Pkt) : (s.release p x).port q = s.port q := rfl
@[simp] theorem State.queue_release (s : State) (p q : Nat) (x : Pkt) : (s.release p x).queue q = s.queue q := rfl

theorem State.releaseHeld_of_not_aged {s : State} {p : Nat} {x : Pkt} (h : s.aged x = false) : s.releaseHeld p x = s.release p x :=
  if_neg (by simp [h])

@[simp] theorem State.port_showHeld (s : State) (d p : Nat) : (s.showHeld d).port p = s.port p := rfl
@[simp] theorem State.queue_showHeld (s : State) (d q : Nat) : (s.showHeld d).queue q = s.queue q := rfl
@[simp] theorem State.releasedQ_showHeld (s : State) (d q : Nat) : (s.showHeld d).releasedQ q = s.releasedQ q := rfl

theorem State.fld_showHeld_ne (s : State) (d : Nat) {off : Nat} (f : Fld) (h : off ≠ R.ptdReordCtl d) :
    (s.showHeld d).fld off f = s.fld off f :=
  (State.fld_setFld_ne _ _ _ _ _ _ h).trans (State.fld_setFld_ne _ _ _ _ _ _ h)

/-! ## A packet at its slot -/

/-- The packet that its slot expects is released at once; with none held, no other follows it. -/
theorem State.handleSlot_expected {s : State} {p i : Nat} {r : ReorderSlot} {x : Pkt} (n : Nat) (hslot : (s.port p).slots[i]? = some r)
    (hseq : r.expected = hdrSeq x.hdr) (hheld : r.held = []) :
    s.handleSlot p i x (n + 1) = (s.setSlot p i { r with expected := (r.expected + 1) % 2 ^ 24 }).release p x := by
  have hdist : seqDist r.expected (hdrSeq x.hdr) = 0 := hseq ▸ seqDist_self _
  rw [State.handleSlot, hslot]
  simp only [hdist, if_pos, hheld, List.length_nil, State.drain]

/-- Draining a slot hands on a held packet that the slot expects. -/
theorem State.drain_expected {s : State} {p i : Nat} {r : ReorderSlot} {x : Pkt} (n : Nat) (hslot : (s.port p).slots[i]? = some r)
    (hfind : r.held.find? (fun y => hdrSeq y.hdr = r.expected) = some x) :
    s.drain p i (n + 1)
      = ((s.setSlot p i { r with expected := (r.expected + 1) % 2 ^ 24, held := r.held.erase x }).releaseHeld p x).drain p i n := by
  rw [State.drain, hslot]
  simp only [hfind]

/-- A slot that jumps to the one packet it holds gives up the numbers below it, and drains from there. -/
theorem State.jump_to_only_held {s : State} {p i : Nat} {r : ReorderSlot} {x : Pkt} (hslot : (s.port p).slots[i]? = some r)
    (hheld : r.held = [x]) :
    ∃ y, s.jump p i (hdrSeq x.hdr) = (s.setSlot p i y).drain p i 1 ∧ y.held = [x] ∧ y.expected = hdrSeq x.hdr := by
  have hbelow : seqOrder r.expected
      ([x].filter (fun q => decide (seqDist r.expected (hdrSeq q.hdr) < seqDist r.expected (hdrSeq x.hdr)))) = [] := by
    simp [seqOrder]
  unfold State.jump
  rw [hslot]
  simp only [hheld, hbelow]
  exact ⟨_, rfl, rfl, Nat.mod_eq_of_lt (hdrSeq_lt _)⟩

/-- So that packet is released; the slot then holds none and expects the next number. -/
theorem State.jump_releases_only_held {s : State} {p i : Nat} {r : ReorderSlot} {x : Pkt} (hslot : (s.port p).slots[i]? = some r)
    (hheld : r.held = [x]) (haged : s.aged x = false) :
    ∃ y z, s.jump p i (hdrSeq x.hdr) = ((s.setSlot p i y).setSlot p i z).release p x
      ∧ z.held = [] ∧ z.expected = (hdrSeq x.hdr + 1) % 2 ^ 24 := by
  obtain ⟨y, hjump, hy, hexpected⟩ := State.jump_to_only_held hslot hheld
  have hfind : y.held.find? (fun q => hdrSeq q.hdr = y.expected) = some x := by simp [hy, hexpected]
  refine ⟨y, { y with expected := (y.expected + 1) % 2 ^ 24, held := y.held.erase x }, ?_, ?_, ?_⟩
  · rw [hjump, State.drain_expected 0 (State.slot_setSlot hslot y) hfind]
    exact State.releaseHeld_of_not_aged haged
  · simp [hy]
  · rw [hexpected]

/-! ## The tailstock's commands -/

/-- The slot that the first packet of a flow opens at a tick. -/
def openedSlot (x : Pkt) (now : Nat) : ReorderSlot := ⟨x.job, hdrSrc true x.hdr, hdrFlow x.hdr, hdrSeq x.hdr, [], 0, 0, none, now⟩

/-- A packet that arrives where no slot stands opens one. -/
theorem exec_reorderArrival_opens {p : Port} {c : Fin 5} {x : Pkt} {rest : List Pkt} {s : State} (hfinal : s.finalPort p.val = true)
    (hup : s.portQueues p.val = true) (hqueue : s.queue (qKey p.val c.val) = x :: rest) (hspill : x.spillAt = none)
    (haged : s.aged x = false) (hslots : (s.port p.val).slots = []) :
    ∃ t : State, exec (.reorderArrival p c) s = .next ((t.handleSlot p.val 0 x 4).showHeld (p.val / 32))
      ∧ (t.port p.val).slots = [openedSlot x (s.dieNow (p.val / 32))]
      ∧ t.queue (qKey p.val c.val) = rest ∧ ∀ q, t.releasedQ q = s.releasedQ q := by
  have hkept : (s.setQueue (qKey p.val c.val) rest).aged x = false := haged
  have hnone : ((s.setQueue (qKey p.val c.val) rest).port p.val).slots = [] := hslots
  show ∃ t : State, execReorderArrival p c s = _ ∧ _
  simp only [execReorderArrival, hfinal, hup, hqueue, hspill, hkept, State.port_setPort_same, hnone]
  exact ⟨_, rfl, by simp [hnone]; rfl, State.queue_setQueue_same .., fun q => rfl⟩

/-- The one packet that a slot holds is the one that it has held longest. -/
theorem exec_reorderTimeout_only_held {p : Port} {i : Nat} {r : ReorderSlot} {x : Pkt} {s : State}
    (hslot : (s.port p.val).slots[i]? = some r) (hheld : r.held = [x]) :
    exec (.reorderTimeout p i) s
      = if s.dieNow (p.val / 32) < x.heldTick + s.reordTimeout (p.val / 32) then .next s
        else .next (((s.countReord p.val F.PtdPktCnt3.reordTimeout).jump p.val i (hdrSeq x.hdr)).showHeld (p.val / 32)) := by
  show execReorderTimeout p i s = _
  simp only [execReorderTimeout, hslot, hheld, List.foldl_cons, List.foldl_nil]

theorem ptdPktCnt3_ne_ptdReordCtl (p : Port) : R.ptdPktCnt3 (p.val / 32) (p.val % 32) ≠ R.ptdReordCtl (p.val / 32) := by
  unfold R.ptdPktCnt3 R.ptdReordCtl
  omega

end Sys2Proof.Machine

namespace Sys2Proof.Machine

/-- Settles O45: a first packet is the one that its new slot expects; a timeout jumps to the packet held, which the slot then drains. -/
theorem flowsInOrder : Obligations.FlowsInOrder := by
  refine ⟨?first, ?expires, ?released, ?waits, ?freed⟩
  case first =>
    intro p c x rest s hfinal hup hqueue htc hspill haged hslots
    obtain ⟨t, hexec, ht, hq, hreleased⟩ := exec_reorderArrival_opens hfinal hup hqueue hspill haged hslots
    refine ⟨_, hexec, ?_⟩
    rw [State.handleSlot_expected 3 (by rw [ht]; rfl) rfl rfl]
    simp only [State.queue_showHeld, State.queue_release, State.queue_setSlot, State.releasedQ_showHeld, State.port_showHeld,
      State.port_release]
    refine ⟨hq, ?_, ⟨{ openedSlot x (s.dieNow (p.val / 32)) with expected := (hdrSeq x.hdr + 1) % 2 ^ 24 }, ?_,
      rfl, rfl, rfl, rfl, rfl⟩⟩
    · rw [← htc, State.releasedQ_release, State.releasedQ_setSlot, hreleased]
    · rw [State.slots_setSlot, ht]
      rfl
  case expires =>
    intro p i r x s hslot hheld hdue
    rw [exec_reorderTimeout_only_held hslot hheld, if_neg (Nat.not_lt.mpr hdue)]
  case released =>
    intro p i r x s hslot hheld hdue _ _ haged
    obtain ⟨y, z, hjump, hz, hexpected⟩ := State.jump_releases_only_held
      (s := s.countReord p.val F.PtdPktCnt3.reordTimeout) hslot hheld haged
    refine ⟨_, (exec_reorderTimeout_only_held hslot hheld).trans (if_neg (Nat.not_lt.mpr hdue)), ?_⟩
    rw [hjump]
    simp only [State.releasedQ_showHeld, State.port_showHeld, State.port_release]
    refine ⟨State.releasedQ_release _ _ _, ⟨z, ?_, hz, hexpected⟩, ?_⟩
    · exact State.slot_setSlot (State.slot_setSlot hslot y) z
    · rw [State.fld_showHeld_ne _ _ _ (ptdPktCnt3_ne_ptdReordCtl p), Nat.min_comm]
      exact State.fld_count_same s _ _ rfl
  case waits =>
    intro p i r x s hslot hheld hearly
    rw [exec_reorderTimeout_only_held hslot hheld, if_pos hearly]
  case freed =>
    intro p i r s hslot hidle
    refine ⟨s.setPort p.val (fun y => { y with slots := y.slots.eraseIdx i }), ?_, ?_, ?_⟩
    · show execReorderSlotFree p i s = _
      simp only [execReorderSlotFree, hslot, hidle, if_pos]
    · rw [State.port_setPort_same]
    · exact (State.setPort_touches _ _ _).keeps (Piece.testBit_of_outside rfl)

end Sys2Proof.Machine
end

section
/-! Packets at a headstock (R122, R136, R138, R139): O37. -/

namespace Sys2Proof.Machine

/-! ## A frame without a grain whose header CRC fails

A frame without a grain ends as its header arrives (R139). At its end the part returns the credits that it owes for the packet, and with
them it tries once more the reservations for which earlier credits of a lossless class wait (R136, R147), even where it owes none. At level
PUSHOUT a reservation that would pass HARD pushes packets out of lossy queues (R148, R149). The packet that passes and the packet that goes
through the headstock come in O37 with n ≠ 0; the one whose CRC fails comes with any n. -/

/-- The full pool of `ptpFullPool`, with one credit of TC7 that waits for its reservation on port 0. -/
def creditWaits : State := ptpFullPool.setPort 0 (fun x => { x with waitCredits := setNth x.waitCredits 7 1 })

/-- The port takes the frame, and a header of zeros fails its CRC. -/
theorem creditWaits_takes_bad_header :
    creditWaits.portState 0 = 4 ∧ creditWaits.isEthernet 0 = false ∧ hcrcOk true (0 : BitVec 256).toNat = false := by decide +kernel

theorem creditWaits_queue : creditWaits.queue (qKey 1 0) = [ptpWaiting] := ptpFullPool_queue

/-- The packet that waits for port 1 is pushed out for the credit. -/
theorem creditWaits_pushes_out : (creditWaits.packetIn 0 7 0 (.data 0)).queue (qKey 1 0) = [] := by decide +kernel

end Sys2Proof.Machine

namespace Sys2Proof.Machine

/-- Refutes O37: a data packet whose header CRC fails does not always leave the queues as they were. In a frame of no grains it ends its
frame at once, and the credit that waits in its class goes back with a reservation that pushes a lossy packet out. -/
theorem not_packetsArrive : ¬ Obligations.PacketsArrive := by
  rintro ⟨-, -, -, hbad⟩
  obtain ⟨hup, heth, hcrc⟩ := creditWaits_takes_bad_header
  obtain ⟨t, ht, hqueues, -⟩ := hbad 0 7 0 0 creditWaits hup heth hcrc
  have hkept : t.queue (qKey 1 0) = [ptpWaiting] := (State.queue_of_bench hqueues _).trans creditWaits_queue
  have hgone : t.queue (qKey 1 0) = [] := Host.Outcome.next.inj ht ▸ creditWaits_pushes_out
  exact List.cons_ne_nil _ _ (hkept.symm.trans hgone)

end Sys2Proof.Machine
end

section
/-! Reclaims, pool levels and aging (R147, R154, R155): O41. -/

namespace Sys2Proof

/-- Writing what an unlisted key reads as deletes the key. -/
theorem Tbl.set_dflt {α : Type} [DecidableEq α] (d : Nat → α) (t : Tbl α) (k : Nat) : t.set d k (d k) = t.del k := if_pos rfl

/-- A key that has been deleted is listed no more. -/
theorem Tbl.key_ne_of_mem_del {α : Type} {k : Nat} {e : Nat × α} : ∀ {t : Tbl α}, e ∈ t.del k → e.1 ≠ k
  | [], h => absurd h List.not_mem_nil
  | (j, v) :: t, h => by
    rw [Tbl.del] at h
    split at h
    · exact Tbl.key_ne_of_mem_del h
    · next hj =>
      rcases List.mem_cons.mp h with rfl | h
      · exact Ne.symm hj
      · exact Tbl.key_ne_of_mem_del h

theorem Tbl.keysWhere_eq_nil {α : Type} (p : α → Bool) : ∀ (t : Tbl α), (∀ e ∈ t, p e.2 = false) → t.keysWhere p = []
  | [], _ => rfl
  | e :: t, h => by
    rw [Tbl.keysWhere, h e List.mem_cons_self]
    exact Tbl.keysWhere_eq_nil p t (fun x hx => h x (List.mem_cons_of_mem _ hx))

end Sys2Proof

namespace Sys2Proof.Machine

/-! ## RECLAIM (R154) -/

theorem State.epoch_raiseEpoch_same (s : State) (r : Nat) : (s.raiseEpoch r).epoch r = (s.epoch r + 1) % 16 := by
  simp [State.epoch, State.raiseEpoch, State.withBench]

theorem State.epoch_raiseEpoch_ne (s : State) {r q : Nat} (h : q ≠ r) : (s.raiseEpoch r).epoch q = s.epoch q := by
  simp [State.epoch, State.raiseEpoch, State.withBench, Tbl.get_modify, h]

/-- A reclaim that has begun on bench die d: the requester's epoch is raised, and BCH_RECLAIM is busy with it. -/
def State.reclaimBegun (s : State) (d r : Nat) : State :=
  (((s.raiseEpoch r).setFld (R.bchReclaim d) F.BchReclaim.busy 1).setFld (R.bchReclaim d) F.BchReclaim.lastReq r).setFld
    (R.bchReclaim d) F.BchReclaim.epoch ((s.raiseEpoch r).epoch r)

theorem State.busy_reclaimBegun (s : State) (d r : Nat) : (s.reclaimBegun d r).fld (R.bchReclaim d) F.BchReclaim.busy = 1 := by
  rw [State.reclaimBegun, State.fld_setFld_apart _ _ _ _ _ rfl, State.fld_setFld_apart _ _ _ _ _ rfl]
  exact State.fld_setFld_fit _ _ _ _ rfl (by decide)

theorem State.lastReq_reclaimBegun (s : State) (d : Nat) (r : Req) :
    (s.reclaimBegun d r.val).fld (R.bchReclaim d) F.BchReclaim.lastReq = r.val := by
  rw [State.reclaimBegun, State.fld_setFld_apart _ _ _ _ _ rfl]
  exact State.fld_setFld_fit _ _ _ _ rfl r.isLt

theorem State.keepsRegs_reclaimBegun (s : State) (d r : Nat) : s.keepsRegs (s.reclaimBegun d r) [R.bchReclaim d] :=
  ((((s.raiseEpoch_touches r).keepsRegs rfl _).trans (State.keepsRegs_setFld _ _ _ _)).trans (State.keepsRegs_setFld _ _ _ _)).trans
    (State.keepsRegs_setFld _ _ _ _)

section
variable {w : Writer} {d : BDie} {r : Req} {s : State} (hw : s.judge w (dBench d.val) = .applied) (hd : d.val = 0 ∨ d.val = 8)
include hw hd

/-- On a pool leader the fence applies RECLAIM: refused for a reserved requester or while BUSY, else begun. -/
theorem exec_reclaim_on_leader : exec (.reclaim w d r) s
    = .next (if reqReserved r.val || s.fld (R.bchReclaim d.val) F.BchReclaim.busy = 1
        then s.setFld (R.bchReclaim d.val) F.BchReclaim.cmdRefused 1 else s.reclaimBegun d.val r.val) := by
  have hleader : ¬ (decide (d.val ≠ 0) && decide (d.val ≠ 8)) = true := by simpa using fun h => hd.resolve_left h
  show execReclaim w d r s = _
  simp only [execReclaim, State.fenced_of_applied hw, if_neg hleader]
  rfl

theorem exec_reclaim_begins (hr : reqReserved r.val = false) (hidle : s.fld (R.bchReclaim d.val) F.BchReclaim.busy = 0) :
    exec (.reclaim w d r) s = .next (s.reclaimBegun d.val r.val) := by
  rw [exec_reclaim_on_leader hw hd, if_neg (by simp [hr, hidle])]

theorem exec_reclaim_refused (hbusy : s.fld (R.bchReclaim d.val) F.BchReclaim.busy = 1) :
    exec (.reclaim w d r) s = .next (s.setFld (R.bchReclaim d.val) F.BchReclaim.cmdRefused 1) := by
  rw [exec_reclaim_on_leader hw hd, if_pos (by simp [hbusy])]

end

/-! ## RECLAIM_COMPLETE (R154) -/

theorem State.grains_freeGrain (s : State) (ptr : Nat) : (s.freeGrain ptr).bench.grains = s.bench.grains.del ptr := by
  rw [State.freeGrain, State.setGrain, State.withBench, Tbl.set_dflt (fun _ => GrainSt.empty)]

/-- A grain that is listed after some have been freed was listed before, and is none of those. -/
theorem State.mem_grains_freed {e : Nat × GrainSt} (l : Tbl GrainSt) (s : State)
    (h : e ∈ (l.foldl (fun (s : State) x => s.freeGrain x.1) s).bench.grains) : e ∈ s.bench.grains ∧ ∀ x ∈ l, e.1 ≠ x.1 := by
  induction l generalizing s with
  | nil => exact ⟨h, fun x hx => absurd hx List.not_mem_nil⟩
  | cons y l ih =>
    rw [List.foldl_cons] at h
    obtain ⟨hmem, hl⟩ := ih (s.freeGrain y.1) h
    rw [State.grains_freeGrain] at hmem
    exact ⟨Tbl.mem_del hmem, List.forall_mem_cons.mpr ⟨Tbl.key_ne_of_mem_del hmem, hl⟩⟩

/-- A reclaim answers how many grains the requester held. -/
theorem State.reclaimHeld_count (s : State) (r : Nat) : (s.reclaimHeld r).1 = s.reqHeld r := by
  refine congrArg List.length (List.filter_congr fun e _ => ?_)
  by_cases h : e.2.st = .held <;> simp [h]

/-- After a reclaim the requester holds no grain: each that it held is among those freed. -/
theorem State.reqHeld_reclaimHeld (s : State) (r : Nat) : (s.reclaimHeld r).2.reqHeld r = 0 := by
  refine List.length_eq_zero_iff.mpr (List.filter_eq_nil_iff.mpr fun e he => ?_)
  obtain ⟨hmem, hfreed⟩ := State.mem_grains_freed _ _ he
  intro hheld
  simp only [Bool.and_eq_true] at hheld
  obtain ⟨-, hmine⟩ := hheld
  exact hfreed e (List.mem_filter.mpr ⟨hmem, by simpa using hmine⟩) rfl

/-- A reclaim that has ended on bench die d: the requester's HELD grains are free, and BCH_RECLAIM reports their count. -/
def State.reclaimEnded (s : State) (d r : Nat) : State :=
  ((s.reclaimHeld r).2.setFld (R.bchReclaim d) F.BchReclaim.grains (min (s.reqHeld r) 0xFFFF)).setFld (R.bchReclaim d)
    F.BchReclaim.busy 0

theorem exec_reclaimComplete_of_busy {d : BDie} {r : Req} {s : State} (hbusy : s.fld (R.bchReclaim d.val) F.BchReclaim.busy = 1)
    (hlast : s.fld (R.bchReclaim d.val) F.BchReclaim.lastReq = r.val) :
    exec (.reclaimComplete d r) s = .next (s.reclaimEnded d.val r.val) := by
  show execReclaimComplete d r s = _
  rw [State.reclaimEnded, ← State.reclaimHeld_count]
  exact if_pos (by simp [hbusy, hlast])

theorem State.busy_reclaimEnded (s : State) (d r : Nat) : (s.reclaimEnded d r).fld (R.bchReclaim d) F.BchReclaim.busy = 0 :=
  State.fld_setFld_fit _ _ _ _ rfl (by decide)

theorem State.grains_reclaimEnded (s : State) (d r : Nat) :
    (s.reclaimEnded d r).fld (R.bchReclaim d) F.BchReclaim.grains = min (s.reqHeld r) 0xFFFF := by
  rw [State.reclaimEnded, State.fld_setFld_apart _ _ _ _ _ rfl]
  exact State.fld_setFld_fit _ _ _ _ rfl (Nat.lt_succ_of_le (Nat.min_le_right _ _))

theorem State.keepsRegs_reclaimEnded (s : State) (d r : Nat) : s.keepsRegs (s.reclaimEnded d r) [R.bchReclaim d] :=
  ((Touches.keepsRegs (s.reclaimHeld_touches r) rfl _).trans (State.keepsRegs_setFld _ _ _ _)).trans (State.keepsRegs_setFld _ _ _ _)

/-! ## The sum of one pool (R147) -/

/-- The level that a sum gives a pool. -/
def State.levelSummed (s : State) (k : Nat) : Nat :=
  nextLevel (s.poolPlane k) k (s.poolOcc k) (s.bench.levels.get (fun _ => 0) k)

/-- The state in which a pool stands at the level of its sum, which its register does not show yet. -/
def State.levelSet (s : State) (k : Nat) : State :=
  s.withBench (fun b => { b with levels := b.levels.set (fun _ => 0) k (s.levelSummed k) })

/-- A pool as summed, with its register, before the event of a new level. -/
def State.poolSummed (s : State) (k : Nat) : State :=
  (((s.levelSet k).setFld (poolReg k) F.BchPoolStat.occ (s.poolOcc k)).raiseMax (poolReg k) F.BchPoolStat.occMax (s.poolOcc k)).setFld
    (poolReg k) F.BchPoolStat.level ((s.levelSet k).poolLevel k)

theorem State.sumPool_of_unassigned {s : State} {k : Nat} (h : (s.poolPlane k).poolPart k = 0xFF) : s.sumPool k = s := if_pos h

/-- The sum of a pool that a partition has is its level and its register, and the event of a level that the register did not show. -/
theorem State.sumPool_of_assigned {s : State} {k : Nat} (h : (s.poolPlane k).poolPart k ≠ 0xFF) :
    s.sumPool k = if (s.levelSet k).poolLevel k = s.fld (poolReg k) F.BchPoolStat.level then s.poolSummed k
      else (s.poolSummed k).emit (.benchEvent 0 k ((s.levelSet k).poolLevel k)) := by
  rw [State.sumPool, if_neg h]
  rfl

theorem State.regs_sumPool {s : State} {k : Nat} (h : (s.poolPlane k).poolPart k ≠ 0xFF) :
    (s.sumPool k).regs = (s.poolSummed k).regs := by
  rw [State.sumPool_of_assigned h]
  split
  · rfl
  · exact State.emit_regs _ _

theorem State.bench_poolSummed (s : State) (k : Nat) : (s.poolSummed k).bench = (s.levelSet k).bench := by
  rw [State.poolSummed, State.setFld_bench, State.raiseMax_bench, State.setFld_bench]

theorem State.bench_sumPool {s : State} {k : Nat} (h : (s.poolPlane k).poolPart k ≠ 0xFF) :
    (s.sumPool k).bench = (s.levelSet k).bench := by
  rw [State.sumPool_of_assigned h]
  split <;> exact s.bench_poolSummed k

theorem State.levels_levelSet (s : State) (k : Nat) : (s.levelSet k).bench.levels.get (fun _ => 0) k = s.levelSummed k :=
  Tbl.get_set_same _ _ _ _

/-- A pool is judged by the level of its sum, unless its half is short of descriptors. -/
theorem State.poolLevel_levelSet {s : State} {k : Nat} (h : 1024 ≤ s.descFree (k / 32)) : (s.levelSet k).poolLevel k = s.levelSummed k := by
  have hfree : (s.levelSet k).descFree (k / 32) = s.descFree (k / 32) := by
    simp only [State.descFree, State.descUsed, State.levelSet, State.withBench]
  rw [State.poolLevel, hfree, if_neg (Nat.not_lt.mpr h)]
  exact s.levels_levelSet k

theorem State.level_poolSummed {s : State} {k : Nat} (h : 1024 ≤ s.descFree (k / 32)) :
    (s.poolSummed k).fld (poolReg k) F.BchPoolStat.level = s.levelSummed k % 2 ^ F.BchPoolStat.level.wid := by
  rw [State.poolSummed, State.fld_setFld_same _ _ _ _ rfl, State.poolLevel_levelSet h]

theorem State.occ_poolSummed (s : State) (k : Nat) :
    (s.poolSummed k).fld (poolReg k) F.BchPoolStat.occ = s.poolOcc k % 2 ^ F.BchPoolStat.occ.wid := by
  rw [State.poolSummed, State.fld_setFld_apart _ _ _ _ _ rfl, State.raiseMax, State.fld_setFld_apart _ _ _ _ _ rfl]
  exact State.fld_setFld_same _ _ _ _ rfl

theorem State.keepsRegs_poolSummed (s : State) (k : Nat) : s.keepsRegs (s.poolSummed k) [poolReg k] :=
  ((((s.withBench_touches _).keepsRegs rfl _).trans (State.keepsRegs_setFld _ _ _ _)).trans (State.keepsRegs_setFld _ _ _ _)).trans
    (State.keepsRegs_setFld _ _ _ _)

/-! ## The sum of all pools (R147) -/

theorem State.planeOn_of_img {s t : State} (h : t.img = s.img) (d : Nat) : t.planeOn d = s.planeOn d := by
  simp only [State.planeOn, State.keptPlane, State.plane, h]

theorem State.poolPlane_sumPool (s : State) (k j : Nat) : (s.sumPool k).poolPlane j = s.poolPlane j :=
  State.planeOn_of_img ((s.sumPool_touches k).same 7 rfl) _

/-- A sum of pools that no partition has changes nothing. -/
theorem State.sumPools_of_unassigned (l : List Nat) {s : State} (h : ∀ j ∈ l, (s.poolPlane j).poolPart j = 0xFF) :
    l.foldl State.sumPool s = s := by
  induction l with
  | nil => rfl
  | cons j l ih =>
    obtain ⟨hj, hl⟩ := List.forall_mem_cons.mp h
    rw [List.foldl_cons, State.sumPool_of_unassigned hj, ih hl]

/-- A sum of pools of which partitions have one alone is the sum of that one. -/
theorem State.sumPools_of_one_assigned {l : List Nat} (hl : l.Nodup) {s : State} {k : Nat} (hk : k ∈ l)
    (h : ∀ j ∈ l, j ≠ k → (s.poolPlane j).poolPart j = 0xFF) : l.foldl State.sumPool s = s.sumPool k := by
  obtain ⟨before, after, rfl⟩ := List.append_of_mem hk
  have hne : ∀ j ∈ before ++ after, j ≠ k := fun j hj he => (List.nodup_cons.mp (List.nodup_middle.mp hl)).1 (he ▸ hj)
  have hbefore : ∀ j ∈ before, (s.poolPlane j).poolPart j = 0xFF := fun j hj =>
    h j (List.mem_append_left _ hj) (hne j (List.mem_append_left _ hj))
  have hafter : ∀ j ∈ after, ((s.sumPool k).poolPlane j).poolPart j = 0xFF := fun j hj => by
    rw [State.poolPlane_sumPool]
    exact h j (List.mem_append_right _ (List.mem_cons_of_mem _ hj)) (hne j (List.mem_append_right _ hj))
  rw [List.foldl_append, State.sumPools_of_unassigned before hbefore, List.foldl_cons, State.sumPools_of_unassigned after hafter]

/-! ## POOL_LEVEL_SUM (R136, R147) -/

/-- Nothing waits for a sum of the levels: no credit, no ALLOC, no result without a descriptor, and no Ethernet port with a peer to pause. -/
structure State.NothingWaits (s : State) : Prop where
  credits : ∀ e, e ∈ s.ports → ∀ n, n ∈ e.2.waitCredits → n = 0
  pause : ∀ e, e ∈ s.ports → s.isEthernet e.1 = false
  allocs : s.bench.waits = []
  results : s.bench.descWait = []

theorem State.isEthernet_of_img {s t : State} (h : t.img = s.img) (p : Nat) : t.isEthernet p = s.isEthernet p := by
  rw [State.isEthernet, State.isEthernet, State.planeOn_of_img h]

theorem State.NothingWaits.of_same {s t : State} (h : s.NothingWaits) (himg : t.img = s.img) (hports : t.ports = s.ports)
    (hwaits : t.bench.waits = s.bench.waits) (hdesc : t.bench.descWait = s.bench.descWait) : t.NothingWaits where
  credits := hports ▸ h.credits
  pause e he := (State.isEthernet_of_img himg e.1).trans (h.pause e (hports ▸ he))
  allocs := hwaits.trans h.allocs
  results := hdesc.trans h.results

theorem State.NothingWaits.sumPool {s : State} (h : s.NothingWaits) (k : Nat) : (s.sumPool k).NothingWaits := by
  by_cases hk : (s.poolPlane k).poolPart k = 0xFF
  · rwa [State.sumPool_of_unassigned hk]
  · have hwaits : (s.sumPool k).bench.waits = s.bench.waits := by rw [State.bench_sumPool hk, State.levelSet, State.withBench]
    have hresults : (s.sumPool k).bench.descWait = s.bench.descWait := by rw [State.bench_sumPool hk, State.levelSet, State.withBench]
    exact h.of_same ((s.sumPool_touches k).same 7 rfl) ((s.sumPool_touches k).same 14 rfl) hwaits hresults

theorem State.linkWaiting_of_none {s : State} (h : s.bench.descWait = []) : s.linkWaiting = s := by
  rw [State.linkWaiting, h, List.foldl_nil, State.withBench, ← h]

theorem State.askPause_of_druvo {s : State} {p : Nat} (h : s.isEthernet p = false) : s.askPause p = s := if_pos (by simp [h])

theorem State.askPauses_of_druvo (l : List Nat) {s : State} (h : ∀ p ∈ l, s.isEthernet p = false) :
    l.foldl (fun (s : State) p => s.askPause p) s = s := by
  induction l with
  | nil => rfl
  | cons p l ih =>
    obtain ⟨hp, hl⟩ := List.forall_mem_cons.mp h
    rw [List.foldl_cons, State.askPause_of_druvo hp, ih hl]

theorem State.grantEngines_of_none {s : State} (h : s.bench.waits = []) : s.grantEngines = s := by
  rw [State.grantEngines, h, List.foldl_nil]

/-- A new interval of the pool managers: nothing has been handed out since the sum. -/
def State.sinceSum (s : State) : State := s.withBench (fun b => { b with since := [] })

/-- Where nothing waits, the command sums the pools and begins a new interval. -/
theorem exec_poolLevelSum_of_nothingWaits {s t : State} (hsum : (List.range 64).foldl State.sumPool s = t) (ht : t.NothingWaits) :
    exec .poolLevelSum s = .next t.sinceSum := by
  have hquiet : t.sinceSum.NothingWaits := ht.of_same rfl rfl rfl rfl
  have hkeys : ∀ p ∈ t.sinceSum.ports.map Prod.fst, t.sinceSum.isEthernet p = false := List.forall_mem_map.mpr hquiet.pause
  have hcredits : t.sinceSum.ports.keysWhere (fun x => x.waitCredits.any (fun n => decide (n ≠ 0))) = [] :=
    Tbl.keysWhere_eq_nil _ _ fun e he => List.any_eq_false.mpr fun n hn => by simp [hquiet.credits e he n hn]
  show execPoolLevelSum s = _
  simp only [execPoolLevelSum, hsum]
  rw [← State.sinceSum, State.linkWaiting_of_none hquiet.results, State.askPauses_of_druvo _ hkeys, hcredits, List.foldl_nil,
    State.grantEngines_of_none hquiet.allocs]

theorem State.sinceSum_of_none {s : State} (h : s.bench.since = []) : s.sinceSum = s := by
  rw [State.sinceSum, State.withBench, ← h]

/-! ## Packets that age (R155) -/

theorem State.planeOf_of_img {s t : State} (h : t.img = s.img) (d stamp : Nat) : t.planeOf d stamp = s.planeOf d stamp := by
  rw [State.planeOf, State.planeOf, State.keptAt, State.keptAt, State.planeAt, State.planeAt, h]

theorem State.aged_of_same {s t : State} (htb : t.tb = s.tb) (himg : t.img = s.img) : t.aged = s.aged := by
  funext x
  rw [State.aged, State.aged, State.planeOf_of_img himg, htb]

theorem State.aged_dropAged (s : State) (q : Nat) (x : Pkt) : (s.dropAged q x).aged = s.aged :=
  State.aged_of_same ((s.dropAged_touches q x).same 2 rfl) ((s.dropAged_touches q x).same 7 rfl)

theorem State.queues_captureDrop (s : State) (x : Pkt) (cause reason : Nat) (q : Option Nat) :
    (s.captureDrop x cause reason q).bench.queues = s.bench.queues := by
  unfold State.captureDrop
  split
  · unfold State.capturePkt
    extract_lets
    split
    · rfl
    · split <;> rfl
  · rfl

theorem State.queues_setGrain (s : State) (ptr : Nat) (g : GrainSt) : (s.setGrain ptr g).bench.queues = s.bench.queues := rfl

theorem State.queues_unref (s : State) (ptr : Nat) : (s.unref ptr).bench.queues = s.bench.queues := by
  unfold State.unref
  extract_lets
  split
  · exact s.queues_setGrain _ _
  · exact s.queues_setGrain _ _

theorem State.queues_unrefAll (l : List Nat) (s : State) : (s.unrefAll l).bench.queues = s.bench.queues := by
  induction l generalizing s with
  | nil => rfl
  | cons g l ih => exact (ih (s.unref g)).trans (s.queues_unref g)

/-- A packet that is discarded stands in its queue until the queue is replaced. -/
theorem State.queue_dropAged (s : State) (q : Nat) (x : Pkt) (k : Nat) : (s.dropAged q x).queue k = s.queue k := by
  have hqueues : (s.dropAged q x).bench.queues = ((s.captureDrop x 5 0 (some q)).unrefAll x.grains).bench.queues := by
    rw [State.dropAged, State.dropQueued, State.count_bench]
    rfl
  exact State.queue_of_bench (hqueues.trans ((State.queues_unrefAll _ _).trans (State.queues_captureDrop ..))) k

/-- What is left of a list is what follows its aged heads. -/
theorem State.ageHeads_rest (q : Nat) (l : List Pkt) (s : State) : (s.ageHeads q l).1 = l.dropWhile s.aged := by
  induction l generalizing s with
  | nil => rfl
  | cons x l ih =>
    rw [State.ageHeads, List.dropWhile_cons]
    split
    · rw [ih, State.aged_dropAged]
    · rfl

theorem State.queue_ageHeads (q : Nat) (l : List Pkt) (s : State) (k : Nat) : (s.ageHeads q l).2.queue k = s.queue k := by
  induction l generalizing s with
  | nil => rfl
  | cons x l ih =>
    rw [State.ageHeads]
    split
    · exact (ih _).trans (s.queue_dropAged q x k)
    · rfl

theorem State.aged_ageHeads (s : State) (q : Nat) (l : List Pkt) : (s.ageHeads q l).2.aged = s.aged :=
  State.aged_of_same ((s.ageHeads_touches q l).snd.same 2 rfl) ((s.ageHeads_touches q l).snd.same 7 rfl)

/-! ## RETRAIN_AGE_SCAN (R155) -/

/-- The scan of one queue's released packets. -/
def State.ageReleased (s : State) (q : Nat) : State :=
  (s.ageHeads q (s.releasedQ q)).2.setReleased q (s.ageHeads q (s.releasedQ q)).1

/-- The scan of one queue. -/
def State.ageQueue (s : State) (q : Nat) : State :=
  ((s.ageReleased q).ageHeads q ((s.ageReleased q).queue q)).2.setQueue q
    ((s.ageReleased q).ageHeads q ((s.ageReleased q).queue q)).1

theorem State.queue_ageReleased (s : State) (q k : Nat) : (s.ageReleased q).queue k = s.queue k := s.queue_ageHeads q _ k

theorem State.aged_ageReleased (s : State) (q : Nat) : (s.ageReleased q).aged = s.aged := s.aged_ageHeads q _

theorem State.aged_ageQueue (s : State) (q : Nat) : (s.ageQueue q).aged = s.aged :=
  ((s.ageReleased q).aged_ageHeads q _).trans (s.aged_ageReleased q)

theorem State.queue_ageQueue_same (s : State) (q : Nat) : (s.ageQueue q).queue q = (s.queue q).dropWhile s.aged := by
  rw [State.ageQueue, State.queue_setQueue_same, State.ageHeads_rest, State.queue_ageReleased, State.aged_ageReleased]

theorem State.queue_ageQueue_ne (s : State) {q k : Nat} (h : k ≠ q) : (s.ageQueue q).queue k = s.queue k := by
  rw [State.ageQueue, State.queue_setQueue_ne _ _ h, State.queue_ageHeads, State.queue_ageReleased]

/-- The head of a queue, where there is one, has not aged. -/
def State.headFresh (s : State) (q : Nat) : Prop := (s.queue q).head?.any s.aged = false

/-- The scan of a queue leaves no aged packet at its head. -/
theorem State.headFresh_ageQueue_same (s : State) (q : Nat) : (s.ageQueue q).headFresh q := by
  rw [State.headFresh, State.queue_ageQueue_same, State.aged_ageQueue]
  have hhead := List.head?_dropWhile_not s.aged (s.queue q)
  cases h : ((s.queue q).dropWhile s.aged).head? with
  | none => rfl
  | some x => simpa [h] using hhead

/-- The scan of any queue keeps a head that has not aged. -/
theorem State.headFresh.ageQueue {s : State} {k : Nat} (h : s.headFresh k) (q : Nat) : (s.ageQueue q).headFresh k := by
  by_cases hq : k = q
  · exact hq ▸ s.headFresh_ageQueue_same k
  · rwa [State.headFresh, State.queue_ageQueue_ne s hq, State.aged_ageQueue]

/-- The scans of some classes of a port. -/
def State.ageClasses (s : State) (p : Nat) (l : List Nat) : State := l.foldl (fun (s : State) c => s.ageQueue (qKey p c)) s

theorem State.aged_ageClasses (p : Nat) (l : List Nat) (s : State) : (s.ageClasses p l).aged = s.aged := by
  induction l generalizing s with
  | nil => rfl
  | cons c l ih => exact (ih _).trans (s.aged_ageQueue _)

theorem State.headFresh_ageClasses {p c : Nat} (l : List Nat) (s : State) (h : c ∈ l ∨ s.headFresh (qKey p c)) :
    (s.ageClasses p l).headFresh (qKey p c) := by
  induction l generalizing s with
  | nil => exact h.resolve_left List.not_mem_nil
  | cons a l ih =>
    refine ih (s.ageQueue (qKey p a)) ?_
    rcases h with hmem | hfresh
    · rcases List.mem_cons.mp hmem with rfl | hmem
      · exact .inr (s.headFresh_ageQueue_same _)
      · exact .inl hmem
    · exact .inr (hfresh.ageQueue _)

theorem exec_retrainAgeScan (p : Port) (s : State) : exec (.retrainAgeScan p) s
    = if s.portState p.val ≠ 5 && s.portState p.val ≠ 6 then .next s else .next (s.ageClasses p.val (List.range 8)) := by
  show execRetrainAgeScan p s = _
  simp only [execRetrainAgeScan, State.ageClasses, State.ageQueue, State.ageReleased]

end Sys2Proof.Machine

namespace Sys2Proof.Machine

/-- Settles O41: a reclaim by the states that it begins and ends with, the sum by the one pool that a partition has, the scan queue by queue. -/
theorem reclaimsAndAging : Obligations.ReclaimsAndAging := by
  refine ⟨?begins, ?refused, ?completed, ?unassigned, ?summed, ?scanned, ?otherwise⟩
  case begins =>
    intro w d r s hw hd hr hidle
    have hexec := exec_reclaim_begins hw hd hr hidle
    exact ⟨_, hexec, s.epoch_raiseEpoch_same r.val, s.busy_reclaimBegun _ _, s.lastReq_reclaimBegun _ r,
      fun q hq => s.epoch_raiseEpoch_ne hq, s.keepsRegs_reclaimBegun _ _,
      (execReclaim_touches w d r s).keeps hexec (by decide)⟩
  case refused =>
    intro w d r s hw hd hbusy
    exact ⟨_, exec_reclaim_refused hw hd hbusy, s.fld_setFld_fit _ _ _ rfl (by decide), s.keepsRegs_setFld _ _ _,
      (s.setFld_touches _ _ _).keeps (Piece.testBit_of_outside rfl)⟩
  case completed =>
    intro d r s hbusy hlast
    have hexec := exec_reclaimComplete_of_busy hbusy hlast
    exact ⟨_, hexec, s.reqHeld_reclaimHeld r.val, s.busy_reclaimEnded _ _, s.grains_reclaimEnded _ _, s.keepsRegs_reclaimEnded _ _,
      (execReclaimComplete_touches d r s).keeps hexec (by decide)⟩
  case unassigned =>
    intro s hpart hcredits heth hwaits hdesc hsince
    have hsum := State.sumPools_of_unassigned (List.range 64) fun j hj => hpart j (List.mem_range.mp hj)
    rw [exec_poolLevelSum_of_nothingWaits hsum ⟨hcredits, heth, hwaits, hdesc⟩, State.sinceSum_of_none hsince]
  case summed =>
    intro s k hk hpart hfree hcredits heth hwaits hdesc hothers
    have hquiet : s.NothingWaits := ⟨hcredits, heth, hwaits, hdesc⟩
    have hsum := State.sumPools_of_one_assigned List.nodup_range (List.mem_range.mpr hk)
      fun j hj hjk => hothers j (List.mem_range.mp hj) hjk
    have htouches : Touches 0x4002008 s (s.sumPool k).sinceSum := (State.withBench_touches _ _).step (by decide) (s.sumPool_touches k)
    have hregs : (s.sumPool k).sinceSum.regs = (s.poolSummed k).regs := State.regs_sumPool hpart
    have hlevels : (s.sumPool k).sinceSum.bench.levels = (s.levelSet k).bench.levels := by
      rw [State.sinceSum, State.withBench, State.bench_sumPool hpart]
    refine ⟨_, exec_poolLevelSum_of_nothingWaits hsum (hquiet.sumPool k), ?_, ?_, ?_, rfl, ?_, ?_⟩
    · rw [hlevels]
      exact s.levels_levelSet k
    · exact (State.fld_of_regs hregs _ _).trans (State.level_poolSummed hfree)
    · exact (State.fld_of_regs hregs _ _).trans (s.occ_poolSummed k)
    · exact (s.keepsRegs_poolSummed k).trans (State.keepsRegs_of_regs hregs _)
    · exact htouches.keeps (Piece.testBit_of_outside rfl)
  case scanned =>
    intro p s hstate
    have hscan : ¬ (decide (s.portState p.val ≠ 5) && decide (s.portState p.val ≠ 6)) = true := by
      simpa using fun h => hstate.resolve_left h
    refine ⟨_, (exec_retrainAgeScan p s).trans (if_neg hscan), fun c hc => ?_⟩
    rw [← State.aged_ageClasses p.val (List.range 8) s]
    exact State.headFresh_ageClasses _ s (.inl (List.mem_range.mpr hc))
  case otherwise =>
    intro p s h5 h6
    rw [exec_retrainAgeScan, if_pos (by simp [h5, h6])]

end Sys2Proof.Machine
end

section
/-! A load from a burred register area (R202, R258, R383): O46. The statement names the window that an access fails and not the register
area, whose burred pages are judged first. -/

namespace Sys2Proof.Machine

/-! ## A load whose address comes from a burred page

The page of the scalar and mask registers of a RUNNING context is burred. Its bundle loads through window 0, which admits nothing: the
context is faulted with POISON for its registers before its window is judged. -/

/-- Context 0 runs on lathe 0, next to issue a load through a window of length 0; the page of its scalar registers is burred. -/
def burredLoad : State := (wOn0 0 3 wLoad wOn).setCtx 0 (fun x => { x with areaBurr := [areaPage] })

theorem burredLoad_issues :
    burredLoad.latheServes 0 = true ∧ burredLoad.nextThread 0 = some 0 ∧ burredLoad.isStock 0 = false := by decide +kernel

/-- The bundle that is next: the load alone. -/
def burredBundle : Bundle := ⟨8, false, 0, .nop, .nop, .nop, .nop, .lds 0 0 0 0, .nop, false⟩

theorem burredLoad_decodes : burredBundle = decodeBundle (burredLoad.ctx 0).program (burredLoad.ctx 0).regs.pc := by decide +kernel

/-- It is executed once; its registers exist, it needs no ring and no pipeline. -/
theorem burredLoad_bundle :
    (burredLoad.ctx 0).regs.pc + burredBundle.len ≤ recProgLen (burredLoad.ctx 0).live
      ∧ (burredLoad.ctx 0).regs.repN.getD (burredBundle.count (burredLoad.ctx 0).regs) = 1
      ∧ burredBundle.noReg (burredLoad.ctx 0).live = none ∧ burredLoad.badRing 0 burredBundle = false
      ∧ burredBundle.pipe = false := by decide +kernel

/-- It reads four bytes at offset 0 of window 0, and the window admits none. -/
theorem burredLoad_access :
    burredBundle.m.access (burredLoad.ctx 0).regs = some ⟨0, 0, 4, false⟩
      ∧ winPasses (recWin (burredLoad.ctx 0).live 0) 0 4 false = false := by decide +kernel

/-- The fault is POISON, not WINDOW. -/
theorem burredLoad_poisoned : recFault ((burredLoad.after (.bundleExecute 0 .none)).ctx 0).record = 9 := by decide +kernel

/-- A WINDOW fault for the access would stand in the record as such. -/
theorem burredLoad_window :
    recFault (((((burredLoad.setLathe 0 (fun l => { l with lastIssue := burredLoad.threadKey 0 0 + 1 })).setRegs 0
      (fun x => { x with repN := some 1 })).fault 0 2 ⟨5, false, 0, 4, 0⟩).resumeReset 0).ctx 0).record = 2 := by decide +kernel

/-- Refutes O46: an access that fails its window check faults with POISON, not with WINDOW, where the register area is burred. -/
theorem not_latheWork : ¬ Obligations.LatheWork := by
  rintro ⟨-, -, -, -, hwindow, -⟩
  obtain ⟨hserves, hnext, hstock⟩ := burredLoad_issues
  obtain ⟨hlen, hcount, hreg, hring, hpipe⟩ := burredLoad_bundle
  obtain ⟨haccess, hfails⟩ := burredLoad_access
  have hexec := hwindow 0 .none 0 1 burredBundle _ burredLoad hserves hnext hstock burredLoad_decodes hlen hcount (by decide) hreg hring hpipe haccess hfails
  have hpoison := burredLoad_poisoned
  rw [State.after_of_next hexec] at hpoison
  exact absurd (hpoison.symm.trans burredLoad_window) (by decide)

end Sys2Proof.Machine
end

section
/-! A START's load on a context that holds the grant (R219, R247): O49. The statement speaks of every state, and a move takes a load that
still runs with it. -/

namespace Sys2Proof.Machine

/-! ## EVICT of a PARKED holder in load

A START's load gives way to a move: the context counts as RUNNING from then on. A context asks for the grant only after its load, but the
statement does not say that its holder has none. -/

/-- Context 0 is PARKED on lathe 0, its program is being loaded into slot 15, and it holds the grant. -/
def loadingHolder : State := wHolds 0 ((wOn0 0 2 wSkip wOn).setCtx 0 (fun x => { x with move := .load 15 }))

theorem loadingHolder_evictable :
    loadingHolder.judge wFw (dLathe 0) = .applied ∧ loadingHolder.role 0 ≠ 0xF ∧ loadingHolder.fld (ltStat 0) F.LtStat.busy = 0
      ∧ loadingHolder.canEvict 0 0 = true ∧ (loadingHolder.lathe 0).holder = some 0 ∧ loadingHolder.ctxState 0 = csParked := by
  decide +kernel

/-- EVICT ends the load, and the context is RUNNING until its grain boundary. -/
theorem loadingHolder_runs : (loadingHolder.after (.evict wFw 0 0)).ctxState 0 = csRunning := by decide +kernel

/-- Refutes O49: EVICT of a holder whose program is still being loaded takes it from PARKED to RUNNING at once. -/
theorem not_contextsMove : ¬ Obligations.ContextsMove := by
  rintro ⟨hevict, -⟩
  obtain ⟨hw, hrole, hbusy, hcan, hholder, hparked⟩ := loadingHolder_evictable
  obtain ⟨t, ht, hstate, -⟩ := (hevict wFw 0 0 loadingHolder hw hrole hbusy hcan).2 hholder
  have hruns := loadingHolder_runs
  rw [State.after_of_next ht] at hruns
  exact absurd (hruns.symm.trans (hstate.trans hparked)) (by decide)

end Sys2Proof.Machine
end

section
/-! Context records and the contexts of a lathe (R199, R203, R216): what a field of a record reads after another is written, and which
contexts stay resident. -/

namespace Sys2Proof

/-! ## The keys of a table -/

theorem Tbl.mem_keysWhere {α : Type} {p : α → Bool} {k : Nat} : ∀ {t : Tbl α}, k ∈ t.keysWhere p ↔ ∃ v, (k, v) ∈ t ∧ p v = true
  | [] => by simp [Tbl.keysWhere]
  | (j, w) :: t => by
    rw [Tbl.keysWhere]
    split
    next hw =>
      rw [List.mem_cons, Tbl.mem_keysWhere]
      constructor
      · rintro (rfl | ⟨v, hv, hp⟩)
        · exact ⟨w, List.mem_cons_self, hw⟩
        · exact ⟨v, List.mem_cons_of_mem _ hv, hp⟩
      · rintro ⟨v, hv, hp⟩
        rcases List.mem_cons.mp hv with heq | hv
        · exact .inl (congrArg Prod.fst heq)
        · exact .inr ⟨v, hv, hp⟩
    next hw =>
      rw [Tbl.mem_keysWhere]
      constructor
      · rintro ⟨v, hv, hp⟩
        exact ⟨v, List.mem_cons_of_mem _ hv, hp⟩
      · rintro ⟨v, hv, hp⟩
        rcases List.mem_cons.mp hv with heq | hv
        · obtain ⟨-, rfl⟩ := Prod.mk.inj heq
          exact absurd hp hw
        · exact ⟨v, hv, hp⟩

/-- An entry that differs from what an unlisted key reads as is listed. -/
theorem Tbl.mem_of_get_ne {α : Type} {d : Nat → α} {k : Nat} : ∀ {t : Tbl α}, t.get d k ≠ d k → (k, t.get d k) ∈ t
  | [], h => absurd rfl h
  | (j, w) :: t, h => by
    rw [Tbl.get] at h ⊢
    split at h
    next hj => rw [if_pos hj, hj]; exact List.mem_cons_self
    next hj => rw [if_neg hj]; exact List.mem_cons_of_mem _ (Tbl.mem_of_get_ne h)

theorem Tbl.mem_del_of_ne {α : Type} {k j : Nat} {v : α} (hne : j ≠ k) : ∀ {t : Tbl α}, (j, v) ∈ t → (j, v) ∈ t.del k
  | (i, w) :: t, h => by
    rw [Tbl.del]
    rcases List.mem_cons.mp h with heq | h
    · rw [if_neg (fun hk : k = i => hne ((congrArg Prod.fst heq).trans hk.symm)), heq]
      exact List.mem_cons_self
    · split
      · exact Tbl.mem_del_of_ne hne h
      · exact List.mem_cons_of_mem _ (Tbl.mem_del_of_ne hne h)

theorem Tbl.mem_put_same {α : Type} (k : Nat) (v : α) : ∀ t : Tbl α, (k, v) ∈ t.put k v
  | [] => List.mem_cons_self
  | (j, w) :: t => by
    rw [Tbl.put]
    split
    · exact List.mem_cons_self
    · split
      · exact List.mem_cons_self
      · exact List.mem_cons_of_mem _ (Tbl.mem_put_same k v t)

/-- A write takes no entry away but the one that is read at its key. -/
theorem Tbl.mem_put_or_eq_get {α : Type} (d : Nat → α) {k j : Nat} {v w : α} :
    ∀ {t : Tbl α}, (j, v) ∈ t → (j, v) ∈ t.put k w ∨ j = k ∧ v = t.get d k
  | (i, x) :: t, h => by
    rw [Tbl.put, Tbl.get]
    split
    next hi =>
      rcases List.mem_cons.mp h with heq | h
      · exact .inr ⟨(congrArg Prod.fst heq).trans hi.symm, congrArg Prod.snd heq⟩
      · exact .inl (List.mem_cons_of_mem _ h)
    next hi =>
      split
      · exact .inl (List.mem_cons_of_mem _ h)
      · rcases List.mem_cons.mp h with heq | h
        · exact .inl (heq ▸ List.mem_cons_self)
        · exact (Tbl.mem_put_or_eq_get d h).imp_left (List.mem_cons_of_mem _)

/-- A change that leaves it open for no entry whether it is counted takes no key in. -/
theorem Tbl.mem_keysWhere_of_modify {α : Type} [DecidableEq α] {d : Nat → α} {p : α → Bool} {f : α → α} {t : Tbl α} {k j : Nat}
    (hd : p (d k) = false) (hf : p (f (t.get d k)) = p (t.get d k)) (h : j ∈ (t.modify d k f).keysWhere p) : j ∈ t.keysWhere p := by
  obtain ⟨v, hv, hp⟩ := Tbl.mem_keysWhere.mp h
  rw [Tbl.modify, Tbl.set] at hv
  split at hv
  · exact Tbl.mem_keysWhere.mpr ⟨v, Tbl.mem_del hv, hp⟩
  · rcases Tbl.mem_put hv with heq | hv
    · obtain ⟨rfl, rfl⟩ := Prod.mk.inj heq
      rw [hf] at hp
      exact Tbl.mem_keysWhere.mpr ⟨_, Tbl.mem_of_get_ne (fun hdflt => by rw [hdflt, hd] at hp; exact absurd hp (by decide)), hp⟩
    · exact Tbl.mem_keysWhere.mpr ⟨v, hv, hp⟩

/-- Nor does it take a key away whose entry stays listed. -/
theorem Tbl.mem_keysWhere_modify {α : Type} [DecidableEq α] {d : Nat → α} {p : α → Bool} {f : α → α} {t : Tbl α} {k j : Nat}
    (hf : p (f (t.get d k)) = p (t.get d k)) (hlisted : j = k → f (t.get d k) ≠ d k) (h : j ∈ t.keysWhere p) :
    j ∈ (t.modify d k f).keysWhere p := by
  obtain ⟨v, hv, hp⟩ := Tbl.mem_keysWhere.mp h
  refine Tbl.mem_keysWhere.mpr ?_
  rw [Tbl.modify, Tbl.set]
  split
  next hdflt => exact ⟨v, Tbl.mem_del_of_ne (fun hj => hlisted hj hdflt) hv, hp⟩
  next =>
    rcases Tbl.mem_put_or_eq_get d (k := k) (w := f (t.get d k)) hv with hput | ⟨rfl, rfl⟩
    · exact ⟨v, hput, hp⟩
    · exact ⟨_, Tbl.mem_put_same _ _ _, hf.trans hp⟩

end Sys2Proof

namespace Sys2Proof.Machine

/-! ## Fields of a context record (R203) -/

theorem setBitsOf_testBit (n lo wid x i : Nat) :
    (setBitsOf n lo wid x).testBit i = if lo ≤ i ∧ i < lo + wid then x.testBit (i - lo) else n.testBit i := by
  have hsplit : n = 2 ^ lo * (2 ^ wid * (n / 2 ^ lo / 2 ^ wid) + bitsOf n lo wid) + n % 2 ^ lo := by
    rw [bitsOf, Nat.shiftRight_eq_div_pow, Nat.div_add_mod, Nat.div_add_mod]
  have hset : setBitsOf n lo wid x = 2 ^ lo * (2 ^ wid * (n / 2 ^ lo / 2 ^ wid) + x % 2 ^ wid) + n % 2 ^ lo := by
    rw [setBitsOf]
    generalize bitsOf n lo wid = b at hsplit ⊢
    generalize n / 2 ^ lo / 2 ^ wid = q at hsplit ⊢
    generalize n % 2 ^ lo = c at hsplit ⊢
    rw [hsplit, Nat.mul_add, Nat.mul_add, Nat.mul_comm b, Nat.mul_comm (x % 2 ^ wid)]
    omega
  have hlow : n % 2 ^ lo < 2 ^ lo := Nat.mod_lt _ (Nat.two_pow_pos _)
  rw [hset, Nat.testBit_two_pow_mul_add _ hlow]
  by_cases hlo : i < lo
  · rw [if_pos hlo, if_neg (by omega), Nat.testBit_mod_two_pow, decide_eq_true hlo, Bool.true_and]
  · rw [if_neg hlo, Nat.testBit_two_pow_mul_add _ (Nat.mod_lt _ (Nat.two_pow_pos _))]
    by_cases hhi : i - lo < wid
    · rw [if_pos hhi, if_pos (by omega), Nat.testBit_mod_two_pow, decide_eq_true hhi, Bool.true_and]
    · rw [if_neg hhi, if_neg (by omega), Nat.div_div_eq_div_mul, ← Nat.pow_add, Nat.testBit_div_two_pow]
      congr 1
      omega

theorem recPut_testBit (r : CtxRec) (off wid x i : Nat) (hi : i < 4096) :
    (recPut r off wid x).toNat.testBit i
      = if 8 * off ≤ i ∧ i < 8 * off + 8 * wid then x.testBit (i - 8 * off) else r.toNat.testBit i := by
  rw [recPut, BitVec.testBit_toNat, BitVec.getLsbD_ofNat, decide_eq_true hi, Bool.true_and, setBitsOf_testBit]

/-- A field of a record reads what was written to it. -/
theorem recF_recPut_same (r : CtxRec) (off wid x : Nat) (h : off + wid ≤ 512) : recF (recPut r off wid x) off wid = x % 2 ^ (8 * wid) := by
  apply Nat.eq_of_testBit_eq
  intro i
  rw [recF, bitsOf_testBit, Nat.testBit_mod_two_pow]
  by_cases hi : i < 8 * wid
  · rw [recPut_testBit _ _ _ _ _ (by omega), if_pos (by omega), Nat.add_sub_cancel_left]
  · rw [decide_eq_false hi, Bool.false_and, Bool.false_and]

/-- A write of one field of a record leaves the others. -/
theorem recF_recPut_apart (r : CtxRec) (off wid x off' wid' : Nat) (h : off' + wid' ≤ 512)
    (hapart : off + wid ≤ off' ∨ off' + wid' ≤ off) : recF (recPut r off wid x) off' wid' = recF r off' wid' := by
  apply Nat.eq_of_testBit_eq
  intro i
  rw [recF, recF, bitsOf_testBit, bitsOf_testBit]
  by_cases hi : i < 8 * wid'
  · rw [recPut_testBit _ _ _ _ _ (by omega), if_neg (by omega)]
  · rw [decide_eq_false hi, Bool.false_and, Bool.false_and]

theorem recState_recPut_apart (r : CtxRec) (off wid x : Nat) (h : off + wid ≤ 2 ∨ 4 ≤ off) : recState (recPut r off wid x) = recState r := by
  rw [recState, recState, recF_recPut_apart r off wid x 2 2 (by decide) h]

theorem recFault_recPut_apart (r : CtxRec) (off wid x : Nat) (h : off + wid ≤ 487 ∨ 488 ≤ off) : recFault (recPut r off wid x) = recFault r :=
  recF_recPut_apart r off wid x 487 1 (by decide) h

/-- STATE of a record reads what was written to it. -/
theorem recState_put (r : CtxRec) (st : Nat) (h : st < 2 ^ 4) : recState (recPut r 2 2 (setBitsOf (recF r 2 2) 0 4 st)) = st := by
  rw [recState, recF_recPut_same _ _ _ _ (by decide)]
  apply Nat.eq_of_testBit_eq
  intro i
  rw [bitsOf_testBit, Nat.testBit_mod_two_pow, setBitsOf_testBit]
  by_cases hi : i < 4
  · simp [hi, show i < 16 by omega]
  · rw [decide_eq_false hi, Bool.false_and, Nat.testBit_lt_two_pow]
    exact Nat.lt_of_lt_of_le h (Nat.pow_le_pow_right Nat.two_pos (Nat.not_lt.mp hi))

end Sys2Proof.Machine
end

section
/-! What the fault of a context leaves as it was (R210, R260, R261): the watchdog's registers, the requesters' epochs, who stands on
which lathe, the descriptors of the collectives, and each lathe but for its arbiter. -/

namespace Sys2Proof.Machine

/-! ## Contexts and lathes, read after a step that leaves them -/

theorem State.ctx_of_ctxs {s t : State} (h : t.ctxs = s.ctxs) (c : Nat) : t.ctx c = s.ctx c := by
  rw [State.ctx, State.ctx, h]

theorem State.lathe_of_lathes {s t : State} (h : t.lathes = s.lathes) (k : Nat) : t.lathe k = s.lathe k := by
  rw [State.lathe, State.lathe, h]

theorem State.lathe_setLathe_ne (s : State) {k j : Nat} (f : LatheSt → LatheSt) (h : j ≠ k) : (s.setLathe k f).lathe j = s.lathe j := by
  simp [State.lathe, State.setLathe, Tbl.get_modify, h]

/-- What a change of a lathe leaves reads the same on every lathe. -/
theorem State.lathe_setLathe_proj {α : Type} (g : LatheSt → α) (s : State) (k j : Nat) {f : LatheSt → LatheSt}
    (hf : ∀ l, g (f l) = g l) : g ((s.setLathe k f).lathe j) = g (s.lathe j) := by
  by_cases h : j = k
  · subst h
    rw [State.lathe_setLathe_same, hf]
  · rw [s.lathe_setLathe_ne f h]

/-- What a change of a context leaves reads the same of every context. -/
theorem State.ctx_setCtx_proj {α : Type} (g : CtxSt → α) (s : State) (c i : Nat) {f : CtxSt → CtxSt}
    (hf : ∀ x, g (f x) = g x) : g ((s.setCtx c f).ctx i) = g (s.ctx i) := by
  by_cases h : i = c
  · subst h
    rw [State.ctx_setCtx_same, hf]
  · rw [State.ctx_setCtx_ne _ _ _ _ h]

theorem CtxSt.state_free : recState CtxSt.free.record = csFree := by decide +kernel

/-! ## The relation -/

/-- The registers at the place of LT_WDOG_STAT in a lathe's block (R220). -/
def BiteReg (off : Nat) : Prop := 0x01400000 ≤ off ∧ off < 0x01800000 ∧ off % 0x4000 = 0x10

/-- A lathe but for its arbiter: who holds or asks for the grant, and since when. -/
def LatheSt.apart (l : LatheSt) : LatheSt := { l with holder := none, pending := [], since := 0, granted := 0 }

/-- A step that stops a context leaves this of everything else: the watchdogs' registers, the epochs, who is resident on which lathe
(but that a FREE one may go), which contexts are used, their collectives' descriptors, and the lathes but for their arbiters. -/
structure StopKeeps (s t : State) : Prop where
  rd : ∀ off, BiteReg off → t.rd off = s.rd off
  epochs : t.bench.epochs = s.bench.epochs
  old : ∀ k i, i ∈ t.residents k → i ∈ s.residents k
  stays : ∀ k i, s.ctxState i ≠ csFree → i ∈ s.residents k → i ∈ t.residents k
  used : ∀ i, s.ctxState i ≠ csFree → t.ctxState i ≠ csFree
  desc : ∀ i, (t.ctx i).coll.desc = (s.ctx i).coll.desc
  lathe : ∀ k, (t.lathe k).apart = (s.lathe k).apart

/-- STATE and FAULT of a context's record. -/
def CtxSt.marks (x : CtxSt) : Nat × Nat := (recState x.record, recFault x.record)

/-- A step that leaves STATE and FAULT of every context too. -/
structure StopAside (s t : State) : Prop extends StopKeeps s t where
  marks : ∀ i, (t.ctx i).marks = (s.ctx i).marks

section
variable {s t u : State}

theorem StopKeeps.trans (h : StopKeeps s t) (h' : StopKeeps t u) : StopKeeps s u where
  rd off hoff := (h'.rd off hoff).trans (h.rd off hoff)
  epochs := h'.epochs.trans h.epochs
  old k i hi := h.old k i (h'.old k i hi)
  stays k i hst hi := h'.stays k i (h.used i hst) (h.stays k i hst hi)
  used i hst := h'.used i (h.used i hst)
  desc i := (h'.desc i).trans (h.desc i)
  lathe k := (h'.lathe k).trans (h.lathe k)

theorem StopAside.trans (h : StopAside s t) (h' : StopAside t u) : StopAside s u where
  toStopKeeps := h.toStopKeeps.trans h'.toStopKeeps
  marks i := (h'.marks i).trans (h.marks i)

/-- One operation after what came before. -/
theorem StopAside.step (h' : StopAside t u) (h : StopAside s t) : StopAside s u := h.trans h'

theorem StopKeeps.hasColl (h : StopKeeps s t) (c : Nat) : t.hasColl c = s.hasColl c := by
  rw [State.hasColl, State.hasColl, h.desc]

theorem StopAside.of_same (hrd : ∀ off, BiteReg off → t.rd off = s.rd off) (hepochs : t.bench.epochs = s.bench.epochs)
    (hctxs : t.ctxs = s.ctxs) (hlathe : ∀ k, (t.lathe k).apart = (s.lathe k).apart) : StopAside s t where
  rd := hrd
  epochs := hepochs
  old k i hi := by rwa [State.residents, hctxs] at hi
  stays k i _ hi := by rwa [State.residents, hctxs]
  used i hst := by rwa [State.ctxState, State.ctx_of_ctxs hctxs]
  desc i := by rw [State.ctx_of_ctxs hctxs]
  lathe := hlathe
  marks i := by rw [State.ctx_of_ctxs hctxs]

/-- A step that writes no register, bench, context or lathe. -/
theorem StopAside.of_touches {m : Nat} (h : Touches m s t) (hm : m &&& 0x182008 = 0) : StopAside s t := by
  have bit {i : Nat} (hi : Nat.testBit 0x182008 i = true) : m.testBit i = false := testBit_of_and_eq_zero hm hi
  exact .of_same (fun off _ => h.rd (bit (by decide)) off) (congrArg BenchSt.epochs (h.same 13 (bit (by decide))))
    (h.same 19 (bit (by decide))) fun k => congrArg LatheSt.apart (State.lathe_of_lathes (h.same 20 (bit (by decide))) k)

theorem StopAside.refl (s : State) : StopAside s s := .of_touches (.refl 0 s) rfl

theorem StopAside.foldl {α : Type} {f : State → α → State} (hf : ∀ s a, StopAside s (f s a)) (l : List α) (s : State) :
    StopAside s (l.foldl f s) := by
  induction l generalizing s with
  | nil => exact .refl s
  | cons a l ih => exact (hf s a).trans (ih _)

/-- A write of another register. -/
theorem StopAside.setFld (s : State) {r : Nat} (f : Fld) (x : Nat) (h : ¬ BiteReg r) : StopAside s (s.setFld r f x) :=
  .of_same (fun off hoff => s.rd_setFld_ne r off f x fun heq => h (heq ▸ hoff)) rfl rfl fun _ => rfl

theorem StopAside.count (s : State) {r : Nat} (f : Fld) (h : ¬ BiteReg r) : StopAside s (s.count r f) := .setFld s f _ h

theorem StopAside.withBench (s : State) {f : BenchSt → BenchSt} (h : (f s.bench).epochs = s.bench.epochs) : StopAside s (s.withBench f) :=
  .of_same (fun _ _ => rfl) h rfl fun _ => rfl

theorem StopAside.setLathe (s : State) (k : Nat) {f : LatheSt → LatheSt} (h : ∀ l, (f l).apart = l.apart) : StopAside s (s.setLathe k f) :=
  .of_same (fun _ _ => rfl) rfl rfl fun j => s.lathe_setLathe_proj LatheSt.apart k j h

/-- A change of one context that leaves it on its lathe, with its descriptor, and does not free it. -/
theorem StopKeeps.setCtx (s : State) (c : Nat) {f : CtxSt → CtxSt} (hphys : ∀ x, (f x).phys = x.phys)
    (hdesc : ∀ x, (f x).coll.desc = x.coll.desc) (hused : ∀ x, recState x.record ≠ csFree → recState (f x).record ≠ csFree) :
    StopKeeps s (s.setCtx c f) where
  rd _ _ := rfl
  epochs := rfl
  old k i hi := by
    refine Tbl.mem_keysWhere_of_modify (f := f) rfl ?_ hi
    rw [hphys]
  stays k i hst hi := by
    refine Tbl.mem_keysWhere_modify (f := f) ?_ (fun hic (hfree : f (s.ctx c) = CtxSt.free) => ?_) hi
    · rw [hphys]
    · subst hic
      exact hused (s.ctx i) hst ((congrArg (fun x : CtxSt => recState x.record) hfree).trans CtxSt.state_free)
  used i hst := by
    rw [State.ctxState]
    by_cases hic : i = c
    · subst hic
      rw [State.ctx_setCtx_same]
      exact hused _ hst
    · rwa [State.ctx_setCtx_ne _ _ _ _ hic]
  desc i := s.ctx_setCtx_proj (fun x => x.coll.desc) c i hdesc
  lathe _ := rfl

theorem StopAside.setCtx (s : State) (c : Nat) {f : CtxSt → CtxSt} (hphys : ∀ x, (f x).phys = x.phys)
    (hdesc : ∀ x, (f x).coll.desc = x.coll.desc) (hmarks : ∀ x, (f x).marks = x.marks) : StopAside s (s.setCtx c f) where
  toStopKeeps := .setCtx s c hphys hdesc fun x hst => by
    have hst' : recState (f x).record = recState x.record := congrArg Prod.fst (hmarks x)
    rwa [hst']
  marks i := s.ctx_setCtx_proj CtxSt.marks c i hmarks

/-- A write of a context's record behind STATE and beside FAULT. -/
theorem StopAside.putRec (s : State) (c off wid v : Nat) (h : 4 ≤ off) (hfault : off + wid ≤ 487 ∨ 488 ≤ off) :
    StopAside s (s.putRec c off wid v) := by
  refine .setCtx s c (fun _ => rfl) (fun _ => rfl) fun x => ?_
  rw [CtxSt.marks, CtxSt.marks]
  dsimp only
  rw [recState_recPut_apart _ _ _ _ (.inr h), recFault_recPut_apart _ _ _ _ hfault]

end

end Sys2Proof.Machine
end

section
/-! A context leaves its lathe and faults: what each part of a fault leaves of the rest (R206, R210, R260, R261). -/

namespace Sys2Proof.Machine

/-! ## Registers that a fault writes -/

theorem not_biteReg_ltSlot (k : Nat) {i : Nat} (h : i < 16) : ¬ BiteReg (ltSlot k i) := by
  simp only [BiteReg, ltSlot, R.ltSlot]
  omega

theorem not_biteReg_ltStat (k : Nat) : ¬ BiteReg (ltStat k) := by
  simp only [BiteReg, ltStat, R.ltStat]
  omega

theorem not_biteReg_ltdCtxStat (d : Nat) : ¬ BiteReg (R.ltdCtxStat d) := by
  simp only [BiteReg, R.ltdCtxStat]
  omega

theorem not_biteReg_ltFaultStat (d p : Nat) : ¬ BiteReg (R.ltFaultStat d p) := by
  simp only [BiteReg, R.ltFaultStat]
  omega

theorem not_biteReg_ltFaultLast (d p : Nat) : ¬ BiteReg (R.ltFaultLast d p) := by
  simp only [BiteReg, R.ltFaultLast]
  omega

theorem not_biteReg_ltFaultAddr (d p : Nat) : ¬ BiteReg (R.ltFaultAddr d p) := by
  simp only [BiteReg, R.ltFaultAddr]
  omega

theorem not_biteReg_svJobHit (r : CtxRec) : ¬ BiteReg (R.svJobHit (recJob r)) := by
  have hlow := svJobHit_low r
  simp only [BiteReg]
  omega

theorem not_biteReg_qdropReg (q : Nat) : ¬ BiteReg (qdropReg q) := by
  simp only [BiteReg, qdropReg, R.bchQdrop]
  omega

theorem not_biteReg_bchShavStat (d : Nat) : ¬ BiteReg (R.bchShavStat d) := by
  simp only [BiteReg, R.bchShavStat]
  omega

theorem biteReg_ne_errqReg {off : Nat} (h : BiteReg off) (d : Nat) : off ≠ errqReg d := by
  simp only [BiteReg] at h
  unfold errqReg dieBase
  grind

theorem biteReg_ne_glbEscStat {off : Nat} (h : BiteReg off) : off ≠ R.glbEscStat := by
  simp only [BiteReg] at h
  simp only [R.glbEscStat]
  omega

/-! ## The arbiter (R206, R208) -/

theorem stopAside_setWait (s : State) (c : Nat) (w : Wait) : StopAside s (s.setWait c w) :=
  .setCtx s c (fun _ => rfl) (fun _ => rfl) fun _ => rfl

theorem State.slotOf_lt {s : State} {k c i : Nat} (h : s.slotOf k c = some i) : i < 16 := List.mem_range.mp (List.mem_of_find?_eq_some h)

theorem stopAside_chargeGrant (s : State) (k : Nat) : StopAside s (s.chargeGrant k) := by
  unfold State.chargeGrant
  split
  · exact .refl s
  next c _ =>
  extract_lets d timed counted recorded j was charged
  have htimed : StopAside s timed := .setLathe s k fun _ => rfl
  have hcounted : StopAside s counted := by
    unfold counted
    split
    next i hi => exact .step (.setFld timed _ _ (not_biteReg_ltSlot k (State.slotOf_lt hi))) htimed
    next => exact htimed
  have hrecorded : StopAside s recorded := .step (.putRec counted c 488 8 _ (by decide) (.inr (by decide))) hcounted
  have hcharged : StopAside s charged := .step (.of_touches (recorded.setJob_touches _ _) rfl) hrecorded
  split
  · exact .step (.count _ _ (not_biteReg_svJobHit _)) (.step (.of_touches (charged.setJob_touches _ _) rfl) hcharged)
  · exact hcharged

theorem stopAside_grantNext (s : State) (k : Nat) : StopAside s (s.grantNext k) := by
  unfold State.grantNext
  split
  · exact .refl s
  · split
    · exact .refl s
    next c _ =>
      extract_lets granted
      have hgranted : StopAside s granted := .setLathe s k fun _ => rfl
      split
      · exact .step (stopAside_setWait granted c _) hgranted
      · exact hgranted

theorem stopAside_dropGrant (s : State) (k : Nat) : StopAside s (s.dropGrant k) :=
  .step (.setLathe _ k fun _ => rfl) (stopAside_chargeGrant s k)

theorem stopAside_leavePipe (s : State) (k c : Nat) : StopAside s (s.leavePipe k c) := by
  unfold State.leavePipe
  extract_lets left
  have hleft : StopAside s left := .setLathe s k fun _ => rfl
  split
  · exact .step (stopAside_grantNext _ k) (.step (stopAside_dropGrant left k) hleft)
  · exact hleft

/-! ## Grains and notices on the bench (R143, R210, R273) -/

theorem stopAside_setGrain (s : State) (ptr : Nat) (g : GrainSt) : StopAside s (s.setGrain ptr g) := .withBench s rfl

theorem stopAside_unref (s : State) (ptr : Nat) : StopAside s (s.unref ptr) := by
  unfold State.unref
  extract_lets g
  split
  · exact stopAside_setGrain _ _ _
  · exact stopAside_setGrain _ _ _

theorem stopAside_releaseNotices (s : State) (l : List Notice) : StopAside s (s.releaseNotices l) := by
  refine .foldl (fun s n => ?_) l s
  unfold State.releaseNotice
  split
  · exact stopAside_unref s _
  · exact .refl s

theorem stopAside_dropAllocs (s : State) (c : Nat) : StopAside s (s.dropAllocs c) := by
  unfold State.dropAllocs
  extract_lets mine freed
  have hfreed : StopAside s freed := .foldl (fun s g => stopAside_setGrain s _ _) _ s
  exact .step (.withBench freed rfl) hfreed

theorem stopAside_unwait (s : State) (c : Nat) : StopAside s (s.unwait c) := by
  unfold State.unwait
  extract_lets dropped
  have hdropped : StopAside s dropped := stopAside_dropAllocs s c
  split
  · exact .step (stopAside_setWait dropped c _) hdropped
  · exact hdropped

/-! ## A move that is given up (R260, R265) -/

theorem stopAside_endMove (s : State) (c : Nat) : StopAside s (s.endMove c) := by
  unfold State.endMove
  extract_lets freed
  have hfreed : StopAside s freed := by
    unfold freed
    split
    · exact .setFld s _ _ (not_biteReg_ltStat _)
    · exact .refl s
  exact .step (.setCtx freed c (fun _ => rfl) (fun _ => rfl) fun _ => rfl) hfreed

theorem stopAside_dropMove (s : State) (c : Nat) : StopAside s (s.dropMove c) := by
  unfold State.dropMove
  extract_lets idled
  refine .step (stopAside_endMove idled c) ?_
  unfold idled
  split
  · exact .setFld s _ _ (not_biteReg_ltdCtxStat _)
  · exact .refl s

/-! ## Packets that the part makes (R159, R261) -/

theorem stopAside_captureDrop (s : State) (k : Pkt) (cause reason : Nat) (q : Option Nat) : StopAside s (s.captureDrop k cause reason q) := by
  unfold State.captureDrop
  split
  · unfold State.capturePkt
    extract_lets d half leader now last seq arch noted depth body entry stored counted
    have hnoted : StopAside s noted := .withBench s rfl
    split
    · exact .count s _ (not_biteReg_bchShavStat leader)
    · split
      · exact .step (.count noted _ (not_biteReg_bchShavStat leader)) hnoted
      · have hstored : StopAside s stored := .step (.withBench noted rfl) hnoted
        have hcounted : StopAside s counted := .step (.withBench stored rfl) hstored
        exact .step (.setFld counted _ _ (not_biteReg_bchShavStat leader)) hcounted
  · exact .refl s

theorem stopAside_linkHeld (s : State) (k : Pkt) : StopAside s (s.linkHeld k) := by
  unfold State.linkHeld
  extract_lets q queued
  split
  · exact .step (.count _ _ (not_biteReg_qdropReg q)) (.step (.foldl stopAside_unref _ _) (stopAside_captureDrop s k 6 0 (some q)))
  · split
    · exact .withBench s rfl
    · exact .step (.withBench queued rfl) (.withBench s rfl)

theorem stopAside_linkGenerated (s : State) (k : Pkt) : StopAside s (s.linkGenerated k) := by
  unfold State.linkGenerated
  extract_lets q
  split
  · exact .step (.count _ _ (not_biteReg_qdropReg q)) (stopAside_captureDrop s k 6 0 (some q))
  · exact .step (stopAside_linkHeld _ k) (.foldl (fun s g => stopAside_setGrain s g _) k.grains s)

theorem stopAside_sendEvent (s : State) (c : Nat) (dst : Dest) (payload : Nat) : StopAside s (s.sendEvent c dst payload) := by
  unfold State.sendEvent
  extract_lets x j stamp send
  have hsend (port dr sr cx : Nat) (epid : Option Nat) : StopAside s (send port dr sr cx epid) := stopAside_linkGenerated s _
  split
  · exact hsend _ _ _ _ _
  · split
    · exact .of_touches (s.emit_touches _) rfl
    · exact hsend _ _ _ _ _
  · split
    · exact .of_touches (s.emit_touches _) rfl
    · exact hsend _ _ _ _ _

/-! ## The report of a fault (R260, R263) -/

theorem stopAside_raise (s : State) (r : ErrRec) : StopAside s (s.raise r) :=
  have h := s.raise_touches r
  .of_same (fun off hoff => s.rd_raise r off (biteReg_ne_errqReg hoff _) (biteReg_ne_glbEscStat hoff)) (congrArg BenchSt.epochs (h.same 13 rfl))
    (h.same 19 rfl) fun k => congrArg LatheSt.apart (State.lathe_of_lathes (h.same 20 rfl) k)

theorem stopAside_faultRegs (s : State) (d p c code now : Nat) (at_ : FaultAt) : StopAside s (s.faultRegs d p c code now at_) := by
  have hlast (s : State) (f : Fld) (x : Nat) : StopAside s (s.setFld (R.ltFaultLast d p) f x) := .setFld s f x (not_biteReg_ltFaultLast d p)
  have haddr (s : State) (f : Fld) (x : Nat) : StopAside s (s.setFld (R.ltFaultAddr d p) f x) := .setFld s f x (not_biteReg_ltFaultAddr d p)
  unfold State.faultRegs
  split
  · exact .refl s
  · extract_lets last who what slot at_pc stamped addr valid written window size
    have hstamped : StopAside s stamped :=
      .step (hlast at_pc _ _) (.step (hlast slot _ _) (.step (hlast what _ _) (.step (hlast who _ _) (hlast s _ _))))
    have hvalid : StopAside s valid := .step (haddr stamped _ _) hstamped
    split
    · exact .step (haddr size _ _) (.step (haddr window _ _) (.step (haddr written _ _) (.step (haddr valid _ _) hvalid)))
    · exact hvalid

theorem stopAside_faultReport (s : State) (c code : Nat) (at_ : FaultAt) (lathe : Option Nat) :
    StopAside s (s.faultReport c code at_ lathe) := by
  unfold State.faultReport
  extract_lets x now reported notice
  have hreported : StopAside s reported := by
    unfold reported
    split
    · exact .refl s
    next k =>
      extract_lets counted
      have hcounted : StopAside s counted := .step (.count _ _ (not_biteReg_ltFaultStat _ _)) (stopAside_faultRegs s _ _ _ _ _ _)
      exact .step (stopAside_raise counted _) hcounted
  exact .step (.foldl (fun s t => stopAside_sendEvent s c t notice) _ reported) hreported

end Sys2Proof.Machine
end

section
/-! The fault of a context of no collective (R210, R260): what it does to the context and to its lathe, and what it leaves. -/

namespace Sys2Proof.Machine

/-! ## The parts of a fault -/

/-- A context that is stopped for good: it has left its lathe's arbiter, and its formed grains, its ALLOCs and its move are given up. -/
def State.faultStopped (s : State) (c : Nat) : State :=
  let left := match (s.ctx c).phys with
    | some k => s.leavePipe k c
    | none => s
  let freed := (s.ctx c).coll.formed.foldl (fun s f => s.unref f.ptr) left
  let cleared := freed.setColl c (fun q => { q with formed := [] })
  ((cleared.dropAllocs c).dropMove c).setCtx c (fun x => { x with stopping := 0, startPend := false })

/-- A context whose record says that it faulted, with PROG and NFLAGS of x unless the code is 1. -/
def State.faultMarked (s : State) (c code : Nat) (x : CtxSt) : State :=
  let marked := (s.setCtxState c csFaulted).putRec c 487 1 code
  if code = 1 then marked else (marked.putRec c 472 8 x.regs.prog).putRec c 480 4 x.regs.nflags

/-- A fault that is reported, with the arrivals that wait for it released. -/
def State.faultTold (s : State) (c code : Nat) (at_ : FaultAt) (lathe : Option Nat) : State :=
  let told := s.faultReport c code at_ lathe
  (told.releaseNotices ((told.ctx c).coll.pend ++ (told.ctx c).coll.early)).setColl c (fun q => { q with pend := [], early := [] })

theorem State.faultOne_of_live {s : State} {c : Nat} (hused : s.ctxState c ≠ csFree) (hlive : s.ctxState c ≠ csFaulted) (code : Nat)
    (at_ : FaultAt) : s.faultOne c code at_
      = (((s.faultStopped c).faultMarked c code (s.ctx c)).faultTold c code at_ (s.ctx c).phys).endCall c 3 0 := by
  unfold State.faultOne
  extract_lets x st left freed cleared dropped faulted kept reported noticed emptied
  have hst : st ≠ csFree := hused
  have hst' : st ≠ csFaulted := hlive
  rw [if_neg (by simp [hst, hst'])]
  rfl

theorem State.endCall_of_no_coll {s : State} {c : Nat} (h : s.hasColl c = false) (status flags : Nat) : s.endCall c status flags = s := by
  unfold State.endCall
  rw [h]
  rfl

/-! ## What each part leaves -/

theorem stopAside_setColl (s : State) (c : Nat) {f : Coll → Coll} (h : ∀ q, (f q).desc = q.desc) : StopAside s (s.setColl c f) :=
  .setCtx s c (fun _ => rfl) (fun _ => h _) fun _ => rfl

theorem stopAside_faultStopped (s : State) (c : Nat) : StopAside s (s.faultStopped c) := by
  unfold State.faultStopped
  extract_lets left freed cleared
  have hleft : StopAside s left := by
    unfold left
    split
    · exact stopAside_leavePipe s _ _
    · exact .refl s
  have hfreed : StopAside s freed := hleft.trans (.foldl (fun s f => stopAside_unref s _) _ _)
  have hcleared : StopAside s cleared := .step (stopAside_setColl freed c fun _ => rfl) hfreed
  exact .step (.setCtx _ c (fun _ => rfl) (fun _ => rfl) fun _ => rfl)
    (.step (stopAside_dropMove _ c) (.step (stopAside_dropAllocs cleared c) hcleared))

theorem stopAside_faultTold (s : State) (c code : Nat) (at_ : FaultAt) (lathe : Option Nat) : StopAside s (s.faultTold c code at_ lathe) := by
  unfold State.faultTold
  extract_lets told
  have htold : StopAside s told := stopAside_faultReport s c code at_ lathe
  exact .step (stopAside_setColl _ c fun _ => rfl) (.step (stopAside_releaseNotices told _) htold)

theorem stopKeeps_setCtxState (s : State) (c : Nat) {st : Nat} (h : st < 2 ^ 4) (hst : st ≠ csFree) : StopKeeps s (s.setCtxState c st) :=
  .setCtx s c (fun _ => rfl) (fun _ => rfl) fun x _ => by
    dsimp only
    rwa [recState_put _ _ h]

/-- FAULT of a record, written to a context that is marked as faulted. -/
theorem stopKeeps_putFault (s : State) (c code : Nat) : StopKeeps s (s.putRec c 487 1 code) :=
  .setCtx s c (fun _ => rfl) (fun _ => rfl) fun x hx => by
    dsimp only
    rwa [recState_recPut_apart _ _ _ _ (.inr (by decide))]

theorem stopKeeps_faultMarked (s : State) (c code : Nat) (x : CtxSt) : StopKeeps s (s.faultMarked c code x) := by
  unfold State.faultMarked
  extract_lets marked
  have hmarked : StopKeeps s marked := (stopKeeps_setCtxState s c (by decide) (by decide)).trans (stopKeeps_putFault _ c code)
  split
  · exact hmarked
  · have hprog : StopAside marked (marked.putRec c 472 8 x.regs.prog) := .putRec _ c 472 8 _ (by decide) (.inl (by decide))
    have hflags : StopAside (marked.putRec c 472 8 x.regs.prog) ((marked.putRec c 472 8 x.regs.prog).putRec c 480 4 x.regs.nflags) :=
      .putRec _ c 480 4 _ (by decide) (.inl (by decide))
    exact hmarked.trans (hprog.trans hflags).toStopKeeps

/-! ## What becomes of the context -/

theorem State.move_endMove (s : State) (c : Nat) : ((s.endMove c).ctx c).move = .none := by
  unfold State.endMove
  extract_lets freed
  rw [State.ctx_setCtx_same]

theorem State.move_faultStopped (s : State) (c : Nat) : ((s.faultStopped c).ctx c).move = .none := by
  unfold State.faultStopped State.dropMove
  extract_lets left freed cleared idled
  rw [State.ctx_setCtx_same]
  exact State.move_endMove idled c

/-- A write of a context's record leaves its move. -/
theorem State.move_putRec (s : State) (c off wid v : Nat) : ((s.putRec c off wid v).ctx c).move = (s.ctx c).move := by
  rw [State.putRec, State.ctx_setCtx_same]

theorem State.move_faultMarked (s : State) (c code : Nat) (x : CtxSt) : ((s.faultMarked c code x).ctx c).move = (s.ctx c).move := by
  have hmarked : (((s.setCtxState c csFaulted).putRec c 487 1 code).ctx c).move = (s.ctx c).move := by
    rw [State.move_putRec, State.setCtxState, State.ctx_setCtx_same]
  unfold State.faultMarked
  extract_lets marked
  split
  · exact hmarked
  · rw [State.move_putRec, State.move_putRec]
    exact hmarked

theorem State.marks_faultMarked (s : State) (c : Nat) {code : Nat} (x : CtxSt) (h : code < 256) :
    ((s.faultMarked c code x).ctx c).marks = (csFaulted, code) := by
  have hmarked : (((s.setCtxState c csFaulted).putRec c 487 1 code).ctx c).marks = (csFaulted, code) := by
    rw [CtxSt.marks, State.putRec, State.ctx_setCtx_same, State.setCtxState, State.ctx_setCtx_same]
    dsimp only
    rw [recState_recPut_apart _ _ _ _ (.inr (by decide)), recState_put _ _ (by decide), recFault, recF_recPut_same _ _ _ _ (by decide)]
    rw [Nat.mod_eq_of_lt (by omega)]
  unfold State.faultMarked
  extract_lets marked
  split
  · exact hmarked
  · have hprog : StopAside marked (marked.putRec c 472 8 x.regs.prog) := .putRec _ c 472 8 _ (by decide) (.inl (by decide))
    have hflags : StopAside (marked.putRec c 472 8 x.regs.prog) ((marked.putRec c 472 8 x.regs.prog).putRec c 480 4 x.regs.nflags) :=
      .putRec _ c 480 4 _ (by decide) (.inl (by decide))
    rw [(hprog.trans hflags).marks c]
    exact hmarked

theorem State.move_faultTold (s : State) (c code : Nat) (at_ : FaultAt) (lathe : Option Nat) :
    ((s.faultTold c code at_ lathe).ctx c).move = (s.ctx c).move := by
  unfold State.faultTold
  extract_lets told
  have hctxs (l : List Notice) : (told.releaseNotices l).ctxs = s.ctxs :=
    ((told.releaseNotices_touches l).same 19 rfl).trans ((s.faultReport_touches c code at_ lathe).same 19 rfl)
  rw [State.setColl, State.ctx_setCtx_same]
  exact (congrArg CtxSt.move (State.ctx_of_ctxs (hctxs ((told.ctx c).coll.pend ++ (told.ctx c).coll.early)) c) :)

/-! ## What becomes of the lathe -/

/-- Charging a holder leaves who holds the grant and who asks for it. -/
theorem State.pending_chargeGrant (s : State) (k : Nat) : ((s.chargeGrant k).lathe k).pending = (s.lathe k).pending := by
  unfold State.chargeGrant
  split
  · rfl
  next c _ =>
  extract_lets d timed counted recorded j was charged
  have htimed : (timed.lathe k).pending = (s.lathe k).pending := s.lathe_setLathe_proj LatheSt.pending k k fun _ => rfl
  have hsame (u : State) (hu : u.lathes = timed.lathes) : (u.lathe k).pending = (s.lathe k).pending := by
    rw [State.lathe_of_lathes hu, htimed]
  have hcounted : counted.lathes = timed.lathes := by
    unfold counted
    split
    · exact timed.countBy_lathes _ _ _
    · rfl
  have hrecorded : recorded.lathes = timed.lathes := ((counted.putRec_touches _ _ _ _).same 20 rfl).trans hcounted
  have hcharged : charged.lathes = timed.lathes := ((recorded.setJob_touches _ _).same 20 rfl).trans hrecorded
  split
  · exact hsame _ (((State.count_touches _ _ _).same 20 rfl).trans (((charged.setJob_touches _ _).same 20 rfl).trans hcharged))
  · exact hsame _ hcharged

theorem State.grantNext_of_quiet {s : State} {k : Nat} (h : (s.lathe k).pending = []) : s.grantNext k = s := by
  have hbest : s.bestPending k = none := by rw [State.bestPending, h]; rfl
  unfold State.grantNext
  rw [hbest]
  exact ite_self s

/-- A holder that leaves a lathe nobody else asks for leaves it without one. -/
theorem State.holder_leavePipe (s : State) (k c : Nat) (hholder : (s.lathe k).holder = some c) (hpending : (s.lathe k).pending = []) :
    ((s.leavePipe k c).lathe k).holder = none := by
  unfold State.leavePipe
  extract_lets left
  have hholds : (left.lathe k).holder = some c := by
    rw [State.lathe_setLathe_same]
    exact hholder
  have hleft : (left.lathe k).pending = [] := by
    rw [State.lathe_setLathe_same, hpending]
    rfl
  have hquiet : ((left.dropGrant k).lathe k).pending = [] := by
    rw [State.dropGrant, State.lathe_setLathe_same]
    exact (left.pending_chargeGrant k).trans hleft
  rw [if_pos hholds, State.grantNext_of_quiet hquiet, State.dropGrant, State.lathe_setLathe_same]

theorem State.lathes_faultStopped {s : State} {c k : Nat} (h : (s.ctx c).phys = some k) :
    (s.faultStopped c).lathes = (s.leavePipe k c).lathes := by
  unfold State.faultStopped
  rw [h]
  extract_lets left freed cleared
  have hfreed : freed.lathes = left.lathes :=
    (Touches.foldl (fun s f => s.unref_touches f.ptr) (.refl 0x2000 left) : Touches 0x2000 left freed).same 20 rfl
  have hcleared : cleared.lathes = left.lathes := ((freed.setColl_touches c _).same 20 rfl).trans hfreed
  have hdropped : ((cleared.dropAllocs c).dropMove c).lathes = left.lathes :=
    ((State.dropMove_touches _ c).same 20 rfl).trans (((cleared.dropAllocs_touches c).same 20 rfl).trans hcleared)
  exact ((State.setCtx_touches _ c _).same 20 rfl).trans hdropped

theorem State.lathes_faultMarked (s : State) (c code : Nat) (x : CtxSt) : (s.faultMarked c code x).lathes = s.lathes := by
  unfold State.faultMarked
  extract_lets marked
  have hmarked : marked.lathes = s.lathes := ((State.putRec_touches _ _ _ _ _).same 20 rfl).trans ((s.setCtxState_touches _ _).same 20 rfl)
  split
  · exact hmarked
  · exact ((State.putRec_touches _ _ _ _ _).same 20 rfl).trans (((marked.putRec_touches _ _ _ _).same 20 rfl).trans hmarked)

theorem State.lathes_faultTold (s : State) (c code : Nat) (at_ : FaultAt) (lathe : Option Nat) :
    (s.faultTold c code at_ lathe).lathes = s.lathes := by
  unfold State.faultTold
  extract_lets told
  exact ((State.setColl_touches _ c _).same 20 rfl).trans
    (((told.releaseNotices_touches _).same 20 rfl).trans ((s.faultReport_touches c code at_ lathe).same 20 rfl))

/-! ## The fault of a running context of no collective -/

section
variable {s : State} {c : Nat} (hrun : s.ctxState c = csRunning) (hcoll : s.hasColl c = false)
include hrun hcoll

/-- Before its call, of which there is none, would end. -/
theorem State.faultOne_of_running (code : Nat) (at_ : FaultAt) :
    s.faultOne c code at_ = ((s.faultStopped c).faultMarked c code (s.ctx c)).faultTold c code at_ (s.ctx c).phys := by
  have hkeeps : StopKeeps s (((s.faultStopped c).faultMarked c code (s.ctx c)).faultTold c code at_ (s.ctx c).phys) :=
    ((stopAside_faultStopped s c).toStopKeeps.trans (stopKeeps_faultMarked _ c code _)).trans (stopAside_faultTold _ c code at_ _).toStopKeeps
  rw [State.faultOne_of_live (by rw [hrun]; decide) (by rw [hrun]; decide), State.endCall_of_no_coll ((hkeeps.hasColl c).trans hcoll)]

theorem State.fault_of_running {code : Nat} (hcode : code ≠ 9) (at_ : FaultAt) :
    s.fault c code at_ = ((s.faultStopped c).faultMarked c code (s.ctx c)).faultTold c code at_ (s.ctx c).phys := by
  have hgroup : s.group c = [] := by
    unfold State.group
    rw [hcoll]
    rfl
  rw [← State.faultOne_of_running hrun hcoll]
  unfold State.fault
  extract_lets x st grp first all
  have hst : st = csRunning := hrun
  have hall : all = first := by
    unfold all grp
    rw [hgroup]
    rfl
  rw [hall, hst, if_neg (by decide), if_pos hcode]

theorem stopKeeps_fault {code : Nat} (hcode : code ≠ 9) (at_ : FaultAt) : StopKeeps s (s.fault c code at_) := by
  rw [State.fault_of_running hrun hcoll hcode]
  exact ((stopAside_faultStopped s c).toStopKeeps.trans (stopKeeps_faultMarked _ c code _)).trans (stopAside_faultTold _ c code at_ _).toStopKeeps

theorem State.marks_fault {code : Nat} (hcode : code ≠ 9) (hlt : code < 256) (at_ : FaultAt) :
    ((s.fault c code at_).ctx c).marks = (csFaulted, code) := by
  rw [State.fault_of_running hrun hcoll hcode, (stopAside_faultTold _ c code at_ _).marks c]
  exact State.marks_faultMarked _ c _ hlt

theorem State.move_fault {code : Nat} (hcode : code ≠ 9) (at_ : FaultAt) : ((s.fault c code at_).ctx c).move = .none := by
  rw [State.fault_of_running hrun hcoll hcode, State.move_faultTold, State.move_faultMarked, State.move_faultStopped]

/-- The lathe of a faulted holder, for which nobody else asks, is free. -/
theorem State.holder_fault {k code : Nat} (hcode : code ≠ 9) (at_ : FaultAt) (hphys : (s.ctx c).phys = some k)
    (hholder : (s.lathe k).holder = some c) (hpending : (s.lathe k).pending = []) : ((s.fault c code at_).lathe k).holder = none := by
  have hlathes : (s.fault c code at_).lathes = (s.leavePipe k c).lathes := by
    rw [State.fault_of_running hrun hcoll hcode, State.lathes_faultTold, State.lathes_faultMarked, State.lathes_faultStopped hphys]
  rw [State.lathe_of_lathes hlathes]
  exact s.holder_leavePipe k c hholder hpending

end

end Sys2Proof.Machine
end

section
/-! The watchdog of a lathe and the timeout of its drain (R210, R376). -/

namespace Sys2Proof.Machine

variable {s : State} {k : Lathe} {c n : Nat}

/-! ## The watchdog's bite (R210) -/

/-- A bite on lathe k, counted in LT_WDOG_STAT with the context and the stamp. -/
def State.biteNoted (s : State) (k c : Nat) : State :=
  ((s.count (R.ltWdogStat (k / 5) (k % 5)) F.LtWdogStat.bites).setFld (R.ltWdogStat (k / 5) (k % 5)) F.LtWdogStat.lastCtx c).setFld
    (R.ltWdogStat (k / 5) (k % 5)) F.LtWdogStat.lastStamp (s.dieNow (dLathe (k / 5)))

/-- The holder of lathe k faulted with WATCHDOG, its bite noted. -/
def State.bittenHolder (s : State) (k c : Nat) : State :=
  ((s.biteNoted k c).fault c 3 FaultAt.none_).setLathe k (fun l => { l with bitten := some s.tb.tick })

theorem execWatchdogBite_of_no_holder (h : (s.lathe k.val).holder = none) : execWatchdogBite k s = .next s := by
  rw [execWatchdogBite, h]

theorem execWatchdogBite_of_in_time (h : (s.lathe k.val).holder = some c) (htime : s.tb.tick ≤ (s.lathe k.val).since + s.wdogTicks k.val c) :
    execWatchdogBite k s = .next s := by
  rw [execWatchdogBite, h]
  exact if_pos htime

theorem execWatchdogBite_of_late (h : (s.lathe k.val).holder = some c) (hlate : (s.lathe k.val).since + s.wdogTicks k.val c < s.tb.tick) :
    execWatchdogBite k s = .next ((s.bittenHolder k.val c).resumeReset k.val) := by
  have htick : ((s.biteNoted k.val c).fault c 3 FaultAt.none_).tb.tick = s.tb.tick :=
    congrArg Timebase.tick ((State.fault_touches _ c 3 FaultAt.none_).same 2 rfl)
  rw [execWatchdogBite, h]
  dsimp only
  rw [if_neg (Nat.not_le.mpr hlate), State.bittenHolder, ← htick]
  rfl

/-! ## What a bite leaves -/

theorem State.resumeReset_of_not_resetting {j : Nat} (h : (s.lathe j).resetting = false) : s.resumeReset j = s := by
  rw [State.resumeReset, h]
  rfl

theorem biteReg_ltWdogStat (k : Lathe) : BiteReg (R.ltWdogStat (k.val / 5) (k.val % 5)) := by
  have hk := k.isLt
  simp only [BiteReg, R.ltWdogStat]
  omega

theorem State.bites_biteNoted (s : State) (j i : Nat) :
    (s.biteNoted j i).fld (R.ltWdogStat (j / 5) (j % 5)) F.LtWdogStat.bites
      = min (2 ^ F.LtWdogStat.bites.wid - 1) (s.fld (R.ltWdogStat (j / 5) (j % 5)) F.LtWdogStat.bites + 1) := by
  rw [State.biteNoted, State.fld_setFld_apart _ _ _ _ _ rfl, State.fld_setFld_apart _ _ _ _ _ rfl, State.fld_count_same _ _ _ rfl, Nat.min_comm]

theorem State.lastCtx_biteNoted (s : State) (j i : Nat) :
    (s.biteNoted j i).fld (R.ltWdogStat (j / 5) (j % 5)) F.LtWdogStat.lastCtx = i % 2 ^ F.LtWdogStat.lastCtx.wid := by
  rw [State.biteNoted, State.fld_setFld_apart _ _ _ _ _ rfl, State.fld_setFld_same _ _ _ _ rfl]

section
variable (hrun : s.ctxState c = csRunning) (hcoll : s.hasColl c = false)
include hrun hcoll

theorem State.fld_bittenHolder (f : Fld) :
    (s.bittenHolder k.val c).fld (R.ltWdogStat (k.val / 5) (k.val % 5)) f
      = (s.biteNoted k.val c).fld (R.ltWdogStat (k.val / 5) (k.val % 5)) f := by
  have hrun' : (s.biteNoted k.val c).ctxState c = csRunning := hrun
  exact State.fld_of_rd ((stopKeeps_fault hrun' hcoll (by decide) FaultAt.none_).rd _ (biteReg_ltWdogStat k)) f

theorem State.marks_bittenHolder (j : Nat) : ((s.bittenHolder j c).ctx c).marks = (csFaulted, 3) := by
  have hrun' : (s.biteNoted j c).ctxState c = csRunning := hrun
  exact State.marks_fault hrun' hcoll (by decide) (by decide) FaultAt.none_

theorem State.resetting_bittenHolder (j : Nat) : ((s.bittenHolder j c).lathe j).resetting = (s.lathe j).resetting := by
  have hrun' : (s.biteNoted j c).ctxState c = csRunning := hrun
  rw [State.bittenHolder, State.lathe_setLathe_same]
  exact (congrArg LatheSt.resetting ((stopKeeps_fault hrun' hcoll (by decide : 3 ≠ 9) FaultAt.none_).lathe j) :)

theorem State.holder_bittenHolder {j : Nat} (hphys : (s.ctx c).phys = some j) (hholder : (s.lathe j).holder = some c)
    (hpending : (s.lathe j).pending = []) : ((s.bittenHolder j c).lathe j).holder = none := by
  have hrun' : (s.biteNoted j c).ctxState c = csRunning := hrun
  rw [State.bittenHolder, State.lathe_setLathe_same]
  exact State.holder_fault hrun' hcoll (by decide) FaultAt.none_ hphys hholder hpending

end

theorem State.bitten_bittenHolder (s : State) (j i : Nat) : ((s.bittenHolder j i).lathe j).bitten = some s.tb.tick := by
  rw [State.bittenHolder, State.lathe_setLathe_same]

/-- A running holder of no collective, alone on its lathe, is bitten. -/
theorem completes_watchdogBite (h : (s.lathe k.val).holder = some c) (hlate : (s.lathe k.val).since + s.wdogTicks k.val c < s.tb.tick)
    (hrun : s.ctxState c = csRunning) (hcoll : s.hasColl c = false) (hpending : (s.lathe k.val).pending = [])
    (hreset : (s.lathe k.val).resetting = false) (hphys : (s.ctx c).phys = some k.val) :
    completes (.watchdogBite k) s fun t =>
      t.ctxState c = csFaulted ∧ recFault (t.ctx c).record = 3 ∧ (t.lathe k.val).holder = none ∧ (t.lathe k.val).bitten = some s.tb.tick
        ∧ t.fld (R.ltWdogStat (k.val / 5) (k.val % 5)) F.LtWdogStat.lastCtx = c % 2 ^ F.LtWdogStat.lastCtx.wid
        ∧ t.fld (R.ltWdogStat (k.val / 5) (k.val % 5)) F.LtWdogStat.bites
          = min (2 ^ F.LtWdogStat.bites.wid - 1) (s.fld (R.ltWdogStat (k.val / 5) (k.val % 5)) F.LtWdogStat.bites + 1) := by
  have hmarks := State.marks_bittenHolder hrun hcoll k.val
  have hresumed : (s.bittenHolder k.val c).resumeReset k.val = s.bittenHolder k.val c :=
    State.resumeReset_of_not_resetting ((State.resetting_bittenHolder hrun hcoll k.val).trans hreset)
  refine ⟨s.bittenHolder k.val c, (execWatchdogBite_of_late h hlate).trans (congrArg _ hresumed), congrArg Prod.fst hmarks,
    congrArg Prod.snd hmarks, State.holder_bittenHolder hrun hcoll hphys h hpending, s.bitten_bittenHolder k.val c, ?_, ?_⟩
  · rw [State.fld_bittenHolder hrun hcoll, State.lastCtx_biteNoted]
  · rw [State.fld_bittenHolder hrun hcoll, State.bites_biteNoted]

/-! ## The timeout of the drain (R210, R376) -/

theorem execPipelineDrainTimeout_of_early (h : ∀ n, (s.lathe k.val).bitten = some n → s.tb.tick < n + 10000) :
    execPipelineDrainTimeout k s = .next s := by
  refine if_neg ?_
  cases hbitten : (s.lathe k.val).bitten with
  | none => exact Bool.false_ne_true
  | some n => simpa using h n hbitten

/-- The DRAIN record of lathe k. -/
def State.drainRec (s : State) (k : Nat) : ErrRec :=
  { plainRec 0x0D 2 2 (dLathe (k / 5)) (s.dieNow (dLathe (k / 5))) with
    unit := k % 5, part := ((s.planeOn (dLathe (k / 5))).partOfLathe (k / 5)).getD 0x1F }

theorem execPipelineDrainTimeout_of_due (h : (s.lathe k.val).bitten = some n) (hdue : n + 10000 ≤ s.tb.tick) :
    execPipelineDrainTimeout k s = .next ((s.setLathe k.val (fun l => { l with bitten := none })).raise (s.drainRec k.val)) := by
  refine if_pos ?_
  rw [h]
  exact decide_eq_true hdue

theorem State.errq_escalate_reset (s : State) (d u p j : Nat) : (s.escalate 2 d u p).errq j = s.errq j := by
  rw [State.escalate, if_neg (by decide), if_pos (by decide)]
  split <;> rfl

theorem State.escal_escalate_reset (s : State) (d u p : Nat) : (s.escalate 2 d u p).err.escal.contains ⟨2, d, u⟩ = true := by
  rw [State.escalate, if_neg (by decide), if_pos (by decide)]
  split
  next hin => exact hin
  next => simp

/-- A record that asks for step 2 on a die whose queue is empty stands there alone, and its step is asked for. -/
theorem State.raise_of_empty {r : ErrRec} (hq : s.errq r.die = []) (hstep : r.step = 2) :
    ∃ u : State, s.raise r = (u.setErrq r.die [r]).escalate 2 r.die r.unit r.part := by
  unfold State.raise
  rw [hq]
  dsimp only [List.getLast?_nil]
  rw [hstep, if_neg (by decide)]
  exact ⟨_, rfl⟩

theorem completes_pipelineDrainTimeout (h : (s.lathe k.val).bitten = some n) (hdue : n + 10000 ≤ s.tb.tick)
    (hq : s.errq (dLathe (k.val / 5)) = []) :
    completes (.pipelineDrainTimeout k) s fun t =>
      (t.lathe k.val).bitten = none ∧ t.errq (dLathe (k.val / 5)) = [s.drainRec k.val]
        ∧ t.err.escal.contains ⟨2, dLathe (k.val / 5), k.val % 5⟩ = true := by
  have hq' : (s.setLathe k.val (fun l => { l with bitten := none })).errq (s.drainRec k.val).die = [] := hq
  obtain ⟨u, hraise⟩ := State.raise_of_empty hq' (rfl : (s.drainRec k.val).step = 2)
  refine ⟨_, execPipelineDrainTimeout_of_due h hdue, ?_, ?_, ?_⟩
  · rw [State.lathe_of_lathes ((State.raise_touches _ _).same 20 rfl), State.lathe_setLathe_same]
  · rw [hraise, State.errq_escalate_reset]
    exact State.errq_setErrq_same _ _ _
  · rw [hraise]
    exact State.escal_escalate_reset _ _ _ _

end Sys2Proof.Machine
end

section
/-! The commands of a lathe (R217, R218, R220, R264, R387) and its slot plan (R205). -/

namespace Sys2Proof.Machine

variable {s : State} {w : Writer} {k : Lathe} {c : Nat}

/-! ## LT_CTL through the die's fence (R220) -/

theorem State.ltCommand_accepted {j : Nat} {ok : State → Bool} {go : State → State} (hw : s.judge w (dLathe (j / 5)) = .applied)
    (hrole : s.role j ≠ 0xF) (hbusy : s.fld (ltStat j) F.LtStat.busy = 0) (hok : ok s = true) : s.ltCommand w j ok go = go s := by
  rw [State.ltCommand, State.fenced_of_applied hw, if_neg (by simp [hrole, hbusy, hok])]

theorem State.ltCommand_refused {j : Nat} {ok : State → Bool} {go : State → State} (hw : s.judge w (dLathe (j / 5)) = .applied)
    (h : s.role j = 0xF ∨ s.fld (ltStat j) F.LtStat.busy = 1 ∨ ok s = false) : s.ltCommand w j ok go = s.ltRefuse j := by
  rw [State.ltCommand, State.fenced_of_applied hw, if_pos (by simpa [or_assoc] using h)]

/-- A refusal sets CMD_REFUSED, and nothing else changes. -/
theorem State.ltRefuse_shows (s : State) (j : Nat) :
    (s.ltRefuse j).fld (ltStat j) F.LtStat.cmdRefused = 1 ∧ s.keepsRegs (s.ltRefuse j) [ltStat j] ∧ s.keeps (s.ltRefuse j) [.regs] :=
  ⟨s.fld_setFld_fit _ _ 1 rfl (by decide), s.keepsRegs_setFld _ _ _, (s.setFld_touches _ _ _).keeps (Piece.testBit_of_outside rfl)⟩

theorem State.busy_ltBusy (s : State) (j : Nat) (b : Bool) : (s.ltBusy j b).fld (ltStat j) F.LtStat.busy = b2n b :=
  s.fld_setFld_fit _ _ _ rfl (by cases b <;> decide)

theorem State.role_ltBusy (s : State) (j i : Nat) (b : Bool) : (s.ltBusy j b).role i = s.role i :=
  s.fld_setFld_of_apart _ _ _ _ _ rfl

/-! ## An engine reset begins (R218, R264, R387) -/

theorem State.beginReset_holder {j : Nat} (hholder : (s.lathe j).holder = some c) (hstop : (s.ctx c).stopping = 0) :
    (s.beginReset j).role j = 4 ∧ (s.beginReset j).fld (ltStat j) F.LtStat.busy = 1 ∧ ((s.beginReset j).lathe j).resetting = true
      ∧ ((s.beginReset j).ctx c).stopping = 3 ∧ s.keepsRegs (s.beginReset j) [ltStat j]
      ∧ s.keeps (s.beginReset j) [.regs, .ctxs, .lathes] := by
  unfold State.beginReset
  extract_lets back busy reset
  have hlathe : reset.lathe j = { s.lathe j with resetting := true, resetAt := s.tb.tick, selfTest := some back, takeover := false } :=
    State.lathe_setLathe_same _ _ _
  have hholds : (reset.lathe j).holder = some c := by rw [hlathe]; exact hholder
  rw [hholds]
  dsimp only
  have hrole : reset.role j = 4 := (State.role_ltBusy _ j j true).trans (s.fld_setFld_fit _ _ 4 rfl (by decide))
  have hregs : s.keepsRegs reset [ltStat j] := (s.keepsRegs_setFld _ _ _).trans (State.keepsRegs_setFld _ _ _ _)
  have hbusy : Touches 0x8 s busy := (State.ltBusy_touches _ j true).step (by decide) (s.setFld_touches _ _ _)
  have htouches : Touches 0x180008 s (reset.setCtx c (fun x => { x with stopping := if x.stopping = 0 then 3 else x.stopping })) :=
    (State.setCtx_touches _ _ _).step (by decide) ((busy.setLathe_touches _ _).step (by decide) (hbusy.mono (by decide)))
  refine ⟨hrole, State.busy_ltBusy _ j true, ?_, ?_, hregs, htouches.keeps (Piece.testBit_of_outside rfl)⟩
  · exact congrArg LatheSt.resetting hlathe
  · rw [State.ctx_setCtx_same]
    exact if_pos hstop

theorem exec_engineReset_fw (hw : s.judge w (dLathe (k.val / 5)) = .applied) (hrole : s.role k.val ≠ 0xF)
    (hbusy : s.fld (ltStat k.val) F.LtStat.busy = 0) : exec (.engineReset (.fw w) k) s = .next (s.beginReset k.val) :=
  congrArg Host.Outcome.next (State.ltCommand_accepted hw hrole hbusy rfl)

theorem exec_engineReset_fw_refused (hw : s.judge w (dLathe (k.val / 5)) = .applied)
    (h : s.role k.val = 0xF ∨ s.fld (ltStat k.val) F.LtStat.busy = 1) : exec (.engineReset (.fw w) k) s = .next (s.ltRefuse k.val) :=
  congrArg Host.Outcome.next (State.ltCommand_refused hw (h.imp_right .inl))

theorem exec_engineReset_part
    (h : s.err.escal.any (fun e => e.step = 2 && e.die = dLathe (k.val / 5) && e.unit = k.val % 5) = true) (hrole : s.role k.val ≠ 0xF) :
    exec (.engineReset .part k) s = .next (s.beginReset k.val) := by
  show execEngineReset .part k s = _
  unfold execEngineReset
  dsimp only
  rw [h, Bool.true_and, if_pos (decide_eq_true hrole)]

/-! ## TAKEOVER (R217) -/

theorem glbPd_domLathe_lt_ltStat (j : Nat) : R.glbPd (domLathe j) < ltStat j := by
  simp only [R.glbPd, domLathe, ltStat, R.ltStat]
  omega

theorem State.beginTakeover_on {j : Nat} (h : s.domState (domLathe j) = 2) :
    s.beginTakeover j = (s.setLathe j (fun l => { l with takeover := true })).ltBusy j true := by
  have hdom : R.glbPd (domLathe j) ≠ ltStat j := Nat.ne_of_lt (glbPd_domLathe_lt_ltStat j)
  unfold State.beginTakeover
  extract_lets taking
  have hon : taking.domState (domLathe j) = 2 := (State.fld_setFld_ne _ _ _ _ _ _ hdom).trans h
  exact if_pos (by rw [hon]; rfl)

theorem exec_takeover (hw : s.judge w (dLathe (k.val / 5)) = .applied) (hrole : s.role k.val = 1)
    (hbusy : s.fld (ltStat k.val) F.LtStat.busy = 0) : exec (.takeover w k) s = .next (s.beginTakeover k.val) :=
  congrArg Host.Outcome.next (State.ltCommand_accepted hw (by rw [hrole]; decide) hbusy (decide_eq_true hrole))

theorem exec_takeover_refused (hw : s.judge w (dLathe (k.val / 5)) = .applied) (hrole : s.role k.val ≠ 1) :
    exec (.takeover w k) s = .next (s.ltRefuse k.val) :=
  congrArg Host.Outcome.next (State.ltCommand_refused hw (.inr (.inr (decide_eq_false hrole))))

theorem completes_takeover (hw : s.judge w (dLathe (k.val / 5)) = .applied) (hrole : s.role k.val = 1)
    (hbusy : s.fld (ltStat k.val) F.LtStat.busy = 0) (hon : s.domState (domLathe k.val) = 2) :
    completes (.takeover w k) s fun t =>
      (t.lathe k.val).takeover = true ∧ t.fld (ltStat k.val) F.LtStat.busy = 1 ∧ t.role k.val = 1 ∧ s.keepsRegs t [ltStat k.val]
        ∧ s.keeps t [.regs, .lathes] := by
  have htouches : Touches 0x100008 s ((s.setLathe k.val (fun l => { l with takeover := true })).ltBusy k.val true) :=
    (State.ltBusy_touches _ _ _).step (by decide) ((s.setLathe_touches _ _).mono (by decide))
  refine ⟨_, (exec_takeover hw hrole hbusy).trans (congrArg _ (State.beginTakeover_on hon)), ?_, State.busy_ltBusy _ _ true,
    (State.role_ltBusy _ _ _ _).trans hrole, State.keepsRegs_setFld _ _ _ _, htouches.keeps (Piece.testBit_of_outside rfl)⟩
  exact congrArg LatheSt.takeover (s.lathe_setLathe_same k.val (fun l => { l with takeover := true }))

/-! ## LT_SLOT (R205, R220) -/

/-- A slot whose VALID_NEXT and CTX_NEXT are written. -/
def State.slotPlanned (s : State) (k i on c : Nat) : State :=
  (s.setFld (ltSlot k i) F.LtSlot.validNext on).setFld (ltSlot k i) F.LtSlot.ctxNext c

theorem State.slotPlanned_shows (s : State) (j i : Nat) {on c : Nat} (hon : on < 2) (hc : c < 2 ^ 14) :
    (s.slotPlanned j i on c).fld (ltSlot j i) F.LtSlot.validNext = on ∧ (s.slotPlanned j i on c).fld (ltSlot j i) F.LtSlot.ctxNext = c
      ∧ (s.slotPlanned j i on c).fld (ltSlot j i) F.LtSlot.validNow = s.fld (ltSlot j i) F.LtSlot.validNow
      ∧ s.keepsRegs (s.slotPlanned j i on c) [ltSlot j i] ∧ s.keeps (s.slotPlanned j i on c) [.regs] := by
  refine ⟨?_, State.fld_setFld_fit _ _ _ c rfl hc, ?_, (s.keepsRegs_setFld _ _ _).trans (State.keepsRegs_setFld _ _ _ _), ?_⟩
  · rw [State.slotPlanned, State.fld_setFld_apart _ _ _ _ _ rfl, State.fld_setFld_fit _ _ F.LtSlot.validNext on rfl hon]
  · rw [State.slotPlanned, State.fld_setFld_apart _ _ _ _ _ rfl, State.fld_setFld_apart _ _ _ _ _ rfl]
  · exact ((State.setFld_touches _ _ _ _).step (by decide) (s.setFld_touches _ _ _) : Touches 0x8 s _).keeps (Piece.testBit_of_outside rfl)

variable {i : Fin 16} {v : W64}

theorem exec_ltSlotWrite_off (hw : s.judge w (dLathe (k.val / 5)) = .applied) (hrole : s.role k.val ≠ 0xF)
    (hoff : F.LtSlot.validNext.get v = 0) :
    exec (.ltSlotWrite w k i v) s = .next (s.slotPlanned k.val i.val 0 (F.LtSlot.ctxNext.get v)) := by
  refine congrArg Host.Outcome.next ((State.fenced_of_applied hw _ _).trans ?_)
  rw [hoff]
  exact (if_neg hrole).trans (if_neg (by simp))

theorem exec_ltSlotWrite_on (hw : s.judge w (dLathe (k.val / 5)) = .applied) (hrole : s.role k.val ≠ 0xF)
    (hon : F.LtSlot.validNext.get v = 1) (hphys : (s.ctx (F.LtSlot.ctxNext.get v)).phys = some k.val)
    (hallowed : s.slotAllowed i.val (F.LtSlot.ctxNext.get v) = true)
    (hnamed : ∀ j, j < 16 → j ≠ i.val → s.fld (ltSlot k.val j) F.LtSlot.validNext = 1 →
      s.fld (ltSlot k.val j) F.LtSlot.ctxNext ≠ F.LtSlot.ctxNext.get v) :
    exec (.ltSlotWrite w k i v) s = .next (s.slotPlanned k.val i.val 1 (F.LtSlot.ctxNext.get v)) := by
  refine congrArg Host.Outcome.next ((State.fenced_of_applied hw _ _).trans ?_)
  extract_lets c on named
  have hfree : named = false := by
    refine List.any_eq_false.mpr fun j hj => ?_
    simpa [and_assoc] using hnamed j (List.mem_range.mp hj)
  rw [if_neg hrole, hfree, if_neg (by simp [c, hphys, hallowed])]
  exact congrArg (fun n => s.slotPlanned k.val i.val n c) hon

theorem exec_ltSlotWrite_refused (hw : s.judge w (dLathe (k.val / 5)) = .applied) (hon : F.LtSlot.validNext.get v = 1)
    (hphys : (s.ctx (F.LtSlot.ctxNext.get v)).phys ≠ some k.val) : exec (.ltSlotWrite w k i v) s = .next (s.ltRefuse k.val) := by
  refine congrArg Host.Outcome.next ((State.fenced_of_applied hw _ _).trans ?_)
  extract_lets c on named
  split
  · rfl
  · exact if_pos (by simp [on, c, hon, hphys])

end Sys2Proof.Machine
end

section
/-! The end of an engine reset that its holder does not yield to (R218, R264). -/

namespace Sys2Proof.Machine

variable {s : State} {k : Lathe} {c : Nat}

/-! ## A resident context that has faulted (R218) -/

theorem State.resetCtx_of_faulted {j : Nat} (hst : s.ctxState c = csFaulted) (hmove : (s.ctx c).move = .none) :
    s.resetCtx j c = (((s.leavePipe j c).unwait c).endMove c).unseat c := by
  have hst' : recState (s.ctx c).record = csFaulted := hst
  unfold State.resetCtx
  extract_lets x left st
  rw [show x.move = .none from hmove]
  exact if_pos hst'

/-- A context that leaves its lathe keeps its marks, and the epochs stand. -/
theorem State.unseat_shows (s : State) (c : Nat) :
    ((s.unseat c).ctx c).marks = (s.ctx c).marks ∧ ((s.unseat c).ctx c).move = .none ∧ ((s.unseat c).ctx c).phys = none
      ∧ (s.unseat c).bench.epochs = s.bench.epochs := by
  have hmarks (u : State) : StopAside u ((u.putRec c 484 2 0xFFFF).putRec c 486 1 0xFF) :=
    .step (.putRec _ c 486 1 _ (by decide) (.inl (by decide))) (.putRec u c 484 2 _ (by decide) (.inl (by decide)))
  refine ⟨?_, ?_, ?_, congrArg BenchSt.epochs ((s.unseat_touches c).same 13 rfl)⟩
  · exact ((hmarks _).marks c).trans (s.ctx_setCtx_proj CtxSt.marks c c fun _ => rfl)
  · rw [State.unseat, State.move_putRec, State.move_putRec, State.ctx_setCtx_same]
  · rw [State.unseat, State.putRec, State.ctx_setCtx_same, State.putRec, State.ctx_setCtx_same, State.ctx_setCtx_same]

/-- A faulted context whose engine is reset leaves the lathe as it was found: still faulted. -/
theorem State.resetCtx_faulted_shows {j : Nat} (hst : s.ctxState c = csFaulted) (hmove : (s.ctx c).move = .none) :
    ((s.resetCtx j c).ctx c).marks = (s.ctx c).marks ∧ ((s.resetCtx j c).ctx c).move = .none ∧ ((s.resetCtx j c).ctx c).phys = none
      ∧ (s.resetCtx j c).bench.epochs = s.bench.epochs := by
  have haside : StopAside s (((s.leavePipe j c).unwait c).endMove c) :=
    .step (stopAside_endMove _ c) (.step (stopAside_unwait _ c) (stopAside_leavePipe s j c))
  obtain ⟨hmarks, hfree, hphys, hepochs⟩ := State.unseat_shows (((s.leavePipe j c).unwait c).endMove c) c
  rw [State.resetCtx_of_faulted hst hmove]
  exact ⟨hmarks.trans (haside.marks c), hfree, hphys, hepochs.trans haside.epochs⟩

/-- Every resident context is the faulted one. -/
theorem State.resetCtxs_faulted_shows {j : Nat} (l : List Nat) (s : State) (hl : ∀ i ∈ l, i = c) (hst : s.ctxState c = csFaulted)
    (hmove : (s.ctx c).move = .none) :
    ((l.foldl (fun s i => s.resetCtx j i) s).ctx c).marks = (s.ctx c).marks
      ∧ ((s.ctx c).phys = none ∨ l ≠ [] → ((l.foldl (fun s i => s.resetCtx j i) s).ctx c).phys = none)
      ∧ (l.foldl (fun s i => s.resetCtx j i) s).bench.epochs = s.bench.epochs := by
  induction l generalizing s with
  | nil => exact ⟨rfl, fun h => h.resolve_right fun h => h rfl, rfl⟩
  | cons i l ih =>
    have hi : i = c := hl i List.mem_cons_self
    subst hi
    obtain ⟨hmarks, hfree, hphys, hepochs⟩ := State.resetCtx_faulted_shows (j := j) hst hmove
    have hst' : (s.resetCtx j i).ctxState i = csFaulted := (congrArg Prod.fst hmarks).trans hst
    obtain ⟨hmarks', hphys', hepochs'⟩ := ih (s.resetCtx j i) (fun x hx => hl x (List.mem_cons_of_mem _ hx)) hst' hfree
    exact ⟨hmarks'.trans hmarks, fun _ => hphys' (.inl hphys), hepochs'.trans hepochs⟩

/-! ## The requester's grains (R154, R264) -/

theorem State.bench_reclaimNow (s : State) (req : Nat) : (s.reclaimNow req).bench = ((s.raiseEpoch req).reclaimHeld req).2.bench := rfl

theorem State.epochs_reclaimHeld (s : State) (req : Nat) : (s.reclaimHeld req).2.bench.epochs = s.bench.epochs := by
  unfold State.reclaimHeld
  extract_lets mine dropped
  have hdropped : StopAside s dropped := .withBench s rfl
  exact (StopAside.step (.foldl (fun s e => stopAside_setGrain s _ _) mine dropped) hdropped).epochs

theorem State.epoch_of_epochs {s t : State} (h : t.bench.epochs = s.bench.epochs) (req : Nat) : t.epoch req = s.epoch req := by
  rw [State.epoch, State.epoch, h]

theorem State.reqHeld_of_bench {s t : State} (h : t.bench = s.bench) (req : Nat) : t.reqHeld req = s.reqHeld req := by
  rw [State.reqHeld, State.reqHeld, State.grainCount, State.grainCount, h]

theorem State.epoch_reclaimNow (s : State) (req : Nat) : (s.reclaimNow req).epoch req = (s.epoch req + 1) % 16 := by
  rw [State.epoch_of_epochs ((congrArg BenchSt.epochs (s.bench_reclaimNow req)).trans (State.epochs_reclaimHeld _ req)),
    State.epoch_raiseEpoch_same]

theorem State.reqHeld_reclaimNow (s : State) (req : Nat) : (s.reclaimNow req).reqHeld req = 0 := by
  rw [State.reqHeld_of_bench (s.bench_reclaimNow req), State.reqHeld_reclaimHeld]

/-! ## The engine reset (R218, R264) -/

/-- Lathe k sampled, its engine no longer waiting, and its residents taken off it. -/
def State.residentsReset (s : State) (k : Nat) : State :=
  let ready := (s.sampleLathe k).setLathe k (fun l => { l with resetting := false, pending := [] })
  (ready.residents k).foldl (fun (s : State) c => s.resetCtx k c) ready

/-- The grains of lathe k reclaimed and the requests for its reset taken. -/
def State.engineReclaimed (s : State) (k : Nat) : State :=
  let reclaimed := s.reclaimNow (latheReq k)
  { reclaimed with err := { reclaimed.err with
    escal := reclaimed.err.escal.filter (fun e => !(e.step = 2 && e.die = dLathe (k / 5) && e.unit = k % 5)) } }

theorem State.resetLathe_eq (s : State) (j : Nat) :
    s.resetLathe j
      = (((s.residentsReset j).engineReclaimed j).ltBusy j true).setLathe j (fun _ => { LatheSt.fresh with selfTest := (s.lathe j).selfTest }) :=
  rfl

/-- A lathe whose only resident has faulted is emptied. -/
theorem State.residentsReset_faulted_shows {j : Nat} (hmem : c ∈ s.residents j) (honly : ∀ i ∈ s.residents j, i = c)
    (hst : s.ctxState c = csFaulted) (hmove : (s.ctx c).move = .none) :
    ((s.residentsReset j).ctx c).marks = (s.ctx c).marks ∧ ((s.residentsReset j).ctx c).phys = none
      ∧ (s.residentsReset j).bench.epochs = s.bench.epochs := by
  obtain ⟨hmarks, hphys, hepochs⟩ := State.resetCtxs_faulted_shows (j := j) (s.residents j)
    ((s.sampleLathe j).setLathe j (fun l => { l with resetting := false, pending := [] })) honly hst hmove
  exact ⟨hmarks, hphys (.inr (List.ne_nil_of_mem hmem)), hepochs⟩

theorem State.ctxs_engineReclaimed (s : State) (j : Nat) : (s.engineReclaimed j).ctxs = s.ctxs :=
  (s.reclaimNow_touches (latheReq j)).same 19 rfl

theorem State.bench_engineReclaimed (s : State) (j : Nat) : (s.engineReclaimed j).bench = (s.reclaimNow (latheReq j)).bench := rfl

/-- What is left of a reset once its residents are off: their contexts as they are, a fresh lathe in its self-test, and no grain held. -/
theorem State.resetLathe_shows (s : State) (j : Nat) :
    (s.resetLathe j).ctxs = (s.residentsReset j).ctxs ∧ (s.resetLathe j).lathe j = { LatheSt.fresh with selfTest := (s.lathe j).selfTest }
      ∧ (s.resetLathe j).fld (ltStat j) F.LtStat.busy = 1
      ∧ (s.resetLathe j).epoch (latheReq j) = ((s.residentsReset j).epoch (latheReq j) + 1) % 16
      ∧ (s.resetLathe j).reqHeld (latheReq j) = 0 := by
  rw [State.resetLathe_eq]
  generalize s.residentsReset j = r
  have hbench : (((r.engineReclaimed j).ltBusy j true).setLathe j
      (fun _ => { LatheSt.fresh with selfTest := (s.lathe j).selfTest })).bench = (r.reclaimNow (latheReq j)).bench :=
    r.bench_engineReclaimed j
  refine ⟨r.ctxs_engineReclaimed j, State.lathe_setLathe_same _ _ _, State.busy_ltBusy _ j true, ?_, ?_⟩
  · rw [State.epoch_of_epochs (congrArg BenchSt.epochs hbench), State.epoch_reclaimNow]
  · rw [State.reqHeld_of_bench hbench, State.reqHeld_reclaimNow]

/-! ## ENGINE_RESET_BOUNDARY_TIMEOUT (R264) -/

theorem execEngineResetBoundaryTimeout_of_early
    (h : (s.lathe k.val).resetting = false ∨ s.tb.tick < (s.lathe k.val).resetAt + 2000) : execEngineResetBoundaryTimeout k s = .next s :=
  if_pos (by simpa using h)

/-- The holder of lathe k faulted with STATE_LOST, and the grant taken from it. -/
def State.heldLost (s : State) (k c : Nat) : State :=
  (s.fault c 4 FaultAt.none_).setLathe k (fun l => { l with holder := none })

theorem execEngineResetBoundaryTimeout_of_late (hreset : (s.lathe k.val).resetting = true)
    (hlate : (s.lathe k.val).resetAt + 2000 ≤ s.tb.tick) (hholder : (s.lathe k.val).holder = some c) :
    execEngineResetBoundaryTimeout k s = .next ((s.heldLost k.val c).resetLathe k.val) := by
  unfold execEngineResetBoundaryTimeout
  dsimp only
  rw [hholder]
  exact if_neg (by simp [hreset, hlate])

/-- The holder does not reach its boundary: it is faulted and the lathe is left fresh. -/
theorem completes_engineResetBoundaryTimeout (hreset : (s.lathe k.val).resetting = true)
    (hlate : (s.lathe k.val).resetAt + 2000 ≤ s.tb.tick) (hholder : (s.lathe k.val).holder = some c) (honly : s.residents k.val = [c])
    (hrun : s.ctxState c = csRunning) (hcoll : s.hasColl c = false) :
    completes (.engineResetBoundaryTimeout k) s fun t =>
      t.ctxState c = csFaulted ∧ recFault (t.ctx c).record = 4 ∧ (t.ctx c).phys = none
        ∧ t.lathe k.val = { LatheSt.fresh with selfTest := (s.lathe k.val).selfTest } ∧ t.fld (ltStat k.val) F.LtStat.busy = 1
        ∧ t.epoch (latheReq k.val) = (s.epoch (latheReq k.val) + 1) % 16 ∧ t.reqHeld (latheReq k.val) = 0 := by
  have hkeeps : StopKeeps s (s.fault c 4 FaultAt.none_) := stopKeeps_fault hrun hcoll (by decide) _
  have hmarks : ((s.heldLost k.val c).ctx c).marks = (csFaulted, 4) := State.marks_fault hrun hcoll (by decide) (by decide) _
  have hmem : c ∈ (s.heldLost k.val c).residents k.val :=
    hkeeps.stays k.val c (by rw [hrun]; decide) (by rw [honly]; exact List.mem_singleton_self c)
  have honly' : ∀ i ∈ (s.heldLost k.val c).residents k.val, i = c := fun i hi => by
    have hold : i ∈ s.residents k.val := hkeeps.old k.val i hi
    rw [honly] at hold
    exact List.mem_singleton.mp hold
  have hself : ((s.heldLost k.val c).lathe k.val).selfTest = (s.lathe k.val).selfTest := by
    rw [State.heldLost, State.lathe_setLathe_same]
    exact (congrArg LatheSt.selfTest (hkeeps.lathe k.val) :)
  obtain ⟨hend, hphys, hepochs⟩ := State.residentsReset_faulted_shows hmem honly' (congrArg Prod.fst hmarks)
    (State.move_fault hrun hcoll (by decide) FaultAt.none_)
  obtain ⟨hctxs, hlathe, hbusy, hepoch, hheld⟩ := (s.heldLost k.val c).resetLathe_shows k.val
  have hctx := State.ctx_of_ctxs hctxs c
  have hlast := (congrArg CtxSt.marks hctx).trans (hend.trans hmarks)
  refine ⟨_, execEngineResetBoundaryTimeout_of_late hreset hlate hholder, congrArg Prod.fst hlast, congrArg Prod.snd hlast,
    (congrArg CtxSt.phys hctx).trans hphys, hlathe.trans ?_, hbusy, hepoch.trans ?_, hheld⟩
  · rw [hself]
  · rw [State.epoch_of_epochs (hepochs.trans hkeeps.epochs)]

end Sys2Proof.Machine
end

section
/-! The self-test that ends an engine reset (R217, R387). -/

namespace Sys2Proof.Machine

variable {s : State} {k : Lathe} {back : Nat}

/-! ## Registers that an event leaves (R394) -/

/-- A register outside the host's mailboxes of every function. -/
def OutsideMailboxes (off : Nat) : Prop := off < 0x00200000 ∨ (0x01000000 ≤ off ∧ off < 0x04000000)

theorem outsideMailboxes_glbEscStat : OutsideMailboxes R.glbEscStat := .inl (by decide)

theorem outsideMailboxes_ltStat {j : Nat} (h : j < 120) : OutsideMailboxes (ltStat j) := by
  refine .inr ?_
  simp only [ltStat, R.ltStat]
  omega

theorem ne_fnReg_of_outsideMailboxes {r off : Nat} (h : OutsideMailboxes r) (fn : Nat) (hlow : 0x00200000 ≤ off) (hhigh : off < 0x01000000) :
    r ≠ fnReg fn off := by
  simp only [OutsideMailboxes] at h
  simp only [fnReg, fnBank]
  rcases fn.eq_zero_or_pos with rfl | hfn <;> omega

theorem State.rd_f2hPut {r : Nat} (h : OutsideMailboxes r) (s : State) (fn i : Nat) (v : W64) (hi : i < 16) : (s.f2hPut fn i v).rd r = s.rd r := by
  have hf2h : r ≠ fnReg fn (R.mbxF2h i) :=
    ne_fnReg_of_outsideMailboxes h fn (by simp only [R.mbxF2h]; omega) (by simp only [R.mbxF2h]; omega)
  have hfull : r ≠ fnReg fn R.mbxFull := ne_fnReg_of_outsideMailboxes h fn (by decide) (by decide)
  unfold State.f2hPut
  extract_lets full
  rw [State.rd_setFld_ne _ _ _ _ _ hfull, State.rd_wr_ne _ _ _ _ hf2h]

theorem State.rd_post {r : Nat} (h : OutsideMailboxes r) (s : State) (e : MgmtEvent) : (s.post e).rd r = s.rd r := by
  unfold State.post
  extract_lets seq depth base err numbered stored told
  have hstored : stored.rd r = s.rd r := by
    unfold stored
    split
    · rfl
    · exact (numbered.nearWrite_touches _ _).rd rfl r
  have htold : told.rd r = s.rd r := by
    unfold told
    split
    next i hi => exact (State.rd_f2hPut h _ _ _ _ (List.mem_range.mp (List.mem_of_find?_eq_some hi))).trans hstored
    next => exact hstored
  split
  · exact ((told.i3cEvent_touches _ _).rd rfl r).trans htold
  · exact htold

/-! ## A self-test (R387) -/

/-- The partition of a lathe's die, 0xFF where it has none. -/
def State.lathePart (s : State) (k : Nat) : Nat := ((s.planeOn (dLathe (k / 5))).partOfLathe (k / 5)).getD 0xFF

/-- Lathe k whose self-test is over. -/
def State.selfTestOver (s : State) (k : Nat) : State := (s.setLathe k (fun l => { l with selfTest := none })).ltBusy k false

/-- The end of the self-test, told of to the host (R394). -/
def State.tested (s : State) (k : Nat) : State :=
  (s.selfTestOver k).post ⟨3, 2, 0xFFFF, s.lathePart k, 0xFFFF, (s.selfTestOver k).logical k, 0⟩

theorem State.finishPartReset_of_idle {p : Nat} (h : s.partBusy p = false) : s.finishPartReset p = s := by
  unfold State.finishPartReset
  exact if_pos (by rw [h]; rfl)

theorem glbEscStat_ne_ltStat (j : Nat) : R.glbEscStat ≠ ltStat j := by
  refine Nat.ne_of_lt ?_
  simp only [R.glbEscStat, ltStat, R.ltStat]
  omega

theorem glbEscStat_ne_glbPd (n : Nat) : R.glbEscStat ≠ R.glbPd n := by
  refine Nat.ne_of_lt ?_
  simp only [R.glbEscStat, R.glbPd]
  omega

theorem State.partBusy_of_rd {s t : State} (h : t.rd R.glbEscStat = s.rd R.glbEscStat) (p : Nat) : t.partBusy p = s.partBusy p := by
  rw [State.partBusy, State.partBusy, State.fld_of_rd h]

theorem State.rd_selfTestOver (s : State) (j : Nat) : (s.selfTestOver j).rd R.glbEscStat = s.rd R.glbEscStat :=
  State.rd_setFld_ne _ _ _ _ _ (glbEscStat_ne_ltStat j)

theorem State.rd_tested (s : State) (j : Nat) : (s.tested j).rd R.glbEscStat = s.rd R.glbEscStat :=
  (State.rd_post outsideMailboxes_glbEscStat _ _).trans (s.rd_selfTestOver j)

theorem State.selfTest_tested (s : State) (j : Nat) : ((s.tested j).lathe j).selfTest = none := by
  rw [State.tested, State.lathe_of_lathes ((State.post_touches _ _).same 20 rfl)]
  exact congrArg LatheSt.selfTest (s.lathe_setLathe_same j (fun l => { l with selfTest := none }))

theorem State.role_tested (s : State) (j : Nat) {i : Nat} (hi : i < 120) : (s.tested j).role i = s.role i :=
  (State.fld_of_rd (State.rd_post (outsideMailboxes_ltStat hi) _ _) _).trans (State.role_ltBusy _ j i false)

theorem State.busy_tested (s : State) {j : Nat} (hj : j < 120) : (s.tested j).fld (ltStat j) F.LtStat.busy = 0 :=
  (State.fld_of_rd (State.rd_post (outsideMailboxes_ltStat hj) _ _) _).trans (State.busy_ltBusy _ j false)

/-! ## A lathe that fails (R217) -/

/-- Lathe k as it fails: ROLE is FAILED, and nothing of it is left. -/
def State.latheFailed (s : State) (k : Nat) : State :=
  ((s.setFld (ltStat k) F.LtStat.role 3).ltBusy k false).setLathe k (fun _ => LatheSt.fresh)

/-- Its domain is left OFF. -/
def State.latheDark (s : State) (k : Nat) : State :=
  if s.domState (domLathe k) = 5 then s else (s.setDom (domLathe k) 0).setWake (domLathe k) .none

/-- A failed lathe whose loss is told of, before a spare takes over. -/
def State.latheLost (s : State) (k : Nat) : State :=
  ((s.latheFailed k).latheDark k).post
    ⟨0x0A, 2, 0xFFFF, ((((s.latheFailed k).latheDark k).planeOn (dLathe (k / 5))).partOfLathe (k / 5)).getD 0xFF, 0xFFFF,
      ((s.latheFailed k).latheDark k).logical k, 0⟩

theorem State.failLathe_of_no_spare {j : Nat} (h : (s.latheLost j).idleSpare (j / 5) = none) : s.failLathe j = s.latheLost j := by
  unfold State.failLathe
  extract_lets d failed fresh dark told
  have htold : told.idleSpare d = none := h
  rw [htold]
  rfl

theorem State.rd_latheDark (s : State) (j : Nat) {r : Nat} (h : r ≠ R.glbPd (domLathe j)) : (s.latheDark j).rd r = s.rd r := by
  unfold State.latheDark
  split
  · rfl
  · rw [(State.setWake_touches _ _ _).rd rfl, State.setDom, State.rd_setFld_ne _ _ _ _ _ h]

theorem State.rd_latheFailed (s : State) (j : Nat) {r : Nat} (h : r ≠ ltStat j) : (s.latheFailed j).rd r = s.rd r := by
  rw [State.latheFailed, (State.setLathe_touches _ _ _).rd rfl, State.ltBusy, State.rd_setFld_ne _ _ _ _ _ h, State.rd_setFld_ne _ _ _ _ _ h]

theorem State.rd_latheLost (s : State) (j : Nat) {r : Nat} (hbox : OutsideMailboxes r) (hdom : r ≠ R.glbPd (domLathe j)) :
    (s.latheLost j).rd r = (s.latheFailed j).rd r := (State.rd_post hbox _ _).trans (State.rd_latheDark _ j hdom)

theorem ltStat_ne_glbPd (i j : Nat) (h : i < 120) (h' : j < 120) : ltStat i ≠ R.glbPd (domLathe j) := by
  refine Nat.ne_of_gt ?_
  simp only [R.glbPd, domLathe, ltStat, R.ltStat]
  omega

theorem State.role_latheLost {i j : Nat} (hi : i < 120) (hj : j < 120) : (s.latheLost j).role i = (s.latheFailed j).role i :=
  State.fld_of_rd (s.rd_latheLost j (outsideMailboxes_ltStat hi) (ltStat_ne_glbPd i j hi hj)) _

theorem State.role_latheFailed_same (s : State) (j : Nat) : (s.latheFailed j).role j = 3 :=
  (State.role_ltBusy _ j j false).trans (s.fld_setFld_fit _ _ 3 rfl (by decide))

theorem ltStat_inj {i j : Nat} (h : ltStat i = ltStat j) : i = j := by
  simp only [ltStat, R.ltStat] at h
  omega

theorem State.role_latheFailed_ne (s : State) {i j : Nat} (h : i ≠ j) : (s.latheFailed j).role i = s.role i :=
  State.fld_of_rd (s.rd_latheFailed j fun heq => h (ltStat_inj heq)) _

/-- Where no other lathe of the die is a spare, none is once the lathe has failed. -/
theorem State.idleSpare_latheLost {j : Nat} (hj : j < 120) (h : ∀ p, p < 5 → p ≠ j % 5 → s.role (5 * (j / 5) + p) ≠ 1) :
    (s.latheLost j).idleSpare (j / 5) = none := by
  refine List.findSome?_eq_none_iff.mpr fun p hp => if_neg ?_
  have hp5 : p < 5 := List.mem_range.mp hp
  rw [State.role_latheLost (by omega) hj]
  by_cases hpj : p = j % 5
  · rw [show 5 * (j / 5) + p = j by omega, State.role_latheFailed_same]
    decide
  · rw [State.role_latheFailed_ne s (by omega)]
    exact h p hp5 hpj

theorem State.lathe_latheLost (s : State) (j : Nat) : (s.latheLost j).lathe j = LatheSt.fresh := by
  have hoff : ((s.latheFailed j).latheDark j).lathes = (s.latheFailed j).lathes := by
    unfold State.latheDark
    split <;> rfl
  rw [State.latheLost, State.lathe_of_lathes (((State.post_touches _ _).same 20 rfl).trans hoff)]
  exact State.lathe_setLathe_same _ _ _

/-! ## SELF_TEST_COMPLETE (R387) -/

theorem execSelfTestComplete_of_none {ok : Bool} (h : (s.lathe k.val).selfTest = none) : execSelfTestComplete k ok s = .next s := by
  unfold execSelfTestComplete
  dsimp only
  rw [h]

section
variable (hself : (s.lathe k.val).selfTest = some back) (hreset : (s.lathe k.val).resetting = false)
  (hpart : s.partBusy (s.lathePart k.val) = false)
include hself hreset hpart

theorem execSelfTestComplete_of_due (ok : Bool) :
    execSelfTestComplete k ok s = .next
      ((if ok then (s.tested k.val).setFld (ltStat k.val) F.LtStat.role back else (s.tested k.val).failLathe k.val).finishPartReset
        (s.lathePart k.val)) := by
  have hidle : (s.selfTestOver k.val).partBusy (s.lathePart k.val) = false :=
    (State.partBusy_of_rd (s.rd_selfTestOver k.val) _).trans hpart
  unfold execSelfTestComplete
  dsimp only
  rw [hself]
  dsimp only
  rw [if_neg (by simp [hreset])]
  exact congrArg (fun u : State => Host.Outcome.next ((if ok = true then u.setFld (ltStat k.val) F.LtStat.role back
    else u.failLathe k.val).finishPartReset (s.lathePart k.val))) (if_neg fun h => Bool.false_ne_true (hidle.symm.trans h))

theorem completes_selfTestComplete_pass (hback : back < 16) :
    completes (.selfTestComplete k true) s fun t =>
      t.role k.val = back ∧ t.fld (ltStat k.val) F.LtStat.busy = 0 ∧ (t.lathe k.val).selfTest = none := by
  have hpart' : ((s.tested k.val).setFld (ltStat k.val) F.LtStat.role back).partBusy (s.lathePart k.val) = false :=
    (State.partBusy_of_rd ((State.rd_setFld_ne _ _ _ _ _ (glbEscStat_ne_ltStat k.val)).trans (s.rd_tested k.val)) _).trans hpart
  refine ⟨_, (execSelfTestComplete_of_due hself hreset hpart true).trans (congrArg _ (State.finishPartReset_of_idle hpart')), ?_, ?_, ?_⟩
  · exact State.fld_setFld_fit _ _ _ _ rfl hback
  · exact (State.fld_setFld_apart _ _ _ _ _ rfl).trans (s.busy_tested k.isLt)
  · exact s.selfTest_tested k.val

theorem completes_selfTestComplete_fail (hspare : ∀ p, p < 5 → p ≠ k.val % 5 → s.role (5 * (k.val / 5) + p) ≠ 1) :
    completes (.selfTestComplete k false) s fun t => t.role k.val = 3 ∧ t.lathe k.val = LatheSt.fresh := by
  have hk := k.isLt
  have hfail : (s.tested k.val).failLathe k.val = (s.tested k.val).latheLost k.val := by
    refine State.failLathe_of_no_spare (State.idleSpare_latheLost hk fun p hp hpk => ?_)
    rw [State.role_tested s _ (by omega)]
    exact hspare p hp hpk
  have hrd : ((s.tested k.val).latheLost k.val).rd R.glbEscStat = s.rd R.glbEscStat := by
    rw [State.rd_latheLost _ _ outsideMailboxes_glbEscStat (glbEscStat_ne_glbPd _), State.rd_latheFailed _ _ (glbEscStat_ne_ltStat k.val),
      s.rd_tested]
  have hdone : ((s.tested k.val).failLathe k.val).finishPartReset (s.lathePart k.val) = (s.tested k.val).latheLost k.val := by
    rw [hfail]
    exact State.finishPartReset_of_idle ((State.partBusy_of_rd hrd _).trans hpart)
  refine ⟨_, (execSelfTestComplete_of_due hself hreset hpart false).trans (congrArg _ hdone), ?_, State.lathe_latheLost _ _⟩
  rw [State.role_latheLost hk hk, State.role_latheFailed_same]

end

end Sys2Proof.Machine
end

section
/-! The watchdog, the engine resets, the self-tests, the spares and the slot plan of a lathe (R205, R210, R217, R218, R220, R264, R387). -/

namespace Sys2Proof.Machine

/-- Settles O47, clause by clause: the watchdog's bite and the drain's timeout, the engine reset with its boundary timeout, the
self-test, TAKEOVER and LT_SLOT. -/
theorem latheControl : Obligations.LatheControl := by
  unfold Obligations.LatheControl
  refine ⟨?_, ?_, ?_, ?_, ?_, ?_, ?_, ?_, ?_, ?_, ?_, ?_, ?_, ?_, ?_, ?_, ?_, ?_, ?_, ?_, ?_⟩
  · exact fun k s h => execWatchdogBite_of_no_holder h
  · exact fun k c s h htime => execWatchdogBite_of_in_time h htime
  · exact fun k c s h hlate => execWatchdogBite_of_late h hlate
  · exact fun k c s h hlate hrun hcoll hpending hreset hphys => completes_watchdogBite h hlate hrun hcoll hpending hreset hphys
  · exact fun k n s h hdue hq => completes_pipelineDrainTimeout h hdue hq
  · exact fun k s h => execPipelineDrainTimeout_of_early h
  · exact fun w k s hw hrole hbusy => exec_engineReset_fw hw hrole hbusy
  · exact fun w k c s hw hrole hbusy hholder hstop =>
      ⟨s.beginReset k.val, exec_engineReset_fw hw hrole hbusy, State.beginReset_holder hholder hstop⟩
  · exact fun w k s hw h => ⟨s.ltRefuse k.val, exec_engineReset_fw_refused hw h, s.ltRefuse_shows k.val⟩
  · exact fun k s h hrole => exec_engineReset_part h hrole
  · exact fun k s h => execEngineResetBoundaryTimeout_of_early h
  · exact fun k c s hreset hlate hholder honly hrun hcoll _ => completes_engineResetBoundaryTimeout hreset hlate hholder honly hrun hcoll
  · exact fun k c s hreset hlate hholder => execEngineResetBoundaryTimeout_of_late hreset hlate hholder
  · exact fun k back s hself hreset hback hpart => completes_selfTestComplete_pass hself hreset hpart hback
  · exact fun k back s hself hreset hpart hspare => completes_selfTestComplete_fail hself hreset hpart hspare
  · exact fun k ok s h => execSelfTestComplete_of_none h
  · exact fun w k s hw hrole hbusy hon => completes_takeover hw hrole hbusy hon
  · exact fun w k s hw hrole => ⟨s.ltRefuse k.val, exec_takeover_refused hw hrole, s.ltRefuse_shows k.val⟩
  · intro w k i v s hw hrole hoff
    exact ⟨_, exec_ltSlotWrite_off hw hrole hoff, s.slotPlanned_shows k.val i.val (by decide) (Fld.get_lt F.LtSlot.ctxNext v)⟩
  · intro w k i v s hw hrole hon hphys hallowed hnamed
    obtain ⟨hvalid, hctx, -, hregs, hkeeps⟩ := s.slotPlanned_shows k.val i.val (by decide : 1 < 2) (Fld.get_lt F.LtSlot.ctxNext v)
    exact ⟨_, exec_ltSlotWrite_on hw hrole hon hphys hallowed hnamed, hvalid, hctx, hregs, hkeeps⟩
  · exact fun w k i v s hw hon hphys => ⟨s.ltRefuse k.val, exec_ltSlotWrite_refused hw hon hphys, s.ltRefuse_shows k.val⟩

end Sys2Proof.Machine
end

section
/-! The protocol of the context commands (R244, R245): LTD_CTX_STAT names the command, a check gives its RESULT, and an accepted one acts. -/

namespace Sys2Proof.Machine

variable {s : State} {w : Writer}

/-! ## A command through the die's fence (R244, R245) -/

/-- LTD_CTX_STAT names the command and its context, before it is judged. -/
def State.ctxNamed (s : State) (d c cmd : Nat) : State :=
  (s.setFld (R.ltdCtxStat d) F.LtdCtxStat.lastCtx c).setFld (R.ltdCtxStat d) F.LtdCtxStat.lastCmd cmd

theorem State.busy_ctxNamed (s : State) (d c cmd : Nat) :
    (s.ctxNamed d c cmd).fld (R.ltdCtxStat d) F.LtdCtxStat.busy = s.fld (R.ltdCtxStat d) F.LtdCtxStat.busy := by
  rw [State.ctxNamed, State.fld_setFld_apart _ _ _ _ _ rfl, State.fld_setFld_apart _ _ _ _ _ rfl]

section
variable {d c cmd : Nat} {check : State → Nat} {go : State → State} (hw : s.judge w (dLathe d) = .applied)
include hw

theorem State.ctxCommand_busy (h : s.fld (R.ltdCtxStat d) F.LtdCtxStat.busy = 1 ∨ s.ctxState c = csMoving) :
    s.ctxCommand w d c cmd check go = (s.ctxNamed d c cmd).ltdRefuse d 4 := by
  have hstill : (s.ctxNamed d c cmd).ctxState c = s.ctxState c := rfl
  refine (State.fenced_of_applied hw _ _).trans (if_pos ?_)
  change (decide ((s.ctxNamed d c cmd).fld (R.ltdCtxStat d) F.LtdCtxStat.busy = 1) || decide ((s.ctxNamed d c cmd).ctxState c = csMoving)) = true
  rw [s.busy_ctxNamed, hstill]
  simpa using h

variable (hbusy : s.fld (R.ltdCtxStat d) F.LtdCtxStat.busy = 0) (hstill : s.ctxState c ≠ csMoving)
include hbusy hstill

theorem State.ctxCommand_judged :
    s.ctxCommand w d c cmd check go
      = if check (s.ctxNamed d c cmd) ≠ 0 then (s.ctxNamed d c cmd).ltdRefuse d (check (s.ctxNamed d c cmd)) else go (ctxStat s d c cmd 0) := by
  have hstill' : (s.ctxNamed d c cmd).ctxState c = s.ctxState c := rfl
  refine (State.fenced_of_applied hw _ _).trans (if_neg ?_)
  change ¬ (decide ((s.ctxNamed d c cmd).fld (R.ltdCtxStat d) F.LtdCtxStat.busy = 1) || decide ((s.ctxNamed d c cmd).ctxState c = csMoving)) = true
  rw [s.busy_ctxNamed, hstill', hbusy]
  simpa using hstill

theorem State.ctxCommand_refused {code : Nat} (hcheck : check (s.ctxNamed d c cmd) = code) (hcode : code ≠ 0) :
    s.ctxCommand w d c cmd check go = (s.ctxNamed d c cmd).ltdRefuse d code := by
  rw [State.ctxCommand_judged hw hbusy hstill, hcheck, if_pos hcode]

theorem State.ctxCommand_accepted (hcheck : check (s.ctxNamed d c cmd) = 0) :
    s.ctxCommand w d c cmd check go = go (ctxStat s d c cmd 0) := by
  rw [State.ctxCommand_judged hw hbusy hstill, hcheck, if_neg (not_not_intro rfl)]

end

/-! ## What LTD_CTX_STAT shows (R245) -/

theorem State.result_ctxStat (s : State) (d c cmd : Nat) {code : Nat} (h : code < 2 ^ 4) :
    (ctxStat s d c cmd code).fld (R.ltdCtxStat d) F.LtdCtxStat.result = code :=
  State.fld_setFld_fit _ _ _ code rfl h

theorem State.keepsRegs_ctxStat (s : State) (d c cmd code : Nat) : s.keepsRegs (ctxStat s d c cmd code) [R.ltdCtxStat d] :=
  ((s.keepsRegs_setFld _ _ _).trans (State.keepsRegs_setFld _ _ _ _)).trans (State.keepsRegs_setFld _ _ _ _)

theorem State.ctxStat_touches (s : State) (d c cmd code : Nat) : Touches 0x8 s (ctxStat s d c cmd code) :=
  (State.setFld_touches _ _ _ _).step rfl ((State.setFld_touches _ _ _ _).step rfl (s.setFld_touches _ _ _))

theorem State.result_ltdRefuse (s : State) (d c cmd : Nat) {code : Nat} (h : code < 2 ^ 4) :
    ((s.ctxNamed d c cmd).ltdRefuse d code).fld (R.ltdCtxStat d) F.LtdCtxStat.result = code :=
  (State.fld_setFld_apart _ _ _ _ _ rfl).trans (s.result_ctxStat d c cmd h)

/-- A refusal says in LTD_CTX_STAT what was refused and why, and changes nothing else. -/
theorem ctxRefused_of_exec {i : Instr} {d cmd code : Nat} {c : Ctx} (h : exec i s = .next ((s.ctxNamed d c.val cmd).ltdRefuse d code))
    (hcmd : cmd < 2 ^ 4) (hcode : code < 2 ^ 4) : ctxRefused i d c.val cmd code s := by
  refine ⟨_, h, s.result_ltdRefuse d c.val cmd hcode, State.fld_setFld_fit _ _ _ 1 rfl (by decide), ?_, ?_, ?_, ?_⟩
  · rw [State.ltdRefuse, State.fld_setFld_apart _ _ _ _ _ rfl, State.fld_setFld_apart _ _ _ _ _ rfl, State.ctxNamed,
      State.fld_setFld_apart _ _ _ _ _ rfl, State.fld_setFld_fit _ _ _ _ rfl c.isLt]
  · rw [State.ltdRefuse, State.fld_setFld_apart _ _ _ _ _ rfl, State.fld_setFld_apart _ _ _ _ _ rfl, State.ctxNamed,
      State.fld_setFld_fit _ _ _ _ rfl hcmd]
  · exact (s.keepsRegs_ctxStat d c.val cmd code).trans (State.keepsRegs_setFld _ _ _ _)
  · have htouches : Touches 0x8 s ((s.ctxNamed d c.val cmd).ltdRefuse d code) :=
      (State.setFld_touches _ _ _ _).step rfl (s.ctxStat_touches d c.val cmd code)
    exact htouches.keeps (Piece.testBit_of_outside rfl)

/-! ## The commands in the states of R246 -/

/-- What CREATE checks, for a context of job j (R246, R329, R384). -/
def State.createCheck (d c j : Nat) (s : State) : Nat :=
  if s.ctxState c ≠ csFree then 1 else if !s.dieOfCtx d c then 6
    else if decide (s.qContexts j ≤ s.jobContexts j) || s.err.retiredCtxs.contains c then 2 else 0

/-- What CREATE writes into a context's record (R246). -/
def State.created (c : Nat) (s : State) : State :=
  (((((((s.setCtxState c csIdle).putRec c 472 8 0).putRec c 480 4 0).putRec c 484 2 0xFFFF).putRec c 486 1 0xFF).putRec c 487 1 0).putRec
    c 488 8 0).putRec c 504 4 0

/-- CREATE counts in SV_JOB_HIT only where its RESULT is that of a quota. -/
theorem exec_create_of_result {d : LDie} {c : Ctx} {t : State}
    (ht : s.ctxCommand w d.val c.val 1 (State.createCheck d.val c.val (recJob (s.ctx c.val).record)) (State.created c.val) = t)
    (hresult : t.fld (R.ltdCtxStat d.val) F.LtdCtxStat.result ≠ 2) : exec (.create w d c) s = .next t := by
  subst ht
  refine if_neg fun h => ?_
  obtain ⟨hcounted, -⟩ := Bool.and_eq_true_iff.mp h
  obtain ⟨-, hquota⟩ := Bool.and_eq_true_iff.mp hcounted
  exact hresult (of_decide_eq_true hquota)

/-- Each of the six commands checks the context's STATE first, and its outcome is what the shared protocol answers. -/
theorem exec_of_mem_ctxCommands {d : LDie} {c : Ctx} {slot : Fin 32} {phys : Fin 8} {i : Instr} {cmd : Nat} {states : List Nat}
    (h : (i, cmd, states) ∈ ctxCommands w d c slot phys) (s : State) :
    cmd < 2 ^ 4 ∧ ∃ check go, (∀ u : State, u.ctxState c.val ∉ states → check u = 1) ∧
      ∀ t, s.ctxCommand w d.val c.val cmd check go = t → t.fld (R.ltdCtxStat d.val) F.LtdCtxStat.result ≠ 2 → exec i s = .next t := by
  simp only [ctxCommands, List.mem_cons, List.not_mem_nil, or_false, Prod.mk.injEq] at h
  rcases h with ⟨rfl, rfl, rfl⟩ | ⟨rfl, rfl, rfl⟩ | ⟨rfl, rfl, rfl⟩ | ⟨rfl, rfl, rfl⟩ | ⟨rfl, rfl, rfl⟩ | ⟨rfl, rfl, rfl⟩
  · exact ⟨by decide, _, _, fun u hu => if_pos (List.mem_singleton.not.mp hu), fun t => exec_create_of_result⟩
  all_goals refine ⟨by decide, _, _, fun u hu => ?_, fun t ht _ => congrArg Host.Outcome.next ht⟩
  · exact if_pos (List.mem_singleton.not.mp hu)
  · exact if_pos (by simpa [and_assoc] using hu)
  · exact if_pos (by simp [List.mem_singleton.not.mp hu])
  · have hstate : u.ctxState c.val ≠ csDone ∧ u.ctxState c.val ≠ csStopped ∧ u.ctxState c.val ≠ csFaulted := by simpa using hu
    exact if_pos (by simp [hstate])
  · exact if_pos (by simpa [and_assoc] using hu)

section
variable {d : LDie} {c : Ctx} (hw : s.judge w (dLathe d.val) = .applied)
include hw

theorem ctxRefused_of_busy {slot : Fin 32} {phys : Fin 8} {i : Instr} {cmd : Nat} {states : List Nat}
    (hi : (i, cmd, states) ∈ ctxCommands w d c slot phys)
    (h : s.fld (R.ltdCtxStat d.val) F.LtdCtxStat.busy = 1 ∨ s.ctxState c.val = csMoving) : ctxRefused i d.val c.val cmd 4 s := by
  obtain ⟨hcmd, check, go, -, hexec⟩ := exec_of_mem_ctxCommands hi s
  have hresult := s.result_ltdRefuse d.val c.val cmd (by decide : 4 < 2 ^ 4)
  exact ctxRefused_of_exec (hexec _ (State.ctxCommand_busy hw h) (by rw [hresult]; decide)) hcmd (by decide)

variable (hbusy : s.fld (R.ltdCtxStat d.val) F.LtdCtxStat.busy = 0)
include hbusy

theorem ctxRefused_of_state {slot : Fin 32} {phys : Fin 8} {i : Instr} {cmd : Nat} {states : List Nat}
    (hi : (i, cmd, states) ∈ ctxCommands w d c slot phys) (hstill : s.ctxState c.val ≠ csMoving) (h : s.ctxState c.val ∉ states) :
    ctxRefused i d.val c.val cmd 1 s := by
  obtain ⟨hcmd, check, go, hcheck, hexec⟩ := exec_of_mem_ctxCommands hi s
  have hresult := s.result_ltdRefuse d.val c.val cmd (by decide : 1 < 2 ^ 4)
  exact ctxRefused_of_exec (hexec _ (State.ctxCommand_refused hw hbusy hstill (hcheck _ h) (by decide)) (by rw [hresult]; decide))
    hcmd (by decide)

theorem ctxRefused_of_check {i : Instr} {cmd code : Nat} {check : State → Nat} {go : State → State}
    (hexec : exec i s = .next (s.ctxCommand w d.val c.val cmd check go)) (hcmd : cmd < 2 ^ 4) (hstill : s.ctxState c.val ≠ csMoving)
    (hcheck : check (s.ctxNamed d.val c.val cmd) = code) (hcode : code ≠ 0) (hlt : code < 2 ^ 4) :
    ctxRefused i d.val c.val cmd code s :=
  ctxRefused_of_exec (hexec.trans (congrArg _ (State.ctxCommand_refused hw hbusy hstill hcheck hcode))) hcmd hlt

/-- RESUME and REPLAY need a resident context (R246). -/
theorem ctxRefused_of_absent (hstill : s.ctxState c.val ≠ csMoving) (h : (s.ctx c.val).phys = none) :
    ctxRefused (.resume w d c) d.val c.val 4 1 s ∧ ctxRefused (.replay w d c) d.val c.val 5 1 s := by
  have habsent (cmd : Nat) : ((s.ctxNamed d.val c.val cmd).ctx c.val).phys = none := h
  exact ⟨ctxRefused_of_check hw hbusy rfl (by decide) hstill (if_pos (by simp [habsent])) (by decide) (by decide),
    ctxRefused_of_check hw hbusy rfl (by decide) hstill (if_pos (by simp [habsent])) (by decide) (by decide)⟩

/-- A context that lost its state is not replayed (R246). -/
theorem ctxRefused_replay_of_lost (hst : s.ctxState c.val = csFaulted) (h : recFault (s.ctx c.val).record = 4) :
    ctxRefused (.replay w d c) d.val c.val 5 1 s := by
  have hlost : (s.ctxNamed d.val c.val 5).ctxState c.val = csFaulted ∧ recFault ((s.ctxNamed d.val c.val 5).ctx c.val).record = 4 := ⟨hst, h⟩
  exact ctxRefused_of_check hw hbusy rfl (by decide) (by rw [hst]; decide) (if_pos (by simp [hlost])) (by decide) (by decide)

end

end Sys2Proof.Machine
end

section
/-! What the arbiter of a lathe leaves (R206, R208): a context but for its record and registers, and every register but its slots' and its
jobs'. -/

namespace Sys2Proof.Machine

/-! ## Contexts -/

section
variable {α : Type} {g : CtxSt → α}

theorem State.ctx_putRec_proj (hrec : ∀ x r, g { x with record := r } = g x) (s : State) (c off wid v i : Nat) :
    g ((s.putRec c off wid v).ctx i) = g (s.ctx i) :=
  s.ctx_setCtx_proj g c i fun _ => hrec _ _

theorem State.ctx_setCtxState_proj (hrec : ∀ x r, g { x with record := r } = g x) (s : State) (c st i : Nat) :
    g ((s.setCtxState c st).ctx i) = g (s.ctx i) :=
  s.ctx_setCtx_proj g c i fun _ => hrec _ _

theorem State.ctx_setWait_proj (hregs : ∀ x r, g { x with regs := r } = g x) (s : State) (c i : Nat) (w : Wait) :
    g ((s.setWait c w).ctx i) = g (s.ctx i) :=
  s.ctx_setCtx_proj g c i fun _ => hregs _ _

theorem State.ctx_unwait_proj (hregs : ∀ x r, g { x with regs := r } = g x) (s : State) (c i : Nat) :
    g ((s.unwait c).ctx i) = g (s.ctx i) := by
  have hdropped : (s.dropAllocs c).ctx i = s.ctx i := State.ctx_of_ctxs ((s.dropAllocs_touches c).same 19 rfl) i
  unfold State.unwait
  extract_lets dropped
  split
  · exact (dropped.ctx_setWait_proj hregs c i _).trans (congrArg g hdropped)
  · exact congrArg g hdropped

theorem State.ctx_grantNext_proj (hregs : ∀ x r, g { x with regs := r } = g x) (s : State) (k i : Nat) :
    g ((s.grantNext k).ctx i) = g (s.ctx i) := by
  unfold State.grantNext
  split
  · rfl
  · split
    · rfl
    · extract_lets granted
      split
      · exact granted.ctx_setWait_proj hregs _ i _
      · rfl

theorem State.ctx_chargeGrant_proj (hrec : ∀ x r, g { x with record := r } = g x) (s : State) (k i : Nat) :
    g ((s.chargeGrant k).ctx i) = g (s.ctx i) := by
  unfold State.chargeGrant
  split
  · rfl
  next c _ =>
  extract_lets d timed counted recorded j was charged
  have hcounted : counted.ctxs = s.ctxs := by
    unfold counted
    split
    · exact ((State.countBy_touches _ _ _ _).same 19 rfl).trans ((s.setLathe_touches _ _).same 19 rfl)
    · exact (s.setLathe_touches _ _).same 19 rfl
  have hrecorded : g (recorded.ctx i) = g (s.ctx i) :=
    (counted.ctx_putRec_proj hrec c 488 8 _ i).trans (congrArg g (State.ctx_of_ctxs hcounted i))
  have hcharged : charged.ctxs = recorded.ctxs := (recorded.setJob_touches _ _).same 19 rfl
  clear_value recorded charged
  have hcharged' : g (charged.ctx i) = g (s.ctx i) := (congrArg g (State.ctx_of_ctxs hcharged i)).trans hrecorded
  split
  · have hhit : ((charged.setJob j (fun x => { x with slotOver := true })).count (R.svJobHit j) F.SvJobHit.slotHit).ctxs = charged.ctxs :=
      ((State.count_touches _ _ _).same 19 rfl).trans ((charged.setJob_touches _ _).same 19 rfl)
    exact (congrArg g (State.ctx_of_ctxs hhit i)).trans hcharged'
  · exact hcharged'

theorem State.ctx_leavePipe_proj (hrec : ∀ x r, g { x with record := r } = g x) (hregs : ∀ x r, g { x with regs := r } = g x)
    (s : State) (k c i : Nat) : g ((s.leavePipe k c).ctx i) = g (s.ctx i) := by
  unfold State.leavePipe
  extract_lets left
  split
  · exact ((left.dropGrant k).ctx_grantNext_proj hregs k i).trans (left.ctx_chargeGrant_proj hrec k i)
  · rfl

theorem State.ctx_placeWindows_proj (hrec : ∀ x r r', g { x with record := r, live := r' } = g x) (s : State) (k c i : Nat) :
    g ((s.placeWindows k c).ctx i) = g (s.ctx i) := by
  refine List.foldlRecOn (motive := fun t : State => g (t.ctx i) = g (s.ctx i)) (List.range 8) _ rfl fun t ht w _ => ?_
  extract_lets e b
  split
  · exact (t.ctx_setCtx_proj g c i fun _ => hrec _ _ _).trans ht
  · exact ht

end

/-! ## Job records -/

theorem State.job_setJob_rec (s : State) (j i : Nat) {f : JobSt → JobSt} (hf : ∀ x, (f x).rec_ = x.rec_) :
    ((s.setJob j f).job i).rec_ = (s.job i).rec_ := by
  by_cases h : i = j
  · subst h
    rw [State.job_setJob_same, hf]
  · rw [State.job_setJob_ne _ _ _ _ h]

theorem State.job_of_jobs {s t : State} (h : t.jobs = s.jobs) (j : Nat) : t.job j = s.job j := by
  rw [State.job, State.job, h]

/-- A charge to a job leaves its record. -/
theorem State.jobRec_chargeGrant (s : State) (k i : Nat) : ((s.chargeGrant k).job i).rec_ = (s.job i).rec_ := by
  unfold State.chargeGrant
  split
  · rfl
  next c _ =>
  extract_lets d timed counted recorded j was charged
  have hcounted : counted.jobs = s.jobs := by
    unfold counted
    split
    · exact ((State.countBy_touches _ _ _ _).same 18 rfl).trans ((s.setLathe_touches _ _).same 18 rfl)
    · exact (s.setLathe_touches _ _).same 18 rfl
  have hrecorded : recorded.jobs = s.jobs := ((counted.putRec_touches _ _ _ _).same 18 rfl).trans hcounted
  have hspent : (charged.job i).rec_ = (recorded.job i).rec_ := recorded.job_setJob_rec j i fun _ => rfl
  have hcharged : (charged.job i).rec_ = (s.job i).rec_ := hspent.trans (congrArg JobSt.rec_ (State.job_of_jobs hrecorded i))
  clear_value charged
  split
  · have hhit : ((charged.setJob j (fun x => { x with slotOver := true })).count (R.svJobHit j) F.SvJobHit.slotHit).jobs
      = (charged.setJob j (fun x => { x with slotOver := true })).jobs := (State.count_touches _ _ _).same 18 rfl
    have hover : ((charged.setJob j (fun x => { x with slotOver := true })).job i).rec_ = (charged.job i).rec_ :=
      charged.job_setJob_rec j i fun _ => rfl
    exact ((congrArg JobSt.rec_ (State.job_of_jobs hhit i)).trans hover).trans hcharged
  · exact hcharged

theorem State.jobRec_leavePipe (s : State) (k c i : Nat) : ((s.leavePipe k c).job i).rec_ = (s.job i).rec_ := by
  unfold State.leavePipe
  extract_lets left
  split
  · exact (congrArg JobSt.rec_ (State.job_of_jobs (((left.dropGrant k).grantNext_touches k).same 18 rfl) i)).trans (left.jobRec_chargeGrant k i)
  · rfl

theorem State.windowsAllowed_of_jobRec {s t : State} (h : ∀ j, (t.job j).rec_ = (s.job j).rec_) (r : CtxRec) :
    t.windowsAllowed r = s.windowsAllowed r := by
  simp only [State.windowsAllowed, h]

/-! ## Registers -/

theorem ltdCtxStat_ne_ltSlot (d k : Nat) {i : Nat} (h : i < 16) : R.ltdCtxStat d ≠ ltSlot k i := by
  simp only [R.ltdCtxStat, ltSlot, R.ltSlot]
  omega

theorem ltdCtxStat_ne_svJobHit (d : Nat) (r : CtxRec) : R.ltdCtxStat d ≠ R.svJobHit (recJob r) := by
  have hlow := svJobHit_low r
  simp only [R.ltdCtxStat]
  omega

theorem State.rd_chargeGrant_ltdCtxStat (s : State) (k d : Nat) : (s.chargeGrant k).rd (R.ltdCtxStat d) = s.rd (R.ltdCtxStat d) := by
  unfold State.chargeGrant
  split
  · rfl
  next c _ =>
  extract_lets now timed counted recorded j was charged
  have hcounted : counted.rd (R.ltdCtxStat d) = s.rd (R.ltdCtxStat d) := by
    unfold counted
    split
    next i hi => exact State.rd_setFld_ne timed _ _ _ _ (ltdCtxStat_ne_ltSlot d k (State.slotOf_lt hi))
    next => rfl
  have hcharged : charged.regs = counted.regs :=
    ((State.setJob_touches _ _ _).same 3 rfl).trans ((counted.putRec_touches _ _ _ _).same 3 rfl)
  clear_value charged
  have hcharged' : charged.rd (R.ltdCtxStat d) = s.rd (R.ltdCtxStat d) := (State.rd_of_regs hcharged _).trans hcounted
  split
  · have hjob : ((charged.setJob j (fun x => { x with slotOver := true }))).rd (R.ltdCtxStat d) = charged.rd (R.ltdCtxStat d) :=
      (charged.setJob_touches _ _).rd rfl _
    exact ((State.rd_setFld_ne _ _ _ _ _ (ltdCtxStat_ne_svJobHit d _)).trans hjob).trans hcharged'
  · exact hcharged'

theorem State.rd_leavePipe_ltdCtxStat (s : State) (k c d : Nat) : (s.leavePipe k c).rd (R.ltdCtxStat d) = s.rd (R.ltdCtxStat d) := by
  unfold State.leavePipe
  extract_lets left
  split
  · exact ((left.dropGrant k).grantNext_touches k |>.rd rfl _).trans (left.rd_chargeGrant_ltdCtxStat k d)
  · rfl

/-! ## A context off its lathe's arbiter -/

/-- A context that has left the arbiter of the lathe where it is resident, if it is. -/
def State.offPipe (s : State) (c : Nat) : State :=
  match (s.ctx c).phys with
  | some k => s.leavePipe k c
  | none => s

theorem State.ctx_offPipe_proj {α : Type} {g : CtxSt → α} (hrec : ∀ x r, g { x with record := r } = g x)
    (hregs : ∀ x r, g { x with regs := r } = g x) (s : State) (c i : Nat) : g ((s.offPipe c).ctx i) = g (s.ctx i) := by
  unfold State.offPipe
  split
  · exact s.ctx_leavePipe_proj hrec hregs _ c i
  · rfl

theorem State.jobRec_offPipe (s : State) (c i : Nat) : ((s.offPipe c).job i).rec_ = (s.job i).rec_ := by
  unfold State.offPipe
  split
  · exact s.jobRec_leavePipe _ c i
  · rfl

theorem State.rd_offPipe_ltdCtxStat (s : State) (c d : Nat) : (s.offPipe c).rd (R.ltdCtxStat d) = s.rd (R.ltdCtxStat d) := by
  unfold State.offPipe
  split
  · exact s.rd_leavePipe_ltdCtxStat _ c d
  · rfl

end Sys2Proof.Machine
end

section
/-! CREATE and RELEASE (R246, R255): the record of a context that becomes IDLE or FREE. -/

namespace Sys2Proof.Machine

variable {s : State} {w : Writer} {d : LDie} {c : Ctx}

/-! ## The record as CREATE leaves it (R246) -/

/-- The record with STATE IDLE and the fields that CREATE clears. -/
def createdRec (r : CtxRec) : CtxRec :=
  recPut (recPut (recPut (recPut (recPut (recPut (recPut (recPut r 2 2 (setBitsOf (recF r 2 2) 0 4 csIdle)) 472 8 0) 480 4 0) 484 2 0xFFFF)
    486 1 0xFF) 487 1 0) 488 8 0) 504 4 0

theorem recState_createdRec (r : CtxRec) : recState (createdRec r) = csIdle := by
  simp only [createdRec, recState_recPut_apart, Nat.reduceLeDiff, or_true]
  exact recState_put r _ (by decide)

theorem recF_testBit (r : CtxRec) (off wid i : Nat) :
    (recF r off wid).testBit i = (decide (i < 8 * wid) && r.toNat.testBit (8 * off + i)) :=
  bitsOf_testBit _ _ _ _

/-- STATE lies in the low byte of CTL: a write of it leaves the byte above. -/
theorem recF_putState_high (r : CtxRec) (st : Nat) : recF (recPut r 2 2 (setBitsOf (recF r 2 2) 0 4 st)) 3 1 = recF r 3 1 := by
  apply Nat.eq_of_testBit_eq
  intro i
  rw [recF_testBit, recF_testBit]
  by_cases hi : i < 8
  · rw [recPut_testBit _ _ _ _ _ (by omega), if_pos (by omega), setBitsOf_testBit, if_neg (by omega), recF_testBit,
      decide_eq_true (by omega : 8 * 3 + i - 8 * 2 < 8 * 2), Bool.true_and, show 8 * 2 + (8 * 3 + i - 8 * 2) = 8 * 3 + i by omega]
  · rw [decide_eq_false hi, Bool.false_and, Bool.false_and]

/-- CREATE leaves the bytes behind STATE but those of PROG, NFLAGS, LATHE, SLOT, FAULT, GRANT_TICKS and CALL. -/
theorem recF_createdRec_byte (r : CtxRec) {b : Nat} (hb : b < 512) (hstate : b ≠ 2) (hfields : b < 472 ∨ 496 ≤ b)
    (hcall : b < 504 ∨ 508 ≤ b) : recF (createdRec r) b 1 = recF r b 1 := by
  have hput : recF (recPut r 2 2 (setBitsOf (recF r 2 2) 0 4 csIdle)) b 1 = recF r b 1 := by
    by_cases hhigh : b = 3
    · subst hhigh
      exact recF_putState_high r csIdle
    · exact recF_recPut_apart _ _ _ _ _ _ (by omega) (by omega)
  rw [createdRec]
  iterate 7 rw [recF_recPut_apart _ _ _ _ _ _ (by omega) (by omega)]
  exact hput

theorem createdRec_fields (r : CtxRec) :
    recFault (createdRec r) = 0 ∧ recF (createdRec r) 484 2 = 0xFFFF ∧ recF (createdRec r) 486 1 = 0xFF ∧ recF (createdRec r) 472 8 = 0
      ∧ recF (createdRec r) 480 4 = 0 ∧ recF (createdRec r) 488 8 = 0 ∧ recCall (createdRec r) = 0 := by
  simp [createdRec, recFault, recCall, recF_recPut_apart, recF_recPut_same]

/-! ## CREATE -/

theorem State.record_created (s : State) (c : Nat) : ((s.created c).ctx c).record = createdRec (s.ctx c).record := by
  simp only [State.created, State.putRec, State.setCtxState, State.ctx_setCtx_same, createdRec]

theorem State.created_touches (s : State) (c : Nat) : Touches 0x80000 s (s.created c) := by
  have hput (t : State) (off wid v : Nat) (h : Touches 0x80000 s t) : Touches 0x80000 s (t.putRec c off wid v) :=
    (t.putRec_touches _ _ _ _).step rfl h
  exact hput _ _ _ _ (hput _ _ _ _ (hput _ _ _ _ (hput _ _ _ _ (hput _ _ _ _ (hput _ _ _ _ (hput _ _ _ _
    (s.setCtxState_touches _ _)))))))

section
variable (hw : s.judge w (dLathe d.val) = .applied) (hbusy : s.fld (R.ltdCtxStat d.val) F.LtdCtxStat.busy = 0)
  (hst : s.ctxState c.val = csFree) (hdie : s.dieOfCtx d.val c.val = true)
  (hquota : s.jobContexts (recJob (s.ctx c.val).record) < s.qContexts (recJob (s.ctx c.val).record))
  (hretired : s.err.retiredCtxs.contains c.val = false)
include hw hbusy hst hdie hquota hretired

theorem exec_create :
    exec (.create w d c) s = .next ((ctxStat s d.val c.val 1 0).created c.val) := by
  have hcheck : State.createCheck d.val c.val (recJob (s.ctx c.val).record) (s.ctxNamed d.val c.val 1) = 0 := by
    have hstate : (s.ctxNamed d.val c.val 1).ctxState c.val = csFree := hst
    have hdie' : (s.ctxNamed d.val c.val 1).dieOfCtx d.val c.val = true := hdie
    have hquota' : (s.ctxNamed d.val c.val 1).jobContexts (recJob (s.ctx c.val).record)
      < (s.ctxNamed d.val c.val 1).qContexts (recJob (s.ctx c.val).record) := hquota
    have hretired' : (s.ctxNamed d.val c.val 1).err.retiredCtxs.contains c.val = false := hretired
    rw [State.createCheck, hretired', decide_eq_false (Nat.not_le.mpr hquota')]
    simp [hstate, hdie']
  refine exec_create_of_result (State.ctxCommand_accepted hw hbusy (by rw [hst]; decide) hcheck) ?_
  rw [((State.created_touches _ _).fld rfl _ _ : _ = _), s.result_ctxStat d.val c.val 1 (by decide)]
  decide

theorem completes_create :
    completes (.create w d c) s fun t =>
      t.ctxState c.val = csIdle ∧ recFault (t.ctx c.val).record = 0 ∧ recF (t.ctx c.val).record 484 2 = 0xFFFF
        ∧ recF (t.ctx c.val).record 486 1 = 0xFF ∧ recF (t.ctx c.val).record 472 8 = 0 ∧ recF (t.ctx c.val).record 480 4 = 0
        ∧ recF (t.ctx c.val).record 488 8 = 0 ∧ recCall (t.ctx c.val).record = 0
        ∧ (∀ b, b < 512 → b ≠ 2 → (b < 472 ∨ 496 ≤ b) → (b < 504 ∨ 508 ≤ b) →
          recF (t.ctx c.val).record b 1 = recF (s.ctx c.val).record b 1)
        ∧ t.fld (R.ltdCtxStat d.val) F.LtdCtxStat.result = 0 ∧ s.keepsRegs t [R.ltdCtxStat d.val] ∧ s.keeps t [.regs, .ctxs] := by
  have hcreated := (ctxStat s d.val c.val 1 0).created_touches c.val
  have htouches : Touches 0x80008 s ((ctxStat s d.val c.val 1 0).created c.val) :=
    hcreated.step rfl ((s.ctxStat_touches _ _ _ _).mono rfl)
  refine ⟨_, exec_create hw hbusy hst hdie hquota hretired, ?_⟩
  have hrecord : (((ctxStat s d.val c.val 1 0).created c.val).ctx c.val).record = createdRec (s.ctx c.val).record :=
    State.record_created _ _
  beta_reduce
  rw [State.ctxState, hrecord]
  obtain ⟨hfault, hlathe, hslot, hprog, hnflags, hgrant, hcall⟩ := createdRec_fields (s.ctx c.val).record
  exact ⟨recState_createdRec _, hfault, hlathe, hslot, hprog, hnflags, hgrant, hcall,
    fun b hb hstate hfields hcall' => recF_createdRec_byte _ hb hstate hfields hcall',
    (hcreated.fld rfl _ _).trans (s.result_ctxStat d.val c.val 1 (by decide)),
    (s.keepsRegs_ctxStat d.val c.val 1 0).trans (hcreated.keepsRegs rfl _), htouches.keeps (Piece.testBit_of_outside rfl)⟩

end

/-! ## RELEASE (R255) -/

/-- A freed context holds nothing but its record, which names no lathe and no slot. -/
theorem State.freeCtx_shows (s : State) (c : Nat) :
    (s.freeCtx c).ctxState c = csFree ∧ ((s.freeCtx c).ctx c).phys = none ∧ ((s.freeCtx c).ctx c).mem = []
      ∧ ((s.freeCtx c).ctx c).regs = Regs.zero ∧ ((s.freeCtx c).ctx c).coll = Coll.empty
      ∧ recF ((s.freeCtx c).ctx c).record 484 2 = 0xFFFF ∧ recF ((s.freeCtx c).ctx c).record 486 1 = 0xFF := by
  unfold State.freeCtx
  extract_lets x left dropped released unformed free emptied
  simp only [State.ctxState, State.putRec, State.setCtxState, State.ctx_setCtx_same, emptied]
  refine ⟨?_, rfl, rfl, rfl, rfl, ?_, ?_⟩
  · rw [recState_recPut_apart _ _ _ _ (.inr (by decide)), recState_recPut_apart _ _ _ _ (.inr (by decide)), recState_put _ _ (by decide)]
  · exact (recF_recPut_apart _ _ _ _ _ _ (by decide) (.inr (by decide))).trans (recF_recPut_same _ 484 2 0xFFFF (by decide))
  · exact recF_recPut_same _ 486 1 0xFF (by decide)

theorem exec_release (hw : s.judge w (dLathe d.val) = .applied) (hbusy : s.fld (R.ltdCtxStat d.val) F.LtdCtxStat.busy = 0)
    (hst : s.ctxState c.val ∈ [csIdle, csDone, csFaulted, csStopped, csSaved]) (hdie : s.dieOfCtx d.val c.val = true) :
    exec (.release w d c) s = .next ((ctxStat s d.val c.val 6 0).freeCtx c.val) := by
  have hstill : s.ctxState c.val ≠ csMoving := ne_of_mem_of_not_mem hst (by decide)
  have hdie' : (s.ctxNamed d.val c.val 6).dieOfCtx d.val c.val = true := hdie
  refine congrArg Host.Outcome.next (State.ctxCommand_accepted hw hbusy hstill ((if_neg ?_).trans (if_neg (by simp [hdie']))))
  have hst' : (s.ctxNamed d.val c.val 6).ctxState c.val ∈ [csIdle, csDone, csFaulted, csStopped, csSaved] := hst
  simpa [or_assoc, imp_iff_not_or] using hst'

end Sys2Proof.Machine
end

section
/-! START (R246, R247): the order of its checks, and the load that begins. -/

namespace Sys2Proof.Machine

variable {s : State} {w : Writer} {d : LDie} {c : Ctx} {slot : Fin 32} {phys : Fin 8}

/-! ## What START checks (R246) -/

/-- What START of context c on the lathe at place p of die d checks, in order. -/
def State.startCheck (d c slot p : Nat) (s : State) : Nat :=
  if s.ctxState c ≠ csIdle then 1
  else if decide (5 ≤ p) || (decide (0x10 ≤ slot) && decide (slot ≠ 0x1F)) then 5
  else if !s.dieOfCtx d c then 6
  else if !s.latheServes (5 * d + p) then 7
  else if decide (slot ≠ 0x1F) && (s.slotTaken (5 * d + p) slot c || !s.slotAllowed slot c) then 3
  else if recordOk (s.ctx c).record && s.windowsAllowed (s.ctx c).record && !s.fitsLathe (5 * d + p) (s.ctx c).record then 2
  else 0

/-- What an accepted START does: the record is latched, and where it passes the load begins. -/
def State.started (d c slot p : Nat) (s : State) : State :=
  let k := 5 * d + p
  let (ok, s) := s.latch k c
  if ok then s.beginLoad d k c slot else s

theorem exec_start_eq : exec (.start w d c slot phys) s
    = .next (s.ctxCommand w d.val c.val 2 (State.startCheck d.val c.val slot.val phys.val) (State.started d.val c.val slot.val phys.val)) := by
  change execStart w d c slot phys s = _
  unfold execStart State.startCheck State.started
  rfl

theorem State.started_of_latched {d c slot p : Nat} (h : (s.latch (5 * d + p) c).1 = true) :
    s.started d c slot p = (s.latch (5 * d + p) c).2.beginLoad d (5 * d + p) c slot := by
  unfold State.started
  extract_lets k
  rw [show s.latch k c = (true, (s.latch k c).2) from Prod.ext h rfl]
  rfl

/-! ## The command's own register bears on none of the checks -/

theorem ltdCtxStat_ne_ltStat (d k : Nat) : ltStat k ≠ R.ltdCtxStat d := by
  simp only [R.ltdCtxStat, ltStat, R.ltStat]
  omega

theorem State.rd_ctxNamed_ne (s : State) (d c cmd : Nat) {off : Nat} (h : off ≠ R.ltdCtxStat d) :
    (s.ctxNamed d c cmd).rd off = s.rd off :=
  (State.rd_setFld_ne _ _ _ _ _ h).trans (s.rd_setFld_ne _ _ _ _ h)

theorem State.latheServes_ctxNamed (s : State) (d c cmd p : Nat) (hp : p < 5) :
    (s.ctxNamed d c cmd).latheServes (5 * d + p) = s.latheServes (5 * d + p) := by
  have hdom : R.glbPd (domLathe (5 * d + p)) ≠ R.ltdCtxStat d := by
    simp only [R.glbPd, domLathe, R.ltdCtxStat]
    omega
  rw [State.latheServes, State.latheServes, State.role, State.role, State.domState, State.domState,
    State.fld_of_rd (s.rd_ctxNamed_ne d c cmd (ltdCtxStat_ne_ltStat d _)), State.fld_of_rd (s.rd_ctxNamed_ne d c cmd hdom)]

theorem State.slotTaken_ctxNamed (s : State) (d c cmd k : Nat) {i : Nat} (hi : i < 16) :
    (s.ctxNamed d c cmd).slotTaken k i c = s.slotTaken k i c := by
  have hslot := s.rd_ctxNamed_ne d c cmd (ltdCtxStat_ne_ltSlot d k hi).symm
  unfold State.slotTaken
  dsimp only
  rw [State.fld_of_rd hslot, State.fld_of_rd hslot]
  rfl

/-! ## The checks in order (R246) -/

section
variable (hst : s.ctxState c.val = csIdle)
include hst

section
variable (hp : phys.val < 5) (hslot : slot.val < 16 ∨ slot.val = 0x1F)
include hp hslot

/-- For an IDLE context, a lathe of the die and a slot that there is, the checks that are left. -/
theorem State.startCheck_of_idle : (s.ctxNamed d.val c.val 2).startCheck d.val c.val slot.val phys.val
    = if !s.dieOfCtx d.val c.val then 6
      else if !s.latheServes (5 * d.val + phys.val) then 7
      else if decide (slot.val ≠ 0x1F) && (s.slotTaken (5 * d.val + phys.val) slot.val c.val || !s.slotAllowed slot.val c.val) then 3
      else if recordOk (s.ctx c.val).record && s.windowsAllowed (s.ctx c.val).record
        && !s.fitsLathe (5 * d.val + phys.val) (s.ctx c.val).record then 2
      else 0 := by
  have hstate : (s.ctxNamed d.val c.val 2).ctxState c.val = csIdle := hst
  have htaken : (decide (slot.val ≠ 0x1F) && ((s.ctxNamed d.val c.val 2).slotTaken (5 * d.val + phys.val) slot.val c.val
      || !(s.ctxNamed d.val c.val 2).slotAllowed slot.val c.val))
      = (decide (slot.val ≠ 0x1F) && (s.slotTaken (5 * d.val + phys.val) slot.val c.val || !s.slotAllowed slot.val c.val)) := by
    rcases hslot with hslot | hslot
    · rw [s.slotTaken_ctxNamed d.val c.val 2 _ hslot]
      rfl
    · rw [hslot]
      rfl
  rw [State.startCheck, hstate, if_neg (not_not_intro rfl), if_neg (by simp; omega), s.latheServes_ctxNamed _ _ _ _ hp, htaken]
  rfl

end

variable (hw : s.judge w (dLathe d.val) = .applied) (hbusy : s.fld (R.ltdCtxStat d.val) F.LtdCtxStat.busy = 0)
include hw hbusy

theorem ctxRefused_start {code : Nat} (hcheck : (s.ctxNamed d.val c.val 2).startCheck d.val c.val slot.val phys.val = code)
    (hcode : code ≠ 0) (hlt : code < 2 ^ 4) : ctxRefused (.start w d c slot phys) d.val c.val 2 code s :=
  ctxRefused_of_check hw hbusy exec_start_eq (by decide) (by rw [hst]; decide) hcheck hcode hlt

variable (hp : phys.val < 5) (hslot : slot.val < 16 ∨ slot.val = 0x1F)
include hp hslot

theorem ctxRefused_start_of_part (hdie : s.dieOfCtx d.val c.val = false) : ctxRefused (.start w d c slot phys) d.val c.val 2 6 s :=
  ctxRefused_start hst hw hbusy ((State.startCheck_of_idle hst hp hslot).trans (if_pos (by simp [hdie]))) (by decide) (by decide)

variable (hdie : s.dieOfCtx d.val c.val = true)
include hdie

theorem ctxRefused_start_of_lathe (hserves : s.latheServes (5 * d.val + phys.val) = false) :
    ctxRefused (.start w d c slot phys) d.val c.val 2 7 s :=
  ctxRefused_start hst hw hbusy ((State.startCheck_of_idle hst hp hslot).trans ((if_neg (by simp [hdie])).trans (if_pos (by simp [hserves]))))
    (by decide) (by decide)

variable (hserves : s.latheServes (5 * d.val + phys.val) = true)
include hserves

theorem ctxRefused_start_of_slot (hnamed : slot.val ≠ 0x1F)
    (htaken : s.slotTaken (5 * d.val + phys.val) slot.val c.val = true ∨ s.slotAllowed slot.val c.val = false) :
    ctxRefused (.start w d c slot phys) d.val c.val 2 3 s := by
  refine ctxRefused_start hst hw hbusy ((State.startCheck_of_idle hst hp hslot).trans ?_) (by decide) (by decide)
  rw [if_neg (by simp [hdie]), if_neg (by simp [hserves])]
  exact if_pos (by simpa [hnamed] using htaken)

theorem exec_start (hfree : slot.val = 0x1F ∨ (s.slotTaken (5 * d.val + phys.val) slot.val c.val = false ∧ s.slotAllowed slot.val c.val = true))
    (hfits : s.fitsLathe (5 * d.val + phys.val) (s.ctx c.val).record = true)
    (hlatched : ((ctxStat s d.val c.val 2 0).latch (5 * d.val + phys.val) c.val).1 = true) :
    exec (.start w d c slot phys) s = .next
      ((((ctxStat s d.val c.val 2 0).latch (5 * d.val + phys.val) c.val).2).beginLoad d.val (5 * d.val + phys.val) c.val slot.val) := by
  have hcheck : (s.ctxNamed d.val c.val 2).startCheck d.val c.val slot.val phys.val = 0 := by
    rw [State.startCheck_of_idle hst hp hslot, if_neg (by simp [hdie]), if_neg (by simp [hserves]), if_neg, if_neg (by simp [hfits])]
    rcases hfree with hnone | ⟨htaken, hallowed⟩
    · simp [hnone]
    · simp [htaken, hallowed]
  rw [exec_start_eq, State.ctxCommand_accepted hw hbusy (by rw [hst]; decide) hcheck, State.started_of_latched hlatched]

end

/-! ## The load that begins (R247) -/

theorem ltdCtxStat_ne_ltFaultStat (d k : Nat) : R.ltdCtxStat d ≠ R.ltFaultStat (k / 5) (k % 5) := by
  simp only [R.ltdCtxStat, R.ltFaultStat]
  omega

theorem State.rd_planSlot_ltdCtxStat (s : State) (d k c : Nat) {i : Nat} (hi : i < 16) :
    (s.planSlot k i c).rd (R.ltdCtxStat d) = s.rd (R.ltdCtxStat d) :=
  (State.rd_setFld_ne _ _ _ _ _ (ltdCtxStat_ne_ltSlot d k hi)).trans (s.rd_setFld_ne _ _ _ _ (ltdCtxStat_ne_ltSlot d k hi))

/-- Context c placed on lathe k of die d for the load of its slot: PARKED, with LATHE and SLOT in its record. -/
def State.loadSeated (s : State) (d k c slot : Nat) : State :=
  let moved := s.setCtx c (fun x => { x with phys := some k, home := d, move := .load slot })
  let parked := (moved.placeWindows k c).setCtxState c csParked
  (parked.putRec c 484 2 (parked.logical k)).putRec c 486 1 (if slot = 0x1F then 0xFF else slot)

theorem State.loadSeated_touches (s : State) (d k c slot : Nat) : Touches 0x80000 s (s.loadSeated d k c slot) :=
  (State.putRec_touches _ _ _ _ _).step rfl ((State.putRec_touches _ _ _ _ _).step rfl ((State.setCtxState_touches _ _ _).step rfl
    ((State.placeWindows_touches _ _ _).step rfl (s.setCtx_touches _ _))))

theorem State.loadSeated_shows (s : State) (d k c slot : Nat) :
    (s.loadSeated d k c slot).ctxState c = csParked ∧ ((s.loadSeated d k c slot).ctx c).phys = some k
      ∧ ((s.loadSeated d k c slot).ctx c).move = .load slot := by
  unfold State.loadSeated
  extract_lets moved parked
  have hmoved (α : Type) (g : CtxSt → α) (hg : ∀ x r r', g { x with record := r, live := r' } = g x) :
      g (((parked.putRec c 484 2 (parked.logical k)).putRec c 486 1 (if slot = 0x1F then 0xFF else slot)).ctx c) = g (moved.ctx c) := by
    simp only [State.putRec, State.ctx_setCtx_same, parked, State.setCtxState]
    exact (hg _ _ _).trans (moved.ctx_placeWindows_proj hg k c c)
  refine ⟨?_, ?_, ?_⟩
  · simp only [State.ctxState, State.putRec, State.ctx_setCtx_same, parked, State.setCtxState]
    rw [recState_recPut_apart _ _ _ _ (.inr (by decide)), recState_recPut_apart _ _ _ _ (.inr (by decide)), recState_put _ _ (by decide)]
  · exact (hmoved _ CtxSt.phys fun _ _ _ => rfl).trans (congrArg CtxSt.phys (State.ctx_setCtx_same _ _ _))
  · exact (hmoved _ CtxSt.move fun _ _ _ => rfl).trans (congrArg CtxSt.move (State.ctx_setCtx_same _ _ _))

/-- The slot of a load is planned, where it names one. -/
def State.loadPlanned (s : State) (k c slot : Nat) : State := if slot = 0x1F then s else s.planSlot k slot c

theorem State.ctxs_loadPlanned (s : State) (k c slot : Nat) : (s.loadPlanned k c slot).ctxs = s.ctxs := by
  unfold State.loadPlanned
  split
  · rfl
  · exact (s.planSlot_touches _ _ _).same 19 rfl

theorem State.rd_loadPlanned_ltdCtxStat (s : State) (d k c : Nat) {slot : Nat} (hslot : slot < 16 ∨ slot = 0x1F) :
    (s.loadPlanned k c slot).rd (R.ltdCtxStat d) = s.rd (R.ltdCtxStat d) := by
  unfold State.loadPlanned
  split
  · rfl
  next hnamed => exact s.rd_planSlot_ltdCtxStat d k c (hslot.resolve_right hnamed)

theorem State.beginLoad_eq (s : State) (d k c slot : Nat) : s.beginLoad d k c slot
    = (((s.setFld (R.ltdCtxStat d) F.LtdCtxStat.busy 1).loadSeated d k c slot).loadPlanned k c slot).count
      (R.ltFaultStat (k / 5) (k % 5)) F.LtFaultStat.loads := rfl

theorem State.ctxState_of_ctx {s t : State} {c : Nat} (h : t.ctx c = s.ctx c) : t.ctxState c = s.ctxState c := by
  rw [State.ctxState, State.ctxState, h]

/-- A context in load is PARKED on its lathe, and LTD_CTX_STAT is busy (R245, R247). -/
theorem State.beginLoad_shows (s : State) (d k c : Nat) {slot : Nat} (hslot : slot < 16 ∨ slot = 0x1F) :
    (s.beginLoad d k c slot).ctxState c = csParked ∧ ((s.beginLoad d k c slot).ctx c).phys = some k
      ∧ ((s.beginLoad d k c slot).ctx c).move = .load slot ∧ (s.beginLoad d k c slot).fld (R.ltdCtxStat d) F.LtdCtxStat.busy = 1 := by
  rw [s.beginLoad_eq]
  have hbusy : (s.setFld (R.ltdCtxStat d) F.LtdCtxStat.busy 1).fld (R.ltdCtxStat d) F.LtdCtxStat.busy = 1 :=
    s.fld_setFld_fit _ _ 1 rfl (by decide)
  generalize s.setFld (R.ltdCtxStat d) F.LtdCtxStat.busy 1 = u at hbusy ⊢
  obtain ⟨hstate, hphys, hmove⟩ := u.loadSeated_shows d k c slot
  have hrd : (u.loadSeated d k c slot).rd (R.ltdCtxStat d) = u.rd (R.ltdCtxStat d) := (u.loadSeated_touches d k c slot).rd rfl _
  generalize u.loadSeated d k c slot = seated at hstate hphys hmove hrd ⊢
  have hctx : ((seated.loadPlanned k c slot).count (R.ltFaultStat (k / 5) (k % 5)) F.LtFaultStat.loads).ctx c = seated.ctx c :=
    State.ctx_of_ctxs (((State.count_touches _ _ _).same 19 rfl).trans (seated.ctxs_loadPlanned k c slot)) c
  rw [State.ctxState_of_ctx hctx, hctx, State.fld_count_ne _ _ _ _ _ (ltdCtxStat_ne_ltFaultStat d k),
    State.fld_of_rd ((seated.rd_loadPlanned_ltdCtxStat d k c hslot).trans hrd)]
  exact ⟨hstate, hphys, hmove, hbusy⟩

end Sys2Proof.Machine
end

section
/-! STOP and RESUME (R253): a stop that waits and one that is taken at once, and a context that goes on. -/

namespace Sys2Proof.Machine

variable {s : State} {w : Writer} {d : LDie} {c : Ctx} {k : Nat}

/-! ## A STOP (R253) -/

/-- A STOP is asked of a context, which gives up the wait for its ALLOC. -/
def State.stopAsked (s : State) (c : Nat) : State := (s.unwait c).setCtx c (fun x => { x with stopping := 1 })

theorem State.stopAsked_touches (s : State) (c : Nat) : Touches 0x82000 s (s.stopAsked c) :=
  (State.setCtx_touches _ _ _).step rfl (s.unwait_touches c)

theorem State.stopAsked_shows (s : State) (c : Nat) :
    (s.stopAsked c).ctxState c = s.ctxState c ∧ ((s.stopAsked c).ctx c).phys = (s.ctx c).phys ∧ ((s.stopAsked c).ctx c).stopping = 1 := by
  have hasked : (s.stopAsked c).ctx c = { (s.unwait c).ctx c with stopping := 1 } := State.ctx_setCtx_same _ _ _
  rw [State.ctxState, hasked]
  exact ⟨s.ctx_unwait_proj (g := fun x => recState x.record) (fun _ _ => rfl) c c, s.ctx_unwait_proj (g := CtxSt.phys) (fun _ _ => rfl) c c, rfl⟩

/-- A context that has stopped at its boundary, before its STATE says so: off the arbiter, with PROG and NFLAGS in its record. -/
def State.stopRecorded (s : State) (c : Nat) : State :=
  let x := s.ctx c
  let settled := (s.offPipe c).setCtx c (fun x => { x with stopping := 0, regs := { x.regs with
    wait := if x.regs.wait = .grant || x.regs.wait = .operand then x.regs.again else x.regs.wait } })
  (settled.putRec c 472 8 x.regs.prog).putRec c 480 4 x.regs.nflags

theorem State.settleStop_of_stop {s : State} {c : Nat} (h : (s.ctx c).stopping = 1) :
    s.settleStop c = (s.stopRecorded c).setCtxState c csStopped := by
  unfold State.settleStop
  extract_lets x
  have hx : x.stopping = 1 := h
  rw [hx, if_neg (by decide)]
  rfl

theorem State.stopping_stopRecorded (s : State) (c : Nat) : ((s.stopRecorded c).ctx c).stopping = 0 := by
  unfold State.stopRecorded
  extract_lets x settled
  rw [State.ctx_putRec_proj (g := CtxSt.stopping) fun _ _ => rfl, State.ctx_putRec_proj (g := CtxSt.stopping) fun _ _ => rfl]
  exact congrArg CtxSt.stopping (State.ctx_setCtx_same _ _ _)

theorem State.rd_stopRecorded_ltdCtxStat (s : State) (c d : Nat) : (s.stopRecorded c).rd (R.ltdCtxStat d) = s.rd (R.ltdCtxStat d) := by
  unfold State.stopRecorded
  extract_lets x settled
  have hsettled : Touches 0x80000 (s.offPipe c) settled := (s.offPipe c).setCtx_touches _ _
  exact (((State.putRec_touches _ _ _ _ _).step rfl ((settled.putRec_touches _ _ _ _).step rfl hsettled)).rd rfl _).trans
    (s.rd_offPipe_ltdCtxStat c d)

theorem State.ctxState_setCtxState (s : State) (c : Nat) {st : Nat} (h : st < 2 ^ 4) : (s.setCtxState c st).ctxState c = st := by
  rw [State.setCtxState, State.ctxState, State.ctx_setCtx_same]
  exact recState_put _ _ h

/-- A stop that is taken leaves the context STOPPED. -/
theorem State.settleStop_shows {s : State} {c : Nat} (h : (s.ctx c).stopping = 1) (d : Nat) :
    (s.settleStop c).ctxState c = csStopped ∧ ((s.settleStop c).ctx c).stopping = 0
      ∧ (s.settleStop c).rd (R.ltdCtxStat d) = s.rd (R.ltdCtxStat d) := by
  rw [State.settleStop_of_stop h]
  refine ⟨State.ctxState_setCtxState _ c (by decide), ?_, ?_⟩
  · rw [State.ctx_setCtxState_proj (g := CtxSt.stopping) fun _ _ => rfl, s.stopping_stopRecorded]
  · rw [((s.stopRecorded c).setCtxState_touches c _).rd rfl, s.rd_stopRecorded_ltdCtxStat]

section
variable (hw : s.judge w (dLathe d.val) = .applied) (hbusy : s.fld (R.ltdCtxStat d.val) F.LtdCtxStat.busy = 0)
  (hst : s.ctxState c.val = csParked ∨ s.ctxState c.val = csRunning ∨ s.ctxState c.val = csIdle ∨ s.ctxState c.val = csSaved)
  (hdie : s.dieOfCtx d.val c.val = true) (hmoves : (s.ctx c.val).stopping ≠ 2)
include hw hbusy hst hdie hmoves

/-- An accepted STOP asks the context to stop; one that neither holds the grant nor waits in its bundle does so at once. -/
theorem exec_stop : exec (.stop w d c) s = .next
    (match (s.ctx c.val).phys with
     | some k =>
       if (s.lathe k).holder = some c.val ∨ (s.ctx c.val).regs.wait = .operand ∨ (s.ctx c.val).regs.wait = .fence
       then (ctxStat s d.val c.val 3 0).stopAsked c.val else ((ctxStat s d.val c.val 3 0).stopAsked c.val).settleStop c.val
     | none => ((ctxStat s d.val c.val 3 0).stopAsked c.val).settleStop c.val) := by
  have hstill : s.ctxState c.val ≠ csMoving := by
    rcases hst with h | h | h | h <;> rw [h] <;> decide
  have hst' : (s.ctxNamed d.val c.val 3).ctxState c.val = csParked ∨ (s.ctxNamed d.val c.val 3).ctxState c.val = csRunning
    ∨ (s.ctxNamed d.val c.val 3).ctxState c.val = csIdle ∨ (s.ctxNamed d.val c.val 3).ctxState c.val = csSaved := hst
  have hdie' : (s.ctxNamed d.val c.val 3).dieOfCtx d.val c.val = true := hdie
  refine congrArg Host.Outcome.next ((State.ctxCommand_accepted hw hbusy hstill ((if_neg ?_).trans (if_neg (by simp [hdie'])))).trans ?_)
  · simpa [or_assoc, imp_iff_not_or] using hst'
  · refine (if_neg hmoves).trans ?_
    extract_lets asked
    have hwait : ((ctxStat s d.val c.val 3 0).ctx c.val).regs.wait = (s.ctx c.val).regs.wait := rfl
    have hphys : (asked.ctx c.val).phys = (s.ctx c.val).phys := ((ctxStat s d.val c.val 3 0).stopAsked_shows c.val).2.1
    have hlathe (k : Nat) : asked.lathe k = s.lathe k :=
      State.lathe_of_lathes (((ctxStat s d.val c.val 3 0).stopAsked_touches c.val).same 20 rfl) k
    rw [hwait, hphys]
    cases (s.ctx c.val).phys with
    | none => rfl
    | some k =>
      dsimp only
      simp only [hlathe, Bool.or_eq_true, decide_eq_true_eq, or_assoc]
      rfl

/-- A context that neither holds the grant nor waits in its bundle is STOPPED at once. -/
theorem completes_stop_settled
    (hwait : (s.ctx c.val).phys = none ∨ ((s.ctx c.val).regs.wait ≠ .operand ∧ (s.ctx c.val).regs.wait ≠ .fence))
    (hholder : ∀ k, (s.ctx c.val).phys = some k → (s.lathe k).holder ≠ some c.val) :
    completes (.stop w d c) s fun t =>
      t.ctxState c.val = csStopped ∧ (t.ctx c.val).stopping = 0 ∧ t.fld (R.ltdCtxStat d.val) F.LtdCtxStat.result = 0 := by
  have hexec : exec (.stop w d c) s = .next (((ctxStat s d.val c.val 3 0).stopAsked c.val).settleStop c.val) := by
    rw [exec_stop hw hbusy hst hdie hmoves]
    cases hphys : (s.ctx c.val).phys with
    | none => rfl
    | some k =>
      obtain ⟨hoperand, hfence⟩ := hwait.resolve_left (by rw [hphys]; exact Option.some_ne_none k)
      exact congrArg _ (if_neg (by simp [hholder k hphys, hoperand, hfence]))
  obtain ⟨-, -, hasked⟩ := (ctxStat s d.val c.val 3 0).stopAsked_shows c.val
  obtain ⟨hstopped, hstopping, hrd⟩ := State.settleStop_shows hasked d.val
  refine ⟨_, hexec, hstopped, hstopping, ?_⟩
  rw [State.fld_of_rd hrd, (State.stopAsked_touches _ _).fld rfl,
    s.result_ctxStat d.val c.val 3 (by decide)]

/-- One that holds the grant, or waits in its bundle, goes on to its boundary. -/
theorem completes_stop_waits (hphys : (s.ctx c.val).phys = some k)
    (hwait : (s.lathe k).holder = some c.val ∨ (s.ctx c.val).regs.wait = .operand ∨ (s.ctx c.val).regs.wait = .fence) :
    completes (.stop w d c) s fun t =>
      t.ctxState c.val = s.ctxState c.val ∧ (t.ctx c.val).stopping = 1 ∧ (t.lathe k).holder = (s.lathe k).holder
        ∧ t.fld (R.ltdCtxStat d.val) F.LtdCtxStat.result = 0 := by
  have hexec : exec (.stop w d c) s = .next ((ctxStat s d.val c.val 3 0).stopAsked c.val) := by
    rw [exec_stop hw hbusy hst hdie hmoves, hphys]
    exact congrArg _ (if_pos hwait)
  have htouches := (ctxStat s d.val c.val 3 0).stopAsked_touches c.val
  obtain ⟨hstate, -, hasked⟩ := (ctxStat s d.val c.val 3 0).stopAsked_shows c.val
  exact ⟨_, hexec, hstate, hasked, congrArg LatheSt.holder (State.lathe_of_lathes (htouches.same 20 rfl) k),
    (htouches.fld rfl _ _).trans (s.result_ctxStat d.val c.val 3 (by decide))⟩

end

/-! ## RESUME (R253, R262) -/

theorem stopAside_requestPipe (s : State) (k c : Nat) : StopAside s (s.requestPipe k c) := by
  unfold State.requestPipe
  extract_lets l
  split
  · exact .refl s
  · exact .step (stopAside_grantNext _ k) (.setLathe s k fun _ => rfl)

/-- A context that runs again and waits for no FENCE at most asks for the pipeline. -/
theorem State.rewake_of_no_fence {s : State} {c : Nat} (h : (s.ctx c).regs.wait ≠ .fence) (k : Nat) :
    s.rewake k c = s ∨ s.rewake k c = s.requestPipe k c := by
  unfold State.rewake
  split
  · exact .inl rfl
  · split
    · split
      · exact .inr rfl
      · exact .inl rfl
    next hfence => exact absurd hfence h
    · exact .inl rfl

theorem State.rewake_of_no_fence_shows {s : State} {c : Nat} (h : (s.ctx c).regs.wait ≠ .fence) (k : Nat) :
    StopAside s (s.rewake k c) ∧ Touches 0x180000 s (s.rewake k c) := by
  rcases State.rewake_of_no_fence h k with heq | heq <;> rw [heq]
  · exact ⟨.refl s, .refl _ s⟩
  · exact ⟨stopAside_requestPipe s k c, s.requestPipe_touches k c⟩

section
variable (hw : s.judge w (dLathe d.val) = .applied) (hbusy : s.fld (R.ltdCtxStat d.val) F.LtdCtxStat.busy = 0)
  (hst : s.ctxState c.val = csStopped) (hphys : (s.ctx c.val).phys = some k) (hdie : s.dieOfCtx d.val c.val = true)
include hw hbusy hst hphys hdie

/-- RESUME leaves a context PARKED whose load or boundary is outstanding, and runs any other. -/
theorem exec_resume : exec (.resume w d c) s = .next
    (if ((s.ctx c.val).move.loading || (s.ctx c.val).startPend) = true then (ctxStat s d.val c.val 4 0).setCtxState c.val csParked
     else ((ctxStat s d.val c.val 4 0).setCtxState c.val csRunning).rewake k c.val) := by
  have hst' : (s.ctxNamed d.val c.val 4).ctxState c.val = csStopped := hst
  have hphys' : ((s.ctxNamed d.val c.val 4).ctx c.val).phys = some k := hphys
  have hdie' : (s.ctxNamed d.val c.val 4).dieOfCtx d.val c.val = true := hdie
  refine congrArg Host.Outcome.next ((State.ctxCommand_accepted hw hbusy (by rw [hst]; decide)
    ((if_neg (by simp [hst', hphys'])).trans (if_neg (by simp [hdie'])))).trans ?_)
  have hctx : (ctxStat s d.val c.val 4 0).ctx c.val = s.ctx c.val := rfl
  generalize ctxStat s d.val c.val 4 0 = u at hctx ⊢
  have hrun : ((u.setCtxState c.val csRunning).ctx c.val).phys = some k := by
    rw [u.ctx_setCtxState_proj (g := CtxSt.phys) fun _ _ => rfl, hctx, hphys]
  extract_lets run
  rw [hrun, hctx]

theorem completes_resume_runs (hload : (s.ctx c.val).move.loading = false) (hstart : (s.ctx c.val).startPend = false)
    (hfence : (s.ctx c.val).regs.wait ≠ .fence) :
    completes (.resume w d c) s fun t =>
      t.ctxState c.val = csRunning ∧ t.fld (R.ltdCtxStat d.val) F.LtdCtxStat.result = 0 ∧ s.keepsRegs t [R.ltdCtxStat d.val]
        ∧ s.keeps t [.regs, .ctxs, .lathes] := by
  have hrun := (ctxStat s d.val c.val 4 0).setCtxState_touches c.val csRunning
  have hfence' : (((ctxStat s d.val c.val 4 0).setCtxState c.val csRunning).ctx c.val).regs.wait ≠ .fence :=
    ((ctxStat s d.val c.val 4 0).ctx_setCtxState_proj (g := fun x => x.regs.wait) (fun _ _ => rfl) c.val csRunning c.val).trans_ne hfence
  obtain ⟨haside, hrewake⟩ := State.rewake_of_no_fence_shows hfence' k
  have hacts : Touches 0x180000 (ctxStat s d.val c.val 4 0) (((ctxStat s d.val c.val 4 0).setCtxState c.val csRunning).rewake k c.val) :=
    hrewake.step rfl (hrun.mono rfl)
  have htouches : Touches 0x180008 s (((ctxStat s d.val c.val 4 0).setCtxState c.val csRunning).rewake k c.val) :=
    hacts.step rfl ((s.ctxStat_touches _ _ _ _).mono rfl)
  refine ⟨_, (exec_resume hw hbusy hst hphys hdie).trans (congrArg _ (if_neg (by simp [hload, hstart]))),
    (congrArg Prod.fst (haside.marks c.val)).trans (State.ctxState_setCtxState _ c.val (by decide)),
    (hacts.fld rfl _ _).trans (s.result_ctxStat d.val c.val 4 (by decide)),
    (s.keepsRegs_ctxStat d.val c.val 4 0).trans (hacts.keepsRegs rfl _), htouches.keeps (Piece.testBit_of_outside rfl)⟩

theorem completes_resume_parks (h : (s.ctx c.val).move.loading = true ∨ (s.ctx c.val).startPend = true) :
    completes (.resume w d c) s fun t =>
      t.ctxState c.val = csParked ∧ t.fld (R.ltdCtxStat d.val) F.LtdCtxStat.result = 0 ∧ s.keepsRegs t [R.ltdCtxStat d.val]
        ∧ s.keeps t [.regs, .ctxs] := by
  have hpark := (ctxStat s d.val c.val 4 0).setCtxState_touches c.val csParked
  have htouches : Touches 0x80008 s ((ctxStat s d.val c.val 4 0).setCtxState c.val csParked) :=
    hpark.step rfl ((s.ctxStat_touches _ _ _ _).mono rfl)
  exact ⟨_, (exec_resume hw hbusy hst hphys hdie).trans (congrArg _ (if_pos (by simpa using h))),
    State.ctxState_setCtxState _ c.val (by decide), (hpark.fld rfl _ _).trans (s.result_ctxStat d.val c.val 4 (by decide)),
    (s.keepsRegs_ctxStat d.val c.val 4 0).trans (hpark.keepsRegs rfl _), htouches.keeps (Piece.testBit_of_outside rfl)⟩

end

end Sys2Proof.Machine
end

section
/-! REPLAY (R254): a context runs again from its entry. -/

namespace Sys2Proof.Machine

variable {s : State} {w : Writer} {d : LDie} {c : Ctx}

/-! ## The run that begins (R249, R254) -/

/-- A context's record latched again: FAULT cleared, fresh registers, no start outstanding, a new call's slip. -/
def State.replayLatched (s : State) (c : Nat) (live : CtxRec) (duty : Bool) : State :=
  (s.setCtx c (fun y => { y with record := recPut y.record 487 1 0, live := live, regs := freshRegs live, startPend := false })).setColl c
    (fun q => { q with slip := 0, duty := duty })

theorem State.replayLatched_touches (s : State) (c : Nat) (live : CtxRec) (duty : Bool) : Touches 0x80000 s (s.replayLatched c live duty) :=
  (State.setColl_touches _ _ _).step rfl (s.setCtx_touches _ _)

theorem State.recFault_setCtxState (s : State) (c st : Nat) :
    recFault ((s.setCtxState c st).ctx c).record = recFault (s.ctx c).record := by
  rw [State.setCtxState, State.ctx_setCtx_same]
  exact recFault_recPut_apart _ _ _ _ (.inl (by decide))

theorem State.ctx_replayLatched (s : State) (c : Nat) (live : CtxRec) (duty : Bool) :
    recFault ((s.replayLatched c live duty).ctx c).record = 0 ∧ ((s.replayLatched c live duty).ctx c).startPend = false
      ∧ ((s.replayLatched c live duty).ctx c).regs = freshRegs live ∧ ((s.replayLatched c live duty).ctx c).mem = (s.ctx c).mem
      ∧ ((s.replayLatched c live duty).ctx c).coll.desc = (s.ctx c).coll.desc := by
  simp only [State.replayLatched, State.setColl, State.ctx_setCtx_same]
  exact ⟨recF_recPut_same _ 487 1 0 (by decide), trivial, trivial, trivial, trivial⟩

section
variable {c : Nat} (hok : recordOk (s.ctx c).record = true)
  (hwindows : s.windowsAllowed (s.ctx c).record = true) (hkey : replayKey (s.ctx c).record = replayKey (s.ctx c).live)
  (hcoll : s.hasColl c = false) (hload : (s.ctx c).move.loading = false)
  (hmode : recMode (mergeWindows (s.ctx c).record (s.ctx c).live) ≠ 2)
include hok hwindows hkey hcoll hload hmode

/-- A context of no collective whose record passes runs again at once, but for an outstanding load or a PACED start. -/
theorem State.replay_of_ok :
    ∃ duty, s.replay c
      = ((s.offPipe c).replayLatched c (mergeWindows (s.ctx c).record (s.ctx c).live) duty).setCtxState c csRunning := by
  unfold State.replay
  extract_lets x left live paced latched tuned opened
  have hleft : left = s.offPipe c := rfl
  have hwindows' : left.windowsAllowed x.record = true :=
    (State.windowsAllowed_of_jobRec (s.jobRec_offPipe c) x.record).trans hwindows
  have hpaced : paced = false := decide_eq_false hmode
  have hload' : x.move.loading = false := hload
  have hpasses : (recordOk x.record && left.windowsAllowed x.record && decide (replayKey x.record = replayKey x.live)) = true := by
    rw [hwindows', decide_eq_true hkey, show recordOk x.record = true from hok]
    rfl
  have htuned : ∃ duty, tuned = (s.offPipe c).replayLatched c live duty := by
    unfold tuned latched
    rw [hpaced, hleft]
    exact ⟨_, rfl⟩
  obtain ⟨duty, htuned⟩ := htuned
  have hopened : opened = tuned := by
    refine if_neg ?_
    obtain ⟨-, -, -, -, hdesc⟩ := (s.offPipe c).ctx_replayLatched c live duty
    have hsame : ((s.offPipe c).ctx c).coll.desc = (s.ctx c).coll.desc :=
      s.ctx_offPipe_proj (g := fun x => x.coll.desc) (fun _ _ => rfl) (fun _ _ => rfl) c c
    rw [htuned, State.hasColl, hdesc, hsame]
    simpa [State.hasColl] using hcoll
  rw [hpasses, if_neg (by decide), hopened, htuned, hpaced, hload']
  exact ⟨duty, rfl⟩

theorem State.replay_shows (d : Nat) :
    (s.replay c).ctxState c = csRunning ∧ recFault ((s.replay c).ctx c).record = 0 ∧ ((s.replay c).ctx c).startPend = false
      ∧ ((s.replay c).ctx c).regs = freshRegs (mergeWindows (s.ctx c).record (s.ctx c).live)
      ∧ ((s.replay c).ctx c).mem = (s.ctx c).mem ∧ (s.replay c).rd (R.ltdCtxStat d) = s.rd (R.ltdCtxStat d) := by
  obtain ⟨duty, heq⟩ := State.replay_of_ok hok hwindows hkey hcoll hload hmode
  generalize mergeWindows (s.ctx c).record (s.ctx c).live = live at heq ⊢
  obtain ⟨hfault, hstart, hregs, hmem, -⟩ := (s.offPipe c).ctx_replayLatched c live duty
  have hrd : ((s.offPipe c).replayLatched c live duty).rd (R.ltdCtxStat d) = s.rd (R.ltdCtxStat d) :=
    (((s.offPipe c).replayLatched_touches c live duty).rd rfl _).trans (s.rd_offPipe_ltdCtxStat c d)
  have hmem' : ((s.offPipe c).ctx c).mem = (s.ctx c).mem := s.ctx_offPipe_proj (g := CtxSt.mem) (fun _ _ => rfl) (fun _ _ => rfl) c c
  rw [heq, State.recFault_setCtxState, State.ctx_setCtxState_proj (g := CtxSt.startPend) fun _ _ => rfl,
    State.ctx_setCtxState_proj (g := CtxSt.regs) fun _ _ => rfl, State.ctx_setCtxState_proj (g := CtxSt.mem) fun _ _ => rfl,
    (State.setCtxState_touches _ _ _).rd rfl]
  exact ⟨State.ctxState_setCtxState _ c (by decide), hfault, hstart, hregs, hmem.trans hmem', hrd⟩

end

/-! ## The command (R246, R254) -/

section
variable (hw : s.judge w (dLathe d.val) = .applied) (hbusy : s.fld (R.ltdCtxStat d.val) F.LtdCtxStat.busy = 0)
  (hst : s.ctxState c.val = csDone ∨ s.ctxState c.val = csStopped ∨ (s.ctxState c.val = csFaulted ∧ recFault (s.ctx c.val).record ≠ 4))
  (hphys : (s.ctx c.val).phys.isSome = true) (hdie : s.dieOfCtx d.val c.val = true)
include hw hbusy hst hphys hdie

theorem exec_replay : exec (.replay w d c) s = .next (((ctxStat s d.val c.val 5 0).dropAllocs c.val).replay c.val) := by
  have hstill : s.ctxState c.val ≠ csMoving := by
    rcases hst with h | h | ⟨h, -⟩ <;> rw [h] <;> decide
  have hphys' : ((s.ctxNamed d.val c.val 5).ctx c.val).phys.isNone = false := by
    rw [show (s.ctxNamed d.val c.val 5).ctx c.val = s.ctx c.val from rfl]
    simpa using hphys
  have hdie' : (s.ctxNamed d.val c.val 5).dieOfCtx d.val c.val = true := hdie
  have hst' : (s.ctxNamed d.val c.val 5).ctxState c.val = csDone ∨ (s.ctxNamed d.val c.val 5).ctxState c.val = csStopped
    ∨ ((s.ctxNamed d.val c.val 5).ctxState c.val = csFaulted ∧ recFault ((s.ctxNamed d.val c.val 5).ctx c.val).record ≠ 4) := hst
  refine congrArg Host.Outcome.next (State.ctxCommand_accepted hw hbusy hstill ((if_neg ?_).trans (if_neg (by simp [hdie']))))
  rw [hphys']
  rcases hst' with h | h | ⟨h, hfault⟩
  · rw [h]
    simp [csDone, csFaulted]
  · rw [h]
    simp [csStopped, csFaulted]
  · rw [h]
    simp [hfault]

theorem completes_replay_runs (hok : recordOk (s.ctx c.val).record = true) (hwindows : s.windowsAllowed (s.ctx c.val).record = true)
    (hkey : replayKey (s.ctx c.val).record = replayKey (s.ctx c.val).live) (hcoll : s.hasColl c.val = false)
    (hload : (s.ctx c.val).move.loading = false) (hmode : recMode (mergeWindows (s.ctx c.val).record (s.ctx c.val).live) ≠ 2) :
    completes (.replay w d c) s fun t =>
      t.ctxState c.val = csRunning ∧ recFault (t.ctx c.val).record = 0 ∧ (t.ctx c.val).startPend = false
        ∧ (t.ctx c.val).regs = freshRegs (mergeWindows (s.ctx c.val).record (s.ctx c.val).live)
        ∧ (t.ctx c.val).mem = (s.ctx c.val).mem ∧ t.fld (R.ltdCtxStat d.val) F.LtdCtxStat.result = 0 := by
  have hdropped := (ctxStat s d.val c.val 5 0).dropAllocs_touches c.val
  have hctx : ((ctxStat s d.val c.val 5 0).dropAllocs c.val).ctx c.val = s.ctx c.val := State.ctx_of_ctxs (hdropped.same 19 rfl) c.val
  have hjob (j : Nat) : (((ctxStat s d.val c.val 5 0).dropAllocs c.val).job j).rec_ = (s.job j).rec_ :=
    congrArg JobSt.rec_ (State.job_of_jobs (hdropped.same 18 rfl) j)
  have hresult := (hdropped.fld rfl (R.ltdCtxStat d.val) F.LtdCtxStat.result).trans (s.result_ctxStat d.val c.val 5 (by decide))
  have hexec := exec_replay hw hbusy hst hphys hdie
  generalize (ctxStat s d.val c.val 5 0).dropAllocs c.val = u at hexec hctx hjob hresult
  rw [← State.windowsAllowed_of_jobRec hjob] at hwindows
  rw [State.hasColl, ← hctx] at hcoll
  rw [← hctx] at hok hwindows hkey hload hmode
  obtain ⟨hstate, hfault, hstart, hregs, hmem, hrd⟩ := State.replay_shows hok hwindows hkey hcoll hload hmode d.val
  rw [hctx] at hregs hmem
  exact ⟨_, hexec, hstate, hfault, hstart, hregs, hmem, (State.fld_of_rd hrd _).trans hresult⟩

end

end Sys2Proof.Machine
end

section
/-! Which context commands are accepted, and what they do (R246, R247, R253 to R255). -/

namespace Sys2Proof.Machine

/-- Settles O48, clause by clause: the refusals of R246, START with its checks in order, CREATE, STOP, RESUME, REPLAY and RELEASE. -/
theorem contextCommands : Obligations.ContextCommands := by
  unfold Obligations.ContextCommands
  refine ⟨?_, ?_, ?_, ?_, ?_, ?_, ?_, ?_, ?_, ?_, ?_⟩
  · exact fun w d c slot phys i cmd states s hi hw hbusy hstill hst => ctxRefused_of_state hw hbusy hi hstill hst
  · exact fun w d c slot phys i cmd states s hi hw h => ctxRefused_of_busy hw hi h
  · exact fun w d c s hw hbusy hstill h => ctxRefused_of_absent hw hbusy hstill h
  · exact fun w d c s hw hbusy hst hlost => ctxRefused_replay_of_lost hw hbusy hst hlost
  · intro w d c slot phys s hw hbusy hst hp hslot
    refine ⟨fun hdie => ctxRefused_start_of_part hst hw hbusy hp hslot hdie,
      fun hdie hserves => ctxRefused_start_of_lathe hst hw hbusy hp hslot hdie hserves,
      fun hdie hserves hnamed htaken => ctxRefused_start_of_slot hst hw hbusy hp hslot hdie hserves hnamed htaken,
      fun hdie hserves hfree hfits hlatched => ⟨_, exec_start hst hw hbusy hp hslot hdie hserves hfree hfits hlatched, rfl,
        State.beginLoad_shows _ d.val _ c.val hslot⟩⟩
  · exact fun w d c s hw hbusy hst hdie hquota hretired => completes_create hw hbusy hst hdie hquota hretired
  · exact fun w d c s hw hbusy hst hdie hmoves => ⟨completes_stop_settled hw hbusy hst hdie hmoves,
      fun k hphys hwait => completes_stop_waits hw hbusy hst hdie hmoves hphys hwait⟩
  · exact fun w d c k s hw hbusy hst hphys hdie => ⟨completes_resume_runs hw hbusy hst hphys hdie,
      completes_resume_parks hw hbusy hst hphys hdie⟩
  · exact fun w d c s hw hbusy hst hphys hdie => exec_replay hw hbusy hst hphys hdie
  · exact fun w d c s hw hbusy hst hphys hdie => completes_replay_runs hw hbusy hst hphys hdie
  · exact fun w d c s hw hbusy hst hdie => ⟨_, exec_release hw hbusy hst hdie, rfl, State.freeCtx_shows _ c.val⟩

end Sys2Proof.Machine
end

section
/-! The notice of a call that the child has ended already (R276, R286): O50. The statement has it change nothing, and the carry scale
that it brings is what the next call's rounding point waits for. -/

namespace Sys2Proof.Machine

/-! ## A child that waits for its carry scale

Call 0 of a child is over and call 1 is open, whose rounding point has no carry scale yet. The parent's notice of call 0 names a call
that is no longer open, but it carries that scale to the child (R276). -/

/-- Context 5 is RUNNING below the top of a collective; its open call is 1, and it has no carry scale. -/
def awaitingScale : State := wColl 5 1 ((wCtx 5 csRunning wOn).setCtx 5 (fun x => { x with record := recPut x.record 504 4 1 }))

theorem awaitingScale_call : recCall (awaitingScale.ctx 5).record = 1 := by decide +kernel

theorem awaitingScale_scaleless : (awaitingScale.ctx 5).coll.outK = none := by decide +kernel

/-- The notice of call 0, DONE with a next carry scale of 2^3, gives the child that scale. -/
theorem awaitingScale_takes_scale :
    ((awaitingScale.after (.parentCompleteNotice 5 0 0 0 0x80 3)).ctx 5).coll.outK = some 3 := by decide +kernel

/-- Refutes O50: a parent's notice of the call before the open one is not without effect. A child that has no carry scale for its open
call takes the scale that the notice carries. -/
theorem not_calls : ¬ Obligations.Calls := by
  rintro ⟨-, -, -, -, -, -, -, -, -, -, hother, -⟩
  have hended : 0 % 2 ^ 32 ≠ recCall (awaitingScale.ctx 5).record := by rw [awaitingScale_call]; decide
  obtain ⟨hsame, -⟩ := hother 5 0 0 0 0x80 3 awaitingScale hended
  have hscale := awaitingScale_takes_scale
  rw [State.after_of_next hsame, awaitingScale_scaleless] at hscale
  cases hscale

end Sys2Proof.Machine
end

section
/-! Memory's canonical form along every step (R331, R340): O5. Every command has a lemma for its mask, and a mask says that memory in its
canonical form stays so. -/

namespace Sys2Proof.Machine

/-- A command leads from canonical memory to canonical memory. -/
theorem exec_memoryOk {c : Instr} {s t : State} (h : exec c s = .next t) (hs : s.memoryOk = true) : t.memoryOk = true := by
  obtain ⟨m, htouches, -⟩ := exec_touches_reach s c
  exact (htouches t h).mem hs

/-- The queue is no part of memory: a step has the form of the command that it runs, or of the tick that passes. -/
theorem step_memoryOk {s t : State} (h : step s = .next t) (hs : s.memoryOk = true) : t.memoryOk = true := by
  unfold step at h
  split at h
  · cases h
    exact s.idle_touches.mem hs
  · next c rest _ => exact exec_memoryOk (s := { s with pending := rest }) h hs

/-- Settles O5: every command's mask carries the form, and so does a tick. -/
theorem memoryFormKept : Obligations.MemoryFormKept :=
  fun _ _ hs h => step_memoryOk h hs

end Sys2Proof.Machine
end

section
/-! Spindle transfers (R174 to R178, R331, R382): O39. The arbiters choose who is served and write their own registers and the dies'
turns; what the fence judges by, and memory, they leave. -/

namespace Sys2Proof.Machine

/-! ## Turns that come round -/

/-- A turn that goes round n places from any start comes to every place. -/
theorem mem_round {n k : Nat} (r : Nat) (hk : k < n) : k ∈ (List.range n).map (fun i => (r + i) % n) := by
  have hr : r % n < n := Nat.mod_lt _ (by omega)
  have hround : r + (k + n - r % n) = k + n * (r / n + 1) := by
    have hdiv := Nat.div_add_mod r n
    rw [Nat.mul_add_one]
    omega
  refine List.mem_map.mpr ⟨(k + n - r % n) % n, List.mem_range.mpr (Nat.mod_lt _ (by omega)), ?_⟩
  rw [Nat.add_mod_mod, hround, Nat.add_mul_mod_self_left, Nat.mod_eq_of_lt hk]

/-- The first place that is k's, among places of which one is. -/
theorem find?_eq_of_mem {k : Nat} {l : List Nat} (h : k ∈ l) : l.find? (fun o => decide (k = o)) = some k := by
  have hsome : (l.find? (fun o => decide (k = o))).isSome = true := List.find?_isSome.mpr ⟨k, h, decide_eq_true rfl⟩
  obtain ⟨o, ho⟩ := Option.isSome_iff_exists.mp hsome
  have hk : k = o := by simpa using List.find?_some ho
  rw [ho, hk]

/-- A search for the only one that asks finds it, where some place is its own. -/
theorem findSome?_only {α β : Type} {p : α → β → Bool} {x : β} {l : List α} (h : ∃ i ∈ l, p i x = true) :
    l.findSome? (fun i => [x].find? (p i)) = some x := by
  obtain ⟨i, hi, hp⟩ := h
  obtain ⟨y, hy⟩ := Option.isSome_iff_exists.mp
    (List.findSome?_isSome_iff.mpr ⟨i, hi, by rw [List.find?_cons_of_pos hp]; rfl⟩ :
      (l.findSome? (fun i => [x].find? (p i))).isSome = true)
  obtain ⟨j, -, hj⟩ := List.exists_of_findSome?_eq_some hy
  rw [hy, List.mem_singleton.mp (List.mem_of_find?_eq_some hj)]

/-! ## The arbiters (R174, R175, R178) -/

/-- Of one weighted request that waits, the one is served: the round comes to its die, and there to its input (R175). -/
theorem State.pickWeighted_only (s : State) (d : Nat) {x : Xfer} (hx : x.src < 100) : ∃ t, s.pickWeighted d [x] = some (x, t) := by
  unfold State.pickWeighted
  extract_lets die has goOn o
  have hhas : has = fun k => decide (x.src = k) := by
    funext k
    simp [has]
  have ho : o = some x.src := by
    unfold o
    split
    · next hgo =>
      simp only [goOn, hhas, Bool.and_eq_true, decide_eq_true_eq] at hgo
      rw [hgo.2]
    · rw [hhas, find?_eq_of_mem (mem_round (die.roundDie + 1) hx)]
  rw [ho]
  dsimp only
  rw [findSome?_only ⟨_, mem_round _ (Nat.mod_lt x.input (by decide : 0 < 8)), by simp⟩]
  exact ⟨_, rfl⟩

/-- The one request that waits is served next. -/
theorem State.nextXfer_only (s : State) (d : Nat) {x : Xfer} (hx : x.src < 100) :
    ∃ t, s.nextXfer d [x] = some (x, t) ∧ Touches 0x10 s t := by
  have htouches := s.nextXfer_touches d [x]
  suffices h : ∃ t, s.nextXfer d [x] = some (x, t) by
    obtain ⟨t, ht⟩ := h
    exact ⟨t, ht, TouchesO2.of ht htouches⟩
  unfold State.nextXfer
  split
  · next y hy =>
    obtain ⟨k, -, hk⟩ := List.exists_of_findSome?_eq_some hy
    rw [List.mem_singleton.mp (List.mem_of_find?_eq_some hk)]
    exact ⟨_, rfl⟩
  · exact s.pickWeighted_only d hx

/-- A grain of TC7 goes before one that is not (R174). -/
theorem State.nextXfer_tc7 (s : State) (d : Nat) {x y : Xfer} (hx : x.tc = 7) (hy : y.tc ≠ 7) :
    s.nextXfer d [y, x] = some (x, s) := by
  have hxo : s.xferOrder x = 0 := by simp [State.xferOrder, hx]
  have hyo : s.xferOrder y ≠ 0 := by
    simp only [State.xferOrder, if_neg hy]
    split
    · decide
    · split
      · split <;> decide
      · decide
  have hfirst : [y, x].find? (fun z => decide (s.xferOrder z = 0)) = some x := by
    simp [hxo, hyo]
  rw [State.nextXfer, List.range_succ_eq_map, List.findSome?_cons, hfirst]

/-- What a transfer leaves that has crossed its bridges and comes to the fence (R178). -/
def State.crossBridges (s : State) (x : Xfer) : State :=
  x.hops.foldl (fun u h => u.crossBridge x (s.xferOrder x) h) s

theorem State.serveXfers_of_next {s t : State} {d n : Nat} {l : List Xfer} {x : Xfer} (h : s.nextXfer d l = some (x, t)) :
    s.serveXfers d (n + 1) l = ((t.crossBridges x).xferFence d x).serveXfers d n (l.erase x) := by
  rw [State.serveXfers, h]
  rfl

theorem State.crossBridges_touches (s : State) (x : Xfer) : Touches 0x18 s (s.crossBridges x) :=
  Touches.foldl (fun u h => u.crossBridge_touches x _ h) (Touches.refl _ _)

/-- Crossing a bridge writes its own register alone. -/
theorem State.rd_crossBridge (s : State) (x : Xfer) (order : Nat) (h : Hop) {off : Nat} (hoff : off ≠ R.brgArbStat h.bridge) :
    (s.crossBridge x order h).rd off = s.rd off := by
  unfold State.crossBridge
  extract_lets r s1 s2 slot mine s3
  have h1 : s1.rd off = s.rd off := State.rd_setFld_ne _ _ _ _ _ hoff
  have h2 : s2.rd off = s.rd off := by
    unfold s2
    split
    · exact (State.rd_setFld_ne _ _ _ _ _ hoff).trans h1
    · exact h1
  have h3 : s3.rd off = s.rd off := h2
  split
  · exact h2
  · split
    · exact h3
    · exact (State.rd_setFld_ne _ _ _ _ _ hoff).trans h3

theorem State.rd_foldl_crossBridge (x : Xfer) (order : Nat) {off : Nat} (l : List Hop) (s : State)
    (hoff : off ∉ l.map (fun h => R.brgArbStat h.bridge)) :
    (l.foldl (fun u h => u.crossBridge x order h) s).rd off = s.rd off := by
  induction l generalizing s with
  | nil => rfl
  | cons h l ih =>
    rw [List.map_cons, List.mem_cons, not_or] at hoff
    obtain ⟨hh, hl⟩ := hoff
    exact (ih _ hl).trans (s.rd_crossBridge x order h hh)

theorem State.keepsRegs_crossBridges (s : State) (x : Xfer) : s.keepsRegs (s.crossBridges x) (hopRegs x) :=
  fun _ hoff => State.rd_foldl_crossBridge x _ x.hops s hoff

/-! ## What reaches the fence -/

/-- One operation after another touches what either of them does. -/
theorem Touches.comp {m k : Nat} {s t u : State} (h : Touches m s t) (h' : Touches k t u) : Touches (m ||| k) s u := by
  refine h'.step ?_ (h.mono ?_)
  · rw [Nat.or_comm m k, ← Nat.or_assoc, Nat.or_self]
  · rw [← Nat.or_assoc, Nat.or_self]

/-- From s to t only arbiters have acted, for the transfer x: the dies' turns and the registers of the bridges that x crosses. -/
structure Arbitrated (x : Xfer) (s t : State) : Prop where
  touches : Touches 0x18 s t
  regs : s.keepsRegs t (hopRegs x)

section
variable {x : Xfer} {s t : State}

/-- A choice of the arbiters, before the bridges are crossed. -/
theorem Arbitrated.of_chosen (x : Xfer) (h : Touches 0x10 s t) : Arbitrated x s (t.crossBridges x) :=
  ⟨(t.crossBridges_touches x).step (by decide) (h.mono (by decide)),
    fun off hoff => (t.keepsRegs_crossBridges x off hoff).trans (h.rd rfl off)⟩

theorem glbEscStat_notMem_hopRegs (x : Xfer) : R.glbEscStat ∉ hopRegs x := by
  intro hmem
  obtain ⟨h, -, he⟩ := List.mem_map.mp hmem
  simp only [R.brgArbStat, R.glbEscStat] at he
  omega

theorem Arbitrated.partBusy (h : Arbitrated x s t) (p : Nat) : t.partBusy p = s.partBusy p :=
  State.partBusy_of_rd (h.regs _ (glbEscStat_notMem_hopRegs x)) p

/-- Whose a target is stands in the planes, the grains and the contexts. -/
theorem State.entitled_of_same (himg : t.img = s.img) (hbench : t.bench = s.bench) (hctxs : t.ctxs = s.ctxs) (d : Nat) (x : Xfer) :
    t.entitled d x = s.entitled d x := by
  have hplane (e : Nat) : t.planeOn e = s.planeOn e := State.planeOn_of_img himg e
  have hgrain : t.grain x.unit = s.grain x.unit := congrArg (fun b => b.grains.get (fun _ => GrainSt.empty) x.unit) hbench
  unfold State.entitled
  split
  · rw [hplane]
  · rw [hgrain, State.poolPlane, State.benchPlane, hplane]
    rfl
  · rw [State.ctxState_of_ctx (State.ctx_of_ctxs hctxs _), State.ctx_of_ctxs hctxs]
  · rw [State.portPart, State.portPart, hplane]
  · rw [hplane]

theorem Arbitrated.entitled (h : Arbitrated x s t) (d : Nat) (y : Xfer) : t.entitled d y = s.entitled d y :=
  State.entitled_of_same (h.touches.same 7 rfl) (h.touches.same 13 rfl) (h.touches.same 19 rfl) d y

theorem Arbitrated.passesFence_iff (h : Arbitrated x s t) (d : Nat) (y : Xfer) : passesFence t d y ↔ passesFence s d y := by
  simp only [passesFence, h.entitled, h.partBusy]

/-- How much a tier holds stands in the fuses. -/
theorem Arbitrated.tierSize (h : Arbitrated x s t) (k : Nat) : t.tierSize k = s.tierSize k := by
  have hcode : t.is768 = s.is768 := by
    rw [State.is768, State.is768, (h.touches.same 0 rfl : t.fuses = s.fuses)]
  simp only [State.tierSize, State.nearBytes, hcode]

theorem State.tierRead_of_same {s t : State} (hnear : t.near = s.near) (hfar : t.far = s.far) (k a n : Nat) :
    t.tierRead k a n = s.tierRead k a n := by
  simp only [State.tierRead, State.nearRead, State.farRead, hnear, hfar]

theorem Arbitrated.tierRead (h : Arbitrated x s t) (k a n : Nat) : t.tierRead k a n = s.tierRead k a n :=
  State.tierRead_of_same (h.touches.same 21 rfl) (h.touches.same 22 rfl) k a n

end

/-- The inputs that ask show as used; nothing else is changed before a choice. -/
theorem State.useInputs_touches (s : State) (l : List Xfer) :
    Touches 0x10 s (l.foldl (fun u x => u.useInput x.tc x.src (x.input % 8)) s) :=
  Touches.foldl (fun u _ => u.useInput_touches _ _ _) (Touches.refl _ _)

/-- The one request that waits is served: it crosses its bridges and comes to the fence. -/
theorem State.serveXfers_only (s : State) (d : Nat) {x : Xfer} (hx : x.src < 100) :
    ∃ t, s.serveXfers d 1 [x] = t.xferFence d x ∧ Arbitrated x s t := by
  obtain ⟨t, hnext, ht⟩ := s.nextXfer_only d hx
  exact ⟨t.crossBridges x, State.serveXfers_of_next hnext, .of_chosen x ht⟩

/-- One transfer that waits comes to the fence, and only arbiters have acted. -/
theorem exec_spindleTransferReceive_only (d : Die) {x : Xfer} (s : State) (hx : x.src < 100) :
    ∃ t, exec (.spindleTransferReceive d [x]) s = .next (t.xferFence d.val x) ∧ Arbitrated x s t := by
  have hused := s.useInputs_touches [x]
  obtain ⟨t, hserve, ht⟩ := State.serveXfers_only (s.useInput x.tc x.src (x.input % 8)) d.val hx
  exact ⟨t, congrArg Host.Outcome.next hserve, ht.touches.step rfl (hused.mono rfl),
    fun off hoff => (ht.regs off hoff).trans (hused.rd rfl off)⟩

/-- Of two that wait the one of TC7 comes to the fence first, the other after it (R174). -/
theorem exec_spindleTransferReceive_tc7 (d : Die) {x y : Xfer} (s : State) (hx : x.tc = 7) (hy : y.tc ≠ 7) (hsrc : y.src < 100) :
    ∃ t u, exec (.spindleTransferReceive d [y, x]) s = .next (u.xferFence d.val y) ∧ Arbitrated x s t
      ∧ Arbitrated y (t.xferFence d.val x) u := by
  have hused := s.useInputs_touches [y, x]
  have hyx : y ≠ x := fun h => hy (h ▸ hx)
  have hrest : [y, x].erase x = [y] := by simp [hyx]
  obtain ⟨u, hserve, hu⟩ := State.serveXfers_only
    ((([y, x].foldl (fun u x => u.useInput x.tc x.src (x.input % 8)) s).crossBridges x).xferFence d.val x) d.val hsrc
  refine ⟨_, u, congrArg Host.Outcome.next ?_, .of_chosen x hused, hu⟩
  rw [← hserve, ← hrest]
  exact State.serveXfers_of_next (State.nextXfer_tc7 _ _ hx hy)

/-! ## The fence (R331) -/

theorem State.xferFence_of_passes {s : State} {d : Nat} {x : Xfer} (h : passesFence s d x) : s.xferFence d x = s.xferApply d x :=
  if_pos (by simpa [passesFence] using h)

theorem State.xferFence_of_not_passes {s : State} {d : Nat} {x : Xfer} (h : ¬ passesFence s d x) : s.xferFence d x = s.fenceDrop d x :=
  if_neg (by simpa [passesFence] using h)

/-- A transfer that passes the fence acts on a state that only arbiters have changed. -/
theorem exec_spindleTransferReceive_passes (d : Die) {x : Xfer} {s : State} (hx : x.src < 100) (hpass : passesFence s d.val x) :
    ∃ t, exec (.spindleTransferReceive d [x]) s = .next (t.xferApply d.val x) ∧ Arbitrated x s t := by
  obtain ⟨t, hexec, ht⟩ := exec_spindleTransferReceive_only d s hx
  exact ⟨t, hexec.trans (congrArg _ (State.xferFence_of_passes ((ht.passesFence_iff _ _).mpr hpass))), ht⟩

/-! ## Reads and writes of a tier (R331, R382) -/

theorem State.tierSize_near (s : State) : s.tierSize 0 = s.nearBytes := if_pos rfl
theorem State.tierSize_far (s : State) : s.tierSize 1 = farBytes := if_neg Nat.one_ne_zero
theorem State.tierWrite_near (s : State) (a : Nat) (b : Blob) : s.tierWrite 0 a b = s.nearWrite a b := if_pos rfl
theorem State.tierWrite_far (s : State) (a : Nat) (b : Blob) : s.tierWrite 1 a b = s.farWrite a b := if_neg Nat.one_ne_zero

section
variable {x : Xfer} {s : State} {d a n k : Nat} {b : Blob}

theorem State.xferApply_read (hop : x.op = .read k a n) (hfit : a + n ≤ s.tierSize k) :
    s.xferApply d x = s.emit (.readReply (s.tierRead k a n)) := by
  rw [State.xferApply, hop]
  exact if_pos hfit

theorem State.xferApply_write (hop : x.op = .write k a b) (hfit : a + b.len ≤ s.tierSize k) : s.xferApply d x = s.tierWrite k a b := by
  rw [State.xferApply, hop]
  exact if_pos hfit

/-- A read with SYS that fits its tier is answered at the fence. -/
theorem State.xferFence_sys_read (hsys : x.sys = true) (hop : x.op = .read k a n) (hfit : a + n ≤ s.tierSize k) :
    s.xferFence d x = s.emit (.readReply (s.tierRead k a n)) :=
  (State.xferFence_of_passes (.inl hsys)).trans (State.xferApply_read hop hfit)

/-- What acts after the arbiters and writes no register keeps what its mask and theirs leave out. -/
theorem Arbitrated.then_keeps {t u : State} {m : Nat} {l : List Piece} (h : Arbitrated x s t) (hu : Touches m t u)
    (hl : Piece.outside (0x18 ||| m) l = true) (hm : m.testBit 3 = false) : s.keepsRegs u (hopRegs x) ∧ s.keeps u l :=
  ⟨fun off hoff => (hu.rd hm off).trans (h.regs off hoff),
    (h.touches.comp hu).keeps (Piece.testBit_of_outside hl)⟩

/-- The bytes of a write to a tier whose bytes were m. -/
theorem memWrite_stores (m : Tbl Byte) (a : Nat) (b : Blob) :
    (∀ i, i < b.len → (memWrite m a b.len b.val).get (fun _ => 0) (a + i) = BitVec.ofNat 8 (b.val / 256 ^ i))
      ∧ ∀ j, j < a ∨ a + b.len ≤ j → (memWrite m a b.len b.val).get (fun _ => 0) j = m.get (fun _ => 0) j :=
  ⟨fun i hi => memWrite_get_inside _ _ _ _ i hi, fun j hj => memWrite_get_outside _ _ _ _ j hj⟩

end

/-- Settles O39: each transfer by what the arbiters leave of the state, then by its one act at the fence. -/
theorem spindleTransfers : Obligations.SpindleTransfers := by
  refine ⟨?_, ?_, ?_, ?_, ?_⟩
  · intro d x a b s hop hfit hx hpass
    obtain ⟨t, hexec, ht⟩ := exec_spindleTransferReceive_passes d hx hpass
    have hnear : t.near = s.near := ht.touches.same 21 rfl
    rw [State.xferApply_write hop (by rwa [ht.tierSize, State.tierSize_near]), State.tierWrite_near] at hexec
    obtain ⟨hin, hout⟩ := memWrite_stores t.near a b
    exact ⟨_, hexec, hin, hnear ▸ hout, ht.then_keeps (t.nearWrite_touches a b) rfl rfl⟩
  · intro d x a b s hop hfit hx hpass
    obtain ⟨t, hexec, ht⟩ := exec_spindleTransferReceive_passes d hx hpass
    have hfar : t.far = s.far := ht.touches.same 22 rfl
    rw [State.xferApply_write hop (by rwa [ht.tierSize, State.tierSize_far]), State.tierWrite_far] at hexec
    obtain ⟨hin, hout⟩ := memWrite_stores t.far a b
    exact ⟨_, hexec, hin, hfar ▸ hout, ht.then_keeps (t.farWrite_touches a b) rfl rfl⟩
  · intro d x k a n s hop hfit hx hpass
    obtain ⟨t, hexec, ht⟩ := exec_spindleTransferReceive_passes d hx hpass
    rw [State.xferApply_read hop (by rwa [ht.tierSize]), ht.tierRead] at hexec
    have houts : t.outs = s.outs := ht.touches.same 26 rfl
    exact ⟨_, hexec, congrArg (· ++ _) houts, ht.then_keeps (t.emit_touches _) rfl rfl⟩
  · intro d x y k a n j b m s hopx hfitx hopy hfity hsrc hsysx hsysy hx hy
    obtain ⟨t, u, hexec, ht, hu⟩ := exec_spindleTransferReceive_tc7 d s hx hy hsrc
    rw [State.xferFence_sys_read hsysx hopx (by rwa [ht.tierSize]), ht.tierRead] at hu
    have hsize : u.tierSize j = s.tierSize j := (hu.tierSize j).trans (ht.tierSize j)
    have hread : u.tierRead j b m = s.tierRead j b m := (hu.tierRead j b m).trans (ht.tierRead j b m)
    have houts : u.outs = s.outs ++ [.readReply (s.tierRead k a n)] :=
      (hu.touches.same 26 rfl).trans (congrArg (· ++ _) (ht.touches.same 26 rfl))
    rw [State.xferFence_sys_read hsysy hopy (by rwa [hsize]), hread] at hexec
    refine ⟨_, hexec, ?_⟩
    rw [State.emit, houts, List.append_assoc, List.singleton_append]
  · intro d x s hx hsys hbar
    obtain ⟨t, hexec, ht⟩ := exec_spindleTransferReceive_only d s hx
    have hdrop : ¬ passesFence t d.val x := by
      rw [ht.passesFence_iff]
      rintro (h | ⟨hent, hbusy⟩)
      · exact Bool.false_ne_true (hsys.symm.trans h)
      · rcases hbar with hne | hres
        · exact hne hent
        · exact Bool.false_ne_true (hbusy.symm.trans hres)
    rw [State.xferFence_of_not_passes hdrop] at hexec
    exact ⟨_, hexec, (ht.touches.comp (t.fenceDrop_touches d.val x)).keeps (Piece.testBit_of_outside rfl)⟩

end Sys2Proof.Machine
end

section
/-! The host command FIFO (R345 to R348): words in, whole commands out: O54. -/

namespace Sys2Proof.Machine

/-! ## A function's FIFO -/

section
variable (s : State)

/-- A vector that is sent, or left pending, is no part of a function's FIFO. -/
@[simp] theorem State.fn_msix (n v m : Nat) : (s.msix n v).fn m = s.fn m := by
  unfold State.msix
  split
  · rfl
  · split <;> rfl

/-- What is left of a FIFO stands in its function, whether or not a vector tells that it is empty. -/
@[simp] theorem State.fn_hcfRest (n : Nat) (rest : List HcfWord) : (s.hcfRest n rest).fn n = { s.fn n with fifo := rest } := by
  unfold State.hcfRest
  extract_lets had put
  have hput : put.fn n = { s.fn n with fifo := rest } := s.fn_setFn_same n _
  split
  · rw [State.fn_msix, hput]
  · exact hput

/-- Who leads stands in the fuses, the votes and the tick. -/
theorem State.fnLeads_of_same {s t : State} (hfuses : t.fuses = s.fuses) (hsup : t.sup = s.sup) (htb : t.tb = s.tb) (n : Nat) :
    t.fnLeads n = s.fnLeads n := by
  have hvoter : t.voter = s.voter := by
    funext v
    rw [State.voter, State.voter, hsup]
  have hbackers : t.backers = s.backers := by
    funext v
    rw [State.backers, State.backers, hvoter]
  have hmajority : t.majority = s.majority := by rw [State.majority, State.majority, hbackers, hvoter]
  have hleader : t.leader = s.leader := by rw [State.leader, State.leader, hmajority, htb]
  rw [State.fnLeads, State.fnLeads, hfuses, hleader]

theorem State.fnLeads_hcfRest (n m : Nat) (rest : List HcfWord) : (s.hcfRest n rest).fnLeads m = s.fnLeads m :=
  have htouches := s.hcfRest_touches n rest
  State.fnLeads_of_same (htouches.same 0 rfl) (htouches.same 8 rfl) (htouches.same 2 rfl) m

end

/-! ## Words that the host writes (R345, R347, R348) -/

/-- A word that finds room is queued; the end mark closes the command and takes its brokenness along. -/
theorem State.hcfPush_of_room {s : State} {n : Nat} (hin : s.hostIn n = true) (hroom : (s.fn n).fifo.length < 512) (w : W64) (p last : Bool) :
    (s.hcfPush n w p last).fn n
        = { s.fn n with
            fifo := (s.fn n).fifo ++ [⟨w, p, last, last && (s.fn n).broken⟩], opened := !last, broken := (s.fn n).broken && !last }
      ∧ s.keeps (s.hcfPush n w p last) [.host] := by
  have hpush : ¬ hcfDepth ≤ (s.fn n).fifo.length := Nat.not_le.mpr hroom
  simp only [State.hcfPush, hin, hpush, Bool.not_true, Bool.false_eq_true, if_false]
  exact ⟨s.fn_setFn_same n _, (s.setFn_touches n _).keeps (Piece.testBit_of_outside rfl)⟩

/-- A word beyond the depth shows in HCF_STAT (R347). -/
def State.hcfOverrun (s : State) (n : Nat) : State :=
  (s.setFld (fnReg n R.hcfStat) F.HcfStat.overrun 1).count (fnReg n R.hcfStat) F.HcfStat.overruns

theorem State.hcfOverrun_stat (s : State) (n : Nat) :
    (s.hcfOverrun n).fld (fnReg n R.hcfStat) F.HcfStat.overrun = 1
      ∧ (s.hcfOverrun n).fld (fnReg n R.hcfStat) F.HcfStat.overruns
        = min (2 ^ F.HcfStat.overruns.wid - 1) (s.fld (fnReg n R.hcfStat) F.HcfStat.overruns + 1)
      ∧ s.keepsRegs (s.hcfOverrun n) [fnReg n R.hcfStat] := by
  refine ⟨?_, ?_, (s.keepsRegs_setFld _ _ _).trans (State.keepsRegs_setFld _ _ _ _)⟩
  · rw [State.hcfOverrun, State.fld_count_apart _ _ _ _ rfl, State.fld_setFld_fit _ _ _ _ rfl (by decide)]
  · rw [State.hcfOverrun, State.fld_count_same _ _ _ rfl, State.fld_setFld_apart _ _ _ _ _ rfl, Nat.min_comm]

/-- A word that finds no room is ignored and breaks its command (R348). -/
theorem State.hcfPush_of_full {s : State} {n : Nat} (hin : s.hostIn n = true) (hfull : 512 ≤ (s.fn n).fifo.length) (w : W64) (p last : Bool) :
    s.hcfPush n w p last = (s.hcfOverrun n).setFn n (fun x => { x with opened := true, broken := true }) := by
  have hpush : hcfDepth ≤ (s.fn n).fifo.length := hfull
  simp only [State.hcfPush, hin, hpush, Bool.not_true, Bool.false_eq_true, if_false, if_true]
  rfl

/-- FLUSH discards every word (R347). -/
theorem exec_flush {fn : Sv} {s : State} (hin : s.hostIn fn.val = true) :
    exec (.flush fn) s = .next ((s.setFn fn.val (fun x => { x with opened := false, broken := false })).hcfRest fn.val []) :=
  if_neg (by simp [hin])

/-! ## Commands that firmware takes (R345, R346, R348) -/

/-- What firmware does with the words of a whole command that it has taken: the return codes in the order of the checks, and after them
the command in hand. -/
def State.hcfVerdict (s : State) (n : Nat) (ws : List HcfWord) (h : W64) : State :=
  let c := hcfHeader h
  if ws.any (fun w => w.broken) then s.hcfReply n c 6 none
  else if ws.any (fun w => !w.parityOk) then (s.count (fnReg n R.hcfStat) F.HcfStat.parity).hcfReply n c 7 none
  else if bitsOf h.toNat 0 10 ≠ ws.length then s.hcfReply n c 5 none
  else if !s.fnLeads n then s.hcfReply n c 8 none
  else if c.code = 0 || 0x0A < c.code then s.hcfReply n c 2 none
  else s.setFn n (fun x => { x with taken := some { c with args := (ws.drop 1).map (fun w => w.word) } })

/-- With a command in hand, without a whole one, or without a leader the words wait (R345, R367). -/
theorem exec_hcfTake_waits {fn : Sv} {s : State}
    (h : (s.fn fn.val).taken.isSome = true ∨ splitCmd (s.fn fn.val).fifo = none ∨ s.leader = none) : exec (.hcfTake fn) s = .next s := by
  change execHcfTake fn s = .next s
  unfold execHcfTake
  extract_lets n
  rcases h with htaken | hsplit | hleader
  · rw [if_pos (by simp [n, htaken])]
  · simp [n, hsplit]
  · rw [if_pos (by simp [hleader])]

/-- A whole command leaves the FIFO, and firmware judges its words. -/
theorem exec_hcfTake_whole {fn : Sv} {s : State} {ws rest : List HcfWord} (htaken : (s.fn fn.val).taken = none)
    (hleader : s.leader.isSome = true) (hsplit : splitCmd (s.fn fn.val).fifo = some (ws, rest))
    (hreply : (hcfHeader ((ws.map (fun w => w.word)).headD 0)).reply.isSome = true) :
    exec (.hcfTake fn) s
      = .next ((s.hcfRest fn.val rest).hcfVerdict fn.val ws ((ws.map (fun w => w.word)).headD 0)) := by
  change execHcfTake fn s = _
  have hnone : (hcfHeader ((ws.map (fun w => w.word)).headD 0)).reply.isNone = false := by
    rw [← Option.not_isSome, hreply]; rfl
  have hlead : s.leader.isNone = false := by rw [← Option.not_isSome, hleader]; rfl
  simp only [execHcfTake, State.hcfVerdict, htaken, hlead, hsplit, hnone, Option.isSome_none, Bool.or_self, Bool.false_eq_true, if_false,
    ← apply_ite Host.Outcome.next]

section
variable {s : State} {n : Nat} {ws : List HcfWord} {h : W64}

theorem State.hcfVerdict_broken (hbroken : ws.any (fun w => w.broken) = true) : s.hcfVerdict n ws h = s.hcfReply n (hcfHeader h) 6 none :=
  if_pos hbroken

variable (hwhole : ws.any (fun w => w.broken) = false)
include hwhole

theorem State.hcfVerdict_parity (hparity : ws.any (fun w => !w.parityOk) = true) :
    s.hcfVerdict n ws h = (s.count (fnReg n R.hcfStat) F.HcfStat.parity).hcfReply n (hcfHeader h) 7 none := by
  simp only [State.hcfVerdict, hwhole, hparity, Bool.false_eq_true, if_false, if_true]

variable (hparity : ws.any (fun w => !w.parityOk) = false)
include hparity

theorem State.hcfVerdict_length (hlen : bitsOf h.toNat 0 10 ≠ ws.length) : s.hcfVerdict n ws h = s.hcfReply n (hcfHeader h) 5 none := by
  simp only [State.hcfVerdict, hwhole, hparity, Bool.false_eq_true, if_false]
  exact if_pos hlen

variable (hlen : bitsOf h.toNat 0 10 = ws.length)
include hlen

theorem State.hcfVerdict_standby (hlead : s.fnLeads n = false) : s.hcfVerdict n ws h = s.hcfReply n (hcfHeader h) 8 none := by
  simp only [State.hcfVerdict, hwhole, hparity, hlen, hlead, ne_eq, not_true_eq_false, Bool.not_false, Bool.false_eq_true, if_false, if_true]

variable (hlead : s.fnLeads n = true)
include hlead

theorem State.hcfVerdict_unknown (hcode : (hcfHeader h).code = 0 ∨ 0x0A < (hcfHeader h).code) :
    s.hcfVerdict n ws h = s.hcfReply n (hcfHeader h) 2 none := by
  simp only [State.hcfVerdict, hwhole, hparity, hlen, hlead, ne_eq, not_true_eq_false, Bool.not_true, Bool.false_eq_true, if_false]
  exact if_pos (by simpa using hcode)

theorem State.hcfVerdict_known (hlow : 1 ≤ (hcfHeader h).code) (hhigh : (hcfHeader h).code ≤ 0x0A) :
    s.hcfVerdict n ws h
      = s.setFn n (fun x => { x with taken := some { hcfHeader h with args := (ws.drop 1).map (fun w => w.word) } }) := by
  simp only [State.hcfVerdict, hwhole, hparity, hlen, hlead, ne_eq, not_true_eq_false, Bool.not_true, Bool.false_eq_true, if_false]
  exact if_neg (by simp only [Bool.or_eq_true, decide_eq_true_eq]; omega)

end

/-- Settles O54: a word by the room that it finds, a command by the first check that it fails. -/
theorem hostFifo : Obligations.HostFifo := by
  refine ⟨?_, ?_, ?_, fun fn s h => exec_hcfTake_waits h, ?_⟩
  · intro fn w p s hin hroom
    obtain ⟨hfn, hkeeps⟩ := State.hcfPush_of_room hin hroom w p false
    obtain ⟨hfnEnd, hkeepsEnd⟩ := State.hcfPush_of_room hin hroom w p true
    exact ⟨⟨_, rfl, by simpa using hfn, hkeeps⟩, _, rfl, by simpa using hfnEnd, hkeepsEnd⟩
  · intro fn w p s hin hfull
    obtain ⟨hoverrun, hoverruns, hregs⟩ := s.hcfOverrun_stat fn.val
    have hexec : exec (.hcfDataWrite fn w p) s = .next _ := congrArg Host.Outcome.next (State.hcfPush_of_full hin hfull w p false)
    exact ⟨_, hexec, hoverrun, hoverruns, State.fn_setFn_same _ _ _, hregs, (execHcfDataWrite_touches fn w p s).keeps hexec rfl⟩
  · intro fn s hin
    exact ⟨_, exec_flush hin, by simp, (execFlush_touches fn s).keeps (exec_flush hin) rfl⟩
  · rintro fn ws rest _ _ s htaken hleader hsplit rfl rfl hreply
    have hexec := exec_hcfTake_whole htaken hleader hsplit hreply
    have hleads := s.fnLeads_hcfRest fn.val fn.val rest
    refine ⟨fun hbroken => ?_, fun hwhole hparity => ?_, fun hwhole hparity hlen => ?_, fun hwhole hparity hlen hlead => ?_,
      fun hwhole hparity hlen hlead hcode => ?_, fun hwhole hparity hlen hlead hlow hhigh => ?_⟩
    · rw [hexec, State.hcfVerdict_broken hbroken]
    · rw [hexec, State.hcfVerdict_parity hwhole hparity]
    · rw [hexec, State.hcfVerdict_length hwhole hparity hlen]
    · rw [hexec, State.hcfVerdict_standby hwhole hparity hlen (hleads.trans hlead)]
    · rw [hexec, State.hcfVerdict_unknown hwhole hparity hlen (hleads.trans hlead) hcode]
    · rw [State.hcfVerdict_known hwhole hparity hlen (hleads.trans hlead) hlow hhigh] at hexec
      exact ⟨_, hexec, by simp, ((s.hcfRest_touches _ _).comp (State.setFn_touches _ _ _)).keeps (Piece.testBit_of_outside rfl)⟩

end Sys2Proof.Machine
end

section
/-! Mailboxes in both directions (R349, R350): O57. -/

namespace Sys2Proof.Machine

/-! ## The bits of MBX_FULL -/

theorem two_pow_lt_full {i : Nat} (hi : i < 32) : 2 ^ i < 2 ^ 32 := Nat.pow_lt_pow_right (by decide) hi

theorem bitOf_or_two_pow_same (n i : Nat) : bitOf (n ||| 2 ^ i) i = true := by
  simp [bitOf]

/-- A set bit that is subtracted is cleared alone. -/
theorem bitOf_sub_two_pow {n i : Nat} (h : bitOf n i = true) (j : Nat) : bitOf (n - 2 ^ i) j = (bitOf n j && decide (j ≠ i)) := by
  have hbit : bitsOf n i 1 = 1 := by
    simpa [bitsOf, bitOf, Nat.testBit, Nat.shiftRight_eq_div_pow, Nat.and_comm] using h
  have hclear : n - 2 ^ i = setBitsOf n i 1 0 := by simp [setBitsOf, hbit]
  simp only [bitOf, hclear, setBitsOf_testBit]
  by_cases hj : j = i
  · simp [hj]
  · rw [if_neg (by omega)]
    simp [hj]

/-- The bits that a released word clears. -/
theorem bitOf_clear (a b : Nat) {j : Nat} (hj : j < 32) :
    bitOf (BitVec.ofNat 32 a &&& ~~~ BitVec.ofNat 32 b).toNat j = (bitOf a j && !bitOf b j) := by
  simp only [bitOf, BitVec.testBit_toNat, BitVec.getLsbD_and, BitVec.getLsbD_not, BitVec.getLsbD_ofNat, hj, decide_true, Bool.true_and]

/-! ## The registers of the mailboxes -/

theorem fnReg_ne {a b : Nat} (h : a ≠ b) (n : Nat) : fnReg n a ≠ fnReg n b := fun e => h (Nat.add_right_cancel e)

section
variable (i : Fin 32)

theorem mbxH2f_ne_mbxFull : R.mbxH2f i.val ≠ R.mbxFull := by simp only [R.mbxH2f, R.mbxFull]; omega
theorem mbxH2f_ne_mbxAck : R.mbxH2f i.val ≠ R.mbxAck i.val := by simp only [R.mbxH2f, R.mbxAck]; omega
theorem mbxF2h_ne_mbxFull : R.mbxF2h i.val ≠ R.mbxFull := by simp only [R.mbxF2h, R.mbxFull]; omega
theorem mbxFull_ne_mbxAck : R.mbxFull ≠ R.mbxAck i.val := by simp only [R.mbxFull, R.mbxAck]; omega
theorem hifStat_ne_mbxAck : R.hifStat ≠ R.mbxAck i.val := by simp only [R.hifStat, R.mbxAck]; omega

end

theorem State.keepsRegs_wr (s : State) (off : Nat) (v : W64) : s.keepsRegs (s.wr off v) [off] := fun off' h =>
  s.rd_wr_ne off off' v (by simpa using h)

/-- Whether the host reaches a function stands in HIF_STAT and the fuses. -/
theorem State.hostIn_of_same {s t : State} {n : Nat} (hfuses : t.fuses = s.fuses) (hstat : t.rd (fnReg n R.hifStat) = s.rd (fnReg n R.hifStat)) :
    t.hostIn n = s.hostIn n := by
  simp only [State.hostIn, State.fld_of_rd hstat, hfuses]

/-! ## Words of the host (R350) -/

/-- A host's word stands in its mailbox, which is full and not acknowledged. -/
def State.h2fPut (s : State) (n i : Nat) (v : W64) : State :=
  ((s.wr (fnReg n (R.mbxH2f i)) v).setFld (fnReg n R.mbxFull) F.MbxFull.h2fFull
    (s.fld (fnReg n R.mbxFull) F.MbxFull.h2fFull ||| 2 ^ i)).setFld (fnReg n (R.mbxAck i)) F.MbxAck.acked 0

/-- MBX_LOG counts a discarded word and keeps its mailbox and its low half (R349). -/
def State.h2fLogged (s : State) (n i : Nat) (v : W64) : State :=
  ((s.count (fnReg n R.mbxLog) F.MbxLog.discards).setFld (fnReg n R.mbxLog) F.MbxLog.lastIdx i).setFld (fnReg n R.mbxLog) F.MbxLog.lastLo
    (v.toNat % 2 ^ 32)

/-- A host's word that finds its mailbox full is recorded in MBX_LOG and in AER, and answered. -/
def State.h2fDiscard (s : State) (n i : Nat) (v : W64) : State :=
  ((s.h2fLogged n i v).setFn n (fun x => { x with unsupported := some (R.mbxH2f i, v) })).emit (.unsupported n 0 (R.mbxH2f i))

section
variable {fn : Sv} {i : Fin 32} {v : W64} {s : State} (hin : s.hostIn fn.val = true)
include hin

theorem exec_mbxH2fWrite_free (hfree : bitOf (s.fld (fnReg fn.val R.mbxFull) F.MbxFull.h2fFull) i.val = false) :
    exec (.mbxH2fWrite fn i v) s = .next (s.h2fPut fn.val i.val v) :=
  (if_neg (by simp [hin])).trans (if_neg (by simp [hfree]))

theorem exec_mbxH2fWrite_full (hfull : bitOf (s.fld (fnReg fn.val R.mbxFull) F.MbxFull.h2fFull) i.val = true) :
    exec (.mbxH2fWrite fn i v) s = .next (s.h2fDiscard fn.val i.val v) :=
  (if_neg (by simp [hin])).trans (if_pos hfull)

end

section
variable (s : State) (n : Nat) (i : Fin 32) (v : W64)

theorem State.rd_h2fPut : (s.h2fPut n i.val v).rd (fnReg n (R.mbxH2f i.val)) = v := by
  rw [State.h2fPut, State.rd_setFld_ne _ _ _ _ _ (fnReg_ne (mbxH2f_ne_mbxAck i) n),
    State.rd_setFld_ne _ _ _ _ _ (fnReg_ne (mbxH2f_ne_mbxFull i) n), State.rd_wr_same]

theorem State.h2fFull_h2fPut :
    (s.h2fPut n i.val v).fld (fnReg n R.mbxFull) F.MbxFull.h2fFull = s.fld (fnReg n R.mbxFull) F.MbxFull.h2fFull ||| 2 ^ i.val := by
  rw [State.h2fPut, State.fld_setFld_ne _ _ _ _ _ _ (fnReg_ne (mbxFull_ne_mbxAck i) n),
    State.fld_setFld_fit _ _ _ _ rfl (Nat.or_lt_two_pow (s.fld_lt _ _) (two_pow_lt_full i.isLt))]

theorem State.f2hFull_h2fPut :
    (s.h2fPut n i.val v).fld (fnReg n R.mbxFull) F.MbxFull.f2hFull = s.fld (fnReg n R.mbxFull) F.MbxFull.f2hFull := by
  rw [State.h2fPut, State.fld_setFld_ne _ _ _ _ _ _ (fnReg_ne (mbxFull_ne_mbxAck i) n), State.fld_setFld_apart _ _ _ _ _ rfl]
  exact State.fld_of_rd (s.rd_wr_ne _ _ _ (fnReg_ne (mbxH2f_ne_mbxFull i).symm n)) _

theorem State.acked_h2fPut : (s.h2fPut n i.val v).fld (fnReg n (R.mbxAck i.val)) F.MbxAck.acked = 0 :=
  State.fld_setFld_fit _ _ _ _ rfl (by decide)

theorem State.keepsRegs_h2fPut :
    s.keepsRegs (s.h2fPut n i.val v) [fnReg n (R.mbxH2f i.val), fnReg n R.mbxFull, fnReg n (R.mbxAck i.val)] :=
  (((s.keepsRegs_wr _ v).mono (by simp)).trans (State.keepsRegs_setFld_mem _ (by simp) _ _)).trans
    (State.keepsRegs_setFld_mem _ (by simp) _ _)

theorem State.h2fPut_touches : Touches 0x8 s (s.h2fPut n i.val v) :=
  (State.setFld_touches _ _ _ _).step rfl ((State.setFld_touches _ _ _ _).step rfl (s.wr_touches _ _))

/-- What is told to the host and to AER writes no register. -/
theorem State.regs_h2fDiscard : (s.h2fDiscard n i.val v).regs = (s.h2fLogged n i.val v).regs := rfl

theorem State.mbxLog_h2fDiscard :
    (s.h2fDiscard n i.val v).fld (fnReg n R.mbxLog) F.MbxLog.discards
        = min (2 ^ F.MbxLog.discards.wid - 1) (s.fld (fnReg n R.mbxLog) F.MbxLog.discards + 1)
      ∧ (s.h2fDiscard n i.val v).fld (fnReg n R.mbxLog) F.MbxLog.lastIdx = i.val
      ∧ (s.h2fDiscard n i.val v).fld (fnReg n R.mbxLog) F.MbxLog.lastLo = v.toNat % 2 ^ 32 := by
  simp only [State.fld_of_regs (s.regs_h2fDiscard n i v), State.h2fLogged]
  refine ⟨?_, ?_, State.fld_setFld_fit _ _ _ _ rfl (Nat.mod_lt _ (by decide))⟩
  · rw [State.fld_setFld_apart _ _ _ _ _ rfl, State.fld_setFld_apart _ _ _ _ _ rfl, State.fld_count_same _ _ _ rfl, Nat.min_comm]
  · rw [State.fld_setFld_apart _ _ _ _ _ rfl, State.fld_setFld_fit _ _ _ _ rfl i.isLt]

theorem State.keepsRegs_h2fDiscard : s.keepsRegs (s.h2fDiscard n i.val v) [fnReg n R.mbxLog] :=
  have hlogged : s.keepsRegs (s.h2fLogged n i.val v) [fnReg n R.mbxLog] :=
    ((s.keepsRegs_setFld _ _ _).trans (State.keepsRegs_setFld _ _ _ _)).trans (State.keepsRegs_setFld _ _ _ _)
  hlogged.trans (State.keepsRegs_of_regs (s.regs_h2fDiscard n i v) _)

theorem State.outs_h2fDiscard : (s.h2fDiscard n i.val v).outs = s.outs ++ [.unsupported n 0 (R.mbxH2f i.val)] := rfl

theorem State.fn_h2fDiscard :
    (s.h2fDiscard n i.val v).fn n = { s.fn n with unsupported := some (R.mbxH2f i.val, v) } :=
  State.fn_setFn_same _ n _

end

/-! ## Acknowledgements (R350) -/

/-- The acknowledged H2F mailbox is empty. -/
def State.h2fEmptied (s : State) (n i : Nat) : State :=
  if bitOf (s.fld (fnReg n R.mbxFull) F.MbxFull.h2fFull) i then
    s.setFld (fnReg n R.mbxFull) F.MbxFull.h2fFull (s.fld (fnReg n R.mbxFull) F.MbxFull.h2fFull - 2 ^ i)
  else s

/-- The mailbox is empty, and MBX_ACK gives the code. -/
def State.h2fAcked (s : State) (n i code : Nat) : State :=
  ((s.h2fEmptied n i).setFld (fnReg n (R.mbxAck i)) F.MbxAck.acked 1).setFld (fnReg n (R.mbxAck i)) F.MbxAck.code code

theorem exec_mbxAck (fn : Sv) (i : Fin 32) (code : Nat) (s : State) : exec (.mbxAck fn i code) s = .next (s.h2fAcked fn.val i.val code) := rfl

section
variable (s : State) (n : Nat) (i : Fin 32) (code : Nat)

theorem State.bitOf_h2fEmptied (j : Nat) :
    bitOf ((s.h2fEmptied n i.val).fld (fnReg n R.mbxFull) F.MbxFull.h2fFull) j
      = (bitOf (s.fld (fnReg n R.mbxFull) F.MbxFull.h2fFull) j && decide (j ≠ i.val)) := by
  unfold State.h2fEmptied
  split
  next hfull =>
    rw [State.fld_setFld_fit _ _ _ _ rfl (Nat.lt_of_le_of_lt (Nat.sub_le _ _) (s.fld_lt _ _)), bitOf_sub_two_pow hfull]
  next hfree =>
    by_cases hj : j = i.val
    · subst hj
      simp [hfree]
    · simp [hj]

theorem State.bitOf_h2fAcked (j : Nat) :
    bitOf ((s.h2fAcked n i.val code).fld (fnReg n R.mbxFull) F.MbxFull.h2fFull) j
      = (bitOf (s.fld (fnReg n R.mbxFull) F.MbxFull.h2fFull) j && decide (j ≠ i.val)) := by
  have hack := fnReg_ne (mbxFull_ne_mbxAck i) n
  rw [State.h2fAcked, State.fld_setFld_ne _ _ _ _ _ _ hack, State.fld_setFld_ne _ _ _ _ _ _ hack, State.bitOf_h2fEmptied]

theorem State.f2hFull_h2fEmptied :
    (s.h2fEmptied n i.val).fld (fnReg n R.mbxFull) F.MbxFull.f2hFull = s.fld (fnReg n R.mbxFull) F.MbxFull.f2hFull := by
  unfold State.h2fEmptied
  split
  · exact s.fld_setFld_apart _ _ _ _ rfl
  · rfl

theorem State.f2hFull_h2fAcked :
    (s.h2fAcked n i.val code).fld (fnReg n R.mbxFull) F.MbxFull.f2hFull = s.fld (fnReg n R.mbxFull) F.MbxFull.f2hFull := by
  have hack := fnReg_ne (mbxFull_ne_mbxAck i) n
  rw [State.h2fAcked, State.fld_setFld_ne _ _ _ _ _ _ hack, State.fld_setFld_ne _ _ _ _ _ _ hack, State.f2hFull_h2fEmptied]

theorem State.mbxAck_h2fAcked :
    (s.h2fAcked n i.val code).fld (fnReg n (R.mbxAck i.val)) F.MbxAck.acked = 1
      ∧ (s.h2fAcked n i.val code).fld (fnReg n (R.mbxAck i.val)) F.MbxAck.code = code % 2 ^ 16 :=
  ⟨(State.fld_setFld_apart _ _ _ _ _ rfl).trans (State.fld_setFld_fit _ _ _ _ rfl (by decide)), State.fld_setFld_same _ _ _ _ rfl⟩

theorem State.keepsRegs_h2fEmptied : s.keepsRegs (s.h2fEmptied n i.val) [fnReg n R.mbxFull] := by
  unfold State.h2fEmptied
  split
  · exact s.keepsRegs_setFld _ _ _
  · exact s.keepsRegs_refl _

theorem State.keepsRegs_h2fAcked : s.keepsRegs (s.h2fAcked n i.val code) [fnReg n R.mbxFull, fnReg n (R.mbxAck i.val)] :=
  (((s.keepsRegs_h2fEmptied n i).mono (by simp)).trans (State.keepsRegs_setFld_mem _ (by simp) _ _)).trans
    (State.keepsRegs_setFld_mem _ (by simp) _ _)

theorem State.hostIn_h2fAcked : (s.h2fAcked n i.val code).hostIn n = s.hostIn n := by
  refine State.hostIn_of_same ?_ (s.keepsRegs_h2fAcked n i code _ ?_)
  · unfold State.h2fAcked State.h2fEmptied
    split <;> rfl
  · have hfull := fnReg_ne (show R.hifStat ≠ R.mbxFull by decide) n
    have hack := fnReg_ne (hifStat_ne_mbxAck i) n
    simp [hfull, hack]

end

/-! ## Words of firmware (R350) -/

section
variable (s : State) (n : Nat) (i : Fin 32) (v : W64)

theorem State.rd_f2hPut_box : (s.f2hPut n i.val v).rd (fnReg n (R.mbxF2h i.val)) = v :=
  (State.rd_setFld_ne _ _ _ _ _ (fnReg_ne (mbxF2h_ne_mbxFull i) n)).trans (s.rd_wr_same _ v)

theorem State.f2hFull_f2hPut : (s.f2hPut n i.val v).f2hFull n i.val = true := by
  unfold State.f2hFull State.f2hPut
  extract_lets full
  rw [Nat.one_shiftLeft, State.fld_setFld_fit _ _ _ _ rfl (Nat.or_lt_two_pow (s.fld_lt _ _) (two_pow_lt_full i.isLt)),
    bitOf_or_two_pow_same]

theorem State.h2fFull_f2hPut :
    (s.f2hPut n i.val v).fld (fnReg n R.mbxFull) F.MbxFull.h2fFull = s.fld (fnReg n R.mbxFull) F.MbxFull.h2fFull :=
  (State.fld_setFld_apart _ _ _ _ _ rfl).trans (State.fld_of_rd (s.rd_wr_ne _ _ _ (fnReg_ne (mbxF2h_ne_mbxFull i).symm n)) _)

theorem State.keepsRegs_f2hPut : s.keepsRegs (s.f2hPut n i.val v) [fnReg n (R.mbxF2h i.val), fnReg n R.mbxFull] :=
  ((s.keepsRegs_wr _ v).mono (by simp)).trans (State.keepsRegs_setFld_mem _ (by simp) _ _)

end

section
variable {fn : Sv} {i : Fin 32} {v : W64} {s : State}

theorem exec_mbxF2hWrite_free (hfree : s.f2hFull fn.val i.val = false) :
    exec (.mbxF2hWrite fn i v) s = .next (s.f2hPut fn.val i.val v) :=
  if_neg (by simp [hfree])

theorem exec_mbxF2hWrite_full (hfull : s.f2hFull fn.val i.val = true) :
    exec (.mbxF2hWrite fn i v) s = .next (s.emit (.fwBusError fn.val (R.mbxF2h i.val))) :=
  if_pos hfull

end

/-! ## Releases (R350) -/

/-- The F2H mailboxes that are still full once those whose bits are 1 in the word v are released. -/
def State.f2hLeft (s : State) (n : Nat) (v : W64) : BitVec 32 :=
  BitVec.ofNat 32 (s.fld (fnReg n R.mbxFull) F.MbxFull.f2hFull) &&& ~~~ BitVec.ofNat 32 (F.MbxFull.f2hFull.get v)

/-- MBX_FULL shows them. -/
def State.f2hReleased (s : State) (n : Nat) (v : W64) : State :=
  s.setFld (fnReg n R.mbxFull) F.MbxFull.f2hFull (s.f2hLeft n v).toNat

/-- A release while firmware owes no reply. -/
theorem exec_mbxFullRelease {fn : Sv} {v : W64} {s : State} (hin : s.hostIn fn.val = true) (howed : (s.fn fn.val).owed = []) :
    exec (.mbxFullRelease fn v) s = .next ((s.f2hReleased fn.val v).setFn fn.val (fun x => { x with owed := [] })) := by
  refine (if_neg (by simp [hin])).trans (congrArg Host.Outcome.next ?_)
  have hnone : ((s.f2hReleased fn.val v).fn fn.val).owed = [] := howed
  change (s.f2hReleased fn.val v).sendOwed fn.val = _
  rw [State.sendOwed, hnone]
  rfl

theorem State.f2hFull_f2hReleased (s : State) (n : Nat) (v : W64) {j : Nat} (hj : j < 32) :
    (s.f2hReleased n v).f2hFull n j = (s.f2hFull n j && !bitOf (F.MbxFull.f2hFull.get v) j) := by
  rw [State.f2hFull, State.f2hReleased, State.fld_setFld_fit _ _ F.MbxFull.f2hFull _ rfl (s.f2hLeft n v).isLt, State.f2hLeft,
    bitOf_clear _ _ hj, State.f2hFull]

theorem State.h2fFull_f2hReleased (s : State) (n : Nat) (v : W64) :
    (s.f2hReleased n v).fld (fnReg n R.mbxFull) F.MbxFull.h2fFull = s.fld (fnReg n R.mbxFull) F.MbxFull.h2fFull :=
  s.fld_setFld_apart _ _ _ _ rfl

/-! ## Reads (R337, R350) -/

/-- The registers of the mailboxes that R350 speaks of; MBX_LOG, whose count is cleared by a read, is not among them (log 33). -/
def mailboxRegs : List RegDesc := [D.mbxH2f, D.mbxF2h, D.mbxAck, D.mbxFull]

theorem regAt_mbxH2f : ∀ i : Fin 32, regAt (R.mbxH2f i.val) = some D.mbxH2f := by decide +kernel
theorem regAt_mbxF2h : ∀ i : Fin 32, regAt (R.mbxF2h i.val) = some D.mbxF2h := by decide +kernel
theorem regAt_mbxAck : ∀ i : Fin 32, regAt (R.mbxAck i.val) = some D.mbxAck := by decide +kernel
theorem regAt_mbxFull : regAt R.mbxFull = some D.mbxFull := by decide +kernel

/-- An offset of one of these registers: where it lies, and which register it is. -/
structure MailboxAt (off : Nat) : Prop where
  low : 0x00201000 ≤ off
  high : off < 0x00201400
  aligned : off % 8 = 0
  reg : ∃ r ∈ mailboxRegs, regAt off = some r

theorem mailboxAt_of_eq {i : Fin 32} {off : Nat} (h : off = R.mbxH2f i.val ∨ off = R.mbxF2h i.val ∨ off = R.mbxAck i.val ∨ off = R.mbxFull) :
    MailboxAt off := by
  rcases h with rfl | rfl | rfl | rfl
  · exact ⟨by simp only [R.mbxH2f]; omega, by simp only [R.mbxH2f]; omega, by simp only [R.mbxH2f]; omega,
      _, by simp [mailboxRegs], regAt_mbxH2f i⟩
  · exact ⟨by simp only [R.mbxF2h]; omega, by simp only [R.mbxF2h]; omega, by simp only [R.mbxF2h]; omega,
      _, by simp [mailboxRegs], regAt_mbxF2h i⟩
  · exact ⟨by simp only [R.mbxAck]; omega, by simp only [R.mbxAck]; omega, by simp only [R.mbxAck]; omega,
      _, by simp [mailboxRegs], regAt_mbxAck i⟩
  · exact ⟨by decide, by decide, by decide, _, by simp [mailboxRegs], regAt_mbxFull⟩

/-- A read of these registers takes nothing from the rest of the state. -/
theorem State.viewShared_mailbox {r : RegDesc} (hr : r ∈ mailboxRegs) (s : State) (n off : Nat) (v : W64) : s.viewShared n off r v = v := by
  simp only [mailboxRegs, List.mem_cons, List.not_mem_nil, or_false] at hr
  rcases hr with rfl | rfl | rfl | rfl <;> rfl

/-- A read of these registers clears nothing. -/
theorem fldsOf_rc_mailbox : ∀ r ∈ mailboxRegs, r.fldsOf .rc = [] := by decide

section
variable {off : Nat} (h : MailboxAt off)
include h

theorem MailboxAt.dieAt_eq : dieAt off = none := if_pos (Nat.lt_trans h.high (by decide))

theorem MailboxAt.fnKey_eq (n : Nat) : fnKey n off = fnReg n off :=
  if_pos (by have := h.low; have := h.high; simp only [Bool.or_eq_true, Bool.and_eq_true, decide_eq_true_eq]; omega)

theorem MailboxAt.view_eq (s : State) (n : Nat) : s.view n off = s.rd (fnReg n off) := by
  obtain ⟨r, hr, hreg⟩ := h.reg
  have harea : msixArea off = false := by
    have := h.high
    simp only [msixArea, Bool.and_eq_false_iff, decide_eq_false_iff_not]
    omega
  have hport : s.noPortAt r off = false := by rw [State.noPortAt, h.dieAt_eq]
  simp only [State.view, harea, hreg, hport, h.dieAt_eq, h.fnKey_eq, State.viewShared_mailbox hr, Bool.false_eq_true, if_false]

theorem MailboxAt.clearRc_eq (s : State) (n : Nat) : s.clearRc n off = s := by
  obtain ⟨r, hr, hreg⟩ := h.reg
  simp only [State.clearRc, hreg, fldsOf_rc_mailbox r hr, List.foldl_nil]

theorem MailboxAt.goodRead_eq (s : State) (n : Nat) : s.goodRead n off = s.emit (.readReply ⟨8, (s.rd (fnReg n off)).toNat⟩) := by
  simp only [State.goodRead, h.dieAt_eq, h.view_eq, h.clearRc_eq]

/-- A read of a mailbox is answered, and that is all. -/
theorem exec_rcRead_mailbox {fn : Sv} {s : State} (hin : s.hostIn fn.val = true) :
    exec (.rcRead fn off) s = .next (s.emit (.readReply ⟨8, (s.rd (fnReg fn.val off)).toNat⟩)) := by
  have hsilent : s.dieSilent off = false := by rw [State.dieSilent, h.dieAt_eq]
  have hcap (k : Nat) : off ≠ R.conCap k := by
    have := h.high
    simp only [R.conCap]
    omega
  change execRcRead fn off s = _
  simp only [execRcRead, hin, h.aligned, hsilent, hcap, h.goodRead_eq, ne_eq, not_true_eq_false, decide_false, Bool.not_true, Bool.or_self,
    Bool.false_eq_true, if_false]

end

/-- Settles O57: each command by the state that it makes. An acknowledgement and a release leave their mailbox empty, so the write after
them finds it free. -/
theorem mailboxes : Obligations.Mailboxes := by
  refine ⟨?_, ?_, ?_, ?_, ?_, ?_, ?_, ?_, ?_⟩
  · intro fn i v s hin hfree
    exact ⟨_, exec_mbxH2fWrite_free hin hfree, s.rd_h2fPut _ i v, s.h2fFull_h2fPut _ i v, s.f2hFull_h2fPut _ i v, s.acked_h2fPut _ i v,
      s.keepsRegs_h2fPut _ i v, (s.h2fPut_touches _ i v).keeps (Piece.testBit_of_outside rfl)⟩
  · intro fn i v s hin hfull
    obtain ⟨hcount, hidx, hlo⟩ := s.mbxLog_h2fDiscard fn.val i v
    have hexec := exec_mbxH2fWrite_full (v := v) hin hfull
    exact ⟨_, hexec, hcount, hidx, hlo, s.fn_h2fDiscard _ i v, s.outs_h2fDiscard _ i v, s.keepsRegs_h2fDiscard _ i v,
      (execMbxH2fWrite_touches fn i v s).keeps hexec rfl⟩
  · intro fn i code s
    obtain ⟨hacked, hcode⟩ := s.mbxAck_h2fAcked fn.val i code
    refine ⟨_, exec_mbxAck fn i code s, ?_, fun j _ hj => ?_, s.f2hFull_h2fAcked _ i code, hacked, hcode, s.keepsRegs_h2fAcked _ i code,
      (execMbxAck_touches fn i code s).keeps (exec_mbxAck fn i code s) rfl⟩
    · simp [State.bitOf_h2fAcked]
    · simp [State.bitOf_h2fAcked, hj]
  · intro fn i code v s hin
    have hreached : (s.h2fAcked fn.val i.val code).hostIn fn.val = true := (s.hostIn_h2fAcked _ i code).trans hin
    refine ⟨_, exec_mbxAck fn i code s, _, exec_mbxH2fWrite_free hreached ?_, State.rd_h2fPut _ _ i v, ?_⟩
    · simp [State.bitOf_h2fAcked]
    · rw [State.h2fFull_h2fPut, bitOf_or_two_pow_same]
  · intro fn i v s hfull
    exact ⟨_, exec_mbxF2hWrite_full hfull, rfl, (s.emit_touches _).keeps (Piece.testBit_of_outside rfl)⟩
  · intro fn i v s hfree
    exact ⟨_, exec_mbxF2hWrite_free hfree, s.rd_f2hPut_box _ i v, s.f2hFull_f2hPut _ i v, s.h2fFull_f2hPut _ i v, s.keepsRegs_f2hPut _ i v,
      (s.f2hPut_touches _ _ v).keeps (Piece.testBit_of_outside rfl)⟩
  · intro fn v s hin howed
    exact ⟨_, exec_mbxFullRelease hin howed, fun j hj => s.f2hFull_f2hReleased _ v hj, s.h2fFull_f2hReleased _ v,
      s.keepsRegs_setFld _ _ _⟩
  · intro fn i v x s hin howed hbit
    have hfree : (s.f2hReleased fn.val v).f2hFull fn.val i.val = false :=
      (s.f2hFull_f2hReleased _ v i.isLt).trans (by simp [hbit])
    exact ⟨_, exec_mbxFullRelease hin howed, _, exec_mbxF2hWrite_free hfree, State.rd_f2hPut_box _ _ i x, State.f2hFull_f2hPut _ _ i x⟩
  · intro fn i off s hin hoff
    exact ⟨_, exec_rcRead_mailbox (mailboxAt_of_eq hoff) hin, rfl, (s.emit_touches _).keeps (Piece.testBit_of_outside rfl)⟩

end Sys2Proof.Machine
end

section
/-! The machine as a whole (R58, R409, R420; log 1): O1, O3 and O4. Of all branches of all commands one stops: VAUX_1V8 that comes back
beyond its rating. -/

namespace Sys2Proof.Machine

/-- Settles O1: the queue is the first thing that a step looks at. -/
theorem stepRunsFront : Obligations.StepRunsFront := fun _ _ _ => rfl

/-- Settles O3: every command's mask lies within its reach. -/
theorem commandReach : Obligations.CommandReach := fun _ _ _ => exec_keeps_reach

/-! ## Outcomes that are a next state -/

/-- An outcome that is a next state. -/
def GoesOn (o : Host.Outcome State Fault Refusal) : Prop := ∃ t, o = .next t

theorem GoesOn.next {t : State} : GoesOn (.next t) := ⟨t, rfl⟩

theorem GoesOn.ite {p : Prop} {_ : Decidable p} {a b : Host.Outcome State Fault Refusal} (ha : GoesOn a) (hb : GoesOn b) :
    GoesOn (if p then a else b) := by
  split
  · exact ha
  · exact hb

/-! ## Commands that go on -/

section
variable (s : State)

/-- A supply beyond its absolute maximum rating has no specified behaviour (R409). -/
theorem exec_vaux1v8Recover_beyond {mv : Nat} (h : 2100 < mv) : exec (.vaux1v8Recover mv) s = .fault .beyondRatings :=
  if_pos h

theorem goesOn_vaux1v8Recover {mv : Nat} (h : mv ≤ 2100) : GoesOn (exec (.vaux1v8Recover mv) s) := by
  change GoesOn (execVaux1v8Recover mv s)
  rw [execVaux1v8Recover, if_neg (Nat.not_lt.mpr h)]
  exact .ite .next (.ite .next (.ite .next .next))

theorem goesOn_conCapRead (fn sv : Sv) : GoesOn (execConCapRead fn sv s) := by
  refine .ite .next ?_
  split
  · exact .next
  · exact .next

/-- A whole read of a capture buffer is a read of CON_CAP (R355). -/
theorem goesOn_rcRead (fn : Sv) (off : Nat) : GoesOn (execRcRead fn off s) :=
  .ite .next (.ite .next (.ite (goesOn_conCapRead s fn 0) (.ite (goesOn_conCapRead s fn 1) .next)))

/-- A read of 8 aligned bytes is a whole read after all (R337). -/
theorem goesOn_bar0BadRead (fn : Sv) (off size : Nat) (silent : Bool) : GoesOn (execBar0BadRead fn off size silent s) :=
  .ite .next (.ite .next (.ite .next (.ite .next (.ite (goesOn_rcRead s fn off) .next))))

/-- A command that is taken from the FIFO meets the checks of R348 in their order. -/
theorem goesOn_hcfTake (fn : Sv) : GoesOn (execHcfTake fn s) := by
  refine .ite .next ?_
  split
  · exact .next
  · exact .ite .next (.ite .next (.ite .next (.ite .next (.ite .next (.ite .next .next)))))

/-- Every command but the return of VAUX_1V8 answers a state in each of its branches. -/
theorem goesOn_exec {c : Instr} (hc : ∀ mv, c ≠ .vaux1v8Recover mv) : GoesOn (exec c s) := by
  cases c
  case vaux1v8Recover mv => exact absurd rfl (hc mv)
  case conCapRead fn sv => exact goesOn_conCapRead s fn sv
  case rcRead fn off => exact goesOn_rcRead s fn off
  case bar0BadRead fn off size silent => exact goesOn_bar0BadRead s fn off size silent
  case hcfTake fn => exact goesOn_hcfTake s fn
  -- One condition.
  case perstAssert | vinPkgLow | vinPkgRecover | vinPkgDip | vinPkgHigh | powerFault | vaux1v8Drop | limitVoltageStep | dutyStep |
      thermalTrip | tripHoldEnd | turnBoundary | heartbeatMiss | stagingReady | warmTrainingTimeout | trainingBackoffExpiry |
      creditReturn | retrainLimitExpiry | pcsAlignmentLoss | holddownExpiry | faultRetryExpiry | reclaimComplete | retrainAgeScan |
      archiveSegmentCopy | pipelineDrainTimeout | engineResetBoundaryTimeout | create | callTimeout | modify | jobDrainEnd | flush
      | mbxF2hWrite | mbxFullRelease | conTxdWrite | entdaa | setdasa | termNotice | leaseExpiry | seamHeal | noLeaderTimeout |
      farTierTrained | childAbortNotice | resizePauseEnd | dumpWritten =>
    exact .ite .next .next
  -- Conditions that are judged one after another.
  case imageDmaLoad | capabilityWord | capabilityResendTimeout | linkFrameReceive | peerChangeRequest | synthLock | synthLockTimeout
      | mbxH2fWrite | rstact =>
    exact .ite .next (.ite .next .next)
  case coldRstNRelease | coldRstNAssert | commit | coldTrainingTimeout =>
    exact .ite .next (.ite .next (.ite .next .next))
  case supervisorReady => exact .ite (.ite .next .next) .next
  case hangDetect => exact .ite (.ite .next .next) (.ite .next .next)
  case narrowNotice => exact .ite .next (.ite (.ite .next .next) (.ite .next (.ite (.ite .next .next) .next)))
  case spareTrainingDone | parentCompleteNotice =>
    exact .ite .next (.ite (.ite .next .next) (.ite .next .next))
  case trainingComplete => exact .ite (.ite (.ite .next .next) .next) (.ite .next .next)
  -- What the command finds in the state, or is given, decides.
  -- Collectives and packets that arrive.
  case ptpMessage | rankLookupReturn | collectiveArrival =>
    dsimp only [exec, execPtpMessage, execRankLookupReturn, execCollectiveArrival]
    repeat' split
    all_goals exact .next
  -- Links, egress, the bench and its engines.
  case ackReceive | nakReceive | egressSchedule | tc7Insertion | gateEntryAdvance | reorderArrival | reorderTimeout |
      reorderSlotFree | grainAlloc | grainReturn | spillWrite | spillReadback | quadEngineReset =>
    dsimp only [exec, execAckReceive, execNakReceive, execEgressSchedule, execTc7Insertion, execGateEntryAdvance,
      execReorderArrival, execReorderTimeout, execReorderSlotFree, execGrainAlloc, execGrainReturn, execSpillWrite,
      execSpillReadback, execQuadEngineReset]
    repeat' split
    all_goals exact .next
  -- Lathes and contexts.
  case bundleExecute | grainBoundary | arrivalNotice | windowOperandArrive | watchdogBite | pacedReleaseTick | contextSaveComplete |
      contextRestoreComplete | engineReset | selfTestComplete | programLoadComplete | partialArrival =>
    dsimp only [exec, execBundleExecute, execGrainBoundary, execArrivalNotice, execWindowOperandArrive, execWatchdogBite,
      execPacedReleaseTick, execContextSaveComplete, execContextRestoreComplete, execEngineReset, execSelfTestComplete,
      execProgramLoadComplete, execPartialArrival]
    repeat' split
    all_goals exact .next
  -- Jobs, structure images, supervision, errors.
  case checkComplete | retireReport | retireTimeout | jobChecksComplete | campaignBackoffExpiry | scrub =>
    dsimp only [exec, execCheckComplete, execRetireReport, execRetireTimeout, execJobChecksComplete, execCampaignBackoffExpiry,
      execScrub]
    repeat' split
    all_goals exact .next
  -- Domains, the timebase and the start.
  case skewMeasure | domainWakeReady | wakeTimeout | domainDrainComplete | bootConfirm | bootConfirmTimeout | nearTierTrained |
      mainFirmwareLoaded | bootStageLoaded =>
    dsimp only [exec, execSkewMeasure, execDomainWakeReady, execWakeTimeout, execDomainDrainComplete, execBootConfirm,
      execBootConfirmTimeout, execNearTierTrained, execMainFirmwareLoaded, execBootStageLoaded]
    repeat' split
    all_goals exact .next
  -- The host interface, the sideband and register writes.
  case registerWrite | bar2Read | bar2Write | dmaCompletion | dmaReadTimeout | dmaChannelDone | uartFrameReceive | pcieLinkDown =>
    dsimp only [exec, execRegisterWrite, execBar2Read, execBar2Write, execDmaCompletion, execDmaReadTimeout, execDmaChannelDone,
      execUartFrameReceive, execPcieLinkDown]
    repeat' split
    all_goals exact .next
  -- The others answer one state, whatever they find.
  all_goals exact .next

end

/-- Settles O4: only the return of VAUX_1V8 has a branch that stops, and that branch is a supply above 2.10 V. -/
theorem onlyRatingsStop : Obligations.OnlyRatingsStop := by
  refine ⟨fun c s => ?_, fun mv s h => exec_vaux1v8Recover_beyond s h⟩
  by_cases hc : ∃ mv, c = .vaux1v8Recover mv
  · obtain ⟨mv, rfl⟩ := hc
    rcases Nat.lt_or_ge 2100 mv with hover | hwithin
    · exact .inr ⟨exec_vaux1v8Recover_beyond s hover, mv, rfl, hover⟩
    · exact .inl (goesOn_vaux1v8Recover s hwithin)
  · exact .inl (goesOn_exec s fun mv e => hc ⟨mv, e⟩)

end Sys2Proof.Machine
end

section
/-! Dies that fail, records that are popped, and sectors that scrubbing finds (R378, R379, R382, R384, R386, R395): O22, O23 and O24. -/

namespace Sys2Proof.Machine

section
variable (s : State)

/-! ## Records that go to the ERR log (R379, R381) -/

/-- The record that goes to the ERR log stands where NEXT_SEQ pointed. -/
theorem State.log_logAppend (r : ErrRec) :
    (s.logAppend r).err.log.get (fun _ => none) (s.fld R.errStat F.ErrStat.nextSeq % 1024) = some r := by
  rw [State.err_logAppend, Tbl.get_set_same]

/-- The ERR log is not the queue of any die. -/
theorem State.errq_logAppend (r : ErrRec) (d : Nat) : (s.logAppend r).errq d = s.errq d := by
  rw [State.errq, State.err_logAppend, State.errq]

theorem State.keepsRegs_logAppend (r : ErrRec) : s.keepsRegs (s.logAppend r) [R.errStat] := fun off h =>
  s.rd_logAppend r off (by simpa using h)

/-- A record as ERRQ_POP moves it: at the end of the ERR log, and no longer in its queue. -/
def State.popped (d : Nat) (r : ErrRec) (q : List ErrRec) : State := (s.logAppend r).setErrq d q

theorem State.popped_touches (d : Nat) (r : ErrRec) (q : List ErrRec) : Touches 0x4001208 s (s.popped d r q) :=
  (State.setErrq_touches _ _ _).step (by decide) (s.logAppend_touches r)

end

section
variable {s : State} {w : Writer}

/-- A write that a fence does not apply is dropped there. -/
theorem State.fenced_of_not_applied {d : Nat} (hw : s.judge w d ≠ .applied) (off : Nat) (apply : State → State) :
    s.fenced w d off apply = s.dropWrite w d off (s.judge w d) := by
  unfold State.fenced
  split
  next h => exact absurd h hw
  next => rfl

variable {d : Die}

theorem exec_errqPop_of_record {r : ErrRec} {q : List ErrRec} (hw : s.judge w d.val = .applied) (hq : s.errq d.val = r :: q) :
    exec (.errqPop w d) s = .next (s.popped d.val r q) := by
  refine congrArg Host.Outcome.next ((State.fenced_of_applied hw _ _).trans ?_)
  simp only [hq]
  rfl

theorem exec_errqPop_of_empty (hw : s.judge w d.val = .applied) (hq : s.errq d.val = []) : exec (.errqPop w d) s = .next s := by
  refine congrArg Host.Outcome.next ((State.fenced_of_applied hw _ _).trans ?_)
  simp only [hq]

theorem exec_errqPop_of_dropped (hw : s.judge w d.val ≠ .applied) :
    exec (.errqPop w d) s = .next (s.dropWrite w d.val (errqReg d.val + 0x28) (s.judge w d.val)) :=
  congrArg Host.Outcome.next (State.fenced_of_not_applied hw _ _)

end

/-- Settles O24: the record moves, and a pop that the fence drops writes the fence's register alone. -/
theorem recordsArePopped : Obligations.RecordsArePopped := by
  refine ⟨?_, ?_, ?_⟩
  · intro w d r q s hw hq
    refine ⟨_, exec_errqPop_of_record hw hq, State.errq_setErrq_same _ _ _, s.log_logAppend r, fun e he => ?_, s.keepsRegs_logAppend r,
      (s.popped_touches _ r q).keeps (Piece.testBit_of_outside rfl)⟩
    exact (State.errq_setErrq_ne _ _ _ _ he).trans (s.errq_logAppend r e)
  · intro w d s hw hq
    exact exec_errqPop_of_empty hw hq
  · intro w d s hw
    have htouches := s.dropWrite_touches w d.val (errqReg d.val + 0x28) (s.judge w d.val)
    exact ⟨_, exec_errqPop_of_dropped hw, htouches.same 9 rfl, htouches.keeps (Piece.testBit_of_outside rfl)⟩

/-! ## Dies that fail (R395) -/

section
variable (s : State) (d : Nat)

/-- A die that is marked failed, with its DIE_LOST record in the ERR log. -/
def State.dieLost : State :=
  (s.setDie d (fun x => { x with failed := true })).logAppend
    { plainRec 0x15 0 3 d s.tb.tick with
      part := (((s.setDie d (fun x => { x with failed := true })).planeOn d).partOfDie d).getD 0x1F }

/-- What the loss of a die calls for, by its type. -/
def State.dieFallout : State :=
  if d < 32 then (List.range 32).foldl (fun (s : State) l => s.enterDisabled (32 * d + l) 2) s
  else if d < 56 then s.failLatheDie (d - 32)
  else if d < 72 then s.failBenchDie (d - 56)
  else if d < 80 then s.failTierDie 0 d
  else if d < 84 then s.failTierDie 1 d
  else if d < 96 then (if seamBridges.all (fun b => (s.die (dBridge b)).failed) then s.cutSeam else s)
  else if d < 98 then s.svFailed (d - 96)
  else if d = 98 then s.setFld R.tbStat F.TbStat.master 1
  else s

/-- The loss of the second voter's die, which the keepers report (R374). -/
def State.votersReport (before : Nat) : State :=
  if before < 2 && 2 ≤ s.votersLost then
    let (w, s) := s.free
    (s.keeperRec 2 0xFF 0).i3cEvent ([0x10, 0x11, 0x12, 0x20, 0x21, 0x30, 0x40, 0x41].getD (w.toNat % 8) 0x10) 0xFF
  else s

variable {s d}

theorem State.failDie_of_enabled (hen : s.dieEnabled d = true) (hf : (s.die d).failed = false) :
    s.failDie d = ((s.dieLost d).dieFallout d).votersReport s.votersLost :=
  if_neg (by simp [hen, hf])

variable (s d)

/-- What a loss calls for marks no other die as failed. -/
theorem State.dieFallout_touches : Touches 0x7fc7748 s (s.dieFallout d) := by
  unfold State.dieFallout
  split_ifs
  · exact Touches.foldl (fun s l => (s.enterDisabled_touches (32 * d + l) 2).mono (by decide)) (.refl _ _)
  · exact (s.failLatheDie_touches _).mono (by decide)
  · exact (s.failBenchDie_touches _).mono (by decide)
  · exact (s.failTierDie_touches _ _).mono (by decide)
  · exact (s.failTierDie_touches _ _).mono (by decide)
  · exact s.cutSeam_touches.mono (by decide)
  · exact .refl _ _
  · exact (s.svFailed_touches _).mono (by decide)
  · exact (s.setFld_touches _ _ _).mono (by decide)
  · exact .refl _ _

theorem State.votersReport_touches (before : Nat) : Touches 0x6001608 s (s.votersReport before) := by
  unfold State.votersReport
  split
  · exact (State.i3cEvent_touches _ _ _).step (by decide)
      ((State.keeperRec_touches _ _ _ _).step (by decide) (s.free_touches.snd.mono (by decide)))
  · exact .refl _ _

theorem State.die_dieLost (e : Nat) : (s.dieLost d).die e = (s.setDie d (fun x => { x with failed := true })).die e :=
  State.die_of_dies ((State.logAppend_touches _ _).same 4 rfl) e

theorem State.failed_dieLost_same : ((s.dieLost d).die d).failed = true := by
  rw [State.die_dieLost, State.die_setDie_same]

theorem State.failed_dieLost_ne {e : Nat} (h : e ≠ d) : ((s.dieLost d).die e).failed = (s.die e).failed := by
  rw [State.die_dieLost, State.die_setDie_ne _ _ _ _ h]

variable {s d}

theorem State.die_failDie (hen : s.dieEnabled d = true) (hf : (s.die d).failed = false) (e : Nat) :
    (s.failDie d).die e = (s.dieLost d).die e := by
  rw [State.failDie_of_enabled hen hf, State.die_of_dies ((State.votersReport_touches _ _).same 4 rfl),
    State.die_of_dies ((State.dieFallout_touches _ _).same 4 rfl)]

/-! ## Dies of the tiers -/

/-- A die of a tier serves every partition (R63). -/
theorem Plane.partOfDie_shared (p : Plane) (h : 56 ≤ d) : p.partOfDie d = none := by
  rw [Plane.partOfDie, if_neg (by omega), if_neg (by omega)]

theorem State.dieFallout_tier (hlo : 72 ≤ d) (hhi : d < 84) : Touches 0x600000 s (s.dieFallout d) := by
  unfold State.dieFallout
  rw [if_neg (by omega), if_neg (by omega), if_neg (by omega), if_pos hhi]
  split_ifs
  · exact s.failTierDie_touches _ _
  · exact s.failTierDie_touches _ _

/-- The voters stand on keepers and a bridge (R361). -/
theorem State.voterDie_ge (v : Nat) : 84 ≤ s.voterDie v := by
  simp only [State.voterDie, dKeeper, dBridge]
  split_ifs <;> omega

theorem State.votersLost_of_same {t : State} (hsup : t.sup = s.sup)
    (h : ∀ e, 84 ≤ e → (t.die e).failed = (s.die e).failed) : t.votersLost = s.votersLost := by
  have hdie (v : Nat) : t.voterDie v = s.voterDie v := by rw [State.voterDie, State.voterDie, hsup]
  simp only [State.votersLost, hdie, h _ (State.voterDie_ge _)]

/-- No voter is lost with a die of a tier. -/
theorem State.failDie_tier (hlo : 72 ≤ d) (hhi : d < 84) (hen : s.dieEnabled d = true) (hf : (s.die d).failed = false) :
    s.failDie d = (s.dieLost d).dieFallout d := by
  have htouches : Touches 0x600000 (s.dieLost d) ((s.dieLost d).dieFallout d) := State.dieFallout_tier hlo hhi
  have hlost : ((s.dieLost d).dieFallout d).votersLost = s.votersLost := by
    refine State.votersLost_of_same ((htouches.same 8 rfl).trans ((State.logAppend_touches _ _).same 8 rfl)) fun e he => ?_
    rw [State.die_of_dies (htouches.same 4 rfl), State.failed_dieLost_ne _ _ (by omega)]
  rw [State.failDie_of_enabled hen hf, State.votersReport, hlost, if_neg]
  simp only [Bool.and_eq_true, decide_eq_true_eq]
  omega

theorem State.log_failDie_tier (hlo : 72 ≤ d) (hhi : d < 84) (hen : s.dieEnabled d = true) (hf : (s.die d).failed = false) :
    (s.failDie d).err.log.get (fun _ => none) (s.fld R.errStat F.ErrStat.nextSeq % 1024)
      = some { plainRec 0x15 0 3 d s.tb.tick with part := 0x1F } := by
  have herr : ((s.dieLost d).dieFallout d).err = (s.dieLost d).err := (State.dieFallout_tier hlo hhi).same 9 rfl
  rw [State.failDie_tier hlo hhi hen hf, herr, State.dieLost, Plane.partOfDie_shared _ (by omega)]
  exact State.log_logAppend _ _

end

theorem exec_heartbeatMiss_lost {n : Nat} (h : 10 ≤ n) (d : Die) (s : State) : exec (.heartbeatMiss d n) s = exec (.dieFailed d) s :=
  if_pos h

theorem exec_heartbeatMiss_fewer {n : Nat} (h : n < 10) (d : Die) (s : State) : exec (.heartbeatMiss d n) s = .next s :=
  if_neg (Nat.not_le.mpr h)

/-- Settles O22: the mark and the record come first, and nothing that a loss calls for touches either. -/
theorem diesFail : Obligations.DiesFail := by
  have hmarked (d : Die) (s : State) (hen : s.dieEnabled d.val = true) (hf : (s.die d.val).failed = false) :
      ((s.failDie d.val).die d.val).failed = true := by
    rw [State.die_failDie hen hf, State.failed_dieLost_same]
  refine ⟨?_, ?_, ?_, ?_, ?_⟩
  · intro d s hen hf
    refine ⟨_, rfl, hmarked d s hen hf, fun e he => ?_⟩
    rw [State.die_failDie hen hf, State.failed_dieLost_ne _ _ he]
  · intro d s hlo hhi hen hf
    exact ⟨_, rfl, State.log_failDie_tier hlo hhi hen hf⟩
  · intro d n s hn
    exact exec_heartbeatMiss_lost hn d s
  · intro d n s hen hf hn
    exact ⟨_, exec_heartbeatMiss_lost hn d s, hmarked d s hen hf⟩
  · intro d n s hn
    exact exec_heartbeatMiss_fewer hn d s

/-! ## A word of a window that cannot be corrected
The words of a window are marked under their number in the window's key space, eight bytes to a word; the statement looks for the mark
under the offset of the word's first byte. -/

section
variable (s : State) (d : Die) (a c win off syn : Nat)

/-- The mark stands at the number of the word. -/
theorem burr_scrub_window (hen : s.dieEnabled d.val = true) (hf : (s.die d.val).failed = false) :
    ((s.after (.scrub d a (.window c win off syn))).ctx c).burr = (s.ctx c).burr.set (fun _ => false) (winKey win off / 8) true := by
  have hexec : exec (.scrub d a (.window c win off syn)) s = execScrub d a (.window c win off syn) s := rfl
  have hrun : (!s.dieEnabled d.val || (s.die d.val).failed) = false := by simp [hen, hf]
  rw [State.after, hexec, execScrub]
  simp only [hrun, Bool.false_eq_true, if_false, State.ctx_setCtx_same]
  rw [State.ctx, (State.raise_touches _ _).same 19 rfl, State.ctx]

end

/-- Refutes O23: a scrub of die 0 finds an uncorrectable word at offset 8 of window 0 of context 0. The model marks word 1; the statement
reads the mark of word 8, which is clear. -/
theorem not_hangsAndScrubs : ¬ Obligations.HangsAndScrubs := by
  rintro ⟨-, -, -, -, -, hwindow⟩
  have hen : State.reset.dieEnabled (0 : Die).val = true := by decide
  have hf : (State.reset.die (0 : Die).val).failed = false := by decide
  obtain ⟨t, hexec, hburr, -⟩ := hwindow 0 0 0 0 8 0 State.reset hen hf
  have hmark := burr_scrub_window State.reset 0 0 0 0 8 0 hen hf
  rw [State.after_of_next hexec] at hmark
  rw [hmark] at hburr
  exact absurd hburr (by decide)

end Sys2Proof.Machine
end

section
/-! The configuration fences (R337, R338, R364, R365): which writes they apply, and what becomes of the others: O52. -/

namespace Sys2Proof.Machine

/-! ## The judgement (R364) -/

section
variable (f : Fence) (now : Nat)

theorem Fence.judge_in_time (h : now ≤ f.expiry) : f.judge now (some f.term) = .applied := by
  simp only [Fence.judge, Nat.lt_irrefl, if_false, if_pos h]

theorem Fence.judge_expired (h : f.expiry < now) : f.judge now (some f.term) = .old := by
  simp only [Fence.judge, Nat.lt_irrefl, if_false, if_neg (Nat.not_le.mpr h)]

variable {t : Nat}

theorem Fence.judge_lower (h : t < f.term) : f.judge now (some t) = .old := by
  simp only [Fence.judge, if_neg (Nat.lt_asymm h), if_pos h]

theorem Fence.judge_higher (h : f.term < t) : f.judge now (some t) = .ahead := if_pos h

end

/-! ## Writes of firmware to a die -/

section
variable {s : State} {sv : Sv} {term : Option Nat} {off d : Nat} {v : W64} {r : RegDesc}

/-- A write to a register of one of several dies comes to that die's fence. -/
theorem exec_registerWrite_die (hal : off % 8 = 0) (hreg : regAt off = some r)
    (hblock : r.block ∈ [.ptd, .bch, .nt, .ft, .ltd, .lt, .brg]) (hdie : dieAt off = some d) :
    exec (.registerWrite (.fw sv term) off 8 v) s = .next (s.writeDie (.fw sv term) d off r v) := by
  have hsize : ¬ ((decide ((8 : Nat) ≠ 8) || decide (off % 8 ≠ 0)) = true) := by simp [hal]
  refine congrArg Host.Outcome.next ?_
  rw [State.fwWrite, if_neg hsize, hreg]
  simp only [List.mem_cons, List.not_mem_nil, or_false] at hblock
  rcases hblock with h | h | h | h | h | h | h <;> simp only [h, hdie]

variable (hal : off % 8 = 0) (hreg : regAt off = some r) (hblock : r.block ∈ [.ptd, .bch, .nt, .ft, .ltd, .lt, .brg])
  (hdie : dieAt off = some d)
include hal hreg hblock hdie

theorem exec_registerWrite_old (hw : s.judge (.fw sv term) d = .old) :
    exec (.registerWrite (.fw sv term) off 8 v) s = .next (s.count (cfgFenceReg d) F.PtdCfgFence.old) := by
  rw [exec_registerWrite_die hal hreg hblock hdie, State.writeDie, State.fenced, hw]
  rfl

theorem exec_registerWrite_ahead (hw : s.judge (.fw sv term) d = .ahead) :
    exec (.registerWrite (.fw sv term) off 8 v) s = .next (s.count (cfgFenceReg d) F.PtdCfgFence.ahead) := by
  rw [exec_registerWrite_die hal hreg hblock hdie, State.writeDie, State.fenced, hw]
  rfl

end

/-! ## Writes of the host to GLB (R337, R338) -/

section
variable {s : State} {fn : Sv}

/-- Without a grant the host's write carries no term. -/
theorem State.judge_host_denied (d : Nat) (h : s.fld (fnReg fn.val R.hifOvr) F.HifOvr.grant = 0) : s.judge (.host fn) d = .denied := by
  have hterm : s.writerTerm (.host fn) d = none := if_neg (by simp [h])
  rw [State.judge, hterm]

theorem State.hostDrop_of_reached (hin : s.hostIn fn.val = true) (kind bar off : Nat) (f : Fld) :
    s.hostDrop fn.val kind bar off f
      = (((s.count (fnReg fn.val R.hifDrop) f).setFld (fnReg fn.val R.hifDrop) F.HifDrop.lastKind kind).setFld (fnReg fn.val R.hifDrop)
          F.HifDrop.lastBar bar).setFld (fnReg fn.val R.hifDrop) F.HifDrop.lastOff off :=
  if_neg (by simp [hin])

theorem State.lastKind_hostDrop (hin : s.hostIn fn.val = true) {kind : Nat} (hkind : kind < 2 ^ F.HifDrop.lastKind.wid) (bar off : Nat)
    (f : Fld) : (s.hostDrop fn.val kind bar off f).fld (fnReg fn.val R.hifDrop) F.HifDrop.lastKind = kind := by
  rw [State.hostDrop_of_reached hin, State.fld_setFld_apart _ _ _ _ _ rfl, State.fld_setFld_apart _ _ _ _ _ rfl,
    State.fld_setFld_fit _ _ _ _ rfl hkind]

theorem State.keepsRegs_hostDrop (hin : s.hostIn fn.val = true) (kind bar off : Nat) (f : Fld) :
    s.keepsRegs (s.hostDrop fn.val kind bar off f) [fnReg fn.val R.hifDrop] := by
  rw [State.hostDrop_of_reached hin]
  exact (((s.keepsRegs_setFld _ _ _).trans (State.keepsRegs_setFld _ _ _ _)).trans (State.keepsRegs_setFld _ _ _ _)).trans
    (State.keepsRegs_setFld _ _ _ _)

theorem exec_registerWrite_glb_denied {off : Nat} {v : W64} {r : RegDesc} (hin : s.hostIn fn.val = true) (harea : msixArea off = false)
    (hal : off % 8 = 0) (hreg : regAt off = some r) (hblock : r.block = .glb)
    (hgrant : s.fld (fnReg fn.val R.hifOvr) F.HifOvr.grant = 0) :
    exec (.registerWrite (.host fn) off 8 v) s = .next (s.hostDrop fn.val 1 0 off F.HifDrop.wrDeny) := by
  have hsize : ¬ ((decide ((8 : Nat) ≠ 8) || decide (off % 8 ≠ 0)) = true) := by simp [hal]
  refine congrArg Host.Outcome.next ?_
  simp only [State.hostWrite, hin, harea, Bool.not_true, Bool.false_eq_true, if_false, if_neg hsize, hreg, hblock]
  rw [State.fenced, State.judge_host_denied _ hgrant]
  rfl

end

/-! ## Where the fences lie (R365) -/

theorem cfgFenceReg_cases (d : Nat) :
    (d < 32 → cfgFenceReg d = 0x01000000 + 0x10000 * d + 0xFE00)
      ∧ (32 ≤ d → d < 56 → cfgFenceReg d = 0x01400000 + 0x20000 * (d - 32) + 0x1FE00)
      ∧ (56 ≤ d → d < 72 → cfgFenceReg d = 0x01800000 + 0x10000 * (d - 56) + 0xFE00)
      ∧ (72 ≤ d → d < 80 → cfgFenceReg d = 0x01A00000 + 0x10000 * (d - 72) + 0xFE00)
      ∧ (80 ≤ d → d < 84 → cfgFenceReg d = 0x01C00000 + 0x10000 * (d - 80) + 0xFE00)
      ∧ (84 ≤ d → d < 96 → cfgFenceReg d = 0x01E00000 + 0x4000 * (d - 84) + 0x3E00) := by
  simp only [cfgFenceReg, dieBase]
  split_ifs <;> refine ⟨?_, ?_, ?_, ?_, ?_, ?_⟩ <;> intros <;> omega

/-- Settles O52: the judgement in its cases, and for each verdict that drops a write the one register that counts it. -/
theorem fencesJudge : Obligations.FencesJudge := by
  refine ⟨?_, ?_, ?_, ?_, ?_, cfgFenceReg_cases⟩
  · intro f now t
    refine ⟨?_, ?_, f.judge_lower now, f.judge_higher now, rfl⟩
    · rintro rfl h
      exact f.judge_in_time now h
    · rintro rfl h
      exact f.judge_expired now h
  · intro sv term d s
    rfl
  · intro sv term off d v r s hal hreg hblock hdie hw
    refine ⟨_, exec_registerWrite_old hal hreg hblock hdie hw, ?_, s.fld_count_apart _ _ _ rfl, s.keepsRegs_setFld _ _ _,
      (s.count_touches _ _).keeps (Piece.testBit_of_outside rfl)⟩
    rw [State.fld_count_same _ _ _ rfl, Nat.min_comm]
  · intro sv term off d v r s hal hreg hblock hdie hw
    refine ⟨_, exec_registerWrite_ahead hal hreg hblock hdie hw, ?_, s.fld_count_apart _ _ _ rfl, s.keepsRegs_setFld _ _ _,
      (s.count_touches _ _).keeps (Piece.testBit_of_outside rfl)⟩
    rw [State.fld_count_same _ _ _ rfl, Nat.min_comm]
  · intro fn off v r s hin harea hal hreg hblock hgrant
    exact ⟨_, exec_registerWrite_glb_denied hin harea hal hreg hblock hgrant, State.lastKind_hostDrop hin (by decide) _ _ _,
      State.keepsRegs_hostDrop hin _ _ _ _, (s.hostDrop_touches _ _ _ _ _).keeps (Piece.testBit_of_outside rfl)⟩

end Sys2Proof.Machine
end

section
/-! COLD_RST_N and the start (R402 to R408, R414): the boot stage, the tiers, the main firmware, the confirmation, and what a cold reset
writes over: O8, O10 and O11. -/

namespace Sys2Proof.Machine

/-! ## Folds -/

/-- What one entry brings about, and every entry keeps, holds after the fold. -/
theorem foldl_of_mem {α σ : Type} {P : σ → Prop} {f : σ → α → σ} {l : List α} {x : α} (hx : ∀ s, P (f s x))
    (hkeep : ∀ s y, y ∈ l → P s → P (f s y)) (hmem : x ∈ l) (s : σ) : P (l.foldl f s) := by
  induction l generalizing s with
  | nil => cases hmem
  | cons y l ih =>
    have hrest (t : σ) (ht : P t) : P (l.foldl f t) := by
      refine List.foldlRecOn l f ht fun u hu z hz => ?_
      exact hkeep u z (List.mem_cons_of_mem _ hz) hu
    rcases List.mem_cons.mp hmem with rfl | hl
    · exact hrest _ (hx s)
    · exact ih (fun t z hz => hkeep t z (List.mem_cons_of_mem _ hz)) hl _

/-! ## GLB_BOOT (R407) -/

section
variable (s : State)

theorem attemptsF_ok (c : Nat) : (attemptsF c).ok = true := by
  unfold attemptsF
  split <;> rfl

theorem attemptsF_wid (c : Nat) : (attemptsF c).wid = 4 := by
  unfold attemptsF
  split <;> rfl

/-- A field that is the attempts of neither copy. -/
theorem apart_attemptsF {f : Fld} (ha : f.apart F.GlbBoot.attemptsA = true) (hb : f.apart F.GlbBoot.attemptsB = true) (c : Nat) :
    f.apart (attemptsF c) = true := by
  unfold attemptsF
  split
  · exact ha
  · exact hb

theorem attemptsF_apart {f : Fld} (ha : F.GlbBoot.attemptsA.apart f = true) (hb : F.GlbBoot.attemptsB.apart f = true) (c : Nat) :
    (attemptsF c).apart f = true := by
  unfold attemptsF
  split
  · exact ha
  · exact hb

/-- The attempts of the two copies are two fields. -/
theorem attemptsF_apart_other (c : Nat) : (attemptsF (1 - c)).apart (attemptsF c) = true := by
  rcases c with _ | c
  · rfl
  · simp only [Nat.succ_ne_zero, attemptsF, if_false, show 1 - (c + 1) = 0 by omega, if_true]
    rfl

/-- STAGE and the ms that it stands at share no bit with a field: it is read as before. -/
theorem State.fld_setStage_apart (n : Nat) {f : Fld} (hstage : f.apart F.GlbBoot.stage = true)
    (hms : f.apart F.GlbBoot.elapsedMs = true) : (s.setStage n).fld R.glbBoot f = s.fld R.glbBoot f := by
  rw [State.setStage, State.fld_setFld_apart _ _ _ _ _ hms, State.fld_setFld_apart _ _ _ _ _ hstage]

theorem State.keepsRegs_setStage (n : Nat) : s.keepsRegs (s.setStage n) [R.glbBoot] := fun off h =>
  s.rd_setStage n off (by simpa using h)

/-- A failure of the start writes FAIL alone of GLB_BOOT. -/
theorem State.fld_bootFail_apart (code : Nat) {f : Fld} (hf : f.apart F.GlbBoot.fail = true) :
    (s.bootFail code).fld R.glbBoot f = s.fld R.glbBoot f := by
  rw [State.bootFail, State.fld_of_rd (State.rd_keeperRec _ _ _ _ _ (by decide)), State.fld_setFld_apart _ _ _ _ _ hf]

/-! ## Supervisors that boot (R371) -/

theorem glbSvStat_ne_glbBoot (v : Nat) (hv : v < 2) : R.glbSvStat v ≠ R.glbBoot := by
  simp only [R.glbSvStat, R.glbBoot]
  omega

theorem State.keepsRegs_svBoot (v c : Nat) : s.keepsRegs (s.svBoot v c) [R.glbSvStat v] := by
  intro off h
  have hoff : off ≠ R.glbSvStat v := by simpa using h
  unfold State.svBoot
  split
  · rfl
  · dsimp only
    rw [State.rd_of_regs (State.withSup_regs _ _), State.count, State.countBy, State.rd_setFld_ne _ _ _ _ _ hoff,
      State.rd_setFld_ne _ _ _ _ _ hoff, State.setSvState, State.rd_setFld_ne _ _ _ _ _ hoff]

theorem State.copy_bootCopy (c : Nat) : (s.bootCopy c).boot.copy = c := rfl

theorem State.fallback_bootCopy (c : Nat) : (s.bootCopy c).boot.fallback = s.boot.fallback := rfl

/-- Both supervisors boot again. -/
def State.bothBoot (c : Nat) : State := (s.svBoot 0 c).svBoot 1 c

theorem State.bothBoot_touches (c : Nat) : Touches 0x108 s (s.bothBoot c) :=
  (State.svBoot_touches _ _ _).step (by decide) (s.svBoot_touches 0 c)

theorem State.stage_bothBoot (c : Nat) : (s.bothBoot c).stage = s.stage := by
  refine State.fld_of_rd ?_ _
  rw [State.bothBoot, State.keepsRegs_svBoot _ 1 c _ (by decide), State.keepsRegs_svBoot _ 0 c _ (by decide)]

/-! ## Confirmation (R404, R407) -/

/-- A boot that firmware has confirmed. -/
def State.bootConfirmed : State :=
  (s.setFld R.glbBoot F.GlbBoot.confirmed 1).setFld R.glbBoot (attemptsF (s.fld R.glbBoot F.GlbBoot.copy)) 0

theorem State.confirmed_bootConfirmed : s.bootConfirmed.fld R.glbBoot F.GlbBoot.confirmed = 1 := by
  rw [State.bootConfirmed, State.fld_setFld_apart _ _ _ _ _ (apart_attemptsF rfl rfl _), State.fld_setFld_fit _ _ _ _ rfl (by decide)]

theorem State.attempts_bootConfirmed :
    s.bootConfirmed.fld R.glbBoot (attemptsF (s.fld R.glbBoot F.GlbBoot.copy)) = 0 := by
  rw [State.bootConfirmed, State.fld_setFld_fit _ _ _ _ (attemptsF_ok _) (Nat.two_pow_pos _)]

theorem State.otherAttempts_bootConfirmed :
    s.bootConfirmed.fld R.glbBoot (attemptsF (1 - s.fld R.glbBoot F.GlbBoot.copy))
      = s.fld R.glbBoot (attemptsF (1 - s.fld R.glbBoot F.GlbBoot.copy)) := by
  rw [State.bootConfirmed, State.fld_setFld_apart _ _ _ _ _ (attemptsF_apart_other _),
    State.fld_setFld_apart _ _ _ _ _ (attemptsF_apart rfl rfl _)]

theorem State.keepsRegs_bootConfirmed : s.keepsRegs s.bootConfirmed [R.glbBoot] :=
  (s.keepsRegs_setFld _ _ _).trans (State.keepsRegs_setFld _ _ _ _)

theorem State.bootConfirmed_touches : Touches 0x8 s s.bootConfirmed :=
  (State.setFld_touches _ _ _ _).step (by decide) (s.setFld_touches _ _ _)

/-! ## A boot that is not confirmed (R404, R408) -/

/-- The attempts of the copy that runs, counted. -/
def State.attemptCounted : State := s.count R.glbBoot (attemptsF s.boot.copy)

/-- A start that is not confirmed in time: an attempt of its copy and a FAIL code, 9 when firmware had run (log 35). -/
def State.unconfirmed : State :=
  s.attemptCounted.bootFail
    (if [3, 4].contains (s.attemptCounted.svState 0) || [3, 4].contains (s.attemptCounted.svState 1) then 9 else 7)

theorem State.unconfirmed_touches : Touches 0x4001208 s s.unconfirmed :=
  (State.bootFail_touches _ _).step (by decide) ((s.count_touches _ _).mono (by decide))

theorem State.stage_unconfirmed : s.unconfirmed.stage = s.stage := by
  rw [State.stage, State.unconfirmed, State.fld_bootFail_apart _ _ rfl, State.attemptCounted,
    State.fld_count_apart _ _ _ _ (apart_attemptsF rfl rfl _), State.stage]

theorem State.attempts_unconfirmed :
    s.unconfirmed.fld R.glbBoot (attemptsF s.boot.copy) = min 15 (s.fld R.glbBoot (attemptsF s.boot.copy) + 1) := by
  rw [State.unconfirmed, State.fld_bootFail_apart _ _ (attemptsF_apart rfl rfl _), State.attemptCounted,
    State.fld_count_same _ _ _ (attemptsF_ok _), attemptsF_wid, Nat.min_comm]
  rfl

theorem State.fail_unconfirmed :
    s.unconfirmed.fld R.glbBoot F.GlbBoot.fail = 7 ∨ s.unconfirmed.fld R.glbBoot F.GlbBoot.fail = 9 := by
  unfold State.unconfirmed
  split
  · exact .inr (State.fail_bootFail _ 9 (by decide))
  · exact .inl (State.fail_bootFail _ 7 (by decide))

variable {s}

/-- Whether a copy's record is valid stands in the flash and the fuses. -/
theorem State.otherCopy_of_same {t : State} (hside : t.side = s.side) (hfuses : t.fuses = s.fuses) (hboot : t.boot = s.boot) :
    t.otherCopy = s.otherCopy := by
  have hvalid (c : Nat) : t.bootValid c = s.bootValid c := by
    unfold State.bootValid State.bootRec State.flashRead
    rw [hside, hfuses]
  rw [State.otherCopy, State.otherCopy, hvalid, hboot]

theorem State.otherCopy_unconfirmed : s.unconfirmed.otherCopy = s.otherCopy :=
  State.otherCopy_of_same (s.unconfirmed_touches.same 10 rfl) (s.unconfirmed_touches.same 0 rfl) (s.unconfirmed_touches.same 11 rfl)

theorem State.otherCopy_lt {o : Nat} (h : s.otherCopy = some o) : o < 2 := by
  dsimp only [State.otherCopy] at h
  split at h
  · cases h
    omega
  · cases h

/-- The supervisors boot the other copy, which a start does once. -/
def State.rebooted (s : State) (o : Nat) : State :=
  ({ s.unconfirmed with boot := { s.unconfirmed.boot with fallback := true, mainDone := false } } : State).bothBoot o

theorem State.stage_rebooted (o : Nat) : (s.rebooted o).stage = s.stage :=
  (State.stage_bothBoot _ o).trans s.stage_unconfirmed

/-- The start goes on with the other copy. -/
def State.fallenBack (s : State) (o : Nat) : State := (s.rebooted o).bootCopy o

theorem State.stage_fallenBack (o : Nat) : (s.fallenBack o).stage = 2 := State.stage_setStage _ 2 (by decide)

/-- The boot of the other copy, as its record in the state shows it. -/
theorem State.boot_fallenBack (o : Nat) : (s.fallenBack o).boot.copy = o ∧ (s.fallenBack o).boot.fallback = true := by
  have hfallback : (s.rebooted o).boot.fallback = true := by rw [State.rebooted, (State.bothBoot_touches _ o).same 11 rfl]
  exact ⟨(s.rebooted o).copy_bootCopy o, ((s.rebooted o).fallback_bootCopy o).trans hfallback⟩

theorem State.copy_fallenBack {o : Nat} (h : o < 2) : (s.fallenBack o).fld R.glbBoot F.GlbBoot.copy = o := by
  rw [State.fallenBack, State.bootCopy, State.fld_setStage_apart _ _ rfl rfl]
  exact State.fld_setFld_fit _ _ _ _ rfl h

section
variable (hrun : s.running = true) (hconf : s.fld R.glbBoot F.GlbBoot.confirmed = 0) (hdue : 2000000000 ≤ s.tb.tick - s.boot.stepped)
  (hlo : 2 ≤ s.stage) (hhi : s.stage < 8)
include hrun hconf hdue hlo hhi

/-- A start that is not confirmed in time goes on as the copies that are left allow. -/
theorem exec_bootConfirmTimeout_due :
    exec .bootConfirmTimeout s
      = match (if s.boot.fallback then none else s.otherCopy) with
        | some o => .next (s.fallenBack o)
        | none => .next (s.unconfirmed.setStage 9) := by
  have hwaits : ¬ ((!s.running || decide (s.fld R.glbBoot F.GlbBoot.confirmed = 1)
      || decide (s.tb.tick - s.boot.stepped < 2000000000) || decide (s.stage < 2) || decide (s.stage = 9)) = true) := by
    simp only [hrun, hconf, Bool.not_true, Bool.false_or, Bool.or_eq_true, decide_eq_true_eq]
    omega
  have hnext : (if s.unconfirmed.boot.fallback then none else s.unconfirmed.otherCopy)
      = if s.boot.fallback then none else s.otherCopy := by
    rw [State.otherCopy_unconfirmed, s.unconfirmed_touches.same 11 rfl]
  have hexec : exec .bootConfirmTimeout s
      = match (if s.unconfirmed.boot.fallback then none else s.unconfirmed.otherCopy) with
        | some o =>
          .next (if (s.rebooted o).stage = 8 then
            { ((s.rebooted o).setFld R.glbBoot F.GlbBoot.copy o) with
              boot := { (s.rebooted o).boot with copy := o, mainDone := true, tried := (s.rebooted o).boot.tried ++ [o] } }
            else s.fallenBack o)
        | none => .next (if s.unconfirmed.stage = 8 then s.unconfirmed else s.unconfirmed.setStage 9) := by
    change execBootConfirmTimeout s = _
    rw [execBootConfirmTimeout, if_neg hwaits]
    rfl
  rw [hexec, hnext]
  split
  next o _ => rw [State.stage_rebooted, if_neg (by omega)]
  next => rw [State.stage_unconfirmed, if_neg (by omega)]

theorem exec_bootConfirmTimeout_halts (hnone : s.boot.fallback = true ∨ s.otherCopy = none) :
    exec .bootConfirmTimeout s = .next (s.unconfirmed.setStage 9) := by
  have hnext : (if s.boot.fallback then none else s.otherCopy) = none := by
    rcases hnone with h | h <;> simp [h]
  rw [exec_bootConfirmTimeout_due hrun hconf hdue hlo hhi, hnext]

theorem exec_bootConfirmTimeout_falls_back {o : Nat} (hfirst : s.boot.fallback = false) (ho : s.otherCopy = some o) :
    exec .bootConfirmTimeout s = .next (s.fallenBack o) := by
  rw [exec_bootConfirmTimeout_due hrun hconf hdue hlo hhi, hfirst, ho]
  rfl

end

theorem exec_bootConfirm_applied {sv : Sv} {term : Option Nat} (hw : s.judge (.fw sv term) s.glbDie = .applied) :
    exec (.bootConfirm (.fw sv term)) s = .next s.bootConfirmed :=
  congrArg Host.Outcome.next (State.fenced_of_applied hw _ _)

end

/-- Settles O11: the fields of GLB_BOOT, and the copy that is left. -/
theorem bootConfirmation : Obligations.BootConfirmation := by
  refine ⟨?_, ?_, ?_⟩
  · intro sv term s hw
    exact ⟨_, exec_bootConfirm_applied hw, s.confirmed_bootConfirmed, s.attempts_bootConfirmed, s.otherAttempts_bootConfirmed,
      s.keepsRegs_bootConfirmed, s.bootConfirmed_touches.keeps (Piece.testBit_of_outside rfl)⟩
  · intro s hrun hconf hdue hlo hhi hfall
    refine ⟨_, exec_bootConfirmTimeout_halts hrun hconf hdue hlo hhi (.inl hfall), State.stage_setStage _ 9 (by decide), ?_, ?_⟩
    · rw [State.fld_setStage_apart _ _ (attemptsF_apart rfl rfl _) (attemptsF_apart rfl rfl _), State.attempts_unconfirmed]
    · rw [State.fld_fail_setStage]
      exact s.fail_unconfirmed
  · intro s hrun hconf hdue hlo hhi hfirst
    cases hother : s.otherCopy with
    | none =>
      refine ⟨_, exec_bootConfirmTimeout_halts hrun hconf hdue hlo hhi (.inr hother), fun o ho => (by cases ho), fun _ => ?_⟩
      exact State.stage_setStage _ 9 (by decide)
    | some o =>
      refine ⟨_, exec_bootConfirmTimeout_falls_back hrun hconf hdue hlo hhi hfirst hother, fun o' ho => ?_, fun h => (by cases h)⟩
      cases ho
      obtain ⟨hcopy, hfallback⟩ := s.boot_fallenBack o
      exact ⟨s.stage_fallenBack o, hcopy, hfallback, State.copy_fallenBack (State.otherCopy_lt hother)⟩

end Sys2Proof.Machine
end

section
/-! The steps of the start (R404, R405): the boot stage, the tiers that trained and the main firmware: O10. -/

namespace Sys2Proof.Machine

/-! ## Memory that fails its training (R408) -/

theorem glbPd_ne_errStat {n : Nat} (hn : n < 536) : R.glbPd n ≠ R.errStat := by
  simp only [R.glbPd, R.errStat]
  omega

theorem glbBoot_ne_glbPd (n : Nat) : R.glbBoot ≠ R.glbPd n := by
  simp only [R.glbPd, R.glbBoot]
  omega

theorem glbPd_inj {n m : Nat} (h : n ≠ m) : R.glbPd n ≠ R.glbPd m := by
  simp only [R.glbPd]
  omega

section
variable (s : State)

theorem State.rd_untrained {n off : Nat} (hdom : off ≠ R.glbPd n) (hlog : off ≠ R.errStat) : (s.untrained n).rd off = s.rd off := by
  rw [State.untrained, State.rd_keeperRec _ _ _ _ _ hlog, State.rd_of_regs (State.setWake_regs _ _ _), State.setDom,
    State.rd_setFld_ne _ _ _ _ _ hdom]

theorem State.domState_untrained_same {n : Nat} (hn : n < 536) : (s.untrained n).domState n = 5 := by
  rw [State.domState, State.untrained, State.fld_of_rd (State.rd_keeperRec _ _ _ _ _ (glbPd_ne_errStat hn)),
    State.fld_of_rd (State.rd_of_regs (State.setWake_regs _ _ _) _)]
  exact State.domState_setDom _ _ _ (by decide)

/-- A domain that is FAILED stays so. -/
theorem State.failed_untrained {n m : Nat} (hn : n < 536) (h : s.domState n = 5) : (s.untrained m).domState n = 5 := by
  rcases eq_or_ne n m with rfl | hne
  · exact s.domState_untrained_same hn
  · rw [State.domState, State.fld_of_rd (s.rd_untrained (glbPd_inj hne) (glbPd_ne_errStat hn))]
    exact h

/-- The stacks or channels of a list, by their domains, are absent for this start. -/
def State.allUntrained (dom : Nat → Nat) (l : List Nat) : State := l.foldl (fun s i => s.untrained (dom i)) s

theorem State.allUntrained_touches (dom : Nat → Nat) (l : List Nat) : Touches 0x4001248 s (s.allUntrained dom l) :=
  Touches.foldl (fun s i => s.untrained_touches (dom i)) (Touches.refl _ _)

theorem State.domState_allUntrained {dom : Nat → Nat} {l : List Nat} {i : Nat} (hi : i ∈ l) (hdom : dom i < 536) :
    (s.allUntrained dom l).domState (dom i) = 5 := by
  have hsame (t : State) : (t.untrained (dom i)).domState (dom i) = 5 := t.domState_untrained_same hdom
  have hkeep (t : State) (j : Nat) (_ : j ∈ l) (ht : t.domState (dom i) = 5) : (t.untrained (dom j)).domState (dom i) = 5 :=
    t.failed_untrained hdom ht
  unfold State.allUntrained
  exact foldl_of_mem (P := fun t : State => t.domState (dom i) = 5) (f := fun t j => t.untrained (dom j)) (x := i) hsame hkeep hi s

theorem State.stage_allUntrained (dom : Nat → Nat) (l : List Nat) : (s.allUntrained dom l).stage = s.stage := by
  refine List.foldlRecOn (motive := fun t : State => t.stage = s.stage) l _ rfl fun t ht i _ => ?_
  rw [State.stage, State.fld_of_rd (t.rd_untrained (glbBoot_ne_glbPd _) (by decide))]
  exact ht

end

/-! ## The boot stage (R404) -/

section
variable {s : State}

/-- The image of the boot stage, as the record of the running copy places it. -/
def State.bootStage (s : State) : Blob := s.flashRead s.boot.copy ((s.bootRec s.boot.copy).le 16 4) ((s.bootRec s.boot.copy).le 20 4)

/-- The boot stage in the supervisors' SRAM, and both supervisors released. -/
def State.bootStageRun (s : State) : State :=
  ((({ s with boot := { s.boot with sram := s.bootStage } } : State).releaseSv 0).releaseSv 1).setStage (if s.boot.nearDone then 4 else 3)

theorem exec_bootStageLoaded (hstage : s.stage = 2) (hhash : sha384 s.bootStage.bytes = ((s.bootRec s.boot.copy).slice 40 48).bytes) :
    exec .bootStageLoaded s = .next s.bootStageRun := by
  change execBootStageLoaded s = _
  rw [execBootStageLoaded, if_neg (not_not_intro hstage)]
  exact if_pos hhash

theorem State.bootStageRun_released (s : State) : Touches 0x8 { s with boot := { s.boot with sram := s.bootStage } } s.bootStageRun :=
  (State.setStage_touches _ _).step (by decide) ((State.releaseSv_touches _ _).step (by decide) (State.releaseSv_touches _ _))

theorem State.bootStageRun_touches (s : State) : Touches 0x808 s s.bootStageRun :=
  s.bootStageRun_released.step (by decide) ((Touches.set_boot _ _).mono (by decide))

theorem State.stage_bootStageRun (s : State) : s.bootStageRun.stage = if s.boot.nearDone then 4 else 3 :=
  State.stage_setStage _ _ (by split <;> decide)

/-! ## The tiers (R405 step 4) -/

/-- The near tier is done, with the stacks that did not train absent, and n the lowest that did. -/
def State.nearTrained (s : State) (ok : BitVec 8) (n : Nat) : State :=
  let u := s.allUntrained domNear (s.stacks.filter (fun i => !bitOf ok.toNat i))
  ({ u with boot := { u.boot with nearDone := true, mainStack := some n } } : State).setStage 4

theorem State.domState_nearTrained {ok : BitVec 8} {n i : Nat} (hi : i ∈ s.stacks) (hbad : bitOf ok.toNat i = false) :
    (s.nearTrained ok n).domState (domNear i) = 5 := by
  have hmem : i ∈ s.stacks.filter (fun i => !bitOf ok.toNat i) := by simp [hi, hbad]
  have hlt : i < 8 := List.mem_range.mp (List.mem_of_mem_filter hi)
  have hdom : domNear i < 536 := by
    simp only [domNear]
    omega
  rw [State.domState, State.nearTrained, State.fld_of_rd (State.rd_setStage _ _ _ (glbBoot_ne_glbPd _).symm)]
  exact s.domState_allUntrained hmem hdom

theorem exec_nearTierTrained {ok : BitVec 8} {n : Nat} (hstage : s.stage = 3) (hnear : s.boot.nearDone = false)
    (hgood : (s.stacks.filter (fun i => bitOf ok.toNat i)).head? = some n) :
    exec (.nearTierTrained ok) s = .next (s.nearTrained ok n) := by
  obtain ⟨rest, hrest⟩ := List.head?_eq_some_iff.mp hgood
  have hwaits : ¬ ((decide (s.stage ≠ 3) || s.boot.nearDone) = true) := by simp [hstage, hnear]
  change execNearTierTrained ok s = _
  rw [execNearTierTrained, if_neg hwaits]
  simp only [hrest]
  rfl

/-- The far tier is done, with the channels that did not train absent. -/
def State.farTrained (s : State) (ok : BitVec 12) : State :=
  let u := s.allUntrained (fun i => domFar (i / 3) (i % 3)) ((List.range 12).filter (fun i => !bitOf ok.toNat i))
  { u with boot := { u.boot with farDone := true } }

theorem State.boot_farTrained (ok : BitVec 12) : (s.farTrained ok).boot = { s.boot with farDone := true } := by
  rw [State.farTrained, (s.allUntrained_touches _ _).same 11 rfl]

theorem State.stage_farTrained (ok : BitVec 12) : (s.farTrained ok).stage = s.stage := s.stage_allUntrained _ _

theorem State.domState_farTrained {ok : BitVec 12} {i : Nat} (hi : i < 12) (hbad : bitOf ok.toNat i = false) :
    (s.farTrained ok).domState (domFar (i / 3) (i % 3)) = 5 := by
  have hmem : i ∈ (List.range 12).filter (fun i => !bitOf ok.toNat i) := by simp [hi, hbad]
  have hdom : domFar (i / 3) (i % 3) < 536 := by
    simp only [domFar]
    omega
  exact s.domState_allUntrained (dom := fun i => domFar (i / 3) (i % 3)) hmem hdom

theorem exec_farTierTrained {ok : BitVec 12} (hstage : 3 ≤ s.stage) (hfar : s.boot.farDone = false) :
    exec (.farTierTrained ok) s
      = .next (if (decide (s.stage = 6) && decide ((s.farTrained ok).imgState = 0) && s.boot.nearDone) = true
        then (s.farTrained ok).nextFlashImage [] else s.farTrained ok) := by
  have hwaits : ¬ ((s.boot.farDone || decide (s.stage < 3)) = true) := by
    simp only [hfar, Bool.false_or, decide_eq_true_eq]
    omega
  have hnear : (s.farTrained ok).boot.nearDone = s.boot.nearDone := by rw [State.boot_farTrained]
  rw [← s.stage_farTrained ok, ← hnear]
  change execFarTierTrained ok s = _
  rw [execFarTierTrained, if_neg hwaits]
  rfl

/-! ## The main firmware (R405 step 5) -/

/-- The main firmware, as the record of the running copy places it. -/
def State.mainImage (s : State) : Blob := s.flashRead s.boot.copy ((s.bootRec s.boot.copy).le 24 4) ((s.bootRec s.boot.copy).le 28 4)

/-- The main firmware stands in stack n, and the supervisors may campaign. -/
def State.mainLoaded (s : State) (n : Nat) : State :=
  ({ s.nearWrite ((s.stacks.filter (fun i => decide (i < n))).length * 2 ^ 36) s.mainImage with
    boot := { s.boot with mainDone := true } } : State).setStage 5

theorem exec_mainFirmwareLoaded {n : Nat} (hstage : s.stage = 4) (hstack : s.boot.mainStack = some n)
    (hhash : sha384 s.mainImage.bytes = ((s.bootRec s.boot.copy).slice 88 48).bytes) :
    exec .mainFirmwareLoaded s = .next (s.mainLoaded n) := by
  change execMainFirmwareLoaded s = _
  rw [execMainFirmwareLoaded, if_neg (not_not_intro hstage), hstack]
  exact if_pos hhash

theorem State.mainLoaded_touches (s : State) (n : Nat) : Touches 0xa00808 s (s.mainLoaded n) :=
  (State.setStage_touches _ _).step (by decide)
    ((Touches.set_boot _ _).step (by decide) ((s.nearWrite_touches _ _).mono (by decide)))

end

/-- Settles O10: the stages that each step writes, and the domains that a failed training leaves. -/
theorem startSteps : Obligations.StartSteps := by
  refine ⟨?_, ?_, ?_, ?_, ?_⟩
  · intro s hstage hhash
    have hreleased := s.bootStageRun_released
    exact ⟨_, exec_bootStageLoaded hstage hhash, s.stage_bootStageRun, hreleased.same 11 rfl,
      s.bootStageRun_touches.keeps (Piece.testBit_of_outside rfl)⟩
  · intro s ok n hstage hnear hgood
    exact ⟨_, exec_nearTierTrained hstage hnear hgood, congrArg BootSt.nearDone ((State.setStage_touches _ _).same 11 rfl),
      congrArg BootSt.mainStack ((State.setStage_touches _ _).same 11 rfl), State.stage_setStage _ 4 (by decide),
      fun i hi hbad => State.domState_nearTrained hi hbad⟩
  · intro s ok hge hne hfar
    refine ⟨s.farTrained ok, ?_, State.boot_farTrained ok, State.stage_farTrained ok,
      fun i hi hbad => State.domState_farTrained hi hbad⟩
    rw [exec_farTierTrained hge hfar, if_neg (by simp [hne])]
  · intro s ok hstage hfar
    refine ⟨_, exec_farTierTrained (by omega) hfar, ?_⟩
    split
    · rw [(State.nextFlashImage_touches _ _).same 11 rfl, State.boot_farTrained]
    · rw [State.boot_farTrained]
  · intro s n hstage hstack hhash
    exact ⟨_, exec_mainFirmwareLoaded hstage hstack hhash, State.stage_setStage _ 5 (by decide),
      (State.setStage_touches _ _).same 11 rfl, (State.setStage_touches _ _).same 21 rfl,
      (s.mainLoaded_touches n).keeps (Piece.testBit_of_outside rfl)⟩

end Sys2Proof.Machine
end

section
/-! COLD_RST_N asserted (R402, R414): the trip counts of the fuses are written back to GLB_THERM, and one of a die that is not there
lands on ERR_STAT: O8 does not hold on every state. -/

namespace Sys2Proof.Machine

section
variable (s : State)

/-- The trip counts of the fuses, written to GLB_THERM. -/
def State.tripsTold : State :=
  (s.fuses.trips.map Prod.fst).foldl (fun (s : State) d =>
    s.setFld (R.glbTherm d) F.GlbTherm.trips (s.fuses.trips.get (fun _ => 0) d)) s

/-- The domains that the fuses leave out, written to GLB_PD. -/
def State.absentTold : State := (List.range 536).foldl (fun (s : State) n => if s.domAbsent n then s.setDom n 0xF else s) s

/-- What a cold reset writes last: trip counts, then absent domains, by the fuses, which it leaves. -/
theorem State.coldReset_told : ∃ u : State, u.fuses = s.fuses ∧ s.coldReset = u.tripsTold.absentTold := by
  unfold State.coldReset
  extract_lets r keep pins err side blank kept countedA countedB fused _
  have hkept : Touches 0x8 blank kept := (State.wr_touches _ _ _).step (by decide) (State.wr_touches _ _ _)
  have hcounted : Touches 0x8 blank countedB :=
    (State.setFld_touches _ _ _ _).step (by decide) ((State.setFld_touches _ _ _ _).step (by decide) hkept)
  have hfused : Touches 0x8 blank fused :=
    Touches.foldl (fun u d => State.fusedPtd_touches u d) ((State.fusedLathes_touches _).step (by decide) hcounted)
  exact ⟨fused, hfused.same 0 rfl, rfl⟩

theorem State.rd_absentTold {off : Nat} (h : ∀ n < 536, off ≠ R.glbPd n) : s.absentTold.rd off = s.rd off := by
  refine List.foldlRecOn (motive := fun t : State => t.rd off = s.rd off) _ _ rfl fun t ht n hn => ?_
  split
  · rw [State.setDom, State.rd_setFld_ne _ _ _ _ _ (h n (List.mem_range.mp hn))]
    exact ht
  · exact ht

/-- The one count that the fuses hold is written, wherever GLB_THERM of its die lies. -/
theorem State.trips_tripsTold {d n : Nat} (h : s.fuses.trips = [(d, n)]) :
    s.tripsTold.fld (R.glbTherm d) F.GlbTherm.trips = n % 16 := by
  have htold : s.tripsTold = s.setFld (R.glbTherm d) F.GlbTherm.trips n := by
    simp [State.tripsTold, h, Tbl.get]
  rw [htold, State.fld_setFld_same _ _ _ _ rfl]
  rfl

theorem glbTherm_ne_glbPd (d : Nat) {n : Nat} (hn : n < 536) : R.glbTherm d ≠ R.glbPd n := by
  simp only [R.glbTherm, R.glbPd]
  omega

theorem State.trips_coldReset {d n : Nat} (h : s.fuses.trips = [(d, n)]) :
    s.coldReset.fld (R.glbTherm d) F.GlbTherm.trips = n % 16 := by
  obtain ⟨u, hfuses, htold⟩ := s.coldReset_told
  rw [htold, State.fld_of_rd (State.rd_absentTold _ fun m hm => glbTherm_ne_glbPd d hm)]
  exact u.trips_tripsTold (by rw [hfuses, h])

/-- The state that a pulse of COLD_RST_N resets. -/
def State.pulsed : State := { s with pins := { s.pins with coldRst := true, hold := .none } }

theorem exec_coldRstNAssert_resets {ns : Nat} (hns : 10000 ≤ ns) (htrip : s.pins.hold ≠ .trip) (hvaux : s.pins.hold ≠ .vaux) :
    exec (.coldRstNAssert ns) s = .next s.pulsed.coldReset := by
  have hheld : ¬ ((decide (s.pins.hold = .trip) || decide (s.pins.hold = .vaux)) = true) := by simp [htrip, hvaux]
  change execColdRstNAssert ns s = _
  rw [execColdRstNAssert, if_neg (by omega), if_neg (by omega)]
  exact if_neg hheld

end

/-- What holds where a command completes holds of the state that it completes in. -/
theorem completes.of_exec {c : Instr} {s t : State} {P : State → Prop} (h : completes c s P) (hexec : exec c s = .next t) : P t := by
  obtain ⟨u, hu, hP⟩ := h
  rw [hexec] at hu
  cases hu
  exact hP

/-- A part out of the reset state whose fuses count one trip of "die" 0x3FF400: GLB_THERM of that number is ERR_STAT. -/
def strayTrip : State := { State.reset with fuses := { State.reset.fuses with trips := [(0x3FF400, 1)] } }

/-- Refutes O8: the statement quantifies over every state, and where the fuses count a trip of the "die" 0x3FF400 (which no part has) the
reset writes that count into ERR_STAT, whose word then is not what it was. -/
theorem not_coldResetAsserts : ¬ Obligations.ColdResetAsserts := by
  intro h
  obtain ⟨hreset, -, -⟩ := h
  have hpost := (hreset 10000 strayTrip le_rfl (by decide) (by decide)).of_exec
    (exec_coldRstNAssert_resets strayTrip le_rfl (by decide) (by decide))
  obtain ⟨-, -, -, -, -, -, -, -, -, -, -, -, -, -, -, -, -, -, herrStat, -⟩ := hpost
  have hwritten : strayTrip.pulsed.coldReset.fld R.errStat F.GlbTherm.trips = 1 % 16 :=
    strayTrip.pulsed.trips_coldReset (d := 0x3FF400) rfl
  have hbefore : strayTrip.fld R.errStat F.GlbTherm.trips = 0 := by decide
  rw [State.fld_of_rd herrStat, hbefore] at hwritten
  exact absurd hwritten (by decide)

end Sys2Proof.Machine
end

section
/-! The lease (R361 to R364, R366): what the voters answer, who leads, and what the fences hear of it: O59. -/

namespace Sys2Proof.Machine

/-! ## Voters and fences -/

section
variable {s t : State}

theorem State.voter_of_voters (h : t.sup.voters = s.sup.voters) (v : Nat) : t.voter v = s.voter v := by
  rw [State.voter, State.voter, h]

theorem State.fence_of_fences (h : t.sup.fences = s.sup.fences) (d : Nat) : t.fence d = s.fence d := by
  rw [State.fence, State.fence, h]

theorem State.dieNow_of_tb (h : t.tb = s.tb) (d : Nat) : t.dieNow d = s.dieNow d := by
  rw [State.dieNow, State.dieNow, h]

theorem State.voterDie_of_vbridge (h : t.sup.vbridge = s.sup.vbridge) (v : Nat) : t.voterDie v = s.voterDie v := by
  rw [State.voterDie, State.voterDie, h]

theorem State.reaches_of_same (hdies : t.dies = s.dies) (hseam : t.sup.seam = s.sup.seam) (a b : Nat) :
    t.reaches a b = s.reaches a b := by
  rw [State.reaches, State.reaches, State.die_of_dies hdies, State.die_of_dies hdies, hseam]

theorem State.noticeTurn_of_tb (h : t.tb = s.tb) : t.noticeTurn = s.noticeTurn := by
  rw [State.noticeTurn, State.noticeTurn, State.turnTick, State.turnTick, h]

theorem State.leader_of_same (hvoters : t.sup.voters = s.sup.voters) (htb : t.tb = s.tb) : t.leader = s.leader := by
  have hvoter : t.voter = s.voter := funext fun v => State.voter_of_voters hvoters v
  have hbackers : t.backers = s.backers := by
    funext v
    rw [State.backers, State.backers, hvoter]
  have hmajority : t.majority = s.majority := by rw [State.majority, State.majority, hbackers, hvoter]
  rw [State.leader, State.leader, hmajority, htb]

variable (s)

theorem State.voter_setVoter_same (v : Nat) (f : Voter → Voter) : (s.setVoter v f).voter v = f (s.voter v) :=
  Tbl.get_modify_same _ _ _ _

theorem State.voter_setVoter_ne {v u : Nat} (f : Voter → Voter) (h : u ≠ v) : (s.setVoter v f).voter u = s.voter u :=
  (Tbl.get_modify _ _ _ _ _).trans (if_neg h)

theorem State.fence_setFence_ne {d e : Nat} (f : Fence → Fence) (h : e ≠ d) : (s.setFence d f).fence e = s.fence e :=
  (Tbl.get_modify _ _ _ _ _).trans (if_neg h)

end

/-! ## Requests to the voters (R362) -/

section
variable (s : State) (sv term : Nat) (ok : Voter → Nat → Bool) (grant : Voter → Nat → Voter)

/-- Whether a voter grants a request now. -/
def State.grants (v : Nat) : Bool := ok (s.voter v) (s.dieNow (s.voterDie v))

/-- A voter's vote after its answer. -/
def State.answered (v : Nat) : Voter := if s.grants ok v then grant (s.voter v) (s.dieNow (s.voterDie v)) else s.voter v

variable {s} in
theorem State.grants_of_same {t : State} {v : Nat} (hvoter : t.voter v = s.voter v) (htb : t.tb = s.tb) :
    t.grants ok v = s.grants ok v := by
  rw [State.grants, State.grants, State.dieNow, State.dieNow, hvoter, htb]

variable {s} in
theorem State.answered_of_same {t : State} {v : Nat} (hvoter : t.voter v = s.voter v) (htb : t.tb = s.tb) :
    t.answered ok grant v = s.answered ok grant v := by
  rw [State.answered, State.answered, State.grants_of_same ok hvoter htb, State.dieNow, State.dieNow, hvoter, htb]

theorem State.tb_askVoter (v : Nat) : (s.askVoter sv term ok grant v).tb = s.tb := (s.askVoter_touches _ _ _ _ _).same 2 rfl

theorem State.voter_askVoter_same (v : Nat) : (s.askVoter sv term ok grant v).voter v = s.answered ok grant v := by
  change (if s.grants ok v then s.setVoter v _ else s).voter v = _
  rw [State.answered]
  split
  · exact s.voter_setVoter_same _ _
  · rfl

theorem State.voter_askVoter_ne {v u : Nat} (h : u ≠ v) : (s.askVoter sv term ok grant v).voter u = s.voter u := by
  change (if s.grants ok v then s.setVoter v _ else s).voter u = _
  split
  · exact s.voter_setVoter_ne _ h
  · rfl

theorem State.outs_askVoter (v : Nat) :
    (s.askVoter sv term ok grant v).outs = s.outs ++ [.voteReply v sv term (s.grants ok v)] := by
  change (if s.grants ok v then s.setVoter v _ else s).outs ++ [_] = _
  split <;> rfl

theorem State.sup_askVoter (v : Nat) : ∃ vs, (s.askVoter sv term ok grant v).sup = { s.sup with voters := vs } := by
  change ∃ vs, (if s.grants ok v then s.setVoter v _ else s).sup = _
  split
  · exact ⟨_, rfl⟩
  · exact ⟨s.sup.voters, rfl⟩

variable {sv term ok grant}

/-- A request that comes to several voters: each answers it once, and the others do not hear of it. -/
theorem State.foldl_askVoter {l : List Nat} (hl : l.Nodup) :
    (∀ v, v ∈ l → (l.foldl (fun s v => s.askVoter sv term ok grant v) s).voter v = s.answered ok grant v)
      ∧ (∀ v, v ∉ l → (l.foldl (fun s v => s.askVoter sv term ok grant v) s).voter v = s.voter v)
      ∧ (l.foldl (fun s v => s.askVoter sv term ok grant v) s).outs
        = s.outs ++ l.map (fun v => .voteReply v sv term (s.grants ok v)) := by
  induction l generalizing s with
  | nil => exact ⟨fun v h => absurd h List.not_mem_nil, fun v _ => rfl, (List.append_nil _).symm⟩
  | cons u l ih =>
    obtain ⟨hu, hnodup⟩ := List.nodup_cons.mp hl
    obtain ⟨hin, hout, houts⟩ := ih (s.askVoter sv term ok grant u) hnodup
    have hother {v : Nat} (h : v ∈ l) : (s.askVoter sv term ok grant u).voter v = s.voter v :=
      s.voter_askVoter_ne _ _ _ _ (fun hvu => hu (hvu ▸ h))
    have htb := s.tb_askVoter sv term ok grant u
    refine ⟨fun v hv => ?_, fun v hv => ?_, ?_⟩
    · rcases List.mem_cons.mp hv with rfl | hv
      · exact (hout v hu).trans (s.voter_askVoter_same _ _ _ _ v)
      · exact (hin v hv).trans (State.answered_of_same ok grant (hother hv) htb)
    · rw [List.mem_cons, not_or] at hv
      exact (hout v hv.2).trans (s.voter_askVoter_ne _ _ _ _ hv.1)
    · have hmap : l.map (fun v => Out.voteReply v sv term ((s.askVoter sv term ok grant u).grants ok v))
          = l.map (fun v => Out.voteReply v sv term (s.grants ok v)) :=
        List.map_congr_left fun v hv => by rw [State.grants_of_same ok (hother hv) htb]
      rw [List.foldl_cons, houts, hmap, s.outs_askVoter, List.append_assoc]
      rfl

theorem State.nodup_votersOf (d : Nat) : (s.votersOf d).Nodup := List.Nodup.filter _ List.nodup_range

theorem State.voter_askVoters {v : Nat} (h : v ∈ s.votersOf (dSup sv)) :
    (s.askVoters sv term ok grant).voter v = s.answered ok grant v :=
  (s.foldl_askVoter (s.nodup_votersOf _)).1 v h

theorem State.voter_askVoters_unreached {v : Nat} (h : v ∉ s.votersOf (dSup sv)) : (s.askVoters sv term ok grant).voter v = s.voter v :=
  (s.foldl_askVoter (s.nodup_votersOf _)).2.1 v h

theorem State.outs_askVoters :
    (s.askVoters sv term ok grant).outs
      = s.outs ++ (s.votersOf (dSup sv)).map (fun v => .voteReply v sv term (s.grants ok v)) :=
  (s.foldl_askVoter (s.nodup_votersOf _)).2.2

/-- A request changes votes, and nothing else of leadership and supervision. -/
theorem State.sup_askVoters : ∃ vs, (s.askVoters sv term ok grant).sup = { s.sup with voters := vs } := by
  refine List.foldlRecOn (motive := fun t : State => ∃ vs, t.sup = { s.sup with voters := vs }) _ _ ⟨s.sup.voters, rfl⟩ ?_
  intro t ht v _
  obtain ⟨vs, hvs⟩ := ht
  obtain ⟨ws, hws⟩ := t.sup_askVoter sv term ok grant v
  exact ⟨ws, by rw [hws, hvs]⟩

/-- A request, with its count where a majority refuses it. -/
def State.requested (sv term : Nat) (ok : Voter → Nat → Bool) (grant : Voter → Nat → Voter) : State :=
  (s.askVoters sv term ok grant).countRefused (s.votersOf (dSup sv)).length (s.granters sv ok).length

theorem State.requested_asked : Touches 0x8 (s.askVoters sv term ok grant) (s.requested sv term ok grant) :=
  State.countRefused_touches _ _ _

theorem State.requested_touches : Touches 0x4000108 s (s.requested sv term ok grant) :=
  s.requested_asked.step (by decide) ((s.askVoters_touches _ _ _ _).mono (by decide))

theorem State.sup_requested : ∃ vs, (s.requested sv term ok grant).sup = { s.sup with voters := vs } := by
  rw [s.requested_asked.same 8 rfl]
  exact s.sup_askVoters

theorem State.voter_requested {v : Nat} (h : v ∈ s.votersOf (dSup sv)) :
    (s.requested sv term ok grant).voter v = s.answered ok grant v := by
  rw [State.voter_of_voters (congrArg SupSt.voters (s.requested_asked.same 8 rfl)), s.voter_askVoters h]

theorem State.voter_requested_unreached {v : Nat} (h : v ∉ s.votersOf (dSup sv)) :
    (s.requested sv term ok grant).voter v = s.voter v := by
  rw [State.voter_of_voters (congrArg SupSt.voters (s.requested_asked.same 8 rfl)), s.voter_askVoters_unreached h]

theorem State.outs_requested :
    (s.requested sv term ok grant).outs
      = s.outs ++ (s.votersOf (dSup sv)).map (fun v => .voteReply v sv term (s.grants ok v)) := by
  rw [s.requested_asked.same 26 rfl, s.outs_askVoters]

theorem State.keepsRegs_requested : s.keepsRegs (s.requested sv term ok grant) [R.svLeaseLog] := by
  refine State.keepsRegs.trans ((s.askVoters_touches sv term ok grant).keepsRegs rfl _) ?_
  unfold State.requested State.countRefused
  split
  · exact State.keepsRegs_setFld _ _ _ _
  · exact State.keepsRegs_refl _ _

end

/-! ## STATE of a supervisor (R370) -/

section
variable (s : State)

theorem glbSvStat_inj {v u : Nat} (h : u ≠ v) : R.glbSvStat u ≠ R.glbSvStat v := by
  simp only [R.glbSvStat]
  omega

/-- A supervisor that led is READY. -/
def State.demoted (v : Nat) : State := if s.svState v = 4 then s.setSvState v 3 else s

theorem State.svState_setSvState_same (v : Nat) {n : Nat} (h : n < 2 ^ F.GlbSvStat.state.wid) : (s.setSvState v n).svState v = n :=
  s.fld_setFld_fit _ _ _ rfl h

theorem State.svState_setSvState_ne {v u : Nat} (n : Nat) (h : u ≠ v) : (s.setSvState v n).svState u = s.svState u :=
  State.fld_of_rd (s.rd_setFld_ne _ _ _ _ (glbSvStat_inj h)) _

theorem State.svState_demoted_of_leader {v : Nat} (h : s.svState v = 4) : (s.demoted v).svState v = 3 := by
  rw [State.demoted, if_pos h]
  exact s.svState_setSvState_same _ (by decide)

theorem State.svState_demoted_same (v : Nat) : (s.demoted v).svState v ≠ 4 := by
  by_cases h : s.svState v = 4
  · rw [s.svState_demoted_of_leader h]
    decide
  · rw [State.demoted, if_neg h]
    exact h

theorem State.svState_demoted_ne {v u : Nat} (h : u ≠ v) : (s.demoted v).svState u = s.svState u := by
  unfold State.demoted
  split
  · exact s.svState_setSvState_ne 3 h
  · rfl

theorem State.demoted_touches (v : Nat) : Touches 0x8 s (s.demoted v) := by
  unfold State.demoted
  split
  · exact s.setSvState_touches _ _
  · exact Touches.refl _ _

theorem State.keepsRegs_demoted (v : Nat) : s.keepsRegs (s.demoted v) [R.glbSvStat v] := by
  unfold State.demoted
  split
  · exact s.keepsRegs_setFld _ _ _
  · exact s.keepsRegs_refl _

theorem State.takeLead_eq (v : Nat) : s.takeLead v = (s.demoted (1 - v)).setSvState v 4 := rfl

theorem State.svState_takeLead_same (v : Nat) : (s.takeLead v).svState v = 4 :=
  State.svState_setSvState_same _ _ (by decide)

theorem State.svState_takeLead_other (v : Nat) (hv : v < 2) : (s.takeLead v).svState (1 - v) ≠ 4 := by
  rw [State.takeLead_eq, State.svState_setSvState_ne _ _ (by omega)]
  exact s.svState_demoted_same _

theorem glbSvStat_mem {v : Nat} (hv : v < 2) : [R.glbSvStat v] ⊆ [R.glbSvStat 0, R.glbSvStat 1] := by
  rcases v with _ | _ | v
  · simp
  · simp
  · omega

theorem State.keepsRegs_takeLead {v : Nat} (hv : v < 2) : s.keepsRegs (s.takeLead v) [R.glbSvStat 0, R.glbSvStat 1] :=
  ((s.keepsRegs_demoted (1 - v)).mono (glbSvStat_mem (by omega))).trans
    ((State.keepsRegs_setFld _ _ _ _).mono (glbSvStat_mem hv))

end

/-! ## CAMPAIGN (R362, R363) -/

/-- The rule by which a voter grants a CAMPAIGN. -/
def campaignOk (sv term : Nat) (v : Voter) (now : Nat) : Bool :=
  decide (v.promised < term) && (decide (v.expiry + 10000 < now) || decide (v.holder = sv))

section
variable (s : State) (sv term : Nat)

/-- A CAMPAIGN has been answered. -/
def State.campaigning : State := s.requested sv term (campaignOk sv term) (fun _ now => ⟨term, sv, now + leaseTicks⟩)

theorem State.grants_campaign_iff (v : Nat) :
    s.grants (campaignOk sv term) v = true ↔ (s.voter v).promised < term
      ∧ ((s.voter v).expiry + 10000 < s.dieNow (s.voterDie v) ∨ (s.voter v).holder = sv) := by
  simp only [State.grants, campaignOk, Bool.and_eq_true, Bool.or_eq_true, decide_eq_true_eq]

theorem State.answered_campaign (v : Nat) :
    s.answered (campaignOk sv term) (fun _ now => ⟨term, sv, now + leaseTicks⟩) v = campaigned s sv term v := by
  rw [State.answered, campaigned]
  exact if_congr (s.grants_campaign_iff sv term v) rfl rfl

/-- A vote changes exactly when it is granted: a grant raises its term. -/
theorem State.campaigned_ne (v : Nat) : decide (campaigned s sv term v ≠ s.voter v) = s.grants (campaignOk sv term) v := by
  rw [Bool.eq_iff_iff, decide_eq_true_eq, s.grants_campaign_iff, campaigned]
  split
  next h =>
    refine ⟨fun _ => h, fun _ heq => ?_⟩
    have hterm : term = (s.voter v).promised := congrArg Voter.promised heq
    omega
  next h => exact ⟨fun hne => absurd rfl hne, fun h' => absurd h' h⟩

theorem State.granters_campaign :
    s.granters sv (campaignOk sv term) = (s.votersOf (dSup sv)).filter (fun v => decide (campaigned s sv term v ≠ s.voter v)) :=
  List.filter_congr fun v _ => (s.campaigned_ne sv term v).symm

/-- A term that was won, counted, and the one before it that failed. -/
def State.termCounted (failed : Bool) : State :=
  if failed then (s.count R.svLeaseLog F.SvLeaseLog.terms).count R.svLeaseLog F.SvLeaseLog.failovers
  else s.count R.svLeaseLog F.SvLeaseLog.terms

theorem State.termCounted_touches (failed : Bool) : Touches 0x8 s (s.termCounted failed) := by
  unfold State.termCounted
  split
  · exact (State.count_touches _ _ _).step (by decide) (s.count_touches _ _)
  · exact s.count_touches _ _

theorem State.keepsRegs_termCounted (failed : Bool) : s.keepsRegs (s.termCounted failed) [R.svLeaseLog] := by
  unfold State.termCounted
  split
  · exact (s.keepsRegs_setFld _ _ _).trans (State.keepsRegs_setFld _ _ _ _)
  · exact s.keepsRegs_setFld _ _ _

/-- The boundary of the notices is named, and no back-off runs. -/
def State.noticesNamed : State :=
  s.withSup (fun u => { u with adoptTurn := s.noticeTurn, backoff := u.backoff.set (fun _ => none) sv none })

/-- A supervisor that two votes have elected. -/
def State.elected : State :=
  (((s.campaigning sv term).termCounted ((List.range 3).any (fun v => decide ((s.voter v).promised ≠ 0)) && s.leader.isNone)).noticesNamed
    sv).takeLead sv

/-- The tick at which the back-off of a CAMPAIGN that fails ends. -/
def State.backoffTick : Nat := (s.campaigning sv term).tb.tick + 20000 + (s.campaigning sv term).free.1.toNat % 30001

/-- A supervisor that backs off. -/
def State.backedOff : State :=
  ((s.campaigning sv term).free.2).withSup (fun u => { u with
    backoff := u.backoff.set (fun _ => none) sv (some (s.backoffTick sv term)) })

theorem State.campaign_eq :
    s.campaign sv term
      = if 2 ≤ (s.granters sv (campaignOk sv term)).length then (s.elected sv term).startLeased else s.backedOff sv term := by
  unfold State.elected State.termCounted
  rfl

theorem State.campaigning_touches : Touches 0x4000108 s (s.campaigning sv term) := s.requested_touches

theorem State.sup_campaigning : ∃ vs, (s.campaigning sv term).sup = { s.sup with voters := vs } := s.sup_requested

theorem State.elected_touches : Touches 0x4000108 s (s.elected sv term) :=
  (State.takeLead_touches _ _).step (by decide) ((State.withSup_touches _ _).step (by decide)
    ((State.termCounted_touches _ _).step (by decide) (s.campaigning_touches sv term)))

theorem State.backedOff_touches : Touches 0x6000108 s (s.backedOff sv term) :=
  (State.withSup_touches _ _).step (by decide)
    ((Touches2.snd (State.free_touches _)).step (by decide) ((s.campaigning_touches sv term).mono (by decide)))

/-- What an election leaves of leadership and supervision: the votes, the boundary of the notices and the back-off change. -/
theorem State.sup_elected :
    (s.elected sv term).sup = { (s.campaigning sv term).sup with
      adoptTurn := s.noticeTurn, backoff := s.sup.backoff.set (fun _ => none) sv none } := by
  obtain ⟨vs, hvs⟩ := s.sup_campaigning sv term
  have hcounted (failed : Bool) : ((s.campaigning sv term).termCounted failed).sup = (s.campaigning sv term).sup :=
    (State.termCounted_touches _ failed).same 8 rfl
  have htb (failed : Bool) : ((s.campaigning sv term).termCounted failed).tb = s.tb :=
    ((State.termCounted_touches _ failed).same 2 rfl).trans ((s.campaigning_touches sv term).same 2 rfl)
  have hbackoff : (s.campaigning sv term).sup.backoff = s.sup.backoff := by rw [hvs]
  rw [State.elected, (State.takeLead_touches _ _).same 8 rfl, State.noticesNamed, State.withSup]
  simp only [hcounted, State.noticeTurn_of_tb (htb _), hbackoff]

theorem State.voters_campaign : (s.campaign sv term).sup.voters = (s.campaigning sv term).sup.voters := by
  rw [State.campaign_eq]
  split
  · rw [(State.startLeased_touches _).same 8 rfl, State.sup_elected]
  · rfl

theorem State.keepsRegs_campaigning : s.keepsRegs (s.campaigning sv term) [R.svLeaseLog] := s.keepsRegs_requested

variable {sv} in
theorem State.keepsRegs_elected (hv : sv < 2) : s.keepsRegs (s.elected sv term) [R.svLeaseLog, R.glbSvStat 0, R.glbSvStat 1] := by
  have hnamed (failed : Bool) : s.keepsRegs (((s.campaigning sv term).termCounted failed).noticesNamed sv) [R.svLeaseLog] :=
    ((s.keepsRegs_campaigning sv term).trans (State.keepsRegs_termCounted _ _)).trans (State.keepsRegs_of_regs (State.withSup_regs _ _) _)
  exact State.keepsRegs.trans ((hnamed _).mono (by simp)) ((State.keepsRegs_takeLead _ hv).mono (by simp))

theorem State.keepsRegs_backedOff : s.keepsRegs (s.backedOff sv term) [R.svLeaseLog] :=
  (s.keepsRegs_campaigning sv term).trans (State.keepsRegs_of_regs rfl _)

variable {s sv term}

theorem State.campaign_won (hv : sv < 2) (hstage : s.stage ≠ 5) (hwon : 2 ≤ (s.granters sv (campaignOk sv term)).length) :
    s.campaign sv term = s.elected sv term := by
  have hboot : (s.elected sv term).stage = s.stage := by
    refine State.fld_of_rd (s.keepsRegs_elected term hv _ ?_) _
    decide
  rw [State.campaign_eq, if_pos hwon, State.startLeased, if_pos (by rw [hboot]; exact hstage)]

theorem State.campaign_lost (hlost : (s.granters sv (campaignOk sv term)).length < 2) : s.campaign sv term = s.backedOff sv term := by
  rw [State.campaign_eq, if_neg (by omega)]

end

/-! ## RENEW and RESIGN (R362, R364) -/

/-- The rule by which a voter grants a RENEW or a RESIGN: it holds that term for that supervisor. -/
def holderOk (sv term : Nat) (v : Voter) (_ : Nat) : Bool := decide (v.promised = term) && decide (v.holder = sv)

section
variable (s : State) (sv term : Nat)

theorem State.answered_holder (grant : Voter → Nat → Voter) (v : Nat) :
    s.answered (holderOk sv term) grant v
      = if (s.voter v).promised = term ∧ (s.voter v).holder = sv then grant (s.voter v) (s.dieNow (s.voterDie v)) else s.voter v := by
  rw [State.answered]
  exact if_congr (by simp only [State.grants, holderOk, Bool.and_eq_true, decide_eq_true_eq]) rfl rfl

/-- A renewal as it comes to the fence of die d. -/
def State.renewFence (by_ : List Nat) (d : Nat) : State :=
  if (decide ((s.fence d).term = term) && decide (2 ≤ (by_.filter (fun v => s.reaches d (s.voterDie v))).length)) = true then
    s.setFence d (fun f => { f with expiry := s.tb.tick + leaseTicks })
  else s

theorem State.renewFences_eq (by_ : List Nat) :
    s.renewFences term by_ = (List.range 100).foldl (fun s d => s.renewFence term by_ d) s := rfl

theorem State.renewFence_touches (by_ : List Nat) (d : Nat) : Touches 0x100 s (s.renewFence term by_ d) := by
  unfold State.renewFence
  split
  · exact s.setFence_touches _ _
  · exact Touches.refl _ _

theorem State.sup_renewFence (by_ : List Nat) (d : Nat) : ∃ fs, (s.renewFence term by_ d).sup = { s.sup with fences := fs } := by
  unfold State.renewFence
  split
  · exact ⟨_, rfl⟩
  · exact ⟨s.sup.fences, rfl⟩

theorem State.fence_renewFence_ne (by_ : List Nat) {d e : Nat} (h : e ≠ d) : (s.renewFence term by_ d).fence e = s.fence e := by
  unfold State.renewFence
  split
  · exact s.fence_setFence_ne _ h
  · rfl

/-- A fence of another term keeps what it holds. -/
theorem State.fence_renewFence_other (by_ : List Nat) (d : Nat) {e : Nat} (h : (s.fence e).term ≠ term) :
    (s.renewFence term by_ d).fence e = s.fence e := by
  rcases eq_or_ne e d with rfl | hne
  · rw [State.renewFence, if_neg (by simp [h])]
  · exact s.fence_renewFence_ne term by_ hne

theorem State.fence_renewFences_other (by_ : List Nat) {e : Nat} (h : (s.fence e).term ≠ term) :
    (s.renewFences term by_).fence e = s.fence e := by
  rw [State.renewFences_eq]
  refine List.foldlRecOn (motive := fun t : State => t.fence e = s.fence e) _ _ rfl fun t ht d _ => ?_
  exact (t.fence_renewFence_other term by_ d (by rw [ht]; exact h)).trans ht

/-- A fence of the term that two granting voters reach takes the new expiry, once. -/
theorem State.fence_foldl_renewFence {by_ l : List Nat} (hl : l.Nodup) {d : Nat} (hd : d ∈ l) (hterm : (s.fence d).term = term)
    (hreach : 2 ≤ (by_.filter (fun v => s.reaches d (s.voterDie v))).length) :
    (l.foldl (fun s d => s.renewFence term by_ d) s).fence d = { s.fence d with expiry := s.tb.tick + leaseTicks } := by
  induction l generalizing s with
  | nil => exact absurd hd List.not_mem_nil
  | cons e l ih =>
    obtain ⟨he, hnodup⟩ := List.nodup_cons.mp hl
    rw [List.foldl_cons]
    rcases eq_or_ne d e with rfl | hne
    · have hlater : (l.foldl (fun s d => s.renewFence term by_ d) (s.renewFence term by_ d)).fence d
          = (s.renewFence term by_ d).fence d := by
        refine List.foldlRecOn (motive := fun t : State => t.fence d = (s.renewFence term by_ d).fence d) _ _ rfl fun t ht e' he' => ?_
        exact (t.fence_renewFence_ne term by_ (ne_of_mem_of_not_mem he' he).symm).trans ht
      rw [hlater, State.renewFence, if_pos (by simp [hterm, hreach])]
      exact s.fence_setFence_same _ _
    · have hfence := s.fence_renewFence_ne term by_ hne
      have htouches := s.renewFence_touches term by_ e
      obtain ⟨fs, hfs⟩ := s.sup_renewFence term by_ e
      have hbridge : (s.renewFence term by_ e).sup.vbridge = s.sup.vbridge := by rw [hfs]
      have hseam : (s.renewFence term by_ e).sup.seam = s.sup.seam := by rw [hfs]
      have hreaches (v : Nat) : (s.renewFence term by_ e).reaches d ((s.renewFence term by_ e).voterDie v)
          = s.reaches d (s.voterDie v) := by
        rw [State.voterDie_of_vbridge hbridge, State.reaches_of_same (htouches.same 4 rfl) hseam]
      rw [ih _ hnodup ((List.mem_cons.mp hd).resolve_left hne) (by rw [hfence]; exact hterm) (by simp only [hreaches]; exact hreach),
        hfence, htouches.same 2 rfl]

theorem State.fence_renewFences {by_ : List Nat} {d : Nat} (hd : d < 100) (hterm : (s.fence d).term = term)
    (hreach : 2 ≤ (by_.filter (fun v => s.reaches d (s.voterDie v))).length) :
    (s.renewFences term by_).fence d = { s.fence d with expiry := s.tb.tick + leaseTicks } :=
  s.fence_foldl_renewFence term List.nodup_range (List.mem_range.mpr hd) hterm hreach

theorem State.voters_renewFences (by_ : List Nat) : (s.renewFences term by_).sup.voters = s.sup.voters := by
  rw [State.renewFences_eq]
  refine List.foldlRecOn (motive := fun t : State => t.sup.voters = s.sup.voters) _ _ rfl fun t ht d _ => ?_
  obtain ⟨fs, hfs⟩ := t.sup_renewFence term by_ d
  rw [hfs]
  exact ht

/-- A RENEW has been answered. -/
def State.renewing : State := s.requested sv term (holderOk sv term) (fun v now => { v with expiry := now + leaseTicks })

theorem exec_renew (sv : Sv) :
    exec (.renew sv term) s = .next ((s.renewing sv.val term).renewFences term (s.granters sv.val (holderOk sv.val term))) := rfl

theorem State.renewing_touches : Touches 0x4000108 s (s.renewing sv term) := s.requested_touches

theorem State.sup_renewing : ∃ vs, (s.renewing sv term).sup = { s.sup with voters := vs } := s.sup_requested

theorem State.fence_renewing (d : Nat) : (s.renewing sv term).fence d = s.fence d := by
  obtain ⟨vs, hvs⟩ := s.sup_renewing sv term
  exact State.fence_of_fences (by rw [hvs]) d

theorem State.reaches_renewing (d v : Nat) :
    (s.renewing sv term).reaches d ((s.renewing sv term).voterDie v) = s.reaches d (s.voterDie v) := by
  obtain ⟨vs, hvs⟩ := s.sup_renewing sv term
  have hbridge : (s.renewing sv term).sup.vbridge = s.sup.vbridge := by rw [hvs]
  have hseam : (s.renewing sv term).sup.seam = s.sup.seam := by rw [hvs]
  rw [State.voterDie_of_vbridge hbridge, State.reaches_of_same ((s.renewing_touches sv term).same 4 rfl) hseam]

theorem State.keepsRegs_renewed (by_ : List Nat) : s.keepsRegs ((s.renewing sv term).renewFences term by_) [R.svLeaseLog] :=
  State.keepsRegs.trans s.keepsRegs_requested ((State.renewFences_touches _ _ _).keepsRegs rfl _)

/-- A RESIGN has been answered. -/
def State.resigning : State := s.requested sv term (holderOk sv term) (fun v now => { v with expiry := now })

/-- The fences of the term hold it no longer. -/
def State.fencesEnded : State :=
  (List.range 100).foldl (fun (s : State) d =>
    if (s.fence d).term = term then s.setFence d (fun f => { f with expiry := min f.expiry s.tb.tick }) else s) s

theorem State.fencesEnded_touches : Touches 0x100 s (s.fencesEnded term) := by
  refine Touches.foldl (fun t d => ?_) (Touches.refl _ _)
  split
  · exact t.setFence_touches _ _
  · exact Touches.refl _ _

theorem State.voters_fencesEnded : (s.fencesEnded term).sup.voters = s.sup.voters := by
  unfold State.fencesEnded
  refine List.foldlRecOn (motive := fun t : State => t.sup.voters = s.sup.voters) _ _ rfl fun t ht d _ => ?_
  split
  · exact ht
  · exact ht

theorem State.resign_eq :
    s.resign sv term
      = if 2 ≤ (s.granters sv (holderOk sv term)).length then ((s.resigning sv term).fencesEnded term).demoted sv
        else s.resigning sv term := rfl

theorem State.voters_resign : (s.resign sv term).sup.voters = (s.resigning sv term).sup.voters := by
  rw [State.resign_eq]
  split
  · rw [(State.demoted_touches _ _).same 8 rfl, State.voters_fencesEnded]
  · rfl

theorem State.keepsRegs_resigning : s.keepsRegs (s.resigning sv term) [R.svLeaseLog] := s.keepsRegs_requested

theorem State.keepsRegs_resign : s.keepsRegs (s.resign sv term) [R.svLeaseLog, R.glbSvStat sv] := by
  rw [State.resign_eq]
  split
  · have hended : s.keepsRegs ((s.resigning sv term).fencesEnded term) [R.svLeaseLog] :=
      (s.keepsRegs_resigning sv term).trans ((State.fencesEnded_touches _ _).keepsRegs rfl _)
    exact (hended.mono (by simp)).trans ((State.keepsRegs_demoted _ _).mono (by simp))
  · exact (s.keepsRegs_resigning sv term).mono (by simp)

variable {s sv term} in
theorem State.svState_resign (hv : sv < 2) (hwon : 2 ≤ (s.granters sv (holderOk sv term)).length) (hled : s.svState sv = 4) :
    (s.resign sv term).svState sv = 3 := by
  have hlog : R.glbSvStat sv ∉ [R.svLeaseLog] := by
    simp only [R.glbSvStat, R.svLeaseLog, List.mem_singleton]
    omega
  rw [State.resign_eq, if_pos hwon]
  refine State.svState_demoted_of_leader _ ?_
  rw [State.svState, (State.fencesEnded_touches _ _).fld rfl, State.fld_of_rd (s.keepsRegs_resigning sv term _ hlog)]
  exact hled

end
/-! ## TERM_NOTICE (R362, R364) -/

section
variable (s : State) (d v : Nat)

/-- The fence of die d holds the notice of voter v. -/
def State.noted : State := s.setFence d (fun f => f.note v (s.voter v).promised (s.voter v).expiry s.sup.adoptTurn)

/-- Two notices of the term in force renew the fence. -/
def State.notesCounted : State :=
  if 2 ≤ ((s.fence d).notesOf (s.fence d).term).length then
    s.setFence d (fun f => { f with expiry := notesExpiry ((s.fence d).notesOf (s.fence d).term) })
  else s

/-- The votes that die d holds, own, adopt vote x where voter v has a majority. -/
def State.followed (x : Voter) (own : List Nat) : State :=
  own.foldl (fun (s : State) u => if (decide (2 ≤ (s.backers v).length) && decide ((s.voter u).promised ≤ x.promised)) = true then
    s.setVoter u (fun _ => x) else s) s

theorem State.term_notesCounted : ((s.notesCounted d).fence d).term = (s.fence d).term := by
  unfold State.notesCounted
  split
  · rw [State.fence_setFence_same]
  · rfl

theorem State.notices_notesCounted : ((s.notesCounted d).fence d).notices = (s.fence d).notices := by
  unfold State.notesCounted
  split
  · rw [State.fence_setFence_same]
  · rfl

theorem State.notesCounted_touches : Touches 0x100 s (s.notesCounted d) := by
  unfold State.notesCounted
  split
  · exact s.setFence_touches _ _
  · exact Touches.refl _ _

theorem State.followed_touches (x : Voter) (own : List Nat) : Touches 0x100 s (s.followed v x own) := by
  refine Touches.foldl (fun t u => ?_) (Touches.refl _ _)
  split
  · exact t.setVoter_touches _ _
  · exact Touches.refl _ _

/-- Votes are not fences. -/
theorem State.fence_followed (x : Voter) (own : List Nat) : (s.followed v x own).fence d = s.fence d := by
  unfold State.followed
  refine List.foldlRecOn (motive := fun t : State => t.fence d = s.fence d) _ _ rfl fun t ht u _ => ?_
  split
  · exact ht
  · exact ht

theorem State.fence_noted : (s.noted d v).fence d = (s.fence d).note v (s.voter v).promised (s.voter v).expiry s.sup.adoptTurn :=
  s.fence_setFence_same _ _

variable {s}

theorem exec_termNotice_unheard {d : Die} {v : Fin 3} (h : (s.voter v.val).promised = 0 ∨ s.reaches (s.voterDie v.val) d.val = false) :
    exec (.termNotice d v) s = .next s := by
  change execTermNotice d v s = _
  exact if_pos (by simpa using h)

theorem exec_termNotice_kept {d : Die} {v : Fin 3} (hterm : (s.fence d.val).term < (s.voter v.val).promised)
    (hreach : s.reaches (s.voterDie v.val) d.val = true) :
    ∃ own, exec (.termNotice d v) s = .next (((s.noted d.val v.val).notesCounted d.val).followed v.val (s.voter v.val) own) := by
  have hheard : ¬ ((decide ((s.voter v.val).promised = 0) || !s.reaches (s.voterDie v.val) d.val) = true) := by
    simp only [hreach, Bool.not_true, Bool.or_false, decide_eq_true_eq]
    omega
  change ∃ own, execTermNotice d v s = _
  rw [execTermNotice, if_neg hheard, if_neg (by omega)]
  exact ⟨_, rfl⟩

end

/-! ## The lease runs out (R363, R370) -/

section
variable {s : State}

theorem exec_leaseExpiry_of_leader (h : s.leader.isSome = true) : exec .leaseExpiry s = .next s := if_pos h

theorem exec_leaseExpiry (h : s.leader = none) : exec .leaseExpiry s = .next ((s.demoted 0).demoted 1) := by
  change execLeaseExpiry s = _
  rw [execLeaseExpiry, if_neg (by simp [h])]
  rfl

/-- No back-off of supervisor sv runs. -/
def State.backoffEnded (s : State) (sv : Nat) : State := s.withSup (fun u => { u with backoff := u.backoff.set (fun _ => none) sv none })

theorem State.leader_backoffEnded (sv : Nat) : (s.backoffEnded sv).leader = s.leader := State.leader_of_same rfl rfl

variable {sv : Sv}

theorem exec_campaignBackoffExpiry_idle (h : s.sup.backoff.get (fun _ => none) sv.val = none) :
    exec (.campaignBackoffExpiry sv) s = .next s := by
  change execCampaignBackoffExpiry sv s = _
  simp only [execCampaignBackoffExpiry, h]

theorem exec_campaignBackoffExpiry {b : Nat} (h : s.sup.backoff.get (fun _ => none) sv.val = some b) :
    exec (.campaignBackoffExpiry sv) s
      = if s.leader.isSome = true then .next (s.backoffEnded sv.val)
        else .next ((s.backoffEnded sv.val).campaign sv.val
          (1 + ((s.backoffEnded sv.val).votersOf (dSup sv.val)).foldl (fun m u => max m ((s.backoffEnded sv.val).voter u).promised) 0)) := by
  rw [← State.leader_backoffEnded sv.val]
  change execCampaignBackoffExpiry sv s = _
  rw [execCampaignBackoffExpiry, h]
  rfl

theorem State.votersOf_backoffEnded (s : State) (sv d : Nat) : (s.backoffEnded sv).votersOf d = s.votersOf d := rfl

end

section
variable (sv : Sv) (term : Nat) (s : State)

theorem State.voter_campaign_reached {v : Nat} (h : v ∈ s.votersOf (dSup sv.val)) :
    (s.campaign sv.val term).voter v = campaigned s sv.val term v := by
  rw [State.voter_of_voters (s.voters_campaign sv.val term), State.campaigning, s.voter_requested h, s.answered_campaign]

theorem State.voter_campaign_unreached {v : Nat} (h : v ∉ s.votersOf (dSup sv.val)) : (s.campaign sv.val term).voter v = s.voter v := by
  rw [State.voter_of_voters (s.voters_campaign sv.val term), State.campaigning, s.voter_requested_unreached h]

theorem State.outs_elected :
    (s.elected sv.val term).outs
      = s.outs ++ (s.votersOf (dSup sv.val)).map (fun v =>
        .voteReply v sv.val term (decide (campaigned s sv.val term v ≠ s.voter v))) := by
  have houts : (s.elected sv.val term).outs = (s.campaigning sv.val term).outs :=
    ((State.takeLead_touches _ _).same 26 rfl).trans ((State.termCounted_touches _ _).same 26 rfl)
  simp only [houts, State.campaigning, s.outs_requested, s.campaigned_ne]

theorem State.fences_campaigning (sv : Nat) : (s.campaigning sv term).sup.fences = s.sup.fences := by
  obtain ⟨vs, hvs⟩ := s.sup_campaigning sv term
  rw [hvs]

/-- The back-off lasts 20 to 50 µs (R363). -/
theorem State.backoff_backedOff (sv : Nat) :
    ∃ b, (s.backedOff sv term).sup.backoff.get (fun _ => none) sv = some b ∧ s.tb.tick + 20000 ≤ b ∧ b ≤ s.tb.tick + 50000 := by
  have htick : s.backoffTick sv term = s.tb.tick + 20000 + (s.campaigning sv term).free.1.toNat % 30001 := by
    rw [State.backoffTick, (s.campaigning_touches sv term).same 2 rfl]
  exact ⟨s.backoffTick sv term, Tbl.get_set_same (fun _ => none) _ sv (some _), by omega, by omega⟩

end

/-- Settles O59: the voters' answers, and for each request what it leaves of the fences, the registers and the supervisors' STATE. -/
theorem leases : Obligations.Leases := by
  refine ⟨?_, ?_, ?_, ?_, ?_, ?_, ?_, ?_, ?_, ?_, ?_, ?_⟩
  · intro sv term s
    exact ⟨_, rfl, fun v hv => s.voter_campaign_reached sv term hv, fun v hv => s.voter_campaign_unreached sv term hv⟩
  · intro sv term s hstage hwon
    rw [← s.granters_campaign] at hwon
    have hsup := s.sup_elected sv.val term
    refine ⟨_, congrArg Host.Outcome.next (State.campaign_won sv.isLt hstage hwon), State.svState_takeLead_same _ _,
      State.svState_takeLead_other _ _ sv.isLt, by rw [hsup], ?_, s.outs_elected sv term, ?_, s.keepsRegs_elected term sv.isLt,
      (s.elected_touches _ _).keeps (Piece.testBit_of_outside rfl)⟩
    · rw [hsup]
      exact Tbl.get_set_same (fun _ => none) s.sup.backoff sv.val none
    · rw [hsup]
      exact s.fences_campaigning term sv.val
  · intro sv term s hlost
    rw [← s.granters_campaign] at hlost
    exact ⟨_, congrArg Host.Outcome.next (State.campaign_lost hlost), s.backoff_backedOff term sv.val, s.fences_campaigning term sv.val,
      s.keepsRegs_backedOff _ _, (s.backedOff_touches _ _).keeps (Piece.testBit_of_outside rfl)⟩
  · intro sv term s
    have hvoters := State.voter_of_voters ((s.renewing sv.val term).voters_renewFences term (s.granters sv.val (holderOk sv.val term)))
    refine ⟨_, exec_renew s term sv, fun v hv => ?_, fun v hv => ?_, fun d _ hterm => ?_, fun d hd hterm hreach => ?_,
      s.keepsRegs_renewed _ _ _⟩
    · rw [hvoters, State.renewing, s.voter_requested hv, s.answered_holder]
      rfl
    · rw [hvoters, State.renewing, s.voter_requested_unreached hv]
    · rw [State.fence_renewFences_other _ _ _ (by rw [s.fence_renewing]; exact hterm), s.fence_renewing]
    · rw [State.fence_renewFences _ _ hd (by rw [s.fence_renewing]; exact hterm) (by simp only [s.reaches_renewing]; exact hreach),
        s.fence_renewing, (s.renewing_touches _ _).same 2 rfl]
      rfl
  · intro sv term s
    have hvoters := State.voter_of_voters (s.voters_resign sv.val term)
    refine ⟨_, rfl, fun v hv => ?_, fun v hv => ?_, fun hwon hled => State.svState_resign sv.isLt hwon hled, s.keepsRegs_resign _ _⟩
    · rw [hvoters, State.resigning, s.voter_requested hv, s.answered_holder]
    · rw [hvoters, State.resigning, s.voter_requested_unreached hv]
  · intro d v s h
    exact exec_termNotice_unheard h
  · intro d v s hterm hreach
    obtain ⟨own, hexec⟩ := exec_termNotice_kept hterm hreach
    refine ⟨_, hexec, ?_, ?_, ?_⟩
    · rw [State.fence_followed, State.term_notesCounted, State.fence_noted]
      rfl
    · rw [State.fence_followed, State.notices_notesCounted, State.fence_noted]
      exact List.mem_cons_self
    · exact ((State.followed_touches _ _ _ _).step (by decide)
        ((State.notesCounted_touches _ _).step (by decide) (s.setFence_touches _ _))).keeps (Piece.testBit_of_outside rfl)
  · intro s h
    exact exec_leaseExpiry_of_leader h
  · intro s h
    refine ⟨_, exec_leaseExpiry h, ?_, State.svState_demoted_same _ 1, ?_, ?_⟩
    · rw [State.svState_demoted_ne _ (by decide)]
      exact s.svState_demoted_same 0
    · exact ((s.keepsRegs_demoted 0).mono (by simp)).trans ((State.keepsRegs_demoted _ 1).mono (by simp))
    · exact ((State.demoted_touches _ 1).step (by decide) (s.demoted_touches 0)).keeps (Piece.testBit_of_outside rfl)
  · intro sv s h
    exact exec_campaignBackoffExpiry_idle h
  · intro sv b s h hled
    rw [exec_campaignBackoffExpiry h, if_neg (by simp [hled]), State.votersOf_backoffEnded]
    rfl
  · intro sv b s h hled
    exact ⟨s.backoffEnded sv.val, (exec_campaignBackoffExpiry h).trans (if_pos hled), rfl,
      (s.withSup_touches _).keeps (Piece.testBit_of_outside rfl)⟩

end Sys2Proof.Machine
end
